-- ==== Sys2Proof/Word.lean ====
section
/-! DEFINITION. Bytes, words and the plain data the commands carry: instants, frames of the ring and of a field bus, and the sparse tables every chapter keeps its numbered things in. -/

namespace Sys2Proof

/-- A byte of the host window, of an image or of a frame. -/
abbrev Byte := BitVec 8

/-- A 32-bit word: a window access (R34) or a value word of the control engine (R235). -/
abbrev Word := BitVec 32

/-- A cycle number and an angle in turn units (R9, R10). -/
structure Instant where
  cycle : Nat := 0
  angle : Nat := 0
deriving DecidableEq, Repr

/-- Turn units in one rod (R9). -/
abbrev rodTu : Nat := 65536

/-- Instants on one axis of turn units, to compare and to add to. -/
def Instant.tu (i : Instant) : Nat := i.cycle * rodTu + i.angle

/-- The instant that lies a number of turn units after angle 0 of cycle 0. -/
def Instant.ofTu (t : Nat) : Instant := ⟨t / rodTu, t % rodTu⟩

/-- The instant that lies `d` turn units later. -/
def Instant.add (i : Instant) (d : Nat) : Instant := Instant.ofTu (i.tu + d)

/-- Earlier or the same. -/
def Instant.le (a b : Instant) : Bool := decide (a.tu ≤ b.tu)

/-- An Ethernet frame as a port takes it in (R339) or a queue holds it (R345). Addresses are 48-bit numbers, most significant byte first. -/
structure EthFrame where
  /-- destination address -/
  dst : Nat := 0
  /-- source address -/
  src : Nat := 0
  /-- the VLAN identifier and the priority code point of its 802.1Q tag, if it has one (R351) -/
  vlan : Option (Nat × Nat) := none
  /-- the sequence number of its HSR tag, if it has one (R346) -/
  hsr : Option Nat := none
  /-- EtherType after the tags -/
  etherType : Nat := 0
  /-- the bytes after the EtherType: for 0x88B5 the subtype byte and the body (R362) -/
  body : List Byte := []
  /-- its length from destination address to FCS, in bytes (R339) -/
  length : Nat := 64
deriving DecidableEq, Repr

/-- A CAN frame (R375, R403). -/
structure CanFrame where
  ident : Nat := 0
  extended : Bool := false
  fd : Bool := false
  brs : Bool := false
  data : List Byte := []
deriving DecidableEq, Repr

/-- What the spare engine, listening in silence, made of a frame that the channel's engine also saw (R391). -/
inductive SpareView where
  /-- the two agree, or the spare does not listen to this channel -/
  | agree
  /-- the spare reports an error where the channel's engine reports a valid frame -/
  | spareError
  /-- the channel's engine reports an error where the spare reports a valid frame -/
  | engineError
  /-- both report a valid frame, and the frames differ -/
  | differ
deriving DecidableEq, Repr

/-- One pair of metering readings as the two modulators of a phase give them (R531): 24-bit voltage code, current code as the interpolation by ct_shift gives it (log 36), and whether each reached full scale. -/
structure MeterPair where
  v : Int := 0
  i : Int := 0
  vClip : Bool := false
  iClip : Bool := false
  /-- the spares' readings of the position they shadow, when it is one of this phase's -/
  spares : List Int := []
deriving DecidableEq, Repr

/-- A table of numbered things in canonical form: keys strictly rising, and no entry equal to what an unlisted key reads as. -/
abbrev FMap (α : Type) := List (Nat × α)

end Sys2Proof
end

