-- ==== Sys2Proof/Syntax.lean ====
section
/-! DEFINITION. The commands of the block: one constructor per row of spec/opcode_table.json. -/

namespace Sys2Proof

/-- What a transaction of the host port opens with (R33): its instruction byte and its 24-bit address. -/
structure HostHead where
  instruction : Nat
  addr : Nat
  deriving DecidableEq, Repr

/-- One row of the table each. A mailbox verb names the mailbox whose oldest waiting request it executes (R47); every other row carries what the outside world supplies to the happening. -/
inductive Instr where
  /-- HOST_WINDOW_WRITE, R36: A host write to a request area, the bulk window or a HIF_ register that has no row of its own, such as HIF_IRQ_MASK; unaligned or partial accesses are discarded whole. -/
  | hostWindowWrite (head : HostHead) (bytes : List Byte)
  /-- DOORBELL_RING, R44: Writing 1 to a bit of HIF_DOORBELL submits the mailbox's request if FREE is set, copying header and payload and clearing FREE. -/
  | doorbellRing (bits : Word)
  /-- RESPONSE_RELEASE, R49: Writing 1 to a HIF_RESP_READY bit releases the response area, so the next waiting response or notification may be placed. -/
  | responseRelease (bits : Word)
  /-- DOORBELL_LOST_CLEAR, R39: Writing 1 to a HIF_DOORBELL_LOST bit clears it. -/
  | doorbellLostClear (bits : Word)
  /-- IRQ_CAUSE_CLEAR, R40: Writing 1 to a W1C bit of HIF_IRQ_CAUSE clears that interrupt cause. -/
  | irqCauseClear (bits : Word)
  /-- MAILBOX_REQUEST_FRAME, R365: A mailbox request frame addressed to this chip is accepted, checked for replay under R62 and submitted to its mailbox. -/
  | mailboxRequestFrame
  /-- MAILBOX_BINDING_EXPIRY, R61: A mailbox 1 to 14 with no outstanding request for 10 s is unbound from its requester. -/
  | mailboxBindingExpiry (mbx : Nat)
  /-- REQUESTER_EXPIRY, R366: A network requester idle for 60 s with no session, bound mailbox or deferred command is freed. -/
  | requesterExpiry (mac : Nat)
  /-- SESSION_IDLE_TIMEOUT, R67: A session closes after 300 s without a request, raising SYS.SESSION_CLOSED with cause 2. -/
  | sessionIdleTimeout (handle : Nat)
  /-- SESSION_EXPIRY, R681: A session closes at its token's not_after or, if opened while OSF was set, 3,600 s after opening. -/
  | sessionExpiry (handle : Nat)
  /-- BULK_CLAIM_LAPSE, R59: A bulk claim lapses 30 s after its last bulk command, emptying or keeping the target as the table of R59 states. -/
  | bulkClaimLapse
  /-- BULK_COPY_COMPLETE, R58: A bulk commit finishes copying out of the bulk window; NEXT_OFFSET advances and BULK_DONE is set. -/
  | bulkCopyComplete
  /-- TOKEN_BUFFER_TIMEOUT, R680: A token staging buffer is freed 10 s after its last part. -/
  | tokenBufferTimeout (buffer : Nat)
  /-- SYS.IDENTIFY, R76: Returns part, stepping, mode, node UID and firmware versions. -/
  | sysIdentify (mbx : Nat)
  /-- SYS.PING, R76: Returns the cycle, angle and mode. -/
  | sysPing (mbx : Nat)
  /-- SYS.STATUS, R76: Returns mode, supervisor state, sessions, deferred commands and queue figures. -/
  | sysStatus (mbx : Nat)
  /-- SYS.OUTAGE_READ, R77: Returns the out-of-service counts for one of the last 32 calendar years. -/
  | sysOutageRead (mbx : Nat)
  /-- SYS.SUBSCRIBE, R55: Selects per session the classes whose events are sent as notifications. -/
  | sysSubscribe (mbx : Nat)
  /-- SYS.BULK_CLAIM, R57: Claims the bulk window for one mailbox and a named target. -/
  | sysBulkClaim (mbx : Nat)
  /-- SYS.BULK_RELEASE, R59: Releases the bulk claim. -/
  | sysBulkRelease (mbx : Nat)
  /-- SYS.BULK_WRITE, R79: Writes data into the bulk window at the given window offset. -/
  | sysBulkWrite (mbx : Nat)
  /-- SYS.BULK_COMMIT, R58: Copies the bulk window into the claimed target at the image offset, which must equal NEXT_OFFSET. -/
  | sysBulkCommit (mbx : Nat)
  /-- SYS.FW_ACTIVATE, R80: Starts deferred verification of the inactive firmware slot and stages the firmware change. -/
  | sysFwActivate (mbx : Nat)
  /-- FW_VERIFICATION_COMPLETE, R80: Verification of the inactive firmware slot ends; on success the change is staged for the next rod boundary, otherwise the completion carries the failure. -/
  | fwVerificationComplete
  /-- SYS.WARM_RESTART, R81: Answers first, then schedules a warm restart at the second rod boundary after the response. -/
  | sysWarmRestart (mbx : Nat)
  /-- SYS.DEFERRED_STATUS, R56: Reports the state and final status of a deferred command of the session by tag. -/
  | sysDeferredStatus (mbx : Nat)
  /-- SYS.MBX_STATS, R76: Returns per-mailbox request, BUSY and doorbell-lost counts. -/
  | sysMbxStats (mbx : Nat)
  /-- CFG.INFO, R106: Returns slot, version, swath stack and rollback counter information. -/
  | cfgInfo (mbx : Nat)
  /-- CFG.VALIDATE, R89: Starts deferred validation of the inactive configuration slot. -/
  | cfgValidate (mbx : Nat)
  /-- CFG.ACTIVATE, R103: Starts deferred validation of the inactive slot and makes it active at a boundary or through a boot ROM restart. -/
  | cfgActivate (mbx : Nat)
  /-- CONFIG_VALIDATION_COMPLETE, R89: Validation of a configuration image ends, accepting or refusing it whole and completing the deferred command. -/
  | configValidationComplete
  /-- CFG.REPORT, R107: Reports the last finished validation. -/
  | cfgReport (mbx : Nat)
  /-- CFG.READ, R107: Returns part of a record's value from the base or in force. -/
  | cfgRead (mbx : Nat)
  /-- CFG.SWATH_LOAD, R108: Loads a swath from bulk target 3 after the swath checks. -/
  | cfgSwathLoad (mbx : Nat)
  /-- CFG.SWATH_SET, R109: Stages setting a defined swath on its level for the boundary of R97. -/
  | cfgSwathSet (mbx : Nat)
  /-- CFG.SWATH_CLEAR, R109: Stages clearing a swath stack level for the boundary of R97. -/
  | cfgSwathClear (mbx : Nat)
  /-- CFG.SWATH_READ, R106: Returns a swath's header. -/
  | cfgSwathRead (mbx : Nat)
  /-- CFG.SWATH_DELETE, R108: Deletes a loaded swath that is not in the stack. -/
  | cfgSwathDelete (mbx : Nat)
  /-- ROD_BOUNDARY, R19: At angle 0 of every rod the boundary sequence runs: commons view swap, swath changes, firmware change, account close and abacus start. -/
  | rodBoundary (ticks vrefMv bandgapMv : Nat)
  /-- FIRMWARE_PAUSE_END, R80: The new firmware resumes after the pause, SUP_PAUSE clears, queued requests are answered and SYS.FW_ACTIVATED is recorded. -/
  | firmwarePauseEnd
  /-- WARM_RESTART_END, R81: Harlopor completes a warm restart, sets FREE bits 1 to 14 and serves mailboxes again. -/
  | warmRestartEnd
  /-- ZERO_CROSSING, R111: A rising zero crossing on a VSENSE input is timestamped and qualified, and feeds the tracking loop and timebase states. -/
  | zeroCrossing (phase stamp16 intervalNs peakMv : Nat)
  /-- REFERENCE_CROSSING_MISSING, R120: No valid reference crossing has arrived by offset + 32,768 of a rod, so it counts as missing. -/
  | referenceCrossingMissing
  /-- FLYWHEEL_TIMEOUT, R118: 250 cycles after the last valid crossing the timebase leaves FLYWHEEL for NOMINAL. -/
  | flywheelTimeout
  /-- ACQUIRE_TIMEOUT, R118: 32 nominal periods in ACQUIRE without locking lead to NOMINAL. -/
  | acquireTimeout
  /-- CYCLE_MARK_SEND, R131: An eligible chip sends its cycle mark at angle 8,192, with the grandmaster's Sync and the PTP cross-check. -/
  | cycleMarkSend
  /-- CYCLE_MARK, R134: A received cycle mark is compared with this chip's count and angle, driving steps, master following and site mismatch. -/
  | cycleMark
  /-- MASTER_ELECTION, R132: A candidate that has heard no lower-UID candidate for 8 rods becomes master. -/
  | masterElection
  /-- COUNT_SEED, R133: An eligible chip that has heard no lower-UID mark for 32 rods seeds its count from the real-time clock. -/
  | countSeed
  /-- PHASE.READ, R140: Returns cycle, angle, state, flags, frequency and master. -/
  | phaseRead (mbx : Nat)
  /-- PHASE.INPUTS, R139: Returns per-phase presence, relative angle, peak and frequency. -/
  | phaseInputs (mbx : Nat)
  /-- PHASE.SITE, R139: Returns the master and the candidates heard. -/
  | phaseSite (mbx : Nat)
  /-- PHASE.MEASURE_OFFSET, R141: Starts deferred averaging of d over 256 usable rods. -/
  | phaseMeasureOffset (mbx : Nat)
  /-- MEASURE_OFFSET_COMPLETE, R141: The offset measurement finishes with the mean d and suggested offset, or NOT_READY. -/
  | measureOffsetComplete
  /-- BEAD_FIRE, R159: An admitted occurrence reaches its angle and the abacus dispatches its action in the order of R160. -/
  | beadFire (bead actual : Nat)
  /-- PULSE_RETURN, R161: A pulse's width ends and the output returns to the base level. -/
  | pulseReturn (output : Nat)
  /-- PROVISIONAL_CHECK, R158: 256 tu before a provisional occurrence its carry entry is checked: settled fires, open slides, dropped is skipped. -/
  | provisionalCheck (bead : Nat)
  /-- CALENDAR_ARM, R153: Harlopor arms a calendar occurrence on a rod when its instant lies 256 to 512 rods ahead or it enters the table nearer. -/
  | calendarArm (bead : Nat)
  /-- MAIN_PASS, R209: At angle 61,440 the reckoner admits, provisionally admits, slides or drops the next rod's occurrences. -/
  | mainPass
  /-- BEAD.PLACE, R173: Places a bead record in a slot after the checks of R173. -/
  | beadPlace (mbx : Nat)
  /-- BEAD.REMOVE, R174: Removes a placed bead at the boundary of R165. -/
  | beadRemove (mbx : Nat)
  /-- BEAD.ENABLE, R167: Changes a bead's ENABLE bit at the boundary of R165. -/
  | beadEnable (mbx : Nat)
  /-- BEAD.READ, R172: Returns a bead's origin, state and record. -/
  | beadRead (mbx : Nat)
  /-- BEAD.ROD, R174: Returns a page of the current or next rod list. -/
  | beadRod (mbx : Nat)
  /-- BEAD.STATS, R172: Returns the bead counters. -/
  | beadStats (mbx : Nat)
  /-- BEAD.CAPACITY, R172: Returns bead table occupancy and worst rod and angle. -/
  | beadCapacity (mbx : Nat)
  /-- CHAIN_HORIZON, R185: A chain's horizon passes with an INPUT root still open, dropping it with cause 1. -/
  | chainHorizon (chain : Nat)
  /-- RECOMPUTATION, R188: An out-of-tolerance root's sample and later chain entries are rerun ahead of other samples, then settle or stay held. -/
  | recomputation (entry : Nat)
  /-- CARRY.INFO, R201: Returns carry occupancy and settings. -/
  | carryInfo (mbx : Nat)
  /-- CARRY.LIST, R201: Returns the map of non-free entries. -/
  | carryList (mbx : Nat)
  /-- CARRY.READ, R202: Returns one carry entry and its provisional output. -/
  | carryRead (mbx : Nat)
  /-- CARRY.CHAIN, R202: Returns the chain of an entry. -/
  | carryChain (mbx : Nat)
  /-- CARRY.STATS, R197: Returns the carry counters. -/
  | carryStats (mbx : Nat)
  /-- CARRY.STATS_CLEAR, R197: Clears the carry counters. -/
  | carryStatsClear (mbx : Nat)
  /-- CARRY.DROP, R202: Drops the whole chain of an entry with cause 7. -/
  | carryDrop (mbx : Nat)
  /-- LEASE_CONFIRM_DEADLINE, R218: A pending lease reaches its confirm_by boundary unconfirmed and is refused, dropping its roots. -/
  | leaseConfirmDeadline
  /-- OFFER_PUBLISH, R220: A lending chip writes its offer point at angle 32,768. -/
  | offerPublish
  /-- BORROW_RECEIVED, R223: A lender's reckoner answers a BORROW with GRANT or REFUSE within 2,048 tu. -/
  | borrowReceived
  /-- GRANT_RECEIVED, R224: A GRANT confirms the loan and its LEASE roots become held. -/
  | grantReceived
  /-- REFUSE_RECEIVED, R224: A REFUSE refuses the loan and its roots drop with cause 4. -/
  | refuseReceived
  /-- RETURN_RECEIVED, R225: A RETURN ends a loan from the first rod whose main pass has not closed. -/
  | returnReceived
  /-- BORROW_TIMEOUT, R224: No answer to a BORROW within 4 rods refuses the loan. -/
  | borrowTimeout (loan : Nat)
  /-- LOAN_RENEWAL_CHECK, R225: 256 rods before a borrowed loan expires, the borrower checks and may send a new BORROW. -/
  | loanRenewalCheck (loan : Nat)
  /-- HEAT_FALLBACK, R226: No committed heat-loop output for 16 rods sets H to the fallback and raises RECK.HEAT_FALLBACK. -/
  | heatFallback
  /-- RECK.ACCOUNTS, R233: Returns the reckoner accounts. -/
  | reckAccounts (mbx : Nat)
  /-- RECK.LEASE_SET, R234: Sets a lease into NEXT after its checks. -/
  | reckLeaseSet (mbx : Nat)
  /-- RECK.LEASE_CONFIRM, R218: Confirms a pending lease. -/
  | reckLeaseConfirm (mbx : Nat)
  /-- RECK.LEASE_REFUSE, R218: Refuses a pending lease. -/
  | reckLeaseRefuse (mbx : Nat)
  /-- RECK.LEASE_READ, R233: Returns both lease slots. -/
  | reckLeaseRead (mbx : Nat)
  /-- RECK.LOANS, R233: Returns the confirmed loans. -/
  | reckLoans (mbx : Nat)
  /-- RECK.LOAN_RETURN, R234: Sends RETURN to end a borrowed loan. -/
  | reckLoanReturn (mbx : Nat)
  /-- RECK.STATS, R233: Returns the reckoner counters. -/
  | reckStats (mbx : Nat)
  /-- RECK.STATS_CLEAR, R233: Clears the reckoner counters. -/
  | reckStatsClear (mbx : Nat)
  /-- LOOP_SAMPLE, R281: A loop's sample instant arrives: inputs are latched and checked and the sample queued, or speculated, held or awaited. -/
  | loopSample (slot : Nat)
  /-- SAMPLE_START, R262: A waiting sample starts on the first free stage processor in the order of R262. -/
  | sampleStart
  /-- SAMPLE_COMPLETE, R242: A sample's last stage ends and its result becomes committed or provisional, is applied or held, and traced. -/
  | sampleComplete (processor : Nat)
  /-- RESULT_APPLY, R283: A PERIOD result falls due at instant + P and is applied to its routes. -/
  | resultApply (slot : Nat)
  /-- AWAIT_GIVE_UP, R282: An awaiting non-speculating sample reaches instant + horizon without its input and gives up with MISS. -/
  | awaitGiveUp (slot : Nat)
  /-- LOOP.STATUS, R305: Returns a loop's state and counters. -/
  | loopStatus (mbx : Nat)
  /-- LOOP.READ, R305: Returns a loop's IN, OUT or ST registers. -/
  | loopRead (mbx : Nat)
  /-- LOOP.FLAGS_CLEAR, R306: Clears W1C bits of a loop's flag word. -/
  | loopFlagsClear (mbx : Nat)
  /-- LOOP.ENABLE, R306: Enables or disables a loop at a boundary. -/
  | loopEnable (mbx : Nat)
  /-- LOOP.MANUAL, R291: Enters or leaves MANUAL and sets manual output values from the next instant. -/
  | loopManual (mbx : Nat)
  /-- LOOP.MODEL, R306: Returns a loop's plant-model state. -/
  | loopModel (mbx : Nat)
  /-- LOOP.TRACE_ARM, R301: Arms a trace channel. -/
  | loopTraceArm (mbx : Nat)
  /-- LOOP.TRACE_STATUS, R305: Returns a trace channel's state. -/
  | loopTraceStatus (mbx : Nat)
  /-- LOOP.TRACE_READ, R302: Returns trace entries, with provisional tags. -/
  | loopTraceRead (mbx : Nat)
  /-- LOOP.STATS, R305: Returns engine-wide loop statistics. -/
  | loopStats (mbx : Nat)
  /-- CUT_MARK_SEND, R319: At the publish deadline a chip with COUNT_VALID sends its cut mark. -/
  | cutMarkSend
  /-- COMMONS_CUT, R320: At the cut angle the filling copy is frozen and block writer states move by silent counts. -/
  | commonsCut
  /-- COMMONS_UPDATE_FRAME, R314: A received update frame's entries are placed, marked late, refreshed or discarded. -/
  | commonsUpdateFrame
  /-- CUT_MARK, R329: A received cut mark records presence and is compared for count, angle and map. -/
  | cutMark
  /-- COMMONS_FRAME_SEND, R330: The switch sends an update frame when 90 entries wait or 32 tu after the first was queued. -/
  | commonsFrameSend
  /-- REFRESH_QUEUE, R326: Each rod the switch queues up to refresh entries for VALID points it writes. -/
  | refreshQueue
  /-- COMMONS.INFO, R334: Returns commons summary information. -/
  | commonsInfo (mbx : Nat)
  /-- COMMONS.READ, R335: Returns points from the view in force. -/
  | commonsRead (mbx : Nat)
  /-- COMMONS.WRITE, R335: Queues a host write of a HOST point. -/
  | commonsWrite (mbx : Nat)
  /-- COMMONS.CHIPS, R334: Returns per-chip silent counts and flags. -/
  | commonsChips (mbx : Nat)
  /-- COMMONS.BLOCKS, R335: Returns per-block owners and states. -/
  | commonsBlocks (mbx : Nat)
  /-- COMMONS.STATS, R334: Returns commons counters. -/
  | commonsStats (mbx : Nat)
  /-- COMMONS.STATS_CLEAR, R334: Clears commons counters. -/
  | commonsStatsClear (mbx : Nat)
  /-- FRAME_RECEIVED, R342: An Ethernet frame accepted on a port is delivered, forwarded, discarded or removed as R342 sets out. -/
  | frameReceived (port : Nat) (frame : EthFrame) (fcsOk : Bool)
  /-- FRAME_TRANSMIT, R353: A stored frame starts on an egress port when its class is highest open and it fits its gate. -/
  | frameTransmit (port : Nat)
  /-- GATE_TRANSITION, R354: A port's gate control list passes to its next entry at its end angle. -/
  | gateTransition (port : Nat)
  /-- LINK_UP, R338: Block lock holds with hi_ber clear for 10 ms and the link goes up. -/
  | linkUp (port : Nat)
  /-- LINK_DOWN, R338: Block lock or hi_ber fails and the link goes down. -/
  | linkDown (port cause : Nat)
  /-- SERDES_IDLE, R338: A port without block lock for 1 s enters low-power idle. -/
  | serdesIdle (port : Nat)
  /-- SUPERVISION_SEND, R346: Every 2 s an HSR supervision frame is sent on both ring ports. -/
  | supervisionSend
  /-- SUPERVISION_RETURN_TIMEOUT, R349: A supervision copy not returned within 16,384 tu counts toward setting RING_OPEN. -/
  | supervisionReturnTimeout (port : Nat)
  /-- DUPLICATE_ENTRY_EXPIRY, R347: A duplicate-table entry is freed 16,384 tu after it was made. -/
  | duplicateEntryExpiry (src seq : Nat)
  /-- NODE_ENTRY_EXPIRY, R346: A node table entry is forgotten 60 s after its last supervision frame. -/
  | nodeEntryExpiry (mac : Nat)
  /-- PROXY_ENTRY_EXPIRY, R350: A proxy table entry is removed 60 s after its last frame. -/
  | proxyEntryExpiry (mac : Nat)
  /-- PDELAY_SEND, R358: Pdelay_Req is sent once per second per port. -/
  | pdelaySend (port delayNs : Nat)
  /-- ANNOUNCE_SEND, R358: A grandmaster sends Announce every 1 s. -/
  | announceSend
  /-- PTP_SYNC_RECEIVED, R359: A Sync updates the slave offset and the PTP_SYNC state. -/
  | ptpSyncReceived (offsetNs : Int) (pathDelayNs : Nat) (dPtp : Int)
  /-- PTP_SYNC_TIMEOUT, R359: 8 rods without a Sync clear PTP_SYNC. -/
  | ptpSyncTimeout
  /-- RING.INFO, R372: Returns ring summary information. -/
  | ringInfo (mbx : Nat)
  /-- RING.PORT, R372: Returns a port's counters. -/
  | ringPort (mbx : Nat)
  /-- RING.PORT_CLEAR, R373: Clears port counters. -/
  | ringPortClear (mbx : Nat)
  /-- RING.NODES, R373: Returns node table entries. -/
  | ringNodes (mbx : Nat)
  /-- RING.PROXY, R372: Returns the proxy table. -/
  | ringProxy (mbx : Nat)
  /-- RING.PTP, R372: Returns PTP state. -/
  | ringPtp (mbx : Nat)
  /-- RING.GATES, R372: Returns a port's gate list. -/
  | ringGates (mbx : Nat)
  /-- RING.REQUESTERS, R372: Returns the network requesters. -/
  | ringRequesters (mbx : Nat)
  /-- CAN_FRAME_RECEIVED, R385: A valid CAN frame is stamped, filtered and passed to the reference receiver, field protocol or host buffer. -/
  | canFrameReceived (channel : Nat) (frame : CanFrame) (spare : SpareView)
  /-- CAN_FRAME_SENT, R381: The head frame is sent and leaves the FIFO; held bead frames enter as entries free. -/
  | canFrameSent (channel : Nat) (reference : Bool)
  /-- CAN_TRANSMIT_ERROR, R383: An attempt ends in an error frame and the head frame's error count rises. -/
  | canTransmitError (channel : Nat)
  /-- ARBITRATION_LOST, R383: An attempt is lost in arbitration and the head frame's loss count rises. -/
  | arbitrationLost (channel : Nat)
  /-- BUS_OFF_RECOVERY, R384: After 128 sequences of 11 recessive bits a bus-off channel recovers. -/
  | busOffRecovery (channel : Nat)
  /-- REFERENCE_PERIOD_START, R389: A reference period begins; a period with no reference sent or received raises FBUS.REF_MISSING. -/
  | referencePeriodStart (channel : Nat)
  /-- REFERENCE_PENDING, R389: At ref_angle + p × ref_step the reference buffer becomes pending. -/
  | referencePending (channel : Nat)
  /-- REFERENCE_CANCEL, R389: A reference buffer not started by ref_angle + 8,192 is cancelled. -/
  | referenceCancel (channel : Nat)
  /-- SPARE_ENGINE_ROTATE, R391: Every 256 rods the free spare engine moves to the next enabled channel. -/
  | spareEngineRotate
  /-- SPARE_SWITCH_OVER, R392: At the first intermission after a request the channel's balls pass to the spare engine. -/
  | spareSwitchOver
  /-- SPARE_INTEGRATED, R392: The spare engine has integrated for 11 recessive bits and joins the bus. -/
  | spareIntegrated (framesLost : Nat)
  /-- LEAK_INJECTION_TOGGLE, R395: LEAK_INJ_n changes level each half period; at each period end the leakage is computed. -/
  | leakInjectionToggle (channel averageMv : Nat)
  /-- FALLOW_BEACON, R631: In fallow mode each enabled channel sends the beacon once per second. -/
  | fallowBeacon (channel : Nat)
  /-- FBUS.STATUS, R403: Returns a channel's state. -/
  | fbusStatus (mbx : Nat)
  /-- FBUS.STATS, R403: Returns a channel's counters. -/
  | fbusStats (mbx : Nat)
  /-- FBUS.STATS_CLEAR, R404: Clears channel counters. -/
  | fbusStatsClear (mbx : Nat)
  /-- FBUS.SEND, R404: Places a raw frame into a channel's FIFO. -/
  | fbusSend (mbx : Nat)
  /-- FBUS.RECEIVE, R404: Returns and removes host frames. -/
  | fbusReceive (mbx : Nat)
  /-- FBUS.RECOVER, R404: Starts manual bus-off recovery. -/
  | fbusRecover (mbx : Nat)
  /-- FBUS.SPARE, R404: Requests a switch-over of a channel to the spare engine. -/
  | fbusSpare (mbx : Nat)
  /-- FBUS.INSULATION, R404: Returns insulation measurements. -/
  | fbusInsulation (mbx : Nat)
  /-- FBUS.TIMING, R404: Computes bit-timing figures for a stated cable. -/
  | fbusTiming (mbx : Nat)
  /-- ROLL_CALL, R413: The roll-call sender sends ROLL at roll_angle, opening a claim window. -/
  | rollCall (bus : Nat)
  /-- CFP_ANNOUNCE, R415: An ANNOUNCE from an unassigned node is answered with ASSIGN of an address. -/
  | cfpAnnounce (bus : Nat)
  /-- CFP_ASSIGN, R415: A chip that is not the sender learns an ASSIGN it hears into its table. -/
  | cfpAssign (bus : Nat)
  /-- CFP_CLAIM, R417: A CLAIM marks its node present in the claim window. -/
  | cfpClaim (bus : Nat)
  /-- CLAIM_WINDOW_END, R420: At the end of a claim window missed roll calls are counted and roles resolved. -/
  | claimWindowEnd (bus : Nat)
  /-- CFP_RSP, R426: A node's response ends a transaction with its outcome, or leads to reissue on ROLE_STALE. -/
  | cfpRsp (bus : Nat)
  /-- CFP_RPT, R422: A node report is accepted as readings of its role or discarded as stale. -/
  | cfpRpt (bus : Nat)
  /-- CFP_SEGMENT, R411: A SEG frame continues a segmented transfer or is discarded out of order. -/
  | cfpSegment (bus : Nat)
  /-- CFP_TIMEOUT, R425: No response begins within the bus timeout; an idempotent transaction is resent, otherwise it ends TIMEOUT. -/
  | cfpTimeout (bus tag : Nat)
  /-- SEGMENT_TIMEOUT, R411: A receiver waiting longer than the bus timeout for the next segment discards the transfer. -/
  | segmentTimeout (bus tag : Nat)
  /-- TRANSACTION_SEND, R423: A waiting transaction is resolved and enters the FIFO when its role is held and a tag is free. -/
  | transactionSend (bus : Nat)
  /-- CFP.NODES, R437: Returns address table entries. -/
  | cfpNodes (mbx : Nat)
  /-- CFP.ROLE, R436: Returns a role's state. -/
  | cfpRole (mbx : Nat)
  /-- CFP.ROLE_MOVE, R437: Pins a role to a UID and starts a move. -/
  | cfpRoleMove (mbx : Nat)
  /-- CFP.TRANSACT, R437: Starts a deferred host transaction to a role. -/
  | cfpTransact (mbx : Nat)
  /-- CFP.ROLLCALL, R437: Returns the last roll call's figures. -/
  | cfpRollcall (mbx : Nat)
  /-- CFP.FORGET, R437: Forgets an address table entry. -/
  | cfpForget (mbx : Nat)
  /-- CFP.STATS, R436: Returns CFP counters. -/
  | cfpStats (mbx : Nat)
  /-- CFP.STATS_CLEAR, R436: Clears CFP counters. -/
  | cfpStatsClear (mbx : Nat)
  /-- VALVE_EVENT_START, R448: A waiting request starts its event when bank, channel and rank allow. -/
  | valveEventStart (bank : Nat)
  /-- VALVE_PEAK_REACHED, R441: The coil current reaches i_peak and RISE ends. -/
  | valvePeakReached (channel micros currentMa : Nat)
  /-- VALVE_PEAK_END, R441: t_peak passes and the event goes to DROP. -/
  | valvePeakEnd (channel : Nat)
  /-- VALVE_DROP_END, R441: The current falls to i_hold and HOLD begins. -/
  | valveDropEnd (channel : Nat)
  /-- VALVE_HOLD_END, R441: The hold time ends and DECAY begins. -/
  | valveHoldEnd (channel meanMa : Nat)
  /-- VALVE_DECAY_END, R441: The current falls below i_end and the event ends. -/
  | valveDecayEnd (channel : Nat)
  /-- VALVE_OFF_TIME_END, R448: A channel's min_off after an event ends. -/
  | valveOffTimeEnd (channel : Nat)
  /-- BANK_RECOVERY_END, R448: A bank's recovery time after an event ends. -/
  | bankRecoveryEnd (bank : Nat)
  /-- VALVE_DEFER_EXPIRY, R451: A waiting request not started by requested tick + defer is refused. -/
  | valveDeferExpiry (channel : Nat)
  /-- DUTY_INSTANT, R454: At a duty instant the loop value gives an open time and one event is requested. -/
  | dutyInstant (channel : Nat)
  /-- VALVE_OPEN, R457: At t_open the low-side current is below i_open and the channel latches OPEN. -/
  | valveOpen (channel currentMa : Nat)
  /-- VALVE_SHORT, R457: i_peak is reached sooner than t_rise_min and the channel latches SHORT. -/
  | valveShort (channel micros : Nat)
  /-- VALVE_OVERCURRENT, R457: The low-side current exceeds i_oc and the channel latches OVERCURRENT. -/
  | valveOvercurrent (channel currentMa : Nat)
  /-- VALVE_DECAY, R457: The current is not below i_end at t_end_max and the bank latches DECAY. -/
  | valveDecay (bank currentMa : Nat)
  /-- VALVE_STUCK, R457: The idle scan finds current in an idle channel twice and the bank latches STUCK. -/
  | valveStuck (channel currentMa : Nat)
  /-- VALVE_BANK_OVERCURRENT, R457: The high-side current exceeds hs_oc and the bank latches. -/
  | valveBankOvercurrent (bank currentMa : Nat)
  /-- VALVE_GROUND_SHORT, R457: The high-side current exceeds the low-side sum by hs_excess for 10 µs and the bank latches. -/
  | valveGroundShort (bank excessMa : Nat)
  /-- VALVE.STATUS, R467: Returns a channel's state. -/
  | valveStatus (mbx : Nat)
  /-- VALVE.FIRE, R468: Requests a host event on a channel, completing deferred when it starts or is refused. -/
  | valveFire (mbx : Nat)
  /-- VALVE.CLEAR, R468: Clears a latched channel or bank fault. -/
  | valveClear (mbx : Nat)
  /-- VALVE.PROFILE, R467: Returns a profile in force. -/
  | valveProfile (mbx : Nat)
  /-- VALVE.STATS, R467: Returns valve counters. -/
  | valveStats (mbx : Nat)
  /-- VALVE.STATS_CLEAR, R468: Clears valve counters. -/
  | valveStatsClear (mbx : Nat)
  /-- FAN_SLEW_UPDATE, R475: Every millisecond each output's driven duty moves toward its target under slew and skip bands. -/
  | fanSlewUpdate
  /-- TACH_PULSE, R471: A tach pulse updates speed, counts toward a kick attempt and toward tach restoration. -/
  | tachPulse (output periodUs : Nat)
  /-- KICK_ATTEMPT_END, R479: 2 s of kick pass without 2 pulses; the attempt fails and a retry wait or stall follows. -/
  | kickAttemptEnd (output : Nat)
  /-- RETRY_WAIT_END, R479: 10 s after a failed attempt began the next attempt starts. -/
  | retryWaitEnd (output : Nat)
  /-- COOL_DOWN_END, R480: A 60 s cool-down ends and a new set of 4 attempts begins. -/
  | coolDownEnd (output : Nat)
  /-- TACH_LOSS_TIMEOUT, R481: No pulse within the expected window in RUN sets TACH_LOST. -/
  | tachLossTimeout (output : Nat)
  /-- HOST_SILENCE, R478: The host-silence count reaches watchdog_s and the watchdog layer holds. -/
  | hostSilence
  /-- FAN_GROUP_UPDATE, R484: Each rod a fan group's FAN_DUTY is sent when changed or due, and FAN_STATE read when due. -/
  | fanGroupUpdate (group : Nat)
  /-- FAN.STATUS, R494: Returns a unit's state. -/
  | fanStatus (mbx : Nat)
  /-- FAN.SET, R495: Sets or releases a host-layer duty. -/
  | fanSet (mbx : Nat)
  /-- FAN.ZONES, R494: Returns zone demands. -/
  | fanZones (mbx : Nat)
  /-- FAN.RETRY, R495: Ends a cool-down or retry wait and begins a new set of attempts. -/
  | fanRetry (mbx : Nat)
  /-- FAN.STATS, R494: Returns fan counters. -/
  | fanStats (mbx : Nat)
  /-- FAN.STATS_CLEAR, R495: Clears fan counters. -/
  | fanStatsClear (mbx : Nat)
  /-- ENCODER_UPDATE, R498: A QUAD or HALL transition moves the position counter by one, updating speed and firing compares. -/
  | encoderUpdate (channel : Nat) (lines : BitVec 3) (samples : Nat)
  /-- INDEX_EVENT, R506: An index edge captures the counter and may home it. -/
  | indexEvent (channel : Nat) (lines : BitVec 3)
  /-- SSI_READ, R502: At its angle an SSI channel reads the encoder and moves the counter by δ, or fails. -/
  | ssiRead (channel : Nat) (dataHigh : Bool) (bits : Nat) (parity : Bool)
  /-- SPEED_TIMEOUT, R505: No count for speed_timeout sets speed to 0. -/
  | speedTimeout (channel : Nat)
  /-- POSITIONER_EVALUATION, R512: Every 250 µs the positioner drives run_out and dir_out toward its target. -/
  | positionerEvaluation (channel : Nat)
  /-- MOVE_TIMEOUT, R513: run_out high with no update for move_timeout faults the channel with cause 3. -/
  | moveTimeout (channel : Nat)
  /-- MAX_RUN_TIMEOUT, R513: run_out high for max_run_s faults the channel with cause 4. -/
  | maxRunTimeout (channel : Nat)
  /-- EXTENSION_UPDATE, R504: Harlopor reads each counter at least every 64 rods and extends the 64-bit position. -/
  | extensionUpdate
  /-- VENT.READ, R520: Returns a channel's position and state. -/
  | ventRead (mbx : Nat)
  /-- VENT.COMPARE, R510: Writes or disarms a compare register. -/
  | ventCompare (mbx : Nat)
  /-- VENT.PRESET, R521: Presets the counter and extension. -/
  | ventPreset (mbx : Nat)
  /-- VENT.SET, R512: Sets or releases the host set-point. -/
  | ventSet (mbx : Nat)
  /-- VENT.CLEAR, R521: Clears W1C flags, FAULT and the STOP hold. -/
  | ventClear (mbx : Nat)
  /-- VENT.STATS, R520: Returns vent counters. -/
  | ventStats (mbx : Nat)
  /-- CONVERSION_END, R525: A sensor conversion ends at j × P and its value is computed and checked. -/
  | conversionEnd (channel : Nat) (code : Int) (spares : List Int)
  /-- EXCITATION_COMPLIANCE, R528: An excitation source reaches or leaves its compliance limit. -/
  | excitationCompliance (source : Nat) (reached : Bool)
  /-- DWELL_END, R536: The spares' 256-rod dwell ends; counts are judged and the spares move on. -/
  | dwellEnd
  /-- MODULATOR_REPLACEMENT, R538: A spare takes over a position at a conversion end or rod boundary and the old modulator is retired. -/
  | modulatorReplacement
  /-- SENSE.READ, R547: Returns a channel's conversion. -/
  | senseRead (mbx : Nat)
  /-- SENSE.METER, R548: Returns metering quantities of the last closed rod. -/
  | senseMeter (mbx : Nat)
  /-- SENSE.WAVE, R548: Returns half a rod of metering samples. -/
  | senseWave (mbx : Nat)
  /-- SENSE.MODULATORS, R547: Returns the modulator map. -/
  | senseModulators (mbx : Nat)
  /-- SENSE.SPARE, R548: Requests a modulator replacement. -/
  | senseSpare (mbx : Nat)
  /-- SENSE.STATS, R547: Returns sensing counters. -/
  | senseStats (mbx : Nat)
  /-- SENSE.STATS_CLEAR, R547: Clears sensing counters. -/
  | senseStatsClear (mbx : Nat)
  /-- KEY_SCAN, R552: A matrix scan samples the keys, debounces them and detects rectangles. -/
  | keyScan (raw : BitVec 64)
  /-- ENCODER_STEP, R556: An encoder count moves detent counts from its rest point and steps the position. -/
  | encoderStep (encoder : Nat) (lines : BitVec 2)
  /-- LONG_PRESS, R558: A key held down for long_ms enters LONG. -/
  | longPress (key : Nat)
  /-- RESET_COMBINATION, R561: A reset combination stays met for hold_s and PANEL.RESET_REQUEST is entered. -/
  | resetCombination (record : Nat)
  /-- PANEL.STATUS, R570: Returns panel flags and encoder positions. -/
  | panelStatus (mbx : Nat)
  /-- PANEL.KEYS, R570: Returns raw and debounced key sets. -/
  | panelKeys (mbx : Nat)
  /-- PANEL.EVENTS, R571: Returns and removes key queue entries. -/
  | panelEvents (mbx : Nat)
  /-- PANEL.DISPLAY, R571: Writes the display digits in test mode. -/
  | panelDisplay (mbx : Nat)
  /-- PANEL.STATS, R570: Returns panel counters. -/
  | panelStats (mbx : Nat)
  /-- PANEL.STATS_CLEAR, R570: Clears panel counters. -/
  | panelStatsClear (mbx : Nat)
  /-- CLOCK_WRITE_APPLY, R575: A staged clock write is applied whole at the next tick. -/
  | clockWriteApply
  /-- TRIM_COMPENSATION, R581: Every 16 s Harlopor reads the crystal sensor and sets a new trim. -/
  | trimCompensation (temperature : Int)
  /-- VBAT_CHECK, R582: Once per second VBAT is compared and BVL set if low. -/
  | vbatCheck (millivolts : Nat)
  /-- OSCILLATOR_STOP, R583: The oscillator gives no edge for 250 µs; OSF is set and the count holds. -/
  | oscillatorStop
  /-- CLOCK.READ, R574: Returns a coherent seconds and fraction pair with its cycle and angle. -/
  | clockRead (mbx : Nat)
  /-- CLOCK.SET, R575: Stages a clock write by count, calendar or step. -/
  | clockSet (mbx : Nat)
  /-- CLOCK.CONVERT, R590: Converts between count and calendar. -/
  | clockConvert (mbx : Nat)
  /-- CLOCK.FLAGS_CLEAR, R591: Clears BVL and, for an owner, OSF. -/
  | clockFlagsClear (mbx : Nat)
  /-- CLOCK.TRIM, R590: Returns the trim and crystal temperature. -/
  | clockTrim (mbx : Nat)
  /-- RECORD_WRITE, R600: The writer moves an intake entry into MRAM as a record, then its sequence number. -/
  | recordWrite
  /-- SNAP_IN_EDGE, R606: A held rising edge on SNAP_IN raises a strobe. -/
  | snapInEdge
  /-- SCHEDULED_STROBE, R611: A scheduled strobe reaches its instant. -/
  | scheduledStrobe
  /-- SNAPSHOT_TRIGGER_FRAME, R612: A received snapshot trigger schedules a strobe, raises a late one or is ignored. -/
  | snapshotTriggerFrame
  /-- SNAPSHOT_COPY_COMPLETE, R605: A bank's copy completes and it reads HELD. -/
  | snapshotCopyComplete (bank : Nat)
  /-- SNAP_OUT_END, R609: 256 tu after the last strobe SNAP_OUT goes low. -/
  | snapOutEnd
  /-- LOG.INFO, R618: Returns recorder summary information. -/
  | logInfo (mbx : Nat)
  /-- LOG.READ, R619: Returns records from the circulating area. -/
  | logRead (mbx : Nat)
  /-- LOG.READ_KEPT, R619: Returns records from the kept area. -/
  | logReadKept (mbx : Nat)
  /-- LOG.REARM, R603: Clears and rearms the kept area via a LOG.REARMED record. -/
  | logRearm (mbx : Nat)
  /-- LOG.MARK, R619: Enters a host mark report. -/
  | logMark (mbx : Nat)
  /-- LOG.STATS, R618: Returns recorder counters. -/
  | logStats (mbx : Nat)
  /-- LOG.STATS_CLEAR, R618: Clears recorder counters. -/
  | logStatsClear (mbx : Nat)
  /-- SNAP.INFO, R620: Returns the bank entries. -/
  | snapInfo (mbx : Nat)
  /-- SNAP.TRIGGER, R621: Raises or schedules a strobe, optionally site-wide. -/
  | snapTrigger (mbx : Nat)
  /-- SNAP.READ, R621: Returns part of a block's bank. -/
  | snapRead (mbx : Nat)
  /-- SNAP.RELEASE, R607: Empties the named banks. -/
  | snapRelease (mbx : Nat)
  /-- POWER_ON_RESET, R708: Supplies rise through their thresholds or RESET_N is released, and 10 ms later the boot ROM starts. -/
  | powerOnReset (backupKept : Bool)
  /-- SUPPLY_FAIL, R708: A supply falls below its threshold for 1 µs and reset is asserted, outputs held. -/
  | supplyFail
  /-- BOOT_SEQUENCE, R623: The boot ROM chooses slots, verifies firmware and configuration, applies it and hands over. -/
  | bootSequence (passed : BitVec 3)
  /-- HARLOPOR_CONFIRM, R625: Harlopor confirms the start itself once its three checks pass. -/
  | harloporConfirm
  /-- CONFIRM_DEADLINE, R626: 60 s pass without a confirm and the attempt ends NO_CONFIRM. -/
  | confirmDeadline
  /-- START_WATCHDOG_EXPIRY, R626: The start watchdog is not serviced for 2 s and expires. -/
  | startWatchdogExpiry
  /-- SUPERVISOR_RESTART_DEADLINE, R29: No supervisor has resumed by the 16th rod; hold latches release and the chip restarts through the boot ROM. -/
  | supervisorRestartDeadline
  /-- LEAVE_RESTART, R633: 20 ms after START.LEAVE's response the chip restarts through the boot ROM. -/
  | leaveRestart
  /-- START.CONFIRM, R625: Confirms the start, resets the count and enters running mode. -/
  | startConfirm (mbx : Nat)
  /-- START.LEDGER, R641: Returns the start ledger. -/
  | startLedger (mbx : Nat)
  /-- START.REASON, R642: Returns the fallow reason record. -/
  | startReason (mbx : Nat)
  /-- START.SESSION_OPEN, R642: Opens a session on mailbox 0 exactly as SEC.SESSION_OPEN. -/
  | startSessionOpen (mbx : Nat)
  /-- START.LEAVE, R633: Sets the ledger count to 0 and schedules a restart. -/
  | startLeave (mbx : Nat)
  /-- START.FALLOW, R629: Requests fallow mode at the next rod boundary. -/
  | startFallow (mbx : Nat)
  /-- START.SELECT, R642: Selects the preferred slots for the next start. -/
  | startSelect (mbx : Nat)
  /-- START.THRESHOLD, R628: Sets the fallow threshold. -/
  | startThreshold (mbx : Nat)
  /-- START.TEST, R634: Changes between fallow and test mode. -/
  | startTest (mbx : Nat)
  /-- START.FALLOW_MAP, R630: Writes the fallow map. -/
  | startFallowMap (mbx : Nat)
  /-- LOCKSTEP_MISMATCH, R649: The lockstep pair disagrees; it halts, SUP_PAUSE is set and self-tests begin. -/
  | lockstepMismatch
  /-- SELF_TEST_COMPLETE, R650: The cores' self-tests end and the outcome retires, joins or runs single. -/
  | selfTestComplete (passed : BitVec 3) (micros : Nat)
  /-- SWAP_RESUME, R649: The new pair resumes the instruction stream and SUP_PAUSE clears. -/
  | swapResume
  /-- WEAR_MEASUREMENT, R646: A wear monitor updates a unit's w, calling a substitution at 1.0. -/
  | wearMeasurement (kind unit wear : Nat)
  /-- ECC_CORRECTION, R645: A corrected read counts toward a row's or block's wear. -/
  | eccCorrection (kind unit : Nat)
  /-- UNCORRECTABLE_ERROR, R647: An uncorrectable error is reported and handled by where the word lies. -/
  | uncorrectableError (kind unit offset region place : Nat)
  /-- ROW_REMAP, R648: A worn SRAM row or MRAM block finishes copying and is remapped. -/
  | rowRemap (kind unit : Nat)
  /-- AGEING_SAMPLE, R654: Once per second the die temperature is sampled into the ageing accounts. -/
  | ageingSample (temperature : Int)
  /-- SPARE.INFO, R661: Returns spare and life information. -/
  | spareInfo (mbx : Nat)
  /-- SPARE.LEDGER, R662: Returns spare ledger entries. -/
  | spareLedger (mbx : Nat)
  /-- SPARE.WEAR, R662: Returns per-unit wear. -/
  | spareWear (mbx : Nat)
  /-- SPARE.PROFILE, R661: Returns the temperature profile. -/
  | spareProfile (mbx : Nat)
  /-- SPARE.SWAP, R662: Requests a deferred substitution of a unit. -/
  | spareSwap (mbx : Nat)
  /-- SUBSTITUTION_COMPLETE, R650: A commanded substitution finishes and its completion is placed. -/
  | substitutionComplete
  /-- SEC.SESSION_OPEN, R678: Issues a challenge or takes a token part, checking the final part and opening a session. -/
  | secSessionOpen (mbx : Nat)
  /-- SEC.SESSION_CLOSE, R686: Closes the session named in the header. -/
  | secSessionClose (mbx : Nat)
  /-- SEC.IDENTITY, R685: Returns UID, identity key and claim state. -/
  | secIdentity (mbx : Nat)
  /-- SEC.ATTEST, R682: Starts a deferred attestation report. -/
  | secAttest (mbx : Nat)
  /-- ATTESTATION_COMPLETE, R682: The report is built and signed and the completion placed. -/
  | attestationComplete
  /-- SEC.OBJECT_READ, R686: Returns a part of the certificate or last report. -/
  | secObjectRead (mbx : Nat)
  /-- SEC.KEYS, R685: Returns the key store. -/
  | secKeys (mbx : Nat)
  /-- SEC.KEY_SET, R686: Sets or clears a key slot. -/
  | secKeySet (mbx : Nat)
  /-- SEC.COUNTERS, R685: Returns the rollback counters. -/
  | secCounters (mbx : Nat)
  /-- SEC.RELINQUISH, R676: Empties every key slot, unclaims the part and closes all sessions. -/
  | secRelinquish (mbx : Nat)
  /-- RAIL_MONITOR, R709: Each millisecond rails, VBAT and die temperature are measured. -/
  | railMonitor (millivolts : List Nat) (temperature : Int)
  /-- READBACK_CHECK, R710: Each millisecond general outputs read back their ball levels. -/
  | readbackCheck (levels : BitVec 40)
  /-- PIN.OUTPUTS, R712: Returns general output levels and layers. -/
  | pinOutputs (mbx : Nat)
  /-- PIN.WRITE, R713: Stores a host level under layer 5 or releases it. -/
  | pinWrite (mbx : Nat)
  /-- PIN.CLAIM, R713: Returns a resource's claimant. -/
  | pinClaim (mbx : Nat)
  /-- PIN.BALLS, R713: Returns ball states. -/
  | pinBalls (mbx : Nat)
  /-- PIN.SUPPLY, R712: Returns rail and temperature readings. -/
  | pinSupply (mbx : Nat)
  /-- CLOCK_TICK, R572: Each 1/32,768 s tick of the backup domain advances the fraction, carries into the seconds after 32,767, and takes any trim drop or insertion. -/
  | clockTick
  /-- OSCILLATOR_RESTART, R583: The stopped 32.768 kHz oscillator gives edges again, the held count resumes and any staged write is applied at the first tick. -/
  | oscillatorRestart
  /-- MASTER_MARK_TIMEOUT, R716: No cycle mark with MASTER set arrives for 8 rods, so the chip follows no master and raises PHASE.MASTER_CHANGED with UID 0. -/
  | masterMarkTimeout
  /-- SERDES_WAKE, R338: A port whose SerDes is in low-power idle wakes when receive energy appears on its input. -/
  | serdesWake (port : Nat)
  /-- CAN_INTEGRATED, R375: A channel engine that is integrating, after enable or a protocol exception, sees 11 recessive bits and joins the bus. -/
  | canIntegrated (channel : Nat)
  /-- CAN_RECEIVE_ERROR, R375: A channel detects a bus error while receiving, sends an error frame and raises its receive error counter, possibly becoming error passive. -/
  | canReceiveError (channel : Nat) (ident : Option Nat)
  /-- METER_SAMPLE, R531: At each angle 256 × j the six metering channels are sampled in pairs, shifted by ct_shift, checked for clipping and shadowed by the spares. -/
  | meterSample (l1 l2 l3 : MeterPair)
  /-- ENCODER_TRANSITION, R555: An accepted change on a panel encoder line counts one count, or is illegal and raises the illegal counter, without necessarily stepping. -/
  | encoderTransition (encoder : Nat) (lines : BitVec 2)
  /-- PLL_LOSS_OF_LOCK, R646: The phase-clock PLL in service loses lock and is replaced at once by the spare with cause 4. -/
  | pllLossOfLock
deriving DecidableEq, Repr

end Sys2Proof
end

