-- ==== Sys2Proof/Machine/Hash.lean ====
section
/-! DEFINITION. SHA-256 of FIPS 180-4, the hash of the security engine (R663). PRESUMED from FIPS 180-4, safe, log 13. -/

namespace Sys2Proof.Machine

/-- The 64 round constants of FIPS 180-4. -/
def shaConstants : List Nat :=
  [0x428a2f98, 0x71374491, 0xb5c0fbcf, 0xe9b5dba5, 0x3956c25b, 0x59f111f1, 0x923f82a4, 0xab1c5ed5]
  ++ [0xd807aa98, 0x12835b01, 0x243185be, 0x550c7dc3, 0x72be5d74, 0x80deb1fe, 0x9bdc06a7, 0xc19bf174]
  ++ [0xe49b69c1, 0xefbe4786, 0x0fc19dc6, 0x240ca1cc, 0x2de92c6f, 0x4a7484aa, 0x5cb0a9dc, 0x76f988da]
  ++ [0x983e5152, 0xa831c66d, 0xb00327c8, 0xbf597fc7, 0xc6e00bf3, 0xd5a79147, 0x06ca6351, 0x14292967]
  ++ [0x27b70a85, 0x2e1b2138, 0x4d2c6dfc, 0x53380d13, 0x650a7354, 0x766a0abb, 0x81c2c92e, 0x92722c85]
  ++ [0xa2bfe8a1, 0xa81a664b, 0xc24b8b70, 0xc76c51a3, 0xd192e819, 0xd6990624, 0xf40e3585, 0x106aa070]
  ++ [0x19a4c116, 0x1e376c08, 0x2748774c, 0x34b0bcb5, 0x391c0cb3, 0x4ed8aa4a, 0x5b9cca4f, 0x682e6ff3]
  ++ [0x748f82ee, 0x78a5636f, 0x84c87814, 0x8cc70208, 0x90befffa, 0xa4506ceb, 0xbef9a3f7, 0xc67178f2]

def rotr (x : Word) (n : Nat) : Word := x.rotateRight n

/-- The eight working words. -/
structure ShaWords where
  a : Word
  b : Word
  c : Word
  d : Word
  e : Word
  f : Word
  g : Word
  h : Word
deriving DecidableEq, Repr

/-- Initial hash value. -/
def shaInit : ShaWords :=
  ⟨0x6a09e667, 0xbb67ae85, 0x3c6ef372, 0xa54ff53a, 0x510e527f, 0x9b05688c, 0x1f83d9ab, 0x5be0cd19⟩

/-- One round. -/
def shaRound (v : ShaWords) (k w : Word) : ShaWords :=
  let t1 := v.h + (rotr v.e 6 ^^^ rotr v.e 11 ^^^ rotr v.e 25) + ((v.e &&& v.f) ^^^ (~~~v.e &&& v.g)) + k + w
  let t2 := (rotr v.a 2 ^^^ rotr v.a 13 ^^^ rotr v.a 22) + ((v.a &&& v.b) ^^^ (v.a &&& v.c) ^^^ (v.b &&& v.c))
  ⟨t1 + t2, v.a, v.b, v.c, v.d + t1, v.e, v.f, v.g⟩

/-- The message schedule, newest word first, extended by a number of words. -/
def shaExtend : Nat → List Word → List Word
  | 0, ws => ws
  | n + 1, ws =>
    let x := ws.getD 14 0
    let y := ws.getD 1 0
    let next := (rotr y 17 ^^^ rotr y 19 ^^^ (y >>> 10)) + ws.getD 6 0
      + (rotr x 7 ^^^ rotr x 18 ^^^ (x >>> 3)) + ws.getD 15 0
    shaExtend n (next :: ws)

/-- Big-endian words of a block. -/
def shaBlockWords : Nat → List Byte → List Word
  | 0, _ => []
  | n + 1, bs =>
    (BitVec.ofNat 32 (((bs.getD 0 0).toNat * 256 + (bs.getD 1 0).toNat) * 65536
      + (bs.getD 2 0).toNat * 256 + (bs.getD 3 0).toNat)) :: shaBlockWords n (bs.drop 4)

/-- One block. -/
def shaBlock (h : ShaWords) (bs : List Byte) : ShaWords :=
  let ws := (shaExtend 48 (shaBlockWords 16 bs).reverse).reverse
  let v := (shaConstants.zip ws).foldl (fun v kw => shaRound v (BitVec.ofNat 32 kw.1) kw.2) h
  ⟨h.a + v.a, h.b + v.b, h.c + v.c, h.d + v.d, h.e + v.e, h.f + v.f, h.g + v.g, h.h + v.h⟩

/-- Blocks of 64 bytes in turn; the fuel is their number. -/
def shaBlocks : Nat → ShaWords → List Byte → ShaWords
  | 0, h, _ => h
  | n + 1, h, bs => shaBlocks n (shaBlock h (bs.take 64)) (bs.drop 64)

def shaWordBytes (w : Word) : List Byte :=
  [BitVec.ofNat 8 (w.toNat / 16777216), BitVec.ofNat 8 (w.toNat / 65536), BitVec.ofNat 8 (w.toNat / 256), BitVec.ofNat 8 w.toNat]

/-- Eight bytes of the message length in bits, most significant first. -/
def shaLength : Nat → Nat → List Byte → List Byte
  | 0, _, acc => acc
  | k + 1, n, acc => shaLength k (n / 256) (BitVec.ofNat 8 n :: acc)

/-- SHA-256, 32 bytes. -/
def sha256 (m : List Byte) : List Byte :=
  let pad := (64 - (m.length + 9) % 64) % 64
  let whole := m ++ [0x80#8] ++ List.replicate pad 0 ++ shaLength 8 (m.length * 8) []
  let h := shaBlocks (whole.length / 64) shaInit whole
  shaWordBytes h.a ++ shaWordBytes h.b ++ shaWordBytes h.c ++ shaWordBytes h.d
    ++ shaWordBytes h.e ++ shaWordBytes h.f ++ shaWordBytes h.g ++ shaWordBytes h.h

end Sys2Proof.Machine
end

