-- ==== Sys2Proof/Config.lean ====
section
/-! DEFINITION. What one part fixes (its node UID, its keys), the cryptography that the manual takes from FIPS 205, and the free values: each is a constant without a body, so nothing proved of this model can rest on a value of it. -/

namespace Sys2Proof.Config

/-- Node UID of this part (R340). DESIGN CHOICE, safe, log 8. -/
opaque nodeUid : BitVec 64

/-- Byte i of the identity public key (R671). DESIGN CHOICE, safe, log 8. -/
opaque identityByte : Nat → Byte

/-- Byte i of the device certificate (R672), 7,920 bytes. DESIGN CHOICE, safe, log 8. -/
opaque certificateByte : Nat → Byte

/-- Version of the fallow firmware, fixed in mask ROM (R667). DESIGN CHOICE, safe, log 8. -/
opaque fallowVersion : BitVec 32

/-- Byte i of firmware key k in mask ROM (R663). DESIGN CHOICE, safe, log 8. -/
opaque firmwareKeyByte : Nat → Nat → Byte

/-- Whether an SLH-DSA signature verifies (R663, FIPS 205): use (1 firmware, 2 configuration, 4 token), public key, message, signature. DESIGN CHOICE, safe, log 8. -/
opaque verifies : Nat → List Byte → List Byte → List Byte → Bool

/-- Byte i of the identity key's SLH-DSA-SHA2-128f signature over a message (R682). DESIGN CHOICE, safe, log 8. -/
opaque signatureByte : List Byte → Nat → Byte

/-- 16 bytes from the entropy source (R679). DESIGN CHOICE, safe, log 8. -/
opaque entropy : Nat → BitVec 128

/-- A candidate for a new session handle (R64). DESIGN CHOICE, safe, log 8. -/
opaque handle : Nat → BitVec 16

/-- A byte that the manual leaves open (R60: the sequence of a notification frame). DESIGN CHOICE, safe, log 10. -/
opaque freeByte : Nat → Byte

/-- A word that the manual leaves open. DESIGN CHOICE, safe, log 10. -/
opaque freeWord : Nat → Word

/-- A choice that the manual leaves open. DESIGN CHOICE, safe, log 10. -/
opaque freeBool : Nat → Bool

/-- Whether a quotient for which the manual gives no rounding is rounded up: dividend and divisor. DESIGN CHOICE, safe, log 10. -/
opaque roundsUp : Nat → Nat → Bool

/-- Reactive power of 256 sample pairs after 64 of the rod before, fundamental only, with the voltage and current scale words (R532; the manual does not say how the fundamental is taken). DESIGN CHOICE, safe, log 36. -/
opaque reactive : List (Int × Int) → List (Int × Int) → Word → Word → Word

/-- Equivalent microseconds at 75 °C of one second at a die temperature in 0.01 °C (R654, AF × 10^6; the manual gives no rounding). DESIGN CHOICE, safe, log 12. -/
opaque ageing : Int → Nat

/-- The offset reported for a fault that lies in no record of an image or swath: a function of its bytes (R89, R106; the manual states no value). DESIGN CHOICE, safe, log 18. -/
opaque faultOffset : List Byte → Word

/-- The instant that LOOP.MANUAL answers for a loop without time-driven instants (R305; the manual names none): by loop slot and the present instant in tu. DESIGN CHOICE, safe, log 24. -/
opaque unforeseenInstant : Nat → Nat → BitVec 64

/-- The value that stands for an input of a loop that no value has been accepted for (R179, R295; the manual states none): by slot, input and the present instant in tu. DESIGN CHOICE, safe, log 24. -/
opaque unstatedInput : Nat → Nat → Nat → Word

/-- The horizon that CARRY.CHAIN answers for a chain without one (R185, R201; the manual states none): by chain and the present instant in tu. DESIGN CHOICE, safe, log 28. -/
opaque unstatedHorizon : Nat → Nat → BitVec 64

/-- The stage at which a running processor stands (R270): timing, which the model does not hold; by processor and the instant of the strobe in tu. DESIGN CHOICE, safe, log 39. -/
opaque stageAt : Nat → Nat → Byte

/-- The resource that a conflict of R280 names where its object has no resource number (a bead of two GATE routes, the output of the heat record): by object; the manual states none. DESIGN CHOICE, safe, log 18. -/
opaque unstatedResource : Nat → Word

/-- The highest of no forecasts (R220: an offer before the first main pass; the manual states none), in 10 W: by phase and the present instant in tu. DESIGN CHOICE, safe, log 26. -/
opaque unstatedForecast : Nat → Nat → BitVec 32

/-- A current sample shifted by a ct_shift other than 0 (R531: "by interpolation", whose formula the manual does not state): by shift, sample and count of free values taken. DESIGN CHOICE, safe, log 36. -/
opaque shiftedCurrent : Int → Int → Nat → Int

end Sys2Proof.Config
end

