-- ==== Sys2Proof/Machine/State.lean ====
section
/-! DEFINITION. The state of the block, chapter by chapter, as plain data; each field's default is its value after power-on reset, so that `State.reset` is the state with every field at its default. A field's comment gives its width and the rule that names it; "log n" is notes/assumptions/n.md. -/

namespace Sys2Proof.Machine

/-- Why a command stops the block. -/
inductive Fault where
  /-- A design broke a "must" of the manual, and R3 says that the behaviour in that design is not described. Raised by HOST_WINDOW_WRITE into the bulk window while COPYING is set (R41). Safe: the model stops where the hardware goes on in a way the manual does not give. -/
  | outsideManual
deriving DecidableEq, Repr

/-- Why a command has no answer. -/
inductive Refusal where
  /-- The row has no meaning yet; raised by its arm of exec only. Safe. -/
  | notModelled (mnemonic : String)
deriving DecidableEq, Repr

/-! ## 02 Harlopor mailboxes and sessions -/

/-- HIF_STATE.MODE (R38, R622). -/
inductive Mode where
  | bootRom | start | running | fallow | test
deriving DecidableEq, Repr

/-- A transport that sends requests (R61): the local quad-SPI port, or one Ethernet source address. -/
inductive Requester where
  | qspi
  | net (mac : Nat)
deriving DecidableEq, Repr

/-- The 16-byte message header (R42). -/
structure Header where
  code : Nat := 0
  tag : Nat := 0
  length : Nat := 0
  session : Nat := 0
  flags : Nat := 0
  status : Nat := 0
  reserved : Nat := 0
deriving DecidableEq, Repr

/-- The copy of a request from which it is executed (R44), and where its answer goes (R61, R365). -/
structure Request where
  hdr : Header := {}
  payload : List Byte := []
  who : Requester := .qspi
  /-- ingress port, VID, priority code point and sequence of a network request (R365, R60) -/
  port : Nat := 0
  vid : Nat := 0
  pcp : Nat := 0
  seq : Nat := 0
  /-- the bytes of the message, for the replay rule (R62) -/
  message : List Byte := []
  /-- bits [7:4] of a mailbox frame's first byte (R8, R60) -/
  frameReserved : Nat := 0
deriving DecidableEq, Repr

/-- A status code and a payload (R71). -/
structure Answer where
  status : Nat := 0
  payload : List Byte := []
  /-- the deferred command that an ACCEPTED started (R51, R53) -/
  job : Option Nat := none
deriving DecidableEq, Repr

/-- A request from its ring until its response is released (R46), in order of submission (R47). -/
structure Entry where
  req : Request := {}
  answer : Option Answer := none
  /-- its answer is the BUSY of R46 -/
  busy : Bool := false
  /-- its response stands in the response area (R49) -/
  placed : Bool := false
  /-- it is being executed and answers later (R404, R548, R591) -/
  started : Bool := false
  /-- its place in the order in which all doorbells rang (R48) -/
  order : Nat := 0
  /-- clock ticks at its doorbell, for the 50 ms of R24 and R50 -/
  rung : Nat := 0
deriving DecidableEq, Repr

/-- SYS.MBX_STATS (R76), 3 × 32 bits. -/
structure MbxStats where
  requests : Nat := 0
  busy : Nat := 0
  lost : Nat := 0
deriving DecidableEq, Repr

/-- The claim of the bulk window (R57). -/
structure Claim where
  mailbox : Nat := 0
  who : Requester := .qspi
  session : Nat := 0
  target : Nat := 0
  total : Nat := 0
  /-- the slot that targets 1 and 2 named when the claim was made (R57, R59) -/
  slot : Nat := 0
  /-- the data of targets 3 and 4 (R57) -/
  data : List Byte := []
deriving DecidableEq, Repr

/-- A bulk commit that is copying (R58), with the mailbox and tag that asked for it. -/
structure BulkCopy where
  offset : Nat := 0
  length : Nat := 0
deriving DecidableEq, Repr

/-- The HIF_ registers (R36 to R41). -/
structure Hif where
  /-- R38 MODE, 3 bits -/
  mode : Mode := .bootRom
  /-- R38 SUP_PAUSE, 1 bit -/
  supPause : Bool := false
  /-- R39 HIF_REQ_FREE [15:0]; reset R714 -/
  reqFree : BitVec 16 := 0
  /-- R39 HIF_RESP_READY [15:0] -/
  respReady : BitVec 16 := 0
  /-- R39 HIF_DOORBELL_LOST [15:0] -/
  lost : BitVec 16 := 0
  /-- R40 HIF_IRQ_CAUSE, its W1C bits [6:3]; bits [2:0] are computed -/
  cause : BitVec 7 := 0x20#7
  /-- R40 HIF_IRQ_MASK [6:0] -/
  irqMask : BitVec 7 := 0
  /-- R41 HIF_BULK_CTRL COPYING with what is being copied, 1 bit -/
  copying : Option BulkCopy := none
  /-- R41 HIF_BULK_CTRL CLAIMED and OWNER, with the claim of R57 -/
  claim : Option Claim := none
  /-- R41 HIF_BULK_PTR NEXT_OFFSET, 32 bits -/
  nextOffset : Nat := 0
  /-- R33, R34: the bytes that the host port sent in its last read transaction -/
  sent : List Byte := []
deriving DecidableEq, Repr

/-- An open session (R63 to R68, R677, R681). -/
structure Session where
  handle : Nat := 0
  /-- 1 observer, 2 operator, 3 owner -/
  role : Nat := 0
  who : Requester := .qspi
  /-- ingress port of the requester that opened it, with its VID and priority code point (R365) -/
  port : Nat := 0
  vid : Nat := 0
  /-- the token's not_after, if it can still close the session (R681) -/
  notAfter : Option Nat := none
  /-- opened while OSF was set (R681) -/
  osfOpened : Bool := false
  /-- the instant of opening, for the 3,600 s of R681 -/
  openedTicks : Nat := 0
  serial : Nat := 0
deriving DecidableEq, Repr

/-- The challenge a requester holds (R679). -/
structure Challenge where
  who : Requester := .qspi
  nonce : List Byte := []
  /-- clock ticks at issue, for the 60 s of R678 step 4 -/
  issued : Nat := 0
deriving DecidableEq, Repr

/-- A staging buffer of token parts (R680). -/
structure TokenBuffer where
  who : Requester := .qspi
  parts : Nat := 0
  data : List Byte := []
deriving DecidableEq, Repr

/-- A notification waiting for mailbox 15 (R51, R54, R55). -/
structure Notice where
  completion : Bool := false
  code : Nat := 0
  tag : Nat := 0
  session : Nat := 0
  status : Nat := 0
  payload : List Byte := []
deriving DecidableEq, Repr

/-- A deferred command in flight (R51 to R53). -/
structure Deferred where
  /-- its number, by which its ACCEPTED and its completion find it (R51, R53) -/
  job : Nat := 0
  code : Nat := 0
  tag : Nat := 0
  session : Nat := 0
  who : Requester := .qspi
  mailbox : Nat := 0
  port : Nat := 0
  vid : Nat := 0
  /-- its ACCEPTED response has been released or sent (R53) -/
  released : Bool := false
  /-- its final status and payload, once it has finished and waits for that release -/
  final : Option Answer := none
  /-- the requesting session was an owner session, for the OSF bit of R43 -/
  owner : Bool := false
  /-- what the command works on: a slot, a channel, a bus and tag, a unit -/
  object : Nat := 0
deriving DecidableEq, Repr

/-- A finished deferred command (R56). -/
structure Finished where
  session : Nat := 0
  tag : Nat := 0
  status : Nat := 0
deriving DecidableEq, Repr

/-- Event notifications a session lost (R54). -/
structure LostNotice where
  session : Nat := 0
  count : Nat := 0
  code : Nat := 0
deriving DecidableEq, Repr

/-- A class mask a session subscribes to (R55). -/
structure Subscription where
  session : Nat := 0
  mask : BitVec 32 := 0
deriving DecidableEq, Repr

/-- The kept response of a network requester's mailbox (R62). -/
structure Kept where
  mac : Nat := 0
  mailbox : Nat := 0
  seq : Nat := 0
  message : List Byte := []
  /-- the response message, once it has been sent -/
  response : Option (List Byte) := none
deriving DecidableEq, Repr

/-- A network requester (R61, R366). -/
structure NetRequester where
  mac : Nat := 0
  port : Nat := 0
  vid : Nat := 0
deriving DecidableEq, Repr

/-- An out-of-service interval in progress (R24, R78). -/
structure Interval where
  /-- cause of R78 -/
  cause : Nat := 0
  /-- clock ticks at its start -/
  since : Nat := 0
  /-- R25: 0 counts as out of service, 1 no supply, 2 owner-requested fallow -/
  excluded : Nat := 0
  /-- the causes that still hold: the interval ends with the last of them (R24, R78) -/
  active : List Nat := []
deriving DecidableEq, Repr

/-- The counts of one calendar year (R27, R76), 4 × 32 bits. -/
structure YearCount where
  outMs : Nat := 0
  noSupplyMs : Nat := 0
  ownerMs : Nat := 0
  intervals : Nat := 0
deriving DecidableEq, Repr

/-- A kept response that a repeated request asked for during a supervisor pause, and that goes out after it (R30, R62). -/
structure HeldResponse where
  mac : Nat := 0
  vid : Nat := 0
  pcp : Nat := 0
  body : List Byte := []
deriving DecidableEq, Repr

/-- Mailboxes, sessions, notifications and availability (02). -/
structure Mail where
  /-- R44, R46, R47: the outstanding requests of mailboxes 0 to 14 -/
  queues : FMap (List Entry) := []
  /-- R61: the requester each of mailboxes 1 to 14 is bound to -/
  bound : FMap (Option Requester) := []
  /-- R76 SYS.MBX_STATS; reset log 6 -/
  stats : FMap MbxStats := []
  /-- R61, R366: at most 16 network requesters -/
  requesters : List NetRequester := []
  /-- R366: sources for which RING.REQUESTERS_FULL was raised -/
  refusedSources : List Nat := []
  /-- R62 -/
  kept : List Kept := []
  /-- R65: at most 16 open sessions -/
  sessions : List Session := []
  /-- R64: the last 256 handles issued, newest first -/
  handles : List Nat := []
  /-- R55 -/
  subscriptions : List Subscription := []
  /-- R679 -/
  challenges : List Challenge := []
  /-- R680: at most 4 -/
  tokens : List TokenBuffer := []
  /-- R54: the notification queue of mailbox 15, oldest first, at most 64 -/
  notices : List Notice := []
  /-- R49: the front notification stands in the response area of mailbox 15 -/
  noticePlaced : Bool := false
  /-- R54 -/
  lostNotices : List LostNotice := []
  /-- R52: at most 16 in flight -/
  deferred : List Deferred := []
  /-- R56: the last 16 completed of each session, newest first -/
  finished : List Finished := []
  /-- R27: kept in MRAM; log 7 -/
  years : FMap YearCount := []
  /-- R24, R78; after power-on reset the chip is not in service until a confirmed start -/
  outage : Option Interval := some ⟨3, 0, 0, [3]⟩
  /-- R48: doorbells rung since power-on -/
  rings : Nat := 0
  /-- R51: deferred commands started since power-on -/
  jobs : Nat := 0
  /-- R30: responses to network requesters that wait for the end of a supervisor pause -/
  heldResponses : List HeldResponse := []
deriving DecidableEq, Repr

/-! ## 03 Base configuration and swaths -/

/-- A configuration record (R85): type, instance number and value. -/
structure Record where
  type : Nat := 0
  inst : Nat := 0
  value : List Byte := []
deriving DecidableEq, Repr

/-- A base image once accepted (R84, R665). -/
structure BaseImage where
  /-- bit 0 QSPI_OPERATOR, bit 1 SWATH_LOAD -/
  flags : Nat := 0
  version : Nat := 0
  rollbackFloor : Nat := 0
  boundUid : Nat := 0
  records : List Record := []
  /-- the configuration key its trailer names (R686) -/
  key : Nat := 0
  /-- SHA-256 of header and records (R92) -/
  hash : List Byte := []
deriving DecidableEq, Repr

/-- A swath (R92). -/
structure Swath where
  number : Nat := 0
  level : Nat := 0
  /-- its 64 header bytes, for CFG.SWATH_READ -/
  header : List Byte := []
  records : List Record := []
  /-- carried inside the base image (R87) -/
  carried : Bool := false
deriving DecidableEq, Repr

/-- What a slot holds: nothing, part of an image, a whole image, or one that passed validation (R59, R106). -/
inductive SlotState where
  | empty | partly | written | validated
deriving DecidableEq, Repr

/-- An image slot: configuration (R82) or firmware (R666). -/
structure ImageSlot where
  state : SlotState := .empty
  bytes : List Byte := []
  /-- R647: a word of it was damaged by an uncorrectable error, and its signature fails -/
  damaged : Bool := false
deriving DecidableEq, Repr

/-- A staged swath change (R97, R99, R100). -/
structure Staged where
  level : Nat := 0
  /-- the swath to set, or none to clear the level -/
  swath : Option Nat := none
  /-- 0 bead, 1 loop, 2 panel, 3 mailbox -/
  source : Nat := 0
  /-- bead, trigger or key number, or mailbox tag -/
  number : Nat := 0
  /-- cycle of the boundary at which it applies -/
  boundary : Nat := 0
deriving DecidableEq, Repr

/-- CFG.REPORT (R106, R107). -/
structure Report where
  step : Nat := 0
  status : Nat := 0
  offset : Nat := 0
  type1 : Nat := 0
  inst1 : Nat := 0
  type2 : Nat := 0
  inst2 : Nat := 0
  resource : Nat := 0
deriving DecidableEq, Repr

/-- A validation in progress (R89, R103). -/
structure Validation where
  slot : Nat := 0
  activate : Bool := false
  /-- the deferred command it completes -/
  job : Nat := 0
deriving DecidableEq, Repr

/-- A loop-condition trigger's consecutive committed samples (R88). -/
structure TriggerCount where
  on : Nat := 0
  off : Nat := 0
deriving DecidableEq, Repr

/-- Configuration (03). Slots, stack and loaded swaths are in MRAM. -/
structure Cfg where
  /-- slots A and B, 256 KiB each; log 7 -/
  slotA : ImageSlot := {}
  slotB : ImageSlot := {}
  /-- the active slot, 0 A or 1 B; log 7 -/
  active : Nat := 0
  /-- the base image in force, once the boot ROM has applied one (R623 step 4) -/
  base : Option BaseImage := none
  /-- R83, R95: four levels, each a swath number or none; in MRAM; log 7 -/
  stack : List (Option Nat) := [none, none, none, none]
  /-- R96: swaths loaded with CFG.SWATH_LOAD -/
  loaded : List Swath := []
  /-- R97 to R100, in order of staging -/
  staged : List Staged := []
  /-- R103: a validation in progress -/
  validating : Option Validation := none
  /-- R103: a claim-preserving image that takes effect at the next boundary -/
  nextBase : Option BaseImage := none
  /-- R103: cycle of the boundary of a claim-changing restart -/
  restartAt : Option Nat := none
  /-- R397, R472, R557, R715: no configuration has been applied since power-on reset; the base is the image that fallow mode takes polarities and bit timing from -/
  borrowed : Bool := false
  /-- R103: the claim-changing CFG.ACTIVATE whose completion is not placed yet -/
  restartJob : Option Nat := none
  /-- R107 -/
  report : Option Report := none
  /-- R88 -/
  triggers : FMap TriggerCount := []
deriving DecidableEq, Repr

/-! ## 04 Mains phase timebase -/

/-- R118. -/
inductive TbState where
  | acquire | locked | flywheel | nominal | slew
deriving DecidableEq, Repr

/-- One crossing detector (R110 to R112, R126, R128). -/
structure PhaseInput where
  /-- R112: the last 16 valid intervals in ns, newest first -/
  intervals : List Nat := []
  /-- R111: the last valid interval in ns, 0 before the first -/
  lastPeriod : Nat := 0
  /-- R111: angle stamp in 1/16 tu and cycle of the last crossing that was valid -/
  lastValid : Option Instant := none
  /-- R112: consecutive rods without a valid crossing, saturating at 3 -/
  silentRods : Nat := 3
  /-- a valid crossing came in the present rod -/
  seen : Bool := false
  /-- R129: consecutive rods with a valid crossing, saturating at 8 -/
  presentRods : Nat := 0
  /-- R139 peak in mV at the ball, 16 bits -/
  peak : Nat := 0
  /-- the angle of its last valid crossing, 16 bits -/
  angle : Nat := 0
  /-- R128: relative angles to the reference over the last 256 rods in which both were present, newest first -/
  relative : List Nat := []
deriving DecidableEq, Repr

/-- A chip heard through its cycle marks (R131, R716). -/
structure Heard where
  uid : Nat := 0
  /-- cycle in which its last mark was received -/
  cycle : Nat := 0
  state : Nat := 0
  flags : Nat := 0
deriving DecidableEq, Repr

/-- PHASE.MEASURE_OFFSET under way (R141). -/
structure Measure where
  /-- the deferred command it completes -/
  job : Nat := 0
  sum : Int := 0
  used : Nat := 0
  rods : Nat := 0
deriving DecidableEq, Repr

/-- The timebase and site cycle numbering (04). -/
structure Phase where
  /-- R118 -/
  state : TbState := .acquire
  /-- R9, R10: the present cycle number (48 bits; R133) and angle (16 bits; log 6) -/
  now : Instant := {}
  /-- R119: the first rod has started -/
  started : Bool := false
  /-- R715: a configuration has been applied since power-on reset -/
  applied : Bool := false
  /-- R239: the measured reference frequency of the last closed rod, in µHz, if one was measured in LOCKED or SLEW -/
  rodFrequency : Option Nat := none
  /-- R119: the timebase has left ACQUIRE, so rods may start -/
  left : Bool := false
  /-- R133 COUNT_VALID -/
  countValid : Bool := false
  /-- R132 MASTER -/
  master : Bool := false
  /-- R716: UID of the chip followed as master -/
  follows : Option Nat := none
  /-- R132, R133: cycles since which no lower-UID candidate, and no lower-UID eligible chip, has been heard, in rods -/
  quietCandidates : Nat := 0
  quietEligible : Nat := 0
  /-- R132, R133: this rod does not count as quiet: a mark of a lower-UID candidate, or of a lower-UID eligible chip, has come in it, or the chip was no candidate at its start -/
  candidateHeard : Bool := false
  eligibleHeard : Bool := false
  /-- R716, R139: marks of the last 8 rods, one per sender -/
  heard : List Heard := []
  /-- R128: the phase substituted for the reference (REF_SUB) -/
  refSub : Option Nat := none
  /-- R128: the expected angle of the substitute -/
  subAngle : Nat := 0
  /-- R126 ROTATION_ERROR, and rods of correct rotation -/
  rotationError : Bool := false
  rotationGood : Nat := 0
  /-- R136 SITE_MISMATCH, with its runs of marks outside and inside ±512 tu -/
  siteMismatch : Bool := false
  outside : Nat := 0
  inside : Nat := 0
  /-- R139 the last d, 16 bits signed; log 6 -/
  lastD : Int := 0
  /-- R140 e at the last reference crossing, 16 bits signed; log 6 -/
  lastE : Int := 0
  /-- R139 rods in state, 32 bits -/
  rodsInState : Nat := 0
  /-- R118: consecutive valid reference crossings -/
  good : Nat := 0
  /-- R121: consecutive crossings with |e| above 2,048 -/
  bigErrors : Nat := 0
  /-- R122: the slew direction is fast -/
  slewFast : Bool := false
  /-- R122: the error expected at the next crossing in SLEW -/
  slewExpected : Int := 0
  /-- R120: consecutive missing reference crossings -/
  missing : Nat := 0
  /-- R118: the last frequency in µHz, for FLYWHEEL -/
  lastFrequency : Nat := 0
  /-- R118: cycles since the last valid reference crossing -/
  sinceValid : Nat := 0
  /-- R118, R715: turns of the phase clock in ACQUIRE since a configuration was first applied -/
  acquireTurns : Nat := 0
  /-- the three detectors, L1 to L3 -/
  inputs : FMap PhaseInput := []
  /-- R134, R135: the count to be taken at the next boundary, and its case -/
  step : Option (Nat × Nat) := none
  /-- R134 case 4: rods begun since the first mark of the master's with a lower count, that rod counted; 0 without one -/
  behindRods : Nat := 0
  /-- R141 -/
  measures : List Measure := []
  /-- R117, R643: the phase-clock PLL in service -/
  pll : Nat := 0
  /-- R348: sender × 2^48 + cycle of the last mark taken from each sender -/
  markSenders : List Nat := []
deriving DecidableEq, Repr

/-! ## 05 The abacus -/

/-- A bead slot that is not free (R142); key: the bead number. -/
structure Bead where
  /-- 1 configured, 2 placed -/
  origin : Nat := 0
  /-- the 32-byte record of R145 in the table; empty while a placement awaits its boundary -/
  record : List Byte := []
  /-- R152 -/
  spent : Bool := false
deriving DecidableEq, Repr

/-- A change of the table that awaits a boundary (R165). -/
structure BeadChange where
  bead : Nat := 0
  /-- 0 place, 1 remove, 2 enable -/
  kind : Nat := 0
  record : List Byte := []
  enable : Bool := false
  boundary : Nat := 0
deriving DecidableEq, Repr

/-- An occurrence (R156, R170, R210). -/
structure Occ where
  bead : Nat := 0
  /-- home rod (R210) -/
  home : Nat := 0
  /-- the rod it stands in, or slides to -/
  rod : Nat := 0
  /-- R174: 0 admitted, 1 admitted provisionally, 2 fired, 3 slid out, 4 skipped -/
  state : Nat := 0
  /-- rods slid -/
  slid : Nat := 0
  /-- the carry entry it depends on (R158) -/
  entry : Option Nat := none
  /-- angle at which it fired -/
  firedAngle : Nat := 0
  /-- the 32-byte record it was admitted under (R166) -/
  record : List Byte := []
  /-- R192: the tick at which its entry settled -/
  settled : Option Instant := none
deriving DecidableEq, Repr

/-- The bead layer of one general output (R161). -/
structure BeadLayer where
  /-- base level: none released -/
  base : Option Bool := none
  /-- the level of a pulse under way, and the instant of its return -/
  pulse : Option (Bool × Instant) := none
deriving DecidableEq, Repr

/-- What Harlopor keeps of a calendar bead (R153, R154). -/
structure Calendar where
  /-- the start and period its indices count on, once it has entered the table -/
  rule : Option (Nat × Nat) := none
  /-- the index k to arm next -/
  next : Nat := 0
  /-- the rod armed -/
  armed : Option Nat := none
deriving DecidableEq, Repr

/-- The abacus (05). -/
structure Abacus where
  /-- R169: it fires and lists -/
  running : Bool := false
  /-- R142: 4,096 slots, those not free -/
  beads : FMap Bead := []
  /-- R165 -/
  changes : List BeadChange := []
  /-- R156: the rod list of the current rod -/
  current : List Occ := []
  /-- R156, R174: the list of the next rod, once its main pass has closed -/
  next : Option (List Occ) := none
  /-- R156: occurrences sliding into a later rod -/
  sliding : List Occ := []
  /-- R161: 40 outputs -/
  layer : FMap BeadLayer := []
  /-- R154, R169 -/
  calendar : FMap Calendar := []
  /-- R215: occurrences that were dropped or skipped, by bead and home rod, as long as that rod could be admitted to singly -/
  ended : List (Nat × Nat) := []
  /-- R172 BEAD.STATS: 4 × 32, 2 × 16 and 32 bits; log 6 -/
  fired : Nat := 0
  slidCount : Nat := 0
  skipped : Nat := 0
  late : Nat := 0
  peakRod : Nat := 0
  peakAngle : Nat := 0
  provAdmitted : Nat := 0
deriving DecidableEq, Repr

/-! ## 06 The carry table -/

/-- What a provisional loop sample left (R175, R253): the registers and flags that commit when its chain settles, and the traced values of R300. -/
structure Result where
  /-- the sample has run -/
  ready : Bool := false
  /-- the register file at its end (R238) -/
  file : List Word := []
  /-- flags of its stages, and the first stage that set one (R253, R254) -/
  flags : Nat := 0
  first : Option Nat := none
  /-- an input failed its check, and PLAUS is due (R295) -/
  check : Bool := false
  /-- taken in SOFT, the values its ramps start from where it was the first, and whether a ramp acted (R288) -/
  soft : Bool := false
  base : List Word := []
  ramped : Bool := false
  /-- the plant model's prediction at it (R294), and the inputs that held provisional values (R194) -/
  predicted : Word := 0x00000080#32
  provisional : List Nat := []
  /-- its latched inputs, and DT (R261) -/
  inputs : List Word := []
  dt : Word := 0x00000080#32
  /-- the loop's sample count at it (R300) -/
  count : Nat := 0
  /-- the timing mode PERIOD was current at its sample instant (R286) -/
  period : Bool := false
deriving DecidableEq, Repr

/-- A carry entry that is not FREE (R182), 32 bytes; key: its number. -/
structure CarryEntry where
  /-- 0 FREE, 1 OPEN, 2 HELD -/
  state : Nat := 0
  /-- R176 -/
  kind : Nat := 0
  chain : Nat := 0
  /-- bit 0 ROOT, bit 1 RECOMPUTED, bit 2 SLID -/
  root : Bool := false
  recomputed : Bool := false
  slid : Bool := false
  owner : Nat := 0
  sourceKind : Nat := 0
  input : Nat := 0
  source : Nat := 0
  opened : Instant := {}
  horizon : Option Instant := none
  predicted : Word := 0
  tolerance : Word := 0
  /-- order of opening (R183, R187) -/
  order : Nat := 0
  /-- the value that arrived for a root (R186) -/
  arrived : Option Word := none
  /-- the root's arrived value lies outside the tolerance and its recomputation is still to run (R188) -/
  recompute : Bool := false
  /-- the provisional result of a loop entry -/
  result : Result := {}
  /-- the instant of the loop sample (R283) -/
  instant : Instant := {}
  /-- R190: the field transaction that an INPUT root awaits, by its order -/
  tx : Option Nat := none
deriving DecidableEq, Repr

/-- The carry hardware (06). -/
structure Carry where
  /-- R175: 128 entries -/
  entries : FMap CarryEntry := []
  /-- the next order number -/
  order : Nat := 0
  /-- R199, R201 full -/
  full : Bool := false
  /-- R197; 32 bits each, saturating -/
  opened : Nat := 0
  settled : Nat := 0
  recomputed : Nat := 0
  /-- drops by cause 1 to 9 -/
  dropped : FMap Nat := []
  refused : Nat := 0
  peak : Nat := 0
  longest : Nat := 0
  /-- latencies in tu of the last 1,024 chains, newest first -/
  latencies : List Nat := []
  latencyMax : Nat := 0
  /-- R192: the loops whose provisional samples dropped at a tick, that tick's only -/
  dropsNow : List (Nat × Instant) := []
deriving DecidableEq, Repr

/-! ## 07 The reckoner -/

/-- A lease slot (R216). -/
structure Lease where
  number : Nat := 0
  confirmed : Bool := false
  start : Nat := 0
  expiry : Nat := 0
  confirmBy : Nat := 0
  /-- kW per phase -/
  power : List Nat := [0, 0, 0]
  ramp : List Nat := [0, 0, 0]
deriving DecidableEq, Repr

/-- A confirmed loan, borrowed or lent (R216, R222). -/
structure Loan where
  lent : Bool := false
  phase : Nat := 0
  kw : Nat := 0
  number : Nat := 0
  borrower : Nat := 0
  lender : Nat := 0
  start : Nat := 0
  expiry : Nat := 0
  /-- R225: ended by a RETURN, and in force until its expiry only -/
  returned : Bool := false
deriving DecidableEq, Repr

/-- A BORROW outstanding (R221). -/
structure Borrow where
  phase : Nat := 0
  kw : Nat := 0
  number : Nat := 0
  lender : Nat := 0
  start : Nat := 0
  sent : Nat := 0
deriving DecidableEq, Repr

/-- A BORROW this chip has answered (R348). -/
structure Answered where
  borrower : Nat := 0
  number : Nat := 0
  body : List Byte := []
deriving DecidableEq, Repr

/-- The measured accounts of one closed rod (R206, R533): energies in J, end powers in 10 W, heat in J. -/
structure Closed where
  rod : Nat := 0
  energy : List Nat := [0, 0, 0]
  endPower : List Int := [0, 0, 0]
  invalid : List Bool := [true, true, true]
  heat : Int := 0
  heatInvalid : Bool := true
deriving DecidableEq, Repr

/-- The cost of an occurrence of one rod, kept for the forecasts of R204 and R206. -/
structure Cost where
  rod : Nat := 0
  phase : Nat := 0
  power : Int := 0
  heat : Int := 0
  /-- the angle at which it fired, if it has fired committed -/
  fired : Option Nat := none
  bead : Nat := 0
deriving DecidableEq, Repr

/-- One account set of a rod (R203, R211): charges of admitted occurrences, provisional reservations included. -/
structure Charges where
  rod : Nat := 0
  power : List Int := [0, 0, 0]
  ramp : List Nat := [0, 0, 0]
  heat : Int := 0
deriving DecidableEq, Repr

/-- RECK.STATS (R233), 12 × 32 bits. -/
structure ReckStats where
  admitted : Nat := 0
  provisional : Nat := 0
  refused : FMap Nat := []
  dropped : Nat := 0
  overflows : Nat := 0
  borrows : Nat := 0
  lent : Nat := 0
deriving DecidableEq, Repr

/-- The reckoner (07). Leases and loans are in MRAM. -/
structure Reck where
  /-- R216; log 7 -/
  current : Option Lease := none
  next : Option Lease := none
  /-- R216; log 7 -/
  loans : List Loan := []
  borrows : List Borrow := []
  /-- the next loan number's low bits (R222); log 6 -/
  nextLoan : Nat := 1
  answered : List Answered := []
  /-- R221: lenders that refused this chip, with the cycle -/
  refusedBy : List (Nat × Nat) := []
  /-- R224: loans treated as refused -/
  lapsed : List Nat := []
  /-- R228: loans whose RETURN came before their GRANT, with the tick -/
  returnsSeen : List (Nat × Instant) := []
  /-- R234: the number of the lease last refused by its deadline -/
  deadlined : Option Nat := none
  /-- R226: H as last written by the heat loop, and the instant of the write -/
  heatWritten : Option Nat := none
  heatInstant : Instant := {}
  /-- R226: HEAT_FALLBACK raised in this episode -/
  fallback : Bool := false
  /-- R21, R228: H as written (none: the fallback) before the first write of this rod at angle 61,440 or later, which the main pass does not count -/
  heatLate : Option (Option Nat) := none
  /-- R206 B -/
  balance : Int := 0
  /-- R206 H(N): the heat budget in force as the rod began (log 26) -/
  rodBudget : Nat := 0
  /-- R208, R533: the last closed rods, newest first -/
  closed : List Closed := []
  /-- R208: rods whose accounts have closed since the start -/
  closedCount : Nat := 0
  /-- R204: costs of the last rods -/
  costs : List Cost := []
  /-- R211, R214: charges of the rod listed last and of the current rod -/
  charges : Charges := {}
  chargesNow : Charges := {}
  /-- R204: the forecasts of the last main pass -/
  forecast : List Int := [0, 0, 0]
  /-- R227, R231, R233: the same forecasts without provisional reservations, and what stands beside them: excess, limits -/
  shown : List Int := [0, 0, 0]
  forecastHeat : Int := 0
  excess : Int := 0
  limit : List Int := [0, 0, 0]
  rampLimit : List Nat := [0, 0, 0]
  /-- R220: forecasts of the last 256 passes per phase, newest first -/
  forecasts : List (List Int) := []
  /-- R219: cycle of the last RECK.OVER_LIMIT per phase, and the phases over their limit until their forecast falls within it -/
  overRaised : FMap Nat := []
  overLimit : List Bool := [false, false, false]
  /-- R207: an episode of RECK.METER_INVALID per phase -/
  meterEpisode : List Bool := [false, false, false]
  /-- R212: rods and accounts (account × 4 + phase) for which the overflow was raised -/
  overflowed : List (Nat × Nat) := []
  /-- R233; log 6 -/
  stats : ReckStats := {}
deriving DecidableEq, Repr

/-! ## 08 and 09 The control engine -/

/-- R287. -/
inductive LoopMode where
  | disabled | soft | run | hold | manual
deriving DecidableEq, Repr

/-- A sample (R242, R261): what was latched, and what it has become. -/
structure Sample where
  slot : Nat := 0
  instant : Instant := {}
  /-- the readings latched, each with its block's invalid mark (R278, R281) -/
  raw : List (Word × Bool) := []
  /-- R281: its LOOP inputs whose latch still waits for a producing loop's result of the same instant; while some do it is loose -/
  late : List Nat := []
  loose : Bool := false
  /-- R183: inputs that hold a provisional value, with the order number of the entry they read -/
  reads : List (Nat × Nat) := []
  /-- the IN registers, checked (R261, R295) -/
  inputs : List Word := []
  /-- OUT and ST as it starts (R238) -/
  out : List Word := []
  st : List Word := []
  /-- the constants and the supervision record in force at the instant (R261) -/
  consts : List Word := []
  sup : List Byte := []
  /-- DT at the instant (R239) -/
  dt : Word := 0x00000080#32
  /-- R288: taken in SOFT; where it is the first, the values its ramps start from -/
  soft : Bool := false
  base : List Word := []
  /-- R294: the plant model's prediction -/
  predicted : Word := 0x00000080#32
  /-- the processor, once started -/
  processor : Nat := 0
  /-- the carry entry it opened, if it runs provisionally -/
  entry : Option Nat := none
  /-- the inputs that have not arrived (R177, R178, R282) -/
  awaits : List Nat := []
  /-- an input failed its check (R295) -/
  check : Bool := false
  /-- the loop's sample count at it (R300) -/
  count : Nat := 0
  /-- the timing mode PERIOD was current at its instant (R286) -/
  period : Bool := false
  /-- R266, R267: 0 unchecked, 1 the original of a checked sample, 2 its duplicate, 3 the third run; and the duplicate's processor -/
  part : Nat := 0
  partner : Nat := 0
  /-- R263: its chain dropped while it ran -/
  dropped : Bool := false
deriving DecidableEq, Repr

/-- A committed result that falls due later (R283). -/
structure Due where
  instant : Instant := {}
  out : List Word := []
deriving DecidableEq, Repr

/-- A loop slot (08, 09). -/
structure Loop where
  /-- R287; reset R292, R144: disabled until a start loads the records -/
  mode : LoopMode := .disabled
  /-- R283: the current timing mode is PERIOD -/
  period : Bool := false
  /-- R286 -/
  clean : Nat := 0
  /-- R251, 16 bits -/
  flags : BitVec 16 := 0
  /-- R238: IN of the last committed sample, OUT and ST committed; ST zero at a start (R290) -/
  inp : List Word := []
  out : List Word := []
  st : List Word := []
  /-- R295: consecutive implausible, and in HOLD consecutive plausible, samples -/
  implausible : Nat := 0
  plausible : Nat := 0
  /-- R276, R295: 0 none, 1 IMPLAUSIBLE, 2 INNER -/
  holdCause : Nat := 0
  /-- R304: samples held -/
  held : Nat := 0
  /-- R305 counters, 32 bits each; log 6 -/
  samples : Nat := 0
  overruns : Nat := 0
  misses : Nat := 0
  fallbacks : Nat := 0
  lastCommit : Instant := {}
  /-- R291: the mask and values of the last LOOP.MANUAL -/
  manual : Option (Nat × List Word) := none
  /-- R306: a LOOP.MANUAL that applies from the next sample instant: its mask and values, or to leave MANUAL -/
  manualNext : Option (Option (Nat × List Word)) := none
  /-- R283: the value last applied on each route, for those ever applied -/
  applied : FMap (Option Word) := []
  /-- R294, R295: the last accepted value of each input -/
  accepted : FMap (Option Word) := []
  /-- R294: committed output history of model_out, newest first, 64 samples -/
  history : List Word := []
  bias : Word := 0x00000080#32
  predicted : Word := 0x00000080#32
  residual : Word := 0x00000080#32
  /-- R305 implausible samples, 32 bits -/
  implausibles : Nat := 0
  /-- R288: the next sample is the first in SOFT -/
  softFirst : Bool := false
  /-- R283: results that fall due later, in order -/
  due : List Due := []
  /-- R282: the sample that awaits an input -/
  waiting : Option Sample := none
  /-- R306: LOOP.ENABLE in force over the supervision record -/
  enable : Option Bool := none
  /-- R306: a LOOP.ENABLE that awaits its boundary -/
  enableNext : Option (Bool × Nat) := none
  /-- R177: instant of the previous sample -/
  previous : Option Instant := none
  /-- R281: the loop's FIELD inputs that have had a reading since it was enabled -/
  fieldSeen : FMap Bool := []
deriving DecidableEq, Repr

/-- A trace channel (R300, R301). -/
structure Trace where
  /-- 0 idle, 1 recording, 2 triggered, 3 stopped -/
  state : Nat := 0
  trigger : Nat := 0
  j : Nat := 0
  slot : Nat := 0
  register : Nat := 0
  post : Nat := 0
  mask : Nat := 0
  /-- entries, oldest first, at most 4,096: value and tag -/
  entries : List (Word × Nat) := []
  triggerIndex : Nat := 0
  triggerInstant : Instant := {}
  left : Nat := 0
deriving DecidableEq, Repr

/-- A stage processor (R261 to R269); key 0 to 8. -/
structure Processor where
  /-- the sample it runs -/
  sample : Option Sample := none
  /-- R267, R268 -/
  retired : Bool := false
deriving DecidableEq, Repr

/-- The control engine (08, 09). -/
structure Engine where
  /-- R119: loops sample -/
  running : Bool := false
  /-- R235 to R306: 512 slots, those not at their reset value -/
  loops : FMap Loop := []
  /-- R262: samples waiting for a processor -/
  queue : List Sample := []
  /-- R188, R262: carry entries whose recomputation waits -/
  recomputes : List Nat := []
  /-- R261: processors 0 to 8 -/
  processors : FMap Processor := []
  /-- R267: checked samples whose two runs differ and whose third run waits -/
  thirds : List Sample := []
  /-- R268, R643: the processor the spare has taken over, once it serves -/
  spareServes : Option Nat := none
  /-- R266: the processor whose turn it is, and whether its first sample of the present rod has started -/
  checkTurn : Nat := 0
  checkedRod : Bool := false
  /-- R270: 16 and 32 bits; log 6 -/
  peakWaiting : Nat := 0
  checks : Nat := 0
  mismatches : Nat := 0
  noMajority : Nat := 0
  /-- R305 waits given up, 32 bits; log 6 -/
  givenUp : Nat := 0
  /-- R300: 16 channels -/
  traces : FMap Trace := []
deriving DecidableEq, Repr

/-! ## 10 The commons -/

/-- A point (R307), 16 bytes. -/
structure Point where
  /-- 64 bits, encoded as in R309 -/
  value : Nat := 0
  stamp : Nat := 0
  writer : Nat := 0
  type : Nat := 0
  /-- R308, 16 bits -/
  quality : Nat := 0
deriving DecidableEq, Repr

/-- An entry of the transmit queue (R327, R330). -/
structure TxEntry where
  point : Nat := 0
  type : Nat := 0
  standby : Bool := false
  stamp : Nat := 0
  value : Nat := 0
  /-- R330: 0 PUBLISH or COMMONS.WRITE, 1 republish, 2 refresh -/
  kind : Nat := 0
  /-- R330: when it was queued -/
  queued : Instant := {}
deriving DecidableEq, Repr

/-- An update received for a cut later than the coming one (R313, R314). -/
structure HeldUpdate where
  sender : Nat := 0
  point : Nat := 0
  type : Nat := 0
  standby : Bool := false
  stamp : Nat := 0
  value : Nat := 0
deriving DecidableEq, Repr

/-- What this chip keeps of another chip number (R319, R329, R333). -/
structure ChipSeen where
  /-- silent count, 8 bits -/
  silent : Nat := 0
  /-- COMMONS.CHIPS flags -/
  flags : Nat := 0
  /-- cut marks received for cuts not yet taken: cut, COUNT_VALID, updates -/
  marks : List (Nat × Bool × Nat) := []
  /-- entries without REFRESH accepted, by cut -/
  received : FMap Nat := []
  /-- R323, R333: rejected entries since the last report, the first point, and the rod of the last report -/
  rejected : Nat := 0
  rejectedPoint : Nat := 0
  rejectedAt : Option Nat := none
  /-- R333: an episode of MAP_MISMATCH -/
  mismatch : Bool := false
deriving DecidableEq, Repr

/-- A block's writer state (R320). -/
structure BlockState where
  /-- 0 NONE, 1 PRIMARY, 2 STALE, 3 STANDBY, 4 RETURNING -/
  state : Nat := 0
  /-- consecutive cuts at which the primary was present, in RETURNING -/
  returning : Nat := 0
deriving DecidableEq, Repr

/-- Late updates of one cut (R315, R333). -/
structure LateCount where
  cut : Nat := 0
  count : Nat := 0
  point : Nat := 0
  sender : Nat := 0
  raised : Bool := false
deriving DecidableEq, Repr

/-- The commons (10). -/
structure Commons where
  /-- R307, R320: the copy in force; unlisted points are as R325 clears them -/
  view : FMap Point := []
  /-- R314: the copy that is filling -/
  fill : FMap Point := []
  /-- R320: the copy frozen at the cut, which becomes the view at the boundary (R19 step 1) -/
  frozen : Option (FMap Point) := none
  /-- R308, R320: blocks whose points have STALE set, in the view and in the frozen copy -/
  viewStale : FMap Bool := []
  frozenStale : FMap Bool := []
  /-- R334: cycle of the view -/
  viewCycle : Nat := 0
  /-- R319 -/
  chips : FMap ChipSeen := []
  /-- R320: 1,024 blocks -/
  blocks : FMap BlockState := []
  /-- R321, R330: points that wait to be republished -/
  republish : List Nat := []
  /-- R330: the transmit queue, at most 1,024 entries -/
  txq : List TxEntry := []
  /-- R328: entries without REFRESH assigned, by cut -/
  assigned : FMap Nat := []
  /-- R326: the next point of the rotation -/
  refreshNext : Nat := 0
  /-- R313: updates for a later cut -/
  held : List HeldUpdate := []
  /-- R178: the type and value of the first update of a point since the cut that made the view, and since the last cut -/
  sinceView : FMap (Option (Nat × Nat)) := []
  sinceCut : FMap (Option (Nat × Nat)) := []
  late : List LateCount := []
  /-- R330: PUBLISH entries not queued in this rod, the first point, and whether COMMONS.QUEUE_FULL was raised -/
  notQueued : Nat := 0
  notQueuedPoint : Nat := 0
  queueFullRaised : Bool := false
  /-- R334 COMMONS.STATS in its order, 10 × 32 bits; log 6 -/
  stats : FMap Nat := []
  /-- R334 peak queue, 16 bits -/
  peakQueue : Nat := 0
  /-- R149: PUBLISH beads suppressed, counted -/
  suppressed : Nat := 0
  /-- the cut of the present rod has been taken -/
  cutDone : Bool := false
deriving DecidableEq, Repr

/-! ## 11 Ring and host ports -/

/-- A switch port (R336 to R345, R354). -/
structure Port where
  /-- R338 link up -/
  link : Bool := false
  /-- R338 SerDes in low-power idle -/
  lowPower : Bool := false
  /-- R345: eight egress queues, oldest first -/
  queues : FMap (List EthFrame) := []
  /-- R372 RING.PORT: 19 × 32 bits in its order; log 6 -/
  counters : FMap Nat := []
  /-- R354: entry of the gate list in force -/
  gate : Nat := 0
  /-- R371: rod of the last RING.QUEUE_DROP, and frames dropped since -/
  dropRaised : Option Nat := none
  drops : Nat := 0
  /-- R372 peer delay in ns -/
  peerDelay : Nat := 0
  /-- the frame that left last; a cycle mark as it was stamped at egress (R131) -/
  sent : Option EthFrame := none
deriving DecidableEq, Repr

/-- An entry of the duplicate table (R347). -/
structure Duplicate where
  src : Nat := 0
  seq : Nat := 0
  rxEast : Bool := false
  rxWest : Bool := false
  txEast : Bool := false
  txWest : Bool := false
  made : Instant := {}
deriving DecidableEq, Repr

/-- An entry of the node table (R346). -/
structure RingNode where
  mac : Nat := 0
  east : Bool := false
  west : Bool := false
  proxy : Bool := false
  /-- clock ticks at its last supervision frame -/
  seen : Nat := 0
deriving DecidableEq, Repr

/-- A proxy node (R350). -/
structure Proxy where
  mac : Nat := 0
  vid : Nat := 0
  frames : Nat := 0
  /-- its HSR sequence number (R346), 16 bits -/
  seq : Nat := 0
deriving DecidableEq, Repr

/-- A frame the switch has delivered to the chip and no receiver has taken yet (R342). -/
structure Delivered where
  port : Nat := 0
  frame : EthFrame := {}
deriving DecidableEq, Repr

/-- The PTP clock (R358 to R361). -/
structure Ptp where
  /-- R372: 0 disabled, 1 listening, 2 slave, 3 slave with PTP_SYNC, 4 grandmaster -/
  state : Nat := 0
  sync : Bool := false
  disagree : Bool := false
  grandmaster : Nat := 0
  /-- R358: rank of the best master heard, and the clock ticks at its last Announce, or at which PTP began to listen -/
  rank : Nat := 0
  heardTicks : Nat := 0
  /-- R358: sequence numbers of this chip's Announce, Sync and Pdelay_Req messages, 16 bits; log 6 -/
  announceSeq : Nat := 0
  syncSeq : Nat := 0
  delaySeq : Nat := 0
  offset : Int := 0
  pathDelay : Nat := 0
  /-- R360: a path delay has been measured with PTP_SYNC set -/
  pathKnown : Bool := false
  dPtp : Int := 0
  /-- R359: Syncs inside and beyond ±1 µs, and rods without a Sync -/
  inside : Nat := 0
  beyond : Nat := 0
  silent : Nat := 0
  seen : Bool := false
  /-- R361: rods beyond and within 64 tu -/
  apart : Nat := 0
  near : Nat := 0
  /-- R372 Syncs missed, 32 bits -/
  missed : Nat := 0
deriving DecidableEq, Repr

/-- The switch (11). -/
structure Ring where
  /-- three ports: 0 EAST, 1 WEST, 2 HOST -/
  ports : FMap Port := []
  /-- R346: this chip's HSR sequence counter, 16 bits; log 6 -/
  seq : Nat := 0
  /-- R347: at most 4,096 entries, oldest first -/
  duplicates : List Duplicate := []
  replacements : Nat := 0
  evictRaised : Option Nat := none
  /-- R346: at most 512 entries, in ascending address order -/
  nodes : List RingNode := []
  /-- R350: at most 16 entries -/
  proxies : List Proxy := []
  /-- R350, R371: sources refused, with their frames discarded -/
  proxyRefused : List (Nat × Nat) := []
  /-- R349 RING_OPEN, 1 bit, with the clock ticks at which it was set -/
  opened : Bool := false
  openedTicks : Nat := 0
  /-- R349: sequence of this chip's last supervision frame, and its copies returned on EAST and on WEST -/
  supSeq : Option Nat := none
  supEast : Bool := false
  supWest : Bool := false
  /-- R349: consecutive supervision frames whose copy did not return, by sending port -/
  supMissed : FMap Nat := []
  /-- R349: by sending port, one more than the sequence of the last supervision frame counted as not returned -/
  supCounted : FMap Nat := []
  /-- R342: frames delivered to the chip, oldest first -/
  delivered : List Delivered := []
  ptp : Ptp := {}
deriving DecidableEq, Repr

/-! ## 12 Field bus channels -/

/-- A frame in a transmit FIFO or a hold queue (R381, R382). -/
structure TxFrame where
  frame : CanFrame := {}
  /-- 0 a CFP bead, 1 the field-protocol layer, 2 FBUS.SEND -/
  source : Nat := 1
  /-- the bead, or 0xFFFF -/
  bead : Nat := 0xFFFF
  /-- the bead's instant, for R382's 4 tu -/
  due : Instant := {}
  /-- it is a segment of a segmented transfer (R382) -/
  segment : Bool := false
  /-- the transaction it belongs to (R409), by its order number -/
  transaction : Option Nat := none
  /-- the last frame of its command (R425) -/
  last : Bool := true
deriving DecidableEq, Repr

/-- A received frame with its arrival tick (R385). -/
structure RxFrame where
  frame : CanFrame := {}
  stamp : Instant := {}
  host : Bool := false
deriving DecidableEq, Repr

/-- A channel (R374 to R396). -/
structure Channel where
  /-- R403: 0 off, 1 integrating, 2 error active, 3 error passive, 4 bus-off, 5 fallow beacon, 6 switching -/
  state : Nat := 0
  /-- R392: the spare engine serves it -/
  spare : Bool := false
  /-- ISO 11898-1 error counters (R375) -/
  txErr : Nat := 0
  recErr : Nat := 0
  fifo : List TxFrame := []
  hold : List TxFrame := []
  /-- R383: the head's error and arbitration-loss counts -/
  errors : Nat := 0
  losses : Nat := 0
  /-- R385: at most 128 frames -/
  rx : List RxFrame := []
  rxLost : Nat := 0
  rxRaised : Option Nat := none
  /-- R389: the reference buffer is pending; the period's cycle; sent or heard in it -/
  refPending : Bool := false
  refPeriod : Option Nat := none
  refSent : Bool := false
  refHeard : Option Nat := none
  /-- R390: 0 none, 1 MASTER, 2 BACKUP, 3 RECEIVER -/
  refState : Nat := 0
  /-- R403: lowest priority heard, 0xFF none -/
  lowest : Nat := 0xFF
  refCycle : Nat := 0
  /-- R402: clock ticks at bus-off; R384: recovery has begun -/
  offTicks : Nat := 0
  recovering : Bool := false
  /-- the last frame the channel has put on its bus: from the FIFO, the reference buffer (R388), or the fallow beacon (R631) -/
  sent : Option CanFrame := none
  /-- R380, R403: measured transmitter delay -/
  tdc : Nat := 0
  tdcValid : Bool := false
  /-- R391: rods of the counts against the channel's engine -/
  suspects : List Nat := []
  /-- R395: LEAK_INJ_n high, and the bus-side voltage of the low half in mV -/
  injHigh : Bool := false
  lowHalf : Option Nat := none
  /-- R395: leakage in kΩ, LOW, HIGH, and whether a valid measurement stands -/
  leak : Nat := 0
  leakLow : Bool := false
  leakHigh : Bool := false
  leakValid : Bool := false
  /-- R396: level 0 to 2, consecutive measurements above leak_warn, periods with ΔV below 50 mV, insulation fault -/
  leakLevel : Nat := 0
  leakAbove : Nat := 0
  leakOpen : Nat := 0
  leakFault : Bool := false
  /-- R403: last 16 measurements, oldest first, and the cycle of the last -/
  leaks : List Nat := []
  leakCycle : Nat := 0
  /-- R403 FBUS.STATS: 16 × 32 bits in its order; log 6 -/
  stats : FMap Nat := []
deriving DecidableEq, Repr

/-- A switch-over under way (R392), and the mailbox whose FBUS.SPARE waits for it (R404). -/
structure SwitchOver where
  channel : Nat := 0
  cause : Nat := 0
  /-- step 2 has taken place -/
  passed : Bool := false
  mailbox : Option Nat := none
  /-- cycle of step 2 -/
  cycle : Nat := 0
deriving DecidableEq, Repr

/-- The field buses (12). -/
structure Fbus where
  /-- eight channels -/
  channels : FMap Channel := []
  /-- R391: 0 free and listening, 1 serving a channel, 2 withdrawn -/
  spareState : Nat := 0
  /-- R391, R401: channel listened to or served, and rods of the counts against the spare -/
  spareChannel : Nat := 0
  spareSuspects : List Nat := []
  switching : Option SwitchOver := none
deriving DecidableEq, Repr

/-! ## 13 Field protocol -/

/-- An entry of a bus's address table (R415, R417, R436), in MRAM; key: the address. -/
structure CfpNode where
  uid : Nat := 0
  kind : Nat := 0
  /-- 0 unknown, 1 present, 2 absent -/
  state : Nat := 0
  role : Nat := 0
  epoch : Nat := 0
  missed : Nat := 0
  /-- it has sent its CLAIM in the present window -/
  claimed : Bool := false
  /-- cycle of its last CLAIM, for "absent longest" -/
  seen : Nat := 0
deriving DecidableEq, Repr

/-- A transaction (R409, R423 to R427). -/
structure Transaction where
  /-- order of submission, which names it -/
  order : Nat := 0
  tag : Option Nat := none
  /-- 0 a CFP bead, 1 the CFP layer, 2 CFP.TRANSACT -/
  origin : Nat := 1
  bead : Nat := 0xFFFF
  role : Nat := 0
  opcode : Nat := 0
  args : List Byte := []
  idem : Bool := false
  prio : Nat := 0
  /-- R436 EPOCH_GIVEN -/
  given : Option Nat := none
  /-- epoch and address it was resolved to -/
  epoch : Nat := 0
  address : Nat := 0
  /-- 0 waits for its role, 1 waits for a tag, 2 entered the FIFO, 3 sent, 4 receives a segmented result -/
  stage : Nat := 0
  /-- times sent again after a timeout (R426) -/
  retried : Nat := 0
  /-- R427: reissued once -/
  reissued : Bool := false
  /-- role management: 0 none, 1 ROLE_CLEAR of a move, 2 ROLE_SET of a move, 3 ROLE_SET at the table's epoch, 4 other -/
  purpose : Nat := 0
  /-- R427 third row: it waits for the ROLE_SET of this order number -/
  after : Option Nat := none
  /-- command payload not yet put into segments, and the next sequence number (R411) -/
  rest : List Byte := []
  seq : Nat := 0
  /-- a segmented result: total length, bytes so far, next sequence number -/
  total : Nat := 0
  result : List Byte := []
  rseq : Nat := 1
  status : Nat := 0
  /-- R407: the node's own epoch and role in the first frame of a segmented response -/
  rspEpoch : Nat := 0
  rspRole : Nat := 0
  /-- the deferred command it completes -/
  job : Nat := 0
deriving DecidableEq, Repr

/-- A reading of a role's item (R422). -/
structure Reading where
  value : Word := 0x00000080#32
  invalid : Bool := false
  at_ : Instant := {}
deriving DecidableEq, Repr

/-- A bus (R413 to R417, R432). -/
structure Bus where
  /-- R407 seq of the last ROLL, 8 bits; whether this chip sent it; its cycle -/
  seq : Nat := 0
  own : Bool := true
  lastRoll : Nat := 0
  /-- the claim window is open; some window has ended -/
  window : Bool := false
  ended : Bool := false
  announced : Nat := 0
  assigned : Nat := 0
  missing : Nat := 0
  /-- R415: addresses 1 to 126; in MRAM; log 7 -/
  nodes : FMap CfpNode := []
  /-- R409: transactions not ended, in order -/
  transactions : List Transaction := []
  /-- R410: last tag taken of the CFP-layer range and of the bead range -/
  lastTag : Option Nat := none
  lastBeadTag : Option Nat := none
  /-- R414: roll calls in which an ANNOUNCE with these UID bits ended in an error frame -/
  clashes : FMap Nat := []
  /-- the UID bits of ANNOUNCE frames that ended in an error frame in the present window -/
  clashNow : List Nat := []
  /-- R382: frames of the layer that no entry admits yet, oldest first -/
  waiting : List TxFrame := []
  /-- R436 CFP.STATS: 13 × 32 bits; log 6 -/
  stats : FMap Nat := []
deriving DecidableEq, Repr

/-- An entry of the role table (R418, R420). -/
structure RoleEntry where
  address : Nat := 0
  /-- in MRAM; log 7 -/
  epoch : Nat := 0
  /-- 0 HELD, 1 MOVING, 2 UNRESOLVED, 3 UNHELD -/
  state : Nat := 0
  pinned : Option Nat := none
  /-- R420: the address a move goes to, and the old one -/
  target : Nat := 0
  old : Nat := 0
  /-- REPORT_SET has been sent since the role became HELD (R429) -/
  reportSet : Bool := false
deriving DecidableEq, Repr

/-- The field protocol (13). -/
structure Cfp where
  /-- eight buses -/
  buses : FMap Bus := []
  /-- R418: key: the role number -/
  roles : FMap RoleEntry := []
  /-- R422: key: role × 256 + item -/
  readings : FMap Reading := []
  /-- the next order number -/
  order : Nat := 0
deriving DecidableEq, Repr

/-! ## 14 Valve and injector drive -/

/-- A request for one event (R447). -/
structure ValveReq where
  channel : Nat := 0
  profile : Nat := 0
  abort : Bool := false
  pair : Bool := false
  requested : Instant := {}
  /-- hold time in µs -/
  hold : Nat := 0
  /-- R466 driver: layer 1 bead, 2 loop, 3 host; and the bead, slot or tag -/
  layer : Nat := 3
  number : Nat := 0
  /-- R449: CLASS of a bead -/
  cls : Nat := 0
  /-- R451: defer of its profile, in tu -/
  defer : Nat := 0
  /-- R468: the deferred VALVE.FIRE it completes -/
  job : Nat := 0
deriving DecidableEq, Repr

/-- An event (R441). -/
structure ValveEvent where
  req : ValveReq := {}
  /-- the channel, or both of a pair -/
  channels : List Nat := []
  /-- R446: the profile's 32 bytes as they stood at its start -/
  profile : List Byte := []
  /-- R459: 3 RISE, 4 PEAK, 5 DROP, 6 HOLD, 7 DECAY -/
  phase : Nat := 3
  /-- when it and its phase began -/
  start : Instant := {}
  phaseStart : Instant := {}
deriving DecidableEq, Repr

/-- A bank (R438, R459). -/
structure ValveBank where
  event : Option ValveEvent := none
  /-- R448 bank_recovery is running -/
  recovery : Bool := false
  /-- R457: 0 none, 4 DECAY, 5 STUCK, 6 BANK_OVERCURRENT, 7 GROUND_SHORT -/
  fault : Nat := 0
  /-- high-side current last measured, mA -/
  current : Nat := 0
deriving DecidableEq, Repr

/-- A valve channel (R459, R467). -/
structure ValveChannel where
  waiting : Option ValveReq := none
  /-- R448 min_off is running -/
  offTime : Bool := false
  /-- R457: 0 none, 1 OPEN, 2 SHORT, 3 OVERCURRENT -/
  fault : Nat := 0
  /-- low-side current last measured, mA -/
  current : Nat := 0
  /-- R467 last event: peak current, µs to i_peak, mean hold current, end cycle -/
  peak : Nat := 0
  micros : Nat := 0
  mean : Nat := 0
  endCycle : Nat := 0
  /-- R457: i_end of its last profile, or 20 mA if it has none -/
  lastEnd : Nat := 20
  /-- R466: rod in which VALVE.REFUSED with cause 3 was last raised -/
  superseded : Option Nat := none
  /-- R467 VALVE.STATS: 6 × 32 bits in its order; log 6 -/
  stats : FMap Nat := []
deriving DecidableEq, Repr

/-- The valve block (14): five banks, forty channels. -/
structure Valve where
  banks : FMap ValveBank := []
  channels : FMap ValveChannel := []
deriving DecidableEq, Repr

/-! ## 15 Fans -/

/-- A fan output (R473 to R483). -/
structure FanOutput where
  /-- R494: 0 DISABLED, 1 OFF, 2 KICK, 3 RETRY_WAIT, 4 COOL_DOWN, 5 RUN, 6 FALLOW -/
  state : Nat := 0
  /-- the driven duty in thousandths of a unit of 0.1 %; R472 drives every ball high before the configuration -/
  duty : Nat := 0
  /-- the governing target, in units of 0.1 % -/
  target : Nat := 0
  /-- R476 layer in force, 0 none -/
  layer : Nat := 0
  /-- attempts of the present set, attempts of the episode -/
  attempts : Nat := 0
  episode : Nat := 0
  stalled : Bool := false
  stalledTicks : Nat := 0
  coolDowns : Nat := 0
  /-- tach pulses seen in the present attempt -/
  pulses : Nat := 0
  tachLost : Bool := false
  lostTicks : Nat := 0
  /-- consecutive pulses inside the expected period, while TACH_LOST -/
  good : Nat := 0
  /-- rpm -/
  speed : Nat := 0
  speedValid : Bool := false
  /-- the last periods in µs, newest first -/
  periods : List Nat := []
  /-- R476: FAN.SET -/
  host : Option Nat := none
  /-- milliseconds spent in RUN -/
  runMs : Nat := 0
  /-- R494 FAN.STATS: 6 × 32 bits in its order; log 6 -/
  stats : FMap Nat := []
deriving DecidableEq, Repr

/-- A fan group on a field node (R484). -/
structure FanGroup where
  /-- the driven duty in thousandths of a unit of 0.1 % -/
  duty : Nat := 0
  target : Nat := 0
  layer : Nat := 0
  /-- the last duty sent, and its rod -/
  sent : Option Nat := none
  sentRod : Option Nat := none
  /-- its role has become HELD since: the duty is sent anew (R484) -/
  resend : Bool := false
  speed : Nat := 0
  /-- R485 FAN_STATE flags, and whether a FAN_STATE has been read -/
  flags : Nat := 0
  known : Bool := false
  /-- milliseconds with a non-zero duty sent -/
  runMs : Nat := 0
  host : Option Nat := none
  stats : FMap Nat := []
deriving DecidableEq, Repr

/-- The fan block (15). -/
structure Fan where
  /-- twelve outputs -/
  outputs : FMap FanOutput := []
  /-- thirty-two groups -/
  groups : FMap FanGroup := []
  /-- R473: demand last applied to a zone, as the engine's value, for zones written since start -/
  zones : FMap (Option Word) := []
  /-- R478 -/
  silent : Bool := false
  /-- R477: clock ticks at the last request, and at the start of the silence -/
  lastRequest : Nat := 0
deriving DecidableEq, Repr

/-! ## 16 Vents -/

/-- A compare register (R508). -/
structure Compare where
  value : Word := 0
  /-- bit 0 EVENT, bit 1 STOP -/
  action : Nat := 0
  /-- R520: 0 off, 1 ARMED, 2 ARMED_BEHIND, 3 ARMED_EQUAL, 4 FIRED -/
  state : Nat := 0
  /-- R508: cycle, angle and direction of the update that fired it -/
  fired : Instant := {}
  up : Bool := false
deriving DecidableEq, Repr

/-- A feedback channel (16). -/
structure VentChannel where
  /-- R497 filtered levels: bit 0 A or U, bit 1 B or V, bit 2 Z or W -/
  lines : BitVec 3 := 0
  /-- R498 position counter, 32 bits; R503 -/
  counter : Word := 0
  homed : Bool := false
  /-- R507: HOME_ONCE has acted -/
  homeDone : Bool := false
  indexSeen : Bool := false
  index : Word := 0
  illegal : Bool := false
  illegals : Nat := 0
  /-- R500: ages in samples of the illegal transitions of the last 1,024 samples -/
  recent : List Nat := []
  illegalRaised : Option Nat := none
  ssiError : Bool := false
  ssiFailed : Nat := 0
  ssiRead : Bool := false
  /-- R513: 0 none, 1 illegal rate, 2 SSI, 3 no motion, 4 run too long -/
  fault : Nat := 0
  /-- direction of the last update -/
  up : Bool := false
  /-- R505: counts or reads since the start, saturating at 2; samples since the latest count; speed in counts per second, as a quotient -/
  counts : Nat := 0
  samples : Nat := 0
  speed : Int := 0
  speedDen : Nat := 1
  /-- R508: four compares -/
  compares : FMap Compare := []
  /-- R518 FIRED bits -/
  fired : BitVec 4 := 0
  /-- R512: a compare with STOP holds the positioner, with the route value at that time -/
  stopHold : Bool := false
  /-- R512: VENT.SET and the VENT route's value, in units of 0.01 % -/
  host : Option Nat := none
  route : Option Nat := none
  run : Bool := false
  dir : Bool := false
  /-- clock ticks at the last fall of run -/
  lowTicks : Nat := 0
  /-- R512: dir has just been set, and run goes high at the next evaluation -/
  starting : Bool := false
  /-- R504 -/
  extended : Int := 0
  extendedFrom : Word := 0
  lastUpdate : Instant := {}
  /-- R520 VENT.STATS: 4 × 32 bits in its order; log 6 -/
  stats : FMap Nat := []
deriving DecidableEq, Repr

/-- The vent block (16): twelve channels. -/
structure Vent where
  channels : FMap VentChannel := []
deriving DecidableEq, Repr

/-! ## 17 Sensor inputs and mains metering -/

/-- A sensor channel (R524 to R529). -/
structure SenseChannel where
  /-- raw code, 24 bits signed -/
  raw : Int := 0
  value : Word := 0x00000080#32
  /-- R547: 0 off, 1 valid, 2 invalid -/
  state : Nat := 0
  cause : Nat := 0
  ended : Instant := {}
  /-- R546: conversions invalid -/
  invalids : Nat := 0
  /-- R527: an RTD whose conversion waits for its reference channel's of the same window -/
  awaits : Bool := false
deriving DecidableEq, Repr

/-- The dwell of the spares on one position (R536, R537, R539). -/
structure Dwell where
  position : Nat := 0
  rods : Nat := 0
  conversions : Nat := 0
  /-- conversions in which the position's own modulator, and each free spare, was the odd one -/
  oddOwn : Nat := 0
  oddFirst : Nat := 0
  oddSecond : Nat := 0
  /-- R539: differences with one spare -/
  differ : Nat := 0
  /-- the dwell is repeated after a count against the position's own modulator -/
  again : Bool := false
deriving DecidableEq, Repr

/-- A replacement under way (R538), and the mailbox whose SENSE.SPARE waits for it (R548). -/
structure ModulatorSwap where
  position : Nat := 0
  cause : Nat := 0
  spare : Nat := 0
  /-- conversions, or rods, shadowed so far -/
  shadowed : Nat := 0
  mailbox : Option Nat := none
deriving DecidableEq, Repr

/-- One phase's closed rod (R532 to R534). -/
structure MeterClosed where
  vrms : Word := 0x00000080#32
  irms : Word := 0x00000080#32
  power : Word := 0x00000080#32
  energy : Word := 0x00000080#32
  endPower : Word := 0x00000080#32
  reactive : Word := 0x00000080#32
  frequency : Word := 0x00000080#32
  invalid : Bool := true
  cause : Nat := 0
  clips : Nat := 0
  /-- R547 SENSE.WAVE: 256 pairs -/
  wave : List (Int × Int) := []
deriving DecidableEq, Repr

/-- One phase's metering (R531 to R534). -/
structure MeterPhase where
  /-- samples of the present rod, newest first -/
  samples : List (Int × Int) := []
  clipsV : Nat := 0
  clipsI : Nat := 0
  /-- R534: a modulator position was failed in the rod -/
  failed : Bool := false
  /-- R534: consecutive valid rods since the mark was set, and the mark -/
  marked : Bool := false
  good : Nat := 0
  closed : MeterClosed := {}
deriving DecidableEq, Repr

/-- The sensing block (17). -/
structure Sense where
  channels : FMap SenseChannel := []
  /-- R528 COMPLIANCE of sources 0 to 3 -/
  compliance : BitVec 4 := 0
  /-- R523 -/
  refFault : Bool := false
  refMv : Nat := 0
  /-- R531: three phases -/
  phases : FMap MeterPhase := []
  /-- R547: a rod has closed, and its cycle -/
  closedAny : Bool := false
  closedRod : Nat := 0
  /-- R532 HEAT of the last closed rod, and its mark -/
  heat : Word := 0x00000080#32
  heatInvalid : Bool := true
  /-- modulator serving each position, where it is not the position's own number -/
  serving : FMap (Option Nat) := []
  /-- modulators retired or withdrawn -/
  retired : List Nat := []
  dwell : Dwell := {}
  /-- R537: counts against a spare in consecutive dwells -/
  spareCounts : FMap Nat := []
  swap : Option ModulatorSwap := none
  /-- R547 SENSE.STATS: 6 × 32 bits in its order; log 6 -/
  stats : FMap Nat := []
deriving DecidableEq, Repr

/-! ## 18 Local panel -/

/-- An encoder (R555, R556). -/
structure PanelEncoder where
  lines : BitVec 2 := 0
  count : Int := 0
  rest : Int := 0
  /-- signed 16 bits -/
  position : BitVec 16 := 0
deriving DecidableEq, Repr

/-- An entry of the key queue (R558), 12 bytes. -/
structure KeyEntry where
  kind : Nat := 0
  index : Nat := 0
  count : Nat := 0
  cycle : Nat := 0
  angle : Nat := 0
deriving DecidableEq, Repr

/-- A reset combination (R560, R561). -/
structure Combination where
  /-- no scan has been ambiguous since the last of its keys went down -/
  clean : Bool := false
  /-- it has acted, and all its keys must go up -/
  acted : Bool := false
deriving DecidableEq, Repr

/-- The panel (18). -/
structure Panel where
  raw : BitVec 64 := 0
  debounced : BitVec 64 := 0
  /-- R552: consecutive differing scans of a key -/
  counts : FMap Nat := []
  ambiguous : Bool := false
  ambiguousTicks : Nat := 0
  frozenRows : BitVec 8 := 0
  frozenCols : BitVec 8 := 0
  scanning : Bool := false
  /-- R551: consecutive scans without a raw key -/
  quiet : Nat := 0
  /-- R553: the debounced state at the last unambiguous scan -/
  settled : BitVec 64 := 0
  /-- R558 LONG has been entered for these keys -/
  long : BitVec 64 := 0
  encoders : FMap PanelEncoder := []
  /-- R558: at most 64 entries, oldest first -/
  queue : List KeyEntry := []
  /-- R569 OVERFLOW -/
  overflow : Bool := false
  /-- entries lost since the queue last had room, and the episode of R558 -/
  lost : Nat := 0
  episode : Bool := false
  combinations : FMap Combination := []
  /-- R561: an action that awaits the next rod boundary: 1 WARM, 2 FALLOW -/
  request : Option Nat := none
  /-- R570 PANEL.DISPLAY: 8 segment bytes -/
  digits : List Byte := []
  /-- R570 PANEL.STATS: 5 × 32 bits in its order; log 6 -/
  stats : FMap Nat := []
deriving DecidableEq, Repr

/-! ## 19 Real-time clock -/

/-- A staged write (R575), and the CLOCK.SET that waits for it. -/
structure ClockWrite where
  seconds : Nat := 0
  fraction : Nat := 0
  mailbox : Option Nat := none
  session : Nat := 0
  /-- R591: form 2, whose step is applied to the count in force at the tick -/
  step : Option (Int × Nat) := none
deriving DecidableEq, Repr

/-- The clock (19). The backup domain keeps seconds, fraction, staged write, trim, bvl and osf (R578). -/
structure Clock where
  /-- R572: 32 bits and 15 bits; R583: 0 at the first power-up -/
  seconds : Nat := 0
  fraction : Nat := 0
  staged : Option ClockWrite := none
  /-- R580, R581: trim in force; R581: 0 without a record; and one that takes effect at the next 16 s boundary -/
  trim : Int := 0
  trimNext : Option Int := none
  /-- oscillator cycles since the last one dropped or inserted (R580) -/
  trimCount : Nat := 0
  /-- R585: reset "—"; log 6 -/
  bvl : Bool := false
  /-- R583: set at the first power-up -/
  osf : Bool := true
  /-- R585 -/
  trimFrozen : Bool := true
  trimLimit : Bool := false
  /-- R581: an episode of clamping -/
  limitEpisode : Bool := false
  /-- R583: the oscillator is stopped -/
  stopped : Bool := false
  /-- R581: crystal temperature in 0.01 °C, and deviation in ppb × 10,000 -/
  temperature : Int := 0
  deviation : Int := 0
  /-- R574: when the last tick fell -/
  tickAt : Instant := {}
  /-- CLOCK_TICKs since power-on reset: the model's own measure of milliseconds and seconds (log 9) -/
  ticksRun : Nat := 0
deriving DecidableEq, Repr

/-! ## 20 Recorder and snapshots -/

/-- A 32-byte record (R592, R593). -/
structure EventRecord where
  /-- event code, bits [12:0] of the code word -/
  code : Nat := 0
  bvl : Bool := false
  nocount : Bool := false
  cont : Bool := false
  repeats : Nat := 1
  seconds : Nat := 0
  fraction : Nat := 0
  cycle : Nat := 0
  angle : Nat := 0
  /-- four parameters -/
  params : List Nat := [0, 0, 0, 0]
  /-- R599, R603: never merged, and nothing merges into it -/
  single : Bool := false
deriving DecidableEq, Repr

/-- The recorder (R592 to R604). The sequence number and both areas are in MRAM. -/
structure Recorder where
  /-- the intake FIFO, at most 64 entries, oldest first; at the first power-up it holds CLOCK.OSC_STOPPED with cause 1 (R583) -/
  intake : List EventRecord := [{ code := 0x1103, nocount := true, params := [1, 0, 0, 0] }]
  /-- R601: the next sequence number; log 7 -/
  seq : Nat := 0
  /-- R601: slot seq mod 16,384 holds a sequence number and its record -/
  area : FMap (Option (Nat × EventRecord)) := []
  /-- R602: kept records with their sequence numbers, in order -/
  kept : List (Nat × EventRecord) := []
  /-- R602: armed at manufacture -/
  armed : Bool := true
  /-- R598: 16 counters of 8 bits -/
  lost : FMap Nat := []
  /-- R600 -/
  torn : Nat := 0
  /-- R608: rod in which a match last raised its strobe -/
  matched : FMap (Option Nat) := []
  /-- R618 LOG.STATS: written, merged, lost, overflow records; log 6 -/
  stats : FMap Nat := []
deriving DecidableEq, Repr

/-! ## The blocks that carry snapshot contents (R613), with the configuration they read -/

/-- The timing blocks and the configuration in force. -/
structure Blocks where
  cfg : Cfg := {}
  phase : Phase := {}
  abacus : Abacus := {}
  carry : Carry := {}
  reck : Reck := {}
  engine : Engine := {}
  commons : Commons := {}
  ring : Ring := {}
  fbus : Fbus := {}
  cfp : Cfp := {}
  valve : Valve := {}
  fan : Fan := {}
  vent : Vent := {}
  sense : Sense := {}
  panel : Panel := {}
  clock : Clock := {}
  recorder : Recorder := {}
deriving DecidableEq, Repr

/-- A snapshot bank (R607, R610). -/
structure SnapBank where
  /-- 0 EMPTY, 1 COPYING, 2 HELD -/
  state : Nat := 0
  sources : Nat := 0
  late : Bool := false
  remote : Bool := false
  strobe : Instant := {}
  sender : Nat := 0
  seq : Nat := 0
  /-- R605: the blocks as they stood at the strobe's tick, and the mode -/
  mode : Mode := .bootRom
  latched : Option Blocks := none
deriving DecidableEq, Repr

/-- An entry of the schedule table (R611). -/
structure SnapSchedule where
  bank : Nat := 0
  at_ : Instant := {}
  /-- bit of R606 -/
  source : Nat := 0
  sender : Nat := 0
deriving DecidableEq, Repr

/-- The snapshot strobe (R605 to R612). -/
structure Snap where
  /-- four banks -/
  banks : FMap SnapBank := []
  /-- at most 8 -/
  schedule : List SnapSchedule := []
  /-- R609: SNAP_OUT is high, and the instant of the latest strobe -/
  out : Bool := false
  outSince : Instant := {}
  /-- R348: triggers taken: sender, instant and bank -/
  taken : List (Nat × Instant × Nat) := []
deriving DecidableEq, Repr

/-! ## 21 Start-up, failed starts and fallow mode -/

/-- An attempt entry (R636), 16 bytes. -/
structure Attempt where
  cause : Nat := 0
  fwSlot : Nat := 0
  cfgSlot : Nat := 0
  detail : Nat := 0
  fwVersion : Nat := 0
  cfgVersion : Nat := 0
  seconds : Nat := 0
deriving DecidableEq, Repr

/-- The start ledger (R635), in MRAM. -/
structure Ledger where
  count : Nat := 0
  /-- R628: 3 by default -/
  threshold : Nat := 3
  preferredFw : Nat := 0
  preferredCfg : Nat := 0
  confirmed : Option (Nat × Nat) := none
  /-- R630: 40 × 2 bits as one number; log 7 -/
  map : Nat := 0
  starts : Nat := 0
  failures : Nat := 0
  lastConfirm : Nat := 0
  /-- newest first, at most 8 -/
  attempts : List Attempt := []
deriving DecidableEq, Repr

/-- The reason record (R637). -/
structure ReasonRecord where
  reason : Nat := 0
  count : Nat := 0
  threshold : Nat := 0
  streak : Nat := 0
  seconds : Nat := 0
  cycle : Nat := 0
  attempts : List Attempt := []
deriving DecidableEq, Repr

/-- The firmware that runs (R667, R670). -/
structure RunningFw where
  slot : Nat := 0
  version : Nat := 0
  floor : Nat := 0
  keyFloor : Nat := 0
  hash : List Byte := []
deriving DecidableEq, Repr

/-- Start-up and fallow mode (21), with the firmware slots of R666. -/
structure Start where
  ledger : Ledger := {}
  reason : Option ReasonRecord := none
  /-- octal flash; log 7 -/
  fwA : ImageSlot := {}
  fwB : ImageSlot := {}
  running : Option RunningFw := none
  /-- R625: clock ticks at hand-over -/
  handTicks : Nat := 0
  /-- R629: the reason of the present fallow mode, and the clock ticks at its entry -/
  fallowReason : Nat := 0
  fallowTicks : Nat := 0
  /-- R640 START.FALLOW_LEFT: 1 START.LEAVE, 2 power-on, 0 not from fallow; seconds in fallow; count before -/
  leftWay : Nat := 0
  leftSeconds : Nat := 0
  leftCount : Nat := 0
  /-- R629: START.FALLOW or the panel asks for fallow mode at this boundary: cycle and reason -/
  fallowAt : Option (Nat × Nat) := none
  /-- R633: a restart awaits its 20 ms -/
  leaving : Bool := false
  /-- R630: the fallow map loaded into the output stages, 40 × 2 bits; high-impedance until then -/
  loaded : Option Nat := none
  /-- R632: step of R623 that the boot ROM is at -/
  step : Nat := 1
  /-- R640: step that the attempt which loss of supply ended had reached -/
  reached : Nat := 1
  /-- R625: a whole rod has run since hand-over -/
  rodRun : Bool := false
deriving DecidableEq, Repr

/-- A substitution called by wear or asked for with SPARE.SWAP (R646, R650, R662). -/
structure Substitution where
  kind : Nat := 0
  unit : Nat := 0
  /-- ledger cause (R658) -/
  cause : Nat := 0
  /-- the deferred SPARE.SWAP it completes -/
  request : Option Nat := none
deriving DecidableEq, Repr

/-- The supervisor cores (R28, R78, R80, R81, R649 to R653). -/
structure Super where
  /-- R78: 0 PAIR, 1 SINGLE, 2 SWAP, 3 FW_CHANGE, 4 RESTART, 5 ROM -/
  state : Nat := 5
  /-- R651 -/
  single : Bool := false
  /-- the pair, or the single core -/
  cores : List Nat := [0, 1]
  /-- R29: rod boundaries since the pause began -/
  pauseRods : Nat := 0
  /-- R81: the boundary at which a warm restart begins -/
  warmAt : Option Nat := none
  /-- R80: a verification in progress; a firmware change staged for the next boundary, with the deferred command to complete -/
  fwVerifying : Bool := false
  /-- R683: the firmware rollback and key revocation counters as they stood when it began -/
  fwCounters : Nat × Nat := (0, 0)
  fwStaged : Option (RunningFw × Nat) := none
  /-- R80, R75: old version of a change that is being made, with the deferred command to complete -/
  fwChange : Option (Nat × Nat) := none
  /-- R78: clock ticks at the end of the last core swap's pause -/
  swapEnd : Option Nat := none
  /-- R650: cycles of the last transients -/
  transients : List Nat := []
  /-- R652: the swap began with the watchdog -/
  watchdog : Bool := false
  /-- R625: clock ticks at the last mismatch of the pair -/
  mismatchTicks : Nat := 0
  /-- R649: the self-tests are running; R650: the substitution of a core by a wear call or SPARE.SWAP that is under way -/
  testing : Bool := false
  retiring : Option Substitution := none
deriving DecidableEq, Repr

/-! ## 22 Wear and spares -/

/-- A unit (R643, R645); key: kind × 2^32 + unit. -/
structure WearUnit where
  /-- 0 as manufacture and R643 leave it, 1 in service, 2 free spare, 3 retired -/
  state : Nat := 0
  /-- R645, in 1/10,000 -/
  w : Nat := 0
  /-- R654: equivalent seconds of the chip when it entered service -/
  entered : Nat := 0
  /-- R646: SPARE.WORN level raised -/
  worn : Nat := 0
  /-- R645: rods of the corrections of the last 2^20 rods -/
  corrections : List Nat := []
  /-- R645, R656: an MRAM block's write-count figures of the last 365 days, with the seconds sampled at each, oldest first -/
  writes : List (Nat × Nat) := []
deriving DecidableEq, Repr

/-- A ledger entry (R658), 32 bytes. -/
structure SpareEntry where
  seq : Nat := 0
  kind : Nat := 0
  cause : Nat := 0
  retired : Nat := 0
  joined : Nat := 0
  seconds : Nat := 0
  cycle : Nat := 0
  eqHours : Nat := 0
  wear : Nat := 0
  left : Nat := 0
  remaining : Nat := 0
deriving DecidableEq, Repr

/-- Wear, spares and the spare ledger (22), in MRAM. -/
structure Spare where
  units : FMap WearUnit := []
  ledger : List SpareEntry := []
  /-- R654: seconds spent in each of 17 bins -/
  bins : FMap Nat := []
  /-- R654: equivalent microseconds at 75 °C -/
  eqMicros : Nat := 0
  /-- seconds sampled in all, and in the present day; equivalent microseconds of the last 365 days, newest first -/
  seconds : Nat := 0
  dayMicros : Nat := 0
  days : List Nat := []
  /-- substitutions that wait for their moment, oldest first -/
  waiting : List Substitution := []
  /-- R648: rows and blocks being copied, each with the spare it is copied to -/
  copying : List (Substitution × Nat) := []
  /-- R661: commanded substitutions made, whose completion is to be placed: unit joined, cycle -/
  finished : List (Substitution × Nat × Nat) := []
deriving DecidableEq, Repr

/-! ## 23 Images, identity and attestation -/

/-- A key slot (R674). -/
structure KeySlot where
  set : Bool := false
  ceiling : Nat := 0
  key : List Byte := []
deriving DecidableEq, Repr

/-- The last attestation report (R682, R686). -/
structure AttestReport where
  session : Nat := 0
  bytes : List Byte := []
deriving DecidableEq, Repr

/-- An attestation in flight (R682): the body latched, who asked. -/
structure Attesting where
  /-- the deferred command it completes -/
  job : Nat := 0
  session : Nat := 0
  serial : Nat := 0
  body : List Byte := []
deriving DecidableEq, Repr

/-- Keys, counters and reports (23), in MRAM. -/
structure Sec where
  /-- R675: a part leaves Puelagen unclaimed -/
  claimed : Bool := false
  /-- R673: JTAG debug access to the supervisor cores has closed; boundary scan is always available -/
  debugClosed : Bool := false
  tokens : FMap KeySlot := []
  configs : FMap KeySlot := []
  /-- R668: all three 0 when the part leaves Puelagen -/
  fwCounter : Nat := 0
  cfgCounter : Nat := 0
  keyCounter : Nat := 0
  attesting : Option Attesting := none
  report : Option AttestReport := none
  /-- R682: counted from manufacture -/
  serial : Nat := 0
deriving DecidableEq, Repr

/-! ## 24 Balls -/

/-- A rail's monitor (R709). -/
structure Rail where
  mv : Nat := 0
  outside : Nat := 0
  inside : Nat := 0
  bad : Bool := false
  /-- the limit crossed by the last measurement outside the range, in mV -/
  limit : Nat := 0
deriving DecidableEq, Repr

/-- A general output's readback (R710). -/
structure Readback where
  /-- the driven level of the last check, and whether it was driven -/
  driven : Option Bool := none
  high : Bool := false
  differs : Nat := 0
  fault : Bool := false
deriving DecidableEq, Repr

/-- General outputs, rails and temperature (24). -/
structure Pins where
  /-- R697 layer 5: the level PIN.WRITE stored, by output -/
  host : FMap (Option Bool) := []
  /-- R698: outputs whose level was written in test mode -/
  tested : FMap Bool := []
  /-- R299: the level a loop's PIN route holds, by output -/
  loop : FMap (Option Bool) := []
  readback : FMap Readback := []
  /-- key 0 VDD_CORE, 1 VDD_SD, 2 VDDIO33, 3 VDDIO18, 4 VDDA, 5 VBAT -/
  rails : FMap Rail := []
  /-- R709, in 0.01 °C -/
  tj : Int := 0
  /-- R712: peak since the start, once measured -/
  peak : Option Int := none
  /-- R711: peak in the present episode -/
  episode : Int := 0
  thermal : Nat := 0
  /-- R708: reset is asserted -/
  inReset : Bool := false
deriving DecidableEq, Repr

/-! ## The whole block -/

/-- The state of the Drallithal. `pending` is the queue of waiting commands, first in, first out. -/
structure State extends Blocks where
  hif : Hif := {}
  mail : Mail := {}
  snap : Snap := {}
  start : Start := {}
  super : Super := {}
  spare : Spare := {}
  sec : Sec := {}
  pins : Pins := {}
  /-- R36: the bytes of request areas, response areas and bulk window, by address; an unlisted one reads 0 (log 6) -/
  window : List Host.Cell := []
  /-- the model's own counter, to which the opaque free values of Config are applied (log 10) -/
  free : Nat := 0
  pending : List Instr := []
deriving DecidableEq, Repr

/-- The machine right after power-on reset (R708, R714), a part as it left Puelagen (log 7). -/
def State.reset : State := {}

end Sys2Proof.Machine
end

