-- ==== Sys2Proof/Machine/Operands.lean ====
section
/-! DEFINITION. The forms in which commands, records and frames carry their operands: little-endian and network-order fields (R7), headers (R42), records (R85), keys, times. -/

namespace Sys2Proof.Machine

/-! ## Bytes and fields -/

/-- The byte at an offset; beyond the end, 0. -/
def u8 (bs : List Byte) (o : Nat) : Nat := (bs.getD o 0).toNat

/-- Little-endian fields (R7). -/
def u16 (bs : List Byte) (o : Nat) : Nat := u8 bs o + 256 * u8 bs (o + 1)
def u32 (bs : List Byte) (o : Nat) : Nat := u16 bs o + 65536 * u16 bs (o + 2)
def u64 (bs : List Byte) (o : Nat) : Nat := u32 bs o + 4294967296 * u32 bs (o + 4)

/-- A two's-complement reading of the low `w` bits. -/
def signed (w n : Nat) : Int := if n % 2 ^ w < 2 ^ (w - 1) then (n % 2 ^ w : Nat) else (n % 2 ^ w : Nat) - (2 ^ w : Nat)
def s8 (bs : List Byte) (o : Nat) : Int := signed 8 (u8 bs o)
def s16 (bs : List Byte) (o : Nat) : Int := signed 16 (u16 bs o)
def s32 (bs : List Byte) (o : Nat) : Int := signed 32 (u32 bs o)

/-- Network-order fields (R7). -/
def n16 (bs : List Byte) (o : Nat) : Nat := 256 * u8 bs o + u8 bs (o + 1)
def n32 (bs : List Byte) (o : Nat) : Nat := 65536 * n16 bs o + n16 bs (o + 2)
def n48 (bs : List Byte) (o : Nat) : Nat := 65536 * n32 bs o + n16 bs (o + 4)
def n64 (bs : List Byte) (o : Nat) : Nat := 4294967296 * n32 bs o + n32 bs (o + 4)

/-- `n` as `k` bytes, least significant first. -/
def le : Nat → Nat → List Byte
  | 0, _ => []
  | k + 1, n => BitVec.ofNat 8 n :: le k (n / 256)

/-- `n` as `k` bytes, most significant first. -/
def be (k n : Nat) : List Byte := (le k n).reverse

/-- An integer in two's complement as `k` bytes, least significant first. -/
def leInt (k : Nat) (i : Int) : List Byte := le k (i % (2 ^ (8 * k) : Nat)).toNat
def beInt (k : Nat) (i : Int) : List Byte := (leInt k i).reverse

def zeros (n : Nat) : List Byte := List.replicate n 0

/-- `n` bytes from an offset. -/
def slice (bs : List Byte) (o n : Nat) : List Byte := (bs.drop o).take n

/-- Bytes padded with zeros, or cut, to a length. -/
def fit (n : Nat) (bs : List Byte) : List Byte := (bs ++ zeros (n - bs.length)).take n

/-- Every byte is zero. -/
def allZero (bs : List Byte) : Bool := bs.all (· == 0)

/-- Bit `i` of a number. -/
def bit (n i : Nat) : Bool := n.testBit i

/-- 1 for true (fields of one bit). -/
def flag (b : Bool) (i : Nat) : Nat := if b then 2 ^ i else 0

/-- A quotient for which the manual gives no rounding: one of the two integers beside it (log 10). -/
def quotient (n d : Nat) : Nat := if d = 0 then 0 else n / d + (if n % d ≠ 0 && Config.roundsUp n d then 1 else 0)
def quotientInt (n : Int) (d : Nat) : Int := if n < 0 then -(quotient n.natAbs d : Nat) else (quotient n.natAbs d : Nat)

/-- Low 32 bits, low 16 bits. -/
def low32 (n : Nat) : Nat := n % 4294967296
def low16 (n : Nat) : Nat := n % 65536

/-- A counter of 32 bits (log 6: it wraps). -/
def count32 (n : Nat) : Nat := n % 4294967296

/-- Saturation at a bound. -/
def sat (bound n : Nat) : Nat := min bound n

/-- A signed value inside bounds. -/
def clampInt (lo hi x : Int) : Int := max lo (min hi x)

/-- Division rounded to nearest, halves away from zero, for a positive divisor. -/
def divRound (a : Int) (b : Nat) : Int :=
  if a < 0 then -(((-a).toNat * 2 + b) / (2 * b) : Nat) else ((a.toNat * 2 + b) / (2 * b) : Nat)

/-- Division of Nats rounded to nearest, halves up. -/
def divNear (a b : Nat) : Nat := (2 * a + b) / (2 * b)

/-- Insertion into a rising list, and sorting. -/
def insertNat (n : Nat) : List Nat → List Nat
  | [] => [n]
  | m :: ms => if n ≤ m then n :: m :: ms else m :: insertNat n ms
def sortNat (l : List Nat) : List Nat := l.foldr insertNat []

/-! ## The message header (R42) -/

def Header.ofBytes (bs : List Byte) : Header :=
  { code := u16 bs 0, tag := u16 bs 2, length := u16 bs 4, session := u16 bs 6,
    flags := u16 bs 8, status := u16 bs 10, reserved := u32 bs 12 }

def Header.bytes (h : Header) : List Byte :=
  le 2 h.code ++ le 2 h.tag ++ le 2 h.length ++ le 2 h.session ++ le 2 h.flags ++ le 2 h.status ++ le 4 h.reserved

/-! ## Records (R85, R86) -/

/-- OVL of a record type (R86). -/
def typeOvl (t : Nat) : Bool := t / 32768 % 2 == 1
/-- CLASS of a record type (R86). -/
def typeClass (t : Nat) : Nat := t / 256 % 128

/-- A length padded to a multiple of 4 (R85). -/
def padded (n : Nat) : Nat := (n + 3) / 4 * 4

/-- The records that fill a run of bytes, each with its offset from the start; none when a record does not fit. The fuel is the run's length. -/
def parseRecordsFrom : Nat → Nat → List Byte → Option (List (Nat × Record))
  | 0, _, bs => if bs.isEmpty then some [] else none
  | fuel + 1, o, bs =>
    if bs.isEmpty then some []
    else if bs.length < 8 then none
    else
      let n := u16 bs 4
      if bs.length < 8 + padded n then none
      else
        match parseRecordsFrom fuel (o + 8 + padded n) (bs.drop (8 + padded n)) with
        | none => none
        | some rest => some ((o, { type := u16 bs 0, inst := u16 bs 2, value := slice bs 8 n }) :: rest)

def parseRecords (o : Nat) (bs : List Byte) : Option (List (Nat × Record)) := parseRecordsFrom bs.length o bs

/-- The key of a record as one number, type above instance (R86). -/
def Record.key (r : Record) : Nat := r.type * 65536 + r.inst

/-- A record's value among records. -/
def findRecord (rs : List Record) (t i : Nat) : Option (List Byte) :=
  (rs.find? fun r => r.type == t && r.inst == i).map Record.value

/-! ## Swath images (R92) -/

/-- The swath in a run of bytes, if its records parse. -/
def parseSwath (carried : Bool) (bs : List Byte) : Option Swath :=
  match parseRecords 64 (slice bs 64 (u16 bs 6 - 64)) with
  | none => none
  | some rs => some { number := u8 bs 4, level := u8 bs 5, header := bs.take 64, records := rs.map Prod.snd, carried := carried }

/-! ## Calendar (R573, R576, R577) -/

def leapYear (y : Nat) : Bool := (y % 4 == 0 && y % 100 != 0) || y % 400 == 0
def yearDays (y : Nat) : Nat := if leapYear y then 366 else 365
def monthDays (y m : Nat) : Nat :=
  if m == 2 then (if leapYear y then 29 else 28)
  else if m == 4 || m == 6 || m == 9 || m == 11 then 30 else 31

/-- Year, and day within it, of a day number counted from 2000-01-01. -/
def yearOfDay : Nat → Nat → Nat → Nat × Nat
  | 0, y, d => (y, d)
  | fuel + 1, y, d => if d < yearDays y then (y, d) else yearOfDay fuel (y + 1) (d - yearDays y)

/-- Month, and day within it counted from 0. -/
def monthOfDay : Nat → Nat → Nat → Nat → Nat × Nat
  | 0, _, m, d => (m, d)
  | fuel + 1, y, m, d => if d < monthDays y m then (m, d) else monthOfDay fuel y (m + 1) (d - monthDays y m)

/-- A calendar time. -/
structure CalTime where
  year : Nat := 0
  month : Nat := 0
  day : Nat := 0
  hour : Nat := 0
  minute : Nat := 0
  second : Nat := 0
  weekday : Nat := 0
deriving DecidableEq, Repr

/-- The last count of the calendar view (R573). -/
abbrev lastCount : Nat := 4291747199

/-- The calendar time of a count (R576); all zero beyond the view (R573). -/
def calendarOf (c : Nat) : CalTime :=
  if c > lastCount then {}
  else
    let d := c / 86400
    let (y, n) := yearOfDay 136 2000 d
    let (m, k) := monthOfDay 12 y 1 n
    { year := y, month := m, day := k + 1, hour := c % 86400 / 3600, minute := c % 3600 / 60, second := c % 60,
      weekday := (d + 5) % 7 + 1 }

/-- Days from 2000-01-01 to the first day of a year. -/
def daysBeforeYear : Nat → Nat
  | 0 => 0
  | k + 1 => daysBeforeYear k + yearDays (2000 + k)

/-- Days from the first day of a year to the first day of a month. -/
def daysBeforeMonth (y : Nat) : Nat → Nat
  | 0 => 0
  | k + 1 => daysBeforeMonth y k + monthDays y (k + 1)

/-- The count of a calendar time (R576). -/
def countOf (t : CalTime) : Nat :=
  (daysBeforeYear (t.year - 2000) + daysBeforeMonth t.year (t.month - 1) + (t.day - 1)) * 86400
    + t.hour * 3600 + t.minute * 60 + t.second

/-- A calendar time is valid (R577). -/
def CalTime.valid (t : CalTime) : Bool :=
  decide (2000 ≤ t.year) && decide (t.year ≤ 2135) && decide (1 ≤ t.month) && decide (t.month ≤ 12)
    && decide (1 ≤ t.day) && decide (t.day ≤ monthDays t.year t.month)
    && decide (t.hour ≤ 23) && decide (t.minute ≤ 59) && decide (t.second ≤ 59)

/-- The 8-byte calendar record (R590). -/
def CalTime.bytes (t : CalTime) : List Byte :=
  le 2 t.year ++ le 1 t.month ++ le 1 t.day ++ le 1 t.hour ++ le 1 t.minute ++ le 1 t.second ++ le 1 t.weekday

/-! ## Addresses and keys -/

/-- MAC address of a node UID (R340). -/
def macOf (uid : Nat) : Nat := 0x02 * 2 ^ 40 + uid % 2 ^ 40

/-- This chip's MAC address. -/
def ownMac : Nat := macOf Config.nodeUid.toNat

/-- This chip's node UID. -/
def ownUid : Nat := Config.nodeUid.toNat

/-- The identity public key. -/
def identityKey : List Byte := (List.range 32).map Config.identityByte

/-- A u64 with a 48-bit cycle number (R76). -/
def cycle64 (c : Nat) : List Byte := le 8 (c % 2 ^ 48)

/-- The 16-byte payload of a CONFLICT (R90). -/
def conflictPayload (resource t1 i1 t2 i2 offset : Nat) : List Byte :=
  le 4 resource ++ le 2 t1 ++ le 2 i1 ++ le 2 t2 ++ le 2 i2 ++ le 4 offset

end Sys2Proof.Machine
end

