-- ==== Sys2Proof/Machine/Flags.lean ====
section
/-! DEFINITION. Every flag word that is computed from the rest of the state: HIF_STATE, HIF_IRQ_CAUSE and the interrupt line, header flags, the clock, panel, vent, loop and channel flag words. -/

namespace Sys2Proof.Machine

/-- Code of HIF_STATE.MODE (R38). -/
def Mode.code : Mode → Nat
  | .bootRom => 0
  | .start => 1
  | .running => 2
  | .fallow => 3
  | .test => 4

/-- HIF_STATE (R38). -/
def hifState (s : State) : Nat := s.hif.mode.code + flag s.hif.supPause 4 + flag s.clock.bvl 5

/-- HIF_IRQ_CAUSE, with its read-only bits [2:0] computed (R40). -/
def irqCause (s : State) : BitVec 7 :=
  (s.hif.cause &&& 0x78#7)
    ||| (if s.hif.lost = 0 then 0#7 else 0x04#7)
    ||| (if s.hif.respReady.getLsbD 15 then 0x02#7 else 0#7)
    ||| (if s.hif.respReady &&& 0x7FFF#16 = 0 then 0#7 else 0x01#7)

/-- HOST_IRQ_N is driven low (R35). -/
def irqLow (s : State) : Bool := decide (irqCause s &&& s.hif.irqMask ≠ 0)

/-- HIF_BULK_CTRL (R41). -/
def bulkCtrl (s : State) : Nat :=
  match s.hif.claim with
  | none => flag s.hif.copying.isSome 5
  | some c => c.mailbox % 16 + 16 + flag s.hif.copying.isSome 5

/-- A HIF_ register by its offset; reads of unlisted offsets are zero, and HIF_DOORBELL is write only (R36 to R41). -/
def hifRead (s : State) (o : Nat) : Nat :=
  match o with
  | 0x00 => 0xD184A201
  | 0x04 => hifState s
  | 0x0C => s.hif.reqFree.toNat
  | 0x10 => s.hif.respReady.toNat
  | 0x14 => s.hif.lost.toNat
  | 0x18 => (irqCause s).toNat
  | 0x1C => s.hif.irqMask.toNat
  | 0x20 => bulkCtrl s
  | 0x24 => s.hif.nextOffset
  | _ => 0

/-- FALLOW_N is driven low (R622): the modes in which outputs are in their fallow states. -/
def fallowLow (s : State) : Bool :=
  match s.hif.mode with
  | .start | .running => false
  | .bootRom | .fallow | .test => true

/-- The clock flag word (R585), as an owner session or another sees it (R584). -/
def clockFlags (c : Clock) (owner : Bool) : Nat :=
  flag c.bvl 0 + flag (c.osf && owner) 1 + flag c.trimLimit 2 + flag c.trimFrozen 3 + flag (decide (c.seconds > lastCount)) 4

/-- Flags of a response (R43): RESP, NET, BVL, OSF to an owner session, FALLOW. -/
def responseFlags (s : State) (net owner : Bool) : Nat :=
  1 + flag net 4 + flag s.clock.bvl 8 + flag (s.clock.osf && owner) 9 + flag (decide (s.hif.mode = .fallow)) 10

/-- Flags of a notification (R43, R51). -/
def noticeFlags (s : State) (completion owner : Bool) : Nat :=
  1 + 2 + flag completion 2 + flag s.clock.bvl 8 + flag (s.clock.osf && owner) 9

/-- The panel flag word (R569). -/
def panelFlags (s : State) : Nat :=
  flag s.panel.ambiguous 0 + flag s.panel.scanning 1 + flag (decide (s.hif.mode ≠ .running)) 2 + flag s.panel.overflow 3

/-- The flag word of a vent channel (R518). -/
def ventFlags (c : VentChannel) : Nat :=
  flag c.homed 0 + flag (decide (c.speed ≠ 0)) 1 + flag c.up 2 + flag c.illegal 3 + flag c.indexSeen 4
    + flag (decide (c.counts ≥ 2) && decide (c.fault = 0)) 5 + flag c.ssiError 6 + flag (decide (c.fault ≠ 0)) 7
    + ((List.range 4).map fun i => flag (c.compares.any fun e => e.1 == i && e.2.state == 2) (8 + i)).sum
    + c.fired.toNat * 4096

/-- FBUS.STATUS flags of a channel (R403), for a record with this nominal rate below its triple-sampling threshold or not. -/
def channelFlags (c : Channel) (triple : Bool) : Nat :=
  flag triple 0 + flag c.tdcValid 1 + flag (decide (c.leakLevel ≥ 1)) 2 + flag (decide (c.leakLevel ≥ 2)) 3
    + flag c.leakFault 4 + flag c.leakLow 5 + flag c.leakHigh 6

/-- PTP flags (R372): the bits of RING.INFO. -/
def ptpFlags (r : Ring) : Nat :=
  flag r.opened 0 + flag r.ptp.sync 1 + flag r.ptp.disagree 2 + flag (decide (r.ptp.state = 4)) 3

end Sys2Proof.Machine
end

