-- ==== Sys2Proof/Machine/Ops.lean ====
section
/-! DEFINITION. The operations every chapter shares: sparse tables, the host window, values in force, sending frames, raising events, strobes, staging swaths, sessions and outages. -/

namespace Sys2Proof.Machine

/-! ## Sparse tables in canonical form -/

/-- The entry of a key; an unlisted key reads as the default. -/
def fget {α : Type} (d : α) : FMap α → Nat → α
  | [], _ => d
  | e :: m, k => if e.1 = k then e.2 else fget d m k

/-- Set a key; an entry equal to the default is not listed, and keys stay in rising order. -/
def fput {α : Type} [DecidableEq α] (d : α) : FMap α → Nat → α → FMap α
  | [], k, v => if v = d then [] else [(k, v)]
  | e :: m, k, v =>
    if k < e.1 then (if v = d then e :: m else (k, v) :: e :: m)
    else if k = e.1 then (if v = d then m else (k, v) :: m)
    else e :: fput d m k v

/-- Every listed entry changed by a function of its value; one that becomes the default is no longer listed. -/
def fmapv {α β : Type} [DecidableEq β] (d : β) (f : α → β) : FMap α → FMap β
  | [] => []
  | e :: m => if f e.2 = d then fmapv d f m else (e.1, f e.2) :: fmapv d f m

/-- Keys from a lower bound on rise strictly, and no entry equals the default. -/
def fwfFrom {α : Type} [DecidableEq α] (d : α) : Nat → FMap α → Bool
  | _, [] => true
  | lo, e :: m => decide (lo ≤ e.1) && decide (e.2 ≠ d) && fwfFrom d (e.1 + 1) m

/-- Canonical form of a table. -/
def fwf {α : Type} [DecidableEq α] (d : α) (m : FMap α) : Bool := fwfFrom d 0 m

/-- Add to a counter of a table of counters. -/
def bump (m : FMap Nat) (k n : Nat) : FMap Nat := fput 0 m k (fget 0 m k + n)

/-- Counters 0 to n − 1 as 32-bit fields. -/
def countBytes (m : FMap Nat) (n : Nat) : List Byte := (List.range n).flatMap fun i => le 4 (count32 (fget 0 m i))

/-! ## The host window -/

/-- Canonical form of the window: addresses strictly rising, and no entry equal to the 0 that an unlisted address reads as (log 6). -/
def Memory.wf (m : List Host.Cell) : Bool := fwf (0 : Byte) m

/-- One byte of the window. -/
def readByte (m : List Host.Cell) (a : Nat) : Byte := fget 0 m a

/-- Store one byte of the window. -/
def writeByte (m : List Host.Cell) (a : Nat) (b : Byte) : List Host.Cell := fput 0 m a b

/-- Store bytes from an address upward. -/
def writeBytes : List Host.Cell → Nat → List Byte → List Host.Cell
  | m, _, [] => m
  | m, a, b :: bs => writeBytes (writeByte m a b) (a + 1) bs

/-- Read bytes from an address upward. -/
def readBytes (m : List Host.Cell) (a : Nat) : Nat → List Byte
  | 0 => []
  | n + 1 => readByte m a :: readBytes m (a + 1) n

/-- Request and response areas of a mailbox, and the bulk window (R36). -/
def requestArea (m : Nat) : Nat := 0x1000 + 0x800 * m
def responseArea (m : Nat) : Nat := 0x1400 + 0x800 * m
abbrev bulkWindow : Nat := 0x10000
abbrev bulkSize : Nat := 65536
abbrev areaSize : Nat := 1024

/-! ## The present instant and time -/

/-- Milliseconds since power-on, counted by the clock's ticks (log 9). -/
def State.ms (s : State) : Nat := s.clock.ticksRun * 1000 / 32768

/-- Milliseconds since a count of ticks. -/
def State.msSince (s : State) (t : Nat) : Nat := (s.clock.ticksRun - t) * 1000 / 32768

def State.cycle (s : State) : Nat := s.phase.now.cycle
def State.angle (s : State) : Nat := s.phase.now.angle

/-- The phase clock has reached an angle of the present rod; it never runs back (R114, log 3). -/
def State.atAngle (s : State) (a : Nat) : State :=
  { s with phase := { s.phase with now := { s.phase.now with angle := max s.phase.now.angle a } } }

/-! ## Values in force (R94, R95) -/

/-- The swath of a number, carried in the base or loaded (R87, R96). -/
def Cfg.swath (c : Cfg) (n : Nat) : Option Swath :=
  match c.base with
  | none => none
  | some b =>
    match findRecord b.records 0x0201 n with
    | some v => parseSwath true v
    | none => c.loaded.find? fun w => w.number == n

/-- The value on the highest level of a list of levels, highest first, that has the key. -/
def Cfg.stacked (c : Cfg) (t i : Nat) : List (Option Nat) → Option (List Byte)
  | [] => none
  | l :: ls =>
    match l with
    | none => c.stacked t i ls
    | some n =>
      match c.swath n with
      | none => c.stacked t i ls
      | some w =>
        match findRecord w.records t i with
        | none => c.stacked t i ls
        | some v => some v

/-- The base value of a key. -/
def Cfg.baseValue (c : Cfg) (t i : Nat) : Option (List Byte) :=
  match c.base with
  | none => none
  | some b => findRecord b.records t i

/-- The value in force of a key (R95). -/
def Cfg.value (c : Cfg) (t i : Nat) : Option (List Byte) :=
  match c.baseValue t i with
  | none => none
  | some v => if typeOvl t then some ((c.stacked t i c.stack.reverse).getD v) else some v

/-- The value in force, or a default's bytes where there is no record. -/
def Cfg.valueOr (c : Cfg) (t i : Nat) (d : List Byte) : List Byte := (c.value t i).getD d

/-- The base records of a type, in key order. -/
def Cfg.recordsOf (c : Cfg) (t : Nat) : List Record :=
  match c.base with
  | none => []
  | some b => b.records.filter fun r => r.type == t

/-- The claimant of a resource (R693, R695): NONE without a record. -/
def Cfg.claimant (c : Cfg) (r : Nat) : Nat := ((c.baseValue 0x1701 r).map fun v => u8 v 0).getD 0

/-- A drive-layer mask names a layer (R696): bit 0 ABACUS, bit 1 ENGINE, bit 2 HOST. -/
def Cfg.layerNamed (c : Cfg) (r i : Nat) : Bool := decide (c.claimant r ≤ 7) && bit (c.claimant r) i

/-! ## Free values (log 10) -/

/-- The next free byte, and the state after it is taken. -/
def State.takeByte (s : State) : Byte × State := (Config.freeByte s.free, { s with free := s.free + 1 })
def State.takeBool (s : State) : Bool × State := (Config.freeBool s.free, { s with free := s.free + 1 })
def State.takeWord (s : State) : Word × State := (Config.freeWord s.free, { s with free := s.free + 1 })

/-! ## The switch's egress queues (R345) -/

/-- What raises an event: code and parameters. -/
abbrev Raiser := Nat → List Nat → State → State

def State.port (s : State) (p : Nat) : Port := fget {} s.ring.ports p
def State.setPort (s : State) (p : Nat) (x : Port) : State := { s with ring := { s.ring with ports := fput {} s.ring.ports p x } }

/-- Add one to a RING.PORT counter (R372). -/
def State.countPort (s : State) (p i : Nat) : State :=
  let x := s.port p
  s.setPort p { x with counters := bump x.counters i 1 }

/-- Queue a frame on an egress port in a traffic class; a full queue discards and counts it, and RING.QUEUE_DROP is raised at most once per 256 rods per port (R345, R371). A port without a link takes no frame (log 14). -/
def enqueueFrame (rz : Raiser) (p cls : Nat) (f : EthFrame) (s : State) : State :=
  let x := s.port p
  let q := fget [] x.queues cls
  if x.link = false then s
  else if (q.map EthFrame.length).sum + f.length > 65536 then
    let n := x.drops + 1
    let counters := bump x.counters (9 + cls) 1
    if (match x.dropRaised with
        | none => true
        | some c => decide (s.cycle ≥ c + 256)) then
      rz 0x0908 [p, cls, n] (s.setPort p { x with counters := counters, drops := 0, dropRaised := some s.cycle })
    else s.setPort p { x with counters := counters, drops := n }
  else s.setPort p { x with queues := fput [] x.queues cls (q ++ [f]) }

/-- The ring record in force (R368). -/
def Cfg.ring (c : Cfg) : List Byte := c.valueOr 0x0901 0 (zeros 140)
def Cfg.siteVid (c : Cfg) : Nat := u16 c.ring 2
def Cfg.ringFlag (c : Cfg) (i : Nat) : Bool := bit (u8 c.ring 1) i
def Cfg.standalone (c : Cfg) : Bool := decide (u8 c.ring 0 = 1)

/-- Flags of the VLAN entry of a VID (R368): bit 0 HOST, bit 1 HOST_TAGGED, bit 2 MBX; none without an entry. -/
def Cfg.vlan (c : Cfg) (vid : Nat) : Option Nat :=
  ((List.range 32).find? fun i => u16 c.ring (12 + 4 * i) == vid && vid != 0).map fun i => u8 c.ring (14 + 4 * i)

/-- A frame of a VID may leave the host port, and whether tagged (R351); in fallow and test modes on any VID (R367). -/
def hostEgress (s : State) (vid : Nat) : Option Bool :=
  if s.hif.mode = .fallow ∨ s.hif.mode = .test then
    match s.cfg.vlan vid with
    | none => some true
    | some f => some (!bit f 0 || bit f 1)
  else if vid = s.cfg.siteVid then (if s.cfg.ringFlag 2 then some true else none)
  else
    match s.cfg.vlan vid with
    | none => none
    | some f => if bit f 0 then some (bit f 1) else none

/-- Send a frame of this chip's own on the ring ports, both copies under one sequence number (R346, R362). -/
def sendRing (rz : Raiser) (pcp : Nat) (f : EthFrame) (s : State) : State :=
  if s.cfg.standalone then s
  else
    let g := { f with hsr := some s.ring.seq }
    let s1 := { s with ring := { s.ring with seq := (s.ring.seq + 1) % 65536 } }
    enqueueFrame rz 1 pcp g (enqueueFrame rz 0 pcp g s1)

/-- Send a frame on the host port, where its VID may leave there (R351). -/
def sendHost (rz : Raiser) (pcp : Nat) (f : EthFrame) (s : State) : State :=
  match f.vlan with
  | none => enqueueFrame rz 2 pcp f s
  | some (vid, _) =>
    match hostEgress s vid with
    | none => s
    | some true => enqueueFrame rz 2 pcp f s
    | some false => enqueueFrame rz 2 pcp { f with vlan := none } s

/-- An Ethernet frame of the Drallithal's own protocol (R362): header 12, tag 4, HSR tag 6, EtherType 2, subtype 1, FCS 4, at least 64 bytes. -/
def ownFrame (dst vid pcp subtype : Nat) (body : List Byte) : EthFrame :=
  { dst := dst, src := ownMac, vlan := some (vid, pcp), hsr := none, etherType := 0x88B5,
    body := BitVec.ofNat 8 subtype :: body, length := max 64 (29 + body.length) }

/-- A node is a host-port device in the proxy table (R350). -/
def isProxy (r : Ring) (mac : Nat) : Bool := r.proxies.any fun p => p.mac == mac

/-- The chip sends frames of its own other than mailbox responses in this mode (R367). -/
def sendsOwn (s : State) : Bool := decide (s.hif.mode = .start ∨ s.hif.mode = .running)

/-- Send a group frame of the chip's own on site_vid: both ring ports, and the host port while HOST_COMMONS is set (R351, R362, R367). -/
def sendGroup (rz : Raiser) (dst pcp subtype : Nat) (body : List Byte) (s : State) : State :=
  if sendsOwn s then
    let f := ownFrame dst s.cfg.siteVid pcp subtype body
    sendHost rz pcp f (sendRing rz pcp f s)
  else s

/-- Send a lease frame to another chip (R222, R352). -/
def sendLease (rz : Raiser) (dst : Nat) (body : List Byte) (s : State) : State :=
  if sendsOwn s then sendRing rz 6 (ownFrame dst s.cfg.siteVid 6 0x04 body) s else s

/-- Send a mailbox frame to a requester (R365). -/
def sendMailbox (rz : Raiser) (mac vid pcp subtype : Nat) (body : List Byte) (s : State) : State :=
  let f := ownFrame mac vid pcp subtype body
  if isProxy s.ring mac then sendHost rz pcp f s else sendRing rz pcp f s

/-! ## Records of events (R592 to R599) -/

/-- The record of an event raised now (R592 to R594). -/
def recordOf (s : State) (code : Nat) (ps : List Nat) : EventRecord :=
  { code := code, bvl := s.clock.bvl, nocount := !s.phase.countValid, cont := false, repeats := 1,
    seconds := s.clock.seconds, fraction := s.clock.fraction, cycle := low32 s.cycle, angle := s.angle,
    params := (ps ++ [0, 0, 0, 0]).take 4 |>.map low32,
    single := decide (code = 0x1202) || decide (code = 0x1201) }

/-- The code word of a record (R593). -/
def EventRecord.word (r : EventRecord) : Nat := r.code + flag r.cont 13 + flag r.nocount 14 + flag r.bvl 15

/-- The 32 bytes of a record (R592). -/
def EventRecord.bytes (r : EventRecord) : List Byte :=
  le 2 r.word ++ le 2 r.repeats ++ le 4 r.seconds ++ le 2 r.fraction ++ le 4 r.cycle ++ le 2 r.angle ++ r.params.flatMap (le 4)

/-- A report equals a record, so that it may merge into it (R596; CONT is not compared, log 15). -/
def mergeable (a r : EventRecord) : Bool :=
  !a.single && !r.single && a.code == r.code && a.bvl == r.bvl && a.nocount == r.nocount && a.params == r.params

/-- Slot of a sequence number in the circulating area (R601). -/
def areaSlot (seq : Nat) : Nat := seq % 16384

/-- The newest record written (R596). -/
def newestWritten (r : Recorder) : Option EventRecord :=
  if r.seq = 0 then none
  else
    match fget none r.area (areaSlot (r.seq - 1)) with
    | none => none
    | some e => some e.2

/-- Raise the repeat count of the newest record written, and of its kept copy (R596, R602). -/
def mergeWritten (r : Recorder) : Recorder :=
  let up := fun (e : Nat × EventRecord) => if e.1 = r.seq - 1 then (e.1, { e.2 with repeats := e.2.repeats + 1 }) else e
  { r with
    area := fput none r.area (areaSlot (r.seq - 1)) ((fget none r.area (areaSlot (r.seq - 1))).map up)
    kept := r.kept.map up
    stats := bump r.stats 1 1 }

/-- Raise the repeat count of the newest entry in the intake (R596). -/
def mergeIntake (r : Recorder) : Recorder :=
  { r with
    intake := r.intake.dropLast ++ (r.intake.getLast?.map fun e => { e with repeats := e.repeats + 1 }).toList
    stats := bump r.stats 1 1 }

/-- How the intake takes a report: merged, entered or lost. -/
inductive IntakeResult where
  | merged | entered | lost
deriving DecidableEq, Repr

/-- What the intake does with a report (R596 to R598). -/
def intakeResult (r : Recorder) (e : EventRecord) : IntakeResult :=
  let newest := if r.intake.isEmpty then newestWritten r else r.intake.getLast?
  match newest with
  | some x =>
    if mergeable e x && decide (x.repeats < 65535) then .merged
    else if r.intake.length ≥ 64 then .lost else .entered
  | none => if r.intake.length ≥ 64 then .lost else .entered

/-- A report enters the recorder's intake (R596 to R598). -/
def intakeTake (r : Recorder) (e : EventRecord) : Recorder :=
  match intakeResult r e with
  | .merged => if r.intake.isEmpty then mergeWritten r else mergeIntake r
  | .lost =>
    let k := e.code / 256 % 16
    { r with lost := fput 0 r.lost k (sat 255 (fget 0 r.lost k + 1)), stats := bump r.stats 2 1 }
  | .entered =>
    let newest := if r.intake.isEmpty then newestWritten r else r.intake.getLast?
    let cont := match newest with
      | some x => mergeable e x
      | none => false
    { r with intake := r.intake ++ [{ e with cont := cont }] }

/-- Two records are stamped at one tick (R594). -/
def sameTick (a b : EventRecord) : Bool := a.cycle == b.cycle && a.angle == b.angle && a.seconds == b.seconds && a.fraction == b.fraction

/-- A report enters after another of its tick: in ascending event code and first parameter, and LOG.MARK after every other (R595). -/
def entersAfter (x e : EventRecord) : Bool :=
  if x.code = 0x1203 then e.code != 0x1203
  else if e.code = 0x1203 then false
  else decide (e.code < x.code) || (e.code == x.code && decide (e.params.headD 0 < x.params.headD 0))

/-- Entries at the intake's end that a report of their own tick enters ahead of (R595); it stays behind LOG.OVERFLOW, and behind LOG.REARMED, whose sequence number has been answered (log 40). -/
def laterEntries (r : Recorder) (e : EventRecord) : List EventRecord :=
  if e.single then [] else (r.intake.reverse.takeWhile fun x => !x.single && sameTick x e && entersAfter x e).reverse

/-- The recorder as a report finds it: without the entries that it enters ahead of. -/
def intakeBefore (r : Recorder) (e : EventRecord) : Recorder :=
  { r with intake := r.intake.take (r.intake.length - (laterEntries r e).length) }

/-- A report is counted as lost in its class (R598). -/
def loseReport (r : Recorder) (e : EventRecord) : Recorder :=
  let k := e.code / 256 % 16
  { r with lost := fput 0 r.lost k (sat 255 (fget 0 r.lost k + 1)), stats := bump r.stats 2 1 }

/-- What becomes of a report in its place among those of its tick (R595 to R598). -/
def reportResult (r : Recorder) (e : EventRecord) : IntakeResult :=
  match intakeResult (intakeBefore r e) e with
  | .merged => .merged
  | _ => if 64 ≤ r.intake.length then .lost else .entered

/-- A report enters the intake in its place among those of its tick (R595 to R598). -/
def takeReport (r : Recorder) (e : EventRecord) : Recorder :=
  match reportResult r e with
  | .lost => loseReport r e
  | _ =>
    let t := intakeTake (intakeBefore r e) e
    { t with intake := t.intake ++ laterEntries r e }

/-- Sequence number that a report's record has or will have (R610). -/
def reportSeq (r : Recorder) (e : EventRecord) : Nat := r.seq + (intakeTake (intakeBefore r e) e).intake.length - 1

/-! ## Snapshot strobes (R605 to R612) -/

/-- The snapshot record in force (R616). -/
def Cfg.snap (c : Cfg) : List Byte := c.valueOr 0x9301 0 ([0, 0, 0xFF, 0] ++ zeros 64)

def State.bank (s : State) (b : Nat) : SnapBank := fget {} s.snap.banks b
def State.setBank (s : State) (b : Nat) (x : SnapBank) : State := { s with snap := { s.snap with banks := fput {} s.snap.banks b x } }

/-- A snapshot trigger body (R363). -/
def triggerBody (i : Instant) (bank : Nat) : List Byte :=
  be 8 ownUid ++ be 6 (i.cycle % 2 ^ 48) ++ be 2 i.angle ++ le 1 bank ++ zeros 3

/-- Send the snapshot trigger of an instant and bank (R612). -/
def sendTrigger (rz : Raiser) (i : Instant) (bank : Nat) (s : State) : State :=
  sendGroup rz 0x03504C440003 7 0x08 (triggerBody i bank) s

/-! ## Trace triggers (R301) -/

def State.trace (s : State) (c : Nat) : Trace := fget {} s.engine.traces c
def State.setTrace (s : State) (c : Nat) (x : Trace) : State := { s with engine := { s.engine with traces := fput {} s.engine.traces c x } }

/-- A channel's trigger fires. -/
def fireTrace (c : Nat) (s : State) : State :=
  let x := s.trace c
  if x.state = 1 then s.setTrace c { x with state := 2, triggerIndex := x.entries.length, triggerInstant := s.phase.now, left := x.post } else s

/-- Channels that trace a slot with a trigger: 1 STROBE, 2 FLAG, 3 STATE. -/
def fireTraces (trigger : Nat) (p : Trace → Bool) (s : State) : State :=
  (List.range 16).foldl (fun s c => if (s.trace c).trigger = trigger ∧ p (s.trace c) then fireTrace c s else s) s

/-- A strobe on a bank from a source of R606, in bit position (R605, R607, R609, R610, R615). -/
def strobe (rz : Raiser) (b source : Nat) (late remote : Bool) (sender seq : Nat) (s : State) : State :=
  let x := s.bank b
  let mask := 2 ^ source
  if x.state = 1 ∧ x.strobe = s.phase.now then
    s.setBank b { x with sources := x.sources ||| mask, late := x.late || late, remote := x.remote || remote }
  else if x.state = 1 then rz 0x1302 [b, 2, mask, low32 s.cycle] s
  else if x.state = 2 ∧ bit (u8 s.cfg.snap 1) b then rz 0x1302 [b, 1, mask, low32 s.cycle] s
  else
    let s1 := s.setBank b
      { state := 1, sources := mask, late := late, remote := remote, strobe := s.phase.now, sender := sender, seq := seq,
        mode := s.hif.mode, latched := some s.toBlocks }
      |> fireTraces 1 fun _ => true
    rz 0x1301 [b, mask, flag late 0 + flag remote 1, low32 sender] { s1 with snap := { s1.snap with out := true, outSince := s.phase.now } }

/-- A strobe of the chip's own, which sends a trigger when its source's bit is set in the send mask (R612). -/
def ownStrobe (rz : Raiser) (b source seq : Nat) (s : State) : State :=
  let s1 := strobe rz b source false false 0 seq s
  if bit (u8 s.cfg.snap 0) source && decide (source ≤ 3) then sendTrigger rz s.phase.now b s1 else s1

/-! ## Notifications (R51 to R55) -/

/-- The open session of a handle. -/
def findSession (s : State) (h : Nat) : Option Session := s.mail.sessions.find? fun x => x.handle == h

/-- The session of a handle is an owner session. -/
def isOwner (s : State) (h : Nat) : Bool :=
  match findSession s h with
  | none => false
  | some x => x.role == 3

/-- Who a session belongs to: session 0x0000 is the local port (R68). -/
def sessionRequester (s : State) (h : Nat) : Requester × Nat × Nat :=
  match findSession s h with
  | none => (.qspi, 0, 0)
  | some x => (x.who, x.port, x.vid)

/-- The message of a notification (R42, R51, R55). -/
def noticeMessage (s : State) (n : Notice) : List Byte :=
  ({ code := n.code, tag := n.tag, length := n.payload.length, session := n.session,
     flags := noticeFlags s n.completion (isOwner s n.session), status := n.status } : Header).bytes ++ n.payload

/-- Place the front notification in the response area of mailbox 15, if its READY bit is clear (R49). -/
def placeNotice (s : State) : State :=
  if s.hif.respReady.getLsbD 15 || s.mail.noticePlaced || s.hif.supPause then s
  else
    match s.mail.notices with
    | [] => s
    | n :: _ =>
      { s with
        window := writeBytes s.window (responseArea 15) (fit areaSize (noticeMessage s n))
        hif := { s.hif with respReady := s.hif.respReady ||| 0x8000#16 }
        mail := { s.mail with noticePlaced := true } }

/-- Put a notification at the end of the queue of mailbox 15. -/
def pushNotice (n : Notice) (s : State) : State :=
  placeNotice { s with mail := { s.mail with notices := s.mail.notices ++ [n] } }

/-- Send a notification to a network requester as a frame (R62, R365). -/
def sendNotice (rz : Raiser) (mac vid : Nat) (n : Notice) (s : State) : State :=
  let (b, s1) := s.takeByte
  let m := noticeMessage s n
  sendMailbox rz mac vid 5 0x07 ([0x0F#8, b] ++ be 2 m.length ++ m) s1

/-- Count a lost event notification against a session (R54). -/
def countLost (h code : Nat) (s : State) : State :=
  let l := s.mail.lostNotices
  let l' := if l.any fun x => x.session == h then l.map fun x => if x.session = h then { x with count := x.count + 1 } else x
            else l ++ [{ session := h, count := 1, code := code }]
  { s with mail := { s.mail with lostNotices := l' } }

/-- One event notification for a session: queued, or sent to a network requester, or lost (R54, R55). -/
def notifyOne (rz : Raiser) (r : EventRecord) (h : Nat) (s : State) : State :=
  let n : Notice := { completion := false, code := r.code, tag := 0, session := h, status := 0, payload := r.bytes }
  match sessionRequester s h with
  | (.net mac, _, vid) => sendNotice rz mac vid n s
  | (.qspi, _, _) =>
    if (s.mail.notices.filter fun x => !x.completion).length < 48 then pushNotice n s else countLost h r.code s

/-- Event notifications of a record to every subscribing session; CLOCK.OSC_STOPPED to owner sessions only (R55, R584). -/
def notifyAll (rz : Raiser) (r : EventRecord) (s : State) : State :=
  (s.mail.subscriptions.filter fun x => x.mask.getLsbD (r.code / 256) && (r.code != 0x1103 || isOwner s x.session)).foldl
    (fun s x => notifyOne rz r x.session s) s

/-! ## Raising an event -/

/-- Recorder matches that a report meets and that have not raised a strobe in this rod: their banks (R608). -/
def matchedBanks (s : State) (code : Nat) : List (Nat × Nat) :=
  if code / 256 = 0x13 then []
  else
    ((List.range 8).filter fun i =>
      let o := 4 + 8 * i
      let v := s.cfg.snap
      bit (u8 v (o + 5)) 0 && decide (code &&& u16 v (o + 2) = u16 v o &&& u16 v (o + 2))
        && decide (fget none s.recorder.matched i ≠ some s.cycle)).map fun i => (i, u8 s.cfg.snap (4 + 8 * i + 4))

/-- A report reaches the intake and meets the recorder matches (R595 to R598, R608). -/
def reportWith (rz : Raiser) (r : EventRecord) (s : State) : State :=
  (matchedBanks s r.code).foldl
    (fun t e =>
      ownStrobe rz e.2 1 (reportSeq s.recorder r)
        { t with recorder := { t.recorder with matched := fput none t.recorder.matched e.1 (some t.cycle) } })
    { s with recorder := takeReport s.recorder r }

/-- A report reaches the intake, meets the recorder matches, and is notified unless it merged (R55, R595 to R598, R608). The fuel bounds events raised by raising: a strobe's, a full queue's. -/
def raiseWith : Nat → Raiser
  | 0 => fun code ps s => { s with recorder := takeReport s.recorder (recordOf s code ps) }
  | n + 1 => fun code ps s =>
    let r := recordOf s code ps
    let s1 := reportWith (raiseWith n) r s
    if reportResult s.recorder r = .merged then s1 else notifyAll (raiseWith n) r s1

/-- Raise an event (R75). -/
def raise : Raiser := raiseWith 6

/-- Raise several events in turn. -/
def raiseAll : List (Nat × List Nat) → State → State
  | [], s => s
  | e :: es, s => raiseAll es (raise e.1 e.2 s)

/-- A rollback counter rises to a greater value, and SEC.COUNTER_RAISED says so: 1 firmware, 2 configuration, 3 key revocation (R670, R684). -/
def noteRaise (counter old new : Nat) (s : State) : State := if old < new then raise 0x1604 [counter, old, new] s else s

/-! ## Completion of deferred commands (R51 to R53, R56) -/

/-- Completions that wait in the queue of mailbox 15 (R54). -/
def completionsWaiting (s : State) : Nat := (s.mail.notices.filter Notice.completion).length

/-- Notify a completion whose ACCEPTED response is released: a local one needs one of the sixteen reserved entries (R52 to R54, log 16). -/
def notifyCompletion (d : Deferred) (a : Answer) (s : State) : State :=
  let n : Notice := { completion := true, code := d.code, tag := d.tag, session := d.session, status := a.status, payload := a.payload }
  let keep := fun (s : State) =>
    { s with mail := { s.mail with
        deferred := s.mail.deferred.filter fun x => x.job != d.job
        finished := { session := d.session, tag := d.tag, status := a.status } :: s.mail.finished } }
  match d.who with
  | .net mac => keep (sendNotice raise mac d.vid n s)
  | .qspi => if completionsWaiting s < 16 then keep (pushNotice n s) else s

/-- The completion of a claim-changing CFG.ACTIVATE names the boundary of its restart, the second after the completion is placed (R103, R106; DEDUCED, log 46: placed is put into the queue of mailbox 15, or sent). -/
def restartAnswer (d : Deferred) (a : Answer) (s : State) : Answer :=
  if s.cfg.restartJob = some d.job then { a with payload := a.payload.take 8 ++ cycle64 (s.cycle + 2) } else a

/-- The restart is due at the second boundary after its completion has been placed (R103). -/
def noteRestart (d : Deferred) (s : State) : State :=
  if s.cfg.restartJob = some d.job ∧ (s.mail.deferred.any fun x => x.job == d.job) = false then
    { s with cfg := { s.cfg with restartJob := none, restartAt := some (s.cycle + 2) } }
  else s

/-- Deliver one completion that is due. -/
def deliverOne (s : State) (d : Deferred) : State :=
  noteRestart d (notifyCompletion d (restartAnswer d (d.final.getD {}) s) s)

/-- Deliver every completion that is due (R53). -/
def deliverCompletions (s : State) : State :=
  if s.hif.supPause then s
  else
    (s.mail.deferred.filter fun d => d.released && d.final.isSome).foldl deliverOne s

/-- A deferred command finishes with a final status and payload (R51). -/
def complete (job : Nat) (a : Answer) (s : State) : State :=
  deliverCompletions
    { s with mail := { s.mail with deferred := s.mail.deferred.map fun d =>
        if d.job = job ∧ d.final = none then { d with final := some a } else d } }

/-! ## Responses (R46 to R49, R61, R62) -/

def State.entries (s : State) (m : Nat) : List Entry := fget [] s.mail.queues m
def State.setEntries (s : State) (m : Nat) (es : List Entry) : State := { s with mail := { s.mail with queues := fput [] s.mail.queues m es } }
def State.mbxStats (s : State) (m : Nat) : MbxStats := fget {} s.mail.stats m
def State.setMbxStats (s : State) (m : Nat) (x : MbxStats) : State := { s with mail := { s.mail with stats := fput {} s.mail.stats m x } }

/-- The message of a response (R42, R43). DESIGN CHOICE, log 46: whether it is addressed to an owner session is judged when it is placed, so the OSF bit is clear once the session has closed. -/
def responseMessage (s : State) (r : Request) (a : Answer) : List Byte :=
  ({ code := r.hdr.code, tag := r.hdr.tag, length := a.payload.length, session := r.hdr.session,
     flags := responseFlags s (decide (r.who ≠ .qspi)) (isOwner s r.hdr.session), status := a.status } : Header).bytes ++ a.payload

/-- A deferred command's ACCEPTED response has been released, or sent (R53). -/
def releaseAccepted (a : Answer) (s : State) : State :=
  match a.job with
  | none => s
  | some j =>
    deliverCompletions { s with mail := { s.mail with deferred := s.mail.deferred.map fun d =>
      if d.job = j then { d with released := true } else d } }

/-- The response of SYS.WARM_RESTART is placed: the restart begins at the second rod boundary after it, or when an earlier one does (R81). -/
def noteWarm (r : Request) (a : Answer) (s : State) : State :=
  if r.hdr.code = 0x010B ∧ a.status = 0 then { s with super := { s.super with warmAt := some (s.super.warmAt.getD (s.cycle + 2)) } } else s

/-- HIF_REQ_FREE of a mailbox (R39, R44, R46). -/
def setFree (m : Nat) (b : Bool) (h : Hif) : Hif :=
  { h with reqFree := if b then h.reqFree ||| BitVec.twoPow 16 m else h.reqFree &&& ~~~(BitVec.twoPow 16 m) }

/-- The BUSY answer of R46 is no longer held: FREE is set again. -/
def freeBusy (m : Nat) (e : Entry) (s : State) : State := if e.busy then { s with hif := setFree m true s.hif } else s

/-- Send a response to a network requester and keep it (R62, R365). -/
def sendResponse (m : Nat) (r : Request) (a : Answer) (mac : Nat) (s : State) : State :=
  let msg := responseMessage s r a
  let s1 := sendMailbox raise mac r.vid r.pcp 0x06 (le 1 m ++ le 1 r.seq ++ be 2 msg.length ++ msg) s
  let kept := s1.mail.kept.map fun k =>
    if k.mac = mac ∧ k.mailbox = m ∧ k.seq = r.seq then { k with response := some msg } else k
  noteWarm r a (releaseAccepted a { s1 with mail := { s1.mail with kept := kept } })

/-- Responses that are ready, in order of submission: to the area while READY is clear, to the network at once (R47, R49). DESIGN CHOICE, log 46: the bytes of the area beyond the message read 0. -/
def flushEntries (m : Nat) : List Entry → State → List Entry × State
  | [], s => ([], s)
  | e :: es, s =>
    match e.answer with
    | none => (e :: es, s)
    | some a =>
      if e.placed then
        let r := flushEntries m es s
        (e :: r.1, r.2)
      else
        match e.req.who with
        | .net mac => flushEntries m es (freeBusy m e (sendResponse m e.req a mac s))
        | .qspi =>
          if s.hif.respReady.getLsbD m then (e :: es, s)
          else
            let s1 := noteWarm e.req a { s with
              window := writeBytes s.window (responseArea m) (fit areaSize (responseMessage s e.req a))
              hif := { s.hif with respReady := s.hif.respReady ||| BitVec.twoPow 16 m } }
            let r := flushEntries m es s1
            ({ e with placed := true } :: r.1, r.2)

/-- Place or send the responses of a mailbox that are due; none during a supervisor pause (R30, R367). -/
def flush (m : Nat) (s : State) : State :=
  if s.hif.supPause then s
  else
    let r := flushEntries m (s.entries m) s
    r.2.setEntries m r.1

/-- The payload a status may carry (R73). -/
def carriesPayload (status : Nat) : Bool := status == 0 || status == 1 || status == 7 || status == 0x11

/-- Answer the oldest request of a mailbox that has no answer. -/
def answerFirst (a : Answer) : List Entry → List Entry
  | [] => []
  | e :: es => if e.answer = none then { e with answer := some a } :: es else e :: answerFirst a es

/-- The oldest request of a mailbox that has no answer. -/
def waitingEntry (s : State) (m : Nat) : Option Entry := (s.entries m).find? fun e => e.answer.isNone

/-! ## Availability (R24 to R27, R50, R78) -/

/-- The calendar year of the clock's count. -/
def State.year (s : State) : Nat := (yearOfDay 140 2000 (s.clock.seconds / 86400)).1

/-- Milliseconds of the clock since its year began. -/
def State.yearMs (s : State) : Nat :=
  (s.clock.seconds - daysBeforeYear (s.year - 2000) * 86400) * 1000 + s.clock.fraction * 1000 / 32768

def addYear (y excluded ms n : Nat) (s : State) : State :=
  let c := fget {} s.mail.years y
  let c' := if excluded = 1 then { c with noSupplyMs := c.noSupplyMs + ms, intervals := c.intervals + n }
            else if excluded = 2 then { c with ownerMs := c.ownerMs + ms, intervals := c.intervals + n }
            else { c with outMs := c.outMs + ms, intervals := c.intervals + n }
  { s with mail := { s.mail with years := fput {} s.mail.years y c' } }

/-- Milliseconds that end now, each in its calendar year (R27): `into` of them lie in year y at most. -/
def creditYears : Nat → Nat → Nat → Nat → Nat → State → State
  | 0, y, excluded, ms, _, s => addYear y excluded ms 0 s
  | fuel + 1, y, excluded, ms, into, s =>
    if ms ≤ into ∨ y ≤ 2000 then addYear y excluded ms 0 s
    else creditYears fuel (y - 1) excluded (ms - into) (yearDays (y - 1) * 86400000) (addYear y excluded into 0 s)

/-- An interval of this length that ends now is counted (R27): its time in the years it lies in, itself in the year it ends in (DEDUCED, log 46). -/
def countInterval (excluded ms : Nat) (s : State) : State :=
  addYear s.year excluded 0 1 (creditYears 140 s.year excluded ms s.yearMs s)

/-- The causes that only a late answer of mailbox 0 gives (R78). -/
def lateCause (c : Nat) : Bool := c == 1 || c == 7

/-- An out-of-service interval begins, or a cause overlaps the one in progress: the first of them in table order stands (R78). -/
def beginOutage (cause excluded : Nat) (s : State) : State :=
  match s.mail.outage with
  | none => { s with mail := { s.mail with outage := some ⟨cause, s.clock.ticksRun, excluded, [cause]⟩ } }
  | some i =>
    let j : Interval :=
      { cause := min cause i.cause, since := i.since, excluded := if excluded = 0 then i.excluded else excluded, active := cause :: i.active.filter (· != cause) }
    { s with mail := { s.mail with outage := some j } }

/-- The interval in progress ends: it is counted and SYS.OUTAGE is raised (R27, R75). -/
def endOutage (s : State) : State :=
  match s.mail.outage with
  | none => s
  | some i =>
    let ms := s.msSince i.since
    raise 0x0105 [ms, i.cause, if i.excluded = 0 then 0 else 1]
      (countInterval i.excluded ms { s with mail := { s.mail with outage := none } })

/-- Causes hold no longer: the interval ends with the last of its causes (R24, R78). -/
def endCauses (ended : Nat → Bool) (s : State) : State :=
  match s.mail.outage with
  | none => s
  | some i =>
    if i.active.any ended then
      let left := i.active.filter fun c => !ended c
      if left = [] then endOutage s else { s with mail := { s.mail with outage := some { i with active := left } } }
    else s

/-- The chip goes out of service for a cause that takes the place of those before it: the interval goes on, or ends and another begins where its time is counted otherwise (R25, R78). -/
def changeOutage (cause excluded : Nat) (s : State) : State :=
  let s1 := match s.mail.outage with
    | some i => if i.excluded = excluded then beginOutage cause excluded s else beginOutage cause excluded (endOutage s)
    | none => beginOutage cause excluded s
  { s1 with mail := { s1.mail with outage := s1.mail.outage.map fun i : Interval => { i with active := [cause] } } }

/-- An out-of-service interval of a known length that is over (R171, R710). -/
def briefOutage (cause ms : Nat) (s : State) : State :=
  match s.mail.outage with
  | some i => { s with mail := { s.mail with outage := some { i with cause := min cause i.cause } } }
  | none => raise 0x0105 [ms, cause, 0] (countInterval 0 ms s)

/-- A request of mailbox 0 waits longer than 50 ms for its answer (R24, R50): 1,639 ticks of the clock are the first whole number beyond. -/
def Entry.late (e : Entry) (now : Nat) : Bool := e.answer.isNone && decide (e.rung + 1639 ≤ now)

/-- Mailbox 0 answers late: out of service, since the 50 ms passed, because of a core swap that the wait met, or of a warm restart that goes on, or for another reason (R24, R50, R78). -/
def checkLate (s : State) : State :=
  match (s.entries 0).find? fun e => e.late s.clock.ticksRun with
  | none => s
  | some e =>
    let swap := s.super.state == 2 || (match s.super.swapEnd with
      | none => false
      | some t => decide (e.rung ≤ t))
    let cause := if s.super.state = 4 then 2 else if swap then 1 else 7
    let fresh := s.mail.outage.isNone
    let s1 := if s.mail.outage.any fun i => i.active.contains 2 || i.active.contains cause then s else beginOutage cause 0 s
    if fresh then { s1 with mail := { s1.mail with outage := s1.mail.outage.map fun i : Interval => { i with since := e.rung + 1638 } } } else s1

/-- Mailbox 0 has answered what waited too long: a lateness is over, and so is a warm restart that has ended (R78); found at the clock's ticks (log 46). -/
def endLate (s : State) : State :=
  if (s.entries 0).any fun e => e.late s.clock.ticksRun then s
  else endCauses (fun c => lateCause c || (c == 2 && s.super.state != 4)) s

/-- Answer the oldest request that has no answer, and send what is due (R73). -/
def answer (m : Nat) (a : Answer) (s : State) : State :=
  let a' : Answer := if carriesPayload a.status then a else { a with payload := [] }
  let st := s.mbxStats m
  let s1 := if a'.status = 2 then s.setMbxStats m { st with busy := st.busy + 1 } else s
  let s2 := s1.setEntries m (answerFirst a' (s1.entries m))
  flush m s2

/-! ## Executing a command -/

/-- What a command sees of its request. -/
structure Call where
  mbx : Nat
  req : Request
  /-- 0 none, 1 observer, 2 operator, 3 owner -/
  role : Nat
deriving DecidableEq, Repr

def Call.pay (c : Call) : List Byte := c.req.payload
def Call.session (c : Call) : Nat := c.req.hdr.session
def Call.owner (c : Call) : Bool := c.role == 3

/-- The role a request acts in, or the status that refuses its handle (R66 to R68, R73). -/
def roleOf (s : State) (r : Request) : Except Nat Nat :=
  if r.hdr.session = 0 then
    match r.who, s.cfg.base with
    | .qspi, some b => .ok (if bit b.flags 0 && !s.cfg.borrowed then 2 else 0)
    | _, _ => .ok 0
  else
    match findSession s r.hdr.session with
    | none => .error 0x0E
    | some x => if x.who = r.who then .ok x.role else .error 0x05

/-- A class is served on a mailbox (R50, R70). -/
def classOnMailbox (m cls : Nat) : Bool := if m = 0 then cls == 1 || cls == 0x14 else cls != 0x14

/-- The mode lets a class through on a mailbox, as FALLOW_ONLY is decided (R74, R634). -/
def modeServes (mode : Mode) (m cls : Nat) : Bool :=
  match mode with
  | .bootRom | .start | .running => true
  | .fallow => decide (m = 0) && (cls == 1 || cls == 0x14)
  | .test => if m = 0 then cls == 1 || cls == 0x14 else cls == 0x10 || cls == 0x17

/-- Flags that must be zero in a request (R43). -/
abbrev forbiddenFlags : Nat := 0xFFF7

/-- The request has the BULK flag (R43, R79). -/
def Call.bulk (c : Call) : Bool := bit c.req.hdr.flags 3

/-- The first status of R73 that applies before the command's own checks, or the role in which it runs. -/
def entryCheck (s : State) (m : Nat) (r : Request) (role : Nat) (lenOk : Nat → Bool) : Except Nat Nat :=
  let cls := r.hdr.code / 256
  if r.hdr.length > 1008 then .error 3
  else if r.hdr.status ≠ 0 ∨ r.hdr.reserved ≠ 0 ∨ r.hdr.flags &&& forbiddenFlags ≠ 0 ∨ r.frameReserved ≠ 0 then .error 6
  else if modeServes s.hif.mode m cls = false then .error 0x10
  else if s.hif.mode = .bootRom ∧ r.hdr.code ≠ 0x0101 ∧ r.hdr.code ≠ 0x0102 then .error 2
  else
    match roleOf s r with
    | .error e => .error e
    | .ok x =>
      if classOnMailbox m cls = false ∨ x < role then .error 5
      else if lenOk r.hdr.length = false then .error 3
      else .ok x

/-- Some supervisor serves the mailboxes: no supervisor pause, and the boot ROM, the fallow firmware or a core is there (R30, R50, R651). -/
def serving (s : State) : Bool := !s.hif.supPause && !s.pins.inReset && !s.super.cores.isEmpty

/-- The object a command acts on (R48): a group of objects, and the number of one of them, or all. DEDUCED, log 46: a command without a number acts on its class's own object. -/
def objectOf (code : Nat) (p : List Byte) : Nat × Option Nat :=
  let cls := code / 256
  if (0x0106 ≤ code ∧ code ≤ 0x010A) ∨ code = 0x0202 ∨ code = 0x0203 ∨ code = 0x0206 ∨ code = 0x1407 then (0x010000, none)
  else if code = 0x0207 ∨ code = 0x0209 ∨ code = 0x020A then (0x020001, some (u8 p 0))
  else if (0x0401 ≤ code ∧ code ≤ 0x0404) ∨ (0x0701 ≤ code ∧ code ≤ 0x0706) ∨ code = 0x0B02 ∨ code = 0x0B03 then
    (cls * 65536 + 1, if u16 p 0 = 0xFFFF then none else some (u16 p 0))
  else if code = 0x0B04 then (0x0B0001, some (u16 p 4))
  else if code = 0x0503 ∨ code = 0x0504 ∨ code = 0x0507 ∨ (0x0707 ≤ code ∧ code ≤ 0x0709) ∨ code = 0x0902 ∨ code = 0x0903 ∨ code = 0x0907 ∨ cls = 0x0A
      ∨ code = 0x0B01 ∨ (0x0B05 ≤ code ∧ code ≤ 0x0B08) ∨ (cls = 0x0C ∧ code ≠ 0x0C04) ∨ (cls = 0x0D ∧ code ≠ 0x0D03) ∨ cls = 0x0E ∨ code = 0x0F01
      ∨ code = 0x1302 ∨ code = 0x1303 ∨ code = 0x1304 ∨ code = 0x1702 then
    (cls * 65536 + 2, if u8 p 0 = 0xFF ∨ code = 0x1304 ∨ (code = 0x0C03 ∧ 0x80 ≤ u8 p 0) then none else some (u8 p 0))
  else (cls * 65536, none)

/-- Two requests act on the same object. -/
def sameObject (a b : Request) : Bool :=
  let x := objectOf a.hdr.code a.payload
  let y := objectOf b.hdr.code b.payload
  x.1 == y.1 && (x.2.isNone || y.2.isNone || x.2 == y.2)

/-- A request waits for one of another mailbox that acts on the same object and whose doorbell rang earlier (R48). -/
def heldByOrder (s : State) (m : Nat) (e : Entry) : Bool :=
  s.mail.queues.any fun q => q.1 != m && q.2.any fun x => x.answer.isNone && decide (x.order < e.order) && sameObject x.req e.req

/-- It is the turn of a mailbox's oldest request: nothing earlier acts on its object, and mailbox 0 is served ahead of all others (R48, R50). -/
def turn (s : State) (m : Nat) (e : Entry) : Bool :=
  !heldByOrder s m e && (decide (m = 0) || (match waitingEntry s 0 with
    | none => true
    | some e0 => e0.started || heldByOrder s 0 e0))

/-- The oldest request without an answer is begun. -/
def startFirst : List Entry → List Entry
  | [] => []
  | e :: es => if e.answer = none then { e with started := true } :: es else e :: startFirst es

/-- Execute the oldest request of a mailbox that has no answer, if its code is the command's and it is its turn: R73 in order, then the command. A command that answers later leaves its request started (R404, R548, R591). -/
def serveLater (code role : Nat) (lenOk : Nat → Bool) (body : Call → State → State × Option Answer) (m : Nat) (s : State) : State :=
  if serving s then
    match waitingEntry s m with
    | none => s
    | some e =>
      if e.req.hdr.code = code ∧ e.started = false ∧ turn s m e = true then
        match entryCheck s m e.req role lenOk with
        | .error st => answer m { status := st } s
        | .ok r =>
          let res := body { mbx := m, req := e.req, role := r } s
          match res.2 with
          | some a => answer m a res.1
          | none => res.1.setEntries m (startFirst (res.1.entries m))
      else s
  else s

/-- A command that answers at once. -/
def serve (code role : Nat) (lenOk : Nat → Bool) (body : Call → State → State × Answer) (m : Nat) (s : State) : State :=
  serveLater code role lenOk (fun c s => let r := body c s; (r.1, some r.2)) m s

/-- A command that only reads: its answer is a function of the state. -/
def serveRead (code role : Nat) (lenOk : Nat → Bool) (body : Call → State → Answer) (m : Nat) (s : State) : State :=
  serve code role lenOk (fun c s => (s, body c s)) m s

def ok (p : List Byte) : Answer := { status := 0, payload := p }
def bad (st : Nat) : Answer := { status := st }

/-- The answer of a request that is started and answers now (R404, R548, R591). -/
def answerStarted (m : Nat) (a : Answer) (s : State) : State :=
  match waitingEntry s m with
  | none => s
  | some e => if e.started then answer m a s else s

/-- Start a deferred command: BUSY while 16 are in flight, else ACCEPTED (R51, R52). -/
def defer (c : Call) (object : Nat) (s : State) : State × Answer :=
  if s.mail.deferred.length ≥ 16 then (s, bad 2)
  else
    ({ s with mail := { s.mail with
        jobs := s.mail.jobs + 1
        deferred := s.mail.deferred ++
          [{ job := s.mail.jobs, code := c.req.hdr.code, tag := c.req.hdr.tag, session := c.session, who := c.req.who, mailbox := c.mbx,
             port := c.req.port, vid := c.req.vid, owner := c.owner, object := object }] } }, { status := 1, job := some s.mail.jobs })

/-! ## Slots, claims and sessions -/

def State.inFallow (s : State) : Bool := decide (s.hif.mode = .fallow ∨ s.hif.mode = .test)

/-- The configuration slot that bulk target 2 names (R57, R633): 0 A, 1 B. -/
def State.inactiveCfg (s : State) : Nat := 1 - (if s.inFallow then s.start.ledger.preferredCfg else s.cfg.active)

/-- The firmware slot that bulk target 1 names (R57, R633). -/
def State.inactiveFw (s : State) : Nat :=
  1 - (if s.inFallow then s.start.ledger.preferredFw else ((s.start.running.map RunningFw.slot).getD s.start.ledger.preferredFw))

def State.cfgSlot (s : State) (i : Nat) : ImageSlot := if i = 0 then s.cfg.slotA else s.cfg.slotB
def State.setCfgSlot (s : State) (i : Nat) (x : ImageSlot) : State :=
  if i = 0 then { s with cfg := { s.cfg with slotA := x } } else { s with cfg := { s.cfg with slotB := x } }
def State.fwSlot (s : State) (i : Nat) : ImageSlot := if i = 0 then s.start.fwA else s.start.fwB
def State.setFwSlot (s : State) (i : Nat) (x : ImageSlot) : State :=
  if i = 0 then { s with start := { s.start with fwA := x } } else { s with start := { s.start with fwB := x } }

/-- A claim ends (R59): before completion, target 1 or 2 is marked empty; targets 3 and 4 are discarded. DESIGN CHOICE, log 46: NEXT_OFFSET then reads 0, and a copy that runs is dropped. -/
def lapseClaim (s : State) : State :=
  match s.hif.claim with
  | none => s
  | some c =>
    let s1 := { s with hif := { s.hif with claim := none, nextOffset := 0, copying := none } }
    if s.hif.nextOffset ≥ c.total then s1
    else if c.target = 1 then s1.setFwSlot c.slot {}
    else if c.target = 2 then s1.setCfgSlot c.slot {}
    else s1

/-- Close a session (R54, R55, R59, R67): its subscription, lost count, token and bulk claim go with it; cause 0 raises no event. -/
def closeSession (h cause : Nat) (s : State) : State :=
  match findSession s h with
  | none => s
  | some _ =>
    let s1 := { s with mail := { s.mail with
      sessions := s.mail.sessions.filter fun x => x.handle != h
      subscriptions := s.mail.subscriptions.filter fun x => x.session != h
      lostNotices := s.mail.lostNotices.filter fun x => x.session != h
      finished := s.mail.finished.filter fun x => x.session != h } }
    let s2 := match s1.hif.claim with
      | some c => if c.session = h then lapseClaim s1 else s1
      | none => s1
    if cause = 0 then s2 else raise 0x0104 [h, cause] s2

/-- Close every session with a cause (R67). -/
def closeAll (cause : Nat) (s : State) : State :=
  s.mail.sessions.foldl (fun s x => closeSession x.handle cause s) s

/-- A warm restart, a start through the boot ROM, or entry to fallow mode begins (R74): outstanding requests, deferred commands with the work they started, notifications and lost counts go, response areas are cleared, RESET is set; a BUSY answer of mailbox 0 is held no longer (R46, R714); every session closes with its cause (R67), and the subscription of session 0x0000 ends (R55). -/
def abandon (cause : Nat) (s : State) : State :=
  let s1 := if cause = 0 then s else closeAll cause s
  let cleared := (List.range 16).foldl (fun w m => writeBytes w (responseArea m) (zeros areaSize)) s1.window
  { lapseClaim s1 with
    window := cleared
    hif := setFree 0 true { (lapseClaim s1).hif with respReady := 0, cause := (lapseClaim s1).hif.cause ||| 0x20#7 }
    cfg := { (lapseClaim s1).cfg with validating := none, restartJob := none }
    phase := { s1.phase with measures := [] }
    sec := { s1.sec with attesting := none }
    mail := { s1.mail with
      queues := [], heldResponses := [], notices := [], noticePlaced := false, lostNotices := [], deferred := [], sessions := [],
      subscriptions := [], tokens := if cause = 0 then [] else s1.mail.tokens,
      challenges := if cause = 0 then [] else s1.mail.challenges } }

/-- HIF_STATE.MODE changes (R40). -/
def setMode (m : Mode) (s : State) : State :=
  if s.hif.mode = m then s else { s with hif := { s.hif with mode := m, cause := s.hif.cause ||| 0x10#7 } }

/-- SUP_PAUSE is set, and its interrupt cause with it (R38, R40). -/
def beginPause (state : Nat) (s : State) : State :=
  { s with
    hif := { s.hif with supPause := true, cause := s.hif.cause ||| 0x40#7 }
    super := { s.super with state := state, pauseRods := 0 } }

/-- Serve again after a pause: SUP_PAUSE clears, waiting responses, completions and notifications go out (R30). -/
def endPause (s : State) : State :=
  let s1 := { s with
    hif := { s.hif with supPause := false }
    super := { s.super with
      state := if s.super.single then 1 else 0, pauseRods := 0
      swapEnd := if s.super.state = 2 then some s.clock.ticksRun else s.super.swapEnd } }
  let s2 := s1.mail.heldResponses.foldl (fun s h => sendMailbox raise h.mac h.vid h.pcp 0x06 h.body s) { s1 with mail := { s1.mail with heldResponses := [] } }
  placeNotice (deliverCompletions ((List.range 15).foldl (fun s m => flush m s) s2))

/-! ## Staging swath changes (R97 to R102) -/

/-- The boundary at which a change staged now applies (R97). -/
def State.stageBoundary (s : State) : Nat := if s.angle ≤ 57344 then s.cycle + 1 else s.cycle + 2

/-- Stage a swath change from a source of R100; not in fallow mode (R102). -/
def stageSwath (level : Nat) (swath : Option Nat) (source number : Nat) (s : State) : State :=
  if s.inFallow then s
  else { s with cfg := { s.cfg with staged := s.cfg.staged ++
      [{ level := level, swath := swath, source := source, number := number, boundary := s.stageBoundary }] } }

/-- Stage the setting of a swath that is defined, on the level of its header (R96, R97). -/
def stageSet (n source number : Nat) (s : State) : State :=
  match s.cfg.swath n with
  | none => s
  | some w => stageSwath w.level (some n) source number s

/-! ## Delivered frames, and the host's silence -/

/-- The oldest frame delivered with a subtype (R362), taken from the receivers' store (log 11). -/
def takeDelivered (subtype : Nat) (s : State) : Option (Delivered × State) :=
  match s.ring.delivered.find? fun d => d.frame.etherType == 0x88B5 && u8 d.frame.body 0 == subtype with
  | none => none
  | some d => some (d, { s with ring := { s.ring with delivered := s.ring.delivered.erase d } })

/-- Outputs and groups with WATCHDOG set (R478, R493). -/
def watchdogUnits (c : Cfg) : Nat :=
  ((c.recordsOf 0x0D01).filter fun r => bit (u8 r.value 0) 2).length
    + ((c.recordsOf 0x0D02).filter fun r => bit (u8 r.value 1) 1).length

/-- A mailbox request counts for the host-silence watchdog, and ends a silence (R477, R478). -/
def noteRequest (s : State) : State :=
  let secs := s.msSince s.fan.lastRequest / 1000
  let s1 := { s with fan := { s.fan with lastRequest := s.clock.ticksRun, silent := false } }
  if s.fan.silent then raise 0x0D05 [0, secs, watchdogUnits s.cfg] s1 else s1

/-! ## The phase clock -/

/-- In ACQUIRE the phase clock turns through angle 0 and no rod starts (R118, R119). -/
def acquireTurn (s : State) : State :=
  { s with phase := { s.phase with
      now := { s.phase.now with angle := 0 }, sinceValid := s.phase.sinceValid + 1, acquireTurns := s.phase.acquireTurns + 1 } }

/-- One tick of the phase clock: the angle advances by one; past 65,535 it turns to 0 in ACQUIRE, and else awaits the ROD_BOUNDARY that starts the next rod (R9, R18, R118; log 1). -/
def phaseTick (s : State) : State :=
  if s.phase.now.angle < 65535 then s.atAngle (s.phase.now.angle + 1) else if s.phase.left then s else acquireTurn s

end Sys2Proof.Machine
end

