-- ==== Sys2Proof/Machine/Mailboxes.lean ====
section
/-! DEFINITION. Chapter 02: window writes, doorbells, releases, network requests, sessions' timers, the bulk window, and the SYS commands. -/

namespace Sys2Proof.Machine

/-! ## Submitting (R44 to R48) -/

/-- Number of commands of a class; its verbs are 1 to that number (R75 and the chapters' command tables). -/
def classVerbs (cls : Nat) : Nat :=
  [0, 13, 10, 4, 7, 7, 9, 10, 7, 8, 9, 8, 6, 6, 6, 7, 6, 5, 7, 4, 10, 5, 9, 5].getD cls 0

/-- Some class and verb has this code (R71). -/
def knownCode (code : Nat) : Bool := decide (1 ≤ code % 256) && decide (code % 256 ≤ classVerbs (code / 256))

/-- The status of a request whose code names no command (R73 steps 1 to 4). -/
def unknownStatus (s : State) (m : Nat) (r : Request) : Nat :=
  let h := r.hdr
  if h.length > 1008 then 3
  else if h.status ≠ 0 ∨ h.reserved ≠ 0 ∨ h.flags &&& forbiddenFlags ≠ 0 ∨ r.frameReserved ≠ 0 then 6
  else if modeServes s.hif.mode m (h.code / 256) = false then 0x10
  else 4

/-- A mailbox takes requests in the present mode: 1 to 14 only while a firmware serves them (R714). -/
def mailboxOpen (s : State) (m : Nat) : Bool :=
  decide (m = 0) || (decide (m ≤ 14) && decide (s.hif.mode ≠ .bootRom) && decide (s.super.state ≠ 4))

/-- The requester may use the mailbox: mailboxes 1 to 14 are bound to the requester that first uses them (R61). -/
def boundElsewhere (s : State) (m : Nat) (who : Requester) : Bool :=
  if m = 0 then false
  else
    match fget none s.mail.bound m with
    | none => false
    | some w => decide (w ≠ who)

def bindMailbox (m : Nat) (who : Requester) (s : State) : State :=
  if m = 0 then s
  else
    match fget none s.mail.bound m with
    | none => { s with mail := { s.mail with bound := fput none s.mail.bound m (some who) } }
    | some _ => s

/-- Requests of a mailbox that are outstanding, the held BUSY answer apart (R46). -/
def outstanding (s : State) (m : Nat) : Nat := ((s.entries m).filter fun e => !e.busy).length

/-- The entry of a request whose doorbell rings now. -/
def newEntry (s : State) (r : Request) (a : Option Answer) : Entry :=
  { req := r, answer := a, order := s.mail.rings, rung := s.clock.ticksRun }

/-- A request is submitted (R44 to R47, R61, R73): answered BUSY beyond four or on a mailbox bound elsewhere; a code that names no command is answered now; any other waits for its command. DESIGN CHOICE, log 46: BUSY stands ahead of every status of R73, and a further network request while a BUSY answer is held is dropped. -/
def submit (m : Nat) (r : Request) (s : State) : State :=
  let sn := noteRequest s
  let s0 := { sn with mail := { sn.mail with rings := sn.mail.rings + 1 } }
  let st := s0.mbxStats m
  let s1 := s0.setMbxStats m { st with requests := st.requests + 1 }
  if outstanding s1 m ≥ 4 then
    if (s1.entries m).any Entry.busy then s1
    else
      let st1 := s1.mbxStats m
      let s2 := (s1.setMbxStats m { st1 with busy := st1.busy + 1 }).setEntries m
        (s1.entries m ++ [{ newEntry s r (some (bad 2)) with busy := true }])
      flush m { s2 with hif := setFree m false s2.hif }
  else if boundElsewhere s1 m r.who then
    let st1 := s1.mbxStats m
    flush m ((s1.setMbxStats m { st1 with busy := st1.busy + 1 }).setEntries m (s1.entries m ++ [newEntry s r (some (bad 2))]))
  else
    let s2 := bindMailbox m r.who s1
    let a := if knownCode r.hdr.code then none else some (bad (unknownStatus s2 m r))
    flush m (s2.setEntries m (s2.entries m ++ [newEntry s r a]))

/-- The request that a ring copies from the request area (R44). -/
def localRequest (s : State) (m : Nat) : Request :=
  let h := Header.ofBytes (readBytes s.window (requestArea m) 16)
  { hdr := h, payload := readBytes s.window (requestArea m + 16) (min h.length 1008), who := .qspi }

/-- A doorbell rung while FREE is clear is ignored, counted and recorded once (R45). -/
def loseDoorbell (m : Nat) (s : State) : State :=
  let st := s.mbxStats m
  let s1 := s.setMbxStats m { st with lost := st.lost + 1 }
  let s2 := { s1 with hif := { s1.hif with lost := s1.hif.lost ||| BitVec.twoPow 16 m } }
  if s.hif.lost.getLsbD m then s2 else raise 0x0101 [m] s2

/-- A doorbell of one mailbox (R44, R45); mailbox 15 has none (R39). -/
def ringMailbox (m : Nat) (s : State) : State :=
  if m ≥ 15 then s
  else if s.hif.reqFree.getLsbD m then submit m (localRequest s m) s
  else loseDoorbell m s

/-- Doorbells of one write count in increasing mailbox order (R48). -/
def ringDoorbells (bits : Word) (s : State) : State :=
  (List.range 15).foldl (fun s m => if bits.getLsbD m then ringMailbox m s else s) s

/-! ## Releasing (R46, R49, R53, R54) -/

/-- A notification goes into the queue ahead of the event notifications that wait in it (R54; log 16). -/
def insertAhead (n : Notice) : List Notice → List Notice
  | [] => [n]
  | x :: xs => if x.completion then x :: insertAhead n xs else n :: x :: xs

/-- An entry of mailbox 15's queue frees: the session with the lowest handle among those with lost notifications is told (R54). -/
def serveLost (s : State) : State :=
  match s.mail.lostNotices with
  | [] => s
  | l :: ls =>
    let m := ls.foldl (fun (a x : LostNotice) => if x.session < a.session then x else a) l
    let r := recordOf s 0x0102 [m.count, m.code]
    reportWith raise r { s with mail := { s.mail with
      lostNotices := s.mail.lostNotices.filter fun x => x.session != m.session
      notices := insertAhead { completion := false, code := 0x0102, tag := 0, session := m.session, status := 0, payload := r.bytes }
        s.mail.notices } }

/-- The host releases the notification in mailbox 15. -/
def releaseNotice (s : State) : State :=
  let s1 := { s with
    hif := { s.hif with respReady := s.hif.respReady &&& 0x7FFF#16 }
    mail := { s.mail with notices := s.mail.notices.drop 1, noticePlaced := false } }
  let s2 := if s.mail.noticePlaced ∧ (s1.mail.notices.filter fun x => !x.completion).length < 48 then serveLost s1 else s1
  placeNotice (deliverCompletions s2)

/-- The host releases the response of a mailbox 0 to 14. -/
def releaseResponse (m : Nat) (s : State) : State :=
  let s1 := { s with hif := { s.hif with respReady := s.hif.respReady &&& ~~~(BitVec.twoPow 16 m) } }
  match (s1.entries m).find? Entry.placed with
  | none => flush m s1
  | some e =>
    let s2 := s1.setEntries m ((s1.entries m).filter fun x => !x.placed)
    flush m (releaseAccepted (e.answer.getD {}) (freeBusy m e s2))

/-- Writing 1 to a READY bit (R39, R49). -/
def releaseOne (m : Nat) (s : State) : State :=
  if s.hif.respReady.getLsbD m then (if m = 15 then releaseNotice s else releaseResponse m s) else s

def releaseReady (bits : Word) (s : State) : State :=
  (List.range 16).foldl (fun s m => if bits.getLsbD m then releaseOne m s else s) s

/-- Writing 1 to bits of HIF_DOORBELL_LOST and of HIF_IRQ_CAUSE (R39, R40). -/
def clearLost (bits : Word) (s : State) : State := { s with hif := { s.hif with lost := s.hif.lost &&& ~~~(bits.setWidth 16) } }
def clearCause (bits : Word) (s : State) : State :=
  { s with hif := { s.hif with cause := s.hif.cause &&& ~~~(bits.setWidth 7 &&& 0x78#7) } }

/-! ## Host window writes (R34, R36) -/

/-- An address lies in a request area of mailboxes 0 to 14, or in the bulk window: there a write is stored. -/
def storedAddress (a : Nat) : Bool :=
  (decide (0x1000 ≤ a) && decide (a < 0x1000 + 0x800 * 15) && decide ((a - 0x1000) % 0x800 < 0x400))
    || (decide (bulkWindow ≤ a) && decide (a < bulkWindow + bulkSize))

/-- One 32-bit word written to the window. -/
def writeWord (a : Nat) (w : Word) (s : State) : State :=
  if storedAddress a then { s with window := writeBytes s.window a (le 4 w.toNat) }
  else if a = 0x08 then ringDoorbells w s
  else if a = 0x10 then releaseReady w s
  else if a = 0x14 then clearLost w s
  else if a = 0x18 then clearCause w s
  else if a = 0x1C then { s with hif := { s.hif with irqMask := w.setWidth 7 } }
  else s

/-- The words of a transaction, its address rising by 4 (R34). -/
def writeWords : List Byte → Nat → State → State
  | b0 :: b1 :: b2 :: b3 :: bs, a, s => writeWords bs (a + 4) (writeWord a (BitVec.ofNat 32 (u32 [b0, b1, b2, b3] 0)) s)
  | _, _, s => s

/-- A transaction touches the bulk window. -/
def touchesBulk (a n : Nat) : Bool := decide (n ≠ 0) && decide (a < bulkWindow + bulkSize) && decide (bulkWindow < a + n)

/-- An address reads what is stored there: an area of a mailbox or the bulk window; the request area of mailbox 15 reads as zero (R36). -/
def readableAddress (a : Nat) : Bool :=
  storedAddress a || (decide (0x1400 ≤ a) && decide (a < 0x1400 + 0x800 * 15 + 0x400) && decide ((a - 0x1000) % 0x800 ≥ 0x400))

/-- One 32-bit word read from the window: a register, a stored word, or zero at an unlisted address (R36). -/
def readWord (s : State) (a : Nat) : List Byte :=
  if a < 0x100 then le 4 (hifRead s a) else if readableAddress a then readBytes s.window a 4 else zeros 4

/-- The words of a read transaction, each least significant byte first, its address rising by 4 (R34). -/
def readWords (s : State) : Nat → Nat → List Byte
  | 0, _ => []
  | n + 1, a => readWord s a ++ readWords s n (a + 4)

/-- HOST_WINDOW_WRITE: one transaction of the host port with its instruction byte (R33): 0x02 writes, 0x0B reads as many bytes as the operand is long, any other is ignored. Whole words at multiples of 4, or discarded whole (R34); a write of the bulk window while COPYING breaks R41, and R3 describes nothing then. -/
def execHostWindowWrite (head : HostHead) (bytes : List Byte) (s : State) : Host.Outcome State Fault Refusal :=
  if head.addr % 4 ≠ 0 ∨ bytes.length % 4 ≠ 0 ∨ (head.instruction ≠ 0x02 ∧ head.instruction ≠ 0x0B) then .next s
  else if head.instruction = 0x0B then .next { s with hif := { s.hif with sent := readWords s (bytes.length / 4) head.addr } }
  else if s.hif.copying.isSome && touchesBulk head.addr bytes.length then .fault .outsideManual
  else .next (writeWords bytes head.addr s)

def execDoorbellRing (bits : Word) (s : State) : Host.Outcome State Fault Refusal := .next (ringDoorbells bits s)
def execResponseRelease (bits : Word) (s : State) : Host.Outcome State Fault Refusal := .next (releaseReady bits s)
def execDoorbellLostClear (bits : Word) (s : State) : Host.Outcome State Fault Refusal := .next (clearLost bits s)
def execIrqCauseClear (bits : Word) (s : State) : Host.Outcome State Fault Refusal := .next (clearCause bits s)

/-! ## Requests over the network (R60 to R62, R365, R366) -/

/-- A mailbox frame is accepted from this port and VID (R365, R367). -/
def mailboxFrameAllowed (s : State) (d : Delivered) : Bool :=
  let vid := (d.frame.vlan.map Prod.fst).getD (u16 s.cfg.ring 4)
  d.frame.dst == ownMac &&
    (match s.hif.mode with
     | .fallow | .test => true
     | .bootRom => false
     | .start | .running =>
       (if d.port = 2 then s.cfg.ringFlag 1 else s.cfg.ringFlag 0)
         && (vid == s.cfg.siteVid || (match s.cfg.vlan vid with
              | none => false
              | some f => bit f 2)))

/-- The message of a mailbox frame, when msg_length agrees with the frame (R60, R365): a frame of minimum size may carry padding. -/
def frameMessage (f : EthFrame) : Option (List Byte) :=
  let n := n16 f.body 3
  let have_ := f.body.length - 5
  if 16 ≤ n ∧ n ≤ 1024 ∧ (have_ = n ∨ (f.length = 64 ∧ n ≤ have_)) then some (slice f.body 5 n) else none

def isRequester (s : State) (mac : Nat) : Bool := s.mail.requesters.any fun r => r.mac == mac

/-- RING.REQUESTERS_FULL, once per source (R366). -/
def refuseRequester (mac m : Nat) (s : State) : State :=
  if s.mail.refusedSources.contains mac then s
  else
    raise 0x0909 [low32 mac, mac / 4294967296, m] { s with mail := { s.mail with refusedSources := mac :: s.mail.refusedSources } }

/-- A response outside the mailbox's queue is sent, or waits for the end of a supervisor pause (R30). -/
def sendOrHold (mac vid pcp : Nat) (body : List Byte) (s : State) : State :=
  if s.hif.supPause then
    { s with mail := { s.mail with heldResponses := s.mail.heldResponses ++ [{ mac := mac, vid := vid, pcp := pcp, body := body }] } }
  else sendMailbox raise mac vid pcp 0x06 body s

/-- The BUSY answer to a source beyond the sixteen requesters, counted in the mailbox's statistics (R76, R366). -/
def answerStranger (m : Nat) (r : Request) (mac : Nat) (s : State) : State :=
  let st := s.mbxStats m
  let s1 := s.setMbxStats m { st with requests := st.requests + 1, busy := st.busy + 1 }
  let msg := responseMessage s1 r (bad 2)
  sendOrHold mac r.vid r.pcp (le 1 m ++ le 1 r.seq ++ be 2 msg.length ++ msg) s1

/-- A request of a requester: the repetition of the last one is answered from the kept response, any other is submitted (R62). DESIGN CHOICE, log 46: where the last one was abandoned (R74) and no response was kept, its repetition is neither executed nor answered. -/
def networkRequest (m seq : Nat) (msg : List Byte) (r : Request) (mac : Nat) (s : State) : State :=
  match s.mail.kept.find? fun k => k.mac == mac && k.mailbox == m with
  | some k =>
    if k.seq = seq ∧ k.message = msg then
      match k.response with
      | none => noteRequest s
      | some x => sendOrHold mac r.vid r.pcp (le 1 m ++ le 1 seq ++ be 2 x.length ++ x) (noteRequest s)
    else
      let kept := s.mail.kept.map fun x => if x.mac = mac ∧ x.mailbox = m then { x with seq := seq, message := msg, response := none } else x
      submit m r { s with mail := { s.mail with kept := kept } }
  | none =>
    submit m r { s with mail := { s.mail with kept := s.mail.kept ++ [{ mac := mac, mailbox := m, seq := seq, message := msg }] } }

/-- MAILBOX_REQUEST_FRAME: the oldest mailbox request delivered is accepted, or refused and counted (R60 to R62, R364 to R366). DESIGN CHOICE, log 46: one to mailbox 15, or to mailboxes 1 to 14 while no firmware serves them, is discarded and counted; payload bytes that the header counts and the message does not carry read 0. -/
def execMailboxRequestFrame (s : State) : Host.Outcome State Fault Refusal :=
  match takeDelivered 0x05 s with
  | none => .next s
  | some (d, s1) =>
    let m := u8 d.frame.body 1 % 16
    match mailboxFrameAllowed s1 d, frameMessage d.frame with
    | true, some msg =>
      if m ≥ 15 ∨ mailboxOpen s1 m = false then .next (s1.countPort d.port 8)
      else
        let mac := d.frame.src
        let seq := u8 d.frame.body 2
        let h := Header.ofBytes msg
        let tag := d.frame.vlan.getD (u16 s1.cfg.ring 4, u8 s1.cfg.ring 6)
        let r : Request :=
          { hdr := h, payload := (msg.drop 16).take (min h.length 1008), who := .net mac, port := d.port, vid := tag.1, pcp := tag.2,
            seq := seq, message := msg, frameReserved := u8 d.frame.body 1 / 16 }
        if isRequester s1 mac then .next (networkRequest m seq msg r mac s1)
        else if s1.mail.requesters.length < 16 then
          .next (networkRequest m seq msg r mac
            { s1 with mail := { s1.mail with requesters := s1.mail.requesters ++ [{ mac := mac, port := d.port, vid := tag.1 }] } })
        else if m = 0 then .next (submit 0 r s1)
        else .next (refuseRequester mac m (answerStranger m r mac (noteRequest s1)))
    | _, _ => .next (s1.countPort d.port 8)

/-- MAILBOX_BINDING_EXPIRY (R61). -/
def execMailboxBindingExpiry (mbx : Nat) (s : State) : Host.Outcome State Fault Refusal :=
  if (s.entries mbx).isEmpty then .next { s with mail := { s.mail with bound := fput none s.mail.bound mbx none } } else .next s

/-- A network requester holds a session, a bound mailbox or a deferred command (R366). -/
def requesterHeld (s : State) (mac : Nat) : Bool :=
  (s.mail.sessions.any fun x => x.who == .net mac) || (s.mail.bound.any fun b => b.2 == some (.net mac))
    || (s.mail.deferred.any fun d => d.who == .net mac)

/-- REQUESTER_EXPIRY (R366). -/
def execRequesterExpiry (mac : Nat) (s : State) : Host.Outcome State Fault Refusal :=
  if requesterHeld s mac then .next s
  else
    .next { s with mail := { s.mail with
      requesters := s.mail.requesters.filter fun r => r.mac != mac
      kept := s.mail.kept.filter fun k => k.mac != mac } }

/-- SESSION_IDLE_TIMEOUT (R67): cause 2. -/
def execSessionIdleTimeout (handle : Nat) (s : State) : Host.Outcome State Fault Refusal := .next (closeSession handle 2 s)

/-- A session's expiry is due: its not_after has come, or it was opened under OSF and its 3,600 s are what the command reports (R681). -/
def expiryDue (s : State) (x : Session) : Bool :=
  x.osfOpened || (match x.notAfter with
    | none => false
    | some t => decide (t ≤ s.clock.seconds))

/-- SESSION_EXPIRY (R67, R681): cause 1. -/
def execSessionExpiry (handle : Nat) (s : State) : Host.Outcome State Fault Refusal :=
  match findSession s handle with
  | none => .next s
  | some x => if expiryDue s x then .next (closeSession handle 1 s) else .next s

/-! ## The bulk window (R57 to R59) -/

/-- BULK_CLAIM_LAPSE (R59). -/
def execBulkClaimLapse (s : State) : Host.Outcome State Fault Refusal := .next (lapseClaim s)

/-- Bytes copied into an image slot at an offset that continues it. -/
def extendSlot (x : ImageSlot) (offset total : Nat) (bs : List Byte) : ImageSlot :=
  let all := (if offset = 0 then [] else x.bytes.take offset) ++ bs
  { state := if offset + bs.length ≥ total then .written else .partly, bytes := all }

/-- BULK_COPY_COMPLETE: the target takes the bytes, NEXT_OFFSET advances, BULK_DONE is set (R58). -/
def execBulkCopyComplete (s : State) : Host.Outcome State Fault Refusal :=
  match s.hif.copying, s.hif.claim with
  | some k, some c =>
    let bs := readBytes s.window bulkWindow k.length
    let s1 := if c.target = 1 then s.setFwSlot c.slot (extendSlot (s.fwSlot c.slot) k.offset c.total bs)
              else if c.target = 2 then s.setCfgSlot c.slot (extendSlot (s.cfgSlot c.slot) k.offset c.total bs)
              else { s with hif := { s.hif with claim := some { c with data := c.data.take k.offset ++ bs } } }
    .next { s1 with hif := { s1.hif with copying := none, nextOffset := k.offset + k.length, cause := s1.hif.cause ||| 0x08#7 } }
  | _, _ => .next s

/-- TOKEN_BUFFER_TIMEOUT (R680). -/
def execTokenBufferTimeout (buffer : Nat) (s : State) : Host.Outcome State Fault Refusal :=
  .next { s with mail := { s.mail with tokens := s.mail.tokens.eraseIdx buffer } }

/-! ## The SYS class (R76 to R81) -/

/-- Version of the firmware that runs; 0 where none does. -/
def runningVersion (s : State) : Nat := (s.start.running.map RunningFw.version).getD 0

def execSysIdentify (mbx : Nat) (s : State) : Host.Outcome State Fault Refusal :=
  .next (serveRead 0x0101 0 (· == 0) (fun _ s =>
    ok (le 2 0xD184 ++ le 1 0xA2 ++ le 1 s.hif.mode.code ++ le 8 ownUid ++ le 4 (runningVersion s) ++ le 4 Config.fallowVersion.toNat)) mbx s)

def execSysPing (mbx : Nat) (s : State) : Host.Outcome State Fault Refusal :=
  .next (serveRead 0x0102 0 (· == 0) (fun _ s => ok (cycle64 s.cycle ++ le 2 s.angle ++ le 1 s.hif.mode.code ++ zeros 1)) mbx s)

def execSysStatus (mbx : Nat) (s : State) : Host.Outcome State Fault Refusal :=
  .next (serveRead 0x0103 1 (· == 0) (fun _ s =>
    ok (le 1 s.hif.mode.code ++ le 1 s.super.state ++ le 1 s.mail.sessions.length ++ le 1 s.mail.deferred.length
      ++ ((List.range 15).flatMap fun m => le 1 (outstanding s m)) ++ zeros 1 ++ le 2 (64 - s.mail.notices.length))) mbx s)

/-- The counts of a year, with the interval in progress (R27, R77). -/
def yearCount (s : State) (y : Nat) : YearCount :=
  match s.mail.outage with
  | some i =>
    fget {} (countInterval i.excluded (s.msSince i.since) s).mail.years y
  | none => fget {} s.mail.years y

def execSysOutageRead (mbx : Nat) (s : State) : Host.Outcome State Fault Refusal :=
  .next (serveRead 0x0104 1 (· == 2) (fun c s =>
    let y := u16 c.pay 0
    if s.year < y ∨ y + 32 ≤ s.year then bad 6
    else
      let k := yearCount s y
      ok (le 2 y ++ le 4 k.outMs ++ le 4 k.noSupplyMs ++ le 4 k.ownerMs ++ le 2 k.intervals)) mbx s)

def execSysSubscribe (mbx : Nat) (s : State) : Host.Outcome State Fault Refusal :=
  .next (serve 0x0105 1 (· == 4) (fun c s =>
    let m := u32 c.pay 0
    if m % 2 = 1 ∨ m ≥ 2 ^ 24 then (s, bad 6)
    else
      let old := ((s.mail.subscriptions.find? fun x => x.session == c.session).map fun x => x.mask.toNat).getD 0
      let rest := s.mail.subscriptions.filter fun x => x.session != c.session
      let subs := if m = 0 then rest else rest ++ [{ session := c.session, mask := BitVec.ofNat 32 m }]
      ({ s with mail := { s.mail with subscriptions := subs } }, ok (le 4 old))) mbx s)

/-- Largest total length of a bulk target (R57, R82, R437, R666). -/
def targetSize (t : Nat) : Nat := if t = 1 then 33554432 else if t = 2 then 262144 else 4096

/-- A deferred command works on the object of a bulk target (R53). -/
def targetBusy (s : State) (t : Nat) : Bool :=
  (t == 1 && (s.super.fwVerifying || s.super.fwStaged.isSome)) || (t == 2 && (s.cfg.validating.isSome || s.cfg.nextBase.isSome || s.cfg.restartAt.isSome || s.cfg.restartJob.isSome))

/-- The slot that a target names now (R57); 0 for a target without one. -/
def targetSlot (s : State) (t : Nat) : Nat := if t = 1 then s.inactiveFw else if t = 2 then s.inactiveCfg else 0

/-- SYS.BULK_CLAIM (R57). DESIGN CHOICE, log 46: a total length of 0 gives BAD_ARGUMENT. -/
def execSysBulkClaim (mbx : Nat) (s : State) : Host.Outcome State Fault Refusal :=
  .next (serve 0x0106 2 (· == 8) (fun c s =>
    let t := u8 c.pay 0
    let n := u32 c.pay 4
    if (t = 1 ∨ t = 2) ∧ c.owner = false then (s, bad 5)
    else if t = 0 ∨ t > 4 ∨ allZero (slice c.pay 1 3) = false ∨ n = 0 ∨ n > targetSize t then (s, bad 6)
    else if s.hif.claim.isSome ∨ targetBusy s t then (s, bad 2)
    else
      ({ s with hif := { s.hif with
          claim := some { mailbox := c.mbx, who := c.req.who, session := c.session, target := t, total := n, slot := targetSlot s t }, nextOffset := 0 } }, ok [])) mbx s)

/-- The mailbox and requester hold the claim; targets 1 and 2 need an owner session (R57, R58, R69). -/
def holdsClaim (s : State) (c : Call) : Bool :=
  match s.hif.claim with
  | none => false
  | some k => k.mailbox == c.mbx && k.who == c.req.who && (c.owner || (k.target != 1 && k.target != 2))

/-- The claim's target is complete (R59): a partly written target is never used. -/
def claimComplete (s : State) (k : Claim) : Bool := decide (k.total ≤ s.hif.nextOffset)

def execSysBulkRelease (mbx : Nat) (s : State) : Host.Outcome State Fault Refusal :=
  .next (serve 0x0107 2 (· == 0) (fun c s => if holdsClaim s c then (lapseClaim s, ok []) else (s, bad 5)) mbx s)

def execSysBulkWrite (mbx : Nat) (s : State) : Host.Outcome State Fault Refusal :=
  .next (serve 0x0108 2 (fun n => decide (4 ≤ n) && decide (n ≤ 1004) && n % 4 == 0) (fun c s =>
    let o := u32 c.pay 0
    let bs := c.pay.drop 4
    if holdsClaim s c = false then (s, bad 5)
    else if o + bs.length > bulkSize then (s, bad 6)
    else if s.hif.copying.isSome then (s, bad 2)
    else ({ s with window := writeBytes s.window (bulkWindow + o) bs }, ok [])) mbx s)

/-- A deferred command works on the target of the claim (R53). -/
def claimBusy (s : State) : Bool := s.hif.claim.any fun k => targetBusy s k.target

/-- SYS.BULK_COMMIT (R58, R79). DESIGN CHOICE, log 46: a length of 0 or past the total gives BAD_ARGUMENT, and BUSY is judged before the offset. -/
def execSysBulkCommit (mbx : Nat) (s : State) : Host.Outcome State Fault Refusal :=
  .next (serve 0x0109 2 (· == 8) (fun c s =>
    let o := u32 c.pay 0
    let n := u32 c.pay 4
    let total := (s.hif.claim.map Claim.total).getD 0
    if holdsClaim s c = false then (s, bad 5)
    else if s.hif.copying.isSome ∨ claimBusy s then (s, bad 2)
    else if o ≠ s.hif.nextOffset ∨ n = 0 ∨ n > bulkSize ∨ o + n > total then (s, bad 6)
    else ({ s with hif := { s.hif with copying := some { offset := o, length := n } } }, ok (le 4 (o + n)))) mbx s)

def execSysFwActivate (mbx : Nat) (s : State) : Host.Outcome State Fault Refusal :=
  .next (serve 0x010A 3 (· == 0) (fun c s =>
    if targetBusy s 1 then (s, bad 2)
    else
      let r := defer c s.inactiveFw s
      if r.2.status = 1 then ({ r.1 with super := { r.1.super with fwVerifying := true, fwCounters := (s.sec.fwCounter, s.sec.keyCounter) } }, r.2) else r) mbx s)

/-- SYS.WARM_RESTART: the response first, and the restart at the second rod boundary after it is placed (`noteWarm`, R81). -/
def execSysWarmRestart (mbx : Nat) (s : State) : Host.Outcome State Fault Refusal :=
  .next (serve 0x010B 2 (· == 0) (fun _ s => (s, ok [])) mbx s)

/-- The last 16 completed deferred commands of a session (R56). -/
def lastFinished (s : State) (h : Nat) : List Finished := (s.mail.finished.filter fun f => f.session == h).take 16

def execSysDeferredStatus (mbx : Nat) (s : State) : Host.Outcome State Fault Refusal :=
  .next (serveRead 0x010C 1 (· == 2) (fun c s =>
    let tag := u16 c.pay 0
    if s.mail.deferred.any fun d => d.session == c.session && d.tag == tag then ok (le 1 1 ++ zeros 3)
    else
      match (lastFinished s c.session).find? fun f => f.tag == tag with
      | some f => ok (le 1 2 ++ zeros 1 ++ le 2 f.status)
      | none => ok (zeros 4)) mbx s)

def execSysMbxStats (mbx : Nat) (s : State) : Host.Outcome State Fault Refusal :=
  .next (serveRead 0x010D 1 (· == 0) (fun _ s =>
    ok ((List.range 16).flatMap fun m =>
      let x := s.mbxStats m
      le 4 (count32 x.requests) ++ le 4 (count32 x.busy) ++ le 4 (count32 x.lost))) mbx s)

/-! ## Firmware images and the firmware change (R80, R666, R667) -/

/-- What the verification of a firmware slot gives (R667): 0 and the firmware, or the failing step. -/
structure FwVerdict where
  step : Nat := 0
  fw : RunningFw := {}
deriving DecidableEq, Repr

/-- A firmware key of the mask ROM. -/
def firmwareKey (k : Nat) : List Byte := (List.range 32).map (Config.firmwareKeyByte k)

/-- Verify a firmware slot by the steps of R667. -/
def verifyFirmware (s : State) (slot : Nat) : FwVerdict :=
  let x := s.fwSlot slot
  let b := x.bytes
  let n := u32 b 8
  let t := b.drop n
  let v : RunningFw := { slot := slot, version := u32 b 12, floor := u32 b 16, keyFloor := u8 b 23 }
  if x.state = .empty ∨ x.state = .partly ∨ u32 b 0 ≠ 0x57464743 ∨ u16 b 4 ≠ 1 ∨ n < 32 ∨ n + 7868 > 33554432
      ∨ n + 7868 > b.length ∨ u32 t 0 ≠ 0x53474743 then { step := 1, fw := v }
  else if u16 b 20 ≠ 0xD184 ∨ u8 b 22 > 0xA2 ∨ u8 t 4 ≠ 1 ∨ u8 t 5 > 3 ∨ u8 t 5 < s.sec.keyCounter ∨ u32 t 8 ≠ 7856 then
    { step := 2, fw := v }
  else if x.damaged ∨ Config.verifies 1 (firmwareKey (u8 t 5)) (b.take n) (slice t 12 7856) = false then { step := 3, fw := v }
  else
    let w := { v with hash := sha256 (b.take n) }
    if v.version < s.sec.fwCounter then { step := 4, fw := w } else { step := 0, fw := w }

/-- Final status of SYS.FW_ACTIVATE for a failing step (R667). -/
def fwStatus (step : Nat) : Nat := if step = 1 then 8 else if step = 4 then 0x0D else 0x0C

/-- Complete the SYS.FW_ACTIVATE in flight with a status. -/
def completeFw (a : Answer) (s : State) : State :=
  match s.mail.deferred.find? fun d => d.code == 0x010A && d.final.isNone with
  | none => s
  | some d => complete d.job a s

/-- FW_VERIFICATION_COMPLETE (R80), against the counters as they stood when it began (R683): a good image is staged for the next boundary; in a mode other than running the command completes NOT_READY (R625). -/
def execFwVerificationComplete (s : State) : Host.Outcome State Fault Refusal :=
  if s.super.fwVerifying = false then .next s
  else
    let s1 := { s with super := { s.super with fwVerifying := false } }
    let began := { s1 with sec := { s1.sec with fwCounter := s.super.fwCounters.1, keyCounter := s.super.fwCounters.2 } }
    let v := verifyFirmware began s1.inactiveFw
    if s1.hif.mode ≠ .running then .next (completeFw (bad 8) s1)
    else if v.step ≠ 0 then .next (completeFw (bad (fwStatus v.step)) s1)
    else
      match s1.mail.deferred.find? fun d => d.code == 0x010A && d.final.isNone with
      | none => .next s1
      | some d => .next { s1 with super := { s1.super with fwStaged := some (v.fw, d.job) } }

/-- The new firmware takes over at step 3 of R19 (R80): SUP_PAUSE is set, and the slot becomes preferred (R624). -/
def applyFirmware (s : State) : State :=
  match s.super.fwStaged with
  | none => s
  | some (fw, job) =>
    if s.hif.supPause then s
    else
      let old := runningVersion s
      beginPause 3 { s with
        start := { s.start with running := some fw, ledger := { s.start.ledger with preferredFw := fw.slot } }
        super := { s.super with fwStaged := none, fwChange := some (old, job) } }

/-- FIRMWARE_PAUSE_END (R80): SYS.FW_ACTIVATED is recorded, the queue is served, the completion is placed. -/
def execFirmwarePauseEnd (s : State) : Host.Outcome State Fault Refusal :=
  match s.super.fwChange with
  | none => .next s
  | some (old, job) =>
    let new := runningVersion s
    let s1 := raise 0x0106 [old, new, low32 s.cycle] { s with super := { s.super with fwChange := none } }
    .next (endPause (complete job (ok (le 4 new ++ cycle64 s.cycle)) s1))

/-- WARM_RESTART_END (R81, R714): mailboxes 1 to 14 are served again, and the outage of R78 ends. -/
def execWarmRestartEnd (s : State) : Host.Outcome State Fault Refusal :=
  if s.super.state ≠ 4 then .next s
  else
    let s1 := { s with hif := { s.hif with reqFree := s.hif.reqFree ||| 0x7FFE#16 } }
    .next (endLate (endPause s1))

end Sys2Proof.Machine
end

