-- ==== Sys2Proof/Machine/Balls.lean ====
section
/-! DEFINITION. The balls of the package and the resources they are (R688 to R694). -/

namespace Sys2Proof.Machine

/-- Groups of balls (R688). -/
inductive BallGroup where
  | serdes | qspi | flash | misc | sensor | metering | panel | can | vent | fan | output | valve | power
deriving DecidableEq, Repr

/-- One row of R689: rows, columns from 1, the group, and the number of its first ball counted from 0. -/
structure BallRun where
  rowLo : Nat
  rowHi : Nat
  colLo : Nat
  colHi : Nat
  group : BallGroup
  start : Nat
deriving DecidableEq, Repr

/-- R689. Rows are numbered from 0: A to H, J to N, P, T to W, Y, AA, AB, AC. -/
def ballRuns : List BallRun :=
  [⟨0, 0, 1, 14, .serdes, 0⟩, ⟨0, 0, 15, 21, .qspi, 0⟩, ⟨1, 1, 1, 12, .flash, 0⟩, ⟨1, 1, 13, 22, .misc, 0⟩,
   ⟨2, 2, 1, 5, .misc, 10⟩, ⟨2, 2, 6, 22, .sensor, 0⟩, ⟨3, 3, 1, 13, .sensor, 17⟩, ⟨3, 3, 14, 20, .metering, 0⟩]
  ++ [⟨4, 4, 1, 22, .panel, 0⟩, ⟨5, 5, 1, 2, .panel, 22⟩, ⟨5, 5, 3, 5, .can, 0⟩, ⟨6, 10, 1, 5, .can, 3⟩,
   ⟨11, 11, 1, 4, .can, 28⟩, ⟨11, 11, 5, 5, .vent, 0⟩, ⟨12, 16, 1, 5, .vent, 1⟩, ⟨5, 6, 18, 22, .vent, 26⟩]
  ++ [⟨7, 10, 18, 22, .fan, 0⟩, ⟨11, 11, 18, 21, .fan, 20⟩, ⟨11, 11, 22, 22, .output, 0⟩, ⟨12, 16, 18, 22, .output, 1⟩,
   ⟨17, 17, 1, 14, .output, 26⟩, ⟨17, 17, 15, 22, .valve, 0⟩, ⟨18, 20, 1, 22, .valve, 8⟩, ⟨21, 21, 1, 16, .valve, 74⟩]

/-- Ball `n` of a group, as a resource number (R688), in a run of R689. -/
def BallRun.ball (r : BallRun) (n : Nat) : Nat :=
  let w := r.colHi - r.colLo + 1
  (r.rowLo + (n - r.start) / w) * 22 + (r.colLo - 1 + (n - r.start) % w)

def BallRun.size (r : BallRun) : Nat := (r.rowHi - r.rowLo + 1) * (r.colHi - r.colLo + 1)

/-- Resource number of ball `n`, from 0, of a group. -/
def ballOf (g : BallGroup) (n : Nat) : Nat :=
  match ballRuns.find? fun r => decide (r.group = g) && decide (r.start ≤ n) && decide (n < r.start + r.size) with
  | none => 0
  | some r => r.ball n

/-- Group and number of a ball by its resource number; power and ground elsewhere. -/
def groupOf (b : Nat) : BallGroup × Nat :=
  let row := b / 22
  let col := b % 22 + 1
  match ballRuns.find? fun r => decide (r.rowLo ≤ row) && decide (row ≤ r.rowHi) && decide (r.colLo ≤ col) && decide (col ≤ r.colHi) with
  | none => (.power, 0)
  | some r => (r.group, r.start + (row - r.rowLo) * (r.colHi - r.colLo + 1) + (col - r.colLo))

/-- Balls of functions (R691). -/
def ballOutput (n : Nat) : Nat := ballOf .output n
def ballCan (n k : Nat) : Nat := ballOf .can (4 * n + k)
def ballVent (n k : Nat) : Nat := ballOf .vent (3 * n + k)
def ballFan (n k : Nat) : Nat := ballOf .fan (2 * n + k)
def ballSensor (n : Nat) : Nat := ballOf .sensor n
def ballExc (n : Nat) : Nat := ballOf .sensor (24 + n)
def ballVref (n : Nat) : Nat := ballOf .sensor (28 + n)
def ballMeter (n : Nat) : Nat := ballOf .metering n
def ballCol (n : Nat) : Nat := ballOf .panel n
def ballRow (n : Nat) : Nat := ballOf .panel (8 + n)
def ballEncA (n : Nat) : Nat := ballOf .panel (16 + n)
def ballEncB (n : Nat) : Nat := ballOf .panel (20 + n)
/-- HS_CMD_b and SENSE_HS_b, then LS_CMD_c and SENSE_LS_c of the bank's eight channels (R691). -/
def ballBank (b k : Nat) : Nat := ballOf .valve (18 * b + k)
def ballValve (c k : Nat) : Nat := ballOf .valve (18 * (c / 8) + 2 + 2 * (c % 8) + k)

/-- Other resources (R694). -/
def channelDrive (c : Nat) : Nat := 0x0200 + c
def zoneResource (z : Nat) : Nat := 0x0240 + z
def ventSetpoint (v : Nat) : Nat := 0x0260 + v

/-- Claimant codes of blocks (R693). -/
abbrev claimValve : Nat := 0x10
abbrev claimFan : Nat := 0x11
abbrev claimVent : Nat := 0x12
abbrev claimFbus : Nat := 0x13
abbrev claimSense : Nat := 0x14
abbrev claimPanel : Nat := 0x15

/-- A resource may be claimed at all (R694). -/
def claimable (r : Nat) : Bool :=
  if r < 484 then
    match groupOf r with
    | (.sensor, _) | (.panel, _) | (.can, _) | (.vent, _) | (.fan, _) | (.output, _) | (.valve, _) => true
    | (.metering, n) => decide (n < 6)
    | _ => false
  else (decide (0x200 ≤ r) && decide (r < 0x228)) || (decide (0x240 ≤ r) && decide (r < 0x260))
    || (decide (0x260 ≤ r) && decide (r < 0x26C))

/-- The claimants a resource accepts (R694). -/
def claimAccepted (r code : Nat) : Bool :=
  if r < 484 then
    match groupOf r with
    | (.can, _) => code == 0 || code == claimFbus
    | (.valve, _) => code == 0 || code == claimValve
    | (.fan, _) => code == 0 || code == claimFan
    | (.vent, _) => code == 0 || code == claimVent
    | (.sensor, _) => code == 0 || code == claimSense
    | (.panel, _) => code == 0 || code == claimPanel
    | (.metering, n) => decide (n < 6) && code == claimSense
    | (.output, _) => decide (code ≤ 7) || code == claimVent
    | _ => false
  else if 0x200 ≤ r ∧ r < 0x228 then decide (code ≤ 3)
  else if (0x240 ≤ r ∧ r < 0x260) ∨ (0x260 ≤ r ∧ r < 0x26C) then code == 0 || code == 2
  else false

end Sys2Proof.Machine
end

