-- ==== Sys2Proof/Machine/Number.lean ====
section
/-! DEFINITION. The control engine's number format (R235 to R237): exact values, comparison, rounding at a result exponent (R244 to R246), and the conversions at the edges (R255). -/

namespace Sys2Proof.Machine

/-! ## Value words -/

/-- Mantissa and exponent of a value word (R235). -/
def mant (w : Word) : Int := signed 24 (w.toNat / 256)
def expo (w : Word) : Int := signed 8 w.toNat

/-- The word of a mantissa and an exponent. -/
def valueWord (m e : Int) : Word := BitVec.ofNat 32 ((m % 16777216).toNat * 256 + (e % 256).toNat)

/-- The canonical zero (R236) and 1.0 (R238). -/
abbrev zeroWord : Word := 0x00000080#32
abbrev oneWord : Word := 0x40000001#32

/-- An exact value num / den × 2^q, or its square root (R244). -/
structure Exact where
  num : Int := 0
  den : Nat := 1
  q : Int := 0
  root : Bool := false
deriving DecidableEq, Repr

/-- The exact value of a word. -/
def exact (w : Word) : Exact := { num := mant w, q := expo w - 23 }

def Exact.zero : Exact := {}
def Exact.ofInt (i : Int) : Exact := { num := i }
def Exact.neg (a : Exact) : Exact := { a with num := -a.num }
def Exact.abs (a : Exact) : Exact := { a with num := (a.num.natAbs : Int) }

/-- a × 2^k. -/
def Exact.scale (a : Exact) (k : Int) : Exact := { a with q := a.q + k }

/-- An integer times a power of two whose exponent is not negative. -/
def shiftUp (n : Int) (k : Int) : Int := n * (2 ^ k.toNat : Nat)

/-- Sum, product and quotient of values without a root; the quotient is for a divisor that is not zero. -/
def Exact.add (a b : Exact) : Exact :=
  let q := min a.q b.q
  { num := shiftUp a.num (a.q - q) * b.den + shiftUp b.num (b.q - q) * a.den, den := a.den * b.den, q := q }
def Exact.sub (a b : Exact) : Exact := a.add b.neg
def Exact.mul (a b : Exact) : Exact := { num := a.num * b.num, den := a.den * b.den, q := a.q + b.q }
def Exact.div (a b : Exact) : Exact :=
  { num := (if b.num < 0 then -a.num else a.num) * b.den, den := a.den * b.num.natAbs, q := a.q - b.q }

/-- Order of two values without a root. -/
def Exact.cmp (a b : Exact) : Ordering := compare (a.sub b).num 0
def Exact.lt (a b : Exact) : Bool := a.cmp b == .lt
def Exact.le (a b : Exact) : Bool := a.cmp b != .gt

/-- Order of two words by their exact values (R248). -/
def cmpFp (a b : Word) : Ordering := (exact a).cmp (exact b)
def leFp (a b : Word) : Bool := cmpFp a b != .gt
def ltFp (a b : Word) : Bool := cmpFp a b == .lt
def isZeroFp (a : Word) : Bool := decide (mant a = 0)

/-! ## Rounding -/

/-- n / d to nearest, ties to even (R244). -/
def nearestEven (n : Nat) (d : Nat) : Nat :=
  let k := n / d
  let r := n % d
  if 2 * r < d then k else if d < 2 * r then k + 1 else if k % 2 = 0 then k else k + 1

def nearestEvenInt (n : Int) (d : Nat) : Int := if n < 0 then -(nearestEven n.natAbs d : Int) else nearestEven n.toNat d

/-- Integer square root, one bit at a time from bit `k` − 1 down. -/
def isqrtFrom : Nat → Nat → Nat → Nat
  | 0, _, r => r
  | k + 1, n, r => if (r + 2 ^ k) * (r + 2 ^ k) ≤ n then isqrtFrom k n (r + 2 ^ k) else isqrtFrom k n r

/-- Integer square root. -/
def isqrt (n : Nat) : Nat := isqrtFrom (n.log2 / 2 + 1) n 0

/-- The square root of n / d to nearest; its halves are decided exactly. -/
def nearestRoot (n d : Nat) : Nat :=
  let r := isqrt (n / d)
  let edge := (4 * r * r + 4 * r + 1) * d
  if 4 * n > edge ∨ (4 * n = edge ∧ r % 2 = 1) then r + 1 else r

/-- A value times 2^sh, rounded to an integer. -/
def Exact.rounded (a : Exact) (sh : Int) : Int :=
  if a.root then
    let k := a.q + 2 * sh
    if 0 ≤ k then nearestRoot (shiftUp a.num k).toNat a.den else nearestRoot a.num.toNat (a.den * 2 ^ (-k).toNat)
  else
    let k := a.q + sh
    if 0 ≤ k then nearestEvenInt (shiftUp a.num k) a.den else nearestEvenInt a.num (a.den * 2 ^ (-k).toNat)

/-- A mantissa of 24 bits. -/
def fits24 (m : Int) : Bool := decide (-8388608 ≤ m) && decide (m ≤ 8388607)

/-- Least exponent at which a non-zero value's rounded mantissa fits (R245). -/
def Exact.leastExp (a : Exact) : Int :=
  let l : Int := (a.num.natAbs.log2 : Int) - (a.den.log2 : Int) + a.q
  let e := if a.root then (l - 1) / 2 - 1 else l - 1
  match [e, e + 1, e + 2, e + 3].find? fun x => fits24 (a.rounded (23 - x)) with
  | some x => x
  | none => e + 4

/-! ## Writing a result (R245, R246) -/

/-- A lane before rounding: a value, or full scale of a sign (R245). -/
inductive Lane where
  | val (x : Exact)
  | full (negative : Bool)
deriving DecidableEq, Repr

/-- Flag bits of R251. -/
abbrev satBit : Nat := 1
abbrev underBit : Nat := 2
abbrev divBit : Nat := 4
abbrev windBit : Nat := 8
abbrev plausBit : Nat := 16
abbrev lateBit : Nat := 32
abbrev missBit : Nat := 64

/-- The exponents the lanes with a non-zero exact value need. -/
def neededExps (ls : List Lane) : List Int :=
  ls.filterMap fun l => match l with
    | .val x => if x.num = 0 then none else some x.leastExp
    | .full _ => none

def hasFull (ls : List Lane) : Bool := ls.any fun l => match l with
  | .full _ => true
  | .val _ => false

/-- One lane written at an exponent, with the flags it sets; `low` when AUTO was raised to −128. -/
def writeLane (e : Int) (low : Bool) (l : Lane) : Word × Nat :=
  match l with
  | .full n => (valueWord (if n then -8388608 else 8388607) e, 0)
  | .val x =>
    let m := x.rounded (23 - e)
    if m > 8388607 then (valueWord 8388607 e, satBit)
    else if m < -8388608 then (valueWord (-8388608) e, satBit)
    else (valueWord m e, if low && decide (m = 0) && decide (x.num ≠ 0) then underBit else 0)

/-- The result of a stage: every lane at one exponent (R241, R245, R246), with the flags set. A zero lane beside others keeps the shared exponent (log 17). -/
def writeLanes (fixedExp : Option Int) (ls : List Lane) : List Word × Nat :=
  let go := fun (e : Int) (low : Bool) =>
    let r := ls.map (writeLane e low)
    (r.map Prod.fst, (r.map Prod.snd).foldl (· ||| ·) 0)
  match fixedExp with
  | some e => go e false
  | none =>
    match neededExps ls with
    | [] => if hasFull ls then go 127 false else (ls.map fun _ => zeroWord, 0)
    | e :: es =>
      let x := es.foldl max e
      if x > 127 then go 127 false else if x < -128 then go (-128) true else go x false

/-- The word nearest to a value, at the exponent AUTO gives it. -/
def toWord (x : Exact) : Word := (writeLanes none [.val x]).1.headD zeroWord

/-- The word nearest to num / den. -/
def wordOfRat (num : Int) (den : Nat) : Word := toWord { num := num, den := den }

/-! ## Conversions (R255, R309) -/

/-- A value rounded to a multiple of 2^−k and limited, with whether the limit acted. -/
def Exact.toFixed (x : Exact) (k : Nat) (lo hi : Int) : Int × Bool :=
  let r := x.rounded k
  if r < lo then (lo, true) else if r > hi then (hi, true) else (r, false)

/-- A value as an integer inside bounds. -/
def wordToInt (w : Word) (lo hi : Int) : Int := ((exact w).toFixed 0 lo hi).1

/-- num / den of a value times a factor, as the nearest integer. -/
def Exact.times (x : Exact) (num : Int) (den : Nat) : Exact := { x with num := x.num * num, den := x.den * den }

end Sys2Proof.Machine
end

