-- ==== Sys2Proof/Machine/Stages.lean ====
section
/-! DEFINITION. The stage operations of the control engine, bit for bit (R238 to R250, R254, R256, R257). -/

namespace Sys2Proof.Machine

/-! ## The accumulator (R243) -/

/-- A term of a sum: an integer, and the exponent of the weight of its sign bit; its lowest bit weighs 2^(top − width + 1). -/
structure Term where
  x : Int
  top : Int
  width : Nat
deriving DecidableEq, Repr

def termOf (neg : Bool) (w : Word) : Term := { x := if neg then -mant w else mant w, top := expo w, width := 24 }
def productOf (neg : Bool) (a b : Word) : Term :=
  { x := if neg then -(mant a * mant b) else mant a * mant b, top := expo a + expo b + 1, width := 48 }

/-- A term in the accumulator whose bit 47 weighs 2^top: shifted left, or arithmetically right. -/
def Term.placed (t : Term) (top : Int) : Int :=
  let sh := (t.top - t.width + 1) - (top - 47)
  if 0 ≤ sh then shiftUp t.x sh else t.x / (2 ^ (-sh).toNat : Nat)

/-- The sum of terms in the 56-bit accumulator: the term of largest weight has its sign bit at bit 47, the others lose their bits below bit 0, a zero term has no weight. -/
def accumulate (ts : List Term) : Exact :=
  match ts.filter fun t => decide (t.x ≠ 0) with
  | [] => Exact.zero
  | t :: us =>
    let top := (us.map Term.top).foldl max t.top
    { num := ((t :: us).map fun u => u.placed top).foldl (· + ·) 0, q := top - 47 }

/-! ## Stage words (R257) -/

structure Stage where
  op : Nat
  lanes : Nat
  dst : Nat
  a : Nat
  b : Nat
  c : Nat
  fixedExp : Option Int
  bcastB : Bool
  bcastC : Bool
  param : Nat
deriving DecidableEq, Repr

/-- The stage word at an offset. -/
def stageAt (v : List Byte) (o : Nat) : Stage :=
  { op := u8 v o, lanes := u8 v (o + 1) % 32, dst := u8 v (o + 2), a := u8 v (o + 3), b := u8 v (o + 4), c := u8 v (o + 5),
    fixedExp := if bit (u8 v (o + 6)) 0 then some (s8 v (o + 7)) else none,
    bcastB := bit (u8 v (o + 6)) 1, bcastC := bit (u8 v (o + 6)) 2, param := u16 v (o + 8) }

/-- The stages of a program record's value (R256). -/
def stagesOf (v : List Byte) : List Stage := (List.range (u8 v 0)).map fun i => stageAt v (4 + 12 * i)

/-! ## Lane values (R247 to R250) -/

/-- A value and the flags of R247 beyond R246. -/
abbrev LaneResult := Lane × Nat

def plain (x : Exact) : LaneResult := (.val x, 0)

/-- 2^−param or 2^param of SCALE, whose field is signed (R257). -/
def scaleShift (p : Nat) : Int := signed 16 p

def laneDiv (a b : Word) : LaneResult :=
  if isZeroFp b then (if isZeroFp a then (.val Exact.zero, divBit) else (.full (decide (mant a < 0)), divBit))
  else plain ((exact a).div (exact b))

def laneSqrt (a : Word) : LaneResult :=
  if mant a < 0 then (.val Exact.zero, divBit) else plain { exact a with root := true }

def laneClamp (a b c : Word) : Exact :=
  if ltFp c b then exact b else if ltFp a b then exact b else if ltFp c a then exact c else exact a

def laneLag (a b d : Word) : Exact :=
  let b' := if mant b < 0 then zeroWord else if ltFp oneWord b then oneWord else b
  accumulate [termOf false d, productOf false b' a, productOf true b' d]

/-- The sign with which |w| is added so that it has the sign `positive`. -/
def absTerm (w : Word) (positive : Bool) : Term := termOf (decide (mant w < 0) == positive) w

def laneRate (a b d : Word) : Exact :=
  let step := (exact a).sub (exact d)
  if step.abs.le (exact b).abs then exact a else accumulate [termOf false d, absTerm b (decide (0 < step.num))]

def laneDeadband (a b : Word) : Exact :=
  if (exact a).abs.le (exact b).abs then Exact.zero else accumulate [termOf false a, absTerm b (decide (mant a < 0))]

def laneHyst (a b c d : Word) : Exact :=
  if leFp b a then Exact.ofInt 1 else if leFp a c then Exact.zero else exact d

def laneCheck (a b c : Word) : LaneResult :=
  if ltFp a b then (.val (exact b), plausBit) else if ltFp c a then (.val (exact c), plausBit) else plain (exact a)

/-- One lane of an operation whose lanes are computed alike; a, b, c and the previous d. -/
def laneOf (op param : Nat) (a b c d : Word) : LaneResult :=
  match op with
  | 0x01 => plain (exact a)
  | 0x02 => plain (accumulate [termOf false a, termOf false b])
  | 0x03 => plain (accumulate [termOf false a, termOf true b])
  | 0x04 => plain (accumulate [productOf false a b])
  | 0x05 => plain (accumulate [termOf false c, productOf false a b])
  | 0x07 => plain ((exact a).scale (scaleShift param))
  | 0x08 => plain (exact a).neg
  | 0x09 => plain (exact a).abs
  | 0x0A => plain (if leFp a b then exact a else exact b)
  | 0x0B => plain (if leFp b a then exact a else exact b)
  | 0x0C => plain (laneClamp a b c)
  | 0x0D => laneDiv a b
  | 0x0E => laneSqrt a
  | 0x0F => plain (if mant c ≥ 0 then exact a else exact b)
  | 0x11 => plain (accumulate [productOf false b a, productOf true b c])
  | 0x12 => plain (laneLag a b d)
  | 0x13 => plain (laneRate a b d)
  | 0x14 => plain (laneDeadband a b)
  | 0x15 => plain (laneHyst a b c d)
  | 0x18 => laneCheck a b c
  | _ => plain (exact a)

/-- INTEG: the accumulated step, limited to two scalars (R247). -/
def laneInteg (lo hi a b d : Word) : LaneResult :=
  let x := accumulate [termOf false d, productOf false a b]
  if x.lt (exact lo) then (.val (exact lo), windBit) else if (exact hi).lt x then (.val (exact hi), windBit) else plain x

/-! ## LUT (R247) -/

/-- The points of a table: x and y in turn. -/
def lutPoints : List Word → List (Word × Word)
  | x :: y :: r => (x, y) :: lutPoints r
  | _ => []

def lutRising : List (Word × Word) → Bool
  | p :: q :: r => ltFp p.1 q.1 && lutRising (q :: r)
  | _ => true

/-- Interpolation between points: below the first x its y, above the last x its y (R247), exact (R244). -/
def lutAt (a : Word) : List (Word × Word) → Exact
  | [] => Exact.zero
  | [p] => exact p.2
  | p :: q :: r =>
    if leFp a p.1 then exact p.2
    else if leFp a q.1 then
      (exact p.2).add ((((exact a).sub (exact p.1)).mul ((exact q.2).sub (exact p.2))).div ((exact q.1).sub (exact p.1)))
    else lutAt a (q :: r)

/-! ## Running a stage on the registers (R238 to R241, R249) -/

def reg (rs : List Word) (a : Nat) : Word := rs.getD a zeroWord

/-- `n` registers from an address, or one register in every lane. -/
def run (rs : List Word) (a n : Nat) (bcast : Bool) : List Word := (List.range n).map fun i => reg rs (if bcast then a else a + i)

/-- Write words from a register on. -/
def putRun : List Word → Nat → List Word → List Word
  | rs, _, [] => rs
  | rs, a, w :: ws => putRun (rs.set a w) (a + 1) ws

/-- The lanes a stage computes, and their flags beyond R246. -/
def stageLanes (st : Stage) (rs : List Word) : List LaneResult :=
  let a := run rs st.a st.lanes false
  let b := run rs st.b st.lanes st.bcastB
  let c := run rs st.c st.lanes st.bcastC
  let d := run rs st.dst st.lanes false
  match st.op with
  | 0x06 => [plain (accumulate ((a.zip b).map fun p => productOf false p.1 p.2))]
  | 0x10 => (List.range st.lanes).map fun i =>
      laneInteg (reg rs st.c) (reg rs (st.c + 1)) (a.getD i zeroWord) (b.getD i zeroWord) (d.getD i zeroWord)
  | 0x16 => [plain (exact (reg rs (st.c + st.param - 1)))]
  | 0x17 =>
    let ps := lutPoints (run rs st.b (2 * st.param) false)
    if lutRising ps then a.map fun x => plain (lutAt x ps)
    else a.map fun _ => (.val (exact (reg rs (st.b + 1))), divBit)
  | _ => (List.range st.lanes).map fun i =>
      laneOf st.op st.param (a.getD i zeroWord) (b.getD i zeroWord) (c.getD i zeroWord) (d.getD i zeroWord)

/-- The c registers that DIFF and DELAY update after d is written (R247, R249). -/
def stageState (st : Stage) (rs after : List Word) : List Word :=
  match st.op with
  | 0x11 => putRun after st.c (run rs st.a st.lanes false)
  | 0x16 => putRun after st.c (reg rs st.a :: run rs st.c (st.param - 1) false)
  | _ => after

/-- One stage: the registers after it, and the flags it sets. -/
def runStage (st : Stage) (rs : List Word) : List Word × Nat :=
  let ls := stageLanes st rs
  let w := writeLanes st.fixedExp (ls.map Prod.fst)
  (stageState st rs (putRun rs st.dst w.1), (ls.map Prod.snd).foldl (· ||| ·) w.2)

/-- Registers, flags, and the first stage that set a flag (R254), as stages run in order. -/
def runStages : List Stage → Nat → List Word × Nat × Option Nat → List Word × Nat × Option Nat
  | [], _, x => x
  | st :: rest, i, (rs, f, first) =>
    let r := runStage st rs
    runStages rest (i + 1) (r.1, f ||| r.2, if first.isNone && decide (r.2 ≠ 0) then some i else first)

/-- The register file at the start of a sample (R238): IN, OUT, ST, K, T, DT, ZERO, ONE. -/
def registerFile (inp out st k : List Word) (dt : Word) : List Word :=
  let pad := fun (n : Nat) (l : List Word) => (l ++ List.replicate (n - l.length) zeroWord).take n
  pad 16 inp ++ pad 16 out ++ pad 64 st ++ pad 64 k ++ List.replicate 32 zeroWord ++ [dt, zeroWord, oneWord]

/-- Cost of a stage in processor clocks (R247). -/
def stageCost (st : Stage) : Nat :=
  match st.op with
  | 0x0D | 0x0E => 4 + 26 * st.lanes
  | 0x10 | 0x11 | 0x12 | 0x13 | 0x14 => if st.op = 0x14 then 4 + st.lanes else 6 + st.lanes
  | 0x16 => 4 + st.param
  | 0x17 => 4 + 6 * st.lanes
  | _ => 4 + st.lanes

/-- Cost of a sample: 24 clocks and its stages (R260). -/
def sampleCost (program : List Byte) : Nat := 24 + ((stagesOf program).map stageCost).sum

/-- Bits [4:0] of the flags as they enter the flag word, with FIRST_STAGE where no stage index stands: an input check's PLAUS and a route's SAT leave none (R251, R254, R295). -/
def mergeFlags (old : BitVec 16) (flags : Nat) (first : Option Nat) : BitVec 16 :=
  let f := BitVec.ofNat 16 flags
  let fresh := decide (old &&& 0x80#16 = 0) && decide (f &&& 0x1F#16 ≠ 0)
  match first with
  | some i => if fresh then (old &&& 0xE07F#16) ||| f ||| 0x80#16 ||| BitVec.ofNat 16 (i % 32 * 256) else old ||| f
  | none => old ||| f

end Sys2Proof.Machine
end

