-- ==== Sys2Proof/Machine/Records.lean ====
section
/-! DEFINITION. What a configuration record may hold: for every record type of the manual its value lengths, reserved fields and ranges (R86, R89 steps 5 and 6), the rules that tie one record to others, and the resources a record uses (R89 step 7). -/

namespace Sys2Proof.Machine

/-- One check of a value's fields. -/
inductive Chk where
  /-- an unsigned field of `n` bytes at an offset lies in a range -/
  | u (o n lo hi : Nat)
  /-- a signed field of `n` bytes at an offset lies in a range -/
  | s (o n : Nat) (lo hi : Int)
  /-- bytes are reserved and zero -/
  | rsv (o n : Nat)
  /-- bits of an `n`-byte field from `b` upward are reserved and zero -/
  | top (o n b : Nat)
deriving DecidableEq, Repr

/-- An unsigned field of `n` bytes. -/
def uField (v : List Byte) (o : Nat) : Nat → Nat
  | 0 => 0
  | n + 1 => u8 v o + 256 * uField v (o + 1) n

/-- A signed field of `n` bytes. -/
def sField (v : List Byte) (o n : Nat) : Int := signed (8 * n) (uField v o n)

/-- A reserved field is zero (R89 step 5); true of every other check. -/
def Chk.reservedOk (v : List Byte) : Chk → Bool
  | .u _ _ _ _ => true
  | .s _ _ _ _ => true
  | .rsv o n => allZero (slice v o n)
  | .top o n b => decide (uField v o n < 2 ^ b)

/-- A field lies in its range (R89 step 6); true of every other check. -/
def Chk.rangeOk (v : List Byte) : Chk → Bool
  | .u o n lo hi => decide (lo ≤ uField v o n) && decide (uField v o n ≤ hi)
  | .s o n lo hi => decide (lo ≤ sField v o n) && decide (sField v o n ≤ hi)
  | .rsv _ _ => true
  | .top _ _ _ => true

/-- A check moved by an offset, for entries of an array. -/
def Chk.shift (d : Nat) : Chk → Chk
  | .u o n lo hi => .u (o + d) n lo hi
  | .s o n lo hi => .s (o + d) n lo hi
  | .rsv o n => .rsv (o + d) n
  | .top o n b => .top (o + d) n b

/-- `k` entries of `size` bytes from `base`, each with the same checks. -/
def entries (base size k : Nat) (cs : List Chk) : List Chk := (List.range k).flatMap fun i => cs.map (Chk.shift (base + i * size))

/-- What a record type allows: instance numbers below `insts`, value lengths, checks of fields. -/
structure RecSpec where
  insts : Nat := 1
  minLen : Nat := 0
  maxLen : Nat := 4096
  /-- the length less the minimum is a multiple of this -/
  unit : Nat := 1
  checks : List Chk := []
deriving DecidableEq, Repr

/-- A type whose values all have one length. -/
def fixed (insts len : Nat) (checks : List Chk) : RecSpec := { insts := insts, minLen := len, maxLen := len, checks := checks }

/-- A resource that a record uses, with what its claim must name (R696): a drive layer 0 to 2, or a block's claimant code. -/
structure Use where
  resource : Nat
  need : Nat
deriving DecidableEq, Repr

/-- A claimant code names a layer or a block (R696). -/
def claimNames (code need : Nat) : Bool := if need ≤ 2 then decide (code ≤ 7) && bit code need else code == need

/-- The claimant a list of records gives a resource: NONE without a record (R695). -/
def claimIn (rs : List Record) (r : Nat) : Nat := ((findRecord rs 0x1701 r).map fun v => u8 v 0).getD 0

/-- A conflict of R89 step 7: the resource and both claims (R90). -/
structure Conflict where
  resource : Nat
  first : Nat × Nat
  second : Nat × Nat
  offset : Nat
deriving DecidableEq, Repr
/-! ## CFG (R87, R88) -/

/-- A carried swath (R87). -/
def swathSpec : RecSpec := { insts := 16, minLen := 64 }

/-- A loop-condition trigger (R87, R88). -/
def triggerSpec : RecSpec :=
  fixed 16 16 [.u 0 2 0 511, .u 2 1 0 15, .u 3 1 0 15, .u 12 2 1 65535, .u 14 1 0 1, .rsv 15 1]

/-- A trigger's slot has a loop record, and its on threshold exceeds its off threshold (R88). -/
def triggerExtra (rs : List Record) (v : List Byte) : Bool :=
  (findRecord rs 0x0703 (u16 v 0)).isSome && cmpFp (BitVec.ofNat 32 (u32 v 4)) (BitVec.ofNat 32 (u32 v 8)) == .gt

/-! ## PHASE (R137) -/

/-- The timebase record (R137). -/
def timebaseSpec : RecSpec :=
  { insts := 1, minLen := 12, maxLen := 12,
    checks := [.u 0 1 50 60, .u 1 1 0 2, .u 4 2 0 2047, .u 6 1 0 1, .u 7 1 0 1, .u 8 1 0 3, .rsv 9 3] }

/-! ## BEAD (R143, R145 to R151, R162, R163, R273) -/

/-- A bead record (R145, R146). -/
structure BeadRec where
  type : Nat
  cls : Nat
  prov : Bool
  enabled : Bool
  select : Nat
  n : Nat
  angle : Nat
  residue : Nat
  slack : Nat
  phase : Nat
  gated : Bool
  cycle : Nat
  start : Nat
  period : Nat
  power : Int
  inrush : Nat
  heat : Int
  action : List Byte
deriving DecidableEq, Repr

def beadOf (r : List Byte) : BeadRec :=
  let c := u16 r 0
  { type := c / 4096, cls := c / 512 % 8, prov := bit c 8, enabled := bit c 7, select := c / 16 % 8, n := c % 16, angle := u16 r 2,
    residue := u16 r 4, slack := u8 r 6, phase := u8 r 7 % 4, gated := bit (u8 r 7) 2, cycle := u64 r 8 % 2 ^ 48, start := u32 r 8,
    period := u32 r 12, power := s16 r 16, inrush := u16 r 18, heat := s16 r 20, action := slice r 24 8 }

/-- The output a PIN bead acts on. -/
def BeadRec.output (b : BeadRec) : Option Nat := if b.type = 1 then some (u8 b.action 0) else none


/-- Selectors modulo 32,768: exponent and residue of a periodic or specific-cycle bead. -/
def residueOf (b : BeadRec) : Option (Nat × Nat) :=
  match b.select with
  | 0 => some (b.n, b.residue)
  | 1 => some (15, b.cycle % 32768)
  | _ => none

/-- The most selectors that share a residue of modulus 32,768, with that residue, among those that agree with `res` modulo 2^level. The fuel is 15 − level. -/
def worstFrom : Nat → Nat → Nat → List (Nat × Nat) → Nat × Nat
  | 0, _, res, l => (l.length, res)
  | fuel + 1, level, res, l =>
    if l.isEmpty then (0, res)
    else
      let here := (l.filter fun x => decide (x.1 ≤ level)).length
      let deep := l.filter fun x => decide (level < x.1)
      let side := fun (b : Nat) => deep.filter fun x => decide (x.2 / 2 ^ level % 2 = b)
      let a := worstFrom fuel (level + 1) res (side 0)
      let c := worstFrom fuel (level + 1) (res + 2 ^ level) (side 1)
      if a.1 < c.1 then (here + c.1, c.2) else (here + a.1, a.2)

/-- The worst residue among all, and among those that a selector names. -/
def worstOf (l : List (Nat × Nat)) : Nat × Nat := worstFrom 15 0 0 l
def worstIn (x : Nat × Nat) (l : List (Nat × Nat)) : Nat × Nat :=
  worstFrom (15 - x.1) x.1 x.2 (l.filter fun y => if y.1 ≤ x.1 then x.2 % 2 ^ y.1 == y.2 else y.2 % 2 ^ x.1 == x.2)

/-- A selector names a residue. -/
def namesResidue (x : Nat × Nat) (res : Nat) : Bool := res % 2 ^ x.1 == x.2

/-- Beads with a selector of R163, as number, angle and residue. -/
def counted (l : List (Nat × BeadRec)) : List (Nat × Nat × Nat × Nat) :=
  l.filterMap fun e => (residueOf e.2).map fun r => (e.1, e.2.angle, r)

/-- A limit that one more record would break: the resource, and the lowest bead already there (R163). -/
def limitBroken (l : List (Nat × BeadRec)) (b : BeadRec) : Option (Nat × Nat) :=
  match residueOf b with
  | none => none
  | some r =>
    let all := counted l
    let near := all.filter fun x => x.2.1 == b.angle
    let w := worstIn r (all.map fun x => x.2.2)
    let v := worstIn r (near.map fun x => x.2.2)
    let lowest := fun (l : List (Nat × Nat × Nat × Nat)) (res : Nat) => ((l.find? fun x => namesResidue x.2.2 res).map Prod.fst).getD 0
    if w.1 ≥ 256 then some (0xFFFF0400, lowest all w.2)
    else if v.1 ≥ 32 then some (0xFFFF0401, lowest near v.2)
    else none

/-- Another PIN bead on the same output at the same angle (R162). -/
def outputTaken (l : List (Nat × BeadRec)) (b : BeadRec) : Option (Nat × Nat) :=
  match b.output with
  | none => none
  | some o => (l.find? fun e => e.2.output == some o && e.2.angle == b.angle).map fun e => (ballOutput o, e.1)

/-- A configured bead (R143, R145). -/
def beadSpec : RecSpec := fixed 4096 32 [.top 7 1 3, .rsv 22 2]

/-- The role of a FIELD binding or a CFP bead has a record on that bus; a bead's is not a LISTEN role (R431). -/
def roleNamed (rs : List Record) (bus : Option Nat) (role : Nat) (bead : Bool) : Bool :=
  match findRecord rs 0x0B01 role with
  | none => false
  | some v => (match bus with
      | none => true
      | some b => u8 v 0 == b) && (!bead || !bit (u8 v 1) 0)

/-- The other channel of the declared pair a valve channel is in (R453, R462). -/
def pairIn (bank : List Byte) (c : Nat) : Option Nat :=
  (List.range 2).findSome? fun k =>
    let a := u8 bank (10 + 2 * k)
    let b := u8 bank (11 + 2 * k)
    if a = 0xFF then none else if a = c % 8 then some (c / 8 * 8 + b) else if b = c % 8 then some (c / 8 * 8 + a) else none

/-- The action field of a bead (R149, R273, R412, R431, R453); REPORT_SET, opcode 0x11, takes more than 3 argument bytes (R429). -/
def actionOk (rs : List Record) (type : Nat) (a : List Byte) : Bool :=
  match type with
  | 1 =>
    decide (u8 a 0 ≤ 39) && decide (u8 a 1 ≤ 4) && (if u8 a 1 = 2 ∨ u8 a 1 = 3 then decide (u16 a 2 ≠ 0) else decide (u16 a 2 = 0))
      && allZero (a.drop 4)
  | 2 =>
    decide (u8 a 0 ≤ 39) && decide (u8 a 1 ≤ 15) && decide (u8 a 2 ≤ 3) && allZero (a.drop 3)
      && (!bit (u8 a 2) 1 || (pairIn ((findRecord rs 0x0C01 (u8 a 0 / 8)).getD []) (u8 a 0)).isSome)
  | 3 =>
    decide (u8 a 0 ≤ 7) && decide (u8 a 1 ≤ 1) && decide (u8 a 4 < 128) && u8 a 4 != 0x11 && roleNamed rs (some (u8 a 0)) (u16 a 2) true
  | 4 =>
    allZero (a.drop 2) && (match findRecord rs 0x0703 (u16 a 0) with
      | none => false
      | some v => bit (u8 v 1) 2)
  | 5 => decide (u16 a 2 ≤ 511) && decide (u8 a 4 ≤ 15) && allZero (a.drop 5)
  | 6 => decide (u8 a 0 ≤ 3) && allZero (a.drop 1)
  | 7 => ((u8 a 0 == 0 && decide (u8 a 1 ≤ 15)) || (u8 a 0 == 1 && decide (u8 a 1 ≤ 3))) && allZero (a.drop 2)
  | _ => false

/-- The rules of R145 to R151 over a record's fields. -/
def beadExtra (rs : List Record) (v : List Byte) : Bool :=
  let b := beadOf v
  let selector := match b.select with
    | 0 => allZero (slice v 8 8) && decide (b.residue < 2 ^ b.n)
    | 1 => b.residue == 0 && b.n == 0 && u16 v 14 == 0
    | 2 => b.residue == 0 && b.n == 0 && (b.period == 0 || decide (60 ≤ b.period))
    | _ => false
  selector && !(b.prov && b.cls == 0) && (b.phase != 0 || (b.power == 0 && b.inrush == 0)) && actionOk rs b.type b.action

/-- What a bead acts on (R150, R455). -/
def beadUses (v : List Byte) : List Use :=
  let b := beadOf v
  match b.type with
  | 1 => [{ resource := ballOutput (u8 b.action 0), need := 0 }]
  | 2 => [{ resource := channelDrive (u8 b.action 0), need := 0 }]
  | _ => []

/-- Conflicts among configured beads: each against those before it (R162, R163). -/
def beadConflictsFrom (before : List (Nat × BeadRec)) : List (Nat × Record) → List Conflict
  | [] => []
  | p :: ps =>
    let b := beadOf p.2.value
    let here := match outputTaken before b with
      | some x => some x
      | none => limitBroken before b
    (here.map fun (x : Nat × Nat) => ({ resource := x.1, first := (0x8401, x.2), second := (0x8401, p.2.inst), offset := p.1 } : Conflict)).toList
      ++ beadConflictsFrom (before ++ [(p.2.inst, b)]) ps

def beadConflicts (ps : List (Nat × Record)) : List Conflict := beadConflictsFrom [] (ps.filter fun p => p.2.type == 0x8401)

/-! ## CARRY (R196) -/

/-- The carry record (R196). -/
def carrySpec : RecSpec := fixed 1 4 [.u 0 1 0 1, .u 1 1 0 64, .rsv 2 2]

/-! ## RECK (R229, R230) -/

/-- The reckoner record (R229). -/
def reckSpec : RecSpec := fixed 1 120 ([.top 12 1 2, .u 13 1 0 8, .u 20 4 600 1048575] ++ entries 24 12 8 [.rsv 10 2])

/-- The heat record (R230). -/
def heatSpec : RecSpec := fixed 1 16 [.u 2 1 0 15, .rsv 3 1, .u 4 4 1 4000000, .u 12 2 1 4096]

/-! ## LOOP programs and constants (R256 to R260) -/

/-- How an operation uses its operands (R247): b and c, the run lengths of b and c for `n` lanes and a parameter, and which operands lie in ST. -/
structure OpForm where
  useB : Bool := false
  useC : Bool := false
  vecB : Bool := true
  vecC : Bool := true
  stD : Bool := false
  stC : Bool := false
deriving DecidableEq, Repr

/-- The form of each operation; none for a reserved code. -/
def opForm : Nat → Option OpForm
  | 0x01 | 0x07 | 0x08 | 0x09 | 0x0E => some {}
  | 0x02 | 0x03 | 0x04 | 0x06 | 0x0A | 0x0B | 0x0D | 0x14 => some { useB := true }
  | 0x05 | 0x0C | 0x0F | 0x18 => some { useB := true, useC := true }
  | 0x10 => some { useB := true, useC := true, vecC := false, stD := true }
  | 0x11 => some { useB := true, useC := true, vecC := false, stC := true }
  | 0x12 | 0x13 => some { useB := true, stD := true }
  | 0x15 => some { useB := true, useC := true, stD := true }
  | 0x16 => some { useC := true, vecC := false, stC := true }
  | 0x17 => some { useB := true, vecB := false }
  | _ => none

/-- Regions of the register file: first register and one past the last (R238). -/
def regionOf (a : Nat) : Option (Nat × Nat) :=
  [(0x00, 0x10), (0x10, 0x20), (0x20, 0x60), (0x60, 0xA0), (0xA0, 0xC0), (0xC0, 0xC1), (0xC1, 0xC2), (0xC2, 0xC3)].find? fun r =>
    decide (r.1 ≤ a) && decide (a < r.2)

/-- A run of registers lies within one region. -/
def runOk (a n : Nat) : Bool :=
  match regionOf a with
  | none => false
  | some r => decide (a + n ≤ r.2)

/-- Every K register of a run lies below the constants' count. -/
def belowCount (count a n : Nat) : Bool := decide (a < 0x60) || decide (0xA0 ≤ a) || decide (a + n ≤ 0x60 + count)

def inST (a : Nat) : Bool := decide (0x20 ≤ a) && decide (a < 0x60)

/-- The parameter of an operation (R257). -/
def paramOk (op p : Nat) : Bool :=
  match op with
  | 0x07 => decide (-64 ≤ signed 16 p) && decide (signed 16 p ≤ 64)
  | 0x16 => decide (1 ≤ p) && decide (p ≤ 16)
  | 0x17 => decide (2 ≤ p) && decide (p ≤ 16)
  | _ => p == 0

/-- One stage word against the rules of R259; `ks` are the constants. -/
def stageOk (v : List Byte) (o : Nat) (ks : List Word) : Bool :=
  let st := stageAt v o
  match opForm st.op with
  | none => false
  | some f =>
    let nd := if st.op = 0x06 then 1 else st.lanes
    let nb := if f.useB = false then 0 else if f.vecB = false then 2 * st.param else if st.bcastB then 1 else st.lanes
    let nc := if f.useC = false then 0 else if st.op = 0x10 then 2 else if st.op = 0x11 then st.lanes else if st.op = 0x16 then st.param
              else if st.bcastC then 1 else st.lanes
    let kx := (List.range st.param).map fun j => (ks.getD (st.b - 0x60 + 2 * j) zeroWord, zeroWord)
    decide (1 ≤ st.lanes) && decide (st.lanes ≤ 16) && decide (u8 v (o + 1) < 32) && decide (u8 v (o + 6) < 8)
      && (st.fixedExp.isSome || u8 v (o + 7) == 0) && u16 v (o + 10) == 0
      && (f.useB || st.b == 0) && (f.useC || st.c == 0) && (!st.bcastB || (f.useB && f.vecB)) && (!st.bcastC || (f.useC && f.vecC))
      && (st.op != 0x16 || st.lanes == 1) && paramOk st.op st.param
      && decide (0x10 ≤ st.dst) && !(decide (0x60 ≤ st.dst) && decide (st.dst < 0xA0)) && decide (st.dst < 0xC0) && runOk st.dst nd
      && (!f.stD || inST st.dst) && runOk st.a st.lanes && belowCount ks.length st.a st.lanes
      && (!f.useB || (runOk st.b nb && belowCount ks.length st.b nb))
      && (!f.useC || (runOk st.c nc && belowCount ks.length st.c nc)) && (!f.stC || inST st.c)
      && (st.op != 0x17 || st.b < 0x60 || 0xA0 ≤ st.b || lutRising kx)

/-- The constants of a slot among records. -/
def constsIn (rs : List Record) (slot : Nat) : List Word :=
  match findRecord rs 0x8702 slot with
  | none => []
  | some v => (List.range (u8 v 0)).map fun i => BitVec.ofNat 32 (u32 v (4 + 4 * i))

/-- A program (R256). -/
def programSpec : RecSpec := { insts := 512, minLen := 16, maxLen := 388, unit := 12, checks := [.u 0 1 1 32, .rsv 1 3] }

/-- A program with its constants (R259). -/
def programExtra (rs : List Record) (slot : Nat) (v : List Byte) : Bool :=
  v.length == 4 + 12 * u8 v 0 && (findRecord rs 0x0703 slot).isSome
    && (List.range (u8 v 0)).all fun k => stageOk v (4 + 12 * k) (constsIn rs slot)

/-- A loop's constants (R258). -/
def constantsSpec : RecSpec := { insts := 512, minLen := 8, maxLen := 260, unit := 4, checks := [.u 0 1 1 64, .rsv 1 3] }

/-- Constants with their program (R258, R259). -/
def constantsExtra (rs : List Record) (slot : Nat) (v : List Byte) : Bool :=
  v.length == 4 + 4 * u8 v 0 && (findRecord rs 0x0703 slot).isSome
    && (match findRecord rs 0x0701 slot with
        | none => true
        | some p => (List.range (u8 p 0)).all fun k => stageOk p (4 + 12 * k) (constsIn rs slot))

/-- Nominal frequency of a set of records (R137). -/
def nominalIn (rs : List Record) : Nat := ((findRecord rs 0x0301 0).map fun v => u8 v 0).getD 50

/-- The engine load of the enabled loops, in clocks per second times 4,096 (R260). -/
def recordLoad (rs : List Record) : Nat :=
  ((rs.filter fun r => r.type == 0x0703).map fun r =>
    let on := ((findRecord rs 0x8704 r.inst).map fun v => u8 v 0).getD 0
    if on = 1 then sampleCost ((findRecord rs 0x0701 r.inst).getD []) * nominalIn rs * 2 ^ (s8 r.value 0 + 12).toNat else 0).sum

/-- The load stays within 75 % of 4,000,000,000 clocks per second. -/
def loadOk (rs : List Record) : Bool := decide (recordLoad rs ≤ 3000000000 * 4096)

/-! ## LOOP records and supervision (R272 to R282, R296, R532) -/

/-- An input binding (R278, R532). -/
def bindingOk (kind fl index a b : Nat) : Bool :=
  decide (fl ≤ 1) && (fl == 0 || kind == 3 || kind == 4) &&
    (match kind with
     | 0 => index == 0 && a == 0 && b == 0
     | 1 => decide (index ≤ 23) && a == 0 && b == 0
     | 2 =>
       b == 0 && (if index ≤ 1 ∨ index = 6 then decide (1 ≤ a) && decide (a ≤ 3) else if index ≤ 5 then decide (a ≤ 3) else index == 7 && a == 0)
     | 3 => decide (a ≤ 7) && decide (b ≤ 255)
     | 4 => decide (1 ≤ a) && decide (a ≤ 255) && b == 0
     | 5 => decide (index ≤ 511) && decide (a ≤ 15) && b == 0
     | 6 => decide (index ≤ 4) && a == 0 && b == 0
     | 7 => b == 0 && ((decide (a ≤ 1) && decide (index ≤ 11)) || (a == 2 && decide (index ≤ 39)))
     | _ => false)

/-- An output route (R279). -/
def routeOk (kind fl target count feedback : Nat) : Bool :=
  decide (fl ≤ 1) && (decide (feedback ≤ 15) || feedback == 0xFF) && (kind == 4 || count == 0) &&
    (match kind with
     | 0 | 6 => target == 0
     | 1 => decide (target ≤ 31)
     | 2 => decide (target ≤ 11)
     | 3 | 5 => decide (target ≤ 39)
     | 4 => decide (1 ≤ count) && decide (count ≤ 64) && decide (target + count ≤ 4096)
     | _ => false)

def bindingsOk (v : List Byte) : Bool :=
  (List.range 16).all fun i => let o := 16 + 8 * i
    bindingOk (u8 v o) (u8 v (o + 1)) (u16 v (o + 2)) (u16 v (o + 4)) (u16 v (o + 6))

def routesOk (v : List Byte) : Bool :=
  (List.range 16).all fun i => let o := 144 + 8 * i
    routeOk (u8 v o) (u8 v (o + 1)) (u16 v (o + 2)) (u16 v (o + 4)) (u8 v (o + 6)) && u8 v (o + 7) == 0

/-- Number of loops in a chain of inner links; the fuel bounds it at more than 4. -/
def chainLength (rs : List Record) : Nat → Nat → Nat
  | 0, _ => 1
  | n + 1, slot =>
    match findRecord rs 0x0703 slot with
    | none => 1
    | some v => if u16 v 6 = 0xFFFF then 1 else 1 + chainLength rs n (u16 v 6)

/-- The inner link of a loop (R275). -/
def innerOk (rs : List Record) (slot : Nat) (v : List Byte) : Bool :=
  if u16 v 6 = 0xFFFF then u8 v 8 == 0
  else
    match findRecord rs 0x0703 (u16 v 6) with
    | none => false
    | some w =>
      let p := 2 ^ (16 - s8 w 0).toNat
      decide (1 ≤ u8 v 8) && s8 v 0 == s8 w 0 - u8 v 8 && !bit (u8 v 1) 2 && !bit (u8 w 1) 2
        && (u16 v 4 * 65536 + u16 v 2) % p == (u16 w 4 * 65536 + u16 w 2) % p && decide (chainLength rs 5 slot ≤ 4)

/-- A loop record (R277). -/
def loopSpec : RecSpec := fixed 512 272 [.s 0 1 (-12) 8, .top 1 1 3, .u 8 1 0 12, .rsv 9 1, .u 10 2 1024 32768, .rsv 14 2]

/-- The rules over a loop record (R272, R273, R275, R280, R282). -/
def loopExtra (rs : List Record) (slot : Nat) (v : List Byte) : Bool :=
  let k := s8 v 0
  let p := 2 ^ (16 - k).toNat
  let bead := bit (u8 v 1) 2
  let awaits := (List.range 16).any fun i => bit (u8 v (17 + 8 * i)) 0
  let when_ := if bead then u16 v 2 == 0 && u16 v 4 == 0
    else if 0 ≤ k then decide (u16 v 2 < p) && u16 v 4 == 0 else decide (u16 v 4 < 2 ^ (-k).toNat)
  when_ && (u16 v 12 == 0 || (decide (64 ≤ u16 v 12) && decide (u16 v 12 ≤ 32768) && decide (u16 v 12 ≤ p)))
    && bindingsOk v && routesOk v && innerOk rs slot v
    && (findRecord rs 0x0701 slot).isSome && (findRecord rs 0x8704 slot).isSome
    && (!awaits || (decide (k ≤ 6) && decide (u16 v 10 ≤ p)))

/-- A supervision record (R296). -/
def supervisionSpec : RecSpec := fixed 512 280 [.u 0 1 0 1, .u 2 1 0 15, .u 3 1 0 63, .u 20 1 1 64, .u 21 1 1 255, .rsv 22 2]

/-- The value words of a supervision record (R296). -/
def supervisionExtra (v : List Byte) : Bool :=
  let w := fun (o : Nat) => BitVec.ofNat 32 (u32 v o)
  (decide (u8 v 1 ≤ 15) || u8 v 1 == 0xFF) && decide (0 < mant (w 8)) && decide (0 ≤ mant (w 12)) && decide (0 ≤ mant (w 16))
    && leFp (w 16) oneWord && (List.range 16).all (fun i => decide (0 ≤ mant (w (32 + 12 * i))) && decide (0 ≤ mant (w (216 + 4 * i))))

/-- The resource of a route's target; none where it has no claim. -/
def routeResource (kind target : Nat) : Option Nat :=
  match kind with
  | 1 => some (zoneResource target)
  | 2 => some (ventSetpoint target)
  | 3 => some (channelDrive target)
  | 5 => some (ballOutput target)
  | _ => none

/-- The targets a loop's routes drive (R280): their claims name the control engine. -/
def loopUses (v : List Byte) : List Use :=
  (List.range 16).filterMap fun i =>
    (routeResource (u8 v (144 + 8 * i)) (u16 v (146 + 8 * i))).map fun r => { resource := r, need := 1 }

/-- H, beside the resource numbers of balls and the beads from 2^32 on. -/
abbrev heatTaken : Nat := 2 ^ 33

/-- The number by which a conflict of R280 names what a route takes; a bead and H have no resource number (log 18). -/
def takenResource (t : Nat) : Nat := if t < 2 ^ 32 then t else (Config.unstatedResource t).toNat

/-- What a loop's routes take for themselves: resources, the beads of GATE routes, and H (R280). -/
def routeTakes (v : List Byte) : List Nat :=
  (List.range 16).flatMap fun i =>
    let kind := u8 v (144 + 8 * i)
    let t := u16 v (146 + 8 * i)
    if kind = 4 then (List.range (u16 v (148 + 8 * i))).map fun j => 2 ^ 32 + t + j
    else if kind = 6 then [heatTaken]
    else (routeResource kind t).toList

/-- Conflicts among loop records: each against those before it, and against itself (R280). -/
def loopConflictsFrom (before : List (Nat × Nat)) : List (Nat × Record) → List Conflict
  | [] => []
  | p :: ps =>
    let ts := routeTakes p.2.value
    let dup := ts.filter fun t => decide (1 < ts.count t)
    let mine := match dup with
      | t :: _ => some (t, p.2.inst)
      | [] => before.find? fun b => ts.contains b.1
    (mine.map fun (x : Nat × Nat) => ({ resource := takenResource x.1, first := (0x0703, x.2), second := (0x0703, p.2.inst), offset := p.1 } : Conflict)).toList
      ++ loopConflictsFrom (before ++ ts.map fun t => (t, p.2.inst)) ps

/-- The output named by the heat record has route kind HEAT (R280). -/
def heatConflicts (ps : List (Nat × Record)) : List Conflict :=
  (ps.filter fun p => p.2.type == 0x8602 && u16 p.2.value 0 != 0xFFFF).filterMap fun p =>
    let slot := u16 p.2.value 0
    let bad := match findRecord (ps.map Prod.snd) 0x0703 slot with
      | none => true
      | some v => u8 v (144 + 8 * u8 p.2.value 2) != 6
    if bad then some { resource := takenResource heatTaken, first := (0x0703, slot), second := (0x8602, p.2.inst), offset := p.1 } else none

def loopConflicts (ps : List (Nat × Record)) : List Conflict :=
  loopConflictsFrom [] (ps.filter fun p => p.2.type == 0x0703) ++ heatConflicts ps

/-! ## COMMONS (R310 to R312) -/

/-- The commons record (R310). -/
def commonsSpec : RecSpec := fixed 1 2568 [.u 0 1 1 250, .u 1 1 0 64, .u 2 2 16384 57344, .rsv 4 4]

/-- The cut angle's step, and the map (R310, R312). -/
def commonsExtra (v : List Byte) : Bool :=
  u16 v 2 % 1024 == 0 && (List.range 1024).all fun b =>
    let p := u8 v (8 + 2 * b)
    let t := u8 v (9 + 2 * b)
    decide (p ≤ 250) && decide (t ≤ 250) && (t == 0 || (p != 0 && p != t))

/-- A point run (R311). -/
def runSpec : RecSpec := fixed 65536 8 [.u 0 2 1 4096, .u 2 1 1 4, .top 3 1 1, .rsv 6 2]

/-- A run stays within the points, overlaps no other, and lies in blocks this chip owns (R311, R312). -/
def runExtra (rs : List Record) (first : Nat) (v : List Byte) : Bool :=
  let n := u16 v 0
  let map := (findRecord rs 0x0801 0).getD []
  let own := u8 map 0
  decide (first + n ≤ 65536) && (u8 v 2 == 4 || u16 v 4 == 0)
    && (rs.filter fun r => r.type == 0x0802 && r.inst != first).all (fun r => decide (r.inst + u16 r.value 0 ≤ first) || decide (first + n ≤ r.inst))
    && (List.range ((first + n - 1) / 64 + 1 - first / 64)).all fun k =>
      let b := first / 64 + k
      own != 0 && (u8 map (8 + 2 * b) == own || u8 map (9 + 2 * b) == own)

/-- The run that declares a point. -/
def declaring (rs : List Record) (p : Nat) : Option Record :=
  rs.find? fun r => r.type == 0x0802 && decide (r.inst ≤ p) && decide (p < r.inst + u16 r.value 0)

/-- PUBLISH beads and the offer point against the declarations (R312). -/
def pointConflicts (ps : List (Nat × Record)) : List Conflict :=
  let rs := ps.map Prod.snd
  let conflict := fun (point : Nat) (q : Nat × Record) (bad : Record → Bool) =>
    let made := fun (first : Nat × Nat) =>
      ({ resource := 0xFFFE0000 + point, first := first, second := (q.2.type, q.2.inst), offset := q.1 } : Conflict)
    match declaring rs point with
    | none => [made (0, 0)]
    | some r => if bad r then [made (0x0802, r.inst)] else []
  ps.flatMap fun q =>
    if q.2.type = 0x8401 ∧ (beadOf q.2.value).type = 5 then conflict (u16 (beadOf q.2.value).action 0) q fun r => bit (u8 r.value 3) 0
    else if q.2.type = 0x0601 then conflict (u16 q.2.value 14) q fun r => u8 r.value 2 != 1
    else []

/-! ## 11 Ring and gate records (R357, R368) -/

def specRing : RecSpec := fixed 1 140
  ([.u 0 1 0 1, .top 1 1 5, .u 2 2 1 4094, .u 4 2 1 4094, .u 6 1 0 5, .u 7 1 0 127, .u 8 1 0 15, .u 9 1 0 15, .u 10 1 0 15, .rsv 11 1]
    ++ entries 12 4 32 [.u 0 2 0 4094, .top 2 1 3, .rsv 3 1])

/-- The VLAN rules of a ring record (R368): VIDs unique and not site_vid, and host_pvid with an entry that has HOST set. -/
def ringVlansOk (v : List Byte) : Bool :=
  let vids := ((List.range 32).map fun i => u16 v (12 + 4 * i)).filter (· != 0)
  vids.all (fun x => vids.count x == 1 && x != u16 v 2)
    && (List.range 32).any fun i => u16 v (12 + 4 * i) == u16 v 4 && bit (u8 v (14 + 4 * i)) 0

def specGates : RecSpec := fixed 3 132 ([.u 0 1 1 32, .rsv 1 3] ++ entries 4 4 32 [.rsv 3 1])

/-- The entries of a gate record. -/
def gateEnds (v : List Byte) : List Nat := (List.range (u8 v 0)).map fun i => u16 v (4 + 4 * i)

/-- Ends rise strictly to a last end of 0, which stands for 65,536, and every entry spans at least 64 tu (R357). -/
def endsOk (from_ : Nat) : List Nat → Bool
  | [] => false
  | [e] => e == 0 && decide (from_ + 64 ≤ 65536)
  | e :: es => decide (from_ + 64 ≤ e) && endsOk e es

/-- A gate record's rules (R357): its ends, class 7 open throughout, and nothing beyond count. -/
def gatesOk (v : List Byte) : Bool :=
  endsOk 0 (gateEnds v) && (List.range (u8 v 0)).all (fun i => bit (u8 v (6 + 4 * i)) 7) && allZero (v.drop (4 + 4 * u8 v 0))

/-! ## 12 Channel and filter records (R377, R399, R400) -/

/-- Nominal and data rates in bit/s, rounded down (R376). -/
def nominalRate (v : List Byte) : Nat := 80000000 / (u16 v 2 * (1 + u16 v 4 + u8 v 6))
def dataRate (v : List Byte) : Nat := 80000000 / (u8 v 8 * (1 + u8 v 9 + u8 v 10))

def specChannel : RecSpec := fixed 8 48
  ([.u 0 1 0 1, .top 1 1 5, .u 2 2 1 256, .u 4 2 2 256, .u 6 1 1 128, .u 7 1 1 128, .u 12 1 0 127, .u 13 1 1 255, .u 16 2 0 1000, .u 18 1 0 16]
    ++ [.u 19 1 1 32, .u 28 1 0 1, .u 29 1 1 16, .u 30 2 100 4700, .u 32 4 1000 100000, .u 36 4 20 50000, .u 40 4 10 50000, .rsv 44 4])

/-- Triple sampling applies in the nominal phase (R379). -/
def tripleOn (v : List Byte) : Bool := decide (u16 v 16 ≠ 0) && decide (80000000 ≤ u16 v 16 * 1000 * (u16 v 2 * (1 + u16 v 4 + u8 v 6)))

/-- A channel record's rules (R377, R399). -/
def channelOk (v : List Byte) : Bool :=
  let fd := bit (u8 v 1) 0
  let brs := bit (u8 v 1) 1
  let n := u16 v 2 * (1 + u16 v 4 + u8 v 6)
  let d := u8 v 8 * (1 + u8 v 9 + u8 v 10)
  decide (n * 10000 ≤ 80000000) && decide (80000000 ≤ n * 1000000) && decide (u8 v 7 ≤ u8 v 6) && (!tripleOn v || decide (3 ≤ u16 v 4))
    && (if brs then
          fd && decide (1 ≤ u8 v 8) && decide (u8 v 8 ≤ 32) && decide (1 ≤ u8 v 9) && decide (u8 v 9 ≤ 32) && decide (1 ≤ u8 v 10)
            && decide (u8 v 10 ≤ 16) && decide (1 ≤ u8 v 11) && decide (u8 v 11 ≤ u8 v 10) && decide (d < n) && decide (80000000 ≤ d * 5000000)
        else allZero (slice v 8 4))
    && decide (u8 v 19 + u8 v 18 ≤ 32) && decide (u32 v 40 < u32 v 36)
    && (if u16 v 20 = 0xFFFF then allZero (slice v 22 6)
        else decide (u16 v 20 ≤ 0x7F8) && u16 v 20 % 8 == 0 && (decide (u8 v 22 ≤ 2) || u8 v 22 == 0xFF) && decide (u8 v 23 ≤ 8)
          && decide (256 ≤ u16 v 26) && decide (u16 v 26 ≤ 2048))

/-- An enabled channel uses its four balls (R374). -/
def channelUses (i : Nat) (v : List Byte) : List Use :=
  if u8 v 0 = 1 then (List.range 4).map fun k => { resource := ballCan i k, need := claimFbus } else []

def specFilter : RecSpec :=
  { insts := 8, minLen := 16, maxLen := 772, unit := 12, checks := [.u 0 1 1 64, .rsv 1 3] }

/-- The entries of a filter record (R400), and host entries only with RAW set. -/
def filterOk (rs : List Record) (i : Nat) (v : List Byte) : Bool :=
  let raw := ((findRecord rs 0x0A01 i).map fun c => bit (u8 c 1) 3).getD false
  v.length == 4 + 12 * u8 v 0 && (List.range (u8 v 0)).all fun k =>
    let o := 4 + 12 * k
    let a := u8 v (o + 8)
    decide (1 ≤ a) && decide (a ≤ 3) && decide (u8 v (o + 9) < 4) && u16 v (o + 10) == 0 && (a != 2 || raw)

/-! ## 13 Role and bus records (R408, R431, R432) -/

def specRole : RecSpec := fixed 65536 40 [.u 0 1 0 7, .top 1 1 1, .u 3 1 0 7, .rsv 6 2]

/-- The role records of a list. -/
def roleRecords (rs : List Record) : List Record := rs.filter fun r => r.type == 0x0B01

/-- A role record's rules (R431): its number, its report rate, its UIDs without a gap; at most 1,024 records, 120 of them owned per bus. -/
def roleOk (rs : List Record) (i : Nat) (v : List Byte) : Bool :=
  let uids := (List.range 4).map fun k => u64 v (8 + 8 * k)
  decide (0x0100 ≤ i) && decide (i ≤ 0xFEFF) && (decide (u8 v 2 ≤ 12) || u8 v 2 == 0xFF)
    && (uids.dropWhile (· != 0)).all (· == 0)
    && decide ((roleRecords rs).length ≤ 1024)
    && decide (((roleRecords rs).filter fun r => u8 r.value 0 == u8 v 0 && !bit (u8 r.value 1) 0).length ≤ 120)

def specBus : RecSpec := fixed 8 16 [.top 0 1 2, .u 4 4 4096 1048576, .u 8 1 0 3, .u 9 1 0 7, .u 10 1 1 7, .u 11 1 1 8, .rsv 12 4]

/-- A bus that carries CFP needs a filter entry to the field protocol (R408). -/
def busOk (rs : List Record) (i : Nat) (v : List Byte) : Bool :=
  !bit (u8 v 0) 0 || ((findRecord rs 0x0A02 i).map fun f => (List.range (u8 f 0)).any fun k => u8 f (4 + 12 * k + 8) == 1).getD false

/-- FIELD bindings of a loop name roles of their bus (R431). -/
def loopRolesOk (rs : List Record) (v : List Byte) : Bool :=
  (List.range 16).all fun k =>
    let o := 16 + 8 * k
    u8 v o != 3 || roleNamed rs (some (u16 v (o + 4))) (u16 v (o + 2)) false

/-! ## 14 Bank, channel and profile records (R444, R445, R462, R463) -/

def specBank : RecSpec := fixed 5 16 [.u 0 1 0 1, .rsv 1 1, .u 2 2 100 65535, .u 4 2 100 10000, .u 6 2 100 60000, .u 8 2 20 5000, .rsv 14 2]

/-- The pairs of a bank (R462): within the bank, a below b, each channel in at most one. -/
def pairsOk (v : List Byte) : Bool :=
  let ps := (List.range 2).filterMap fun k => if u8 v (10 + 2 * k) = 0xFF ∧ u8 v (11 + 2 * k) = 0xFF then none else some (u8 v (10 + 2 * k), u8 v (11 + 2 * k))
  let all := ps.flatMap fun p => [p.1, p.2]
  ps.all (fun p => decide (p.1 < p.2) && decide (p.2 ≤ 7)) && all.all fun c => all.count c == 1

/-- A bank's own balls (R438). -/
def bankUses (i : Nat) (v : List Byte) : List Use :=
  if u8 v 0 = 1 then [{ resource := ballBank i 0, need := claimValve }, { resource := ballBank i 1, need := claimValve }] else []

def specValve : RecSpec := fixed 40 16 [.top 0 1 3, .u 1 1 0 15, .u 2 2 10 10000, .u 4 2 1 10000, .u 6 1 0 12, .rsv 7 1, .rsv 12 4]


/-- A channel's own balls, and its drive for duty requests (R438, R455). -/
def valveUses (i : Nat) (v : List Byte) : List Use :=
  (if bit (u8 v 0) 0 then [{ resource := ballValve i 0, need := claimValve }, { resource := ballValve i 1, need := claimValve }] else [])
    ++ if bit (u8 v 0) 2 then [{ resource := channelDrive i, need := 1 }] else []

def specProfile : RecSpec := fixed 16 32
  [.u 0 2 0 10000, .u 4 4 0 1000000, .u 8 4 0 4000000000, .u 12 1 20 50, .top 13 1 1, .u 18 2 10 10000, .u 20 2 0 10000, .u 24 2 5 500,
   .u 26 2 100 20000, .rsv 28 4]

/-- The channels that use a profile: by duty_profile, or by a VALVE bead, of a pair both (R445). -/
def profileChannels (rs : List Record) (p : Nat) : List Nat :=
  ((rs.filter fun r => r.type == 0x0C02 && bit (u8 r.value 0) 2 && u8 r.value 1 == p).map fun r => r.inst)
    ++ (rs.filter fun r => r.type == 0x8401 && u8 r.value 1 / 16 == 2 && u8 r.value 25 == p).flatMap fun r =>
      let c := u8 r.value 24
      c :: (if bit (u8 r.value 26) 1 then (pairIn ((findRecord rs 0x0C01 (c / 8)).getD []) c).toList else [])

/-- A profile's rules: its currents in order, and i_oc within the full scale of each channel that uses it, 250 mV over its shunt (R444, R445). -/
def profileOk (rs : List Record) (i : Nat) (v : List Byte) : Bool :=
  decide (u16 v 2 ≤ u16 v 0) && decide (1 ≤ u16 v 16) && decide (u16 v 16 < u16 v 0) && decide (u16 v 0 < u16 v 22) && decide (u16 v 22 ≤ 12000)
    && (profileChannels rs i).all fun c =>
      match findRecord rs 0x0C02 c with
      | none => true
      | some r => decide (u16 v 22 * u16 r 2 ≤ 250000)

/-! ## 15 Fan, group, curve and watchdog records (R474, R488 to R491) -/

def specFan : RecSpec := fixed 12 12 [.top 0 1 4, .u 1 1 1 4, .u 2 2 100 20000, .u 4 2 0 1000, .u 6 2 0 1000, .rsv 8 4]

/-- An enabled output uses its two balls (R469). -/
def fanUses (i : Nat) (v : List Byte) : List Use :=
  if bit (u8 v 0) 0 then [{ resource := ballFan i 0, need := claimFan }, { resource := ballFan i 1, need := claimFan }] else []

def specGroup : RecSpec := fixed 32 8 [.u 0 1 0 7, .top 1 1 2, .u 4 1 4 12, .u 5 1 2 60, .u 6 2 0 1000]


def specCurve : RecSpec := fixed 64 32 [.u 4 2 0 1000, .u 6 2 0 1000, .u 8 2 0 1000, .u 10 2 0 1000, .rsv 28 4]

/-- The skip bands of a curve: lo and hi, unused ones left out. -/
def curveBands (v : List Byte) : List (Nat × Nat) :=
  ((List.range 4).map fun k => (u16 v (12 + 4 * k), u16 v (14 + 4 * k))).filter fun b => b != (0, 0)

/-- Of two bands, one ends before the other begins. -/
def bandsApart : List (Nat × Nat) → Bool
  | [] => true
  | b :: bs => bs.all (fun c => decide (b.2 ≤ c.1) || decide (c.2 ≤ b.1)) && bandsApart bs

/-- A curve's rules (R474, R490). -/
def curveOk (i : Nat) (v : List Byte) : Bool :=
  (decide (i ≤ 11) || (decide (32 ≤ i) && decide (i ≤ 63))) && decide (u16 v 4 ≤ u16 v 6) && (curveBands v).all (fun b => decide (b.1 < b.2))
    && bandsApart (curveBands v)

def specFanWatchdog : RecSpec := fixed 1 4 [.rsv 1 3]

/-! ## 16 Vent channel and limits records (R515, R516) -/

def specVent : RecSpec := fixed 12 36 [.u 0 1 0 3, .top 1 1 5, .top 4 1 2, .rsv 7 1, .rsv 32 4]

/-- A field in its range where the mode uses it, else zero (R515). -/
def usedField (used : Bool) (x lo hi : Nat) : Bool := if used then decide (lo ≤ x) && decide (x ≤ hi) else x == 0

/-- A field of the positioner: in its range, or zero where there is no positioner (log 35). -/
def ventDriveField (v : List Byte) (x lo hi : Nat) : Bool :=
  if u8 v 0 = 0 then x == 0 else (decide (lo ≤ x) && decide (x ≤ hi)) || (!bit (u8 v 1) 1 && x == 0)

/-- The fields that each mode uses (R497 to R507, R512, R515; log 35). -/
def ventOk (v : List Byte) : Bool :=
  let m := u8 v 0
  let f := u8 v 1
  let on := m != 0
  let counts := m == 1 || m == 2
  (counts || !bit f 0) && (on || !bit f 1) && (m == 3 || (!bit f 2 && !bit f 3)) && (m == 1 || !bit f 4)
    && usedField on (u8 v 2) 1 16 && usedField (m == 1) (u8 v 3) 0 3 && usedField (m == 1) (u8 v 4) 0 3
    && usedField (m == 3) (u8 v 5) 8 32 && usedField (m == 3) (u8 v 6) 0 6 && usedField (m == 3) (u16 v 8) 100 2000
    && usedField counts (u16 v 10) 10 10000
    && (on || u32 v 12 == 0) && (if on then u32 v 16 != 0 else u32 v 16 == 0) && (m == 1 || u32 v 20 == 0)
    && ventDriveField v (u8 v 24) 0 39 && ventDriveField v (u8 v 25) 0 39 && ventDriveField v (u16 v 26) 0 10000
    && ventDriveField v (u16 v 28) 50 60000 && ventDriveField v (u16 v 30) 1 3600
    && (!bit f 1 || u8 v 24 != u8 v 25)

/-- A channel's three balls, and the two outputs of its positioner (R496, R512, R515). -/
def ventUses (i : Nat) (v : List Byte) : List Use :=
  (if u8 v 0 = 0 then [] else (List.range 3).map fun k => { resource := ballVent i k, need := claimVent })
    ++ if bit (u8 v 1) 1 then [{ resource := ballOutput (u8 v 24), need := claimVent }, { resource := ballOutput (u8 v 25), need := claimVent }] else []

def specVentLimits : RecSpec := fixed 12 8 [.u 0 2 0 10000, .u 2 2 0 10000, .u 4 2 1 2000]

/-! ## 17 Sensor channel, excitation and metering records (R524, R527, R542 to R544) -/

def specSense : RecSpec := fixed 24 24 [.u 0 1 0 2, .u 1 1 0 3, .u 2 1 0 6, .top 3 1 1, .u 4 1 0 7, .rsv 7 1, .rsv 20 4]

/-- A channel's rules: the pair of DIFF, and an RTD's source, reference channel, period and filter (R524, R527, R542). -/
def senseOk (rs : List Record) (i : Nat) (v : List Byte) : Bool :=
  let mode := fun (c : Nat) => ((findRecord rs 0x0F01 c).map fun r => u8 r 0).getD 0
  let kind := u8 v 1
  let source := u8 v 5
  let rtds := rs.filter fun r => r.type == 0x0F01 && u8 r.value 1 == 2 && u8 r.value 5 == source
  let ref := (findRecord rs 0x0F01 (u8 v 6)).getD []
  (u8 v 0 != 2 || (i % 2 == 0 && mode (i + 1) == 0))
    && (if kind ≥ 2 then decide (source ≤ 3) else source == 0xFF)
    && (if kind = 2 then decide (u8 v 6 ≤ 23) else u8 v 6 == 0xFF)
    && (if kind = 2 then decide (10000 ≤ u32 v 8) && decide (u32 v 8 ≤ 10000000) else kind == 3 || u32 v 8 == 0)
    && (kind != 2 || (ref != [] && u8 ref 0 != 0 && u8 ref 1 == 3 && u8 ref 5 == source && u8 ref 2 == u8 v 2 && u8 ref 3 == u8 v 3
          && decide (rtds.length ≤ 4)))

/-- A channel's balls, its pair's in DIFF, and the reference balls (R522, R524). -/
def senseUses (i : Nat) (v : List Byte) : List Use :=
  if u8 v 0 = 0 then []
  else ([ballSensor i] ++ (if u8 v 0 = 2 then [ballSensor (i + 1)] else []) ++ [ballVref 0, ballVref 1]).map fun b => { resource := b, need := claimSense }

def specExc : RecSpec := fixed 4 4 [.u 0 1 0 6, .rsv 1 3]


def specMeter : RecSpec := fixed 1 32 [.s 24 2 (-2048) 2047, .s 26 2 (-2048) 2047, .s 28 2 (-2048) 2047, .top 30 1 6, .rsv 31 1]

/-- Each enabled metering input uses its ball (R522). -/
def meterUses (v : List Byte) : List Use :=
  ((List.range 6).filter fun k => bit (u8 v 30) k).map fun k => { resource := ballMeter k, need := claimSense }

/-! ## 18 Panel, binding and reset records (R549, R564 to R566) -/

/-- The 24 balls of the panel (R549). -/
def panelBalls : List Use := (List.range 24).map fun k => { resource := ballOf .panel k, need := claimPanel }

def specPanel : RecSpec := fixed 1 12 [.top 0 1 4, .u 1 1 2 20, .u 2 2 300 10000, .rsv 8 4]



def specBinding : RecSpec := fixed 16 4 [.u 0 1 0 63, .u 1 1 1 3, .u 2 1 0 1]

/-- A binding's target, and no other binding with its key and edge (R565). -/
def panelBindingOk (rs : List Record) (i : Nat) (v : List Byte) : Bool :=
  decide (u8 v 3 ≤ if u8 v 2 = 0 then 15 else 3) && !rs.any fun r => r.type == 0x1002 && r.inst != i && r.value.take 2 == v.take 2

def specReset : RecSpec := fixed 2 8 [.u 0 1 1 2, .u 1 1 1 3, .u 5 1 2 30, .rsv 6 2]

/-- The keys a reset record names (R566). -/
def resetKeys (v : List Byte) : List Nat := (List.range (u8 v 1)).map fun k => u8 v (2 + k)

/-- Its keys are keys, different ones, with 0xFF after them; and no other record has the same set (R566). -/
def resetOk (rs : List Record) (i : Nat) (v : List Byte) : Bool :=
  let ks := resetKeys v
  ks.all (fun k => decide (k ≤ 63) && ks.count k == 1) && ((List.range 3).all fun k => decide (k < u8 v 1) || u8 v (2 + k) == 0xFF)
    && !rs.any fun r => r.type == 0x1003 && r.inst != i && (resetKeys r.value).length == ks.length && ks.all (resetKeys r.value).contains

/-! ## 19 Trim record (R587) -/

def specTrim : RecSpec := fixed 1 8 [.s 0 2 (-4000) 8500, .u 2 2 0 200, .s 4 2 (-30000) 30000, .rsv 6 2]

/-! ## 20 Snapshot record (R616) -/

def specSnap : RecSpec :=
  fixed 1 68 ([.top 0 1 4, .top 1 1 4, .rsv 3 1] ++ entries 4 8 8 [.u 4 1 0 3, .top 5 1 1, .rsv 6 2])

/-! ## 21 Start record (R639) -/

def specStart : RecSpec := fixed 1 4 [.top 0 1 1, .rsv 1 3]

/-! ## PIN (R693, R694) -/

/-- A claim record (R693). -/
def claimSpec : RecSpec := fixed 65536 4 [.rsv 1 3]

/-! ## Rules over the whole set of records -/

/-- Conflicts between two records, which no claim settles (R162, R163, R280). -/
def pairConflicts (ps : List (Nat × Record)) : List Conflict := loopConflicts ps ++ beadConflicts ps ++ pointConflicts ps

/-- The engine load of a set of records stays within its limit (R260). -/
def stackOk (rs : List Record) : Bool := loadOk rs

/-- Resources that a block must claim (R694): the VSENSE and ISENSE balls. -/
def requiredResources : List Nat := (List.range 6).map ballMeter

/-! ## All record types -/

/-- What a record type allows; none for a type that no class defines. -/
def specOf : Nat → Option RecSpec
  | 0x0201 => some swathSpec
  | 0x0202 => some triggerSpec
  | 0x0301 => some timebaseSpec
  | 0x0601 => some reckSpec
  | 0x0701 => some programSpec
  | 0x0703 => some loopSpec
  | 0x0801 => some commonsSpec
  | 0x0802 => some runSpec
  | 0x0901 => some specRing
  | 0x0A01 => some specChannel
  | 0x0A02 => some specFilter
  | 0x0B01 => some specRole
  | 0x0B02 => some specBus
  | 0x0C01 => some specBank
  | 0x0C02 => some specValve
  | 0x0D01 => some specFan
  | 0x0D02 => some specGroup
  | 0x0D04 => some specFanWatchdog
  | 0x0E01 => some specVent
  | 0x0F01 => some specSense
  | 0x0F02 => some specExc
  | 0x0F03 => some specMeter
  | 0x1001 => some specPanel
  | 0x1002 => some specBinding
  | 0x1003 => some specReset
  | 0x1101 => some specTrim
  | 0x1401 => some specStart
  | 0x1701 => some claimSpec
  | 0x8401 => some beadSpec
  | 0x8501 => some carrySpec
  | 0x8602 => some heatSpec
  | 0x8702 => some constantsSpec
  | 0x8704 => some supervisionSpec
  | 0x8902 => some specGates
  | 0x8C03 => some specProfile
  | 0x8D03 => some specCurve
  | 0x8E02 => some specVentLimits
  | 0x9301 => some specSnap
  | _ => none

/-- The rules of a record that reach over its own fields or to other records (R89 step 6). -/
def extraOk (rs : List Record) (t i : Nat) (v : List Byte) : Bool :=
  match t with
  | 0x0202 => triggerExtra rs v
  | 0x0301 => ((u8 v 0 == 50 || u8 v 0 == 60))
  | 0x0701 => programExtra rs i v
  | 0x0703 => loopExtra rs i v && loopRolesOk rs v
  | 0x0801 => commonsExtra v
  | 0x0802 => runExtra rs i v
  | 0x0901 => ringVlansOk v
  | 0x0A01 => channelOk v
  | 0x0A02 => filterOk rs i v
  | 0x0B01 => roleOk rs i v
  | 0x0B02 => busOk rs i v
  | 0x0C01 => pairsOk v
  | 0x0C02 => ((decide (u16 v 10 < 2 ^ u8 v 6) && (bit (u8 v 0) 2 || (u8 v 1 == 0 && u8 v 6 == 0))))
  | 0x0D02 => ((decide (u16 v 2 / 256 = 3) && roleNamed rs (some (u8 v 0)) (u16 v 2) false))
  | 0x0E01 => ventOk v
  | 0x0F01 => senseOk rs i v
  | 0x1001 => (((List.range 4).all fun k => [0, 1, 2, 4].contains (u8 v (4 + k))))
  | 0x1002 => panelBindingOk rs i v
  | 0x1003 => resetOk rs i v
  | 0x1701 => (claimAccepted i (u8 v 0))
  | 0x8401 => beadExtra rs v
  | 0x8602 => (((decide (u16 v 0 ≤ 511) || u16 v 0 == 0xFFFF) && decide (u32 v 8 ≤ u32 v 4)))
  | 0x8702 => constantsExtra rs i v
  | 0x8704 => supervisionExtra v
  | 0x8902 => gatesOk v
  | 0x8C03 => profileOk rs i v
  | 0x8D03 => curveOk i v
  | 0x8E02 => ((decide (u16 v 0 ≤ u16 v 2) && decide (u16 v 6 ≤ u16 v 4)))
  | 0x9301 => ((decide (u8 v 2 ≤ 3) || u8 v 2 == 0xFF))
  | _ => true

/-- The resources a record uses (R89 step 7). -/
def usesOf (rs : List Record) (t i : Nat) (v : List Byte) : List Use :=
  match t with
  | 0x0703 => loopUses v
  | 0x0A01 => channelUses i v
  | 0x0C01 => bankUses i v
  | 0x0C02 => valveUses i v
  | 0x0D01 => fanUses i v
  | 0x0E01 => ventUses i v
  | 0x0F01 => senseUses i v
  | 0x0F02 => (if u8 v 0 = 0 then [] else [{ resource := ballExc i, need := claimSense }])
  | 0x0F03 => meterUses v
  | 0x1001 => panelBalls
  | 0x8401 => beadUses v
  | _ => []

end Sys2Proof.Machine
end

