-- ==== Sys2Proof/Machine/Validate.lean ====
section
/-! DEFINITION. Validation of a base image (R89, R90) and of a swath (R93). -/

namespace Sys2Proof.Machine

/-! ## Checks of records -/

/-- The parsed records of an image, each with its offset. -/
abbrev Placed := List (Nat × Record)

/-- The offset of the first record whose key does not lie above the one before it (R89 step 5). -/
def outOfOrder : Placed → Option Nat
  | a :: b :: rs => if a.2.key < b.2.key then outOfOrder (b :: rs) else some b.1
  | _ => none

/-- The offset of the first record of a run of bytes with a reserved header field or padding that is not zero; o is the offset of the run (R85). -/
def badPadding (o : Nat) (bs : List Byte) (ps : Placed) : Option Nat :=
  (ps.find? fun p =>
    let n := p.2.value.length
    u16 bs (p.1 - o + 6) != 0 || !allZero (slice bs (p.1 - o + 8 + n) (padded n - n))).map Prod.fst

/-- A record's type is defined, and its reserved fields are zero when its length is one the type allows (R89 step 5). -/
def recordDefined (r : Record) : Bool :=
  match specOf r.type with
  | none => false
  | some sp => sp.checks.all fun c => c.reservedOk r.value

/-- Instance, length, fields and rules of a value (R89 step 6). -/
def recordInRange (rs : List Record) (r : Record) : Bool :=
  match specOf r.type with
  | none => false
  | some sp =>
    decide (r.inst < sp.insts) && decide (sp.minLen ≤ r.value.length) && decide (r.value.length ≤ sp.maxLen)
      && (r.value.length - sp.minLen) % sp.unit == 0 && sp.checks.all (fun c => c.rangeOk r.value)
      && extraOk rs r.type r.inst r.value

/-- The first claim of a resource: its claim record, or zero without one (R90, R695). -/
def claimKey (rs : List Record) (r : Nat) : Nat × Nat := if (findRecord rs 0x1701 r).isSome then (0x1701, r) else (0, 0)

/-- Uses of a record that its resource's claimant does not name. -/
def badUses (rs : List Record) (p : Nat × Record) : List Conflict :=
  ((usesOf rs p.2.type p.2.inst p.2.value).filter fun u => !claimNames (claimIn rs u.resource) u.need).map fun u =>
    { resource := u.resource, first := claimKey rs u.resource, second := (p.2.type, p.2.inst), offset := p.1 }

/-- Required resources that NONE claims (R694, R695). -/
def missingRequired (rs : List Record) : List Conflict :=
  (requiredResources.filter fun r => claimIn rs r == 0).map fun r =>
    { resource := r, first := (0, 0), second := (0x1701, r), offset := 0 }

/-- Conflicts of step 7, those of the earliest second record first. -/
def conflicts (ps : Placed) : List Conflict :=
  let rs := ps.map Prod.snd
  missingRequired rs ++ ps.flatMap (badUses rs) ++ pairConflicts ps

/-! ## Swath checks (R93) -/

/-- Records with the values of a swath in place of the base's (R94). -/
def overlay (w : List Record) (ps : Placed) : Placed :=
  ps.map fun p => (p.1, { p.2 with value := (findRecord w p.2.type p.2.inst).getD p.2.value })

/-- A check's outcome: 0, or the status, offset and conflict that CFG.REPORT shows. -/
structure Outcome where
  step : Nat := 0
  status : Nat := 0
  offset : Nat := 0
  conflict : Option Conflict := none
deriving DecidableEq, Repr

def passed : Outcome := {}
def refused (step status offset : Nat) : Outcome := { step := step, status := status, offset := offset }
def inConflict (step : Nat) (c : Conflict) : Outcome := { step := step, status := 7, offset := c.offset, conflict := some c }

/-- Header fields of a swath within range (R92, R93): for which number, with which base hash. -/
def swathHeaderOk (bs : List Byte) (number : Nat) (hash : List Byte) : Bool :=
  decide (u32 bs 0 = 0x53574743) && u8 bs 4 == number && decide (u8 bs 4 ≤ 15) && decide (u8 bs 5 ≤ 3)
    && decide (64 ≤ u16 bs 6) && decide (u16 bs 6 ≤ 4096) && decide (u16 bs 6 ≤ bs.length)
    && allZero (slice bs 26 6) && slice bs 32 32 == hash

/-- The offset of the first record of a swath that breaks a check other than that of the last row of R93, its keys' order first. -/
def badSwathRecord (base : Placed) (bs : List Byte) (ps : Placed) : Option Nat :=
  let rs := base.map Prod.snd
  let after := (overlay (ps.map Prod.snd) base).map Prod.snd
  (outOfOrder ps <|> badPadding 64 (slice bs 64 (u16 bs 6 - 64)) ps <|>
    (ps.find? fun p =>
      (match findRecord rs p.2.type p.2.inst with
       | none => true
       | some v => v.length != p.2.value.length)
        || !typeOvl p.2.type || !recordDefined p.2 || !recordInRange after p.2).map Prod.fst)

/-- Every value of the base with a swath applied lies within its ranges (R93). -/
def overlaidOk (base : Placed) (w : List Record) : Bool :=
  let after := (overlay w base).map Prod.snd
  after.all (recordInRange after)

/-- The first conflict of the base under a swath, alone or above one other on a lower level (R93). -/
def swathConflict (ps : Placed) (w : Swath) (others : List Swath) : Option Conflict :=
  ([ps] ++ ((others.filter fun o => decide (o.level < w.level)).map fun o => overlay o.records ps)).findSome? fun b =>
    (conflicts (overlay w.records b)).head?

/-- Every stack that swaths can form: at each level none, or one of that level (R95). -/
def stacksOf (ws : List Swath) : List (List Swath) :=
  [0, 1, 2, 3].foldl (fun sts l => sts.flatMap fun st => st :: (ws.filter fun w => w.level == l).map fun w => st ++ [w]) [[]]

/-- The engine load stays within its limit under every stack of a swath and the others (R260). -/
def swathStacksOk (ps : Placed) (w : Swath) (others : List Swath) : Bool :=
  (stacksOf (w :: others)).all fun st => stackOk ((st.foldl (fun b x => overlay x.records b) ps).map Prod.snd)

/-- The swath checks of R93. A fault in no record has a free offset; one in a record of a carried swath has the offset of the record that carries it (log 18). -/
def checkSwath (base : Placed) (others : List Swath) (number : Nat) (hash bs : List Byte) (carrier : Option Nat) : Outcome :=
  let loose := carrier.getD (Config.faultOffset bs).toNat
  match parseRecords 64 (slice bs 64 (u16 bs 6 - 64)), parseSwath carrier.isSome bs with
  | some ps, some w =>
    if swathHeaderOk bs number hash = false ∨ u16 bs 24 ≠ ps.length then refused 8 6 loose
    else
      match badSwathRecord base bs ps with
      | some o => refused 8 6 (carrier.getD o)
      | none =>
        if overlaidOk base w.records = false ∨ swathStacksOk base w (others.filter fun o => o.number != number) = false then
          refused 8 6 loose
        else
          match swathConflict base w (others.filter fun o => o.number != number) with
          | some c => inConflict 8 c
          | none => passed
  | _, _ => refused 8 6 loose

/-- Swaths carried in an image. -/
def carriedSwaths (rs : List Record) : List Swath :=
  (rs.filter fun r => r.type == 0x0201).filterMap fun r => parseSwath true r.value

/-- Step 8: the first carried swath that fails (R89). -/
def checkCarried (ps : Placed) : Outcome :=
  let others := carriedSwaths (ps.map Prod.snd)
  ((ps.filter fun p => p.2.type == 0x0201).map fun p => checkSwath ps others p.2.inst (zeros 32) p.2.value (some p.1)).find? (fun o => o.step != 0)
    |>.getD passed

/-! ## A base image (R84, R85, R89) -/

/-- The image in the bytes of a slot. -/
def imageOf (bs : List Byte) (ps : Placed) : BaseImage :=
  let n := u32 bs 8
  { flags := u16 bs 6 % 4, version := u32 bs 12, rollbackFloor := u32 bs 16, boundUid := u64 bs 20, records := ps.map Prod.snd,
    key := u8 bs (n + 5), hash := sha256 (bs.take n) }

/-- The offset of the first record that breaks step 5: order, reserved header field or padding, type or reserved field of the value. -/
def badForm (bs : List Byte) (ps : Placed) : Option Nat :=
  outOfOrder ps <|> badPadding 0 bs ps <|> (ps.find? fun p => !recordDefined p.2).map Prod.fst

/-- Steps 5 to 8 over the records of an image. The offset of a fault in no record is free (log 18). -/
def checkRecords (bs : List Byte) (ps : Placed) (headerReserved : Bool) : Outcome :=
  let rs := ps.map Prod.snd
  let loose := (Config.faultOffset bs).toNat
  if headerReserved = false then refused 5 6 loose
  else
    match badForm bs ps with
    | some o => refused 5 6 o
    | none =>
      match ps.find? fun p => !recordInRange rs p.2 with
      | some p => refused 6 6 p.1
      | none =>
        if stackOk rs = false then refused 6 6 loose
        else
          match conflicts ps with
          | c :: _ => inConflict 7 c
          | [] => checkCarried ps

/-- Validation of a slot's image (R89): the outcome, and the image. A damaged image fails its signature (R647). -/
def validateImage (s : State) (x : ImageSlot) : Outcome × BaseImage :=
  let bs := x.bytes
  let n := u32 bs 8
  let t := bs.drop n
  let loose := (Config.faultOffset bs).toNat
  match parseRecords 32 (slice bs 32 (n - 32)) with
  | none => (refused 1 6 loose, {})
  | some ps =>
    let im := imageOf bs ps
    if u32 bs 0 ≠ 0x4C444743 ∨ u16 bs 4 ≠ 1 ∨ n < 32 ∨ n + 7868 > 262144 ∨ n + 7868 > bs.length ∨ u32 t 0 ≠ 0x53474743
        ∨ u16 bs 28 ≠ ps.length then (refused 1 6 loose, im)
    else
      let slot := fget {} s.sec.configs (u8 t 5)
      if u8 t 4 ≠ 1 ∨ u8 t 5 > 1 ∨ u32 t 8 ≠ 7856 ∨ slot.set = false ∨ x.damaged
          ∨ Config.verifies 2 slot.key (bs.take n) (slice t 12 7856) = false then (refused 2 0x0C loose, im)
      else if im.version < s.sec.cfgCounter then (refused 3 0x0D loose, im)
      else if im.boundUid ≠ 0 ∧ im.boundUid ≠ ownUid then (refused 4 5 loose, im)
      else
        (checkRecords bs ps (decide (u16 bs 6 < 4) && decide (u16 bs 30 = 0) && decide (u16 t 6 = 0)), im)

/-- What CFG.REPORT keeps of an outcome (R106, R107). -/
def Outcome.report (o : Outcome) : Report :=
  match o.conflict with
  | none => { step := o.step, status := o.status, offset := o.offset }
  | some c =>
    { step := o.step, status := o.status, offset := o.offset, type1 := c.first.1, inst1 := c.first.2, type2 := c.second.1,
      inst2 := c.second.2, resource := c.resource }

/-- The answer an outcome gives (R89, R90). -/
def Outcome.answer (o : Outcome) : Answer :=
  match o.conflict with
  | none => bad o.status
  | some c => { status := 7, payload := conflictPayload c.resource c.first.1 c.first.2 c.second.1 c.second.2 c.offset }

end Sys2Proof.Machine
end

