-- ==== Sys2Proof/Machine/Configuration.lean ====
section
/-! DEFINITION. Chapter 03: the CFG commands, the end of a validation, and what a rod boundary does to the stack and the base. -/

namespace Sys2Proof.Machine

/-! ## The active base and its swaths -/

/-- The records of a base with their offsets in its image (R84, R85). -/
def placeRecords : Nat → List Record → Placed
  | _, [] => []
  | o, r :: rs => (o, r) :: placeRecords (o + 8 + padded r.value.length) rs

def BaseImage.placed (b : BaseImage) : Placed := placeRecords 32 b.records

/-- Every defined swath, carried or loaded (R96). -/
def Cfg.defined (c : Cfg) : List Swath := (List.range 16).filterMap c.swath

/-- A swath is carried in the active base. -/
def Cfg.carried (c : Cfg) (n : Nat) : Bool := (c.baseValue 0x0201 n).isSome

def Cfg.inStack (c : Cfg) (n : Nat) : Bool := c.stack.contains (some n)

/-- Level from which a key's value in force comes; none for the base (R95, R106). -/
def Cfg.levelOf (c : Cfg) (t i : Nat) : Option Nat :=
  if typeOvl t then
    [3, 2, 1, 0].find? fun l =>
      match c.stack.getD l none with
      | none => false
      | some n =>
        match c.swath n with
        | none => false
        | some w => (findRecord w.records t i).isSome
  else none

/-! ## CFG commands (R106 to R109) -/

/-- Code of an inactive slot's state (R106); a partly written slot counts as empty, as it is never used (R59). -/
def SlotState.code : SlotState → Nat
  | .empty | .partly => 0
  | .written => 1
  | .validated => 2

/-- Version in a slot's header; 0 where there is no image. -/
def slotVersion (x : ImageSlot) : Nat := if x.state.code = 0 then 0 else u32 x.bytes 12

def maskOf (p : Nat → Bool) : Nat := ((List.range 16).map fun i => flag (p i) i).sum

/-- A stack level as a byte: swath number or 0xFF (R106). -/
def levelByte (l : Option Nat) : Nat := l.getD 0xFF

def execCfgInfo (mbx : Nat) (s : State) : Host.Outcome State Fault Refusal :=
  .next (serveRead 0x0201 1 (· == 0) (fun _ s =>
    ok (le 1 s.cfg.active ++ le 1 (s.cfgSlot s.inactiveCfg).state.code ++ zeros 2 ++ le 4 (slotVersion s.cfg.slotA)
      ++ le 4 (slotVersion s.cfg.slotB) ++ (s.cfg.stack.flatMap fun l => le 1 (levelByte l))
      ++ le 2 (maskOf fun i => (s.cfg.swath i).isSome) ++ le 2 (maskOf fun i => s.cfg.loaded.any fun w => w.number == i)
      ++ le 4 s.sec.cfgCounter)) mbx s)

/-- Start a validation of the inactive slot (R91): what it finds, an empty slot too, is its final status (R106, R107). -/
def startValidation (c : Call) (activate : Bool) (s : State) : State × Answer :=
  if targetBusy s 2 then (s, bad 2)
  else
    let r := defer c s.inactiveCfg s
    let v : Validation := { slot := s.inactiveCfg, activate := activate, job := s.mail.jobs }
    if r.2.status = 1 then ({ r.1 with cfg := { r.1.cfg with validating := some v } }, r.2) else r

def execCfgValidate (mbx : Nat) (s : State) : Host.Outcome State Fault Refusal :=
  .next (serve 0x0202 2 (· == 0) (fun c s => startValidation c false s) mbx s)

def execCfgActivate (mbx : Nat) (s : State) : Host.Outcome State Fault Refusal :=
  .next (serve 0x0203 3 (· == 0) (fun c s => startValidation c true s) mbx s)

/-- The claim records of two images are identical (R103). -/
def sameClaims (a b : List Record) : Bool :=
  (a.filter fun r => typeClass r.type == 0x17) == (b.filter fun r => typeClass r.type == 0x17)

/-- A validated image is staged: claim-preserving for the next boundary; else the chip restarts at the second boundary after the completion has been placed, which then names that boundary (R103; `noteRestart`). -/
def stageActivation (im : BaseImage) (v : Validation) (s : State) : State :=
  let keep := match s.cfg.base with
    | none => false
    | some b => sameClaims b.records im.records
  let a := ok (le 4 im.version ++ le 1 (flag keep 0) ++ zeros 3 ++ cycle64 (s.cycle + 1))
  let s1 := if keep then { s with cfg := { s.cfg with nextBase := some im } }
            else { s with cfg := { s.cfg with restartJob := some v.job } }
  complete v.job a s1

/-- CONFIG_VALIDATION_COMPLETE (R89, R103, R105, R107); outside running mode CFG.ACTIVATE completes NOT_READY (R625). -/
def execConfigValidationComplete (s : State) : Host.Outcome State Fault Refusal :=
  match s.cfg.validating with
  | none => .next s
  | some v =>
    let x := s.cfgSlot v.slot
    let (o, im) := validateImage s x
    if x.state.code = 0 then .next (complete v.job (bad 8) { s with cfg := { s.cfg with validating := none } })
    else
    let s1 := { s with cfg := { s.cfg with validating := none, report := some o.report } }
    if o.step = 0 then
      let s2 := s1.setCfgSlot v.slot { x with state := .validated }
      if v.activate ∧ s.hif.mode ≠ .running then .next (complete v.job (bad 8) s2)
      else if v.activate then .next (stageActivation im v s2) else .next (complete v.job (ok []) s2)
    else
      .next (complete v.job o.answer
        (raise 0x0205 [v.slot, o.step, o.status, o.offset] s1))

def execCfgReport (mbx : Nat) (s : State) : Host.Outcome State Fault Refusal :=
  .next (serveRead 0x0204 1 (· == 0) (fun _ s =>
    match s.cfg.report with
    | none => bad 8
    | some r =>
      ok (le 1 r.step ++ zeros 1 ++ le 2 r.status ++ le 4 r.offset ++ le 2 r.type1 ++ le 2 r.inst1 ++ le 2 r.type2 ++ le 2 r.inst2
        ++ le 4 r.resource)) mbx s)

def execCfgRead (mbx : Nat) (s : State) : Host.Outcome State Fault Refusal :=
  .next (serveRead 0x0205 1 (· == 8) (fun c s =>
    let src := u8 c.pay 0
    let o := u16 c.pay 2
    let t := u16 c.pay 4
    let i := u16 c.pay 6
    let v := if src = 0 then s.cfg.baseValue t i else s.cfg.value t i
    match v with
    | none => bad 6
    | some v =>
      if src > 1 ∨ u8 c.pay 1 ≠ 0 ∨ (v.length ≤ o ∧ ¬(o = 0 ∧ v.length = 0)) then bad 6
      else
        let l := if src = 0 then none else s.cfg.levelOf t i
        ok (le 2 v.length ++ le 1 (levelByte l) ++ zeros 1 ++ slice v o 1004)) mbx s)

/-- Check and load the swath in the staging area (R93, R96, R108). -/
def loadSwath (c : Call) (b : BaseImage) (k : Claim) (s : State) : State × Answer :=
  let n := u8 c.pay 0
  let o := checkSwath b.placed s.cfg.defined n b.hash k.data none
  let s1 := { s with cfg := { s.cfg with report := some o.report } }
  if o.step = 0 then
    match parseSwath false k.data with
    | none => (s1, bad 6)
    | some w => ({ s1 with cfg := { s1.cfg with loaded := (s1.cfg.loaded.filter fun x => x.number != n) ++ [w] } }, ok [])
  else (raise 0x0205 [n, o.step, o.status, o.offset] s1, o.answer)

/-- CFG.SWATH_LOAD (R93, R96, R108). DEDUCED, log 19: a staging area that is not complete is never used (R59), and gives BAD_ARGUMENT. -/
def execCfgSwathLoad (mbx : Nat) (s : State) : Host.Outcome State Fault Refusal :=
  .next (serve 0x0206 2 (· == 4) (fun c s =>
    let n := u8 c.pay 0
    match s.cfg.base, s.hif.claim with
    | some b, some k =>
      if holdsClaim s c = false ∨ k.target ≠ 3 ∨ bit b.flags 1 = false ∨ s.cfg.carried n then (s, bad 5)
      else if n > 15 ∨ allZero (slice c.pay 1 3) = false then (s, bad 6)
      else if s.cfg.inStack n then (s, bad 2)
      else if claimComplete s k = false then (s, bad 6)
      else loadSwath c b k s
    | _, _ => (s, bad 5)) mbx s)

def execCfgSwathSet (mbx : Nat) (s : State) : Host.Outcome State Fault Refusal :=
  .next (serve 0x0207 2 (· == 4) (fun c s =>
    let n := u8 c.pay 0
    match s.cfg.swath n with
    | none => (s, bad 6)
    | some w =>
      if allZero (slice c.pay 1 3) then
        (stageSet n 3 c.req.hdr.tag s, ok (le 1 w.level ++ zeros 7 ++ cycle64 s.stageBoundary))
      else (s, bad 6)) mbx s)

def execCfgSwathClear (mbx : Nat) (s : State) : Host.Outcome State Fault Refusal :=
  .next (serve 0x0208 2 (· == 4) (fun c s =>
    let l := u8 c.pay 0
    if l > 3 ∨ allZero (slice c.pay 1 3) = false then (s, bad 6)
    else (stageSwath l none 3 c.req.hdr.tag s, ok (zeros 8 ++ cycle64 s.stageBoundary))) mbx s)

def execCfgSwathRead (mbx : Nat) (s : State) : Host.Outcome State Fault Refusal :=
  .next (serveRead 0x0209 1 (· == 4) (fun c s =>
    match s.cfg.swath (u8 c.pay 0) with
    | none => bad 6
    | some w => if allZero (slice c.pay 1 3) then ok w.header else bad 6) mbx s)

def execCfgSwathDelete (mbx : Nat) (s : State) : Host.Outcome State Fault Refusal :=
  .next (serve 0x020A 2 (· == 4) (fun c s =>
    let n := u8 c.pay 0
    if allZero (slice c.pay 1 3) = false ∨ s.cfg.carried n ∨ (s.cfg.loaded.any fun w => w.number == n) = false then (s, bad 6)
    else if s.cfg.inStack n then
      (s, { status := 7, payload := conflictPayload 0xFFFFFFFF 0x0201 (s.cfg.stack.findIdx (· == some n)) 0 0 0 })
    else ({ s with cfg := { s.cfg with loaded := s.cfg.loaded.filter fun w => w.number != n } }, ok [])) mbx s)

/-! ## At the boundary (R97 to R104) -/

/-- Whether a staged change is the last one of its level in a list that follows it. -/
def supersededBy (x : Staged) (later : List Staged) : Bool := later.any fun y => y.level == x.level

/-- One change that stands: the level takes the swath, and the event records it when the stack changes (R99, R105). -/
def applyOne (x : Staged) (s : State) : State :=
  let valid := match x.swath with
    | none => true
    | some n => (s.cfg.swath n).isSome
  if valid && decide (s.cfg.stack.getD x.level none ≠ x.swath) then
    raise 0x0201 [x.level, levelByte x.swath, x.source, x.number]
      { s with cfg := { s.cfg with stack := s.cfg.stack.set x.level x.swath } }
  else s

/-- The changes of a boundary in the order of staging: the last one of a level stands, the earlier ones are superseded (R99). -/
def applyStagedFrom : List Staged → State → State
  | [], s => s
  | x :: xs, s =>
    applyStagedFrom xs
      (if supersededBy x xs then raise 0x0202 [x.level, levelByte x.swath, x.source, low32 x.boundary] s else applyOne x s)

/-- A staged set acts on the level that the swath's header names now (R95): the swath may have been loaded anew since. -/
def relevel (s : State) (x : Staged) : Staged :=
  match x.swath with
  | none => x
  | some n =>
    match s.cfg.swath n with
    | none => x
    | some w => { x with level := w.level }

/-- Step 2 of R19 for swaths: the changes staged for this boundary (R97); none in fallow mode (R102). -/
def applyStaged (s : State) : State :=
  if s.inFallow then s
  else
    let due := (s.cfg.staged.filter fun x => decide (x.boundary ≤ s.cycle)).map (relevel s)
    applyStagedFrom due { s with cfg := { s.cfg with staged := s.cfg.staged.filter fun x => decide (s.cycle < x.boundary) } }

/-- A level of the stack against a new base: a swath that no longer exists at that level leaves it empty (R104). -/
def recheckLevel (l : Nat) (s : State) : State :=
  match s.cfg.stack.getD l none with
  | none => s
  | some n =>
    let stays := match s.cfg.swath n with
      | none => false
      | some w => w.level == l
    if stays then s
    else raise 0x0203 [l, n] { s with cfg := { s.cfg with stack := s.cfg.stack.set l none } }

/-- Without a trim record the trim is 0, and no compensation has run (R581, R585). -/
def settleTrim (s : State) : State :=
  match s.cfg.baseValue 0x1101 0 with
  | some _ => s
  | none => { s with clock := { s.clock with trim := 0, trimNext := none, trimFrozen := true, trimLimit := false, limitEpisode := false } }

/-- A base image becomes active from a slot (R96, R104, R105): loaded swaths of another base go, the stack is checked, the rollback counter rises, and a trigger whose record is replaced counts anew (R88). -/
def becomeActive (im : BaseImage) (slot : Nat) (preserving : Bool) (s : State) : State :=
  let c1 := { s.cfg with base := some im }
  let s1 := { s with
    cfg := { s.cfg with
      base := some im, active := slot, nextBase := none, borrowed := false,
      triggers := s.cfg.triggers.filter fun e => s.cfg.baseValue 0x0202 e.1 == c1.baseValue 0x0202 e.1
      loaded := s.cfg.loaded.filter fun w => slice w.header 32 32 == im.hash }
    sec := { s.sec with cfgCounter := max s.sec.cfgCounter im.rollbackFloor } }
  let s2 := noteRaise 2 s.sec.cfgCounter s1.sec.cfgCounter (raise 0x0204 [slot, im.version, flag preserving 0] s1)
  settleTrim (recheckLevel 3 (recheckLevel 2 (recheckLevel 1 (recheckLevel 0 s2))))

/-- Step 2 of R19 for the base: a claim-preserving image takes effect, and its slot becomes preferred (R103, R624). -/
def applyNextBase (s : State) : State :=
  match s.cfg.nextBase with
  | none => s
  | some im =>
    let slot := 1 - s.cfg.active
    becomeActive im slot true
      { s with start := { s.start with ledger := { s.start.ledger with preferredCfg := slot } } }

end Sys2Proof.Machine
end

