-- ==== Sys2Proof/Machine/Timebase.lean ====
section
/-! DEFINITION. Chapter 04: zero crossings, the timebase states, and site cycle numbering. -/

namespace Sys2Proof.Machine

/-! ## The record (R137, R715) -/

/-- The timebase values without a record (R715). -/
def tbDefault : List Byte := [50, 0, 0, 0, 0, 0, 0, 0, 2, 0, 0, 0]

/-- The timebase values in force; those of R715 until a configuration has been applied. -/
def Cfg.tb (c : Cfg) : List Byte := if c.borrowed then tbDefault else c.valueOr 0x0301 0 tbDefault
def Cfg.nominal (c : Cfg) : Nat := u8 c.tb 0
/-- The configured reference, 0 L1 to 2 L3. -/
def Cfg.reference (c : Cfg) : Nat := u8 c.tb 1
def Cfg.offset (c : Cfg) : Nat := u16 c.tb 2
def Cfg.delayComp (c : Cfg) : Nat := u16 c.tb 4
def Cfg.rotation (c : Cfg) : Nat := u8 c.tb 6
def Cfg.eligible (c : Cfg) : Bool := u8 c.tb 7 == 1

def TbState.code : TbState → Nat
  | .acquire => 0
  | .locked => 1
  | .flywheel => 2
  | .nominal => 3
  | .slew => 4

/-- Detector of phase 0 to 2. -/
def State.input (s : State) (p : Nat) : PhaseInput := fget {} s.phase.inputs p
def State.setInput (s : State) (p : Nat) (x : PhaseInput) : State := { s with phase := { s.phase with inputs := fput {} s.phase.inputs p x } }

/-- The phase the timebase tracks: the substitute, or the configured reference (R128). -/
def State.tracked (s : State) : Nat := s.phase.refSub.getD s.cfg.reference

/-! ## Frequency and angles -/

/-- Mean of the last 16 valid intervals as a frequency in µHz; 0 before the first (R112). -/
def inputFreq (x : PhaseInput) : Nat := if x.intervals = [] then 0 else divNear (x.intervals.length * 10 ^ 15) x.intervals.sum

/-- The frequency of R239: measured in LOCKED and SLEW, the last one in FLYWHEEL, the nominal one else. -/
def State.freq (s : State) : Nat :=
  match s.phase.state with
  | .locked | .slew => inputFreq (s.input s.tracked)
  | .flywheel => s.phase.lastFrequency
  | .acquire | .nominal => s.cfg.nominal * 1000000

/-- The frequency that scales DT (R239): in LOCKED and SLEW that of the last closed rod; before one has closed, the one measured now (log 24). -/
def State.dtFreq (s : State) : Nat :=
  match s.phase.state with
  | .locked | .slew => s.phase.rodFrequency.getD s.freq
  | .flywheel | .acquire | .nominal => s.freq

/-- Wrapped into ±32,768 (R113, R136). -/
def wrapTu (x : Int) : Int := (x + 32768) % 65536 - 32768

/-- Wrapped in sixteenths of a turn unit. -/
def wrap16 (x : Int) : Int := (x + 524288) % 1048576 - 524288

/-- A phase is present (R112). -/
def State.present (s : State) (p : Nat) : Bool := decide ((s.input p).silentRods < 3)

/-- Expected relative angle of phase `p` to reference `r` (R126). -/
def expectedAngle (rotation r p : Nat) : Nat :=
  if p = r then 0 else if ((p + 3 - r) % 3 = 1) ↔ (rotation = 0) then 21845 else 43691

/-- Mean of relative angles, taken around the newest (R128, R139). -/
def meanAngle : List Nat → Nat
  | [] => 0
  | a :: as => ((a + divRound ((as.map fun (b : Nat) => wrapTu ((b : Int) - (a : Int))).foldl (· + ·) 0) (as.length + 1)) % 65536).toNat

/-- Expected angle of a substitute: the mean of the rods in which both were present, or the angle of R126 (R128). -/
def substituteAngle (s : State) (p : Nat) : Nat :=
  let l := (s.input p).relative
  if l.length < 16 then expectedAngle s.cfg.rotation s.cfg.reference p else meanAngle (l.take 256)

/-! ## Master and follower (R132, R716) -/

/-- This chip is a candidate (R132). -/
def State.candidate (s : State) : Bool := s.cfg.eligible && decide (s.phase.state = .locked) && s.phase.countValid

/-- Chips heard in the last 8 rods. -/
def State.heardNow (s : State) : List Heard := s.phase.heard.filter fun h => decide (s.cycle < h.cycle + 8)

/-- A chip heard is a candidate: it sends marks, is LOCKED and has COUNT_VALID (R131, R132). -/
def Heard.candidate (h : Heard) : Bool := h.state == 1 && bit h.flags 0

/-- Least of a list of UIDs. -/
def leastUid : List Nat → Option Nat
  | [] => none
  | u :: us => some (us.foldl min u)

/-- The chip to follow (R716). -/
def followed (s : State) : Option Nat :=
  if s.phase.master then some ownUid else leastUid ((s.heardNow.filter fun h => bit h.flags 1).map Heard.uid)

/-- Follow anew; every change raises PHASE.MASTER_CHANGED (R716). -/
def refollow (s : State) : State :=
  let f := followed s
  if f = s.phase.follows then s
  else
    let u := f.getD 0
    raise 0x0308 [low32 u, u / 4294967296] { s with phase := { s.phase with follows := f, behindRods := 0 } }

/-- This chip stops being master when it stops being a candidate (R132). -/
def dropMaster (s : State) : State :=
  if s.candidate then s else refollow { s with phase := { s.phase with master := false, quietCandidates := 0, candidateHeard := true } }

/-! ## Entering states (R118, R138) -/

def enterState (st : TbState) (s : State) : State :=
  dropMaster { s with phase := { s.phase with state := st, rodsInState := 0, bigErrors := 0, missing := 0 } }

def enterLocked (e : Int) (s : State) : State :=
  raise 0x0301 [s.phase.state.code, (e % 4294967296).toNat] (enterState .locked s)

/-- The error expected at the next crossing of a slew (R122). -/
def slewNext (e : Int) (fast : Bool) : Int :=
  if (e.natAbs : Int) < 1311 then 0 else if fast then e + 1311 else e - 1311

def raiseSlew (e : Int) (s : State) : State := raise 0x0304 [(e % 4294967296).toNat, flag s.phase.slewFast 0, s.freq] s

/-- SLEW is entered with its direction fixed: −32,768 counts as behind (R121, R122). -/
def enterSlew (e : Int) (s : State) : State :=
  let s1 := enterState .slew s
  raiseSlew e { s1 with phase := { s1.phase with slewFast := decide (e < 0), slewExpected := slewNext e (decide (e < 0)) } }

def enterFlywheel (s : State) : State :=
  let f := inputFreq (s.input s.tracked)
  let s1 := enterState .flywheel { s with phase := { s.phase with lastFrequency := f } }
  raise 0x0302 [f] { s1 with phase := { s1.phase with good := 0, refSub := none } }

def enterNominal (s : State) : State :=
  let s1 := enterState .nominal s
  raise 0x0303 [s.phase.sinceValid] { s1 with phase := { s1.phase with left := true } }

/-! ## Crossings of the reference (R118 to R123) -/

/-- In SLEW: within the window the state becomes LOCKED; the direction is re-chosen on a new changeover (R118, R122). -/
def slewCrossing (e : Int) (s : State) : State :=
  if e.natAbs ≤ 64 then enterLocked e s
  else
    let off := decide ((wrapTu (e - s.phase.slewExpected)).natAbs > 2048)
    let n := if off then s.phase.bigErrors + 1 else 0
    if n ≥ 2 then
      let s1 := { s with phase := { s.phase with bigErrors := 0, slewFast := decide (e < 0), slewExpected := slewNext e (decide (e < 0)) } }
      raiseSlew e s1
    else { s with phase := { s.phase with bigErrors := n, slewExpected := slewNext (if off then s.phase.slewExpected else e) s.phase.slewFast } }

/-- In LOCKED: two consecutive errors above 2,048 are a changeover (R121). -/
def lockedCrossing (e : Int) (s : State) : State :=
  if e.natAbs > 2048 then
    if s.phase.bigErrors + 1 ≥ 2 then enterSlew e s else { s with phase := { s.phase with bigErrors := s.phase.bigErrors + 1 } }
  else { s with phase := { s.phase with bigErrors := 0 } }

/-- The angles at which the detectors' last crossings fell, once the angle has been set back by e (R119, R128). -/
def turnInput (e : Int) (x : PhaseInput) : PhaseInput := { x with angle := (((x.angle : Int) - e) % 65536).toNat }

/-- Leaving ACQUIRE the angle is set, the only time that it is, so that the next crossing, one period later, falls on the offset once the delay compensation is subtracted (R110, R118, R119). -/
def acquireLock (e : Int) (s : State) : State :=
  let s1 := enterLocked e { s with phase := { s.phase with left := true } }
  { s1 with phase := { s1.phase with
      now := { s1.phase.now with angle := (s.cfg.offset + s.cfg.delayComp) % 65536 }
      inputs := fmapv {} (turnInput e) s1.phase.inputs } }

/-- A valid crossing of the tracked phase with its error in sixteenths of a turn unit (R113, R118). -/
def referenceCrossing (e16 : Int) (s : State) : State :=
  let e := wrapTu (divRound e16 16)
  let s1 := { s with phase := { s.phase with good := s.phase.good + 1, missing := 0, sinceValid := 0, lastE := e } }
  match s.phase.state with
  | .acquire => if s.phase.applied ∧ s1.phase.good ≥ 8 then acquireLock e s1 else s1
  | .locked => lockedCrossing e s1
  | .slew => slewCrossing e s1
  | .flywheel | .nominal =>
    if s1.phase.good ≥ 8 then (if e.natAbs ≤ 64 then enterLocked e s1 else enterSlew e s1) else s1

/-! ## Qualifying a crossing (R111, R112, R126, R129) -/

/-- A crossing in the holdoff of a valid one is not counted at all (R111). -/
def inHoldoff (x : PhaseInput) (interval : Nat) : Bool := x.lastValid.isSome && decide (4 * interval < x.lastPeriod)

/-- Amplitude and interval (R111). -/
def crossingValid (interval peak : Nat) : Bool :=
  decide (200 ≤ peak) && decide (10 ^ 9 ≤ 66 * interval) && decide (45 * interval ≤ 10 ^ 9)

/-- Angle of phase `p` relative to the configured reference, from their last valid crossings. -/
def relativeTo (s : State) (p : Nat) : Nat := ((s.input p).angle + 65536 - (s.input s.cfg.reference).angle) % 65536

/-- Both other phases are present, and each lies within tolerance of an expected angle: its own, or the other's (R126). -/
def rotationMatches (s : State) (swapped : Bool) : Bool :=
  let r := s.cfg.reference
  let p := (r + 1) % 3
  let q := (r + 2) % 3
  let near := fun (a b : Nat) => decide ((wrapTu ((relativeTo s a : Int) - expectedAngle s.cfg.rotation r b)).natAbs ≤ 1820)
  s.present r && s.present p && s.present q
    && (if swapped then near p q && near q p else near p p && near q q)

/-- ROTATION_ERROR is set at a crossing of another phase (R126). -/
def checkRotation (s : State) : State :=
  if !s.phase.rotationError && rotationMatches s true then
    raise 0x0305 [relativeTo s ((s.cfg.reference + 1) % 3), relativeTo s ((s.cfg.reference + 2) % 3)]
      { s with phase := { s.phase with rotationError := true, rotationGood := 0 } }
  else s

/-- A valid crossing enters its detector's history (R112, R128). -/
def takeCrossing (p angle interval : Nat) (s : State) : State :=
  let x := s.input p
  let y : PhaseInput := { x with
    intervals := (interval :: x.intervals).take 16, lastPeriod := interval, lastValid := some ⟨s.cycle, angle⟩,
    silentRods := 0, seen := true, angle := angle }
  let s1 := s.setInput p y
  if p ≠ s.cfg.reference ∧ s1.present s.cfg.reference then
    s1.setInput p { y with relative := (relativeTo s1 p :: y.relative).take 256 }
  else s1

/-- The configured reference present for 8 rods is taken back (R129). -/
def takeBack (p : Nat) (s : State) : State :=
  if s.phase.refSub.isSome ∧ p = s.cfg.reference ∧ (s.input p).presentRods ≥ 8 then
    raise 0x0307 [p, 0] { s with phase := { s.phase with refSub := none } }
  else s

/-- ZERO_CROSSING: a rising crossing of phase 1 to 3 at an angle in 1/16 tu, the interval since the previous counted one, and the peak since it (R110 to R113). -/
def execZeroCrossing (phase stamp16 intervalNs peakMv : Nat) (s : State) : Host.Outcome State Fault Refusal :=
  let p := phase - 1
  let x := s.input p
  if inHoldoff x intervalNs then .next s
  else
    let s0 := s.setInput p { x with peak := low16 peakMv }
    if crossingValid intervalNs peakMv then
      let at16 := ((stamp16 : Int) - 16 * s.cfg.delayComp) % 1048576
      let s1 := takeBack p (takeCrossing p (at16.toNat / 16) intervalNs s0)
      if p = s1.tracked then
        .next (referenceCrossing (wrap16 (at16 - 16 * s.cfg.offset - 16 * (if s1.phase.refSub.isSome then s1.phase.subAngle else 0))) s1)
      else .next (checkRotation s1)
    else
      let s1 := s0.setInput p { s0.input p with lastValid := none }
      .next (if p = s.tracked then { s1 with phase := { s1.phase with good := 0 } } else s1)

/-! ## Missing crossings (R120, R128) -/

/-- The other phases in the configured rotation after a missing one. -/
def rotationAfter (rotation p : Nat) : List Nat := if rotation = 0 then [(p + 1) % 3, (p + 2) % 3] else [(p + 2) % 3, (p + 1) % 3]

/-- The reference is missing: the next present phase substitutes, or the state becomes FLYWHEEL (R118, R128). -/
def referenceMissing (s : State) : State :=
  match (rotationAfter s.cfg.rotation s.tracked).find? s.present with
  | none => enterFlywheel s
  | some p =>
    let a := if p = s.cfg.reference then 0 else substituteAngle s p
    let sub := if p = s.cfg.reference then none else some p
    raise 0x0307 [p, a] { s with phase := { s.phase with refSub := sub, subAngle := a, missing := 0 } }

/-- REFERENCE_CROSSING_MISSING (R120): after the third consecutive one the phase tracked is missing; a substitute is then a missing phase of its own (R130). -/
def execReferenceCrossingMissing (s : State) : Host.Outcome State Fault Refusal :=
  match s.phase.state with
  | .locked | .slew =>
    let s1 := { s with phase := { s.phase with missing := s.phase.missing + 1, good := 0, bigErrors := 0 } }
    if s1.phase.missing ≥ 3 then
      let p := s1.tracked
      let s2 := s1.setInput p { s1.input p with silentRods := 3, presentRods := 0 }
      let s3 := if (s1.input p).silentRods < 3 ∧ p ≠ s.cfg.reference then raise 0x0306 [p + 1] s2 else s2
      .next (referenceMissing s3)
    else .next s1
  | .acquire | .flywheel | .nominal => .next s

/-- FLYWHEEL_TIMEOUT: 250 cycles after the last valid crossing (R118). -/
def execFlywheelTimeout (s : State) : Host.Outcome State Fault Refusal :=
  if s.phase.state = .flywheel ∧ 250 ≤ s.phase.sinceValid then .next (enterNominal s) else .next s

/-- ACQUIRE_TIMEOUT: 32 nominal periods (R118), counted from the first application of a configuration (R715). -/
def execAcquireTimeout (s : State) : Host.Outcome State Fault Refusal :=
  if s.phase.state = .acquire ∧ s.phase.applied ∧ 32 ≤ s.phase.acquireTurns then .next (enterNominal s) else .next s

/-! ## Cycle marks (R131 to R136, R141) -/

/-- A received cycle mark. -/
structure Mark where
  uid : Nat
  at_ : Instant
  state : Nat
  flags : Nat
deriving DecidableEq, Repr

/-- The mark in a frame body; its first byte is the subtype (R131). -/
def markOf (b : List Byte) : Mark :=
  { uid := n64 b 1, at_ := ⟨n48 b 9, n16 b 15⟩, state := u8 b 17, flags := u8 b 18 }

/-- The path delay to a sender in turn units: that of PTP for the master, else zero (R360). -/
def pathTu (s : State) (uid : Nat) : Nat :=
  if s.phase.follows = some uid then divNear (s.ring.ptp.pathDelay * 65536 * s.freq) (10 ^ 15) else 0

/-- Whole cycles by which a sender is ahead of this chip, to the nearest, halves away from zero (R134). -/
def cyclesAhead (s : State) (m : Mark) : Int := divRound (((m.at_.tu + pathTu s m.uid : Nat) : Int) - s.phase.now.tu) 65536

/-- d of R136: this chip's angle minus the sender's. -/
def angleBeyond (s : State) (m : Mark) : Int := wrapTu ((s.angle : Int) - (m.at_.angle + pathTu s m.uid : Nat))

/-- A count to take at the next boundary: the sender's, there (R134). -/
def planStep (ahead : Int) (c : Nat) (s : State) : State :=
  { s with phase := { s.phase with step := some (((s.cycle : Int) + 1 + ahead).toNat % 2 ^ 48, c) } }

/-- The master's marks carry a lower count: the rod of the first of them counts as 1 (R134 case 4). -/
def noteBehind (s : State) : State := { s with phase := { s.phase with behindRods := max 1 s.phase.behindRods } }

/-- A mark from a sender enters what has been heard (R132, R133, R716). -/
def hearMark (m : Mark) (s : State) : State :=
  let h : Heard := { uid := m.uid, cycle := s.cycle, state := m.state, flags := m.flags }
  let s1 := { s with phase := { s.phase with
    heard := s.heardNow.filter (fun x => x.uid != m.uid) ++ [h]
    quietEligible := if m.uid < ownUid then 0 else s.phase.quietEligible
    eligibleHeard := s.phase.eligibleHeard || decide (m.uid < ownUid)
    quietCandidates := if h.candidate ∧ m.uid < ownUid then 0 else s.phase.quietCandidates
    candidateHeard := s.phase.candidateHeard || (h.candidate && decide (m.uid < ownUid))
    master := s.phase.master && !(h.candidate && decide (m.uid < ownUid)) } }
  refollow s1

/-- The cases of R134 for a mark of the master this chip follows. -/
def compareMaster (m : Mark) (s : State) : State :=
  let k := cyclesAhead s m
  if s.phase.countValid = false then planStep k 1 s
  else if k ≥ 1 then planStep k 2 { s with phase := { s.phase with behindRods := 0 } }
  else if k = 0 then { s with phase := { s.phase with behindRods := 0 } }
  else if s.candidate ∧ -64 ≤ k ∧ s.phase.behindRods ≤ 16 then noteBehind s
  else
    let s1 := planStep k 5 { s with phase := { s.phase with countValid := false, behindRods := 0 } }
    dropMaster s1

/-- Site mismatch and the offset measurement, when both are LOCKED (R136, R141). -/
def compareAngle (m : Mark) (s : State) : State :=
  let d := angleBeyond s m
  let s0 := { s with phase := { s.phase with lastD := d } }
  if s.phase.state = .locked ∧ m.state = 1 then
    let meas := s0.phase.measures.map fun x : Measure => if x.used < 256 then { x with sum := x.sum + d, used := x.used + 1 } else x
    let s1 := { s0 with phase := { s0.phase with measures := meas } }
    if s.ring.ptp.pathKnown = false then s1
    else if d.natAbs > 512 then
      let n := s1.phase.outside + 1
      let s2 := { s1 with phase := { s1.phase with outside := n, inside := 0, siteMismatch := s1.phase.siteMismatch || decide (16 ≤ n) } }
      if n ≥ 16 ∧ s1.phase.siteMismatch = false then raise 0x030A [(d % 4294967296).toNat, low32 m.uid] s2 else s2
    else
      let n := s1.phase.inside + 1
      { s1 with phase := { s1.phase with inside := n, outside := 0, siteMismatch := s1.phase.siteMismatch && decide (n < 16) } }
  else s0

/-- This chip, as master, steps to a candidate's count 1 to 64 cycles ahead (R134 case 3). -/
def compareAsMaster (m : Mark) (s : State) : State :=
  let k := cyclesAhead s m
  if m.state = 1 ∧ bit m.flags 0 ∧ 1 ≤ k ∧ k ≤ 64 then planStep k 3 s else s

/-- CYCLE_MARK: the oldest cycle mark delivered is compared once per sender and rod (R134, R348); every chip receives marks, in every mode (R131). -/
def execCycleMark (s : State) : Host.Outcome State Fault Refusal :=
  match takeDelivered 0x01 s with
  | none => .next s
  | some (d, s1) =>
    let m := markOf d.frame.body
    let k := m.uid * 2 ^ 48 + m.at_.cycle
    if m.uid = ownUid ∨ s1.phase.markSenders.contains k then .next s1
    else
      let seen := k :: s1.phase.markSenders.filter fun x => x / 2 ^ 48 != m.uid
      let s2 := hearMark m { s1 with phase := { s1.phase with markSenders := seen } }
      if s2.phase.master then .next (compareAsMaster m s2)
      else if s2.phase.follows = some m.uid then .next (compareMaster m (compareAngle m s2))
      else .next s2

/-- MASTER_ELECTION: a candidate that has heard no lower-UID candidate for 8 rods becomes master (R132). -/
def execMasterElection (s : State) : Host.Outcome State Fault Refusal :=
  if s.candidate ∧ s.phase.master = false ∧ s.phase.quietCandidates ≥ 8 then
    .next (refollow { s with phase := { s.phase with master := true } })
  else .next s

/-- MASTER_MARK_TIMEOUT: a chip that has received no mark with MASTER set for 8 rods follows none (R716). -/
def execMasterMarkTimeout (s : State) : Host.Outcome State Fault Refusal := .next (refollow s)

/-- COUNT_SEED: with no valid count on the site and no lower-UID eligible chip heard for 32 rods, the count is seeded at the next boundary (R133). -/
def execCountSeed (s : State) : Host.Outcome State Fault Refusal :=
  if s.phase.countValid = false ∧ s.cfg.eligible ∧ s.phase.left ∧ s.phase.quietEligible ≥ 32
      ∧ (s.heardNow.any fun h => bit h.flags 0) = false then
    .next { s with phase := { s.phase with step := some (0, 0) } }
  else .next s

/-- The seed, from the real-time clock at the boundary (R133). -/
def countSeed (s : State) : Nat :=
  (s.clock.seconds * s.cfg.nominal + s.clock.fraction * s.cfg.nominal / 32768) % 2 ^ 48

/-! ## A new timebase record (R128, R132, R715) -/

/-- A configured reference that changes: the angles relative to the old one are let go, and a substitute stands in for the new one at the angle of R126, unless that is present. -/
def settleReference (s : State) : State :=
  let inputs := fmapv {} (fun x : PhaseInput => { x with relative := [] }) s.phase.inputs
  let sub := if s.present s.cfg.reference then none else s.phase.refSub
  { s with phase := { s.phase with
      inputs := inputs, refSub := sub
      subAngle := (sub.map fun p => expectedAngle s.cfg.rotation s.cfg.reference p).getD 0 } }

/-- A timebase record takes effect: a changed reference, and a chip that is no longer eligible is no master (R132, R715). -/
def settleTimebase (old : Cfg) (s : State) : State :=
  if old.tb = s.cfg.tb then s
  else dropMaster (if old.reference = s.cfg.reference then s else settleReference s)

/-! ## The phase part of a boundary (R112, R130, R133, R135) -/

/-- A detector at the end of a rod. -/
def rodInput (x : PhaseInput) : PhaseInput :=
  if x.seen then { x with seen := false, silentRods := 0, presentRods := min 8 (x.presentRods + 1) }
  else { x with silentRods := min 3 (x.silentRods + 1), presentRods := 0 }

/-- One detector at a boundary; a phase other than the reference that becomes missing is reported (R130). -/
def boundaryInput (p : Nat) (s : State) : State :=
  let x := s.input p
  let y := rodInput x
  let s1 := s.setInput p y
  if x.silentRods < 3 ∧ y.silentRods = 3 ∧ p ≠ s.cfg.reference then raise 0x0306 [p + 1] s1 else s1

/-- ROTATION_ERROR clears after 256 rods of correct rotation (R126). -/
def boundaryRotation (s : State) : State :=
  let n := if rotationMatches s false then s.phase.rotationGood + 1 else 0
  { s with phase := { s.phase with rotationGood := n, rotationError := s.phase.rotationError && decide (n < 256) } }

/-- The next rod's number: the first rod carries 0; a planned count is adopted (R133 to R135). DESIGN CHOICE, log 46: the 48-bit count wraps to 0, and what waits for a later boundary keeps a number that is not reduced. -/
def boundaryCycle (s : State) : State :=
  let old := if s.phase.started then (s.cycle + 1) % 2 ^ 48 else 0
  match s.phase.step with
  | none => { s with phase := { s.phase with started := true, now := ⟨old, 0⟩ } }
  | some (n, c) =>
    let new := if c = 0 then countSeed s else n
    let valid := s.phase.countValid || decide (c = 0) || decide (c = 1)
    raise 0x0309 [low32 old, low32 new, c]
      { s with phase := { s.phase with
          started := true, now := ⟨new, 0⟩, step := none, countValid := valid, behindRods := 0
          heard := s.phase.heard.map fun h => { h with cycle := h.cycle + new - old } } }

/-- Counters of rods. -/
def boundaryCounters (s : State) : State :=
  let p := s.phase
  { s with phase := { p with
      rodsInState := p.rodsInState + 1
      sinceValid := p.sinceValid + 1
      quietCandidates := if s.candidate && !p.candidateHeard then p.quietCandidates + 1 else 0
      candidateHeard := !s.candidate
      quietEligible := if p.eligibleHeard then 0 else p.quietEligible + 1
      eligibleHeard := false
      behindRods := if p.behindRods = 0 then 0 else p.behindRods + 1
      measures := p.measures.map fun m : Measure => { m with rods := m.rods + 1 } } }

/-- Everything of chapter 04 at angle 0. -/
def phaseBoundary (s0 : State) : State :=
  let s := match s0.phase.state with
    | .locked | .slew => { s0 with phase := { s0.phase with rodFrequency := some s0.freq } }
    | .flywheel | .acquire | .nominal => { s0 with phase := { s0.phase with rodFrequency := none } }
  boundaryCounters (boundaryRotation (boundaryInput 2 (boundaryInput 1 (boundaryInput 0 (boundaryCycle s)))))

/-! ## PHASE commands (R139 to R141) -/

/-- PHASE.READ flags (R140). -/
def phaseFlags (s : State) : Nat :=
  flag s.phase.countValid 0 + flag s.phase.master 1 + flag s.phase.refSub.isSome 2 + flag s.phase.rotationError 3
    + flag s.phase.siteMismatch 4 + flag s.cfg.eligible 5

def execPhaseRead (mbx : Nat) (s : State) : Host.Outcome State Fault Refusal :=
  .next (serveRead 0x0301 1 (· == 0) (fun _ s =>
    ok (cycle64 s.cycle ++ le 2 s.angle ++ le 1 s.phase.state.code ++ le 1 (phaseFlags s) ++ le 4 s.freq ++ leInt 2 s.phase.lastE
      ++ zeros 2 ++ le 8 (s.phase.follows.getD 0) ++ le 4 (count32 s.phase.rodsInState))) mbx s)

def execPhaseInputs (mbx : Nat) (s : State) : Host.Outcome State Fault Refusal :=
  .next (serveRead 0x0302 1 (· == 0) (fun _ s =>
    ok ((List.range 3).flatMap fun p =>
      let x := s.input p
      le 1 (flag (s.present p) 0) ++ zeros 1 ++ le 2 (if p = s.cfg.reference then 0 else meanAngle (x.relative.take 16))
        ++ le 2 x.peak ++ le 4 (inputFreq x))) mbx s)

/-- Candidates heard in the last 8 rods, lowest UID first (R139). -/
def candidatesHeard (s : State) : List Nat :=
  sortNat ((s.heardNow.filter Heard.candidate).map Heard.uid)

def execPhaseSite (mbx : Nat) (s : State) : Host.Outcome State Fault Refusal :=
  .next (serveRead 0x0303 1 (· == 0) (fun _ s =>
    let st := match s.phase.follows with
      | none => 0xFF
      | some u => if u = ownUid then s.phase.state.code else ((s.phase.heard.find? fun h => h.uid == u).map Heard.state).getD 0xFF
    let cs := candidatesHeard s
    ok (le 8 (s.phase.follows.getD 0) ++ le 1 st ++ le 1 cs.length ++ leInt 2 s.phase.lastD ++ zeros 4
      ++ (cs.take 62).flatMap (le 8))) mbx s)

def execPhaseMeasureOffset (mbx : Nat) (s : State) : Host.Outcome State Fault Refusal :=
  .next (serve 0x0304 2 (· == 0) (fun c s =>
    let r := defer c 0 s
    if r.2.status = 1 then
      ({ r.1 with phase := { r.1.phase with measures := r.1.phase.measures ++ [{ job := s.mail.jobs }] } }, r.2)
    else r) mbx s)

/-- A measurement that can finish: 256 usable marks, no master heard, or 1,024 rods (R141). -/
def measureEnds (s : State) (m : Measure) : Bool := decide (256 ≤ m.used) || s.phase.follows.isNone || decide (1024 ≤ m.rods)

/-- MEASURE_OFFSET_COMPLETE: the oldest measurement that can finish does (R141). -/
def execMeasureOffsetComplete (s : State) : Host.Outcome State Fault Refusal :=
  match s.phase.measures.find? (measureEnds s) with
  | none => .next s
  | some m =>
    let done := { s with phase := { s.phase with measures := s.phase.measures.erase m } }
    if m.used ≥ 256 then
      let d := divRound m.sum m.used
      .next (complete m.job (ok (leInt 2 d ++ le 2 (((s.cfg.offset : Int) - d) % 65536).toNat ++ le 2 m.used ++ zeros 2)) done)
    else .next (complete m.job (bad 8) done)

end Sys2Proof.Machine
end

