-- ==== Sys2Proof/Machine/Loops.lean ====
section
/-! DEFINITION. Chapter 09, records and readings: the loop and supervision records in force, sample instants, what each input binding reads, the plausibility checks and the plant model. -/

namespace Sys2Proof.Machine

/-! ## Records of a loop slot (R256, R258, R277, R296) -/

def Cfg.program (c : Cfg) (l : Nat) : List Byte := (c.baseValue 0x0701 l).getD []
def Cfg.loopRec (c : Cfg) (l : Nat) : List Byte := (c.baseValue 0x0703 l).getD []
def Cfg.sup (c : Cfg) (l : Nat) : List Byte := (c.value 0x8704 l).getD []
/-- The constants in force; those beyond the record's count read as zero (R258). -/
def Cfg.consts (c : Cfg) (l : Nat) : List Word :=
  match c.value 0x8702 l with
  | none => []
  | some v => (List.range (u8 v 0)).map fun i => BitVec.ofNat 32 (u32 v (4 + 4 * i))

/-- The records that a slot needs to run are present. -/
def Cfg.hasLoop (c : Cfg) (l : Nat) : Bool :=
  (c.baseValue 0x0701 l).isSome && (c.baseValue 0x0703 l).isSome && (c.baseValue 0x8704 l).isSome

/-- Slots with a loop record, in order. -/
def Cfg.loopSlots (c : Cfg) : List Nat := (c.recordsOf 0x0703).map Record.inst

/-! ## Fields of the loop record (R277 to R279) -/

def loopRate (v : List Byte) : Int := s8 v 0
def loopPeriodCfg (v : List Byte) : Bool := bit (u8 v 1) 0
def loopProv (v : List Byte) : Bool := bit (u8 v 1) 1
def loopBead (v : List Byte) : Bool := bit (u8 v 1) 2
/-- The inner loop, if one is named. -/
def loopInner (v : List Byte) : Option Nat := if u16 v 6 = 0xFFFF then none else some (u16 v 6)
def loopHorizon (v : List Byte) : Nat := u16 v 10
/-- P in turn units (R271). -/
def loopP (v : List Byte) : Nat := 2 ^ (16 - loopRate v).toNat

/-- An input binding (R278). -/
structure Binding where
  kind : Nat
  await : Bool
  index : Nat
  a : Nat
  b : Nat
deriving DecidableEq, Repr

def binding (v : List Byte) (i : Nat) : Binding :=
  let o := 16 + 8 * i
  { kind := u8 v o, await := bit (u8 v (o + 1)) 0, index := u16 v (o + 2), a := u16 v (o + 4), b := u16 v (o + 6) }

/-- An output route (R279). -/
structure Route where
  kind : Nat
  soft : Bool
  target : Nat
  count : Nat
  feedback : Nat
deriving DecidableEq, Repr

def route (v : List Byte) (i : Nat) : Route :=
  let o := 144 + 8 * i
  { kind := u8 v o, soft := bit (u8 v (o + 1)) 0, target := u16 v (o + 2), count := u16 v (o + 4), feedback := u8 v (o + 6) }

def bindings (v : List Byte) : List Binding := (List.range 16).map (binding v)
def routes (v : List Byte) : List Route := (List.range 16).map (route v)
def loopAwaits (v : List Byte) : Bool := (bindings v).any Binding.await

/-- The window in turn units (R284). -/
def loopWindow (v : List Byte) : Nat :=
  if u16 v 12 ≠ 0 then u16 v 12
  else if loopAwaits v then min (loopHorizon v + 512) (loopP v) else min (loopP v / 4) 4096

/-- The first sample instant at or after `t` on the axis of turn units (R272). -/
def nextInstant (v : List Byte) (t : Nat) : Nat :=
  let p := loopP v
  let x := (u16 v 4 * rodTu + u16 v 2) % p
  t + (x + p - t % p) % p

/-! ## Fields of the supervision record (R296) -/

def supWord (v : List Byte) (o : Nat) : Word := BitVec.ofNat 32 (u32 v o)
def supModelIn (v : List Byte) : Option Nat := if u8 v 1 = 0xFF ∨ v = [] then none else some (u8 v 1)
def supModelOut (v : List Byte) : Nat := u8 v 2
def supLo (v : List Byte) (i : Nat) : Word := supWord v (24 + 12 * i)
def supHi (v : List Byte) (i : Nat) : Word := supWord v (28 + 12 * i)
def supTolerance (v : List Byte) (i : Nat) : Word := supWord v (32 + 12 * i)
def supRamp (v : List Byte) (i : Nat) : Word := supWord v (216 + 4 * i)

/-! ## The slots -/

def State.loop (s : State) (l : Nat) : Loop := fget {} s.engine.loops l
def State.setLoop (s : State) (l : Nat) (x : Loop) : State := { s with engine := { s.engine with loops := fput {} s.engine.loops l x } }

/-- ENABLE in force: LOOP.ENABLE over the supervision record (R306). -/
def State.loopEnabled (s : State) (l : Nat) : Bool :=
  s.cfg.hasLoop l && (s.loop l).enable.getD (u8 (s.cfg.sup l) 0 == 1)

/-- DT: the sample period in seconds (R239, R271). -/
def State.loopDt (s : State) (l : Nat) : Word :=
  if s.dtFreq = 0 then zeroWord
  else toWord { num := 1000000, den := s.dtFreq, q := -loopRate (s.cfg.loopRec l) }

/-! ## Conversions into IN registers (R255) -/

/-- A commons value as a value word. -/
def pointWord (type value : Nat) : Word :=
  match type with
  | 1 => toWord (Exact.ofInt (signed 64 value))
  | 2 => toWord { num := signed 64 value, q := -32 }
  | 3 => if value = 0 then zeroWord else oneWord
  | 4 => toWord (Exact.ofInt (value : Nat))
  | _ => zeroWord

/-! ## Readings (R278, R281) -/

/-- A reading: the value, and whether its owning block marks it invalid. -/
abbrev ReadValue := Word × Bool

/-- The age in rods of a stamp, modulo 2^32 (R178, R318). -/
def stampAge (cycle stamp : Nat) : Nat := (cycle % 4294967296 + 4294967296 - stamp % 4294967296) % 4294967296

def meterPhase (s : State) (p : Nat) : MeterClosed := (fget {} s.sense.phases p).closed

/-- Codes 2 to 5 of R532 over a rod. -/
def meterQuantity (m : MeterClosed) (code : Nat) : Word :=
  match code with
  | 0 => m.vrms
  | 1 => m.irms
  | 2 => m.power
  | 3 => m.energy
  | 4 => m.endPower
  | _ => m.reactive

/-- A METER input (R532): phase 0 sums the present phases. -/
def meterReading (s : State) (code phase : Nat) : ReadValue :=
  if code = 7 then (s.sense.heat, s.sense.heatInvalid)
  else if code = 6 then (wordOfRat (inputFreq (s.input (phase - 1)) : Nat) 1000000, !s.present (phase - 1))
  else if phase = 0 then
    let ps := (List.range 3).filter s.present
    (toWord (ps.foldl (fun x p => x.add (exact (meterQuantity (meterPhase s p) code))) Exact.zero),
      ps.isEmpty || ps.any fun p => (meterPhase s p).invalid)
  else (meterQuantity (meterPhase s (phase - 1)) code, (meterPhase s (phase - 1)).invalid)

/-- A vent position as a fraction of its travel (R503 to R518). -/
def ventFraction (s : State) (ch : Nat) : Exact :=
  let v := (s.cfg.baseValue 0x0E01 ch).getD []
  let c := fget {} s.vent.channels ch
  let span := s32 v 16
  if span = 0 then Exact.zero else { num := (signed 32 c.counter.toNat - s32 v 12) * (if span < 0 then -1 else 1), den := span.natAbs }

/-- A FEEDBACK input: 0 vent position, 1 fan speed, 2 valve current. -/
def feedbackReading (s : State) (a ch : Nat) : ReadValue :=
  match a with
  | 0 =>
    let c := fget {} s.vent.channels ch
    (toWord (ventFraction s ch), !c.homed || decide (c.fault ≠ 0) || (c.ssiError && decide (c.ssiFailed ≠ 0)))
  | 1 =>
    let f := fget {} s.fan.outputs ch
    (toWord (Exact.ofInt (f.speed : Nat)), !f.speedValid || decide (f.state = 2) || f.stalled)
  | _ =>
    let v := fget {} s.valve.channels ch
    (wordOfRat (v.current : Nat) 1000, decide (v.fault ≠ 0))

/-- A RECK input (R227), in J or W. -/
def reckReading (s : State) (i : Nat) : Word :=
  match i with
  | 0 => toWord (Exact.ofInt s.reck.excess)
  | 1 => toWord (Exact.ofInt s.reck.balance)
  | _ => toWord (Exact.ofInt ((s.reck.limit.getD (i - 2) 0 - s.reck.shown.getD (i - 2) 0) * 10))

/-- A point as the view in force holds it, with the STALE bit of its block (R308, R320). -/
def State.viewPoint (s : State) (p : Nat) : Point :=
  let x := fget {} s.commons.view p
  { x with quality := x.quality + flag (fget false s.commons.viewStale (p / 64)) 2 }
def State.fieldReading (s : State) (role item : Nat) : Reading := fget {} s.cfp.readings (role * 256 + item)

/-- What a binding reads now; a LOOP input reads the value last applied. -/
def readBinding (s : State) (l i : Nat) (b : Binding) : ReadValue :=
  match b.kind with
  | 1 =>
    let c := fget {} s.sense.channels b.index
    (c.value, decide (c.state ≠ 1))
  | 2 => meterReading s b.index b.a
  | 3 =>
    if fget false (s.loop l).fieldSeen i then
      let r := s.fieldReading b.index b.b
      (r.value, r.invalid)
    else (zeroWord, true)
  | 4 =>
    let p := s.viewPoint b.index
    (pointWord p.type p.value, bit p.quality 2 || !bit p.quality 0)
  | 5 => ((fget none (s.loop b.index).applied b.a).getD zeroWord, false)
  | 6 => (reckReading s b.index, false)
  | 7 => feedbackReading s b.a b.index
  | _ => (zeroWord, false)

/-- An input with AWAIT has not arrived by the sample instant (R177, R178); a stale point is latched (R281). -/
def inputAwaited (s : State) (l i : Nat) (b : Binding) : Bool :=
  b.await &&
    (match b.kind with
     | 3 =>
       !fget false (s.loop l).fieldSeen i
         || (match (s.loop l).previous with
             | none => false
             | some t => Instant.le (s.fieldReading b.index b.b).at_ t)
     | 4 =>
       let p := s.viewPoint b.index
       !bit p.quality 2 && (bit p.quality 1 || decide (b.a < stampAge s.cycle p.stamp))
     | _ => false)

/-! ## Plausibility and the plant model (R293 to R295) -/

/-- A value lies outside the range check of its input. -/
def outsideRange (sup : List Byte) (i : Nat) (v : Word) : Bool :=
  cmpFp (supLo sup i) (supHi sup i) != .eq && (ltFp v (supLo sup i) || ltFp (supHi sup i) v)

/-- u(n − 1 − d): committed outputs, newest first. -/
def modelU (x : Loop) (sup : List Byte) : Word := x.history.getD (u8 sup 3) zeroWord

/-- gain × u + b. -/
def modelDrive (x : Loop) (sup : List Byte) (bias : Word) : Exact :=
  ((exact (supWord sup 4)).mul (exact (modelU x sup))).add (exact bias)

/-- The prediction of model_in, given the last accepted measurement (R294); computed exactly and rounded once. -/
def modelPredict (x : Loop) (sup : List Byte) (dt : Word) (y : Word) : Word :=
  let a := (exact dt).div ((exact (supWord sup 8)).add (exact dt))
  if ((exact (supWord sup 8)).add (exact dt)).num = 0 then y
  else toWord ((exact y).add (a.mul ((modelDrive x sup x.bias).sub (exact y))))

/-- The value that stands for input `i` when it does not arrive or is implausible (R179, R294, R295); without an accepted one the manual states none (log 24). -/
def predictInput (s : State) (l i : Nat) : Word :=
  let x := s.loop l
  let acc := fget none x.accepted i
  if supModelIn (s.cfg.sup l) = some i then
    match acc with
    | none => Config.unstatedInput l i s.phase.now.tu
    | some y => modelPredict x (s.cfg.sup l) (s.loopDt l) y
  else acc.getD (Config.unstatedInput l i s.phase.now.tu)

/-- The model check of a measurement (R294); without an accepted one there is no prediction to differ from. -/
def modelRejects (s : State) (l i : Nat) (v : Word) : Bool :=
  let sup := s.cfg.sup l
  supModelIn sup == some i && (fget none (s.loop l).accepted i).isSome && decide (0 < mant (supWord sup 12))
    && (exact (supWord sup 12)).lt ((exact v).sub (exact (predictInput s l i))).abs

/-- A value is implausible for its input (R293, R294). -/
def implausible (s : State) (l i : Nat) (r : ReadValue) : Bool :=
  r.2 || outsideRange (s.cfg.sup l) i r.1 || modelRejects s l i r.1

def accept (l i : Nat) (v : Word) (s : State) : State :=
  s.setLoop l { s.loop l with accepted := fput none (s.loop l).accepted i (some v) }

/-- The bias at the first sample in SOFT (R294). -/
def startBias (l : Nat) (inputs : List Word) (s : State) : State :=
  let x := s.loop l
  let sup := s.cfg.sup l
  match supModelIn sup with
  | none => s
  | some i =>
    let u := (exact (supWord sup 4)).mul (exact (modelU x sup))
    s.setLoop l { x with bias := toWord ((exact (reg inputs i)).sub u) }

/-- The model after a committed or held sample (R294): bias, prediction, residual. -/
def updateModel (l : Nat) (inputs : List Word) (predicted : Word) (s : State) : State :=
  let x := s.loop l
  let sup := s.cfg.sup l
  match supModelIn sup with
  | none => s
  | some i =>
    let y := exact (reg inputs i)
    let lag := exact (supWord sup 16)
    let b := (exact x.bias).add (lag.mul (y.sub (modelDrive x sup x.bias)))
    s.setLoop l { x with bias := toWord b, predicted := predicted, residual := toWord (y.sub (exact predicted)) }

/-! ## Applied values and eligibility (R298) -/

/-- Beads that a GATE value makes eligible (R298). -/
def gateCount (v : Word) (count : Nat) : Nat :=
  let x := if mant v < 0 then Exact.zero else if ltFp oneWord v then Exact.ofInt 1 else exact v
  let y := (x.times count 1).add { num := 1, q := -1 }
  let d := y.den * 2 ^ (-y.q).toNat
  (shiftUp y.num (max y.q 0) / (d : Int)).toNat

/-- The loop slot and output whose GATE route covers a bead. -/
def gateOf (c : Cfg) (bead : Nat) : Option (Nat × Nat) :=
  c.loopSlots.findSome? fun l =>
    let v := c.loopRec l
    ((List.range 16).find? fun o =>
      let r := route v o
      decide (r.kind = 4) && decide (r.target ≤ bead) && decide (bead < r.target + r.count)).map fun o => (l, o)

/-- A value of a GATE route makes a bead eligible. -/
def gateCovers (c : Cfg) (l o bead : Nat) (v : Word) : Bool :=
  let r := route (c.loopRec l) o
  decide (bead < r.target + gateCount v r.count)

/-- Committed eligibility of a bead that is GATED (R148, R292, R298). -/
def eligibleNow (s : State) (bead : Nat) : Bool :=
  match gateOf s.cfg bead with
  | none => false
  | some (l, o) =>
    match fget none (s.loop l).applied o with
    | none => false
    | some v => decide ((s.loop l).mode ≠ .disabled) && gateCovers s.cfg l o bead v

/-- The latest carry entry of a loop slot, if it has one. -/
def latestEntry (s : State) (l : Nat) : Option (Nat × CarryEntry) :=
  (s.carry.entries.filter fun e => (e.2.kind == 1 || e.2.kind == 3) && e.2.owner == l).foldl
    (fun (a : Option (Nat × CarryEntry)) e => match a with
      | none => some e
      | some x => if x.2.order < e.2.order then some e else some x) none

def Result.outs (r : Result) : List Word := slice16 r.file
where slice16 (f : List Word) : List Word := (f.drop 16).take 16
def Result.states (r : Result) : List Word := (r.file.drop 32).take 64

/-- The latest provisional result of a loop that has been computed: that of its newest entry whose sample has run. -/
def provisionalResult (s : State) (l : Nat) : Option (Nat × CarryEntry) :=
  (s.carry.entries.filter fun e => (e.2.kind == 1 || e.2.kind == 3) && e.2.owner == l && e.2.result.ready).foldl
    (fun (a : Option (Nat × CarryEntry)) e => match a with
      | none => some e
      | some x => if x.2.order < e.2.order then some e else some x) none

/-- Chain whose provisional output makes a PROV bead eligible; a DISABLED loop's does not (R176, R292, R298). -/
def provisionalGate (s : State) (bead : Nat) : Option Nat :=
  match gateOf s.cfg bead with
  | none => none
  | some (l, o) =>
    match provisionalResult s l with
    | none => none
    | some e => if decide ((s.loop l).mode ≠ .disabled) && gateCovers s.cfg l o bead (reg e.2.result.outs o) then some e.2.chain else none

end Sys2Proof.Machine
end

