-- ==== Sys2Proof/Machine/Beads.lean ====
section
/-! DEFINITION. Chapters 05 and 06, what admission and settling share: bead records, the table as it will stand at a boundary, occurrences that are skipped, and opening carry entries. -/

namespace Sys2Proof.Machine

/-! ## Bead records (R145 to R149) -/

def Occ.bead_ (o : Occ) : BeadRec := beadOf o.record

/-- A record with its ENABLE bit set or cleared (R167). -/
def withEnable (r : List Byte) (on : Bool) : List Byte :=
  let c := u16 r 0
  le 2 (c - flag (bit c 7) 7 + flag on 7) ++ r.drop 2

/-! ## The table (R142 to R144, R152, R165 to R167) -/

def State.bead (s : State) (b : Nat) : Bead := fget {} s.abacus.beads b
def State.setBead (s : State) (b : Nat) (x : Bead) : State := { s with abacus := { s.abacus with beads := fput {} s.abacus.beads b x } }

/-- The configured beads as a start loads them (R144). -/
def loadBeads (c : Cfg) : FMap Bead :=
  (c.recordsOf 0x8401).foldl (fun m r => fput {} m r.inst { origin := 1, record := (c.value 0x8401 r.inst).getD r.value }) []

/-- A configured bead follows the configuration: a record that the boundary replaces enters the table (R143, R167). -/
def refreshBead (old new : Cfg) (m : FMap Bead) (i : Nat) : FMap Bead :=
  match new.value 0x8401 i with
  | none => fput {} m i {}
  | some v => if old.value 0x8401 i = some v then m else fput {} m i { origin := 1, record := v, spent := (fget {} m i).spent }

/-- One change of R165. -/
def applyChange (m : FMap Bead) (x : BeadChange) : FMap Bead :=
  match x.kind with
  | 0 => fput {} m x.bead { origin := 2, record := x.record }
  | 1 => fput {} m x.bead {}
  | _ =>
    let b := fget {} m x.bead
    if b.record = [] then m else fput {} m x.bead { b with record := withEnable b.record x.enable }

/-- The table after the configuration and the changes of a boundary. -/
def tableAfter (old new : Cfg) (changes : List BeadChange) (m : FMap Bead) : FMap Bead :=
  let insts := ((old.recordsOf 0x8401).map Record.inst ++ (new.recordsOf 0x8401).map Record.inst).eraseDups
  changes.foldl applyChange (insts.foldl (refreshBead old new) m)

/-- The configuration as it will stand at the boundary of rod `r` (R97, R103). -/
def futureCfg (s : State) (r : Nat) : Cfg :=
  (applyStaged (applyNextBase { s with phase := { s.phase with now := ⟨r, 0⟩ } })).cfg

/-- The table as it will stand at the boundary of rod `r` (R165). -/
def tableAt (s : State) (r : Nat) : FMap Bead :=
  tableAfter s.cfg (futureCfg s r) (s.abacus.changes.filter fun x => decide (x.boundary ≤ r)) s.abacus.beads

/-- The boundary at which a command executed now takes effect (R165). -/
abbrev effectBoundary (s : State) : Nat := s.stageBoundary

/-- A bead's selector names rod `r` (R151 to R153). -/
def selectorNames (s : State) (b : Nat) (x : BeadRec) (r : Nat) : Bool :=
  match x.select with
  | 0 => r % 2 ^ x.n == x.residue
  | 1 => r == x.cycle
  | _ => (fget {} s.abacus.calendar b).armed == some r

/-- A bead that is enabled and not spent is named for rod `r`, whatever its gate. -/
def named (s : State) (b : Nat) (x : Bead) (r : Nat) : Bool :=
  !x.spent && x.record != [] && (beadOf x.record).enabled && selectorNames s b (beadOf x.record) r

/-! ## Occurrences -/

/-- The occurrence of a specific-cycle bead is over (R152). -/
def spend (o : Occ) (s : State) : State :=
  let b := s.bead o.bead
  if o.bead_.select = 1 ∧ b.record ≠ [] ∧ (beadOf b.record).select = 1 ∧ (beadOf b.record).cycle = o.bead_.cycle then s.setBead o.bead { b with spent := true } else s

/-- What an occurrence adds to the accounts of its rod (R203, R205). -/
def addCharge (c : Charges) (b : BeadRec) (k : Int) : Charges :=
  let onPhase := fun (i : Nat) => decide (b.phase = i + 1)
  { c with
    power := c.power.mapIdx fun i x => if onPhase i then x + k * max b.power 0 else x
    ramp := c.ramp.mapIdx fun i (x : Nat) => if onPhase i then ((x : Int) + k * b.inrush).toNat else x
    heat := c.heat + k * max b.heat 0 }

/-- Release what an occurrence reserved (R189, R195). -/
def release (o : Occ) (s : State) : State :=
  let c1 := if s.reck.charges.rod = o.rod then addCharge s.reck.charges o.bead_ (-1) else s.reck.charges
  let c2 := if s.reck.chargesNow.rod = o.rod then addCharge s.reck.chargesNow o.bead_ (-1) else s.reck.chargesNow
  { s with reck := { s.reck with charges := c1, chargesNow := c2 } }

/-- An occurrence that waits: admitted and not fired, or sliding. -/
def Occ.waits (o : Occ) : Bool := decide (o.state ≤ 1)

/-- Every occurrence that waits, in the two lists and sliding. -/
def waitingOccs (s : State) : List Occ :=
  (s.abacus.current ++ s.abacus.next.getD []).filter Occ.waits ++ s.abacus.sliding

/-- Mark the occurrences of the lists that a test names with a state, and take those that slide out of the sliding list. -/
def markOccs (p : Occ → Bool) (st : Nat) (s : State) : State :=
  let f := fun (o : Occ) => if o.waits && p o then { o with state := st, entry := none } else o
  { s with abacus := { s.abacus with
    current := s.abacus.current.map f
    next := s.abacus.next.map fun l => l.map f
    sliding := s.abacus.sliding.filter fun o => !p o } }

/-- BEAD.SKIPPED (R171). -/
def raiseSkipped (o : Occ) (cause : Nat) (s : State) : State :=
  raise 0x0402 [o.bead, low32 o.rod, cause]
    (spend o { s with abacus := { s.abacus with skipped := s.abacus.skipped + 1, ended := (o.bead, o.home) :: s.abacus.ended } })

/-- Every waiting occurrence that a test names is skipped, with its reservation released. -/
def skipOccs (p : Occ → Bool) (cause : Nat) (s : State) : State :=
  let os := (waitingOccs s).filter p
  let listed := ((s.abacus.current ++ s.abacus.next.getD []).filter Occ.waits).filter p
  let s1 := listed.foldl (fun s o => release o s) (markOccs p 4 s)
  os.foldl (fun s o => raiseSkipped o cause s) s1

/-! ## Carry entries (R175, R181 to R183, R196) -/

def Cfg.carry (c : Cfg) : List Byte := c.valueOr 0x8501 0 [1, 16, 0, 0]
def State.entry (s : State) (e : Nat) : CarryEntry := fget {} s.carry.entries e
def State.setEntry (s : State) (e : Nat) (x : CarryEntry) : State := { s with carry := { s.carry with entries := fput {} s.carry.entries e x } }

/-- The entries of a chain in the order in which they opened. -/
def insertEntry (x : Nat × CarryEntry) : List (Nat × CarryEntry) → List (Nat × CarryEntry)
  | [] => [x]
  | y :: ys => if x.2.order ≤ y.2.order then x :: y :: ys else y :: insertEntry x ys
def chainEntries (s : State) (chain : Nat) : List (Nat × CarryEntry) :=
  (s.carry.entries.filter fun e => e.2.chain == chain).foldr insertEntry []

/-- The lowest free entry number. -/
def freeEntry (s : State) : Option Nat := (List.range 128).find? fun e => (s.entry e).state == 0

/-- An operation did not speculate under R181 or R183; one that the carry record forbids is not counted (R196, R197). -/
def countRefused (s : State) : State := if u8 s.cfg.carry 0 ≠ 1 then s else { s with carry := { s.carry with refused := min (s.carry.refused + 1) 0xFFFFFFFF } }

/-- An entry is available to an operation that joins some chains (R181, R183, R196). -/
def entryAvailable (s : State) (loopOp root : Bool) (chains : List Nat) : Bool :=
  let members := s.carry.entries.filter fun e => chains.contains e.2.chain
  let spare := 128 - s.carry.entries.length
  u8 s.cfg.carry 0 == 1 && decide (spare > (if loopOp then u8 s.cfg.carry 1 else 0))
    && decide (members.length + 1 ≤ 32) && decide ((members.filter fun e => e.2.root).length + flag root 0 ≤ 4)

/-- Occupancy has reached 128: CARRY.FULL once per filling (R198, R199). -/
def noteFull (s : State) : State :=
  if s.carry.entries.length ≥ 128 ∧ s.carry.full = false then
    raise 0x0503 [low32 s.cycle, s.angle, s.carry.refused] { s with carry := { s.carry with full := true } }
  else s

/-- Open an entry for an operation that rests on some chains; they merge under the lowest of their numbers (R183). None where R181 or R183 leaves no entry, and the refusal is counted. -/
def openEntry (x : CarryEntry) (chains : List Nat) (s : State) : Option Nat × State :=
  let loopOp := x.kind == 1 || x.kind == 3
  match freeEntry s with
  | none => (none, countRefused s)
  | some e =>
    if entryAvailable s loopOp x.root chains then
      let chain := match chains with
        | [] => e
        | c :: cs => cs.foldl min c
      let merged := s.carry.entries.map fun y => if chains.contains y.2.chain then (y.1, { y.2 with chain := chain }) else y
      let y : CarryEntry := { x with state := 1, chain := chain, opened := s.phase.now, order := s.carry.order }
      let s1 := { s with carry := { s.carry with entries := fput {} merged e y, order := s.carry.order + 1 } }
      (some e, noteFull { s1 with carry := { s1.carry with
        opened := min (s1.carry.opened + 1) 0xFFFFFFFF
        peak := max s1.carry.peak s1.carry.entries.length
        longest := max s1.carry.longest (chainEntries s1 chain).length } })
    else (none, countRefused s)

/-- The horizon of a chain: the earliest among its INPUT roots that are OPEN (R185). -/
def chainHorizon (s : State) (chain : Nat) : Option Instant :=
  ((chainEntries s chain).filterMap fun e => if e.2.kind = 1 ∧ e.2.root ∧ e.2.state = 1 then e.2.horizon else none).foldl
    (fun (a : Option Instant) h => match a with
      | none => some h
      | some x => if x.tu ≤ h.tu then some x else some h) none

end Sys2Proof.Machine
end

