-- ==== Sys2Proof/Machine/Admission.lean ====
section
/-! DEFINITION. Chapter 07, admission: limits, forecasts, the tests of an occurrence, borrowing, the main pass and single admission. -/

namespace Sys2Proof.Machine

/-! ## Records (R229, R230) -/

/-- The reckoner record; without one, floors of zero and no lending (R229). -/
def Cfg.reck (c : Cfg) : List Byte := (c.baseValue 0x0601 0).getD (zeros 20 ++ le 4 3600 ++ zeros 96)
def Cfg.heat (c : Cfg) : Option (List Byte) := c.value 0x8602 0
def floorPower (c : Cfg) (p : Nat) : Nat := u16 c.reck (2 * p)
def floorRamp (c : Cfg) (p : Nat) : Nat := u16 c.reck (6 + 2 * p)
def lendOn (c : Cfg) : Bool := bit (u8 c.reck 12) 0
def borrowOn (c : Cfg) : Bool := bit (u8 c.reck 12) 1

/-! ## Limits (R216, R217) -/

/-- The configuration whose reckoner and heat records hold for rod `r` (R98). -/
def cfgFor (s : State) (r : Nat) : Cfg := if s.cycle < r then futureCfg s r else s.cfg

/-- The confirmed lease in force for rod `r` (R216, R218). -/
def leaseFor (s : State) (r : Nat) : Option Lease :=
  match s.reck.next with
  | some n => if n.confirmed ∧ n.start ≤ r ∧ r < n.expiry then some n else cur
  | none => cur
where cur : Option Lease := s.reck.current.filter fun l => decide (l.start ≤ r) && decide (r < l.expiry)

def leasePower (s : State) (r p : Nat) : Nat := ((leaseFor s r).map fun l => l.power.getD p 0).getD (floorPower (cfgFor s r) p)
def leaseRamp (s : State) (r p : Nat) : Nat := ((leaseFor s r).map fun l => l.ramp.getD p 0).getD (floorRamp (cfgFor s r) p)

/-- Confirmed loans of a phase (0 to 2) that cover rod `r`. -/
def loanKw (s : State) (lent : Bool) (r p : Nat) : Nat :=
  ((s.reck.loans.filter fun l => l.lent == lent && l.phase == p + 1 && decide (l.start ≤ r) && decide (r < l.expiry)).map Loan.kw).sum

/-- lim[p] for rod `r`, in 10 W (R217). -/
def limPower (s : State) (r p : Nat) : Int := (((leasePower s r p + loanKw s false r p : Nat) : Int) - loanKw s true r p) * 100
/-- ramp_lim[p], in 10 W. -/
def limRamp (s : State) (r p : Nat) : Nat := leaseRamp s r p * 100

/-- The pending NEXT whose span covers rod `r`. -/
def pendingNext (s : State) (r : Nat) : Option Lease :=
  s.reck.next.filter fun l => !l.confirmed && decide (l.start ≤ r) && decide (r < l.expiry)

/-- kW outstanding on a phase for rod `r`. -/
def borrowedPending (s : State) (r p : Nat) : Nat :=
  ((s.reck.borrows.filter fun b => b.phase == p + 1 && decide (b.start ≤ r)).map Borrow.kw).sum

/-- The pending limits (R217). -/
def pendPower (s : State) (r p : Nat) : Int :=
  let up := ((pendingNext s r).map fun l => l.power.getD p 0 - leasePower s r p).getD 0
  limPower s r p + (up + borrowedPending s r p : Nat) * 100
def pendRamp (s : State) (r p : Nat) : Nat :=
  limRamp s r p + ((pendingNext s r).map fun l => (l.ramp.getD p 0 - leaseRamp s r p) * 100).getD 0

/-! ## The heat budget (R226) -/

/-- H in force for rod `r`. -/
def heatBudget (s : State) (r : Nat) : Nat :=
  match (cfgFor s r).heat with
  | none => 0
  | some v =>
    if u16 v 0 = 0xFFFF ∨ s.reck.fallback then u32 v 8
    else
      match s.reck.heatWritten with
      | none => u32 v 8
      | some h => min h (u32 v 4)

/-- H + B for rod `r`, where there is a heat record. -/
def heatLimit (s : State) (r : Nat) : Option Int := (cfgFor s r).heat.map fun _ => (heatBudget s r : Int) + s.reck.balance

/-! ## Forecasts (R204 to R208) -/

/-- The closed accounts that the forecasts for rod `r` take, those of rod r − 2, once they have closed since the start (R204, R208). -/
def measuredFor (s : State) (r : Nat) : Option Closed := if r < 2 then none else s.reck.closed.find? fun c => c.rod + 2 == r

/-- The measurement for rod `r` is marked invalid for a phase, or for heat (R207). -/
def phaseInvalid (s : State) (r p : Nat) : Bool := (measuredFor s r).any fun c => c.invalid.getD p true
def heatUnmeasured (s : State) (r : Nat) : Bool := (measuredFor s r).any fun c => c.heatInvalid || c.invalid.any id

/-- Power of one occurrence of a list: a reduction counts once it has fired (R205). -/
def credited (fired : Bool) (x : Int) : Int := if fired then x else max x 0

/-- The second and third terms of R204 for a quantity of occurrences on a phase (none: every phase), with provisional reservations or without them (R227). -/
def forecastOccs (s : State) (r : Nat) (prov : Bool) (phase : Option Nat) (costOf : Cost → Int) (occOf : BeadRec → Int) : Int :=
  let late := (s.reck.costs.filter fun c => c.rod + 2 == r && (match c.fired with
    | none => false
    | some a => decide (49152 ≤ a)) && (match phase with
    | none => true
    | some p => c.phase == p + 1)).map costOf
  let listed := (s.abacus.current.filter fun o => o.rod + 1 == r && decide (o.state ≤ 2) && (prov || o.state != 1) && (match phase with
    | none => true
    | some p => o.bead_.phase == p + 1)).map fun o => credited (o.state == 2) (occOf o.bead_)
  (late ++ listed).foldl (· + ·) 0

/-- The forecast steady power of a phase for rod `r`, in 10 W (R204, R207, R208). -/
def forecastPower (s : State) (r : Nat) (prov : Bool) (p : Nat) : Int :=
  let m := match measuredFor s r with
    | none => limPower s r p
    | some c => if c.invalid.getD p true then limPower s r p else c.endPower.getD p 0
  m + forecastOccs s r prov (some p) Cost.power BeadRec.power

/-- The forecast heat for rod `r`, in J (R206 to R208): with an invalid measurement it is H + B. -/
def forecastHeat (s : State) (r : Nat) (prov : Bool) : Int :=
  let occs := forecastOccs s r prov none Cost.heat BeadRec.heat
  match measuredFor s r with
  | none => (heatLimit s r).getD 0 + occs
  | some c => if heatUnmeasured s r then (heatLimit s r).getD 0 else c.heat + occs

/-- The accounts of a rod before any admission. -/
def openAccounts (s : State) (r : Nat) : Charges :=
  { rod := r, power := (List.range 3).map (forecastPower s r true), ramp := [0, 0, 0], heat := forecastHeat s r true }

/-! ## The test of an occurrence (R211) -/

/-- Account that refuses an occurrence, or none: 1 power, 2 ramp, 3 heat. -/
def refusing (a : Charges) (limP : Nat → Int) (limR : Nat → Nat) (heat : Option Int) (b : BeadRec) : Option Nat :=
  let p := b.phase - 1
  if b.phase ≠ 0 ∧ 0 < b.power ∧ limP p < a.power.getD p 0 + b.power then some 1
  else if b.phase ≠ 0 ∧ b.inrush ≠ 0 ∧ limR p < a.ramp.getD p 0 + b.inrush then some 2
  else if 0 < b.heat ∧ heat.any (fun h => decide (h < a.heat + b.heat)) then some 3
  else none

/-- Positive power on a phase, or positive heat, that no rod `r` admits below class 0, whatever fits: an invalid measurement, or a phase over its limit whose forecast has not come within it (R207, R219). The account that refuses. -/
def shutOut (s : State) (r : Nat) (b : BeadRec) : Option Nat :=
  if b.phase ≠ 0 ∧ 0 < b.power ∧ (phaseInvalid s r (b.phase - 1) ∨ s.reck.overLimit.getD (b.phase - 1) false) then some 1
  else if 0 < b.heat ∧ (heatLimit s r).isSome ∧ heatUnmeasured s r then some 3
  else none

/-- It fails its power test alone (R221). -/
def failsPowerAlone (s : State) (r : Nat) (a : Charges) (b : BeadRec) : Bool :=
  refusing a (limPower s r) (limRamp s r) (heatLimit s r) b == some 1
    && (refusing a (fun p => a.power.getD p 0 + b.power) (limRamp s r) (heatLimit s r) b).isNone

/-! ## Borrowing (R221, R222) -/

/-- A lease frame's body (R222). -/
structure LeaseBody where
  kind : Nat
  phase : Nat
  kw : Nat
  loan : Nat
  borrower : Nat
  lender : Nat
  start : Nat
  expiry : Nat
  reason : Nat
deriving DecidableEq, Repr

def LeaseBody.bytes (b : LeaseBody) : List Byte :=
  le 1 b.kind ++ le 1 b.phase ++ be 2 b.kw ++ be 4 b.loan ++ be 8 b.borrower ++ be 8 b.lender ++ be 6 (b.start % 2 ^ 48)
    ++ be 6 (b.expiry % 2 ^ 48) ++ le 1 b.reason ++ zeros 3

/-- The body after a frame's subtype byte. -/
def leaseBodyOf (f : List Byte) : LeaseBody :=
  { kind := u8 f 1, phase := u8 f 2, kw := n16 f 3, loan := n32 f 5, borrower := n64 f 9, lender := n64 f 17, start := n48 f 25,
    expiry := n48 f 31, reason := u8 f 37 }

def sendLeaseBody (uid : Nat) (b : LeaseBody) (s : State) : State := sendLease raise (macOf uid) b.bytes s

/-- RECK.LOAN (R232). -/
def raiseLoan (loan role outcome phase kw : Nat) (s : State) : State := raise 0x0606 [loan, role, outcome, phase * 65536 + kw] s

/-- What the view's offer point of a lender offers on a phase, in kW (R220, R221). -/
def offerOf (s : State) (point p : Nat) : Nat :=
  let x := s.viewPoint point
  if bit x.quality 0 ∧ bit x.quality 1 = false ∧ bit x.quality 2 = false then x.value / 2 ^ (16 * p) % 65536 else 0

/-- Lender `i` of the record: UID and offer point. -/
def lenderAt (c : Cfg) (i : Nat) : Nat × Nat := (u64 c.reck (24 + 12 * i), u16 c.reck (32 + 12 * i))

/-- The first lender that covers a need and has not refused this chip in the last 256 rods (R221). -/
def chooseLender (s : State) (p kw : Nat) : Option Nat :=
  ((List.range (u8 s.cfg.reck 13)).map (lenderAt s.cfg)).findSome? fun l =>
    if kw ≤ offerOf s l.2 p ∧ (s.reck.refusedBy.any fun r => r.1 == l.1 && decide (s.cycle < r.2 + 256)) = false then some l.1 else none

/-- kW borrowed on a phase by loans that still run in rod `start`, or asked for. -/
def borrowedKw (s : State) (p start : Nat) : Nat :=
  ((s.reck.loans.filter fun l => !l.lent && l.phase == p + 1 && decide (start < l.expiry)).map Loan.kw).sum
    + ((s.reck.borrows.filter fun b => b.phase == p + 1).map Borrow.kw).sum

/-- Send a BORROW on a phase for a number of kW from a rod on, if R221 lets it. -/
def sendBorrow (p kw start : Nat) (s : State) : State :=
  if borrowOn s.cfg = false ∨ s.phase.countValid = false ∨ kw = 0 ∨ kw > 65535 ∨ (s.reck.borrows.any fun b => b.phase == p + 1)
      ∨ (s.reck.loans.filter fun l => !l.lent).length ≥ 8 ∨ borrowedKw s p start + kw > u16 s.cfg.reck 16 then s
  else
    match chooseLender s p kw with
    | none => s
    | some uid =>
      let n := 2 ^ 31 + s.reck.nextLoan % 2 ^ 31
      let b : Borrow := { phase := p + 1, kw := kw, number := n, lender := uid, start := start, sent := s.cycle }
      let s1 := { s with reck := { s.reck with
        borrows := s.reck.borrows ++ [b], nextLoan := s.reck.nextLoan + 1
        stats := { s.reck.stats with borrows := s.reck.stats.borrows + 1 } } }
      sendLeaseBody uid { kind := 1, phase := p + 1, kw := kw, loan := n, borrower := ownUid, lender := uid, start := start, expiry := 0, reason := 0 } s1

/-- Whole kW that cover a shortfall in 10 W. -/
def kwFor (x : Int) : Nat := (x.toNat + 99) / 100

/-! ## Capacity and output clash (R162 to R164) -/

/-- Capacity (4), counted over every entry the list holds, or an output clash (5) with one that acts, keeps an occurrence out of a rod's list; occurrences in their home rod are not displaced by sliding ones. -/
def blocked (r : Nat) (list rest : List Occ) (c : Occ) : Option Nat :=
  let homes := if c.home = r then [] else rest.filter fun o => o.home == r
  let all := list ++ homes
  if all.length ≥ 256 ∨ (all.filter fun o => o.bead_.angle == c.bead_.angle).length ≥ 32 then some 4
  else if c.bead_.output.isSome && ((list.filter fun o => decide (o.state ≤ 2)) ++ homes).any (fun o => o.bead != c.bead && o.bead_.angle == c.bead_.angle && o.bead_.output == c.bead_.output) then some 5
  else none

/-! ## Outcomes -/

/-- The check instant of R158 for an occurrence of a bead in rod `r`. -/
def checkInstant (r angle : Nat) : Instant := Instant.ofTu (r * rodTu + angle - 256)

/-- The account set of a rod is charged (R211 to R213). -/
def charge (r : Nat) (b : BeadRec) (s : State) : State :=
  let c1 := if s.reck.charges.rod = r then addCharge s.reck.charges b 1 else s.reck.charges
  let c2 := if s.reck.chargesNow.rod = r then addCharge s.reck.chargesNow b 1 else s.reck.chargesNow
  { s with reck := { s.reck with charges := c1, chargesNow := c2 } }

/-- The accounts of a rod as they stand. -/
def accountsOf (s : State) (r : Nat) : Charges := if s.reck.charges.rod = r then s.reck.charges else s.reck.chargesNow

/-- The peaks of BEAD.STATS, with a list that has taken an occurrence. -/
def notePeaks (list : List Occ) (o : Occ) (s : State) : State :=
  { s with abacus := { s.abacus with
    peakRod := max s.abacus.peakRod list.length
    peakAngle := max s.abacus.peakAngle (list.filter fun x => x.bead_.angle == o.bead_.angle).length } }

/-- Put an occurrence on the list of its rod. -/
def enlist (o : Occ) (s : State) : State :=
  if o.rod = s.cycle then
    let l := s.abacus.current ++ [o]
    notePeaks l o { s with abacus := { s.abacus with current := l } }
  else
    let l := s.abacus.next.getD [] ++ [o]
    notePeaks l o { s with abacus := { s.abacus with next := some l } }

def bumpReck (f : ReckStats → ReckStats) (s : State) : State := { s with reck := { s.reck with stats := f s.reck.stats } }

/-- Admit an occurrence, committed or resting on an entry; a provisional admission counts in both counters (R233; log 26). -/
def admitOcc (c : Occ) (entry : Option Nat) (s : State) : State :=
  let o := { c with state := if entry.isSome then 1 else 0, entry := entry }
  let s1 := charge c.rod c.bead_ (enlist o s)
  if entry.isSome then
    bumpReck (fun x => { x with admitted := x.admitted + 1, provisional := x.provisional + 1 })
      { s1 with abacus := { s1.abacus with provAdmitted := s1.abacus.provAdmitted + 1 } }
  else bumpReck (fun x => { x with admitted := x.admitted + 1 }) s1

/-- A refused occurrence slides to a later rod, or drops with RECK.DROPPED (R215). -/
def refuseOcc (c : Occ) (account : Nat) (s : State) : State :=
  let s1 := bumpReck (fun x => { x with refused := bump x.refused account 1 }) s
  if c.slid < c.bead_.slack then
    { s1 with abacus := { s1.abacus with
      sliding := s1.abacus.sliding ++ [{ c with rod := c.rod + 1, slid := c.slid + 1, state := 0, entry := none }]
      slidCount := s1.abacus.slidCount + 1 } }
  else
    raise 0x0601 [c.bead, low32 c.rod, account, c.bead_.phase]
      (spend c (bumpReck (fun x => { x with dropped := x.dropped + 1 })
        { s1 with abacus := { s1.abacus with ended := (c.bead, c.home) :: s1.abacus.ended } }))

/-- RECK.SAFETY_OVERFLOW for one account, once per rod and account, in a rod whose forecast is measured (R208, R212). -/
def overflow (c : Occ) (account phase : Nat) (excess : Int) (s : State) : State :=
  let key := (c.rod, account * 4 + phase)
  if excess ≤ 0 ∨ s.reck.overflowed.contains key ∨ (measuredFor s c.rod).isNone then s
  else
    raise 0x0602 [c.bead, account, phase, excess.toNat]
      (bumpReck (fun x => { x with overflows := x.overflows + 1 }) { s with reck := { s.reck with overflowed := key :: s.reck.overflowed } })

/-- A class 0 occurrence is admitted and charged in full; the accounts its charge takes above their limits are reported (R212). -/
def admitSafety (c : Occ) (s : State) : State :=
  let s1 := admitOcc c none s
  let b := c.bead_
  let a := accountsOf s1 c.rod
  let p := b.phase - 1
  let s2 := if b.phase ≠ 0 ∧ 0 < b.power then overflow c 1 b.phase (a.power.getD p 0 - limPower s1 c.rod p) s1 else s1
  let s3 := if b.phase ≠ 0 ∧ b.inrush ≠ 0 then overflow c 2 b.phase ((a.ramp.getD p 0 : Int) - limRamp s2 c.rod p) s2 else s2
  match heatLimit s3 c.rod with
  | none => s3
  | some h => if 0 < b.heat then overflow c 3 0 (a.heat - h) s3 else s3

/-- Chains a PROV bead depends on through its gate: none when its eligibility is committed. -/
def gateChains (s : State) (c : Occ) : List Nat :=
  if c.bead_.gated && !eligibleNow s c.bead then (provisionalGate s c.bead).toList else []

/-- The lease or loan that a provisional admission rests on: the pending lease where it suffices alone, else the loan outstanding (R213). -/
def rootSource (s : State) (r : Nat) (a : Charges) (b : BeadRec) : Option Nat :=
  let noLoans := { s with reck := { s.reck with borrows := [] } }
  if (refusing a (pendPower noLoans r) (pendRamp noLoans r) (heatLimit s r) b).isNone then (pendingNext s r).map Lease.number
  else (s.reck.borrows.find? fun x => x.phase == b.phase && decide (x.start ≤ r)).map Borrow.number

/-- Admit provisionally against a lease, a loan or a gate, or refuse (R209, R213). -/
def admitProvisional (c : Occ) (needRoot : Bool) (s : State) : State :=
  let b := c.bead_
  let a := accountsOf s c.rod
  let chains := gateChains s c
  let x : CarryEntry :=
    if needRoot then
      { kind := 2, root := true, owner := c.bead, sourceKind := 3, source := (rootSource s c.rod a b).getD 0,
        horizon := some (checkInstant c.rod b.angle) }
    else { kind := 4, owner := c.bead }
  match openEntry x chains s with
  | (none, s1) => refuseOcc c 6 s1
  | (some e, s1) => admitOcc c (some e) s1

/-- The decision of R209 on one candidate, once capacity and clash allow it; no BORROW is set up for single admission. -/
def decide_ (c : Occ) (s : State) : State :=
  let b := c.bead_
  let a := accountsOf s c.rod
  if b.cls = 0 then admitSafety c s
  else if s.reck.closedCount < 2 then refuseOcc c 1 s
  else
    match shutOut s c.rod b with
    | some k => refuseOcc c k s
    | none =>
      match refusing a (limPower s c.rod) (limRamp s c.rod) (heatLimit s c.rod) b with
      | none => if b.prov && !(gateChains s c).isEmpty then admitProvisional c false s else admitOcc c none s
      | some k =>
        if b.prov && (refusing a (pendPower s c.rod) (pendRamp s c.rod) (heatLimit s c.rod) b).isNone then admitProvisional c true s
        else refuseOcc c k s

/-- Before the decision of a main pass, a BORROW for a candidate that fails on power alone: at most one per phase and pass (R221). -/
def maybeBorrow (c : Occ) (asked : List Nat) (s : State) : State × List Nat :=
  let b := c.bead_
  let a := accountsOf s c.rod
  if b.cls ≠ 0 ∧ 2 ≤ s.reck.closedCount ∧ asked.contains b.phase = false ∧ failsPowerAlone s c.rod a b then
    let s1 := sendBorrow (b.phase - 1) (kwFor (a.power.getD (b.phase - 1) 0 + b.power - limPower s c.rod (b.phase - 1))) c.rod s
    (s1, if s1.reck.borrows.length = s.reck.borrows.length then asked else b.phase :: asked)
  else (s, asked)

/-! ## Candidates (R155 to R157, R209, R210) -/

/-- Order of candidates: class, home rod, bead. -/
def candKey (o : Occ) : Nat := (o.bead_.cls * 2 ^ 49 + o.home) * 4096 + o.bead
def insertOcc (o : Occ) : List Occ → List Occ
  | [] => [o]
  | x :: xs => if candKey o ≤ candKey x then o :: x :: xs else x :: insertOcc o xs

/-- A bead that its gate does not hold back: committed eligibility, or for a PROV bead a provisional one (R148, R176). -/
def gateOpen (s : State) (b : Nat) (x : BeadRec) : Bool :=
  !x.gated || eligibleNow s b || (x.prov && (provisionalGate s b).isSome)

/-- A bead named for rod `r` becomes a candidate: with no valid count its occurrence is skipped (R155), and a sliding earlier one is superseded (R157). The superseded one's entry is given back to the caller's drop. -/
def selectBead (r : Nat) (e : Nat × Bead) (acc : List Occ × State) : List Occ × State :=
  let b := beadOf e.2.record
  let o : Occ := { bead := e.1, home := r, rod := r, record := e.2.record }
  if named acc.2 e.1 e.2 r = false ∨ gateOpen acc.2 e.1 b = false then acc
  else if acc.2.phase.countValid = false ∧ b.select ≠ 0 then (acc.1, raiseSkipped o 4 acc.2)
  else (acc.1 ++ [o], acc.2)

end Sys2Proof.Machine
end

