-- ==== Sys2Proof/Machine/Engine.lean ====
section
/-! DEFINITION. Chapters 06, 08 and 09, what happens to a result: flags, traces, timing modes, routes, commits, and how chains settle, drop and are recomputed. -/

namespace Sys2Proof.Machine

/-! ## Entries that leave the table (R189, R190, R197, R199) -/

/-- Entries become FREE; CARRY.FULL may be raised again at 96 or fewer (R199). -/
def freeEntries (es : List (Nat × CarryEntry)) (s : State) : State :=
  let left := s.carry.entries.filter fun e => !(es.any fun x => x.1 == e.1)
  { s with
    carry := { s.carry with entries := left, full := s.carry.full && decide (96 < left.length) }
    engine := { s.engine with recomputes := s.engine.recomputes.filter fun e => !(es.any fun x => x.1 == e) } }

/-- A drop is counted under its cause (R197). -/
def countDropped (cause : Nat) (s : State) : State :=
  { s with carry := { s.carry with dropped := fput 0 s.carry.dropped cause (min (fget 0 s.carry.dropped cause + 1) 0xFFFFFFFF) } }

/-- A bead entry drops alone, and its occurrence is skipped with a cause (R190). Whether its chain settles without it is the caller's to see (`settleAll`). -/
def dropEntry (e cause skip : Nat) (s : State) : State :=
  let x := s.entry e
  raise 0x0501 [x.chain, cause, 1, x.owner] (countDropped cause (freeEntries [(e, x)] (skipOccs (fun o => o.entry == some e) skip s)))

/-- A bead is selected while an earlier occurrence of it slides: that one is skipped, and its entry drops alone (R157). -/
def supersede (o : Occ) (s : State) : State :=
  match s.abacus.sliding.find? fun x => x.bead == o.bead && x.home != o.home with
  | none => s
  | some x =>
    match x.entry with
    | some e => dropEntry e 8 1 s
    | none => skipOccs (fun y => y.bead == o.bead && decide (y.rod = x.rod) && y.home == x.home) 1 s

/-! ## Single admission (R22, R148, R157, R214) -/

/-- An occurrence tested singly against the accounts of its rod. -/
def testSingly (o : Occ) (s : State) : State :=
  let list := if o.rod = s.cycle then s.abacus.current else s.abacus.next.getD []
  match blocked o.rod list [] o with
  | some k => refuseOcc o k s
  | none => decide_ o s

/-- An occurrence tested singly; where `follow` holds, one that slides into a list already made is tested there at once. -/
def admitSingly (follow : Bool) (o : Occ) (s : State) : State :=
  let s1 := testSingly o s
  let slid := fun (x : Occ) => x.bead == o.bead && x.home == o.home && x.rod == s.cycle + 1 && x.entry == none
  match if follow && s1.abacus.next.isSome then s1.abacus.sliding.find? slid else none with
  | none => s1
  | some x => testSingly x { s1 with abacus := { s1.abacus with sliding := s1.abacus.sliding.erase x } }

/-- An occurrence that becomes eligible too late for its own rod is considered for later ones within its slack; without slack nothing comes of it (log 25). -/
def slideLate (follow : Bool) (o : Occ) (s : State) : State :=
  let x := { o with rod := o.rod + 1, slid := 1 }
  if o.bead_.slack = 0 then s
  else if follow ∧ s.abacus.next.isSome ∧ x.rod = s.cycle + 1 then
    testSingly x { s with abacus := { s.abacus with slidCount := s.abacus.slidCount + 1 } }
  else { s with abacus := { s.abacus with sliding := s.abacus.sliding ++ [x], slidCount := s.abacus.slidCount + 1 } }

/-- A list holds an occurrence of a bead whose home rod is `r`. -/
def hasHome (l : List Occ) (bead r : Nat) : Bool := l.any fun o => o.bead == bead && o.home == r

/-- The occurrence of a bead with home rod `r` has been taken: it is listed, slides, or is over (R215). -/
def homeTaken (s : State) (bead r : Nat) : Bool :=
  hasHome s.abacus.current bead r || hasHome (s.abacus.next.getD []) bead r || hasHome s.abacus.sliding bead r
    || s.abacus.ended.contains (bead, r)

/-- A GATED bead that its selector names for a rod whose pass has closed, and that its gate does not hold back, still has its occurrence of that rod to come. -/
def wantedNow (s : State) (bead r : Nat) (x : Bead) : Bool :=
  (beadOf x.record).gated && named s bead x r && gateOpen s bead (beadOf x.record) && !homeTaken s bead r

/-- That occurrence: skipped while the count is not valid (R155); else it supersedes one that still slides (R157) and is admitted singly where its instant is at least 1,024 tu away (R22), unless the rod's list holds one of the bead that waits. -/
def considerRod (follow : Bool) (bead r : Nat) (x : Bead) (s : State) : State :=
  let b := beadOf x.record
  let o : Occ := { bead := bead, home := r, rod := r, record := x.record }
  let list := if r = s.cycle then s.abacus.current else s.abacus.next.getD []
  if wantedNow s bead r x = false then s
  else if s.phase.countValid = false ∧ b.select ≠ 0 then raiseSkipped o 4 s
  else
    let s1 := supersede o s
    if list.any fun y => y.bead == bead && y.waits then s1
    else if s.cycle * rodTu + s.angle + 1024 ≤ r * rodTu + b.angle then admitSingly follow o s1
    else slideLate follow o s1

/-- A GATED bead becomes eligible now: it is considered for the present rod, and for the next one once its pass has closed. Where both name it, the occurrence of the present rod does not slide into the next (R157). -/
def singleAdmit (bead : Nat) (s : State) : State :=
  let y := fget {} (tableAt s (s.cycle + 1)) bead
  if s.abacus.running = false then s
  else if s.abacus.next.isNone then considerRod false bead s.cycle (s.bead bead) s
  else
    considerRod false bead (s.cycle + 1) y
      (considerRod (!wantedNow s bead (s.cycle + 1) y) bead s.cycle (s.bead bead) s)

/-! ## Traces (R300, R301) -/

/-- Append one entry; after the trigger, `post` entries more stop the channel. -/
def traceEntry (c : Nat) (v : Word) (tag : Nat) (s : State) : State :=
  let x := s.trace c
  let fullUp := decide (x.entries.length ≥ 4096)
  let y : Trace := { x with
    entries := (if fullUp then x.entries.drop 1 else x.entries) ++ [(v, tag)]
    triggerIndex := if fullUp && decide (x.state = 2) then x.triggerIndex - 1 else x.triggerIndex }
  if x.state = 1 then s.setTrace c y
  else if x.state = 2 then
    if x.left ≤ 1 then
      raise 0x0706 [c, x.slot, low32 x.triggerInstant.cycle, y.triggerIndex] (s.setTrace c { y with state := 3, left := 0 })
    else s.setTrace c { y with left := x.left - 1 }
  else s

/-- The register file a loop stands at between samples. -/
def committedFile (s : State) (l : Nat) : List Word :=
  let x := s.loop l
  registerFile x.inp x.out x.st (s.cfg.consts l) (s.loopDt l)

/-- Write an entry of a kind to the channels that trace a slot: kinds 2 to 4 follow every recorded PROVISIONAL entry. -/
def traceKind (l kind count : Nat) (file : List Word) (s : State) : State :=
  (List.range 16).foldl
    (fun s c =>
      let x := s.trace c
      let follows := decide (2 ≤ kind) && decide (kind ≤ 4)
      if x.slot = l ∧ (x.state = 1 ∨ x.state = 2) ∧ count % 2 ^ x.j = 0 ∧ (follows = false ∨ x.entries.any fun e => e.2 == 1 + count % 16 * 16) then traceEntry c (reg file x.register) (kind + count % 16 * 16) s
      else s) s

/-! ## Flags and states (R251, R252, R287, R304) -/

/-- A new flag word: LOOP.FLAG for every W1C bit that goes from clear to set. -/
def setFlags (l : Nat) (w : BitVec 16) (s : State) : State :=
  let x := s.loop l
  let fresh := w &&& ~~~x.flags &&& 0x7F#16
  let s1 := s.setLoop l { x with flags := w }
  if fresh = 0 then s1
  else raise 0x0705 [l, w.toNat, fresh.toNat] (fireTraces 2 (fun t => t.slot == l && decide (t.mask &&& fresh.toNat ≠ 0)) s1)

def orFlags (l bits : Nat) (s : State) : State := setFlags l ((s.loop l).flags ||| BitVec.ofNat 16 bits) s

/-- A sample gives no result: MISS (R252). -/
def missSample (l : Nat) (s : State) : State :=
  let s1 := orFlags l missBit s
  s1.setLoop l { s1.loop l with misses := (s1.loop l).misses + 1 }

def LoopMode.code : LoopMode → Nat
  | .disabled => 0
  | .soft => 1
  | .run => 2
  | .hold => 3
  | .manual => 4

/-- Outputs of a slot's PIN routes leave the loop layer (R292). -/
def releasePins (l : Nat) (s : State) : State :=
  (routes (s.cfg.loopRec l)).foldl
    (fun s r => if r.kind = 5 then { s with pins := { s.pins with loop := fput none s.pins.loop r.target none } } else s) s

/-- A loop changes state (R287); entering SOFT prepares its first sample (R288), and HOLD left is LOOP.RELEASED (R304). -/
def setLoopMode (l : Nat) (m : LoopMode) (s : State) : State :=
  let x := s.loop l
  if x.mode = m then s
  else
    let y := { x with
      mode := m, softFirst := decide (m = .soft), manual := if m = .manual then x.manual else none
      manualNext := if m = .disabled then none else x.manualNext }
    let s1 := if x.mode = .hold then
        raise 0x0704 [l, x.held] (s.setLoop l { y with holdCause := 0, implausible := 0, plausible := 0 })
      else s.setLoop l y
    let s2 := fireTraces 3 (fun t => t.slot == l) s1
    if m = .disabled then releasePins l s2 else s2

/-- The current timing mode changes (R286). -/
def setPeriod (l : Nat) (p : Bool) (s : State) : State :=
  let x := s.loop l
  if x.period = p then s else fireTraces 3 (fun t => t.slot == l) (s.setLoop l { x with period := p })

/-- An overrun: 1 late, 2 discarded, 3 gave up (R286, R304). -/
def overrun (l cause lateness : Nat) (s : State) : State :=
  let x := s.loop l
  let s1 := s.setLoop l { x with clean := 0, overruns := x.overruns + 1, fallbacks := if x.period then x.fallbacks else x.fallbacks + 1 }
  if x.period then s1 else raise 0x0701 [l, cause, low32 s.cycle, min lateness 65535] (setPeriod l true s1)

/-! ## Routes (R279, R297 to R299) -/

/-- A value limited to 0 to 1, and whether the limit acted (R297). -/
def unit01 (v : Word) : Word × Bool := if mant v < 0 then (zeroWord, true) else if ltFp oneWord v then (oneWord, true) else (v, false)

/-- A value of 0 to 1 in units of 0.01 %. -/
def percent2 (v : Word) : Nat := ((exact v).times 10000 1).rounded 0 |>.toNat

/-- Beads of a GATE route that become eligible are admitted singly (R22, R298). -/
def admitGate (l : Nat) (r : Route) (before : Option Word) (after : Word) (s : State) : State :=
  let old := match before with
    | none => 0
    | some v => gateCount v r.count
  let new := gateCount after r.count
  if (s.loop l).mode = .disabled then s
  else ((List.range new).drop old).foldl (fun s i => singleAdmit (r.target + i) s) s

/-- H as the next main pass takes it, where this write comes at its tick or after (R21, R228). -/
def lateWrite (s : State) : Option (Option Nat) :=
  if s.reck.heatLate.isSome ∨ s.angle < 61440 then s.reck.heatLate else some (if s.reck.fallback then none else s.reck.heatWritten)

/-- One committed output reaches its route. -/
def applyRoute (l o : Nat) (v : Word) (s : State) : State :=
  let r := route (s.cfg.loopRec l) o
  let before := fget none (s.loop l).applied o
  let u := unit01 v
  let limited := decide (1 ≤ r.kind) && decide (r.kind ≤ 3)
  let w := if limited then u.1 else v
  let s1 := s.setLoop l { s.loop l with applied := fput none (s.loop l).applied o (some w) }
  let s2 := if limited && u.2 then orFlags l satBit s1 else s1
  match r.kind with
  | 1 => { s2 with fan := { s2.fan with zones := fput none s2.fan.zones r.target (some w) } }
  | 2 =>
    let c := fget {} s2.vent.channels r.target
    { s2 with vent := { s2.vent with channels := fput {} s2.vent.channels r.target { c with route := some (percent2 w), stopHold := c.stopHold && decide (c.route = some (percent2 w)) } } }
  | 4 => admitGate l r before w s2
  | 5 => { s2 with pins := { s2.pins with loop := fput none s2.pins.loop r.target (some (!ltFp w 0x40000000#32)) } }
  | 6 => { s2 with reck := { s2.reck with heatWritten := some ((exact w).rounded 0).toNat, heatInstant := s2.phase.now, fallback := false, heatLate := lateWrite s2 } }
  | _ => s2

/-- A committed result reaches its routes; none of a DISABLED loop does (R287, R292). -/
def applyOut (l : Nat) (out : List Word) (s : State) : State :=
  if (s.loop l).mode = .disabled then s else (List.range 16).foldl (fun s o => applyRoute l o (reg out o) s) s

/-- The outputs that a mask names reach their routes (R291). -/
def applyNamed (l mask : Nat) (out : List Word) (s : State) : State :=
  ((List.range 16).filter (bit mask)).foldl (fun s o => applyRoute l o (reg out o) s) s

/-- Results of a loop that are due by now are applied in order (R283, R285). -/
def applyDue (l : Nat) (s : State) : State :=
  let x := s.loop l
  let due := x.due.filter fun d => Instant.le d.instant s.phase.now
  due.foldl (fun s d => applyOut l d.out s) (s.setLoop l { x with due := x.due.filter fun d => !Instant.le d.instant s.phase.now })

/-- Every result due by now. -/
def applyAllDue (s : State) : State :=
  (s.engine.loops.filter fun e => !e.2.due.isEmpty).foldl (fun s e => applyDue e.1 s) s

/-! ## Loop-condition triggers (R88, R101) -/

/-- The swath stands in the stack, or its setting is staged. -/
def swathWanted (s : State) (n : Nat) : Bool := s.cfg.inStack n || s.cfg.staged.any fun x => x.swath == some n

/-- One trigger on a committed output. -/
def trigger (i : Nat) (v : List Byte) (x : Word) (s : State) : State :=
  let on := BitVec.ofNat 32 (u32 v 4)
  let off := BitVec.ofNat 32 (u32 v 8)
  let n := u16 v 12
  let c := fget {} s.cfg.triggers i
  let up := if leFp on x then c.on + 1 else 0
  let down := if leFp x off then c.off + 1 else 0
  let s1 := { s with cfg := { s.cfg with triggers := fput {} s.cfg.triggers i { on := min up 65536, off := min down 65536 } } }
  let set := if u8 v 14 = 0 then decide (up = n) else decide (down = n)
  let clear := if u8 v 14 = 0 then decide (down = n) else decide (up = n)
  if set then stageSet (u8 v 3) 1 i s1
  else if clear && swathWanted s1 (u8 v 3) then
    match s1.cfg.swath (u8 v 3) with
    | none => s1
    | some w => stageSwath w.level none 1 i s1
  else s1

/-- Every trigger on the committed outputs of a loop. -/
def runTriggers (l : Nat) (out : List Word) (s : State) : State :=
  ((s.cfg.recordsOf 0x0202).filter fun r => u16 r.value 0 == l).foldl
    (fun s r => trigger r.inst r.value (reg out (u8 r.value 2)) s) s

/-! ## Committing (R242, R253, R283, R286, R288) -/

/-- A clean sample in PERIOD counts toward the return to IMMEDIATE (R286). -/
def countClean (l : Nat) (s : State) : State :=
  let x := s.loop l
  let n := x.clean + 1
  if n = 256 ∧ loopPeriodCfg (s.cfg.loopRec l) = false then
    raise 0x0702 [l, low32 s.cycle] (setPeriod l false (s.setLoop l { x with clean := n }))
  else s.setLoop l { x with clean := n }

/-- A sample that neither overran nor was clean (R286). -/
def unclean (l : Nat) (s : State) : State := s.setLoop l { s.loop l with clean := 0 }

/-- The timing-mode rule for a committed sample (R286). -/
def timing (l : Nat) (instant : Instant) (period : Bool) (s : State) : State :=
  let v := s.cfg.loopRec l
  let due := instant.tu + (if period then loopP v else loopWindow v)
  let now := s.phase.now.tu
  if due < now then overrun l 1 (now - due) (orFlags l lateBit s)
  else if period && decide (now ≤ instant.tu + loopWindow v) then countClean l s
  else unclean l s

/-- The result of a sample becomes the loop's committed state, and reaches its routes at the tick of R283. -/
def commit (l : Nat) (r : Result) (instant : Instant) (kind : Nat) (s : State) : State :=
  let v := s.cfg.loopRec l
  let period := r.period
  let s1 := updateModel l r.inputs r.predicted s
  let x := s1.loop l
  let s2 := s1.setLoop l { x with
    inp := r.inputs, out := r.outs, st := r.states, lastCommit := s.phase.now
    accepted := r.provisional.foldl (fun m i => fput none m i (some (reg r.inputs i))) x.accepted
    history := (reg r.outs (supModelOut (s.cfg.sup l)) :: x.history).take 64 }
  let w := mergeFlags x.flags r.flags r.first ||| (if r.check then BitVec.ofNat 16 plausBit else 0)
  let s3 := setFlags l w s2
  let s4 := if (s3.loop l).mode = .soft ∧ r.soft ∧ r.ramped = false then setLoopMode l .run s3 else s3
  let s5 := traceKind l kind r.count r.file (runTriggers l r.outs s4)
  let at_ := instant.tu + loopP v
  let s6 := if period && decide (s.phase.now.tu < at_) then
      s5.setLoop l { s5.loop l with due := (s5.loop l).due ++ [{ instant := Instant.ofTu at_, out := r.outs }] }
    else applyOut l r.outs s5
  timing l instant period s6

/-! ## Running a sample (R238, R261, R288) -/

/-- One output of a SOFT sample limited by its ramp, and whether the limit acted (R288). -/
def rampOne (rec : List Byte) (x : Sample) (o : Nat) (v : Word) : Word × Bool :=
  let ramp := supRamp x.sup o
  if (route rec o).soft = false ∨ mant ramp ≤ 0 then (v, false)
  else
    let prev := reg (if x.base.isEmpty then x.out else x.base) o
    let step := (exact ramp).mul (exact x.dt)
    let d := (exact v).sub (exact prev)
    if d.abs.le step then (v, false)
    else (toWord ((exact prev).add (if d.num < 0 then step.neg else step)), true)

/-- What the ramps of the first SOFT sample start from: the feedback input latched at it, else the value last applied on the route (R288). -/
def rampBase (s : State) (l : Nat) (inputs : List Word) : List Word :=
  (List.range 16).map fun o =>
    let f := (route (s.cfg.loopRec l) o).feedback
    if f = 0xFF then (fget none (s.loop l).applied o).getD zeroWord else reg inputs f

/-- State registers a sample starts from: those its loop's latest earlier entry left, else the committed ones (R184, R238). -/
def stateBefore (s : State) (l : Nat) (order : Nat) : List Word :=
  match (s.carry.entries.filter fun e => (e.2.kind == 1 || e.2.kind == 3) && e.2.owner == l && decide (e.2.order < order) && e.2.result.ready).foldr
      insertEntry [] |>.getLast? with
  | none => (s.loop l).st
  | some e => e.2.result.states

/-- Run a loop's program on what a sample holds (R238, R242). -/
def runProgram (c : Cfg) (x : Sample) : Result :=
  let (file, flags, first) := runStages (stagesOf (c.program x.slot)) 0 (registerFile x.inputs x.out x.st x.consts x.dt, 0, none)
  let outs := (file.drop 16).take 16
  let ramps := if x.soft then outs.mapIdx (rampOne (c.loopRec x.slot) x) else outs.map fun v => (v, false)
  { ready := true, file := putRun file 16 (ramps.map Prod.fst), flags := flags, first := first, check := x.check, soft := x.soft,
    base := x.base, ramped := ramps.any Prod.snd, predicted := x.predicted, provisional := x.reads.map Prod.fst, inputs := x.inputs,
    dt := x.dt, count := x.count, period := x.period }

/-! ## Samples that are under way -/

/-- A function on every sample of the engine, wherever it stands. -/
def mapSamples (f : Sample → Sample) (s : State) : State :=
  { s with engine := { s.engine with
    queue := s.engine.queue.map f
    thirds := s.engine.thirds.map f
    processors := s.engine.processors.foldl (fun m e => fput {} m e.1 { e.2 with sample := e.2.sample.map f }) s.engine.processors
    loops := s.engine.loops.foldl (fun m e => fput {} m e.1 { e.2 with waiting := e.2.waiting.map f }) s.engine.loops } }

/-- The sample of an entry that drops: one not yet started leaves the queue, one that runs goes on for nothing (R189, R263). -/
def dropSample (entry : Nat) (s : State) : State :=
  let s1 := { s with engine := { s.engine with queue := s.engine.queue.filter fun x => x.entry != some entry } }
  mapSamples (fun x => if x.entry = some entry then { x with entry := none, dropped := true } else x) s1

/-! ## Settling and dropping (R185, R187, R189, R190) -/

/-- A chain is over: its latency from the opening of its oldest root (R197). -/
def noteLatency (es : List (Nat × CarryEntry)) (s : State) : State :=
  match es.find? fun e => e.2.root with
  | none => s
  | some e =>
    let d := s.phase.now.tu - e.2.opened.tu
    { s with carry := { s.carry with latencies := (d :: s.carry.latencies).take 1024, latencyMax := max s.carry.latencyMax (min d 65535) } }

/-- One entry of a chain that settles, after a recomputation or without one (R187, R300). -/
def settleEntry (recomputed : Bool) (e : Nat × CarryEntry) (s : State) : State :=
  if e.2.kind = 1 ∨ e.2.kind = 3 then
    if e.2.result.ready then commit e.2.owner e.2.result e.2.instant (if recomputed then 3 else 2) s
    else mapSamples (fun x => if x.entry = some e.1 then { x with entry := none } else x) s
  else
    let f := fun (o : Occ) => if o.entry = some e.1 then { o with state := 0, entry := none, settled := some s.phase.now } else o
    { s with abacus := { s.abacus with
      current := s.abacus.current.map f, next := s.abacus.next.map fun l => l.map f, sliding := s.abacus.sliding.map f } }

def settleChain (chain : Nat) (s : State) : State :=
  let es := chainEntries s chain
  let s1 := noteLatency es (freeEntries es s)
  let recomputed := es.any fun e => e.2.recomputed
  let s2 := if recomputed then s1
            else { s1 with carry := { s1.carry with settled := min (s1.carry.settled + 1) 0xFFFFFFFF } }
  es.foldl (fun s e => settleEntry recomputed e s) s2

/-- A chain settles once every root is HELD and none waits to be recomputed (R187, R188). -/
def trySettle (chain : Nat) (s : State) : State :=
  let es := chainEntries s chain
  if es ≠ [] ∧ (es.all fun e => (!e.2.root || e.2.state == 2) && !e.2.recompute) then settleChain chain s else s

/-- One entry of a chain that drops (R189). -/
def dropOne (e : Nat × CarryEntry) (s : State) : State :=
  if e.2.kind = 1 ∨ e.2.kind = 3 then
    let l := e.2.owner
    let s1 := unclean l (missSample l (dropSample e.1 s))
    let s2 := { s1 with carry := { s1.carry with dropsNow := (l, s.phase.now) :: s1.carry.dropsNow.filter fun d => d.2 == s.phase.now } }
    if e.2.result.ready then traceKind l 4 e.2.result.count (committedFile s2 l) s2
    else traceKind l 5 (s2.loop l).samples (committedFile s2 l) s2
  else skipOccs (fun o => o.entry == some e.1) 2 s

def dropChain (chain cause : Nat) (s : State) : State :=
  let es := chainEntries s chain
  if es = [] then s
  else
    let s1 := es.foldl (fun s e => dropOne e s) s
    let owner := ((es.find? fun e => e.2.root).map fun e => e.2.owner).getD 0
    raise 0x0501 [chain, cause, es.length, owner] (countDropped cause (noteLatency es (freeEntries es s1)))

/-- A root's input or lease is in (R185, R186). -/
def holdRoot (e : Nat) (s : State) : State := s.setEntry e { s.entry e with state := 2 }

/-- Drop every chain that has a root a test names; the number of roots dropped. -/
def dropRoots (p : CarryEntry → Bool) (cause : Nat) (s : State) : State :=
  ((s.carry.entries.filter fun e => e.2.root && p e.2).map Prod.fst).foldl
    (fun s e => if (s.entry e).state = 0 then s else dropChain (s.entry e).chain cause s) s

/-- Roots that a test names. -/
def countRoots (s : State) (p : CarryEntry → Bool) : Nat := (s.carry.entries.filter fun e => e.2.root && p e.2).length

/-- Every LEASE root resting on a lease or loan is confirmed (R185, R224). -/
def confirmRoots (number : Nat) (s : State) : State :=
  let es := (s.carry.entries.filter fun e => e.2.kind == 2 && e.2.root && e.2.source == number).map Prod.fst
  let s1 := es.foldl (fun s e => holdRoot e s) s
  es.foldl (fun s e => if (s.entry e).state = 0 then s else trySettle (s.entry e).chain s) s1

/-! ## Provisional eligibility (R176, R298) -/

/-- PROV beads that a loop's provisional outputs make eligible are admitted singly. -/
def admitProvGates (l : Nat) (r : Result) (s : State) : State :=
  (List.range 16).foldl
    (fun s o =>
      let g := route (s.cfg.loopRec l) o
      if g.kind = 4 then
        (List.range (gateCount (reg r.outs o) g.count)).foldl
          (fun s i =>
            let b := g.target + i
            if (beadOf (s.bead b).record).prov && !eligibleNow s b then singleAdmit b s else s) s
      else s) s

/-! ## Recomputation (R188) -/

/-- The inputs of a loop entry with its LOOP inputs from the chain's provisional results of entries opened before it, and the arrived value of a root. -/
def chainInputs (s : State) (e : CarryEntry) (inputs : List Word) : List Word :=
  (bindings (s.cfg.loopRec e.owner)).mapIdx fun i b =>
    let old := reg inputs i
    if b.kind = 5 then
      match (chainEntries s e.chain).filter (fun x => x.2.owner == b.index && (x.2.kind == 1 || x.2.kind == 3) && decide (x.2.order < e.order)
          && x.2.result.ready) |>.getLast? with
      | none => old
      | some p => reg p.2.result.outs b.a
    else if e.kind = 1 ∧ e.input = i then e.arrived.getD old
    else old

/-- A loop entry is run again (R188); one whose sample has not run yet takes the new inputs when it runs. -/
def rerun (e : Nat) (root : Bool) (s : State) : State :=
  let x := s.entry e
  let l := x.owner
  let y := { x with recomputed := x.recomputed || root }
  if x.result.ready then
    let r := x.result
    let again : Sample :=
      { slot := l, inputs := chainInputs s x r.inputs, out := (s.loop l).out, st := if root then (s.loop l).st else stateBefore s l x.order
        consts := s.cfg.consts l, sup := s.cfg.sup l, dt := r.dt, soft := r.soft, base := r.base, predicted := r.predicted, check := r.check
        count := r.count, period := r.period }
    s.setEntry e { y with result := { runProgram s.cfg again with provisional := r.provisional } }
  else
    let s1 := mapSamples (fun z => if z.entry = some e then { z with inputs := chainInputs s x z.inputs } else z) s
    s1.setEntry e y

/-- A BEAD_DEP that is no longer eligible drops alone (R188). -/
def recheckDep (e : Nat) (s : State) : State :=
  let x := s.entry e
  if x.kind = 4 ∧ eligibleNow s x.owner = false ∧ (provisionalGate s x.owner).isNone then dropEntry e 8 2 s else s

/-- Recompute a chain from a root with its arrived value (R188). -/
def recompute (e : Nat) (s : State) : State :=
  let x := s.entry e
  let s0 := { s with
    engine := { s.engine with recomputes := s.engine.recomputes.filter (· != e) }
    carry := { s.carry with recomputed := min (s.carry.recomputed + 1) 0xFFFFFFFF } }
  let s1 := rerun e true (s0.setEntry e { x with recompute := false })
  let later := (chainEntries s1 x.chain).filter fun y => (y.2.kind == 1 || y.2.kind == 3) && decide (x.order < y.2.order)
  let again := (later.filter fun y => y.2.kind == 3 && y.2.result.ready).length
  let s2 := later.foldl (fun s y => rerun y.1 false s) s1
  let deps := (chainEntries s2 x.chain).filter fun y => y.2.kind == 4
  let s3 := raise 0x0502 [e, x.owner, x.input, again] (deps.foldl (fun s y => recheckDep y.1 s) s2)
  trySettle x.chain s3

/-! ## Arrivals (R186, R282) -/

/-- An awaited value, stamped by the block that received it, arrives for a root (R186); the settle check is the caller's. -/
def arriveRoot (v : ReadValue) (stamp : Instant) (e : Nat) (s : State) : State :=
  let x := s.entry e
  let late := match chainHorizon s x.chain with
    | none => false
    | some h => decide (h.tu < stamp.tu)
  if x.state ≠ 1 then s
  else if late then dropChain x.chain 1 s
  else if implausible s x.owner x.input v then dropChain x.chain 3 s
  else
    let s1 := accept x.owner x.input v.1 s
    if ((exact v.1).sub (exact x.predicted)).abs.le (exact x.tolerance) then s1.setEntry e { x with state := 2, arrived := some v.1 }
    else
      let s2 := s1.setEntry e { x with state := 2, arrived := some v.1, recompute := true }
      { s2 with engine := { s2.engine with recomputes := s2.engine.recomputes ++ [e] } }

/-- Binding of an INPUT entry. -/
def entryBinding (s : State) (x : CarryEntry) : Binding := binding (s.cfg.loopRec x.owner) x.input

/-- The OPEN INPUT roots whose binding a test names, in order of entry number. -/
def openInputs (s : State) (p : Binding → Bool) : List Nat :=
  (s.carry.entries.filter fun e => e.2.kind == 1 && e.2.root && e.2.state == 1 && p (entryBinding s e.2)).map Prod.fst

/-- Chains settle once all arrivals of a tick are taken. -/
def settleAll (s : State) : State :=
  ((s.carry.entries.map fun e => e.2.chain).eraseDups).foldl (fun s c => trySettle c s) s

/-- A sample enters the queue of R262. -/
def enqueue (x : Sample) (s : State) : State :=
  { s with engine := { s.engine with queue := s.engine.queue ++ [x], peakWaiting := max s.engine.peakWaiting (s.engine.queue.length + 1) } }

/-- A sample whose inputs are known counts in the implausible or the plausible run of its loop (R295). -/
def countInputs (l : Nat) (bad : Bool) (s : State) : State :=
  let x := s.loop l
  s.setLoop l { x with
    implausibles := if bad then x.implausibles + 1 else x.implausibles
    implausible := if bad then x.implausible + 1 else 0
    plausible := if bad then 0 else x.plausible + 1 }

/-- A held sample: its inputs update the model, with u held (R295); it is neither late nor clean (R286). -/
def heldSample (l : Nat) (inputs : List Word) (predicted : Word) (bad : Bool) (s : State) : State :=
  let s1 := updateModel l inputs predicted s
  let x := s1.loop l
  let s2 := s1.setLoop l { x with history := (reg x.out (supModelOut (s.cfg.sup l)) :: x.history).take 64, held := x.held + 1, clean := 0 }
  let s3 := if bad then orFlags l plausBit s2 else s2
  traceKind l 6 x.samples (committedFile s3 l) s3

/-- LOOP.HOLD (R304). -/
def enterHold (l cause detail : Nat) (value : Word) (s : State) : State :=
  let s1 := setLoopMode l .hold s
  raise 0x0703 [l, cause, detail, value.toNat] (s1.setLoop l { s1.loop l with holdCause := cause, held := 0, plausible := 0 })

/-- A sample that waits takes a value that arrives for inputs it awaits. An implausible one counts, and may complete plaus_limit (R295); the sample enters the queue when it awaits no other (R282). -/
def feedWaiting (l : Nat) (p : Binding → Bool) (v : ReadValue) (s : State) : State :=
  match (s.loop l).waiting with
  | none => s
  | some w =>
    let (hit, rest) := w.awaits.partition fun i => p (binding (s.cfg.loopRec l) i)
    if hit.isEmpty then s
    else
      let wrong := hit.filter fun i => implausible s l i v
      let u := fun (i : Nat) => if wrong.contains i then predictInput s l i else v.1
      let w1 : Sample := { w with
        inputs := hit.foldl (fun ws i => ws.set i (u i)) w.inputs, check := w.check || !wrong.isEmpty, awaits := rest }
      let s1 := hit.foldl (fun s i => accept l i (u i) s) s
      let s2 := if !wrong.isEmpty && !w.check then orFlags l plausBit (countInputs l true s1)
        else if rest.isEmpty && !w1.check then countInputs l false s1 else s1
      if !wrong.isEmpty && !w.check && decide ((s2.loop l).implausible ≥ u8 (s.cfg.sup l) 20) then
        let s3 := enterHold l 1 (wrong.headD 0) v.1 (s2.setLoop l { s2.loop l with waiting := none })
        heldSample l w1.inputs w1.predicted true s3
      else if rest.isEmpty then enqueue { w1 with check := false } (s2.setLoop l { s2.loop l with waiting := none })
      else s2.setLoop l { s2.loop l with waiting := some w1 }

/-- A sample whose latch still waits for a producer takes a value that arrives as one that came in time (R281, R282). -/
def feedLoose (p : Binding → Bool) (v : ReadValue) (s : State) : State :=
  let f := fun (x : Sample) =>
    let (hit, rest) := x.awaits.partition fun i => p (binding (s.cfg.loopRec x.slot) i)
    if x.loose then { x with raw := hit.foldl (fun (rs : List (Word × Bool)) i => rs.set i v) x.raw, awaits := rest } else x
  { s with engine := { s.engine with queue := s.engine.queue.map f } }

/-- A value that some inputs await arrives: open roots in order of entry, then waiting samples. -/
def arrive (p : Binding → Bool) (v : ReadValue) (stamp : Instant) (s : State) : State :=
  let s1 := (openInputs s p).foldl (fun s e => arriveRoot v stamp e s) s
  let s2 := feedLoose p v (settleAll s1)
  s2.engine.loops.foldl (fun s e => if e.2.waiting.isSome then feedWaiting e.1 p v s else s) s2

/-- The transaction awaited by some roots failed (R190, R191): cause 2 or 9. -/
def failInputs (tx cause : Nat) (s : State) : State :=
  ((s.carry.entries.filter fun e => e.2.state == 1 && e.2.tx == some tx).map Prod.fst).foldl
    (fun s e => if (s.entry e).state = 1 then dropChain (s.entry e).chain cause s else s) s

end Sys2Proof.Machine
end

