-- ==== Sys2Proof/Machine/Carry.lean ====
section
/-! DEFINITION. Chapter 06: the horizon of a chain, and the CARRY commands. -/

namespace Sys2Proof.Machine

/-- CHAIN_HORIZON: the chain's horizon passes with an INPUT root OPEN (R185, R189), a tick after it, so that an arrival at its tick still counts (R186, R192). -/
def execChainHorizon (chain : Nat) (s : State) : Host.Outcome State Fault Refusal :=
  match chainHorizon s chain with
  | none => .next s
  | some h =>
    let t := h.add 1
    if t.tu ≤ s.phase.now.tu then .next (dropChain chain 1 s)
    else if t.cycle = s.cycle then .next (dropChain chain 1 (s.atAngle t.angle))
    else .next s

/-- The chains that live. -/
def chainsOf (s : State) : List Nat := (s.carry.entries.map fun e => e.2.chain).eraseDups

def execCarryInfo (mbx : Nat) (s : State) : Host.Outcome State Fault Refusal :=
  .next (serveRead 0x0501 1 (· == 0) (fun _ s =>
    ok (le 1 s.carry.entries.length ++ le 1 (chainsOf s).length ++ le 1 (u8 s.cfg.carry 0) ++ le 1 (u8 s.cfg.carry 1)
      ++ le 1 (flag s.carry.full 0) ++ zeros 3)) mbx s)

def execCarryList (mbx : Nat) (s : State) : Host.Outcome State Fault Refusal :=
  .next (serveRead 0x0502 1 (· == 0) (fun _ s =>
    ok (le 16 (((List.range 128).map fun e => flag (decide ((s.entry e).state ≠ 0)) e).sum))) mbx s)

def entryFlags (x : CarryEntry) : Nat := flag x.root 0 + flag x.recomputed 1 + flag x.slid 2

/-- The 32 bytes of an entry (R182). -/
def CarryEntry.bytes (x : CarryEntry) : List Byte :=
  let h := if x.root then x.horizon.getD {} else {}
  let input := decide (x.kind = 1)
  le 1 x.state ++ le 1 x.kind ++ le 1 x.chain ++ le 1 (entryFlags x) ++ le 2 x.owner ++ le 1 x.sourceKind
    ++ le 1 (if input then x.input else 0) ++ le 4 x.source ++ le 4 (low32 x.opened.cycle) ++ le 2 x.opened.angle ++ le 2 h.angle
    ++ le 4 (low32 h.cycle) ++ le 4 (if input then x.predicted.toNat else 0) ++ le 4 (if input then x.tolerance.toNat else 0)

/-- The provisional output that CARRY.READ shows: OUT0 of a loop entry that has run. -/
def shownOutput (x : CarryEntry) : Nat := if (x.kind = 1 ∨ x.kind = 3) ∧ x.result.ready then (reg x.result.outs 0).toNat else 0

def execCarryRead (mbx : Nat) (s : State) : Host.Outcome State Fault Refusal :=
  .next (serveRead 0x0503 1 (· == 4) (fun c s =>
    let e := u8 c.pay 0
    if e > 127 ∨ allZero (slice c.pay 1 3) = false then bad 6
    else
      let x := s.entry e
      ok (if x.state = 0 then zeros 40 else x.bytes ++ le 4 (shownOutput x) ++ zeros 4)) mbx s)

/-- The horizon of a chain as CARRY.CHAIN reads it; for a chain without one (R185) the manual states none (log 28). -/
def horizonRead (s : State) (n : Nat) : Instant :=
  (chainHorizon s n).getD (Instant.ofTu (Config.unstatedHorizon n s.phase.now.tu).toNat)

def execCarryChain (mbx : Nat) (s : State) : Host.Outcome State Fault Refusal :=
  .next (serveRead 0x0504 1 (· == 4) (fun c s =>
    let e := u8 c.pay 0
    if e > 127 ∨ allZero (slice c.pay 1 3) = false then bad 6
    else if (s.entry e).state = 0 then bad 8
    else
      let n := (s.entry e).chain
      let es := chainEntries s n
      let h := horizonRead s n
      ok (le 1 n ++ le 1 (es.filter fun x => x.2.root).length ++ le 1 es.length ++ zeros 1 ++ cycle64 h.cycle ++ le 2 h.angle ++ zeros 6
        ++ es.flatMap fun x => le 1 x.1)) mbx s)

/-- The counters of R197, 58 bytes. -/
def carryCounters (k : Carry) : List Byte :=
  le 4 k.opened ++ le 4 k.settled ++ le 4 k.recomputed ++ ((List.range 9).flatMap fun i => le 4 (fget 0 k.dropped (i + 1)))
    ++ le 4 k.refused ++ le 1 k.peak ++ le 1 k.longest
    ++ le 2 (sat 65535 (if k.latencies.isEmpty then 0 else divNear k.latencies.sum k.latencies.length)) ++ le 2 k.latencyMax

def execCarryStats (mbx : Nat) (s : State) : Host.Outcome State Fault Refusal :=
  .next (serveRead 0x0505 1 (· == 0) (fun _ s => ok (carryCounters s.carry ++ zeros 2)) mbx s)

def execCarryStatsClear (mbx : Nat) (s : State) : Host.Outcome State Fault Refusal :=
  .next (serve 0x0506 2 (· == 0) (fun _ s =>
    ({ s with carry := { s.carry with
      opened := 0, settled := 0, recomputed := 0, dropped := [], refused := 0, peak := 0, longest := 0, latencies := [], latencyMax := 0 } },
      ok [])) mbx s)

def execCarryDrop (mbx : Nat) (s : State) : Host.Outcome State Fault Refusal :=
  .next (serve 0x0507 2 (· == 4) (fun c s =>
    let e := u8 c.pay 0
    if e > 127 ∨ allZero (slice c.pay 1 3) = false then (s, bad 6)
    else if (s.entry e).state = 0 then (s, ok (zeros 4))
    else
      let n := (s.entry e).chain
      (dropChain n 7 s, ok (le 1 (chainEntries s n).length ++ zeros 3))) mbx s)

end Sys2Proof.Machine
end

