-- ==== Sys2Proof/Machine/Abacus.lean ====
section
/-! DEFINITION. Chapter 05: the main pass, the check of a provisional occurrence, arming calendar beads, the end of a pulse, and the BEAD commands. -/

namespace Sys2Proof.Machine

/-! ## The main pass (R156, R157, R209) -/

/-- The entry of an occurrence follows it into a later rod (R158, R180). -/
def moveEntry (o : Occ) (s : State) : State :=
  match o.entry with
  | none => s
  | some e =>
    let x := s.entry e
    s.setEntry e { x with slid := true, horizon := if x.root then some (checkInstant o.rod o.bead_.angle) else none }

/-- An occurrence that holds an entry slides on, or its entry comes to the end of its slack: a LEASE root takes its chain with it (R158, R180, R190). The occurrence stands in no list. -/
def slideHeld (c : Occ) (e : Nat) (s : State) : State :=
  let o := { c with rod := c.rod + 1, slid := c.slid + 1, state := 0 }
  if c.slid < c.bead_.slack then
    moveEntry o { s with abacus := { s.abacus with sliding := s.abacus.sliding ++ [o], slidCount := s.abacus.slidCount + 1 } }
  else
    let s1 := { s with abacus := { s.abacus with sliding := s.abacus.sliding ++ [{ c with state := 0 }] } }
    if (s.entry e).root then dropChain (s.entry e).chain 6 s1 else dropEntry e 6 2 s1

/-- The entry of a BEAD_DEP occurrence that only the pending limits let in becomes a LEASE root of its chain, which names the lease or loan it rests on (R213; log 26). -/
def leaseRoot (c : Occ) (e : Nat) (s : State) : State :=
  let x := s.entry e
  s.setEntry e { x with kind := 2, root := true, sourceKind := 3, source := (rootSource s c.rod (accountsOf s c.rod) c.bead_).getD 0 }

/-- A candidate that still holds an entry is admitted on it, or slides (R158, R209, R213). -/
def decideHeld (list rest : List Occ) (c : Occ) (e : Nat) (s : State) : State :=
  let a := accountsOf s c.rod
  let x := s.entry e
  let roots := ((chainEntries s x.chain).filter fun y => y.2.root).length
  if (blocked c.rod list rest c).isSome ∨ (shutOut s c.rod c.bead_).isSome
      ∨ (refusing a (pendPower s c.rod) (pendRamp s c.rod) (heatLimit s c.rod) c.bead_).isSome then
    slideHeld c e s
  else if x.root ∨ (refusing a (limPower s c.rod) (limRamp s c.rod) (heatLimit s c.rod) c.bead_).isNone then
    moveEntry c (admitOcc c (some e) s)
  else if 4 ≤ roots then slideHeld c e s
  else moveEntry c (admitOcc c (some e) (leaseRoot c e s))

/-- The candidates of a pass in order (R209). -/
def passFrom : List Occ → List Nat → State → State
  | [], _, s => s
  | c :: cs, asked, s =>
    let list := s.abacus.next.getD []
    match c.entry with
    | some e => passFrom cs asked (decideHeld list cs c e s)
    | none =>
      match blocked c.rod list cs c with
      | some k => passFrom cs asked (refuseOcc c k s)
      | none =>
        let (s1, asked1) := maybeBorrow c asked s
        passFrom cs asked1 (decide_ c s1)

/-- RECK.METER_INVALID once per episode of a phase (R207). -/
def noteMeter (r p : Nat) (s : State) : State :=
  let bad := phaseInvalid s r p
  let was := s.reck.meterEpisode.getD p false
  let s1 := { s with reck := { s.reck with meterEpisode := s.reck.meterEpisode.set p bad } }
  if bad && !was then raise 0x0608 [p + 1] s1 else s1

/-- What the pass leaves for R220, and for R227, R231 and R233 without provisional reservations. -/
def closePass (r : Nat) (forecast shown : List Int) (heat : Int) (s : State) : State :=
  let excess := match heatLimit s r with
    | none => 0
    | some h => max 0 (heat - h)
  { s with reck := { s.reck with
    forecast := forecast, shown := shown, forecastHeat := heat, excess := excess
    limit := (List.range 3).map (limPower s r), rampLimit := (List.range 3).map (limRamp s r)
    forecasts := (forecast :: s.reck.forecasts).take 256 } }

/-- A phase over its limit is free again once its forecast lies within the limit (R219). -/
def freePhases (r : Nat) (forecast : List Int) (s : State) : State :=
  { s with reck := { s.reck with overLimit := s.reck.overLimit.mapIdx fun p x => x && decide (limPower s r p < forecast.getD p 0) } }

/-- The pass takes H as written before angle 61,440 (R21, R228). -/
def latchHeat (s : State) : State :=
  match s.reck.heatLate with
  | none => s
  | some h => { s with reck := { s.reck with heatWritten := h, fallback := h.isNone } }

/-- The main pass for the next rod (R209). -/
def runMainPass (s : State) : State :=
  let r := (s.cycle + 1) % 2 ^ 48
  let s0 := (List.range 3).foldl (fun s p => noteMeter r p s) (latchHeat s)
  let open_ := openAccounts s0 r
  let shown := (List.range 3).map (forecastPower s0 r false)
  let shownHeat := forecastHeat s0 r false
  let s1 := freePhases r open_.power { s0 with
    reck := { s0.reck with charges := open_, overflowed := s0.reck.overflowed.filter fun e => decide (s0.cycle ≤ e.1) }
    abacus := { s0.abacus with next := some [] } }
  let (fresh, s2) := (tableAt s1 r).foldl (fun acc e => selectBead r e acc) ([], s1)
  let s3 := fresh.foldl (fun s o => supersede o s) s2
  let slid := s3.abacus.sliding.filter fun o => decide (o.rod ≤ r)
  let s4 := { s3 with abacus := { s3.abacus with sliding := s3.abacus.sliding.filter fun o => decide (r < o.rod) } }
  let cands := (fresh ++ slid.map fun (o : Occ) => { o with rod := r }).foldr insertOcc []
  let s5 := closePass r open_.power shown shownHeat (passFrom cands [] s4)
  { s5 with reck := { s5.reck with heatWritten := s.reck.heatWritten, fallback := s.reck.fallback } }

/-- MAIN_PASS: at angle 61,440 of every rod once the abacus runs (R21, R209); one per rod. -/
def execMainPass (s : State) : Host.Outcome State Fault Refusal :=
  if s.abacus.running = false ∨ s.phase.started = false ∨ s.abacus.next.isSome then .next s
  else .next (settleAll (runMainPass (s.atAngle 61440)))

/-! ## The check of a provisional occurrence (R158) -/

/-- The occurrence slides out of its list with its entry; where a later one of its bead already waits, it is superseded (R157). -/
def slideOut (o : Occ) (e : Nat) (s : State) : State :=
  let s1 := release o (markOccs (fun x => x.entry == some e) 3 s)
  if o.rod = s.cycle ∧ s1.abacus.next.isSome ∧ o.slid < o.bead_.slack then
    let c := { o with rod := o.rod + 1, slid := o.slid + 1 }
    if (waitingOccs s1).any fun x => x.bead == o.bead && decide (o.home < x.home) then
      dropEntry e 8 1 { s1 with abacus := { s1.abacus with sliding := s1.abacus.sliding ++ [o] } }
    else decideHeld (s1.abacus.next.getD []) [] c e { s1 with abacus := { s1.abacus with slidCount := s1.abacus.slidCount + 1 } }
  else slideHeld o e s1

/-- The entry of an occurrence settled at the tick of its check, which still sees it OPEN: the occurrence slides, committed, or is skipped at the end of its slack (R192). -/
def slideSettled (o : Occ) (s : State) : State :=
  let f := fun (x : Occ) => if x = o then { x with state := 3 } else x
  let s1 := release o { s with abacus := { s.abacus with current := s.abacus.current.map f, next := s.abacus.next.map fun l => l.map f } }
  let x := { o with rod := o.rod + 1, slid := o.slid + 1, settled := none }
  if o.bead_.slack ≤ o.slid then raiseSkipped o 2 s1
  else if s1.abacus.next.isSome ∧ x.rod = s.cycle + 1 then
    testSingly x { s1 with abacus := { s1.abacus with slidCount := s1.abacus.slidCount + 1 } }
  else { s1 with abacus := { s1.abacus with sliding := s1.abacus.sliding ++ [x], slidCount := s1.abacus.slidCount + 1 } }

/-- PROVISIONAL_CHECK, 256 tu before the occurrence's instant: an entry still open makes it slide, and so does one that settled at that very tick (R158, R192). -/
def execProvisionalCheck (bead : Nat) (s : State) : Host.Outcome State Fault Refusal :=
  let open_ := fun (o : Occ) => o.state == 1 && o.entry.isSome
  let justNow := fun (o : Occ) => o.state == 0 && o.settled == some (checkInstant o.rod o.bead_.angle)
  match (s.abacus.current ++ s.abacus.next.getD []).find? fun o => o.bead == bead && (open_ o || justNow o) with
  | none => .next s
  | some o =>
    let t := checkInstant o.rod o.bead_.angle
    if t.cycle > s.cycle ∨ (justNow o ∧ t ≠ s.phase.now) then .next s
    else
      let s1 := if t.tu > s.phase.now.tu then s.atAngle t.angle else s
      .next (settleAll (match o.entry with
        | some e => slideOut o e s1
        | none => slideSettled o s1))

/-! ## Pulses (R161) -/

/-- PULSE_RETURN: the output returns to its base level. -/
def execPulseReturn (output : Nat) (s : State) : Host.Outcome State Fault Refusal :=
  let x := fget {} s.abacus.layer output
  let done := fun (s : State) => { s with abacus := { s.abacus with layer := fput {} s.abacus.layer output { x with pulse := none } } }
  match x.pulse with
  | none => .next s
  | some (_, t) =>
    if t.tu ≤ s.phase.now.tu then .next (done s)
    else if t.cycle = s.cycle then .next (done (s.atAngle t.angle))
    else .next s

/-! ## Counting occurrences (R163) -/

/-- Every record that counts: those in the table and those accepted, without those whose removal is accepted, which no later placement can meet in a rod (R165; log 25). -/
def acceptedBeads (s : State) : FMap Bead := (s.abacus.changes.filter fun c => c.kind != 2).foldl applyChange s.abacus.beads

/-- The records of a table that still count. -/
def recordsIn (m : FMap Bead) : List (Nat × BeadRec) :=
  (m.filter fun e => e.2.record != [] && !e.2.spent).map fun e => (e.1, beadOf e.2.record)

/-- The records that stay in the table: a spent configured bead keeps its slot, a spent placed one leaves it at the next boundary (R152, R162). -/
def recordsStaying (m : FMap Bead) : List (Nat × BeadRec) :=
  (m.filter fun e => e.2.record != [] && !(e.2.spent && e.2.origin == 2)).map fun e => (e.1, beadOf e.2.record)

/-- Occurrences that selectors name for a rod, and at an angle of it, those of accepted records among them (R153, R163, R165). -/
def namedCount (s : State) (r : Nat) (angle : Option Nat) : Nat :=
  ((acceptedBeads s).filter fun e =>
    e.2.record != [] && !e.2.spent && selectorNames s e.1 (beadOf e.2.record) r
      && (match angle with
          | none => true
          | some a => (beadOf e.2.record).angle == a)).length

/-! ## Calendar beads (R153, R154) -/

/-- Time of occurrence `k`, in seconds. -/
def calendarAt (b : BeadRec) (k : Nat) : Nat := b.start + k * b.period

/-- Ticks of 1/32,768 s from now to a second; none once it has passed. -/
def ticksTo (s : State) (t : Nat) : Option Nat :=
  let now := s.clock.seconds * 32768 + s.clock.fraction
  if t * 32768 < now then none else some (t * 32768 - now)

/-- The first index from `k` on whose time has not passed; a bead with period 0 has index 0 alone. -/
def firstFuture (s : State) (b : BeadRec) (k : Nat) : Nat :=
  if (ticksTo s (calendarAt b k)).isSome then k
  else if b.period = 0 then max k 1
  else max k ((s.clock.seconds - b.start) / b.period + (if (ticksTo s (calendarAt b ((s.clock.seconds - b.start) / b.period))).isSome then 0 else 1))

def State.setCalendar (s : State) (bead : Nat) (c : Calendar) : State := { s with abacus := { s.abacus with calendar := fput {} s.abacus.calendar bead c } }
def State.calendar (s : State) (bead : Nat) : Calendar := fget {} s.abacus.calendar bead

/-- A bead enters the table: a calendar bead counts its indices from the first whose time has not passed, one with the start and period it had goes on (R153, R154; log 25). -/
def enterCalendar (s : State) (e : Nat × Bead) : State :=
  let b := beadOf e.2.record
  if e.2.record = [] ∨ b.select ≠ 2 then s.setCalendar e.1 {}
  else if (s.calendar e.1).rule = some (b.start, b.period) then s
  else s.setCalendar e.1 { rule := some (b.start, b.period), next := firstFuture s b 0 }

/-- Indices whose time has passed unarmed are skipped with a cause (R154, R169). -/
def skipPassed (cause bead : Nat) (x : Bead) (s : State) : State :=
  let c := s.calendar bead
  let k := firstFuture s (beadOf x.record) c.next
  (List.range (k - c.next)).foldl (fun s _ => raiseSkipped { bead := bead, home := s.cycle, rod := s.cycle, record := x.record } cause s)
    (s.setCalendar bead { c with next := k })

/-- The first rod whose main pass has not yet closed (R153). -/
def firstOpenRod (s : State) : Nat := if s.abacus.next.isSome then s.cycle + 2 else s.cycle + 1

/-- The rod armed: the first of a rod and the next 16 that has room (R153). -/
def roomyRod (s : State) (r angle : Nat) : Option Nat :=
  ((List.range 17).map (r + ·)).find? fun x => decide (namedCount s x none < 256) && decide (namedCount s x (some angle) < 32)

/-- An index is taken: armed on a rod, or skipped for want of room. -/
def armIndex (bead k : Nat) (x : Bead) (rod : Nat) (s : State) : State :=
  let b := beadOf x.record
  let keep := fun (armed : Option Nat) => s.setCalendar bead { rule := some (b.start, b.period), next := k + 1, armed := armed }
  match roomyRod s rod b.angle with
  | none => raiseSkipped { bead := bead, home := rod, rod := rod, record := x.record } 5 (keep none)
  | some r => raise 0x0403 [bead, k, low32 r, flag s.clock.bvl 0] (keep (some r))

/-- CALENDAR_ARM: the next occurrence of a calendar bead, enabled or not, once it lies at most 512 rods ahead (R153, R163); indices jumped over are skipped (R154). -/
def execCalendarArm (bead : Nat) (s : State) : Host.Outcome State Fault Refusal :=
  let x := s.bead bead
  let b := beadOf x.record
  let waits : Bool := (s.calendar bead).armed.any fun r => decide (s.cycle ≤ r)
  if s.abacus.running = false ∨ x.record = [] ∨ b.select ≠ 2 ∨ waits = true then .next s
  else
    let s1 := skipPassed 6 bead x s
    let k := (s1.calendar bead).next
    match ticksTo s (calendarAt b k) with
    | none => .next s1
    | some t =>
      let rods := t * s.freq / (32768 * 1000000)
      if rods > 512 ∨ (b.period = 0 ∧ k ≠ 0) then .next s1 else .next (armIndex bead k x (max (s.cycle + rods) (firstOpenRod s)) s1)

/-! ## BEAD commands (R172 to R174) -/

/-- A bead number counts as not free: in the table, or accepted and waiting for its boundary (R165). -/
def beadTaken (s : State) (b : Nat) : Bool := decide ((s.bead b).origin ≠ 0) || s.abacus.changes.any fun c => c.bead == b && c.kind == 0

def lowestFree (s : State) : Option Nat := (List.range 4096).find? fun b => !beadTaken s b

/-- The conflict that refuses a placement, with its payload (R150, R162, R163, R455). -/
def placeConflict (s : State) (bead : Nat) (v : List Byte) : Option (List Byte) :=
  let rs := (s.cfg.base.map BaseImage.records).getD []
  let b := beadOf v
  let table := (acceptedBeads s).filter fun e => e.1 != bead
  match badUses rs (0, { type := 0x8401, inst := bead, value := v }) with
  | c :: _ => some (conflictPayload c.resource c.first.1 c.first.2 0x8401 bead 0)
  | [] =>
    match outputTaken (recordsStaying table) b with
    | some (res, first) => some (conflictPayload res 0x8401 first 0x8401 bead 0)
    | none => (limitBroken (recordsIn table) b).map fun p => conflictPayload p.1 0x8401 p.2 0x8401 bead 0

/-- The cost could never be admitted under the limits in force (R173). -/
def beyondBudget (s : State) (b : BeadRec) : Bool :=
  b.cls != 0 && b.phase != 0
    && (decide (limRamp s s.cycle (b.phase - 1) < b.inrush) || decide (limPower s s.cycle (b.phase - 1) < b.power))

/-- Too late to be selected or armed (R173). -/
def tooLate (s : State) (b : BeadRec) : Bool :=
  let boundary := effectBoundary s
  match b.select with
  | 1 => decide (b.cycle ≤ boundary)
  | 2 =>
    b.period == 0 && (match ticksTo s b.start with
      | none => true
      | some t => decide (s.cycle + t * s.freq / (32768 * 1000000) ≤ boundary))
  | _ => false

/-- A record passes the field checks of R145 to R151 and R273. -/
def beadFieldsOk (s : State) (bead : Nat) (v : List Byte) : Bool :=
  let r : Record := { type := 0x8401, inst := bead, value := v }
  recordDefined r && recordInRange ((s.cfg.base.map BaseImage.records).getD []) r

/-- A PUBLISH bead's point, and a CONFLICT when it may not publish it (R173, R312). -/
def publishPoint (b : BeadRec) : Option Nat := if b.type = 5 then some (u16 b.action 0) else none

def addChange (x : BeadChange) (s : State) : State := { s with abacus := { s.abacus with changes := s.abacus.changes ++ [x] } }

def placedAnswer (bead : Nat) (s : State) : Answer := ok (le 2 bead ++ zeros 6 ++ cycle64 (effectBoundary s))

/-- The checks of R173 in order, and the placement. -/
def place (pointRefused : State → Nat → Nat → Option (List Byte)) (given : Nat) (v : List Byte) (s : State) : State × Answer :=
  let bead := if given = 0xFFFF then (lowestFree s).getD 0 else given
  let b := beadOf v
  let point := match publishPoint b with
    | none => none
    | some p => pointRefused s bead p
  if (given > 4095 ∧ given ≠ 0xFFFF) ∨ beadFieldsOk s bead v = false then (s, bad 6)
  else if given ≠ 0xFFFF ∧ (s.bead given).origin = 1 then (s, bad 5)
  else if given = 0xFFFF ∧ (lowestFree s).isNone then (s, bad 2)
  else
    match placeConflict s bead v, point with
    | some p, _ => (s, { status := 7, payload := p })
    | none, some p => (s, { status := 7, payload := p })
    | none, none =>
      if beyondBudget s b then (s, bad 0x0A)
      else if tooLate s b then (s, bad 0x0F)
      else (addChange { bead := bead, kind := 0, record := v, boundary := effectBoundary s } s, placedAnswer bead s)

def execBeadRemove (mbx : Nat) (s : State) : Host.Outcome State Fault Refusal :=
  .next (serve 0x0402 2 (· == 4) (fun c s =>
    let b := u16 c.pay 0
    if b > 4095 ∨ u16 c.pay 2 ≠ 0 then (s, bad 6)
    else if (s.bead b).origin = 1 then (s, bad 5)
    else if beadTaken s b = false then (s, bad 6)
    else (addChange { bead := b, kind := 1, boundary := effectBoundary s } s, ok (cycle64 (effectBoundary s)))) mbx s)

def execBeadEnable (mbx : Nat) (s : State) : Host.Outcome State Fault Refusal :=
  .next (serve 0x0403 2 (· == 4) (fun c s =>
    let b := u16 c.pay 0
    let on := u8 c.pay 2
    if b > 4095 ∨ on > 1 ∨ u8 c.pay 3 ≠ 0 ∨ beadTaken s b = false then (s, bad 6)
    else (addChange { bead := b, kind := 2, enable := decide (on = 1), boundary := effectBoundary s } s, ok (cycle64 (effectBoundary s)))) mbx s)

/-- The next rod from `first` on that a bead is due in, 0 if none (R172). -/
def nextCycle (s : State) (bead : Nat) (x : Bead) (first : Nat) : Nat :=
  let b := beadOf x.record
  if x.spent ∨ x.record = [] ∨ b.enabled = false then 0
  else
    match b.select with
    | 0 => let m := 2 ^ b.n
           first + (b.residue + m - first % m) % m
    | 1 => if first ≤ b.cycle then b.cycle else 0
    | _ =>
      match (fget {} s.abacus.calendar bead).armed with
      | none => 0
      | some r => if first ≤ r then r else 0

/-- The record of a BEAD.PLACE that awaits its boundary, with the enables accepted after it, and that boundary (R165). -/
def pendingPlace (s : State) (bead : Nat) : Option (List Byte × Nat) :=
  (s.abacus.changes.filter fun x => x.bead == bead).foldl
    (fun a x => match x.kind with
      | 0 => some (x.record, x.boundary)
      | 1 => a
      | _ => a.map fun p => (withEnable p.1 x.enable, p.2)) none

def execBeadRead (mbx : Nat) (s : State) : Host.Outcome State Fault Refusal :=
  .next (serveRead 0x0404 1 (· == 4) (fun c s =>
    let b := u16 c.pay 0
    if b > 4095 ∨ u16 c.pay 2 ≠ 0 then bad 6
    else
      match pendingPlace s b with
      | some (v, first) => ok (le 1 2 ++ zeros 3 ++ cycle64 (nextCycle s b { origin := 2, record := v } first) ++ v)
      | none =>
        let x := s.bead b
        if x.origin = 0 then ok (zeros 44)
        else
          let slid := s.abacus.sliding.find? fun o => o.bead == b && o.entry == none
          let pending := (s.abacus.current ++ s.abacus.next.getD []).find? fun o => o.bead == b && o.state == 0
          let st := if x.spent then 3 else if slid.isSome then 2 else if pending.isSome then 1 else 0
          let next := match if slid.isSome then slid else pending with
            | some o => o.rod
            | none => nextCycle s b x (s.cycle + 1)
          let n := ((if slid.isSome then slid else pending).map Occ.slid).getD 0
          ok (le 1 x.origin ++ le 1 st ++ le 1 n ++ zeros 1 ++ cycle64 next ++ x.record)) mbx s)

def occBytes (o : Occ) : List Byte := le 2 o.bead ++ le 1 o.state ++ le 1 o.slid

def execBeadRod (mbx : Nat) (s : State) : Host.Outcome State Fault Refusal :=
  .next (serveRead 0x0405 1 (· == 4) (fun c s =>
    let which := u8 c.pay 0
    let page := u8 c.pay 1
    let answer := fun (cycle : Nat) (l : List Occ) =>
      let es := (l.drop (128 * page)).take 128
      ok (cycle64 cycle ++ le 2 l.length ++ le 2 es.length ++ zeros 4 ++ es.flatMap occBytes)
    if which > 1 ∨ page > 1 ∨ u16 c.pay 2 ≠ 0 then bad 6
    else if which = 0 then answer s.cycle s.abacus.current
    else
      match s.abacus.next with
      | none => bad 8
      | some l => answer (s.cycle + 1) l) mbx s)

/-- BEAD.STATS, 24 bytes. -/
def beadStatsBytes (a : Abacus) : List Byte :=
  le 4 (count32 a.fired) ++ le 4 (count32 a.slidCount) ++ le 4 (count32 a.skipped) ++ le 4 (count32 a.late) ++ le 2 a.peakRod
    ++ le 2 a.peakAngle ++ le 4 (count32 a.provAdmitted)

def execBeadStats (mbx : Nat) (s : State) : Host.Outcome State Fault Refusal :=
  .next (serveRead 0x0406 1 (· == 0) (fun _ s => ok (beadStatsBytes s.abacus)) mbx s)

def execBeadCapacity (mbx : Nat) (s : State) : Host.Outcome State Fault Refusal :=
  .next (serveRead 0x0407 1 (· == 0) (fun _ s =>
    let taken := (List.range 4096).filter (beadTaken s)
    let configured := taken.filter fun b => (s.bead b).origin == 1
    let all := counted (recordsIn (acceptedBeads s))
    let angles := (all.map fun x => x.2.1).eraseDups
    let worst := (angles.map fun a => (worstOf ((all.filter fun x => x.2.1 == a).map fun x => x.2.2)).1).foldl max 0
    ok (le 2 (4096 - taken.length) ++ le 2 configured.length ++ le 2 (taken.length - configured.length)
      ++ le 2 (worstOf (all.map fun x => x.2.2)).1 ++ le 2 worst ++ zeros 2)) mbx s)

end Sys2Proof.Machine
end

