-- ==== Sys2Proof/Machine/Clocks.lean ====
section
/-! DEFINITION. Chapter 19: the count of the real-time clock, staged writes, trim and compensation, the time-trust flags, and the CLOCK commands. -/

namespace Sys2Proof.Machine

def State.setClock (s : State) (x : Clock) : State := { s with clock := x }

/-! ## Ticks and staged writes (R572, R575, R580, R586) -/

/-- One tick of the count: the fraction advances and carries into the seconds, which wrap. -/
def tickedCount (sec frac : Nat) : Nat × Nat := if frac < 32767 then (sec, frac + 1) else ((sec + 1) % 4294967296, 0)

/-- Cycles between two that the trim drops or inserts (R580). -/
def trimSpacing (trim : Int) : Nat := if trim = 0 then 0 else 33554432 / trim.natAbs

/-- A tick falls: the trim of a 16 s boundary takes effect, and the cycles of the trim are counted (R580, R581). -/
def tickClock (s : State) : State :=
  let c := s.clock
  let n := tickedCount c.seconds c.fraction
  let edge := decide (n.1 % 16 = 0 ∧ n.2 = 0)
  let k := trimSpacing c.trim
  s.setClock
    { c with
      seconds := n.1, fraction := n.2, tickAt := s.phase.now, ticksRun := c.ticksRun + 1
      trim := if edge then c.trimNext.getD c.trim else c.trim
      trimNext := if edge then none else c.trimNext
      trimCount := if k = 0 ∨ k ≤ c.trimCount + 1 then 0 else c.trimCount + 1 }

/-- The count a write gives at its tick; a step is added to the count in force (R577, R591); none where it is not valid. -/
def writtenCount (c : Clock) (w : ClockWrite) : Option (Nat × Nat) :=
  match w.step with
  | none => some (w.seconds, w.fraction)
  | some (ds, df) =>
    let t : Int := (c.seconds : Int) * 32768 + c.fraction + ds * 32768 + df
    if t < 0 ∨ (lastCount * 32768 + 32767 : Nat) < t then none else some (t.toNat / 32768, t.toNat % 32768)

/-- The CLOCK.SET that waits for the write answers (R591). -/
def answerWrite (w : ClockWrite) (a : Answer) (s : State) : State :=
  match w.mailbox with
  | none => s
  | some m => answerStarted m a s

/-- The tick at which a staged write applies (R575, R577, R586). -/
def applyWrite (w : ClockWrite) (s : State) : State :=
  let c := s.clock
  let s1 := tickClock s
  match writtenCount c w with
  | none => answerWrite w (bad 9) (s1.setClock { s1.clock with staged := none })
  | some (sec, frac) =>
    let s2 := s1.setClock { s1.clock with seconds := sec, fraction := frac, staged := none }
    answerWrite w
      (ok (le 4 c.seconds ++ le 2 c.fraction ++ zeros 2 ++ le 4 sec ++ le 2 frac ++ zeros 2 ++ cycle64 s.cycle ++ le 2 s.angle ++ zeros 6))
      (raise 0x1101 [c.seconds, sec, frac, w.session] s2)

/-- A tick, with any write that is staged. -/
def clockAdvance (s : State) : State :=
  match s.clock.staged with
  | none => tickClock s
  | some w => applyWrite w s

/-- CLOCK_TICK (R572, R580); none falls while the oscillator is stopped (R583). With it the lateness of mailbox 0 is found, begun or over (R24, R50, R78; log 46). -/
def execClockTick (s : State) : Host.Outcome State Fault Refusal :=
  if s.clock.stopped then .next s else .next (checkLate (clockAdvance (endLate s)))

/-- CLOCK_WRITE_APPLY: the tick after a write was staged (R575). -/
def execClockWriteApply (s : State) : Host.Outcome State Fault Refusal :=
  if s.clock.stopped ∨ s.clock.staged.isNone then .next s else .next (clockAdvance s)

/-! ## Trust flags (R582, R583) -/

/-- VBAT_CHECK (R582). -/
def execVbatCheck (millivolts : Nat) (s : State) : Host.Outcome State Fault Refusal :=
  if 1600 ≤ millivolts ∨ s.clock.bvl = true then .next s
  else .next (raise 0x1102 [millivolts, s.clock.seconds] (s.setClock { s.clock with bvl := true }))

/-- OSCILLATOR_STOP: OSF is set, and the count holds (R583). -/
def execOscillatorStop (s : State) : Host.Outcome State Fault Refusal :=
  if s.clock.stopped then .next s
  else .next (raise 0x1103 [2, s.clock.seconds, 0] (s.setClock { s.clock with stopped := true, osf := true }))

/-- OSCILLATOR_RESTART: the count resumes, and a staged write is applied at the first tick (R583, R586). -/
def execOscillatorRestart (s : State) : Host.Outcome State Fault Refusal :=
  if s.clock.stopped then
    let s1 := s.setClock { s.clock with stopped := false }
    if s1.clock.staged.isSome then .next (clockAdvance s1) else .next s1
  else .next s

/-! ## Compensation (R581) -/

/-- The trim record. -/
def Cfg.trimRecord (c : Cfg) : Option (List Byte) := c.baseValue 0x1101 0

/-- Deviation at a temperature, in ppb × 10,000. -/
def deviationAt (v : List Byte) (t : Int) : Int := s16 v 4 * 10000 - (u16 v 2 : Nat) * (t - s16 v 0) * (t - s16 v 0)

/-- TRIM_COMPENSATION: with the temperature of the crystal sensor in 0.01 °C (R581). -/
def execTrimCompensation (temperature : Int) (s : State) : Host.Outcome State Fault Refusal :=
  match s.cfg.trimRecord with
  | none => .next s
  | some v =>
    if serving s = false then .next s
    else
      let dev := deviationAt v temperature
      let want := divRound (-dev * 33554432) (10 ^ 13)
      let tooBig := decide (want.natAbs > 8191)
      let s1 := s.setClock
        { s.clock with
          temperature := temperature, deviation := dev, trimFrozen := false, trimLimit := tooBig, limitEpisode := tooBig
          trimNext := some (clampInt (-8191) 8191 want) }
      if tooBig ∧ s.clock.limitEpisode = false then
        .next (raise 0x1104 [(want % (2 ^ 32 : Nat)).toNat, (temperature % (2 ^ 32 : Nat)).toNat] s1)
      else .next s1

/-! ## CLOCK commands (R573, R576, R577, R590, R591) -/

def execClockRead (mbx : Nat) (s : State) : Host.Outcome State Fault Refusal :=
  .next (serveRead 0x1101 1 (· == 0) (fun c s =>
    let k := s.clock
    ok (le 4 k.seconds ++ le 2 k.fraction ++ le 2 (clockFlags k c.owner) ++ cycle64 k.tickAt.cycle ++ le 2 k.tickAt.angle ++ zeros 2
      ++ (calendarOf k.seconds).bytes)) mbx s)

/-- The count of a time body in form 0 or 1 (R577, R590): the status that refuses it, or seconds and fraction. -/
def bodyCount (form : Nat) (b : List Byte) : Except Nat (Nat × Nat) :=
  if form = 0 then
    if allZero (b.drop 6) = false then .error 6
    else if u32 b 0 ≤ lastCount ∧ u16 b 4 ≤ 32767 then .ok (u32 b 0, u16 b 4) else .error 9
  else if u8 b 7 ≠ 0 ∨ u16 b 10 ≠ 0 then .error 6
  else
    let t : CalTime := { year := u16 b 0, month := u8 b 2, day := u8 b 3, hour := u8 b 4, minute := u8 b 5, second := u8 b 6 }
    if t.valid = true ∧ u16 b 8 ≤ 32767 then .ok (countOf t, u16 b 8) else .error 9

/-- The write a CLOCK.SET asks for, or the status that refuses it (R577, R591). -/
def writeOf (c : Call) (s : State) : Except Nat ClockWrite :=
  let form := u8 c.pay 0
  let b := c.pay.drop 4
  if form > 2 ∨ allZero (slice c.pay 1 3) = false then .error 6
  else if form = 2 then
    if allZero (b.drop 6) = false then .error 6
    else
      let w : ClockWrite := { mailbox := some c.mbx, session := c.session, step := some (s32 b 0, u16 b 4) }
      if (writtenCount s.clock w).isSome then .ok w else .error 9
  else
    match bodyCount form b with
    | .error e => .error e
    | .ok (n, f) => .ok { seconds := n, fraction := f, mailbox := some c.mbx, session := c.session }

def execClockSet (mbx : Nat) (s : State) : Host.Outcome State Fault Refusal :=
  .next (serveLater 0x1102 2 (· == 16) (fun c s =>
    match writeOf c s with
    | .error e => (s, some (bad e))
    | .ok w => (s.setClock { s.clock with staged := some w }, none)) mbx s)

def execClockConvert (mbx : Nat) (s : State) : Host.Outcome State Fault Refusal :=
  .next (serveRead 0x1103 1 (· == 16) (fun c _ =>
    let form := u8 c.pay 0
    if form > 1 ∨ allZero (slice c.pay 1 3) = false then bad 6
    else
      match bodyCount form (c.pay.drop 4) with
      | .error e => bad e
      | .ok (n, f) =>
        let t := calendarOf n
        let body :=
          if form = 1 then le 4 n ++ le 2 f ++ zeros 6
          else le 2 t.year ++ le 1 t.month ++ le 1 t.day ++ le 1 t.hour ++ le 1 t.minute ++ le 1 t.second ++ zeros 1 ++ le 2 f ++ zeros 2
        ok (body ++ le 1 t.weekday ++ zeros 3)) mbx s)

def execClockFlagsClear (mbx : Nat) (s : State) : Host.Outcome State Fault Refusal :=
  .next (serve 0x1104 2 (· == 4) (fun c s =>
    let mask := u16 c.pay 0
    if mask > 3 ∨ u16 c.pay 2 ≠ 0 then (s, bad 6)
    else if bit mask 1 = true ∧ c.owner = false then (s, bad 5)
    else
      let k := { s.clock with bvl := s.clock.bvl && !bit mask 0, osf := s.clock.osf && !bit mask 1 }
      (s.setClock k, ok (le 2 (clockFlags k c.owner) ++ zeros 2))) mbx s)

def execClockTrim (mbx : Nat) (s : State) : Host.Outcome State Fault Refusal :=
  .next (serveRead 0x1105 1 (· == 0) (fun c s =>
    let k := s.clock
    ok (leInt 2 k.trim ++ leInt 2 k.temperature ++ leInt 4 (quotientInt k.deviation 10000) ++ le 1 (16 - k.seconds % 16)
      ++ le 1 (clockFlags k c.owner / 4 % 8 * 4) ++ zeros 2)) mbx s)

end Sys2Proof.Machine
end

