-- ==== Sys2Proof/Machine/Reckoner.lean ====
section
/-! DEFINITION. Chapter 07: leases, loans between chips, the accounts of a closed rod, the heat budget's fallback, and the RECK commands. -/

namespace Sys2Proof.Machine

/-! ## Leases (R216, R218, R228) -/

/-- A pending lease in NEXT is refused: its slot empties and its roots drop (R218). -/
def refuseNext (cause : Nat) (s : State) : State :=
  match s.reck.next with
  | none => s
  | some l =>
    let rests := fun (x : CarryEntry) => x.kind == 2 && x.source == l.number
    let n := countRoots s rests
    let s1 := dropRoots rests 4 { s with reck := { s.reck with next := none } }
    raise 0x0605 [l.number, cause, n] s1

/-- LEASE_CONFIRM_DEADLINE: the boundary of its confirm_by cycle has passed (R218). -/
def execLeaseConfirmDeadline (s : State) : Host.Outcome State Fault Refusal :=
  match s.reck.next with
  | none => .next s
  | some l =>
    if l.confirmed ∨ s.cycle < l.confirmBy then .next s
    else .next (refuseNext 2 { s with reck := { s.reck with deadlined := some l.number } })

/-- Leases at a boundary: NEXT becomes CURRENT at its start; CURRENT's expiry with NEXT empty brings the floor (R216, R219). -/
def leaseBoundary (s : State) : State :=
  match s.reck.next with
  | some n =>
    if n.confirmed ∧ n.start ≤ s.cycle then { s with reck := { s.reck with current := some n, next := none } }
    else
      match s.reck.current with
      | some c => if c.expiry ≤ s.cycle then { s with reck := { s.reck with current := none } } else s
      | none => s
  | none =>
    match s.reck.current with
    | some c =>
      if c.expiry ≤ s.cycle then raise 0x0604 [c.number, low32 s.cycle] { s with reck := { s.reck with current := none } } else s
    | none => s

/-! ## Loans (R220 to R225) -/

/-- A lease frame of a kind, taken from the receivers' store (R222, log 11). -/
def takeLease (kind : Nat) (s : State) : Option (LeaseBody × State) :=
  match s.ring.delivered.find? fun d => d.frame.etherType == 0x88B5 && u8 d.frame.body 0 == 4 && u8 d.frame.body 1 == kind with
  | none => none
  | some d => some (leaseBodyOf d.frame.body, { s with ring := { s.ring with delivered := s.ring.delivered.erase d } })

/-- The rods of a loan from `start` to `expiry` in which the room for it can be less than in the rod before: its first two (the first may have its list made), and those where a NEXT lease begins or ends, another lent loan begins or a borrowed one ends (R223). -/
def loanRods (s : State) (start expiry : Nat) : List Nat :=
  let leases := match s.reck.next with
    | some n => if n.confirmed then [n.start, n.expiry] else []
    | none => []
  let loans := s.reck.loans.map fun l => if l.lent then l.start else l.expiry
  start :: (((start + 1) :: (leases ++ loans)).filter fun r => decide (start < r) && decide (r < expiry))

/-- kW fit on a phase in a rod: into the headroom left where its list is made, else under the limit less the forecast (R223). -/
def loanFits (s : State) (p kw r : Nat) : Bool :=
  let used := if s.abacus.next.isSome ∧ r = s.cycle + 1 then s.reck.charges.power.getD p 0 else s.reck.forecast.getD p 0
  decide ((kw : Int) * 100 ≤ limPower s r p - used)

/-- The answer to a BORROW: 0 to grant, or the reason to refuse (R222, R223). -/
def lendReason (s : State) (b : LeaseBody) (expiry : Nat) : Nat :=
  if lendOn s.cfg = false then 2
  else if s.phase.countValid = false then 4
  else if (s.reck.loans.filter Loan.lent).length ≥ 8 then 3
  else if b.start < s.cycle + 1 then 5
  else if b.phase = 0 ∨ 3 < b.phase ∨ b.kw = 0 ∨ expiry ≤ b.start ∨ ((loanRods s b.start expiry).all fun r => loanFits s (b.phase - 1) b.kw r) = false then 1
  else 0

/-- Grant or refuse a BORROW (R223). -/
def lend (b : LeaseBody) (s : State) : State :=
  let expiry := match leaseFor s s.cycle with
    | none => 0
    | some l => min (b.start + u32 s.cfg.reck 20) l.expiry
  let k := lendReason s b expiry
  let body := if k = 0 then { b with kind := 2, expiry := expiry, reason := 0 } else { b with kind := 3, expiry := 0, reason := k }
  let keep := fun (s : State) => { s with reck := { s.reck with
    answered := (s.reck.answered.filter fun a => !(a.borrower == b.borrower && a.number == b.loan)) ++ [{ borrower := b.borrower, number := b.loan, body := body.bytes }] } }
  let s1 := if k = 0 then
      let l : Loan := { lent := true, phase := b.phase, kw := b.kw, number := b.loan, borrower := b.borrower, lender := ownUid, start := b.start, expiry := expiry }
      bumpReck (fun x => { x with lent := x.lent + 1 }) { s with reck := { s.reck with loans := s.reck.loans ++ [l] } }
    else s
  raiseLoan b.loan 1 (if k = 0 then 1 else 2) b.phase b.kw (sendLeaseBody b.borrower body (keep s1))

/-- BORROW_RECEIVED: answered within 2,048 tu (R223); one already answered gets the same answer and no second loan (R348). -/
def execBorrowReceived (s : State) : Host.Outcome State Fault Refusal :=
  match takeLease 1 s with
  | none => .next s
  | some (b, s1) =>
    if sendsOwn s1 = false ∨ b.lender ≠ ownUid then .next s1
    else
      match s1.reck.answered.find? fun a => a.borrower == b.borrower && a.number == b.loan with
      | some a => .next (sendLease raise (macOf b.borrower) a.body s1)
      | none => .next (lend b s1)

/-- The BORROW outstanding under a number. -/
def findBorrow (s : State) (n : Nat) : Option Borrow := s.reck.borrows.find? fun b => b.number == n
def dropBorrow (n : Nat) (s : State) : State := { s with reck := { s.reck with borrows := s.reck.borrows.filter fun b => b.number != n } }

def leaseBodyFor (kind : Nat) (l : Loan) : LeaseBody :=
  { kind := kind, phase := l.phase, kw := l.kw, loan := l.number, borrower := l.borrower, lender := l.lender, start := l.start,
    expiry := l.expiry, reason := 0 }

/-- A loan is refused, or treated so: its roots drop (R224). -/
def loanRefused (b : Borrow) (s : State) : State :=
  let s1 := dropBorrow b.number s
  let s2 := { s1 with reck := { s1.reck with
    refusedBy := (b.lender, s.cycle) :: s1.reck.refusedBy.filter (fun r => r.1 != b.lender)
    lapsed := b.number :: s1.reck.lapsed } }
  dropRoots (fun x => x.kind == 2 && x.source == b.number) 4 (raiseLoan b.number 0 2 b.phase b.kw s2)

/-- GRANT_RECEIVED (R224): the loan is confirmed; one already treated as refused is returned at once, and one whose RETURN came at the same tick has ended (R228). -/
def execGrantReceived (s : State) : Host.Outcome State Fault Refusal :=
  match takeLease 2 s with
  | none => .next s
  | some (g, s1) =>
    if sendsOwn s1 = false ∨ g.borrower ≠ ownUid then .next s1
    else
      match findBorrow s1 g.loan with
      | some b =>
        let l : Loan := { lent := false, phase := b.phase, kw := b.kw, number := b.number, borrower := ownUid, lender := b.lender, start := b.start, expiry := g.expiry }
        let s2 := dropBorrow b.number s1
        if s1.reck.returnsSeen.contains (b.number, s1.phase.now) then
          .next (dropRoots (fun x => x.kind == 2 && x.source == b.number) 4 (raiseLoan b.number 0 3 b.phase b.kw s2))
        else
          .next (confirmRoots b.number (raiseLoan b.number 0 1 b.phase b.kw { s2 with reck := { s2.reck with loans := s2.reck.loans ++ [l] } }))
      | none =>
        if s1.reck.lapsed.contains g.loan then .next (sendLeaseBody g.lender { g with kind := 4, reason := 0 } s1) else .next s1

/-- REFUSE_RECEIVED (R224). -/
def execRefuseReceived (s : State) : Host.Outcome State Fault Refusal :=
  match takeLease 3 s with
  | none => .next s
  | some (g, s1) =>
    match findBorrow s1 g.loan with
    | some b => if sendsOwn s1 ∧ g.borrower = ownUid then .next (loanRefused b s1) else .next s1
    | none => .next s1

/-- BORROW_TIMEOUT: no answer within 4 rods of sending (R224). -/
def execBorrowTimeout (loan : Nat) (s : State) : Host.Outcome State Fault Refusal :=
  match findBorrow s loan with
  | some b => if b.sent + 4 ≤ s.cycle then .next (loanRefused b s) else .next s
  | none => .next s

/-- A loan ends from the first rod whose main pass has not closed (R225). -/
def endLoan (l : Loan) (s : State) : State :=
  { s with reck := { s.reck with loans := s.reck.loans.map fun x =>
    if x = l then { x with expiry := min x.expiry (firstOpenRod s), returned := true } else x } }

/-- Loans that no RETURN has ended. -/
def runningLoans (s : State) : List Loan := s.reck.loans.filter fun l => !l.returned

/-- RETURN_RECEIVED (R225); one that comes ahead of the GRANT of its loan is kept for that tick (R228). -/
def execReturnReceived (s : State) : Host.Outcome State Fault Refusal :=
  match takeLease 4 s with
  | none => .next s
  | some (g, s1) =>
    if sendsOwn s1 = false then .next s1
    else
      match (runningLoans s1).find? fun l => l.number == g.loan && l.borrower == g.borrower && l.lender == g.lender with
      | some l => .next (raiseLoan l.number (flag l.lent 0) 3 l.phase l.kw (endLoan l s1))
      | none =>
        if (findBorrow s1 g.loan).isNone ∨ g.borrower ≠ ownUid then .next s1
        else .next { s1 with reck := { s1.reck with
          returnsSeen := (g.loan, s1.phase.now) :: s1.reck.returnsSeen.filter fun e => e.2 == s1.phase.now } }

/-- The limit on a borrowed loan's phase without the loan, in the first rod that a pass still open, or its start, gives it. -/
def limWithout (s : State) (l : Loan) : Int := limPower s (max (firstOpenRod s) l.start) (l.phase - 1) - l.kw * 100

/-- LOAN_RENEWAL_CHECK: within 256 rods of the expiry of a borrowed loan, a BORROW for the excess without it (R225). -/
def execLoanRenewalCheck (loan : Nat) (s : State) : Host.Outcome State Fault Refusal :=
  match (runningLoans s).find? fun l => l.number == loan && !l.lent with
  | none => .next s
  | some l =>
    let p := l.phase - 1
    let excess := s.reck.forecast.getD p 0 - limWithout s l
    if l.expiry ≤ s.cycle + 256 ∧ s.cycle < l.expiry ∧ 0 < excess then .next (sendBorrow p (kwFor excess) l.expiry s) else .next s

/-- Loans at a boundary: those whose expiry has come end, and those not returned before expire (R222, R232). -/
def loanBoundary (s : State) : State :=
  ((runningLoans s).filter fun l => decide (l.expiry ≤ s.cycle)).foldl
    (fun s l => raiseLoan l.number (flag l.lent 0) 4 l.phase l.kw s)
    { s with reck := { s.reck with loans := s.reck.loans.filter fun l => decide (s.cycle < l.expiry) } }

/-- The highest forecast of a phase over the last 256 passes, in 10 W; before the first pass the manual states none (log 26). -/
def highestForecast (s : State) (p : Nat) : Int :=
  match s.reck.forecasts.map fun (f : List Int) => f.getD p 0 with
  | [] => signed 32 (Config.unstatedForecast p s.phase.now.tu).toNat
  | x :: xs => xs.foldl max x

/-- The offer on a phase, in whole kW (R220). -/
def offerKw (s : State) (p : Nat) : Nat :=
  match leaseFor s s.cycle with
  | none => 0
  | some l =>
    let room : Int := ((l.power.getD p 0 : Nat) : Int) * 100 - (loanKw s true s.cycle p : Nat) * 100 - highestForecast s p
    min 65535 (room / 100 - (u16 s.cfg.reck 18 : Nat)).toNat

/-- The offer point's value (R220). -/
def offerValue (s : State) : Nat :=
  if s.phase.countValid then offerKw s 0 + offerKw s 1 * 65536 + offerKw s 2 * 4294967296 else 0

/-! ## The accounts of a closed rod (R206 to R208, R219) -/

/-- A measured word as an integer in a unit of `per` of its own. -/
def measured (w : Word) (per : Nat) : Int := ((exact w).times 1 per).rounded 0

/-- What the metering gives the reckoner for a rod. -/
def closedFrom (s : State) (rod : Nat) : Closed :=
  let m := (List.range 3).map (meterPhase s)
  { rod := rod, energy := m.map fun x => (measured x.energy 1).toNat, endPower := m.map fun x => measured x.endPower 10,
    invalid := m.map MeterClosed.invalid, heat := measured s.sense.heat 1, heatInvalid := s.sense.heatInvalid }

/-- RECK.OVER_LIMIT at most once per 256 rods and phase (R219). -/
def noteOver (c : Closed) (p : Nat) (s : State) : State :=
  let lim := limPower s s.cycle p
  let beyond := !c.invalid.getD p true && decide (lim < c.endPower.getD p 0)
  let recent := match s.reck.overRaised.find? fun e => e.1 == p with
    | none => false
    | some e => decide (s.cycle < e.2 + 256)
  let s1 := { s with reck := { s.reck with overLimit := s.reck.overLimit.set p (beyond || s.reck.overLimit.getD p false) } }
  if beyond && !recent then
    raise 0x0603 [p + 1, (c.endPower.getD p 0).toNat, lim.toNat]
      { s1 with reck := { s1.reck with overRaised := (p, s.cycle) :: s1.reck.overRaised.filter fun e => e.1 != p } }
  else s1

/-- The rolling balance after a rod (R206); a rod without a valid heat leaves it (log 22). -/
def balanceAfter (s : State) (c : Closed) : Int :=
  match s.cfg.heat with
  | none => 0
  | some v =>
    let h : Int := heatBudget s s.cycle
    let b := if c.heatInvalid then s.reck.balance else s.reck.balance + (s.reck.rodBudget : Nat) - c.heat
    clampInt (-(u16 v 12 * h)) (u16 v 12 * h) b

/-- Step 4 of R19: the accounts of the rod that has ended close. -/
def closeAccounts (rod : Nat) (s : State) : State :=
  let c := closedFrom s rod
  let s1 := { s with reck := { s.reck with
    balance := balanceAfter s c, closed := (c :: s.reck.closed).take 4, closedCount := s.reck.closedCount + 1
    costs := s.reck.costs.filter fun x => decide (rod ≤ x.rod + 2) } }
  (List.range 3).foldl (fun s p => noteOver c p s) s1

/-! ## The heat budget (R226) -/

/-- HEAT_FALLBACK: no committed output of the heat loop for 16 rods, or no loop named, once per episode. -/
def execHeatFallback (s : State) : Host.Outcome State Fault Refusal :=
  match s.cfg.heat with
  | none => .next s
  | some v =>
    let silent := s.cycle - s.reck.heatInstant.cycle
    if s.reck.fallback ∨ s.abacus.running = false ∨ (u16 v 0 ≠ 0xFFFF ∧ silent < 16) then .next s
    else .next (raise 0x0607 [u16 v 0, silent] { s with reck := { s.reck with fallback := true } })

/-! ## RECK commands (R233, R234) -/

def le32Int (i : Int) : List Byte := leInt 4 i

def execReckAccounts (mbx : Nat) (s : State) : Host.Outcome State Fault Refusal :=
  .next (serveRead 0x0601 1 (· == 0) (fun _ s =>
    let k := s.reck
    let c : Closed := k.closed.headD {}
    let phase := fun (p : Nat) =>
      le 2 (limPower s s.cycle p / 100).toNat ++ le 2 (leaseRamp s s.cycle p) ++ le 2 (loanKw s true s.cycle p) ++ le 2 (loanKw s false s.cycle p)
        ++ le32Int (k.shown.getD p 0) ++ le 4 (c.energy.getD p 0) ++ le32Int (c.endPower.getD p 0)
    ok (phase 0 ++ phase 1 ++ phase 2 ++ le 4 (heatBudget s s.cycle) ++ le32Int k.balance ++ le32Int k.forecastHeat ++ le32Int k.excess
      ++ le 1 (((List.range 3).map fun p => flag (c.invalid.getD p true) p).sum + flag k.fallback 3 + flag (leaseFor s s.cycle).isNone 4)
      ++ zeros 3)) mbx s)

/-- A lease in a request (R233). -/
def leaseOf (b : List Byte) : Lease :=
  { number := u32 b 0, confirmed := bit (u8 b 40) 0, start := u64 b 4 % 2 ^ 48, expiry := u64 b 12 % 2 ^ 48, confirmBy := u64 b 20 % 2 ^ 48,
    power := (List.range 3).map fun p => u16 b (28 + 2 * p), ramp := (List.range 3).map fun p => u16 b (34 + 2 * p) }

/-- BAD_ARGUMENT of R234 step 1. -/
def leaseBad (s : State) (b : List Byte) (l : Lease) : Bool :=
  l.number == 0 || decide (l.number > 0x7FFFFFFF) || decide (l.expiry ≤ l.start) || decide (l.start < l.confirmBy)
    || ((List.range 3).any fun p => decide (l.power.getD p 0 < floorPower s.cfg p) || decide (l.ramp.getD p 0 < floorRamp s.cfg p))
    || decide (u8 b 40 > 1) || !allZero (slice b 41 3) || u16 b 10 != 0 || u16 b 18 != 0 || u16 b 26 != 0

/-- A power limit below what is lent in some rod of the lease (R234 step 3). -/
def leaseBelowLent (s : State) (l : Lease) : Bool :=
  let rods := (l.start :: (s.reck.loans.map Loan.start)).filter fun r => decide (l.start ≤ r) && decide (r < l.expiry)
  (List.range 3).any fun p => rods.any fun r => decide (l.power.getD p 0 < loanKw s true r p)

def execReckLeaseSet (mbx : Nat) (s : State) : Host.Outcome State Fault Refusal :=
  .next (serve 0x0602 2 (· == 44) (fun c s =>
    let l := leaseOf c.pay
    if leaseBad s c.pay l then (s, bad 6)
    else if l.start < s.cycle + 2 then (s, bad 0x0F)
    else if leaseBelowLent s l then (s, bad 0x0A)
    else
      let s1 := match s.reck.next with
        | some n => if n.confirmed then s else refuseNext 3 s
        | none => s
      ({ s1 with reck := { s1.reck with next := some l } }, ok (le 1 1 ++ zeros 7))) mbx s)

/-- The pending lease of a number. -/
def pendingNumber (s : State) (n : Nat) : Option Lease := s.reck.next.filter fun l => !l.confirmed && l.number == n

def execReckLeaseConfirm (mbx : Nat) (s : State) : Host.Outcome State Fault Refusal :=
  .next (serve 0x0603 2 (· == 4) (fun c s =>
    let n := u32 c.pay 0
    match pendingNumber s n with
    | none => (s, bad (if s.reck.deadlined = some n then 0x0F else 6))
    | some l =>
      if l.confirmBy ≤ s.cycle then (s, bad 0x0F)
      else (confirmRoots n { s with reck := { s.reck with next := some { l with confirmed := true } } }, ok [])) mbx s)

def execReckLeaseRefuse (mbx : Nat) (s : State) : Host.Outcome State Fault Refusal :=
  .next (serve 0x0604 2 (· == 4) (fun c s =>
    let n := u32 c.pay 0
    match pendingNumber s n with
    | none => (s, bad 6)
    | some _ => (refuseNext 1 s, ok (le 1 (countRoots s fun x => x.kind == 2 && x.source == n) ++ zeros 3))) mbx s)

def leaseBytes (l : Option Lease) : List Byte :=
  match l with
  | none => zeros 44
  | some l =>
    le 4 l.number ++ le 1 (if l.confirmed then 2 else 1) ++ zeros 3 ++ cycle64 l.start ++ cycle64 l.expiry ++ cycle64 l.confirmBy
      ++ l.power.flatMap (le 2) ++ l.ramp.flatMap (le 2)

def execReckLeaseRead (mbx : Nat) (s : State) : Host.Outcome State Fault Refusal :=
  .next (serveRead 0x0605 1 (· == 0) (fun _ s => ok (leaseBytes s.reck.current ++ leaseBytes s.reck.next)) mbx s)

/-- A confirmed loan as its GRANT stated it (R222). -/
def loanBytes (l : Loan) : List Byte := (leaseBodyFor 2 l).bytes

def execReckLoans (mbx : Nat) (s : State) : Host.Outcome State Fault Refusal :=
  .next (serveRead 0x0606 1 (· == 0) (fun _ s =>
    let lent := s.reck.loans.filter Loan.lent
    let borrowed := s.reck.loans.filter fun l => !l.lent
    ok (le 1 borrowed.length ++ le 1 lent.length ++ zeros 2 ++ (borrowed ++ lent).flatMap loanBytes)) mbx s)

def execReckLoanReturn (mbx : Nat) (s : State) : Host.Outcome State Fault Refusal :=
  .next (serve 0x0607 2 (· == 4) (fun c s =>
    match (runningLoans s).find? fun l => l.number == u32 c.pay 0 && !l.lent with
    | none => (s, bad 6)
    | some l =>
      if limWithout s l < s.reck.forecast.getD (l.phase - 1) 0 then (s, bad 0x0A)
      else (raiseLoan l.number 0 3 l.phase l.kw (sendLeaseBody l.lender (leaseBodyFor 4 l) (endLoan l s)), ok (cycle64 (firstOpenRod s)))) mbx s)

/-- RECK.STATS, 48 bytes. -/
def reckStatsBytes (x : ReckStats) : List Byte :=
  le 4 (count32 x.admitted) ++ le 4 (count32 x.provisional) ++ ((List.range 6).flatMap fun i => le 4 (count32 (fget 0 x.refused (i + 1))))
    ++ le 4 (count32 x.dropped) ++ le 4 (count32 x.overflows) ++ le 4 (count32 x.borrows) ++ le 4 (count32 x.lent)

def execReckStats (mbx : Nat) (s : State) : Host.Outcome State Fault Refusal :=
  .next (serveRead 0x0608 1 (· == 0) (fun _ s => ok (reckStatsBytes s.reck.stats)) mbx s)

def execReckStatsClear (mbx : Nat) (s : State) : Host.Outcome State Fault Refusal :=
  .next (serve 0x0609 2 (· == 0) (fun _ s => ({ s with reck := { s.reck with stats := {} } }, ok [])) mbx s)

end Sys2Proof.Machine
end

