-- ==== Sys2Proof/Machine/Transactions.lean ====
section
/-! DEFINITION. The transactions of chapter 13 as other chapters submit them: the bus and role records, the tables, and a new transaction (R409, R418, R423, R428). -/

namespace Sys2Proof.Machine

/-- The bus record (R432); a bus without one carries no CFP. -/
def Cfg.bus (c : Cfg) (n : Nat) : List Byte := (c.baseValue 0x0B02 n).getD []
def Cfg.busOn (c : Cfg) (n : Nat) : Bool := bit (u8 (c.bus n) 0) 0

/-- The role record (R431). -/
def Cfg.role (c : Cfg) (r : Nat) : Option (List Byte) := c.baseValue 0x0B01 r
def Cfg.roleBus (c : Cfg) (r : Nat) : Nat := u8 ((c.role r).getD []) 0
def Cfg.listens (c : Cfg) (r : Nat) : Bool := bit (u8 ((c.role r).getD []) 1) 0

def State.bus (s : State) (n : Nat) : Bus := fget {} s.cfp.buses n
def State.setBus (s : State) (n : Nat) (x : Bus) : State := { s with cfp := { s.cfp with buses := fput {} s.cfp.buses n x } }
def State.roleEntry (s : State) (r : Nat) : RoleEntry := fget {} s.cfp.roles r
def State.setRoleEntry (s : State) (r : Nat) (x : RoleEntry) : State := { s with cfp := { s.cfp with roles := fput {} s.cfp.roles r x } }
def State.node (s : State) (n a : Nat) : CfpNode := fget {} (s.bus n).nodes a
def State.setNode (s : State) (n a : Nat) (x : CfpNode) : State := s.setBus n { s.bus n with nodes := fput {} (s.bus n).nodes a x }

/-- The state of a role (R418): one that no node has ever held is UNHELD. -/
def roleState (s : State) (r : Nat) : Nat :=
  let e := s.roleEntry r
  if e.state = 0 ∧ e.address = 0 then 3 else e.state

/-- Add to a counter of CFP.STATS. -/
def countBus (n i : Nat) (s : State) : State := s.setBus n { s.bus n with stats := bump (s.bus n).stats i 1 }

/-- A transaction is submitted: it takes its order and is counted (R409, R436). -/
def submitTx (n : Nat) (t : Transaction) (s : State) : State :=
  let s1 := countBus n 0 { s with cfp := { s.cfp with order := s.cfp.order + 1 } }
  s1.setBus n { s1.bus n with transactions := (s1.bus n).transactions ++ [{ t with order := s.cfp.order }] }

/-- A transaction of the CFP layer's own, at mgmt_prio (R424). -/
def layerTx (s : State) (n role opcode : Nat) (args : List Byte) : Transaction :=
  { origin := 1, role := role, opcode := opcode, args := args, idem := true, prio := u8 (s.cfg.bus n) 9 }

/-- Tags of the CFP layer and the host that are taken (R409, R410). -/
def layerTags (b : Bus) : List Nat := (b.transactions.filterMap fun t => t.tag).filter fun t => decide (t < 0x30)

/-- A READ of a role's item for an awaited input, unless one is outstanding or no tag is free (R428). -/
def issueRead (role item : Nat) (s : State) : State :=
  let n := s.cfg.roleBus role
  let b := s.bus n
  let args := le 1 item
  if s.cfg.busOn n = false ∨ s.cfg.role role = none ∨ (layerTags b).length ≥ 48
      ∨ (b.transactions.any fun t => t.role == role && t.opcode == 0x10 && t.args == args) then s
  else submitTx n (layerTx s n role 0x10 args) s

/-- The order of the READ of a role's item that is outstanding. -/
def outstandingRead (s : State) (role item : Nat) : Option Nat :=
  ((s.bus (s.cfg.roleBus role)).transactions.find? fun t => t.role == role && t.opcode == 0x10 && t.args == le 1 item).map Transaction.order

end Sys2Proof.Machine
end

