-- ==== Sys2Proof/Machine/Sampling.lean ====
section
/-! DEFINITION. Chapters 08 and 09, samples: latching, checking and queueing at a sample instant, the stage processors and their vote, results that fall due, and the LOOP commands. -/

namespace Sys2Proof.Machine

/-! ## Which loops read which (R262, R281) -/

def readsOf (c : Cfg) (l : Nat) : List Nat := ((bindings (c.loopRec l)).filter fun b => b.kind == 5).map Binding.index

/-- Loops read by a set of loops, directly or through others, after `n` steps. -/
def closure (c : Cfg) : Nat → List Nat → List Nat
  | 0, l => l
  | n + 1, l => closure c n (l ++ l.flatMap (readsOf c)).eraseDups

/-- Two loops stand in one cycle of reads. -/
def inCycle (c : Cfg) (p l : Nat) : Bool :=
  (closure c c.loopSlots.length (readsOf c p)).contains l && (closure c c.loopSlots.length (readsOf c l)).contains p

/-- Loop `l` reads `p`, and `p` does not read `l` in turn. -/
def producesFor (c : Cfg) (p l : Nat) : Bool := (readsOf c l).contains p && p != l && !inCycle c p l

/-- At one instant loop `p` runs before loop `l` (R262): `l` reads it, or they read within one cycle and `p` has the lower slot. -/
def runsBefore (c : Cfg) (p l : Nat) : Bool :=
  producesFor c p l || (((readsOf c l).contains p || (readsOf c p).contains l) && inCycle c p l && decide (p < l))

/-- Samples in the queue, on the processors and waiting for a third run. -/
def liveSamples (s : State) : List Sample :=
  s.engine.queue ++ s.engine.thirds ++ s.engine.processors.filterMap fun e => e.2.sample

/-- A loop's instant is the present tick, and its sample has not been taken (R272). -/
def dueNow (s : State) (p : Nat) (t : Instant) : Bool :=
  let v := s.cfg.loopRec p
  t == s.phase.now && s.cfg.hasLoop p && !loopBead v && (s.loop p).mode != .disabled && (s.loop p).previous != some t && nextInstant v t.tu == t.tu

/-- Input `i` of a loop reads a loop whose sample of the same instant is not yet taken, or not yet done (R262, R281). -/
def inputPending (s : State) (l : Nat) (t : Instant) (i : Nat) : Bool :=
  let b := binding (s.cfg.loopRec l) i
  b.kind == 5 && producesFor s.cfg b.index l && (((liveSamples s).any fun x => x.instant == t && x.slot == b.index) || dueNow s b.index t)

/-! ## The latch (R261, R278, R281) -/

/-- What a binding reads now; a provisional-capable loop's LOOP input reads the provisional output, with the order number of its entry (R176). -/
def latchOne (s : State) (l : Nat) (prov : Bool) (i : Nat) (b : Binding) : ReadValue × Option Nat :=
  match if prov && b.kind == 5 then provisionalResult s b.index else none with
  | none => (readBinding s l i b, none)
  | some e => ((reg e.2.result.outs b.a, false), some e.2.order)

/-- Inputs awaited at the sample instant. -/
def awaitedInputs (s : State) (l : Nat) : List Nat :=
  (List.range 16).filter fun i => inputAwaited s l i (binding (s.cfg.loopRec l) i)

/-- Speculation happens in SOFT and RUN alone (R289). -/
def readsProvisional (s : State) (l : Nat) : Bool := loopProv (s.cfg.loopRec l) && decide ((s.loop l).mode ≠ .hold)

/-- Everything a sample latches at its instant (R239, R261, R281). -/
def latch (l : Nat) (s : State) : Sample :=
  let x := s.loop l
  let rs := (bindings (s.cfg.loopRec l)).mapIdx (latchOne s l (readsProvisional s l))
  let late := (List.range 16).filter (inputPending s l s.phase.now)
  { slot := l, instant := s.phase.now, raw := rs.map Prod.fst, late := late, loose := !late.isEmpty
    reads := (List.range 16).filterMap fun i => (rs.getD i ((zeroWord, false), none)).2.map fun k => (i, k)
    awaits := if x.mode = .hold then [] else awaitedInputs s l
    consts := s.cfg.consts l, sup := s.cfg.sup l, dt := s.loopDt l, count := x.samples, period := x.period }

/-- The entry with an order number. -/
def entryOf (s : State) (order : Nat) : Option (Nat × CarryEntry) := s.carry.entries.find? fun e => e.2.order == order

/-- The latch of the inputs that waited for a producer, now done. An output read provisionally whose entry has gone meanwhile is read again. -/
def fillLate (x : Sample) (s : State) : Sample :=
  let gone := (x.reads.filter fun r => (entryOf s r.2).isNone).map Prod.fst
  (x.late ++ gone).foldl
    (fun (y : Sample) i =>
      let r := latchOne s x.slot (readsProvisional s x.slot) i (binding (s.cfg.loopRec x.slot) i)
      { y with raw := y.raw.set i r.1, reads := (y.reads.filter fun e => e.1 != i) ++ (r.2.map fun k => (i, k)).toList })
    { x with late := [], loose := false }

/-- The implausible inputs among those that have arrived (R293). -/
def badInputs (s : State) (x : Sample) : List Nat :=
  (List.range 16).filter fun i => !x.awaits.contains i && implausible s x.slot i (x.raw.getD i (zeroWord, false))

/-- Inputs with the substitutes of R295 in place of the implausible ones, and predictions in place of the awaited ones. -/
def checkedInputs (s : State) (x : Sample) (bad : List Nat) : List Word :=
  x.raw.mapIdx fun i r => if bad.contains i || x.awaits.contains i then predictInput s x.slot i else r.1

/-- The committed values of a sample that have arrived, or stand for implausible ones, become the accepted values (R194, R295). -/
def acceptAll (x : Sample) (inputs : List Word) (s : State) : State :=
  ((List.range 16).filter fun i => !x.awaits.contains i && !(x.reads.any fun r => r.1 == i)).foldl (fun s i => accept x.slot i (reg inputs i) s) s

/-! ## Queueing and speculating (R176 to R185, R262, R282) -/

/-- The sample without speculation: committed values, checked, stand in place of provisional ones. An input that fails its check sets PLAUS at the instant (log 24); the sample waits for its awaited inputs, or enters the queue. -/
def enterCommitted (x : Sample) (s : State) : State :=
  let l := x.slot
  let prov := x.reads.map Prod.fst
  let read := fun (i : Nat) => readBinding s l i (binding (s.cfg.loopRec l) i)
  let wrong := prov.any fun i => implausible s l i (read i)
  let inputs := x.inputs.mapIdx fun i w =>
    if prov.contains i then (if implausible s l i (read i) then predictInput s l i else (read i).1) else w
  let s1 := prov.foldl (fun s i => accept l i (reg inputs i) s) s
  let bad := x.check || wrong
  let s2 := if bad then orFlags l plausBit s1 else s1
  let s3 := if wrong && !x.check then countInputs l true s2 else s2
  let y := { x with inputs := inputs, reads := [], check := bad }
  match x.awaits with
  | [] => enqueue { y with check := false } s3
  | _ => s3.setLoop l { s3.loop l with waiting := some y }

/-- Source of an INPUT entry (R182). -/
def inputSource (s : State) (b : Binding) : Nat × Nat :=
  if b.kind = 3 then (1, b.a % 256 * 2 ^ 24 + (fget {} s.cfp.roles b.index).address * 2 ^ 16 + b.index) else (2, b.index)

/-- Chains that a sample depends on: those of the provisional outputs it read, and of its loop's own earlier entry (R183, R184). -/
def sampleChains (s : State) (x : Sample) : List Nat :=
  (((latestEntry s x.slot).map fun e => e.2.chain).toList
    ++ x.reads.filterMap fun r => (entryOf s r.2).map fun e => e.2.chain).eraseDups

/-- A provisional value that the sample would read dropped at this tick (R192). -/
def readRefused (s : State) (x : Sample) : Bool :=
  s.carry.dropsNow.any fun d => d.2 == s.phase.now && (d.1 == x.slot || (readsOf s.cfg x.slot).contains d.1)

/-- The entry a sample opens: a root for the one input it awaits, else a dependent (R176, R185). -/
def sampleEntry (s : State) (x : Sample) : CarryEntry :=
  match x.awaits with
  | [] => { kind := 3, owner := x.slot, instant := x.instant }
  | i :: _ =>
    let b := binding (s.cfg.loopRec x.slot) i
    let src := inputSource s b
    { kind := 1, root := true, owner := x.slot, sourceKind := src.1, input := i, source := src.2,
      horizon := some (x.instant.add (loopHorizon (s.cfg.loopRec x.slot))), predicted := reg x.inputs i,
      tolerance := supTolerance x.sup i, instant := x.instant, tx := if b.kind = 3 then outstandingRead s b.index b.b else none }

/-- A sample that has been latched and checked starts, speculating where R176 lets it; `bad` tells that a provisional input failed its check. -/
def enterSample (bad : Bool) (x : Sample) (s : State) : State :=
  let chains := sampleChains s x
  let speculates := loopProv (s.cfg.loopRec x.slot) && u8 s.cfg.carry 0 == 1
  if speculates = false ∨ x.awaits.length ≥ 2 then enterCommitted x s
  else if readRefused s x then enterCommitted x (countRefused s)
  else if x.awaits = [] ∧ chains = [] then enterCommitted x s
  else
    match openEntry (sampleEntry s x) chains s with
    | (none, s1) => enterCommitted x s1
    | (some n, s1) =>
      enqueue { x with entry := some n, check := x.check || bad }
        (if x.check || x.awaits.isEmpty then s1 else countInputs x.slot false s1)

/-- The CFP layer reads each awaited field input (R428). -/
def readAwaited (l : Nat) (awaited : List Nat) (s : State) : State :=
  awaited.foldl (fun s i =>
    let b := binding (s.cfg.loopRec l) i
    if b.kind = 3 then issueRead b.index b.b s else s) s

/-- An awaited point whose first update since the cut that made the view has come before the sample instant arrives at once (R178). -/
def feedArrived (l : Nat) (awaited : List Nat) (s : State) : State :=
  awaited.foldl (fun s i =>
    let b := binding (s.cfg.loopRec l) i
    if b.kind = 4 then
      match fget none s.commons.sinceView b.index with
      | none => s
      | some (t, v) => arrive (fun x => x.kind == 4 && x.index == b.index) (pointWord t v, false) s.phase.now s
    else s) s

/-- LOOP.RELEASED (R304). -/
def leaveHold (l : Nat) (s : State) : State := setLoopMode l .soft s

/-- The prediction of model_in at a sample; the first is the measurement itself (R294, log 24). -/
def samplePrediction (s : State) (l : Nat) (inputs : List Word) : Word :=
  match supModelIn (s.cfg.sup l) with
  | none => zeroWord
  | some i => if (fget none (s.loop l).accepted i).isNone then reg inputs i else predictInput s l i

/-- The program's sample: the first in SOFT sets the model's bias and what its ramps start from (R288, R294). -/
def startSample (bad : Bool) (x : Sample) (s : State) : State :=
  let l := x.slot
  let z := s.loop l
  let first := decide (z.mode = .soft) && z.softFirst
  let y := { x with soft := decide (z.mode = .soft), base := if first then rampBase s l x.inputs else [] }
  let s1 := if first then startBias l x.inputs (s.setLoop l { z with softFirst := false }) else s
  feedArrived l x.awaits (enterSample bad y (readAwaited l x.awaits s1))

/-- A sample that is wholly latched: the checks of R293 to R295, then hold, release or start. A provisional input that fails its check is replaced, and tells nothing outside the sample (R194). -/
def proceed (x : Sample) (s : State) : State :=
  let l := x.slot
  let sup := s.cfg.sup l
  let bad := badInputs s x
  let known := bad.filter fun i => !(x.reads.any fun r => r.1 == i)
  let inputs := checkedInputs s x bad
  let y := { x with inputs := inputs, raw := [], check := !known.isEmpty, predicted := samplePrediction s l inputs }
  let start := startSample (decide (known.length < bad.length)) y
  let s1 := acceptAll x inputs s
  let s2 := if x.awaits.isEmpty || !known.isEmpty then countInputs l (!known.isEmpty) s1 else s1
  let z := s2.loop l
  match z.mode with
  | .disabled | .manual => s
  | .hold => if z.holdCause = 1 ∧ z.plausible ≥ u8 sup 21 then start (leaveHold l s2) else heldSample l inputs y.predicted (!bad.isEmpty) s2
  | .soft | .run =>
    if known.isEmpty = false ∧ z.implausible ≥ u8 sup 20 then
      let i := known.headD 0
      heldSample l inputs y.predicted true (enterHold l 1 i (x.raw.getD i (zeroWord, false)).1 s2)
    else start s2

/-- A sample in MANUAL: the outputs that the last LOOP.MANUAL named take its values as a committed result (R286, R291). -/
def manualSample (l : Nat) (s : State) : State :=
  let x := s.loop l
  let (mask, vs) := x.manual.getD (0, [])
  let outs := (List.range 16).map fun o => if bit mask o then reg vs o else reg x.out o
  let s1 := s.setLoop l { x with
    out := outs, lastCommit := s.phase.now, history := (reg outs (supModelOut (s.cfg.sup l)) :: x.history).take 64 }
  let s2 := runTriggers l outs (traceKind l 6 x.samples (committedFile s1 l) s1)
  timing l s.phase.now x.period (applyNamed l mask outs s2)

/-! ## The sample instant (R264, R274, R276, R281) -/

/-- A sample gives no result, with the overrun it counts (R264, R282, R286). -/
def loseSample (l cause count : Nat) (s : State) : State :=
  let s1 := missSample l s
  traceKind l 5 count (committedFile s1 l) (overrun l cause 0 s1)

/-- The previous sample still waits: discarded, or given up when its horizon has come (R264, R282). -/
def discardWaiting (l : Nat) (s : State) : State :=
  let s1 := match s.engine.queue.find? fun x => x.slot == l with
    | none => s
    | some x =>
      loseSample l 2 x.count { s with engine := { s.engine with queue := s.engine.queue.filter fun x => x.slot != l } }
  match (s1.loop l).waiting with
  | none => s1
  | some w =>
    let s2 := s1.setLoop l { s1.loop l with waiting := none }
    if w.instant.tu + loopHorizon (s.cfg.loopRec l) ≤ s.phase.now.tu then
      loseSample l 3 w.count { s2 with engine := { s2.engine with givenUp := s2.engine.givenUp + 1 } }
    else loseSample l 2 w.count s2

/-- The outer loop of a cascade follows its inner loop's state (R276). -/
def followInner (l : Nat) (s : State) : State :=
  match loopInner (s.cfg.loopRec l) with
  | none => s
  | some n =>
    let x := s.loop l
    let off := match (s.loop n).mode with
      | .hold | .manual | .disabled => true
      | .soft | .run => false
    if off && (decide (x.mode = .soft) || decide (x.mode = .run)) then enterHold l 2 n zeroWord s
    else if !off && decide (x.mode = .hold) && decide (x.holdCause = 2) then leaveHold l s
    else s

/-- A LOOP.MANUAL applies at the instant, its state and its values together (R17, R306). -/
def applyManual (l : Nat) (s : State) : State :=
  match (s.loop l).manualNext with
  | none => s
  | some m =>
    let s1 := s.setLoop l { s.loop l with manualNext := none }
    match m with
    | some v =>
      let s2 := setLoopMode l .manual s1
      s2.setLoop l { s2.loop l with manual := some v }
    | none => if (s1.loop l).mode = .manual then setLoopMode l .soft s1 else s1

/-- A loop samples now (R261, R285): results due are applied first. -/
def takeSample (l : Nat) (s : State) : State :=
  let now := s.phase.now
  let s1 := applyManual l (discardWaiting l (applyAllDue s))
  let s2 := followInner l (s1.setLoop l { s1.loop l with samples := (s1.loop l).samples + 1 })
  let s3 := match (s2.loop l).mode with
    | .disabled => s2
    | .manual => manualSample l s2
    | .hold | .soft | .run =>
      let x := latch l s2
      if x.loose then enqueue x s2 else proceed x s2
  s3.setLoop l { s3.loop l with previous := some now }

/-- LOOP_SAMPLE: the loop's next instant, if it lies in the present rod; bead-triggered loops sample at their beads (R272 to R274). -/
def execLoopSample (slot : Nat) (s : State) : Host.Outcome State Fault Refusal :=
  let v := s.cfg.loopRec slot
  let now := s.phase.now.tu
  let first := nextInstant v now
  let t := if (s.loop slot).previous = some (Instant.ofTu first) then nextInstant v (first + 1) else first
  if s.engine.running = false ∨ s.phase.started = false ∨ s.cfg.hasLoop slot = false ∨ loopBead v ∨ (s.loop slot).mode = .disabled
      ∨ t / rodTu ≠ s.cycle then .next s
  else .next (settleAll (takeSample slot (s.atAngle (t % rodTu))))

/-! ## Processors (R261 to R269) -/

def State.processor (s : State) (p : Nat) : Processor := fget {} s.engine.processors p
def State.setProcessor (s : State) (p : Nat) (x : Processor) : State := { s with engine := { s.engine with processors := fput {} s.engine.processors p x } }

/-- Processors in service: 0 to 7 but for those retired, and the spare once it serves. -/
def activeProcessors (s : State) : List Nat :=
  (List.range 9).filter fun p => !(s.processor p).retired && (decide (p < 8) || s.engine.spareServes.isSome)

def freeProcessors (s : State) : List Nat := (activeProcessors s).filter fun p => (s.processor p).sample.isNone

/-- The active processor whose turn comes after that of `p` (R266, R269). -/
def nextTurn (s : State) (p : Nat) : Nat :=
  (((List.range 9).map fun i => (p + 1 + i) % 9).find? fun q => (activeProcessors s).contains q).getD p

/-- Samples whose latch waited for a producer that is done now (R281). -/
def resolveLoose (s : State) : State :=
  (s.engine.queue.filter fun x => x.loose && !(x.late.any (inputPending s x.slot x.instant))).foldl
    (fun s x => proceed (fillLate x s) { s with engine := { s.engine with queue := s.engine.queue.erase x } }) s

/-- Order of samples of one instant: faster rate, then lower slot (R262). -/
def sampleKey (c : Cfg) (x : Sample) : Nat := ((16 - loopRate (c.loopRec x.slot)).toNat) * 512 + x.slot

def leastBy (f : Sample → Nat) : List Sample → Option Sample
  | [] => none
  | x :: xs => some (xs.foldl (fun a b => if f b < f a then b else a) x)

/-- The sample to start next (R262). -/
def nextSample (s : State) : Option Sample :=
  let q := s.engine.queue.filter fun x => !x.loose
  match leastBy (fun x => x.instant.tu) q with
  | none => none
  | some a =>
    let same := q.filter fun x => x.instant == a.instant
    leastBy (sampleKey s.cfg) (same.filter fun x => !(same.any fun y => runsBefore s.cfg y.slot x.slot))

/-- The processor that takes the duplicate of a sample started on `p`, where this sample is the one the rod checks (R266, R269): the spare while all eight are active, else, once the spare serves, another active processor that is free. -/
def checker (s : State) (p : Nat) : Option Nat :=
  if s.engine.checkedRod ∨ p ≠ s.engine.checkTurn then none
  else if s.engine.spareServes.isSome then (freeProcessors s).find? (· != p)
  else if (activeProcessors s).length = 8 ∧ (s.processor 8).retired = false ∧ (s.processor 8).sample.isNone then some 8
  else none

/-- Recomputations that can run: those of roots whose own sample has run once, or never will (R188). -/
def readyRecomputes (s : State) : List Nat :=
  s.engine.recomputes.filter fun e => (s.entry e).result.ready || !((liveSamples s).any fun x => x.entry == some e)

/-- A sample starts on a processor with its loop's OUT and ST (R238), and its duplicate, if it is checked, on another at the same clock (R266). -/
def startOn (p : Nat) (x : Sample) (s : State) : State :=
  let l := x.slot
  let st := match x.entry with
    | none => (s.loop l).st
    | some e => stateBefore s l (s.entry e).order
  let copy := checker s p
  let y : Sample := { x with
    processor := p, out := (s.loop l).out, st := st, part := if copy.isSome then 1 else 0, partner := copy.getD 0 }
  let s1 := s.setProcessor p { s.processor p with sample := some y }
  let s2 := match copy with
    | none => s1
    | some q => s1.setProcessor q { s1.processor q with sample := some { y with part := 2 } }
  { s2 with engine := { s2.engine with
    queue := s2.engine.queue.erase x, checkedRod := s2.engine.checkedRod || decide (p = s.engine.checkTurn) } }

/-- SAMPLE_START: a third run takes the next free processor (R267); else the first sample in the order of R262 starts on the lowest free one. Recomputations go first. -/
def execSampleStart (s : State) : Host.Outcome State Fault Refusal :=
  let s1 := resolveLoose s
  if s1.engine.running = false ∨ readyRecomputes s1 ≠ [] then .next s1
  else
    match s1.engine.thirds, nextSample s1, freeProcessors s1 with
    | x :: xs, _, p :: _ =>
      let s2 := { s1 with engine := { s1.engine with thirds := xs } }
      .next (s2.setProcessor p { s2.processor p with sample := some { x with part := 3 } })
    | [], some x, p :: _ => .next (startOn p x s1)
    | _, _, _ => .next s1

/-- A sample ends with its result (R242): committed, left with its carry entry, or of no use. -/
def finishSample (x : Sample) (s : State) : State :=
  let r := runProgram s.cfg x
  if x.dropped then s
  else
    match x.entry with
    | none => commit x.slot r x.instant 0 s
    | some e =>
      let s1 := s.setEntry e { s.entry e with result := r }
      trySettle (s.entry e).chain (admitProvGates x.slot r (traceKind x.slot 1 r.count r.file s1))

/-- A processor takes no further sample, and is replaced at the next boundary; one that runs completes (R263, R267, R268). -/
def retireProcessor (p : Nat) (s : State) : State :=
  let s1 := s.setProcessor p { s.processor p with retired := true }
  { s1 with spare := { s1.spare with waiting := s1.spare.waiting ++ [{ kind := 5, unit := p, cause := 1 }] } }

/-- Two runs of a checked sample are complete: where they agree the result is taken, else it runs a third time (R266, R267). Whether two runs differ is not the manual's to say: each answer is a free value (log 10). -/
def vote (x : Sample) (s : State) : State :=
  let s0 := { s with engine := { s.engine with checks := s.engine.checks + 1 } }
  let (agree, s1) := s0.takeBool
  if agree then finishSample x s1
  else { s1 with engine := { s1.engine with mismatches := s1.engine.mismatches + 1, thirds := s1.engine.thirds ++ [x] } }

/-- A sample that no two runs agree on gives no result (R252, R267). -/
def loseMajority (x : Sample) (s : State) : State :=
  let s1 := unclean x.slot (missSample x.slot { s with engine := { s.engine with noMajority := s.engine.noMajority + 1 } })
  traceKind x.slot 5 x.count (committedFile s1 x.slot) s1

/-- The third run decides: the result that two share is taken, and the processor of the other retires (R267). -/
def decideThird (x : Sample) (s : State) : State :=
  let (shared, s1) := s.takeBool
  let (original, s2) := s1.takeBool
  if shared then finishSample x (retireProcessor (if original then x.partner else x.processor) s2) else loseMajority x s2

/-- The other run of a checked sample still runs. -/
def otherRuns (x : Sample) (s : State) : Bool :=
  (s.processor (if x.part = 1 then x.partner else x.processor)).sample.any fun y => y.slot == x.slot && y.instant == x.instant && y.part == 3 - x.part

/-- SAMPLE_COMPLETE: a run ends, and frees its processor; a checked sample's result is taken when both its runs are complete (R242, R263, R266, R267). -/
def execSampleComplete (processor : Nat) (s : State) : Host.Outcome State Fault Refusal :=
  match (s.processor processor).sample with
  | none => .next s
  | some x =>
    let s1 := s.setProcessor processor { s.processor processor with sample := none }
    .next (settleAll (match x.part with
      | 0 => finishSample x s1
      | 3 => decideThird x s1
      | _ => if otherRuns x s1 then s1 else vote x s1))

/-- RECOMPUTATION: recomputations run in order of entry, on a free processor (R188, R262). -/
def execRecomputation (entry : Nat) (s : State) : Host.Outcome State Fault Refusal :=
  if (readyRecomputes s).contains entry && (readyRecomputes s).all (fun e => decide (entry ≤ e)) && !(freeProcessors s).isEmpty then
    .next (settleAll (recompute entry s))
  else .next s

/-- RESULT_APPLY: the first result of a loop that is due in this rod reaches its routes (R283). -/
def execResultApply (slot : Nat) (s : State) : Host.Outcome State Fault Refusal :=
  match (s.loop slot).due with
  | [] => .next s
  | d :: _ =>
    if d.instant.tu ≤ s.phase.now.tu then .next (settleAll (applyDue slot s))
    else if d.instant.cycle = s.cycle then .next (settleAll (applyDue slot (s.atAngle d.instant.angle)))
    else .next s

/-- AWAIT_GIVE_UP: nothing has arrived by instant + horizon (R282). -/
def execAwaitGiveUp (slot : Nat) (s : State) : Host.Outcome State Fault Refusal :=
  match (s.loop slot).waiting with
  | none => .next s
  | some w =>
    let t := w.instant.add (loopHorizon (s.cfg.loopRec slot))
    let go := fun (s : State) =>
      let s1 := s.setLoop slot { s.loop slot with waiting := none }
      loseSample slot 3 w.count { s1 with engine := { s1.engine with givenUp := s1.engine.givenUp + 1 } }
    if t.tu ≤ s.phase.now.tu then .next (go s)
    else if t.cycle = s.cycle then .next (go (s.atAngle t.angle))
    else .next s

/-! ## Engine load (R260) -/

/-- Load of the loops in a list: clocks per second, times 4,096. -/
def loadOf (c : Cfg) (ls : List Nat) : Nat :=
  (ls.map fun l => sampleCost (c.program l) * c.nominal * 2 ^ (loopRate (c.loopRec l) + 12).toNat).sum

/-- 75 % of 4,000,000,000 clocks per second. -/
abbrev loadLimit : Nat := 3000000000 * 4096

def enabledLoops (s : State) : List Nat := s.cfg.loopSlots.filter s.loopEnabled

/-- Engine load in 0.01 %. -/
def engineLoad (s : State) : Nat := divNear (loadOf s.cfg (enabledLoops s) * 10000) (4000000000 * 4096)

/-! ## LOOP commands (R305, R306) -/

def timingBits (s : State) (l : Nat) : Nat := flag (loopPeriodCfg (s.cfg.loopRec l)) 0 + flag (s.loop l).period 1

def wordBytes (ws : List Word) : List Byte := ws.flatMap fun w => le 4 w.toNat

def execLoopStatus (mbx : Nat) (s : State) : Host.Outcome State Fault Refusal :=
  .next (serveRead 0x0701 1 (· == 4) (fun c s =>
    let l := u16 c.pay 0
    if l > 511 ∨ u16 c.pay 2 ≠ 0 then bad 6
    else
      let x := s.loop l
      ok (le 1 x.mode.code ++ le 1 (timingBits s l) ++ le 2 x.flags.toNat ++ le 2 x.clean ++ le 1 x.implausible ++ le 1 x.holdCause
        ++ le 4 (count32 x.samples) ++ le 4 (count32 x.overruns) ++ le 4 (count32 x.misses) ++ le 4 (count32 x.fallbacks)
        ++ cycle64 x.lastCommit.cycle ++ le 2 x.lastCommit.angle ++ zeros 6)) mbx s)

def execLoopRead (mbx : Nat) (s : State) : Host.Outcome State Fault Refusal :=
  .next (serveRead 0x0702 1 (· == 4) (fun c s =>
    let l := u16 c.pay 0
    let region := u8 c.pay 2
    if l > 511 ∨ region > 2 ∨ u8 c.pay 3 ≠ 0 then bad 6
    else
      let x := s.loop l
      let (n, rs) := if region = 0 then (16, x.inp) else if region = 1 then (16, x.out) else (64, x.st)
      ok (le 1 n ++ zeros 3 ++ wordBytes ((List.range n).map (reg rs)))) mbx s)

/-- Flags cleared; FIRST_STAGE goes when bits [4:0] are all clear (R251). -/
def clearFlags (w : BitVec 16) (mask : Nat) : BitVec 16 :=
  let v := w &&& ~~~(BitVec.ofNat 16 mask)
  if v &&& 0x1F#16 = 0 then v &&& 0x60#16 else v

def execLoopFlagsClear (mbx : Nat) (s : State) : Host.Outcome State Fault Refusal :=
  .next (serve 0x0703 2 (· == 4) (fun c s =>
    let l := u16 c.pay 0
    let m := u16 c.pay 2
    if l > 511 ∨ m > 0x7F then (s, bad 6)
    else
      let w := clearFlags (s.loop l).flags m
      (s.setLoop l { s.loop l with flags := w }, ok (le 2 w.toNat ++ zeros 2))) mbx s)

def execLoopEnable (mbx : Nat) (s : State) : Host.Outcome State Fault Refusal :=
  .next (serve 0x0704 2 (· == 4) (fun c s =>
    let l := u16 c.pay 0
    let on := u8 c.pay 2
    let wanted := s.cfg.loopSlots.filter fun k =>
      k == l || (match (s.loop k).enableNext with
        | some (b, _) => b
        | none => s.loopEnabled k)
    if l > 511 ∨ on > 1 ∨ u8 c.pay 3 ≠ 0 ∨ s.cfg.hasLoop l = false then (s, bad 6)
    else if on = 1 ∧ loadOf s.cfg wanted > loadLimit then (s, { status := 7, payload := conflictPayload 0xFFFF0700 0 0 0x8704 l 0 })
    else
      (s.setLoop l { s.loop l with enableNext := some (decide (on = 1), effectBoundary s) }, ok (cycle64 (effectBoundary s)))) mbx s)

/-- The first instant after now at which a loop samples; none can be foreseen for a bead-triggered one, and the manual states no answer for it (log 24). -/
def firstInstant (s : State) (l : Nat) : Instant :=
  let v := s.cfg.loopRec l
  if loopBead v ∨ s.cfg.hasLoop l = false then Instant.ofTu (Config.unforeseenInstant l s.phase.now.tu).toNat
  else Instant.ofTu (nextInstant v (s.phase.now.tu + 1))

def execLoopManual (mbx : Nat) (s : State) : Host.Outcome State Fault Refusal :=
  .next (serve 0x0705 2 (· == 72) (fun c s =>
    let l := u16 c.pay 0
    let op := u8 c.pay 2
    let t := firstInstant s l
    let vs := (List.range 16).map fun i => BitVec.ofNat 32 (u32 c.pay (8 + 4 * i))
    if l > 511 ∨ op > 1 ∨ u8 c.pay 3 ≠ 0 ∨ u16 c.pay 6 ≠ 0 then (s, bad 6)
    else if op = 1 ∧ (s.loop l).mode = .disabled then (s, bad 8)
    else
      (s.setLoop l { s.loop l with manualNext := if (s.loop l).mode = .disabled then none else some (if op = 1 then some (u16 c.pay 4, vs) else none) },
        ok (cycle64 t.cycle ++ le 2 t.angle ++ zeros 6))) mbx s)

def execLoopModel (mbx : Nat) (s : State) : Host.Outcome State Fault Refusal :=
  .next (serveRead 0x0706 1 (· == 4) (fun c s =>
    let l := u16 c.pay 0
    let x := s.loop l
    if l > 511 ∨ u16 c.pay 2 ≠ 0 then bad 6
    else if (supModelIn (s.cfg.sup l)).isNone then bad 8
    else ok (wordBytes [x.predicted, x.bias, x.residual] ++ le 4 (count32 x.implausibles))) mbx s)

def execLoopTraceArm (mbx : Nat) (s : State) : Host.Outcome State Fault Refusal :=
  .next (serve 0x0707 2 (· == 12) (fun c s =>
    let ch := u8 c.pay 0
    let t := u8 c.pay 1
    let post := u16 c.pay 8
    if ch > 15 ∨ t > 3 ∨ u8 c.pay 2 > 8 ∨ u8 c.pay 3 ≠ 0 ∨ u16 c.pay 4 > 511 ∨ u8 c.pay 6 > 0xC2 ∨ u8 c.pay 7 ≠ 0 ∨ post = 0
        ∨ post > 4095 ∨ u16 c.pay 10 > 0x7F then (s, bad 6)
    else
      let x : Trace := { state := 1, trigger := t, j := u8 c.pay 2, slot := u16 c.pay 4, register := u8 c.pay 6, post := post, mask := u16 c.pay 10 }
      let s1 := s.setTrace ch x
      (if t = 0 then fireTrace ch s1 else s1, ok [])) mbx s)

def execLoopTraceStatus (mbx : Nat) (s : State) : Host.Outcome State Fault Refusal :=
  .next (serveRead 0x0708 1 (· == 4) (fun c s =>
    let x := s.trace (u8 c.pay 0)
    if u8 c.pay 0 > 15 ∨ allZero (slice c.pay 1 3) = false then bad 6
    else
      ok (le 1 x.state ++ zeros 1 ++ le 2 x.entries.length ++ le 2 x.triggerIndex ++ le 2 x.triggerInstant.angle
        ++ cycle64 x.triggerInstant.cycle)) mbx s)

def execLoopTraceRead (mbx : Nat) (s : State) : Host.Outcome State Fault Refusal :=
  .next (serveRead 0x0709 1 (· == 8) (fun c s =>
    let x := s.trace (u8 c.pay 0)
    let first := u16 c.pay 2
    let n := u16 c.pay 4
    if u8 c.pay 0 > 15 ∨ u8 c.pay 1 ≠ 0 ∨ n = 0 ∨ n > 192 ∨ u16 c.pay 6 ≠ 0 then bad 6
    else if x.state = 0 then bad 8
    else
      let es := (x.entries.drop first).take n
      ok (le 2 first ++ le 2 es.length ++ zeros 4 ++ es.flatMap fun e => le 4 e.1.toNat ++ le 1 e.2)) mbx s)

def execLoopStats (mbx : Nat) (s : State) : Host.Outcome State Fault Refusal :=
  .next (serveRead 0x070A 1 (· == 0) (fun _ s =>
    let ls := s.cfg.loopSlots.map s.loop
    let total := fun (f : Loop → Nat) => le 4 (count32 (ls.map f).sum)
    ok (le 2 (engineLoad s) ++ ((List.range 5).flatMap fun k => le 2 (ls.filter fun x => x.mode.code == k).length)
      ++ le 2 (ls.filter Loop.period).length ++ total Loop.overruns ++ total Loop.fallbacks ++ total Loop.misses
      ++ le 4 (count32 s.engine.givenUp))) mbx s)

end Sys2Proof.Machine
end

