-- ==== Sys2Proof/Machine/Commons.lean ====
section
/-! DEFINITION. Chapter 10: points and their writers, queueing and receiving updates, the cut, refresh, and the COMMONS commands; and what publishes: the lender's offer, PUBLISH beads, and placing a bead. -/

namespace Sys2Proof.Machine

/-! ## Records (R310, R311) -/

/-- The commons record; without one this chip has no number and owns no block. -/
def Cfg.commons (c : Cfg) : List Byte := (c.baseValue 0x0801 0).getD (le 1 0 ++ le 1 0 ++ le 2 49152 ++ zeros 2564)
def ownChip (c : Cfg) : Nat := u8 c.commons 0
def cutAngle (c : Cfg) : Nat := u16 c.commons 2
def blockPrimary (c : Cfg) (b : Nat) : Nat := u8 c.commons (8 + 2 * b)
def blockStandby (c : Cfg) (b : Nat) : Nat := u8 c.commons (9 + 2 * b)

/-- The map hash (R312). -/
def mapHash (c : Cfg) : Nat := n32 (sha256 (slice c.commons 2 2 ++ slice c.commons 8 2048)) 0

/-- The run that declares a point: its first point and record (R311). -/
def runOf (rs : List Record) (p : Nat) : Option Record :=
  rs.find? fun r => r.type == 0x0802 && decide (r.inst ≤ p) && decide (p < r.inst + u16 r.value 0)
def Cfg.run (c : Cfg) (p : Nat) : Option Record := runOf ((c.base.map BaseImage.records).getD []) p

/-! ## Writers (R319, R320, R322) -/

def blockState (s : State) (b : Nat) : Nat := (fget {} s.commons.blocks b).state
/-- The writer of a block in its present state; 0 for none. -/
def writerOf (s : State) (b : Nat) : Nat :=
  match blockState s b with
  | 1 | 2 => blockPrimary s.cfg b
  | 3 | 4 => blockStandby s.cfg b
  | _ => 0
def writesBlock (s : State) (b : Nat) : Bool := ownChip s.cfg != 0 && writerOf s b == ownChip s.cfg
def silentOf (s : State) (chip : Nat) : Nat := if chip = ownChip s.cfg then 0 else (fget {} s.commons.chips chip).silent

/-- This chip takes part in the commons: it has a number and sends (R325, R367). -/
def commonsOn (s : State) : Bool := ownChip s.cfg != 0 && sendsOwn s

/-- The blocks at a start (R325). -/
def startBlocks (c : Cfg) : FMap BlockState :=
  (List.range 1024).filterMap fun b =>
    if blockPrimary c b = 0 then none
    else some (b, { state := if blockPrimary c b = ownChip c then 4 else 1, returning := 0 })

/-- The commons at a start (R325): both copies cleared, all silent counts zero. -/
def startCommons (s : State) : State :=
  { s with commons := { blocks := startBlocks s.cfg, stats := s.commons.stats, peakQueue := s.commons.peakQueue, suppressed := s.commons.suppressed } }

/-! ## The filling copy (R313 to R317) -/

def countCommons (i n : Nat) (s : State) : State := { s with commons := { s.commons with stats := bump s.commons.stats i n } }

/-- The cut that the copy now filling is for. -/
def comingCut (s : State) : Nat := if s.commons.cutDone then s.cycle + 1 else s.cycle

/-- The cut to which an update queued now is assigned (R313). -/
def assignedCut (s : State) : Nat := if s.angle + 1024 ≤ cutAngle s.cfg then s.cycle else s.cycle + 1

/-- One stamp less another, modulo 2^32. -/
def stampDiff (a b : Nat) : Int := signed 32 (a % 4294967296 + 4294967296 - b % 4294967296)

/-- Write a point of the filling copy. -/
def fillPoint (p : Nat) (x : Point) (s : State) : State := { s with commons := { s.commons with fill := fput {} s.commons.fill p x } }

/-- Quality of an accepted value (R308): VALID, with LATE, STANDBY, REFRESHED and NOCOUNT as named. -/
def qualityOf (late standby refreshed nocount : Bool) : Nat := 1 + flag late 1 + flag standby 3 + flag refreshed 4 + flag nocount 5

/-- An input that awaits the point takes the value as it arrives, and a sample taken later finds it (R178). -/
def arrivePoint (p type value : Nat) (s : State) : State :=
  let first := fun (m : FMap (Option (Nat × Nat))) => if (fget none m p).isSome then m else fput none m p (some (type, value))
  arrive (fun b => b.kind == 4 && b.index == p) (pointWord type value, false) s.phase.now
    { s with commons := { s.commons with sinceView := first s.commons.sinceView, sinceCut := first s.commons.sinceCut } }

/-- A value for the coming cut, or a late one, enters the filling copy, unless the copy holds a newer stamp (R314 to R316); an input that awaits the point takes it from there (R178). -/
def fillValue (u : HeldUpdate) (late : Bool) (s : State) : State :=
  let old := fget {} s.commons.fill u.point
  if bit old.quality 0 ∧ stampDiff u.stamp old.stamp < 0 then countCommons 4 1 s
  else arrivePoint u.point u.type u.value
    (fillPoint u.point { value := u.value, stamp := u.stamp, writer := u.sender, type := u.type, quality := qualityOf late u.standby false false } s)

def holdUpdate (u : HeldUpdate) (s : State) : State := { s with commons := { s.commons with held := s.commons.held ++ [u] } }

/-! ## Queueing (R313, R317, R330) -/

/-- Count an entry without REFRESH assigned to a cut (R328). -/
def countAssigned (cut : Nat) (s : State) : State := { s with commons := { s.commons with assigned := bump s.commons.assigned (low32 cut) 1 } }

/-- Put an entry on the transmit queue. -/
def pushTx (e : TxEntry) (s : State) : State :=
  let q := s.commons.txq ++ [{ e with queued := s.phase.now }]
  { s with commons := { s.commons with txq := q, peakQueue := max s.commons.peakQueue q.length } }

/-- Older entries of a point that wait to be republished or refreshed are withdrawn (R330); a withdrawn republish entry is no longer assigned to its cut. -/
def withdraw (p : Nat) (s : State) : State :=
  let old := s.commons.txq.filter fun e => e.kind != 0 && e.point == p
  { s with commons := { s.commons with
    txq := s.commons.txq.filter fun e => e.kind == 0 || e.point != p
    assigned := (old.filter fun e => e.kind == 1).foldl (fun m e => fput 0 m e.stamp (fget 0 m e.stamp - 1)) s.commons.assigned } }

/-- An update of this chip's own is queued with the stamp of a cut, and enters its own copy (R313, R317). -/
def queueOwn (kind p type value : Nat) (standby : Bool) (cut : Nat) (s : State) : State :=
  let u : HeldUpdate := { sender := ownChip s.cfg, point := p, type := type, standby := standby, stamp := low32 cut, value := value }
  let s1 := if kind = 0 then withdraw p s else s
  let s2 := countAssigned cut (pushTx { point := p, type := type, standby := standby, stamp := low32 cut, value := value, kind := kind } s1)
  if cut = comingCut s2 then fillValue u false s2 else holdUpdate u s2

/-- The standby owner writes with STANDBY set (R321). -/
def asStandby (s : State) (b : Nat) : Bool := decide (blockState s b = 3) || decide (blockState s b = 4)

/-- An update from a PUBLISH bead finds the queue full (R330). -/
def noteQueueFull (p : Nat) (s : State) : State :=
  let n := s.commons.notQueued + 1
  let first := if s.commons.notQueued = 0 then p else s.commons.notQueuedPoint
  let s1 := countCommons 6 1 { s with commons := { s.commons with notQueued := n, notQueuedPoint := first } }
  if s.commons.queueFullRaised then s1
  else raise 0x0808 [n, first, low32 s.cycle] { s1 with commons := { s1.commons with queueFullRaised := true } }

/-- A committed value for a point this chip declares (R322, R324, R330). -/
def publish (p type value : Nat) (s : State) : State :=
  if s.phase.countValid = false ∨ writesBlock s (p / 64) = false then
    { s with commons := { s.commons with suppressed := s.commons.suppressed + 1 } }
  else if s.commons.txq.length ≥ 1024 then noteQueueFull p s
  else queueOwn 0 p type value (asStandby s (p / 64)) (assignedCut s) s

/-- A value word as a point value of a type, and whether the conversion saturated (R255). -/
def wordPoint (type enumMax : Nat) (w : Word) : Nat × Bool :=
  match type with
  | 1 => let r := (exact w).toFixed 0 (-(2 ^ 63 : Nat)) ((2 ^ 63 : Nat) - 1)
         ((r.1 % (2 ^ 64 : Nat)).toNat, r.2)
  | 2 => let r := (exact w).toFixed 32 (-(2 ^ 63 : Nat)) ((2 ^ 63 : Nat) - 1)
         ((r.1 % (2 ^ 64 : Nat)).toNat, r.2)
  | 3 => (if isZeroFp w then 0 else 1, false)
  | _ => let r := (exact w).toFixed 0 0 enumMax
         (r.1.toNat, r.2)

/-- A PUBLISH bead fires (R149, R159, R255, R322). -/
def publishBead (point loop output : Nat) (s : State) : State :=
  match s.cfg.run point with
  | none => s
  | some r =>
    let v := wordPoint (u8 r.value 2) (u16 r.value 4) (reg (s.loop loop).out output)
    publish point (u8 r.value 2) v.1 (if v.2 then orFlags loop satBit s else s)

/-- OFFER_PUBLISH: the offer point at angle 32,768, while LEND is set (R220). -/
def execOfferPublish (s : State) : Host.Outcome State Fault Refusal :=
  if lendOn s.cfg = false ∨ s.phase.started = false ∨ (s.hif.mode ≠ .running ∧ s.hif.mode ≠ .start) then .next s
  else
    let s1 := s.atAngle 32768
    .next (publish (u16 s.cfg.reck 14) 1 (offerValue s1) s1)

/-! ## Receiving (R314 to R316, R323, R324, R326) -/

def groupPcp : Nat := 6
abbrev commonsGroup : Nat := 0x03504C440002

def State.chip (s : State) (c : Nat) : ChipSeen := fget {} s.commons.chips c
def State.setChip (s : State) (c : Nat) (x : ChipSeen) : State := { s with commons := { s.commons with chips := fput {} s.commons.chips c x } }

/-- COMMONS.REJECTED at most once per 256 rods per sender (R323, R333). -/
def rejectUpdate (u : HeldUpdate) (s : State) : State :=
  let x := s.chip u.sender
  let first := if x.rejected = 0 then u.point else x.rejectedPoint
  let due := match x.rejectedAt with
    | none => true
    | some c => decide (c + 256 ≤ s.cycle)
  let s1 := countCommons 3 1 s
  if due then
    raise 0x0806 [u.sender, first, x.rejected + 1, blockState s (u.point / 64)]
      (s1.setChip u.sender { x with rejected := 0, rejectedAt := some s.cycle })
  else s1.setChip u.sender { x with rejected := x.rejected + 1, rejectedPoint := first }

/-- An update of a writer accepted for a cut by the cut (R329). -/
def countReceived (u : HeldUpdate) (s : State) : State :=
  let x := s.chip u.sender
  countCommons 1 1 (s.setChip u.sender { x with received := bump x.received u.stamp 1 })

/-- A late update (R315): counted for its cut, and into the copy then filling. -/
def lateUpdate (u : HeldUpdate) (s : State) : State :=
  let l := s.commons.late
  let l' := if l.any fun x => x.cut == u.stamp then l.map fun x => if x.cut = u.stamp then { x with count := x.count + 1 } else x
            else l ++ [{ cut := u.stamp, count := 1, point := u.point, sender := u.sender }]
  fillValue u true (countCommons 2 1 (countCommons 1 1 { s with commons := { s.commons with late := l' } }))

/-- A refresh entry from an owner of the block (R326). -/
def refreshUpdate (u : HeldUpdate) (s : State) : State :=
  let old := fget {} s.commons.fill u.point
  let own := blockPrimary s.cfg (u.point / 64) == u.sender || blockStandby s.cfg (u.point / 64) == u.sender
  if own = false then rejectUpdate u s
  else if bit old.quality 0 ∧ 0 ≤ stampDiff old.stamp u.stamp then countCommons 1 1 s
  else
    countCommons 1 1 (fillPoint u.point
      { value := u.value, stamp := u.stamp, writer := u.sender, type := u.type, quality := qualityOf false u.standby true (!s.phase.countValid) } s)

/-- One entry of an update frame. -/
def takeUpdate (u : HeldUpdate) (refresh : Bool) (s : State) : State :=
  if refresh then refreshUpdate u s
  else if s.phase.countValid = false then
    if writerOf s (u.point / 64) = u.sender then
      arrivePoint u.point u.type u.value (countCommons 1 1 (fillPoint u.point
        { value := u.value, stamp := u.stamp, writer := u.sender, type := u.type, quality := qualityOf false u.standby false true } s))
    else rejectUpdate u s
  else
    let d := stampDiff u.stamp (comingCut s)
    if d > 0 then countReceived u (holdUpdate u s)
    else if writerOf s (u.point / 64) ≠ u.sender then rejectUpdate u s
    else if d = 0 then fillValue u false (countReceived u s)
    else lateUpdate u s

/-- The oldest update frame delivered (R327); none, or one this chip does not take, changes nothing but the store. -/
def takeUpdateFrame (s : State) : State :=
  match takeDelivered 0x02 s with
  | none => s
  | some (d, s1) =>
    let b := d.frame.body
    if commonsOn s1 = false ∨ u8 b 1 = ownChip s1.cfg ∨ bit (u8 b 2) 0 = false then s1
    else
      (List.range (n16 b 3)).foldl
        (fun s i =>
          let o := 9 + 16 * i
          takeUpdate { sender := u8 b 1, point := n16 b o, type := u8 b (o + 2), standby := bit (u8 b (o + 3)) 0, stamp := n32 b (o + 4), value := n64 b (o + 8) }
            (bit (u8 b (o + 3)) 1) s) s1

/-- COMMONS_UPDATE_FRAME: the oldest update frame delivered (R327). -/
def execCommonsUpdateFrame (s : State) : Host.Outcome State Fault Refusal := .next (takeUpdateFrame s)

/-- The oldest cut mark delivered (R319, R328, R329). -/
def takeCutMark (s : State) : State :=
  match takeDelivered 0x03 s with
  | none => s
  | some (d, s1) =>
    let b := d.frame.body
    let chip := u8 b 1
    let x := s1.chip chip
    let hashDiffers := decide (n32 b 13 ≠ mapHash s1.cfg)
    let cutDiffers := decide (n16 b 3 ≠ cutAngle s1.cfg)
    let y : ChipSeen := { x with
      marks := x.marks ++ [(n32 b 5, bit (u8 b 2) 0, n16 b 9)]
      flags := flag (bit (u8 b 2) 0) 0 + flag hashDiffers 1 + flag cutDiffers 2 + flag (bit x.flags 3) 3
      mismatch := hashDiffers || cutDiffers }
    if commonsOn s1 = false ∨ chip = ownChip s1.cfg ∨ chip = 0 ∨ 250 < chip then s1
    else if y.mismatch ∧ x.mismatch = false then raise 0x0807 [chip, n32 b 13, mapHash s1.cfg, n16 b 3] (s1.setChip chip y)
    else s1.setChip chip y

/-- CUT_MARK: the oldest cut mark delivered (R319, R328, R329). -/
def execCutMark (s : State) : Host.Outcome State Fault Refusal := .next (takeCutMark s)

/-- What has been delivered by the cut counts for it (R314, R319, R331): update frames, then cut marks. -/
def takeArrived (s : State) : State :=
  let s1 := s.ring.delivered.foldl (fun s _ => takeUpdateFrame s) s
  s1.ring.delivered.foldl (fun s _ => takeCutMark s) s1

/-- CUT_MARK_SEND: at the publish deadline (R319, R324, R328). -/
def execCutMarkSend (s : State) : Host.Outcome State Fault Refusal :=
  if commonsOn s = false ∨ s.phase.started = false then .next s
  else
    let s1 := s.atAngle (cutAngle s.cfg - 1024)
    let body := le 1 (ownChip s1.cfg) ++ le 1 (flag s1.phase.countValid 0) ++ be 2 (cutAngle s1.cfg) ++ be 4 (low32 s1.cycle)
      ++ be 2 (fget 0 s1.commons.assigned (low32 s1.cycle)) ++ zeros 2 ++ be 4 (mapHash s1.cfg) ++ be 8 ownUid
    let own := ownChip s1.cfg
    .next (sendGroup raise commonsGroup groupPcp 0x03 body (s1.setChip own { s1.chip own with flags := flag s1.phase.countValid 0 }))

/-! ## Sending (R330) -/

/-- The next entries to leave: PUBLISH and COMMONS.WRITE, republish, refresh. -/
def nextEntries (q : List TxEntry) : List TxEntry :=
  ((q.filter fun e => e.kind == 0) ++ (q.filter fun e => e.kind == 1) ++ q.filter fun e => decide (2 ≤ e.kind)).take 90

def entryBytes (e : TxEntry) : List Byte :=
  be 2 e.point ++ le 1 e.type ++ le 1 (flag e.standby 0 + flag (decide (e.kind = 2)) 1) ++ be 4 e.stamp ++ be 8 e.value

/-- COMMONS_FRAME_SEND: 90 entries, or those that wait 32 tu after the first was queued (R327, R330). -/
def execCommonsFrameSend (s : State) : Host.Outcome State Fault Refusal :=
  let es := nextEntries s.commons.txq
  let due := (((s.commons.txq.head?.map TxEntry.queued).getD s.phase.now).add 32).tu
  let s0 := if es.length < 90 ∧ s.phase.now.tu < due ∧ due / rodTu = s.cycle then s.atAngle (due % rodTu) else s
  if es = [] ∨ (es.length < 90 ∧ s0.phase.now.tu < due) then .next s
  else
    let rest := es.foldl List.erase s0.commons.txq
    let s1 := { s0 with commons := { s0.commons with txq := rest } }
    let s2 := countCommons 7 (es.filter fun e => e.kind == 2).length (countCommons 0 es.length s1)
    let body := le 1 (ownChip s2.cfg) ++ le 1 (flag s2.phase.countValid 0) ++ be 2 es.length ++ zeros 4 ++ es.flatMap entryBytes
    .next (sendGroup raise commonsGroup groupPcp 0x02 body s2)

/-- REFRESH_QUEUE: the rod's refresh entries, in rotation among the VALID points of the blocks this chip writes (R326, R330). -/
def execRefreshQueue (s : State) : Host.Outcome State Fault Refusal :=
  let mine := (s.commons.view.filter fun e => bit e.2.quality 0 && writesBlock s (e.1 / 64)).map Prod.fst
  let turn := (mine.filter fun p => decide (s.commons.refreshNext ≤ p)) ++ mine.filter fun p => decide (p < s.commons.refreshNext)
  let take := turn.take (min (u8 s.cfg.commons 1) (513 - s.commons.txq.length))
  if commonsOn s = false ∨ s.phase.countValid = false then .next s
  else
    .next (take.foldl
      (fun s p =>
        let x := s.viewPoint p
        pushTx { point := p, type := x.type, standby := asStandby s (p / 64), stamp := x.stamp, value := x.value, kind := 2 }
          { s with commons := { s.commons with refreshNext := p + 1 } }) s)

/-- Republish entries at angle 0, each with the present rod's stamp, while at least 512 entries are free (R321, R330). -/
def republish (s : State) : State :=
  let take := s.commons.republish.take (513 - s.commons.txq.length)
  if s.phase.countValid = false then s
  else
    take.foldl
      (fun s p =>
        let x := s.viewPoint p
        if writesBlock s (p / 64) then queueOwn 1 p x.type x.value (asStandby s (p / 64)) s.cycle s else s)
      { s with commons := { s.commons with republish := s.commons.republish.drop take.length } }

/-! ## The cut (R314, R319, R320, R329) -/

/-- One chip at a cut: presence, and a shortfall of its updates. -/
def cutChip (s : State) (chip : Nat) : State :=
  let x := s.chip chip
  let cut := low32 s.cycle
  let mark := x.marks.find? fun m => m.1 == cut
  let present := match mark with
    | none => false
    | some m => m.2.1
  let expected := (mark.map fun m => m.2.2).getD 0
  let got := fget 0 x.received cut
  let short := decide (got < expected)
  let later := fun (c : Nat) => decide (0 < stampDiff c cut)
  let s1 := s.setChip chip { x with
    silent := if present then 0 else min 255 (x.silent + 1)
    flags := x.flags - flag (bit x.flags 3) 3 + flag short 3
    marks := x.marks.filter fun m => later m.1
    received := x.received.filter fun e => later e.1 }
  if short then raise 0x0805 [chip, expected, got, cut] (countCommons 5 (expected - got) s1) else s1

/-- The next state of a block, from the silent counts after the cut (R320): state, and consecutive cuts of its primary. -/
def nextBlock (s : State) (b : Nat) : BlockState :=
  let x := fget {} s.commons.blocks b
  let n := silentOf s (blockPrimary s.cfg b)
  let sb := blockStandby s.cfg b
  let standbyHere := sb != 0 && silentOf s sb == 0
  match x.state with
  | 1 => if n ≥ 3 then { state := 2 } else x
  | 2 => if n = 0 then { state := 1, returning := 1 } else if n ≥ 8 ∧ standbyHere then { state := 3 } else x
  | 3 => if n = 0 then { state := 4, returning := 1 } else x
  | 4 =>
    if n ≠ 0 then { state := 3 }
    else if x.returning + 1 ≥ 16 then { state := 1, returning := x.returning + 1 }
    else { state := 4, returning := x.returning + 1 }
  | _ => x

/-- Points of a block that a copy holds with VALID set. -/
def validPoints (m : FMap Point) (b : Nat) : List Nat := (m.filter fun e => e.1 / 64 == b && bit e.2.quality 0).map Prod.fst

/-- One block at a cut, with its event and what its new writer republishes (R320, R321, R333). -/
def cutBlock (s : State) (b : Nat) : State :=
  let x := fget {} s.commons.blocks b
  let y := nextBlock s b
  let p := blockPrimary s.cfg b
  let s1 := { s with commons := { s.commons with blocks := fput {} s.commons.blocks b { y with returning := if y.state = 4 then y.returning else 0 } } }
  let again := fun (s : State) => { s with commons := { s.commons with republish := s.commons.republish ++ validPoints s.commons.fill b } }
  let own := ownChip s.cfg
  if x.state = y.state then s1
  else if y.state = 2 then raise 0x0801 [b, p, silentOf s p, low32 s.cycle] s1
  else if y.state = 3 ∧ x.state = 2 then
    raise 0x0802 [b, p, blockStandby s.cfg b, low32 s.cycle] (countCommons 8 1 (if blockStandby s.cfg b = own then again s1 else s1))
  else if y.state = 3 then raise 0x0802 [b, p, blockStandby s.cfg b, low32 s.cycle] (countCommons 8 1 s1)
  else if y.state = 1 then
    raise 0x0803 [b, p, y.returning, low32 s.cycle] (countCommons 9 1 (if x.state = 4 ∧ p = own then again s1 else s1))
  else s1

/-- Blocks whose points have STALE set in the view formed now (R320). -/
def staleBlocks (s : State) : FMap Bool :=
  (List.range 1024).filterMap fun b =>
    let st := blockState s b
    if st = 0 ∨ st = 2 ∨ silentOf s (writerOf s b) ≥ 3 then some (b, true) else none

/-- COMMONS.LATE for cuts whose late updates have not been reported (R333). -/
def reportLate (s : State) : State :=
  s.commons.late.foldl (fun s l => raise 0x0804 [l.count, l.point, l.sender, l.cut] s) { s with commons := { s.commons with late := [] } }

/-- Updates held for the cut that now comes enter the filling copy, if their sender is then the writer (R313, R323). -/
def releaseHeld (s : State) : State :=
  let cut := low32 (s.cycle + 1)
  let due := s.commons.held.filter fun u => u.stamp == cut
  due.foldl (fun s u => if u.sender = writerOf s (u.point / 64) then fillValue u false s else rejectUpdate u s)
    { s with commons := { s.commons with held := s.commons.held.filter fun u => u.stamp != cut } }

/-- COMMONS_CUT, at the cut angle: presence and writers move while COUNT_VALID is set, and the view of the next rod is frozen (R314, R319, R320, R324). -/
def execCommonsCut (s : State) : Host.Outcome State Fault Refusal :=
  if s.commons.cutDone ∨ s.phase.started = false ∨ sendsOwn s = false then .next s
  else
    let s0 := takeArrived (s.atAngle (cutAngle s.cfg))
    let chips := ((List.range 251).drop 1).filter fun c => c != ownChip s.cfg
    let s1 := if s0.phase.countValid then (List.range 1024).foldl cutBlock (chips.foldl cutChip s0) else s0
    let s2 := reportLate { s1 with commons := { s1.commons with
      frozen := some s1.commons.fill, frozenStale := staleBlocks s1, cutDone := true, sinceCut := []
      assigned := s1.commons.assigned.filter fun e => decide (0 < stampDiff e.1 (low32 s1.cycle)) } }
    .next (releaseHeld s2)

/-- Step 1 of R19: the frozen copy becomes the view, and the rod's counts begin anew. -/
def viewBoundary (s : State) : State :=
  { s with commons := { s.commons with
    view := s.commons.frozen.getD s.commons.view
    sinceView := if s.commons.frozen.isSome then s.commons.sinceCut else s.commons.sinceView
    viewStale := if s.commons.frozen.isSome then s.commons.frozenStale else s.commons.viewStale
    frozen := none, frozenStale := [], viewCycle := s.cycle, cutDone := false, notQueued := 0, queueFullRaised := false } }

/-! ## COMMONS commands (R334, R335) -/

def execCommonsInfo (mbx : Nat) (s : State) : Host.Outcome State Fault Refusal :=
  .next (serveRead 0x0801 1 (· == 0) (fun _ s =>
    let mine := (List.range 1024).filter (writesBlock s)
    ok (le 1 (ownChip s.cfg) ++ le 1 (flag s.phase.countValid 0 + flag (s.commons.chips.any fun e => e.2.flags &&& 6 != 0) 1)
      ++ le 2 (cutAngle s.cfg) ++ le 4 (mapHash s.cfg) ++ le 2 mine.length ++ le 2 (mine.filter (asStandby s)).length
      ++ le 2 s.commons.txq.length ++ zeros 2 ++ cycle64 s.commons.viewCycle)) mbx s)

/-- A point in the layout of R307. -/
def Point.bytes (p : Point) : List Byte := le 8 p.value ++ le 4 p.stamp ++ le 1 p.writer ++ le 1 p.type ++ le 2 p.quality

def execCommonsRead (mbx : Nat) (s : State) : Host.Outcome State Fault Refusal :=
  .next (serveRead 0x0802 1 (· == 4) (fun c s =>
    let first := u16 c.pay 0
    let n := u8 c.pay 2
    if n = 0 ∨ n > 62 ∨ u8 c.pay 3 ≠ 0 ∨ first + n > 65536 then bad 6
    else ok (cycle64 s.commons.viewCycle ++ (List.range n).flatMap fun i => (s.viewPoint (first + i)).bytes)) mbx s)

/-- A host value fits its declaration (R335). -/
def hostValueOk (type enumMax value : Nat) : Bool :=
  match type with
  | 3 => decide (value ≤ 1)
  | 4 => decide (value ≤ enumMax)
  | _ => true

def execCommonsWrite (mbx : Nat) (s : State) : Host.Outcome State Fault Refusal :=
  .next (serve 0x0803 2 (· == 16) (fun c s =>
    let p := u16 c.pay 0
    let v := u64 c.pay 8
    match s.cfg.run p with
    | none => (s, bad 6)
    | some r =>
      if allZero (slice c.pay 2 6) = false ∨ bit (u8 r.value 3) 0 = false ∨ hostValueOk (u8 r.value 2) (u16 r.value 4) v = false then (s, bad 6)
      else if writesBlock s (p / 64) = false ∨ s.phase.countValid = false then (s, bad 8)
      else if s.commons.txq.length ≥ 1024 then (s, bad 2)
      else
        (queueOwn 0 p (u8 r.value 2) v (asStandby s (p / 64)) (assignedCut s) s, ok (le 4 (low32 (assignedCut s)) ++ zeros 4))) mbx s)

/-- Silent count and flags of chips 1 to 250 (R334). -/
def chipsBytes (s : State) : List Byte :=
  ((List.range 251).drop 1).flatMap fun c => le 1 (silentOf s c) ++ le 1 (s.chip c).flags

def execCommonsChips (mbx : Nat) (s : State) : Host.Outcome State Fault Refusal :=
  .next (serveRead 0x0804 1 (· == 0) (fun _ s => ok (chipsBytes s)) mbx s)

def execCommonsBlocks (mbx : Nat) (s : State) : Host.Outcome State Fault Refusal :=
  .next (serveRead 0x0805 1 (· == 4) (fun c s =>
    let first := u16 c.pay 0
    let n := u8 c.pay 2
    if n = 0 ∨ n > 240 ∨ u8 c.pay 3 ≠ 0 ∨ first + n > 1024 then bad 6
    else
      ok ((List.range n).flatMap fun i =>
        let b := first + i
        le 1 (blockPrimary s.cfg b) ++ le 1 (blockStandby s.cfg b) ++ le 1 (writerOf s b) ++ le 1 (blockState s b))) mbx s)

/-- COMMONS.STATS, 44 bytes. -/
def commonsStatsBytes (c : Commons) : List Byte := countBytes c.stats 10 ++ le 2 c.peakQueue ++ zeros 2

def execCommonsStats (mbx : Nat) (s : State) : Host.Outcome State Fault Refusal :=
  .next (serveRead 0x0806 1 (· == 0) (fun _ s => ok (commonsStatsBytes s.commons)) mbx s)

def execCommonsStatsClear (mbx : Nat) (s : State) : Host.Outcome State Fault Refusal :=
  .next (serve 0x0807 2 (· == 0) (fun _ s => ({ s with commons := { s.commons with stats := [], peakQueue := 0 } }, ok [])) mbx s)

/-! ## Placing a bead (R172, R173, R312) -/

/-- The conflict of a PUBLISH bead whose point is undeclared or HOST. -/
def pointRefused (s : State) (bead p : Nat) : Option (List Byte) :=
  match s.cfg.run p with
  | none => some (conflictPayload (0xFFFE0000 + p) 0 0 0x8401 bead 0)
  | some r => if bit (u8 r.value 3) 0 then some (conflictPayload (0xFFFE0000 + p) 0x0802 r.inst 0x8401 bead 0) else none

def execBeadPlace (mbx : Nat) (s : State) : Host.Outcome State Fault Refusal :=
  .next (serve 0x0401 2 (· == 36) (fun c s =>
    if u16 c.pay 2 ≠ 0 then (s, bad 6) else place pointRefused (u16 c.pay 0) (c.pay.drop 4) s) mbx s)

end Sys2Proof.Machine
end

