-- ==== Sys2Proof/Machine/Ledger.lean ====
section
/-! DEFINITION. The unit tables of chapter 22 that other chapters use: units and their states, remaining life, and the spare ledger's entries (R643 to R645, R655 to R658). -/

namespace Sys2Proof.Machine

abbrev saturated : Nat := 0xFFFFFFFF

/-- A unit number is one of the kind (R643). -/
def unitExists (kind unit : Nat) : Bool :=
  match kind with
  | 1 => decide (unit ≤ 2)
  | 2 => decide (unit / 65536 < 64) && decide (unit % 65536 < 1044)
  | 3 => decide (unit < 2112)
  | 4 => decide (unit < 32)
  | 5 => decide (unit ≤ 8)
  | 6 => decide (unit ≤ 8)
  | 7 => decide (unit ≤ 1)
  | 8 => decide (unit < 90)
  | _ => false

/-- A unit is a spare as manufactured (R643). -/
def madeSpare (kind unit : Nat) : Bool :=
  match kind with
  | 1 => unit == 2
  | 2 => decide (1024 ≤ unit % 65536)
  | 3 => decide (2048 ≤ unit)
  | 4 => decide (30 ≤ unit)
  | 5 => unit == 8
  | 6 => unit == 8
  | 7 => unit == 1
  | 8 => unit % 2 == 1
  | _ => false

/-- Units in service and spares of a kind as manufactured (R643). -/
def madeCount (kind : Nat) : Nat × Nat :=
  [(0, 0), (2, 1), (65536, 1280), (2048, 64), (30, 2), (8, 1), (8, 1), (1, 1), (45, 45)].getD kind (0, 0)

def unitKey (kind unit : Nat) : Nat := kind * 2 ^ 32 + unit
def State.unit (s : State) (kind unit : Nat) : WearUnit := fget {} s.spare.units (unitKey kind unit)
def State.setUnit (s : State) (kind unit : Nat) (x : WearUnit) : State :=
  { s with spare := { s.spare with units := fput {} s.spare.units (unitKey kind unit) x } }

/-- State of a unit: 1 in service, 2 free spare, 3 retired (R661 counts from 0). -/
def unitState (s : State) (kind unit : Nat) : Nat :=
  let x := (s.unit kind unit).state
  if x ≠ 0 then x else if madeSpare kind unit then 2 else 1

/-- The listed units of a kind. -/
def listedUnits (s : State) (kind : Nat) : List Nat := (s.spare.units.filter fun e => e.1 / 2 ^ 32 == kind).map fun e => e.1 % 2 ^ 32

/-- Free spares of a kind. -/
def freeSpares (s : State) (kind : Nat) : Nat :=
  (madeCount kind).2 - ((listedUnits s kind).filter fun u => madeSpare kind u && unitState s kind u != 2).length

def inService (s : State) (kind : Nat) : Nat :=
  (madeCount kind).1 + ((listedUnits s kind).filter fun u => madeSpare kind u && unitState s kind u == 1).length
    - ((listedUnits s kind).filter fun u => !madeSpare kind u && unitState s kind u == 3).length

def retiredCount (s : State) (kind : Nat) : Nat := ((listedUnits s kind).filter fun u => unitState s kind u == 3).length

/-- Worst w of a kind's units in service. -/
def worstWear (s : State) (kind : Nat) : Nat :=
  ((listedUnits s kind).filter fun u => unitState s kind u == 1).foldl (fun a u => max a (s.unit kind u).w) 0

/-- Chip equivalent hours at 75 °C (R654). -/
def eqHours (s : State) : Nat := s.spare.eqMicros / 3600000000

/-- Days that equivalent microseconds last at the chip's rate of the last 365 days, or at 2.1415 in its first year; rounded down and saturating (R656). -/
def toDays (s : State) (micros : Nat) : Nat :=
  if s.spare.days.length < 365 then min saturated (micros * 10000 / (21415 * 86400000000))
  else if s.spare.days.sum = 0 then saturated
  else min saturated (micros * 365 / s.spare.days.sum)

/-- A macro keeps a free spare row (R656). -/
def macroFree (s : State) (m : Nat) : Bool :=
  decide (((listedUnits s 2).filter fun u => u / 65536 == m && madeSpare 2 u && unitState s 2 u != 2).length < 20)

/-- Equivalent age of a unit in µs, from the moment it entered service; a retired unit keeps the age it was retired at, and a free spare has none (R654). -/
def unitAge (s : State) (kind unit : Nat) : Nat :=
  let from_ := (s.unit kind unit).entered * 1000000
  match unitState s kind unit with
  | 1 => s.spare.eqMicros - from_
  | 3 =>
    match s.spare.ledger.find? fun e => e.kind == kind && e.retired == unit with
    | none => 0
    | some e => e.eqHours * 3600000000 - from_
  | _ => 0

/-- Remaining life of a unit in days (R656): A × (1/w² − 1), saturated while w is below 0.05; for MRAM the writes left at the rate of the last 365 days; for SRAM saturated while every macro keeps a free spare row. A retired unit has none, a free spare the saturated value (log 41). -/
def remainingDays (s : State) (kind unit : Nat) : Nat :=
  let x := s.unit kind unit
  if unitState s kind unit = 3 then 0
  else if unitState s kind unit = 2 then saturated
  else if kind = 2 then (if (List.range 64).all (macroFree s) then saturated else 0)
  else if kind = 3 then
    match x.writes.head?, x.writes.getLast? with
    | some a, some b =>
      if b.2 ≤ a.2 then saturated else min saturated ((10000 - b.2) * (b.1 - a.1) / ((b.2 - a.2) * 86400))
    | _, _ => saturated
  else if x.w < 500 then saturated
  else toDays s (unitAge s kind unit * (100000000 - x.w * x.w) / (x.w * x.w))

/-- Remaining life of a kind in days (R657): a unit that is not listed reads w = 0, whose life is saturated. -/
def kindDays (s : State) (kind : Nat) : Nat :=
  let us := (listedUnits s kind).filter fun u => unitState s kind u == 1
  let lives := sortNat (us.map (remainingDays s kind))
  if kind = 2 then (if (List.range 64).all (macroFree s) then saturated else 0)
  else if kind = 8 then
    ((us.filter fun u => unitState s 8 (if u % 2 = 0 then u + 1 else u - 1) != 2).map (remainingDays s 8)).foldl min saturated
  else if kind = 4 then (if freeSpares s 4 = 0 then lives.headD saturated else saturated)
  else lives.getD (freeSpares s kind) saturated

/-- The chip's estimate (R657). -/
def chipDays (s : State) : Nat := ((List.range 8).map fun k => kindDays s (k + 1)).foldl min saturated

/-- A ledger entry is written: the unit retired, the unit brought in, and SPARE.SUBSTITUTED (R644, R658, R660). -/
def writeLedger (kind cause retired : Nat) (joined : Option Nat) (s : State) : State :=
  let s1 := s.setUnit kind retired { s.unit kind retired with state := 3 }
  let s2 := match joined with
    | none => s1
    | some u => s1.setUnit kind u { s1.unit kind u with state := 1, entered := s1.spare.eqMicros / 1000000 }
  let days := kindDays s2 kind
  let e : SpareEntry :=
    { seq := s2.spare.ledger.length, kind := kind, cause := cause, retired := retired, joined := joined.getD saturated,
      seconds := s2.clock.seconds, cycle := low32 s2.cycle, eqHours := eqHours s2, wear := (s2.unit kind retired).w,
      left := freeSpares s2 kind, remaining := days }
  raise 0x1501 [kind * 256 + cause, retired, joined.getD saturated, days] { s2 with spare := { s2.spare with ledger := s2.spare.ledger ++ [e] } }

/-- The lowest free spare of a kind (R643). -/
def freeSpare (s : State) (kind : Nat) : Option Nat :=
  match kind with
  | 1 => if unitState s 1 2 = 2 then some 2 else none
  | 4 => [30, 31].find? fun u => unitState s 4 u == 2
  | 5 => if unitState s 5 8 = 2 then some 8 else none
  | 6 => if unitState s 6 8 = 2 then some 8 else none
  | 7 => [0, 1].find? fun u => unitState s 7 u == 2
  | _ => none

end Sys2Proof.Machine
end

