-- ==== Sys2Proof/Machine/FieldBus.lean ====
section
/-! DEFINITION. Chapter 12: the field bus channels' transmit and receive paths, reference messages, the spare engine, the insulation monitor, and the FBUS commands. -/

namespace Sys2Proof.Machine

/-! ## Channels (R374 to R380, R397) -/

/-- The channel record (R399); a channel without one is disabled. -/
def Cfg.channel (c : Cfg) (n : Nat) : List Byte := (c.baseValue 0x0A01 n).getD []
def chEnabled (v : List Byte) : Bool := u8 v 0 == 1
def chFlag (v : List Byte) (i : Nat) : Bool := bit (u8 v 1) i
def chRefId (v : List Byte) : Nat := if v.isEmpty then 0xFFFF else u16 v 20
def chPriority (v : List Byte) : Nat := if v.isEmpty then 0xFF else u8 v 22

def State.chan (s : State) (n : Nat) : Channel := fget {} s.fbus.channels n
def State.setChan (s : State) (n : Nat) (x : Channel) : State := { s with fbus := { s.fbus with channels := fput {} s.fbus.channels n x } }

/-- Add to a counter of FBUS.STATS. -/
def countChan (n i k : Nat) (s : State) : State := s.setChan n { s.chan n with stats := bump (s.chan n).stats i k }

/-- The channel is on the bus: error active or error passive. -/
def onBus (c : Channel) : Bool := c.state == 2 || c.state == 3

/-- The state its error counters give a channel that is on the bus (R375). -/
def errorState (c : Channel) : Nat := if c.txErr ≥ 128 ∨ c.recErr ≥ 128 then 3 else 2

/-- A channel as the application of a configuration leaves it (R397): an enabled one integrates. -/
def startChannel (s : State) (n : Nat) : State :=
  s.setChan n { stats := (s.chan n).stats, state := if chEnabled (s.cfg.channel n) then 1 else 0, spare := (s.chan n).spare }

/-- Every channel at the application of a configuration. -/
def startChannels (s : State) : State := (List.range 8).foldl startChannel s

/-- A channel follows its counters, and FBUS.ERROR_PASSIVE reports its becoming passive (R375, R402). -/
def settleErrors (n : Nat) (s : State) : State :=
  let c := s.chan n
  if onBus c then
    let st := errorState c
    let s1 := s.setChan n { c with state := st }
    if c.state = 2 ∧ st = 3 then raise 0x0A01 [n, c.txErr, c.recErr] s1 else s1
  else s

/-- A receive error raises the receive counter (R375). -/
def receiveError (n : Nat) (s : State) : State :=
  let c := s.chan n
  settleErrors n (countChan n 10 1 (s.setChan n { c with recErr := min 255 (c.recErr + 1) }))

/-- A valid reception lowers the receive counter; ISO 11898-1 leaves open where in 119 to 127 a passive receiver's lands (R375, log 10). -/
def receiveGood (n : Nat) (s : State) : State :=
  let c := s.chan n
  if c.recErr > 127 then
    let (b, s1) := s.takeByte
    settleErrors n (s1.setChan n { c with recErr := 119 + b.toNat % 9 })
  else s.setChan n { c with recErr := c.recErr - 1 }

/-- A channel goes bus-off (R384). -/
def goBusOff (n : Nat) (s : State) : State :=
  let c := s.chan n
  let c1 := { c with state := 4, offTicks := s.clock.ticksRun, refPending := false, recovering := !chFlag (s.cfg.channel n) 4 }
  raise 0x0A02 [n, c.fifo.length + c.hold.length, (c.fifo.head?.map fun f => f.frame.ident).getD 0] (countChan n 12 1 (s.setChan n c1))

/-- BUS_OFF_RECOVERY (R384). -/
def execBusOffRecovery (channel : Nat) (s : State) : Host.Outcome State Fault Refusal :=
  let c := s.chan channel
  if c.state = 4 ∧ c.recovering = true then
    .next (raise 0x0A03 [channel, s.msSince c.offTicks] (s.setChan channel { c with state := 2, txErr := 0, recErr := 0, recovering := false }))
  else .next s

/-! ## Transmit path (R381 to R384) -/

/-- The angle of an occurrence is past by more than its type's tolerance: BEAD.LATE, the late counter and R24's interval (R159, R171). -/
def beadLate (bead : Nat) (due : Instant) (s : State) : State :=
  let ms := (s.phase.now.tu - due.tu) * 10 ^ 9 / (65536 * s.freq)
  briefOutage 5 ms (raise 0x0401 [bead, low32 due.cycle, due.angle, s.angle] { s with abacus := { s.abacus with late := s.abacus.late + 1 } })

/-- A frame from another source than a bead may enter the FIFO (R382). -/
def admitsOther (v : List Byte) (c : Channel) (segment : Bool) : Bool :=
  decide (c.fifo.length < 32) && decide ((c.fifo.filter fun f => f.source != 0).length < 32 - u8 v 18)
    && (!segment || decide ((c.fifo.filter fun f => f.segment).length < u8 v 19))

def pushFifo (n : Nat) (f : TxFrame) (s : State) : State := s.setChan n { s.chan n with fifo := (s.chan n).fifo ++ [f] }

/-- A bead's frame enters the FIFO, the hold queue, or nothing (R382). -/
def offerBead (n : Nat) (f : TxFrame) (s : State) : State :=
  let c := s.chan n
  if c.fifo.length < 32 ∧ c.hold = [] then pushFifo n f s
  else if c.hold.length < 16 then s.setChan n { c with hold := c.hold ++ [f] }
  else beadLate f.bead f.due (raise 0x0A04 [n, f.frame.ident, 3, f.bead] (countChan n 8 1 s))

/-- A held bead frame enters as an entry frees; more than 4 tu after its bead's angle it has fired late (R382). -/
def refillHold (n : Nat) (s : State) : State :=
  let c := s.chan n
  match c.hold with
  | [] => s
  | f :: fs =>
    if c.fifo.length < 32 then
      let s1 := s.setChan n { c with hold := fs, fifo := c.fifo ++ [f] }
      if s.phase.now.tu > f.due.tu + 4 then beadLate f.bead f.due (countChan n 9 1 s1) else s1
    else s

/-- The head leaves the FIFO; the next head's counts start at zero (R381, R383). -/
def popHead (n : Nat) (s : State) : State :=
  let c := s.chan n
  refillHold n (s.setChan n { c with fifo := c.fifo.drop 1, errors := 0, losses := 0 })

/-! ## Reference messages (R388 to R390) -/

/-- A frame is a reference message of the channel (R388). -/
def isReference (v : List Byte) (f : CanFrame) : Bool :=
  chRefId v != 0xFFFF && !f.extended && decide (chRefId v ≤ f.ident) && decide (f.ident ≤ chRefId v + 2)

/-- The reference state a period gives (R390). -/
def refStateOf (v : List Byte) (sent : Bool) (heard : Option Nat) : Nat :=
  if chRefId v = 0xFFFF then 0
  else if chPriority v = 0xFF then 3
  else if sent then 1
  else
    match heard with
    | none => 0
    | some p => if p < chPriority v then 2 else 0

/-- The reference state changes (R390). -/
def setRefState (n st : Nat) (s : State) : State :=
  let c := s.chan n
  if c.refState = st then s else raise 0x0A06 [n, st, c.lowest] (s.setChan n { c with refState := st })

/-- A chip that is no potential master of a running channel is a RECEIVER (R390). -/
def settleReceiver (n : Nat) (s : State) : State :=
  let v := s.cfg.channel n
  if (s.chan n).state ≠ 0 ∧ chRefId v ≠ 0xFFFF ∧ chPriority v = 0xFF then setRefState n 3 s else s

/-- The reference message of this chip, with its delay from ref_angle at an angle (R388). -/
def referenceFrame (s : State) (n : Nat) : CanFrame :=
  let v := s.cfg.channel n
  { ident := chRefId v + chPriority v,
    data := le 1 (s.cycle / 2 ^ u8 v 23 % 64)
      ++ le 1 (flag s.phase.countValid 0 + 2 * chPriority v + flag (decide (s.phase.state = .locked)) 3)
      ++ be 2 (s.angle - u16 v 24) ++ be 4 (low32 s.cycle) }

/-- A reference message is received: a lower priority number cancels a pending buffer (R389, R390). -/
def hearReference (n : Nat) (f : CanFrame) (s : State) : State :=
  let v := s.cfg.channel n
  let c := s.chan n
  let p := f.ident - chRefId v
  let c1 := { c with
    refHeard := some (min p (c.refHeard.getD p)), lowest := min p c.lowest, refCycle := s.cycle
    refPending := c.refPending && decide (chPriority v ≤ p) }
  let s1 := countChan n 14 1 (s.setChan n c1)
  if p < chPriority v ∧ chPriority v ≠ 0xFF then setRefState n 2 s1 else s1

/-- REFERENCE_PERIOD_START: the last period is judged, and a new one begins in a rod N with N mod 2^ref_n = 0 (R389, R390, R398). -/
def execReferencePeriodStart (channel : Nat) (s : State) : Host.Outcome State Fault Refusal :=
  let v := s.cfg.channel channel
  let c := s.chan channel
  if chRefId v = 0xFFFF ∨ c.state = 0 ∨ c.state = 5 ∨ s.phase.started = false ∨ s.cycle % 2 ^ u8 v 23 ≠ 0 ∨ c.refPeriod = some s.cycle then .next s
  else
    let s1 := match c.refPeriod with
      | none => s
      | some k =>
        let lost := !c.refSent && c.refHeard.isNone
        let s0 := s.setChan channel { c with lowest := c.refHeard.getD 0xFF }
        setRefState channel (refStateOf v c.refSent c.refHeard) (if lost then raise 0x0A07 [channel, low32 k] s0 else s0)
    let c1 := { s1.chan channel with refSent := false, refHeard := none, refPending := false }
    if c.state = 4 then .next (raise 0x0A07 [channel, low32 s.cycle] (s1.setChan channel { c1 with refPeriod := none }))
    else .next (s1.setChan channel { c1 with refPeriod := some s.cycle })

/-- REFERENCE_PENDING: at ref_angle + p × ref_step a potential master's buffer becomes pending (R389). -/
def execReferencePending (channel : Nat) (s : State) : Host.Outcome State Fault Refusal :=
  let v := s.cfg.channel channel
  let c := s.chan channel
  let p := chPriority v
  let lower := match c.refHeard with
    | none => false
    | some q => decide (q < p)
  if p ≤ 2 ∧ chRefId v ≠ 0xFFFF ∧ c.refPeriod.isSome ∧ (onBus c ∨ c.state = 6 ∨ c.state = 1) ∧ lower = false ∧ c.refSent = false then
    .next ((s.atAngle (max s.angle (min 65535 (u16 v 24 + p * u16 v 26)))).setChan channel { c with refPending := true })
  else .next s

/-- REFERENCE_CANCEL: a buffer not started by ref_angle + 8,192 is cancelled (R389). -/
def execReferenceCancel (channel : Nat) (s : State) : Host.Outcome State Fault Refusal :=
  let c := s.chan channel
  if c.refPending then
    .next ((s.atAngle (max s.angle (min 65535 (u16 (s.cfg.channel channel) 24 + 8192)))).setChan channel { c with refPending := false })
  else .next s

/-- CAN_INTEGRATED (R375, R376). -/
def execCanIntegrated (channel : Nat) (s : State) : Host.Outcome State Fault Refusal :=
  let c := s.chan channel
  if c.state = 1 then .next (settleReceiver channel (s.setChan channel { c with state := errorState c })) else .next s

/-! ## The spare engine (R391 to R393) -/

/-- The engine that serves a channel (R403). -/
def engineOf (n : Nat) (c : Channel) : Nat := if c.spare then 8 else n

/-- Rods of the last 256 (R391). -/
def recent (s : State) (rods : List Nat) : List Nat := rods.filter fun r => decide (s.cycle < r + 256)

/-- A switch-over is asked for (R392). -/
def requestSwitch (channel cause : Nat) (mailbox : Option Nat) (s : State) : State :=
  if s.fbus.spareState ≠ 0 ∨ s.fbus.switching.isSome then s
  else { s with fbus := { s.fbus with switching := some { channel := channel, cause := cause, mailbox := mailbox } } }

/-- A count against a channel's engine; the third in 256 rods replaces it (R391, R393). -/
def suspectEngine (n : Nat) (s : State) : State :=
  let c := s.chan n
  let rods := recent s c.suspects ++ [s.cycle]
  let s1 := raise 0x0A08 [engineOf n c, n, rods.length] (s.setChan n { c with suspects := rods })
  if rods.length ≥ 3 then requestSwitch n 1 none s1 else s1

/-- A count against the spare; the third withdraws it (R391, R658). -/
def suspectSpare (n : Nat) (s : State) : State :=
  let rods := recent s s.fbus.spareSuspects ++ [s.cycle]
  let s1 := raise 0x0A08 [8, n, rods.length] { s with fbus := { s.fbus with spareSuspects := rods } }
  if rods.length ≥ 3 then writeLedger 6 5 8 none { s1 with fbus := { s1.fbus with spareState := 2 } } else s1

/-- The spare listens to a channel (R391). -/
def spareListens (s : State) (n : Nat) : Bool := s.fbus.spareState == 0 && s.fbus.switching.isNone && s.fbus.spareChannel == n

/-- SPARE_ENGINE_ROTATE: every 256 rods the free spare moves to the next enabled channel (R391). -/
def execSpareEngineRotate (s : State) : Host.Outcome State Fault Refusal :=
  let next := (List.range 8).find? fun k => chEnabled (s.cfg.channel ((s.fbus.spareChannel + 1 + k) % 8))
  if s.fbus.spareState = 0 ∧ s.fbus.switching = none ∧ s.cycle % 256 = 0 then
    match next with
    | none => .next s
    | some k => .next { s with fbus := { s.fbus with spareChannel := (s.fbus.spareChannel + 1 + k) % 8 } }
  else .next s

/-- SPARE_SWITCH_OVER: the balls pass to the spare at the first intermission (R392 step 2). -/
def execSpareSwitchOver (s : State) : Host.Outcome State Fault Refusal :=
  match s.fbus.switching with
  | none => .next s
  | some w =>
    if w.passed then .next s
    else
      let s1 := { s with fbus := { s.fbus with switching := some { w with passed := true, cycle := s.cycle } } }
      .next (s1.setChan w.channel { s1.chan w.channel with state := 6 })

/-- SPARE_INTEGRATED: the spare takes part in the bus; FBUS.SPARE is answered (R392 step 3, R404). -/
def execSpareIntegrated (framesLost : Nat) (s : State) : Host.Outcome State Fault Refusal :=
  match s.fbus.switching with
  | none => .next s
  | some w =>
    if w.passed = false then .next s
    else
      let c := s.chan w.channel
      let s1 := { s with fbus := { s.fbus with switching := none, spareState := 1, spareChannel := w.channel } }
      let s2 := countChan w.channel 15 framesLost (s1.setChan w.channel { c with spare := true, state := if c.txErr ≥ 256 then 4 else errorState c, suspects := [] })
      let s3 := writeLedger 6 w.cause w.channel (some 8) (raise 0x0A09 [w.channel, w.channel, w.cause, framesLost] s2)
      match w.mailbox with
      | none => .next s3
      | some m => .next (answerStarted m (ok (le 1 w.channel ++ le 1 (sat 255 framesLost) ++ zeros 2 ++ cycle64 w.cycle)) s3)

/-! ## Receive path (R385 to R387) -/

/-- The action of the first filter entry that matches: 1 field protocol, 2 host, 3 reject; 0 without a match (R386, R400; the format always must agree, log 31). -/
def filterAction (c : Cfg) (n : Nat) (f : CanFrame) : Nat :=
  let v := (c.baseValue 0x0A02 n).getD []
  let hit := (List.range (u8 v 0)).find? fun k =>
    let o := 4 + 12 * k
    let mask := u32 v (o + 4) % 2 ^ 29
    (f.ident &&& mask == u32 v o % 2 ^ 29 &&& mask) && bit (u32 v o) 31 == f.extended
      && (if f.fd then bit (u8 v (o + 9)) 1 else bit (u8 v (o + 9)) 0)
  (hit.map fun k => u8 v (4 + 12 * k + 8)).getD 0

/-- A frame finds the buffer, or the host's share of it, full (R385). -/
def rxOverflow (n : Nat) (host : Bool) (s : State) : State :=
  let c := s.chan n
  let due := match c.rxRaised with
    | none => true
    | some r => decide (s.cycle ≥ r + 256)
  let lost := c.rxLost + 1
  let s1 := countChan n 5 1 (s.setChan n { c with rxLost := if due then 0 else lost, rxRaised := if due then some s.cycle else c.rxRaised })
  if due then raise 0x0A05 [n, lost, flag host 0] s1 else s1

/-- A filtered frame enters the buffer, stamped with its arrival tick (R385). -/
def bufferFrame (n : Nat) (f : CanFrame) (host : Bool) (s : State) : State :=
  let c := s.chan n
  if c.rx.length ≥ 128 then rxOverflow n false s
  else if host && decide ((c.rx.filter fun r => r.host).length ≥ 32) then rxOverflow n true s
  else countChan n (if host then 3 else 2) 1 (s.setChan n { c with rx := c.rx ++ [{ frame := f, stamp := s.phase.now, host := host }] })

/-- A frame the channel's engine takes as valid: to the reference receiver, or through the filter table (R385, R386). -/
def takeFrame (n : Nat) (f : CanFrame) (s : State) : State :=
  let v := s.cfg.channel n
  let s1 := receiveGood n (countChan n 1 1 s)
  if isReference v f then hearReference n f s1
  else
    match filterAction s.cfg n f with
    | 1 => bufferFrame n f false s1
    | 2 => bufferFrame n f true s1
    | _ => countChan n 4 1 s1

/-! ## Insulation monitor (R395, R396) -/

/-- Leakage in kΩ, with LOW and HIGH, from ΔV in mV against VDDIO33 of 3,300 mV (R395). -/
def leakage (inj sense : Nat) (dv : Int) : Nat × Bool × Bool :=
  let a : Int := inj * dv
  let d : Int := sense * (3300 - dv) - a
  if d ≤ 0 ∨ a < 0 then (100000, false, true)
  else
    let r := divNear (a.toNat * sense) d.toNat
    if r < 10 then (10, true, false) else if r > 100000 then (100000, false, true) else (r, false, false)

def raiseLeak (n level : Nat) (s : State) : State :=
  let c := s.chan n
  raise 0x0A0A [n, c.leak, level, channelFlags { c with leakLevel := level } (tripleOn (s.cfg.channel n))] s

/-- The levels of an episode: each raised once; eight measurements above leak_warn end it (R396). -/
def judgeLeak (n : Nat) (s : State) : State :=
  let v := s.cfg.channel n
  let c := s.chan n
  let warn := u32 v 36
  let alarm := u32 v 40
  let above := if c.leak > warn then c.leakAbove + 1 else 0
  let s0 := s.setChan n { c with leakAbove := above }
  let s1 := if c.leak < warn ∧ c.leakLevel = 0 then raiseLeak n 1 (s0.setChan n { s0.chan n with leakLevel := 1 }) else s0
  let s2 := if c.leak < alarm ∧ (s1.chan n).leakLevel ≤ 1 then raiseLeak n 2 (s1.setChan n { s1.chan n with leakLevel := 2 }) else s1
  if above ≥ 8 ∧ (s2.chan n).leakLevel ≠ 0 then raiseLeak n 0 (s2.setChan n { s2.chan n with leakLevel := 0 }) else s2

/-- A period of the monitor ends with the difference of its halves (R395, R396). -/
def measureLeak (n : Nat) (dv : Int) (s : State) : State :=
  let v := s.cfg.channel n
  let c := s.chan n
  let n50 := if dv < 50 then c.leakOpen + 1 else 0
  if n50 ≥ 4 then
    let s1 := s.setChan n { c with leakOpen := n50, leakFault := true, leakValid := false }
    if c.leakFault then s1 else raise 0x0A0B [n, (dv % 4294967296).toNat] s1
  else if c.leakFault = true ∧ dv < 50 then s.setChan n { c with leakOpen := n50 }
  else
    let l := leakage (u16 v 30) (u32 v 32) dv
    judgeLeak n (s.setChan n { c with
      leakOpen := n50, leakFault := false, leakValid := true, leak := l.1, leakLow := l.2.1, leakHigh := l.2.2
      leaks := (c.leaks ++ [l.1]).drop (c.leaks.length + 1 - 16), leakCycle := s.cycle })

/-- LEAK_INJECTION_TOGGLE: a half period ends with the average at CANH_LEAK_n, a quarter of the bus side's voltage; the high half ends the period (R395, R397). -/
def execLeakInjectionToggle (channel averageMv : Nat) (s : State) : Host.Outcome State Fault Refusal :=
  let c := s.chan channel
  if u8 (s.cfg.channel channel) 28 = 0 ∨ c.state = 0 then .next s
  else if c.injHigh then
    let s1 := s.setChan channel { c with injHigh := false, lowHalf := none }
    match c.lowHalf with
    | none => .next s1
    | some low => .next (measureLeak channel ((4 * averageMv : Nat) - (low : Nat) : Int) s1)
  else .next (s.setChan channel { c with injHigh := true, lowHalf := some (4 * averageMv) })

/-! ## FBUS commands (R403, R404) -/

/-- The channel of a request whose reserved bytes are zero. -/
def channelArgument (c : Call) : Option Nat := if u8 c.pay 0 ≤ 7 ∧ allZero (c.pay.drop 1) then some (u8 c.pay 0) else none

def chanTriple (s : State) (n : Nat) : Bool := !(s.cfg.channel n).isEmpty && tripleOn (s.cfg.channel n)

def execFbusStatus (mbx : Nat) (s : State) : Host.Outcome State Fault Refusal :=
  .next (serveRead 0x0A01 1 (· == 4) (fun r s =>
    match channelArgument r with
    | none => bad 6
    | some n =>
      let c := s.chan n
      ok (le 1 c.state ++ le 1 (engineOf n c) ++ le 1 (sat 255 c.txErr) ++ le 1 (sat 255 c.recErr) ++ le 1 c.fifo.length ++ le 1 c.hold.length
        ++ le 1 c.rx.length ++ le 1 c.refState ++ le 1 c.lowest ++ le 1 (channelFlags c (chanTriple s n)) ++ le 1 c.tdc ++ zeros 1
        ++ le 4 c.leak ++ cycle64 c.refCycle)) mbx s)

def execFbusStats (mbx : Nat) (s : State) : Host.Outcome State Fault Refusal :=
  .next (serveRead 0x0A02 1 (· == 4) (fun r s =>
    match channelArgument r with
    | none => bad 6
    | some n => ok (countBytes (s.chan n).stats 16)) mbx s)

def clearChan (s : State) (n : Nat) : State := s.setChan n { s.chan n with stats := [] }

def execFbusStatsClear (mbx : Nat) (s : State) : Host.Outcome State Fault Refusal :=
  .next (serve 0x0A03 2 (· == 4) (fun r s =>
    match channelArgument r with
    | some n => (clearChan s n, ok [])
    | none => if u8 r.pay 0 = 0xFF ∧ allZero (r.pay.drop 1) then ((List.range 8).foldl clearChan s, ok []) else (s, bad 6)) mbx s)

/-- A CAN FD data length (R404). -/
def dataLength (n : Nat) : Bool := decide (n ≤ 8) || [12, 16, 20, 24, 32, 48, 64].contains n

def execFbusSend (mbx : Nat) (s : State) : Host.Outcome State Fault Refusal :=
  .next (serve 0x0A04 2 (fun n => decide (8 ≤ n) && decide (n ≤ 72)) (fun r s =>
    let n := u8 r.pay 0
    let fl := u8 r.pay 1
    let len := u8 r.pay 2
    let v := s.cfg.channel n
    let c := s.chan n
    let id := u32 r.pay 4
    let f : CanFrame := { ident := id, extended := bit fl 0, fd := bit fl 1, brs := bit fl 2, data := slice r.pay 8 len }
    if n > 7 ∨ fl ≥ 8 ∨ u8 r.pay 3 ≠ 0 ∨ dataLength len = false ∨ r.pay.length ≠ 8 + len ∨ (f.fd = false ∧ (f.brs = true ∨ len > 8))
        ∨ (f.fd = true ∧ chFlag v 0 = false) ∨ (f.brs = true ∧ chFlag v 1 = false) ∨ id ≥ (if f.extended then 2 ^ 29 else 2 ^ 11)
        ∨ (f.extended = false ∧ chRefId v ≠ 0xFFFF ∧ chRefId v ≤ id ∧ id ≤ chRefId v + 7) then (s, bad 6)
    else if chFlag v 3 = false then (s, bad 5)
    else if c.state = 0 ∨ c.state = 4 then (s, bad 8)
    else if admitsOther v c false = false then (s, bad 2)
    else
      let s1 := pushFifo n { frame := f, source := 2 } s
      (s1, ok (le 1 (32 - (s1.chan n).fifo.length) ++ zeros 3))) mbx s)

/-- A received-frame record (R403). -/
def frameRecord (r : RxFrame) : List Byte :=
  le 4 (r.frame.ident + flag r.frame.extended 31) ++ le 1 (flag r.frame.fd 0 + flag r.frame.brs 1) ++ le 1 r.frame.data.length ++ zeros 2
    ++ le 4 (low32 r.stamp.cycle) ++ le 2 r.stamp.angle ++ zeros 2 ++ fit 64 r.frame.data

/-- A receive buffer without its first `k` host frames (R404). -/
def dropHosts : Nat → List RxFrame → List RxFrame
  | 0, l => l
  | _, [] => []
  | k + 1, x :: l => if x.host then dropHosts k l else x :: dropHosts (k + 1) l

def execFbusReceive (mbx : Nat) (s : State) : Host.Outcome State Fault Refusal :=
  .next (serve 0x0A05 2 (· == 4) (fun r s =>
    let n := u8 r.pay 0
    let k := u8 r.pay 1
    if n > 7 ∨ k = 0 ∨ k > 12 ∨ u16 r.pay 2 ≠ 0 then (s, bad 6)
    else if chFlag (s.cfg.channel n) 3 = false then (s, bad 5)
    else
      let c := s.chan n
      let hosts := c.rx.filter fun x => x.host
      let out := hosts.take k
      (s.setChan n { c with rx := dropHosts k c.rx },
        ok (le 1 out.length ++ le 1 (hosts.drop k).length ++ zeros 6 ++ out.flatMap frameRecord))) mbx s)

def execFbusRecover (mbx : Nat) (s : State) : Host.Outcome State Fault Refusal :=
  .next (serve 0x0A06 2 (· == 4) (fun r s =>
    match channelArgument r with
    | none => (s, bad 6)
    | some n =>
      let c := s.chan n
      if c.state = 4 ∧ chFlag (s.cfg.channel n) 4 = true then (s.setChan n { c with recovering := true }, ok []) else (s, bad 8)) mbx s)

def execFbusSpare (mbx : Nat) (s : State) : Host.Outcome State Fault Refusal :=
  .next (serveLater 0x0A07 3 (· == 4) (fun r s =>
    match channelArgument r with
    | none => (s, some (bad 6))
    | some n =>
      if chEnabled (s.cfg.channel n) = false ∨ (s.chan n).state = 0 then (s, some (bad 8))
      else if s.fbus.spareState ≠ 0 ∨ s.fbus.switching.isSome then (s, some (bad 2))
      else (requestSwitch n 3 (some r.mbx) s, none)) mbx s)

def execFbusInsulation (mbx : Nat) (s : State) : Host.Outcome State Fault Refusal :=
  .next (serveRead 0x0A08 1 (· == 4) (fun r s =>
    match channelArgument r with
    | none => bad 6
    | some n =>
      let c := s.chan n
      if c.leaks = [] then bad 8
      else
        ok (le 4 c.leak ++ le 1 (channelFlags c (chanTriple s n)) ++ zeros 3 ++ (List.replicate (16 - c.leaks.length) 0 ++ c.leaks).flatMap (le 4)
          ++ cycle64 c.leakCycle)) mbx s)

/-- The figures of FBUS.TIMING for a run in m and a loop delay in ns, at 5 ns/m (R376, R378, R404). -/
def timingBytes (v : List Byte) (run loop : Nat) : List Byte :=
  let q := 1 + u16 v 4 + u8 v 6
  let dq := 1 + u8 v 9 + u8 v 10
  let brs := chFlag v 1
  let prop := ((10 * run + 2 * loop) * 2 + 25 * u16 v 2 - 1) / (25 * u16 v 2)
  let ps1 : Int := (u16 v 4 : Int) - prop
  let part := min ps1.toNat (u8 v 6)
  let t1 := divNear (u8 v 7 * 100000) (20 * q)
  let t2 := divNear (part * 100000) (2 * (13 * q - u8 v 6))
  let fits := decide (1 ≤ ps1) && decide ((u8 v 7 : Int) ≤ ps1)
  le 4 (nominalRate v) ++ le 4 (if brs then dataRate v else 0) ++ le 2 (divNear ((1 + u16 v 4) * 1000) q)
    ++ le 2 (if brs then divNear ((1 + u8 v 9) * 1000) dq else 0) ++ le 2 prop ++ leInt 2 ps1 ++ le 2 (min t1 t2)
    ++ le 1 (flag (tripleOn v) 0) ++ le 1 (flag fits 0)

def execFbusTiming (mbx : Nat) (s : State) : Host.Outcome State Fault Refusal :=
  .next (serveRead 0x0A09 1 (· == 8) (fun r s =>
    let n := u8 r.pay 0
    if n > 7 ∨ u8 r.pay 1 ≠ 0 ∨ u16 r.pay 6 ≠ 0 then bad 6
    else if (s.cfg.channel n).isEmpty then ok (zeros 20)
    else ok (timingBytes (s.cfg.channel n) (u16 r.pay 2) (u16 r.pay 4))) mbx s)

end Sys2Proof.Machine
end

