-- ==== Sys2Proof/Machine/FieldProtocol.lean ====
section
/-! DEFINITION. Chapter 13: CFP frames, tags and segments, roll call, roles and epochs, and the transactions that carry commands to field nodes. -/

namespace Sys2Proof.Machine

/-! ## Frames (R405 to R407, R411) -/

/-- An extended identifier (R406). -/
def cfpIdent (prio kind dst src : Nat) (idem : Bool) (tag : Nat) : Nat :=
  prio * 2 ^ 26 + kind * 2 ^ 23 + dst * 2 ^ 16 + src * 2 ^ 9 + flag idem 8 + tag

def identKind (id : Nat) : Nat := id / 2 ^ 23 % 8
def identSrc (id : Nat) : Nat := id / 2 ^ 9 % 128
def identTag (id : Nat) : Nat := id % 256

/-- Bits [7:6] of this chip's tags on a bus (R409). -/
def tagPrefix (c : Cfg) (n : Nat) : Nat := if chPriority (c.channel n) = 0xFF then 0 else chPriority (c.channel n)

/-- Bytes one frame of a bus holds, and one SEG carries (R405, R411). -/
def frameRoom (c : Cfg) (n : Nat) : Nat := if chFlag (c.channel n) 0 then 64 else 8
def segmentRoom (c : Cfg) (n : Nat) : Nat := frameRoom c n - 1

/-- A CFP frame: classic when its content fits in 8 bytes, else FD, padded with zeros to a data length (R405). -/
def cfpFrame (c : Cfg) (n ident : Nat) (data : List Byte) : CanFrame :=
  if data.length ≤ 8 then { ident := ident, extended := true, data := data }
  else
    { ident := ident, extended := true, fd := true, brs := chFlag (c.channel n) 1,
      data := fit (([12, 16, 20, 24, 32, 48].find? fun k => decide (data.length ≤ k)).getD 64) data }

/-- A frame of the layer enters the FIFO, or waits in the layer (R382). -/
def sendLayer (n : Nat) (f : TxFrame) (s : State) : State :=
  if (s.bus n).waiting = [] ∧ admitsOther (s.cfg.channel n) (s.chan n) f.segment = true then pushFifo n f s
  else s.setBus n { s.bus n with waiting := (s.bus n).waiting ++ [f] }

/-- A transaction of a bus by its order. -/
def findTx (s : State) (n order : Nat) : Option Transaction := (s.bus n).transactions.find? fun t => t.order == order
def setTx (n : Nat) (t : Transaction) (s : State) : State :=
  s.setBus n { s.bus n with transactions := (s.bus n).transactions.map fun x => if x.order = t.order then t else x }

/-- The next segment of a transaction (R411). -/
def segmentFrame (s : State) (n : Nat) (t : Transaction) : TxFrame :=
  let room := segmentRoom s.cfg n
  let id := cfpIdent t.prio 3 t.address 0 false (tagPrefix s.cfg n * 64 + t.tag.getD 0)
  { frame := cfpFrame s.cfg n id (le 1 t.seq ++ t.rest.take room), source := 1, bead := t.bead, due := s.phase.now, segment := true,
    transaction := some t.order, last := decide (t.rest.length ≤ room) }

/-- Segments enter as bulk_cap admits them, oldest transaction first (R382, R411). The fuel is the size of the FIFO. -/
def feedSegments : Nat → Nat → State → State
  | 0, _, s => s
  | k + 1, n, s =>
    if admitsOther (s.cfg.channel n) (s.chan n) true then
      match (s.bus n).transactions.find? fun t => t.stage == 2 && t.rest != [] with
      | none => s
      | some t =>
        let s1 := pushFifo n (segmentFrame s n t) (countBus n 12 s)
        feedSegments k n (setTx n { t with rest := t.rest.drop (segmentRoom s.cfg n), seq := (t.seq + 1) % 256 } s1)
    else s

/-- Frames that wait in the layer enter as entries free. -/
def feedFrames : Nat → Nat → State → State
  | 0, _, s => s
  | k + 1, n, s =>
    match (s.bus n).waiting with
    | [] => s
    | f :: fs =>
      if admitsOther (s.cfg.channel n) (s.chan n) f.segment then feedFrames k n (pushFifo n f (s.setBus n { s.bus n with waiting := fs })) else s

/-- The layer fills what entries are free. -/
def feedLayer (n : Nat) (s : State) : State := feedSegments 32 n (feedFrames 32 n s)

/-! ## Ends of transactions (R426, R427, R435, R437) -/

/-- The carry roots that await this transaction drop (R190, R427). -/
def failRead (t : Transaction) (cause : Nat) (s : State) : State := failInputs t.order cause s

/-- The status and payload with which a host transaction completes (R437); a result beyond the payload keeps its first 1,004 bytes (log 32). -/
def hostAnswer (outcome status : Nat) (result stale : List Byte) : Answer :=
  if outcome = 4 then bad 0x0A
  else if outcome = 5 then { status := 0x11, payload := stale }
  else ok (le 1 outcome ++ le 1 status ++ le 2 result.length ++ result.take 1004)

/-- A transaction ends with an outcome (R426). -/
def endTx (n : Nat) (t : Transaction) (outcome status : Nat) (result stale : List Byte) (s : State) : State :=
  let s0 := countBus n (1 + outcome) s
  let left := (s0.bus n).transactions.filter fun x => x.order != t.order
  let s1 := s0.setBus n { s0.bus n with
    transactions := left.map fun (x : Transaction) => if x.after = some t.order then { x with after := none } else x }
  let s2 := if outcome = 2 ∨ outcome = 3 ∨ outcome = 7 then failRead t 9 s1 else s1
  if t.origin = 2 then complete t.job (hostAnswer outcome status result stale) s2
  else if [1, 2, 3, 6, 7].contains outcome then raise 0x0B06 [n, t.role, outcome * 256 + status, t.bead] s2
  else if outcome = 4 ∧ t.origin = 0 then raise 0x0B04 [n, t.role, t.opcode, t.bead] s2
  else s2

/-- Transactions that wait for a role without a node end UNHELD (R423, R430). -/
def endUnheld (n r : Nat) (s : State) : State :=
  ((s.bus n).transactions.filter fun t => t.role == r && t.purpose == 0 && decide (t.stage ≤ 1)).foldl (fun s t => endTx n t 6 0 [] [] s) s

/-- A role's state changes (R418). -/
def setRoleState (r st : Nat) (s : State) : State := s.setRoleEntry r { s.roleEntry r with state := st }

/-- A role becomes UNHELD (R420). -/
def unhold (n r : Nat) (s : State) : State :=
  if (s.roleEntry r).state = 3 then s
  else endUnheld n r (raise 0x0B05 [r, n, (s.roleEntry r).epoch] (setRoleState r 3 s))

/-- Items of a role that FIELD bindings name, as the mask of REPORT_SET (R429; log 32). -/
def reportItems (c : Cfg) (r : Nat) : List Byte :=
  let items := (c.recordsOf 0x0703).flatMap fun x => (List.range 16).filterMap fun i =>
    let o := 16 + 8 * i
    if u8 x.value o = 3 ∧ u16 x.value (o + 2) = r then some (u16 x.value (o + 6)) else none
  (List.range 32).map fun k => BitVec.ofNat 8 (((List.range 8).map fun j => flag (items.contains (8 * k + j)) j).sum)

/-- REPORT_SET of the role record (R429). -/
def sendReportSet (n r : Nat) (s : State) : State :=
  let v := (s.cfg.role r).getD []
  let s1 := submitTx n (layerTx s n r 0x11 (le 1 (u8 v 2) ++ le 1 (u8 v 3) ++ be 2 (u16 v 4) ++ reportItems s.cfg r)) s
  s1.setRoleEntry r { s1.roleEntry r with reportSet := true }

/-- A role becomes HELD at an address and epoch (R420, R429, R484): fan groups of the role send their duty anew. -/
def holdRole (n r address epoch : Nat) (s : State) : State :=
  let e := s.roleEntry r
  let s1 := s.setRoleEntry r { e with state := 0, address := address, epoch := epoch, reportSet := false }
  let groups := ((s.cfg.recordsOf 0x0D02).filter fun g => u16 g.value 2 == r && u8 g.value 0 == n).map fun g => g.inst
  let again := fun (m : FMap FanGroup) (g : Nat) => fput {} m g { fget {} m g with resend := true }
  sendReportSet n r { s1 with fan := { s1.fan with groups := groups.foldl again s1.fan.groups } }

/-- A role management transaction, to an address and epoch of its own (R420). -/
def manage (n r opcode address epoch purpose : Nat) (s : State) : State :=
  submitTx n { layerTx s n r opcode [] with address := address, epoch := epoch, purpose := purpose } s

/-- A move of a role begins (R420): ROLE_CLEAR to a present old holder, then ROLE_SET at epoch + 1. -/
def beginMove (n r target : Nat) (s : State) : State :=
  let e := s.roleEntry r
  let s1 := s.setRoleEntry r { e with state := 1, target := target, old := e.address, reportSet := false }
  if e.address ≠ 0 ∧ (s.node n e.address).state = 1 then manage n r 0x02 e.address e.epoch 1 s1
  else manage n r 0x01 target ((e.epoch + 1) % 256) 2 s1

/-- A role management transaction failed: a move leaves its role UNRESOLVED (R420). -/
def manageFailed (t : Transaction) (s : State) : State :=
  if (t.purpose = 1 ∨ t.purpose = 2) ∧ (s.roleEntry t.role).state = 1 then setRoleState t.role 2 s else s

/-- A transaction fails: an idempotent one that timed out or lost its transport is sent again with its tag, up to retries times (R426). -/
def failTx (n : Nat) (t : Transaction) (outcome status : Nat) (s : State) : State :=
  if t.idem = true ∧ (outcome = 2 ∨ outcome = 3) ∧ t.retried < u8 (s.cfg.bus n) 8 then
    setTx n { t with stage := 1, retried := t.retried + 1, rest := [], result := [], total := 0, rseq := 1 } s
  else manageFailed t (endTx n t outcome status [] [] s)

/-! ## Tags and sending (R409, R410, R423 to R425) -/

/-- The lowest free tag of a range above the last one taken, wrapping (R410). -/
def freeTag (b : Bus) (lo n : Nat) (last : Option Nat) : Option Nat :=
  let taken := b.transactions.filterMap fun t => t.tag
  let start := match last with
    | none => 0
    | some k => k + 1 - lo
  ((List.range n).map fun i => lo + (start + i) % n).find? fun k => !taken.contains k

/-- The tag a transaction takes, with the bus that has given it. -/
def takeTag (b : Bus) (t : Transaction) : Option (Nat × Bus) :=
  match t.tag with
  | some k => some (k, b)
  | none =>
    if t.origin = 0 then (freeTag b 0x30 16 b.lastBeadTag).map fun k => (k, { b with lastBeadTag := some k })
    else (freeTag b 0 48 b.lastTag).map fun k => (k, { b with lastTag := some k })

/-- The first frame of a transaction that has its address, epoch and tag, with what is left for segments (R407, R411). -/
def firstFrame (s : State) (n : Nat) (t : Transaction) : TxFrame × List Byte :=
  let room := frameRoom s.cfg n
  let head := le 1 t.epoch ++ be 2 t.role ++ le 1 t.opcode
  let single := decide (4 + t.args.length ≤ room)
  let data := if single then head ++ t.args else head ++ be 2 t.args.length ++ t.args.take (room - 6)
  let id := cfpIdent t.prio 0 t.address 0 t.idem (tagPrefix s.cfg n * 64 + t.tag.getD 0)
  ({ frame := cfpFrame s.cfg n id data, source := if t.origin = 0 then 0 else 1, bead := t.bead, due := s.phase.now, segment := !single,
     transaction := some t.order, last := single },
   if single then [] else t.args.drop (room - 6))

/-- Address and epoch of a transaction at this moment, or none while its role does not let it go (R423). -/
def resolve (s : State) (t : Transaction) : Option (Nat × Nat) :=
  if t.purpose ≠ 0 then some (t.address, t.epoch)
  else if roleState s t.role = 0 then some ((s.roleEntry t.role).address, t.given.getD (s.roleEntry t.role).epoch)
  else none

/-- A transaction that can be sent now: resolved, and, but for a bead's, with a tag and an entry for its first frame (R382, R410, R423). -/
def sendable (s : State) (n : Nat) (t : Transaction) : Bool :=
  decide (t.stage ≤ 1) && t.after.isNone && (resolve s t).isSome
    && (t.origin == 0 || ((takeTag (s.bus n) t).isSome
      && admitsOther (s.cfg.channel n) (s.chan n) (decide (frameRoom s.cfg n < 4 + t.args.length)) && (s.bus n).waiting.isEmpty))

/-- A transaction's first frame enters the FIFO. -/
def sendTx (n : Nat) (t : Transaction) (s : State) : State :=
  match resolve s t, takeTag (s.bus n) t with
  | some (a, e), some (k, b) =>
    let t1 := { t with address := a, epoch := e, tag := some k, stage := 2, seq := 1 }
    let f := firstFrame s n t1
    let s1 := setTx n { t1 with rest := f.2 } (s.setBus n b)
    feedSegments 32 n (if t.origin = 0 then offerBead n f.1 s1 else pushFifo n f.1 s1)
  | _, _ => s

/-- A bead without a free tag ends the oldest bead transaction with a tag on the bus (R410). -/
def abandonOldest (n : Nat) (s : State) : State :=
  if (freeTag (s.bus n) 0x30 16 (s.bus n).lastBeadTag).isSome then s
  else
    match (s.bus n).transactions.find? fun t => t.origin == 0 && t.tag.isSome with
    | none => s
    | some t => endTx n t 7 0 [] [] s

/-- A bead's transaction is sent: it takes the oldest's tag where none is free, and a full hold queue discards its frame (R382, R410). -/
def sendBead (n : Nat) (due : Instant) (t : Transaction) (s : State) : State :=
  let s1 := if t.tag.isSome then s else abandonOldest n s
  let c := s1.chan n
  let full := decide (c.hold.length ≥ 16) && !(decide (c.fifo.length < 32) && c.hold.isEmpty)
  let s2 := sendTx n t s1
  let held := (s2.chan n).hold.map fun f => if f.transaction = some t.order then { f with due := due } else f
  let s3 := s2.setChan n { s2.chan n with hold := held }
  if full then
    match findTx s3 n t.order with
    | none => s3
    | some t1 => failTx n t1 3 0 s3
  else s3

/-- TRANSACTION_SEND: the first transaction that can be is sent; one whose role has no node ends (R423). -/
def execTransactionSend (bus : Nat) (s : State) : Host.Outcome State Fault Refusal :=
  if s.cfg.busOn bus = false ∨ sendsOwn s = false ∨ (s.chan bus).state = 0 then .next s
  else
    match (s.bus bus).transactions.find? fun t => t.purpose == 0 && decide (t.stage ≤ 1) && roleState s t.role == 3 with
    | some t => .next (endTx bus t 6 0 [] [] s)
    | none =>
      match (s.bus bus).transactions.find? (sendable s bus) with
      | none => .next s
      | some t => .next (if t.origin = 0 then sendBead bus s.phase.now t s else sendTx bus t s)

/-- A transaction that waits for its role supersedes one of the same role and opcode that waits (R423). -/
def supersedeSame (n role opcode : Nat) (s : State) : State :=
  ((s.bus n).transactions.filter fun t => t.idem && t.purpose == 0 && t.stage == 0 && t.role == role && t.opcode == opcode && t.tag.isNone).foldl
    (fun s t => endTx n t 8 0 [] [] s) s

/-- A new transaction meets its role's state (R423): it waits, or ends at once. -/
def originate (n : Nat) (t : Transaction) (s : State) : State :=
  let st := roleState s t.role
  let waits := st == 1 || st == 2
  let s0 := if waits && t.idem then supersedeSame n t.role t.opcode s else s
  let s1 := submitTx n t s0
  let t1 := { t with order := s0.cfp.order }
  if waits && !t.idem then endTx n t1 4 0 [] [] s1 else if st == 3 then endTx n t1 6 0 [] [] s1 else s1

/-- A CFP bead fires: its frame is resolved and enters the FIFO or the hold queue, or its transaction waits or ends (R382, R412, R423, R424). -/
def fireCfp (bead cls : Nat) (due : Instant) (action : List Byte) (s : State) : State :=
  let n := u8 action 0
  let t : Transaction :=
    { origin := 0, bead := bead, role := u16 action 2, opcode := u8 action 4, args := action.drop 5, idem := bit (u8 action 1) 0, prio := cls }
  if s.cfg.busOn n = false then s
  else
    let s1 := originate n t s
    match findTx s1 n s.cfp.order with
    | none => s1
    | some t1 => if roleState s1 t.role ≠ 0 then s1 else sendBead n due t1 s1

/-! ## Readings (R421, R422) -/

/-- A reading of a role's item arrives (R422). -/
def takeReading (role item : Nat) (value : Word) (invalid : Bool) (stamp : Instant) (s : State) : State :=
  let s1 := { s with cfp := { s.cfp with readings := fput {} s.cfp.readings (role * 256 + item) { value := value, invalid := invalid, at_ := stamp } } }
  let named := fun (b : Binding) => b.kind == 3 && b.index == role && b.b == item
  let s2 := (s1.cfg.recordsOf 0x0703).foldl (fun s r =>
    let seen := (List.range 16).filter fun i => named (binding r.value i)
    if seen.isEmpty then s
    else s.setLoop r.inst { s.loop r.inst with fieldSeen := seen.foldl (fun m i => fput false m i true) (s.loop r.inst).fieldSeen }) s1
  arrive named (value, invalid) stamp s2

/-- Entries of an RPT (R407). -/
def takeEntries (role : Nat) (stamp : Instant) : Nat → List Byte → State → State
  | 0, _, s => s
  | k + 1, d, s =>
    takeEntries role stamp k (d.drop 6) (takeReading role (u8 d 0) (BitVec.ofNat 32 (n32 d 2)) (bit (u8 d 1) 0) stamp s)

/-- Epoch a is newer than epoch b (R419). -/
def newerEpoch (a b : Nat) : Bool := decide (1 ≤ (a + 256 - b) % 256) && decide ((a + 256 - b) % 256 ≤ 127)

/-- Roles with a record on a bus, in ascending number. -/
def rolesOn (c : Cfg) (n : Nat) : List Nat := ((c.recordsOf 0x0B01).filter fun r => u8 r.value 0 == n).map fun r => r.inst

/-- A LISTEN role follows a CLAIM or RPT whose epoch is newer than its own or equal (R421). -/
def followListen (n role address epoch : Nat) (s : State) : State :=
  let e := s.roleEntry role
  if s.cfg.listens role = true ∧ s.cfg.roleBus role = n ∧ (e.address = 0 ∨ epoch = e.epoch ∨ newerEpoch epoch e.epoch = true) then
    s.setRoleEntry role { e with address := address, epoch := epoch, state := 0 }
  else s

/-- The oldest frame of a kind in a channel's receive buffer for the field protocol, taken from it (R385, log 11). -/
def takeKind (n kind : Nat) (s : State) : Option (RxFrame × State) :=
  match (s.chan n).rx.find? fun f => !f.host && f.frame.extended && identKind f.frame.ident == kind with
  | none => none
  | some f => some (f, s.setChan n { s.chan n with rx := (s.chan n).rx.erase f })

/-- CFP_RPT: readings of the role its sender holds at the table's epoch, or a stale report (R421, R422). -/
def execCfpRpt (bus : Nat) (s : State) : Host.Outcome State Fault Refusal :=
  match takeKind bus 2 s with
  | none => .next s
  | some (f, s1) =>
    let a := identSrc f.frame.ident
    let d := f.frame.data
    let s2 := followListen bus (s1.node bus a).role a (u8 d 0) s1
    match (rolesOn s2.cfg bus).find? fun r => (s2.roleEntry r).address == a && (s2.roleEntry r).epoch == u8 d 0 with
    | none => .next (countBus bus 10 s2)
    | some r => .next (takeEntries r f.stamp (u8 d 1) (d.drop 2) s2)

/-! ## Roll call and addresses (R413 to R417) -/

/-- This chip is the roll-call sender of a bus (R413). -/
def rollSender (s : State) (n : Nat) : Bool :=
  if chRefId (s.cfg.channel n) = 0xFFFF then bit (u8 (s.cfg.bus n) 0) 1 else (s.chan n).refState == 1

/-- A window opens. -/
def openWindow (n seq : Nat) (own : Bool) (s : State) : State :=
  let b := s.bus n
  s.setBus n { b with
    seq := seq, own := own, lastRoll := s.cycle, window := true, announced := 0, assigned := 0, clashNow := []
    nodes := fmapv {} (fun x : CfpNode => { x with claimed := false }) b.nodes }

/-- ROLL_CALL (R413, R417): not during a supervisor pause or warm restart, nor without COUNT_VALID. -/
def execRollCall (bus : Nat) (s : State) : Host.Outcome State Fault Refusal :=
  let v := s.cfg.bus bus
  if s.cfg.busOn bus = false ∨ sendsOwn s = false ∨ rollSender s bus = false ∨ s.hif.supPause = true ∨ s.phase.countValid = false
      ∨ s.cycle % 256 ≠ u8 v 1 ∨ (s.chan bus).state = 0 ∨ ((s.bus bus).window = true ∧ (s.bus bus).lastRoll = s.cycle) then .next s
  else
    let s1 := s.atAngle (max s.angle (u16 v 2))
    let seq := ((s1.bus bus).seq + 1) % 256
    let data := le 1 seq ++ le 1 (flag s1.phase.countValid 0) ++ be 4 (low32 s1.cycle)
    .next (sendLayer bus { frame := cfpFrame s1.cfg bus (cfpIdent 3 4 127 0 false 0) data } (openWindow bus seq true s1))

/-- A ROLL of another sender opens the window here too (R413, R436). -/
def hearRoll (n : Nat) (f : CanFrame) (s : State) : State := if rollSender s n then s else openWindow n (u8 f.data 0) false s

/-- The address of a UID in a bus's table. -/
def addressOf (s : State) (n uid : Nat) : Option Nat := ((s.bus n).nodes.find? fun e => e.2.uid == uid).map Prod.fst

/-- Of the entries of nodes that are not present, the one absent longest (R415). -/
def longestAbsent (l : List (Nat × CfpNode)) : Option Nat :=
  match l.filter fun e => e.2.state != 1 with
  | [] => none
  | x :: xs => some (xs.foldl (fun (a b : Nat × CfpNode) => if b.2.seen < a.2.seen then b else a) x).1

/-- The address to give a UID (R415). -/
def chooseAddress (s : State) (n uid : Nat) : Option Nat :=
  match addressOf s n uid with
  | some a => some a
  | none =>
    match ((List.range 126).map (· + 1)).find? fun a => (s.node n a).uid == 0 with
    | some a => some a
    | none => longestAbsent (s.bus n).nodes

/-- CFP_ANNOUNCE: the sender answers with ASSIGN (R415). -/
def execCfpAnnounce (bus : Nat) (s : State) : Host.Outcome State Fault Refusal :=
  match takeKind bus 6 s with
  | none => .next s
  | some (f, s1) =>
    let uid := n64 f.frame.data 0
    let s2 := s1.setBus bus { s1.bus bus with announced := (s1.bus bus).announced + 1 }
    if rollSender s2 bus = false ∨ s2.cfg.busOn bus = false then .next s2
    else
      match chooseAddress s2 bus uid with
      | none => .next (raise 0x0B07 [bus, low32 uid] s2)
      | some a =>
        let known := (addressOf s2 bus uid).isSome
        let s3 := if known then s2 else s2.setNode bus a { uid := uid, seen := s2.cycle }
        let s4 := s3.setBus bus { s3.bus bus with assigned := (s3.bus bus).assigned + 1 }
        let s5 := sendLayer bus { frame := cfpFrame s4.cfg bus (cfpIdent 3 7 a 0 false 0) (be 8 uid) } s4
        .next (if known then s5 else raise 0x0B01 [bus, a, low32 uid, (s5.node bus a).kind] s5)

/-- CFP_ASSIGN: a chip that is not the sender learns what it hears (R415). -/
def execCfpAssign (bus : Nat) (s : State) : Host.Outcome State Fault Refusal :=
  match takeKind bus 7 s with
  | none => .next s
  | some (f, s1) =>
    let a := f.frame.ident / 2 ^ 16 % 128
    let uid := n64 f.frame.data 0
    if rollSender s1 bus = true ∨ a = 0 ∨ a = 127 then .next s1
    else
      let known := (addressOf s1 bus uid).isSome
      let b := s1.bus bus
      let s2 := s1.setBus bus { b with
        assigned := b.assigned + 1
        nodes := fput {} ((b.nodes.filter fun e => !(e.2.uid == uid && e.1 != a))) a
          (if (s1.node bus a).uid = uid then s1.node bus a else { uid := uid, seen := s1.cycle }) }
      .next (if known then s2 else raise 0x0B01 [bus, a, low32 uid, 0] s2)

/-- The UID whose low half a CLAIM carries: the table's, or a role list's of the bus (R407, R415; log 32). -/
def claimedUid (s : State) (n a low : Nat) : Nat :=
  let u := (s.node n a).uid
  if u ≠ 0 then u
  else
    let lists := (s.cfg.recordsOf 0x0B01).flatMap fun r => if u8 r.value 0 = n then (List.range 4).map fun k => u64 r.value (8 + 8 * k) else []
    (lists.find? fun x => low32 x == low && x != 0).getD low

/-- A CLAIM marks its node present, with its role, epoch and kind (R414, R417, R421). -/
def takeClaim (n : Nat) (f : RxFrame) (s : State) : State :=
  let a := identSrc f.frame.ident
  let d := f.frame.data
  let uid := claimedUid s n a (n32 d 4)
  if a = 0 ∨ a = 127 ∨ low32 uid ≠ n32 d 4 then s
  else
    let x := { s.node n a with
      uid := uid, kind := u8 d 3, state := 1, role := n16 d 1, epoch := u8 d 0, missed := 0, claimed := true, seen := s.cycle }
    followListen n (n16 d 1) a (u8 d 0) (s.setNode n a x)

/-- CFP_CLAIM. -/
def execCfpClaim (bus : Nat) (s : State) : Host.Outcome State Fault Refusal :=
  match takeKind bus 5 s with
  | none => .next s
  | some (f, s1) => .next (takeClaim bus f s1)

/-- Every CLAIM received counts before its window ends (R430); the fuel is the size of the receive buffer. -/
def takeClaims (n : Nat) : Nat → State → State
  | 0, s => s
  | k + 1, s =>
    match takeKind n 5 s with
    | none => s
    | some (f, s1) => takeClaims n k (takeClaim n f s1)

/-! ## Resolution (R417, R420) -/

/-- A pin holds until its node becomes ABSENT (R437). -/
def unpin (uid : Nat) (s : State) : State :=
  { s with cfp := { s.cfp with roles := fmapv {} (fun e : RoleEntry => if e.pinned = some uid then { e with pinned := none } else e) s.cfp.roles } }

/-- A node that sent no CLAIM counts one roll call missed (R417). -/
def missNode (n : Nat) (s : State) (a : Nat) : State :=
  let x := s.node n a
  if x.claimed then s
  else
    let m := x.missed + 1
    let limit := u8 (s.cfg.bus n) 11
    let gone := decide (limit ≤ m) && x.state != 2
    let s1 := s.setNode n a { x with missed := min 255 m, state := if limit ≤ m then 2 else x.state }
    if gone then raise 0x0B02 [n, a, low32 x.uid, m] (unpin x.uid s1) else s1

/-- The UIDs that may hold a role, in order: the pinned one while it is present, else the list (R420, R437). -/
def candidates (s : State) (n r : Nat) : List Nat :=
  let v := (s.cfg.role r).getD []
  let list := ((List.range 4).map fun k => u64 v (8 + 8 * k)).filter (· != 0)
  match (s.roleEntry r).pinned with
  | none => list
  | some u => if (addressOf s n u).any fun a => (s.node n a).state == 1 then [u] else list

/-- The first present node of a list that is not used, skipping those of another kind (R420). -/
def pickNode (n r : Nat) (used : List Nat) : List Nat → State → Option Nat × State
  | [], s => (none, s)
  | u :: us, s =>
    match addressOf s n u with
    | none => pickNode n r used us s
    | some a =>
      let x := s.node n a
      if x.state ≠ 1 ∨ used.contains a = true then pickNode n r used us s
      else if x.kind ≠ r / 256 then pickNode n r used us (raise 0x0B09 [r, low32 u, x.kind] s)
      else (some a, s)

/-- One role's resolution: the node given, added to those used (R420). -/
def resolveRole (n : Nat) (acc : List Nat × State) (r : Nat) : List Nat × State :=
  let s := acc.2
  let e := s.roleEntry r
  if s.cfg.listens r = true then acc
  else if e.state = 1 then (e.target :: acc.1, s)
  else
    let s0 := match e.pinned with
      | none => s
      | some u => if (addressOf s n u).any fun a => (s.node n a).state == 1 then s else s.setRoleEntry r { e with pinned := none }
    match pickNode n r acc.1 (candidates s0 n r) s0 with
    | (none, s1) => (acc.1, unhold n r s1)
    | (some a, s1) =>
      if a = e.address then
        let x := s1.node n a
        let was := roleState s1 r
        let s2 := if was = 0 then s1 else holdRole n r a e.epoch s1
        (a :: acc.1, if x.role = r ∧ x.epoch = e.epoch then s2 else manage n r 0x01 a e.epoch 3 s2)
      else (a :: acc.1, beginMove n r a s1)

/-- A present node that claims a role it no longer holds by the table is cleared (R420). -/
def clearClaim (n : Nat) (s : State) (a : Nat) : State :=
  let x := s.node n a
  let e := s.roleEntry x.role
  if x.state = 1 ∧ x.role ≠ 0 ∧ (s.cfg.role x.role).isSome ∧ s.cfg.roleBus x.role = n ∧ s.cfg.listens x.role = false ∧ e.address ≠ a
      ∧ ¬ (e.state = 1 ∧ e.target = a) then manage n x.role 0x02 a x.epoch 4 s
  else s

/-- The UID bits whose ANNOUNCE ended in an error frame in this window; the third roll call raises CFP.UID_CLASH (R414). -/
def countClash (n : Nat) (s : State) (bits : Nat) : State :=
  let b := s.bus n
  let k := fget 0 b.clashes bits + 1
  if k ≥ 3 then raise 0x0B08 [n, bits] (s.setBus n { b with clashes := fput 0 b.clashes bits 0 })
  else s.setBus n { b with clashes := fput 0 b.clashes bits k }

/-- CLAIM_WINDOW_END (R413, R414, R417, R420). -/
def execClaimWindowEnd (bus : Nat) (s : State) : Host.Outcome State Fault Refusal :=
  if (s.bus bus).window = false ∨ s.cycle < (s.bus bus).lastRoll + 224 then .next s
  else
    let s := takeClaims bus 128 s
    let b := s.bus bus
    let addrs := b.nodes.map Prod.fst
    let missing := (b.nodes.filter fun e => !e.2.claimed).length
    let s1 := s.setBus bus { b with window := false, ended := true, missing := missing, clashNow := [] }
    let s2 := b.clashNow.foldl (countClash bus) (addrs.foldl (missNode bus) s1)
    let s3 := ((rolesOn s2.cfg bus).foldl (resolveRole bus) ([], s2)).2
    .next (addrs.foldl (clearClaim bus) s3)

/-! ## CFP commands (R436, R437) -/

/-- The bus of a request whose reserved bytes are zero. -/
def busArgument (c : Call) : Option Nat := if u8 c.pay 0 ≤ 7 ∧ allZero (c.pay.drop 1) then some (u8 c.pay 0) else none

def cfpNodeBytes (x : CfpNode) : List Byte :=
  le 8 x.uid ++ le 1 x.kind ++ le 1 x.state ++ le 2 x.role ++ le 1 x.epoch ++ le 1 x.missed ++ zeros 2

def execCfpNodes (mbx : Nat) (s : State) : Host.Outcome State Fault Refusal :=
  .next (serveRead 0x0B01 1 (· == 4) (fun c s =>
    let n := u8 c.pay 0
    let first := u8 c.pay 1
    let k := u8 c.pay 2
    if n > 7 ∨ first = 0 ∨ first > 126 ∨ k = 0 ∨ k > 63 ∨ first + k > 127 ∨ u8 c.pay 3 ≠ 0 then bad 6
    else ok ((List.range k).flatMap fun i => cfpNodeBytes (s.node n (first + i)))) mbx s)

def execCfpRole (mbx : Nat) (s : State) : Host.Outcome State Fault Refusal :=
  .next (serveRead 0x0B02 1 (· == 4) (fun c s =>
    let r := u16 c.pay 0
    if s.cfg.role r = none ∨ u16 c.pay 2 ≠ 0 then bad 6
    else
      let n := s.cfg.roleBus r
      let e := s.roleEntry r
      ok (le 1 n ++ le 1 (roleState s r) ++ le 1 e.address ++ le 1 e.epoch ++ le 8 (if e.address = 0 then 0 else (s.node n e.address).uid)
        ++ le 1 (flag e.pinned.isSome 0) ++ le 1 (flag (s.cfg.listens r) 0) ++ zeros 2)) mbx s)

def execCfpRoleMove (mbx : Nat) (s : State) : Host.Outcome State Fault Refusal :=
  .next (serve 0x0B03 2 (· == 12) (fun c s =>
    let r := u16 c.pay 0
    let uid := u64 c.pay 4
    let n := s.cfg.roleBus r
    let a := (addressOf s n uid).getD 0
    let x := s.node n a
    if s.cfg.role r = none ∨ u16 c.pay 2 ≠ 0 ∨ s.cfg.listens r = true then (s, bad 6)
    else if uid ≠ 0 ∧ a ≠ 0 ∧ x.state = 1 ∧ x.kind ≠ r / 256 then (s, bad 6)
    else if uid ≠ 0 ∧ (a = 0 ∨ x.state ≠ 1) then (s, bad 8)
    else if (s.roleEntry r).state = 1 then (s, bad 2)
    else if uid = 0 then (s.setRoleEntry r { s.roleEntry r with pinned := none }, ok (zeros 8))
    else
      let s1 := s.setRoleEntry r { s.roleEntry r with pinned := some uid }
      if a = (s.roleEntry r).address then (s1, ok (zeros 8)) else (beginMove n r a s1, ok (cycle64 s.cycle))) mbx s)

/-- Arguments of CFP.TRANSACT: with the BULK flag the data committed through the bulk window to target 4, complete and from offset 0; without it in the request (R43, R59, R79, R437; DEDUCED, log 46). -/
def transactArgs (s : State) (c : Call) (length : Nat) : Option (List Byte) :=
  if c.bulk then
    match s.hif.claim with
    | some k =>
      if c.pay.length = 12 ∧ k.target = 4 ∧ k.mailbox = c.mbx ∧ k.who = c.req.who ∧ claimComplete s k ∧ length ≤ k.data.length then
        some (k.data.take length)
      else none
    | none => none
  else if c.pay.length = 12 + length then some (c.pay.drop 12)
  else none

def execCfpTransact (mbx : Nat) (s : State) : Host.Outcome State Fault Refusal :=
  .next (serve 0x0B04 2 (fun n => decide (12 ≤ n)) (fun c s =>
    let n := u8 c.pay 0
    let fl := u8 c.pay 1
    let prio := u8 c.pay 2
    let r := u16 c.pay 4
    let op := u8 c.pay 6
    let len := u16 c.pay 8
    match transactArgs s c len with
    | none => (s, bad 6)
    | some args =>
      let segmented := decide (frameRoom s.cfg n < 4 + len)
      if n > 7 ∨ fl ≥ 4 ∨ u8 c.pay 7 ≠ 0 ∨ u16 c.pay 10 ≠ 0 ∨ len > 4096 ∨ s.cfg.role r = none ∨ s.cfg.roleBus r ≠ n ∨ op = 1 ∨ op = 2
          ∨ (prio > 7 ∧ ¬ (prio = 0xFF ∧ segmented = true)) then (s, bad 6)
      else if s.cfg.busOn n = false ∨ roleState s r = 3 then (s, bad 8)
      else if ((s.bus n).transactions.filter fun t => t.origin == 2).length ≥ 16 then (s, bad 2)
      else
        let t : Transaction :=
          { origin := 2, role := r, opcode := op, args := args, idem := bit fl 0, prio := if prio = 0xFF then u8 (s.cfg.bus n) 10 else prio,
            given := if bit fl 1 then some (u8 c.pay 3) else none, job := s.mail.jobs }
        let d := defer c n s
        if d.2.status = 1 then (originate n t d.1, d.2) else d) mbx s)

def execCfpRollcall (mbx : Nat) (s : State) : Host.Outcome State Fault Refusal :=
  .next (serveRead 0x0B05 1 (· == 4) (fun c s =>
    match busArgument c with
    | none => bad 6
    | some n =>
      let b := s.bus n
      if b.ended = false then bad 8
      else
        ok (le 1 b.seq ++ le 1 (if b.own then 0 else 1) ++ le 1 (b.nodes.filter fun e => e.2.state == 1).length ++ le 1 (sat 255 b.announced)
          ++ le 1 (sat 255 b.assigned) ++ le 1 b.missing ++ zeros 2 ++ cycle64 b.lastRoll)) mbx s)

/-- The role that the table gives an address, or that its node claims. -/
def roleAt (s : State) (n a : Nat) : Option Nat := (rolesOn s.cfg n).find? fun r => (s.roleEntry r).address == a && (s.roleEntry r).state != 3

def execCfpForget (mbx : Nat) (s : State) : Host.Outcome State Fault Refusal :=
  .next (serve 0x0B06 2 (· == 4) (fun c s =>
    let n := u8 c.pay 0
    let a := u8 c.pay 1
    if n > 7 ∨ a = 0 ∨ a > 126 ∨ u16 c.pay 2 ≠ 0 then (s, bad 6)
    else
      let held := roleAt s n a
      if (s.node n a).state = 1 ∨ held.isSome then
        (s, { status := 7, payload := conflictPayload 0xFFFF0B00 0x0B01 (held.getD (s.node n a).role) 0 0 0 })
      else (s.setNode n a {}, ok [])) mbx s)

def execCfpStats (mbx : Nat) (s : State) : Host.Outcome State Fault Refusal :=
  .next (serveRead 0x0B07 1 (· == 4) (fun c s =>
    match busArgument c with
    | none => bad 6
    | some n => ok (countBytes (s.bus n).stats 13)) mbx s)

def clearBus (s : State) (n : Nat) : State := s.setBus n { s.bus n with stats := [] }

def execCfpStatsClear (mbx : Nat) (s : State) : Host.Outcome State Fault Refusal :=
  .next (serve 0x0B08 2 (· == 4) (fun c s =>
    match busArgument c with
    | some n => (clearBus s n, ok [])
    | none => if u8 c.pay 0 = 0xFF ∧ allZero (c.pay.drop 1) then ((List.range 8).foldl clearBus s, ok []) else (s, bad 6)) mbx s)

end Sys2Proof.Machine
end

