-- ==== Sys2Proof/Machine/Fans.lean ====
section
/-! DEFINITION. Chapter 15: fan outputs and groups, from zone demand to duty, the start kick and stall, tach checks, and the FAN commands. -/

namespace Sys2Proof.Machine

/-! ## Records (R488 to R491) -/

def Cfg.fan (c : Cfg) (i : Nat) : List Byte := (c.baseValue 0x0D01 i).getD []
def Cfg.fanGroup (c : Cfg) (g : Nat) : List Byte := (c.baseValue 0x0D02 g).getD []
def fanEnabled (v : List Byte) : Bool := bit (u8 v 0) 0
def groupEnabled (v : List Byte) : Bool := bit (u8 v 1) 0
/-- The curve of a unit: 0 to 11 an output, 32 to 63 a group (R490). -/
def Cfg.curve (c : Cfg) (u : Nat) : List Byte := c.valueOr 0x8D03 u (zeros 32)
def Cfg.watchdogSeconds (c : Cfg) : Nat := ((c.baseValue 0x0D04 0).map fun v => u8 v 0).getD 10

def State.fanOut (s : State) (i : Nat) : FanOutput := fget {} s.fan.outputs i
def State.setFanOut (s : State) (i : Nat) (x : FanOutput) : State := { s with fan := { s.fan with outputs := fput {} s.fan.outputs i x } }
def State.fanGroup (s : State) (g : Nat) : FanGroup := fget {} s.fan.groups g
def State.setFanGroup (s : State) (g : Nat) (x : FanGroup) : State := { s with fan := { s.fan with groups := fput {} s.fan.groups g x } }
def countFan (i k : Nat) (s : State) : State := s.setFanOut i { s.fanOut i with stats := bump (s.fanOut i).stats k 1 }

/-! ## From zone demand to duty (R473 to R476) -/

/-- The zones of a unit's mask that a route has written since start, with their demands. -/
def writtenZones (s : State) (u : Nat) : List Word :=
  (List.range 32).filterMap fun z => if bit (u32 (s.cfg.curve u) 0) z then fget none s.fan.zones z else none

/-- The demand: the largest value last applied to a zone of the mask (R473). -/
def demand (s : State) (u : Nat) : Word := (writtenZones s u).foldl (fun a w => if ltFp a w then w else a) zeroWord

/-- The target of a demand, in units of 0.1 % (R473). -/
def curveTarget (v : List Byte) (d : Word) : Nat :=
  if isZeroFp d then 0
  else (Exact.add (Exact.ofInt (u16 v 4)) ((exact d).times ((u16 v 6 : Int) - u16 v 4) 1)).rounded 0 |>.toNat

/-- A target inside a skip band moves to the nearer edge, a tie to hi (R474). -/
def skipTarget (v : List Byte) (t : Nat) : Nat :=
  match (curveBands v).find? fun b => decide (b.1 < t) && decide (t < b.2) with
  | none => t
  | some b => if t - b.1 < b.2 - t then b.1 else b.2

/-- The layer that governs a unit, and its target (R476): its curve, whether its WATCHDOG bit is set, its watchdog duty and its FAN.SET duty. -/
def governing (s : State) (u : Nat) (watchdog : Bool) (wdDuty : Nat) (host : Option Nat) : Nat × Nat :=
  let v := s.cfg.curve u
  if s.inFallow then (1, 1000)
  else if s.fan.silent && watchdog then (2, skipTarget v wdDuty)
  else if !(writtenZones s u).isEmpty then (3, skipTarget v (curveTarget v (demand s u)))
  else
    match host with
    | some d => (4, skipTarget v d)
    | none => (0, 0)

def outputGoverning (s : State) (i : Nat) : Nat × Nat :=
  let v := s.cfg.fan i
  governing s i (bit (u8 v 0) 2) (u16 v 6) (s.fanOut i).host

def groupGoverning (s : State) (g : Nat) : Nat × Nat :=
  let v := s.cfg.fanGroup g
  governing s (32 + g) (bit (u8 v 1) 1) (u16 v 6) (s.fanGroup g).host

/-- The duty after one millisecond, in thousandths of a unit: at once without a slew limit, and never inside a skip band (R474, R475). -/
def slewDuty (v : List Byte) (duty target : Nat) : Nat :=
  let goal := 1000 * target
  let rate := if duty < goal then u16 v 8 else u16 v 10
  let next := if rate = 0 then goal else if duty < goal then min goal (duty + rate) else max goal (duty - rate)
  match (curveBands v).find? fun b => decide (1000 * b.1 < next) && decide (next < 1000 * b.2) with
  | none => next
  | some b => if duty < goal then 1000 * b.2 else 1000 * b.1

/-! ## Start kick, stall and tach loss (R479 to R482) -/

/-- An attempt begins: duty 1,000 (R479). -/
def beginAttempt (i n : Nat) (s : State) : State :=
  let o := s.fanOut i
  s.setFanOut i { o with state := 2, duty := 1000000, attempts := n, episode := o.episode + 1, pulses := 0, tachLost := false, good := 0, periods := [], speedValid := false }

/-- The output is off: its speed reads 0 and is valid (R471). -/
def fanOff (i : Nat) (s : State) : State :=
  let o := s.fanOut i
  s.setFanOut i { o with state := 1, duty := 0, attempts := 0, episode := if o.stalled then o.episode else 0, tachLost := false, good := 0, periods := [], speed := 0, speedValid := bit (u8 (s.cfg.fan i) 0) 3 }

/-- One output's millisecond (R475, R479, R480). -/
def updateOutput (s : State) (i : Nat) : State :=
  let v := s.cfg.fan i
  let o := s.fanOut i
  if fanEnabled v = false then s.setFanOut i { o with state := 0, duty := 0, target := 0, layer := 0 }
  else
    let (l, t) := outputGoverning s i
    let s1 := s.setFanOut i { o with layer := l, target := t }
    if l = 1 then
      s1.setFanOut i { s1.fanOut i with state := 6, duty := 1000000, stalled := false, attempts := 0, episode := 0, coolDowns := 0 }
    else if t ≠ 0 ∧ o.target = 0 then
      countFan i 0 (beginAttempt i 1 s1)
    else if t = 0 ∧ o.state ≠ 5 then (if o.state = 1 then s1 else fanOff i s1)
    else if o.state = 5 then
      let d := if l = 2 then 1000 * t else slewDuty (s.cfg.curve i) o.duty t
      let s2 := s1.setFanOut i { s1.fanOut i with duty := d, runMs := o.runMs + 1 }
      if t = 0 ∧ d = 0 then fanOff i s2 else s2
    else s1

/-- One group's millisecond: its duty moves; the node kicks and checks its own fans (R484). -/
def updateGroup (s : State) (g : Nat) : State :=
  let v := s.cfg.fanGroup g
  let x := s.fanGroup g
  if groupEnabled v = false then s
  else
    let (l, t) := groupGoverning s g
    let d := if l ≤ 2 ∧ l ≠ 0 then 1000 * t else slewDuty (s.cfg.curve (32 + g)) x.duty t
    s.setFanGroup g { x with layer := l, target := t, duty := d, runMs := if x.sent.getD 0 = 0 then x.runMs else x.runMs + 1 }

/-- FAN_SLEW_UPDATE: every millisecond (R475). -/
def execFanSlewUpdate (s : State) : Host.Outcome State Fault Refusal :=
  if s.phase.applied then .next ((List.range 32).foldl updateGroup ((List.range 12).foldl updateOutput s)) else .next s

/-- The expected period within which a pulse keeps the tach, in µs (R481). -/
def tachWindow (v : List Byte) : Nat := 180000000 / (u8 v 1 * u16 v 2)

/-- TACH_PULSE: a pulse, with the time since the one before it (R471, R479, R481). -/
def execTachPulse (output periodUs : Nat) (s : State) : Host.Outcome State Fault Refusal :=
  let v := s.cfg.fan output
  let o := s.fanOut output
  if fanEnabled v = false ∨ bit (u8 v 0) 3 = false ∨ periodUs < 10 then .next s
  else
    let ps := (periodUs :: o.periods).take (u8 v 1)
    let full := decide (ps.length = u8 v 1)
    let speed := if full then divNear (60000000) ps.sum else o.speed
    let good := if o.tachLost ∧ periodUs ≤ tachWindow v then o.good + 1 else 0
    let lost := o.tachLost && decide (good < 4)
    let s1 := s.setFanOut output { o with
      periods := ps, speed := speed, pulses := o.pulses + 1, good := good, tachLost := lost
      speedValid := full && !lost && o.state == 5 }
    .next (if o.tachLost && !lost then raise 0x0D04 [output, s.msSince o.lostTicks / 1000] s1 else s1)

/-- A successful attempt: the output goes at once to the target, and an episode ends (R479, R480). -/
def attemptSucceeds (i : Nat) (s : State) : State :=
  let o := s.fanOut i
  let s1 := s.setFanOut i { o with state := 5, duty := 1000 * o.target, attempts := 0, episode := 0, stalled := false, coolDowns := 0 }
  if o.stalled then raise 0x0D02 [i, o.coolDowns, s.msSince o.stalledTicks / 1000] s1 else s1

/-- A failed attempt: a retry wait, or after the fourth a cool-down (R479, R480). -/
def attemptFails (i : Nat) (s : State) : State :=
  let s1 := countFan i 1 s
  let o := s1.fanOut i
  if o.attempts < 4 then s1.setFanOut i { o with state := 3, duty := 0 }
  else
    let s2 := s1.setFanOut i { o with state := 4, duty := 0, coolDowns := o.coolDowns + 1, stalled := true
                                      stalledTicks := if o.stalled then o.stalledTicks else s1.clock.ticksRun }
    if o.stalled then s2 else raise 0x0D01 [i, o.target, o.episode, low32 s.cycle] (countFan i 2 s2)

/-- KICK_ATTEMPT_END: 2 s have passed (R479, R482). -/
def execKickAttemptEnd (output : Nat) (s : State) : Host.Outcome State Fault Refusal :=
  let o := s.fanOut output
  if o.state ≠ 2 then .next s
  else if bit (u8 (s.cfg.fan output) 0) 3 = false ∨ 2 ≤ o.pulses then .next (attemptSucceeds output s)
  else .next (attemptFails output s)

/-- RETRY_WAIT_END: the next attempt (R479). -/
def execRetryWaitEnd (output : Nat) (s : State) : Host.Outcome State Fault Refusal :=
  if (s.fanOut output).state = 3 then .next (beginAttempt output ((s.fanOut output).attempts + 1) s) else .next s

/-- COOL_DOWN_END: a new set of attempts (R480). -/
def execCoolDownEnd (output : Nat) (s : State) : Host.Outcome State Fault Refusal :=
  if (s.fanOut output).state = 4 then .next (beginAttempt output 1 s) else .next s

/-- TACH_LOSS_TIMEOUT (R481). -/
def execTachLossTimeout (output : Nat) (s : State) : Host.Outcome State Fault Refusal :=
  let v := s.cfg.fan output
  let o := s.fanOut output
  if o.state = 5 ∧ bit (u8 v 0) 3 = true ∧ 1000 * u16 v 4 < o.duty ∧ o.tachLost = false then
    .next (raise 0x0D03 [output, o.duty / 1000, o.speed]
      (countFan output 3 (s.setFanOut output { o with tachLost := true, good := 0, lostTicks := s.clock.ticksRun, speedValid := false })))
  else .next s

/-! ## Host-silence watchdog (R477, R478) -/

/-- A watchdog entry counts for every output and group with WATCHDOG set. -/
def countWatchdogs (s : State) : State :=
  let outs := (s.cfg.recordsOf 0x0D01).filter fun r => bit (u8 r.value 0) 2
  let groups := (s.cfg.recordsOf 0x0D02).filter fun r => bit (u8 r.value 1) 1
  groups.foldl (fun s r => s.setFanGroup r.inst { s.fanGroup r.inst with stats := bump (s.fanGroup r.inst).stats 4 1 })
    (outs.foldl (fun s r => countFan r.inst 4 s) s)

/-- HOST_SILENCE: the count since the last request has reached watchdog_s (R478); a request that has counted at this tick keeps the host from being silent (R487). -/
def execHostSilence (s : State) : Host.Outcome State Fault Refusal :=
  if s.cfg.watchdogSeconds = 0 ∨ s.fan.silent = true ∨ s.phase.applied = false ∨ s.msSince s.fan.lastRequest < 1000 * s.cfg.watchdogSeconds then
    .next s
  else
    .next (raise 0x0D05 [1, s.msSince s.fan.lastRequest / 1000, watchdogUnits s.cfg]
      (countWatchdogs { s with fan := { s.fan with silent := true } }))

/-! ## Fan groups on field nodes (R484 to R486) -/

/-- An unanswered command of a role and opcode stands. -/
def txOutstanding (s : State) (n role opcode : Nat) : Bool := (s.bus n).transactions.any fun t => t.role == role && t.opcode == opcode

/-- FAN_GROUP_UPDATE: once per rod, FAN_DUTY when the duty has moved by 10 or is due, and FAN_STATE half a period apart (R484). -/
def execFanGroupUpdate (group : Nat) (s : State) : Host.Outcome State Fault Refusal :=
  let v := s.cfg.fanGroup group
  let x := s.fanGroup group
  let n := u8 v 0
  let r := u16 v 2
  if groupEnabled v = false ∨ s.cfg.busOn n = false ∨ sendsOwn s = false ∨ x.sentRod = some s.cycle then .next s
  else
    let d := x.duty / 1000
    let period := 2 ^ u8 v 4
    let moved := x.resend || match x.sent with
      | none => true
      | some k => decide (10 ≤ ((d : Int) - k).natAbs)
    let s1 := s.setFanGroup group { x with sentRod := some s.cycle, resend := false }
    let s2 := if moved || s.cycle % period == 0 then
        submitTx n (layerTx s1 n r 0x21 (be 2 d ++ le 1 (u8 v 5))) (s1.setFanGroup group { s1.fanGroup group with sent := some d })
      else s1
    .next (if s.cycle % period = period / 2 ∧ txOutstanding s2 n r 0x22 = false then submitTx n (layerTx s2 n r 0x22 []) s2 else s2)

/-- A FAN_STATE result: FAN.GROUP_ALARM on a change of flags (R485, R486). -/
def takeFanState (n role : Nat) (d : List Byte) (s : State) : State :=
  let groups := (s.cfg.recordsOf 0x0D02).filter fun g => u16 g.value 2 == role && u8 g.value 0 == n
  groups.foldl (fun s g =>
    let x := s.fanGroup g.inst
    let fl := u8 d 4 % 8
    let s1 := s.setFanGroup g.inst { x with speed := n16 d 0, flags := fl, known := true }
    if fl = x.flags then s1 else raise 0x0D06 [g.inst, fl, n16 d 0] s1) s

/-! ## FAN commands (R494, R495) -/

/-- A unit of R494. -/
def fanUnit (u : Nat) : Bool := decide (u ≤ 11) || (decide (32 ≤ u) && decide (u ≤ 63))

def unitEnabled (s : State) (u : Nat) : Bool := if u ≤ 11 then fanEnabled (s.cfg.fan u) else groupEnabled (s.cfg.fanGroup (u - 32))

/-- A demand in units of 0.1 %. -/
def demandUnits (w : Word) : Nat := (((exact w).times 1000 1).rounded 0).toNat

def fanUnitArgument (c : Call) : Option Nat := if fanUnit (u8 c.pay 0) && allZero (c.pay.drop 1) then some (u8 c.pay 0) else none

/-- The state a group reads (R494). -/
def groupState (s : State) (g : Nat) : Nat :=
  if groupEnabled (s.cfg.fanGroup g) = false then 0
  else if s.hif.mode = .fallow then 6
  else if (s.fanGroup g).sent.getD 0 = 0 then 1 else 5

def fanStatusBytes (s : State) (u : Nat) : List Byte :=
  if u ≤ 11 then
    let o := s.fanOut u
    le 1 o.state ++ le 1 o.layer ++ le 1 (flag o.stalled 0 + flag o.tachLost 1 + flag o.speedValid 2) ++ le 1 o.attempts
      ++ le 2 (demandUnits (demand s u)) ++ le 2 o.target ++ le 2 (o.duty / 1000) ++ le 2 (sat 65535 o.speed) ++ le 2 (sat 65535 o.coolDowns) ++ zeros 2
  else
    let x := s.fanGroup (u - 32)
    le 1 (groupState s (u - 32)) ++ le 1 x.layer
      ++ le 1 (flag (bit x.flags 0) 0 + flag (bit x.flags 1) 1 + flag (x.known && !bit x.flags 1) 2 + flag (bit x.flags 2) 3) ++ zeros 1
      ++ le 2 (demandUnits (demand s u)) ++ le 2 x.target ++ le 2 (x.duty / 1000) ++ le 2 x.speed ++ zeros 4

def execFanStatus (mbx : Nat) (s : State) : Host.Outcome State Fault Refusal :=
  .next (serveRead 0x0D01 1 (· == 4) (fun c s =>
    match fanUnitArgument c with
    | none => bad 6
    | some u => ok (fanStatusBytes s u)) mbx s)

def execFanSet (mbx : Nat) (s : State) : Host.Outcome State Fault Refusal :=
  .next (serve 0x0D02 2 (· == 4) (fun c s =>
    let u := u8 c.pay 0
    let d := u16 c.pay 2
    if fanUnit u = false ∨ u8 c.pay 1 ≠ 0 ∨ (d > 1000 ∧ d ≠ 0xFFFF) then (s, bad 6)
    else if unitEnabled s u = false then (s, bad 8)
    else
      let h := if d = 0xFFFF then none else some d
      let s1 := if u ≤ 11 then s.setFanOut u { s.fanOut u with host := h } else s.setFanGroup (u - 32) { s.fanGroup (u - 32) with host := h }
      (s1, ok (le 1 (if u ≤ 11 then (outputGoverning s1 u).1 else (groupGoverning s1 (u - 32)).1) ++ zeros 3))) mbx s)

def execFanZones (mbx : Nat) (s : State) : Host.Outcome State Fault Refusal :=
  .next (serveRead 0x0D03 1 (· == 0) (fun _ s =>
    ok ((List.range 32).flatMap fun z => le 2 ((fget none s.fan.zones z).map demandUnits |>.getD 0xFFFF))) mbx s)

def execFanRetry (mbx : Nat) (s : State) : Host.Outcome State Fault Refusal :=
  .next (serve 0x0D04 2 (· == 4) (fun c s =>
    match fanUnitArgument c with
    | none => (s, bad 6)
    | some u =>
      if u ≤ 11 ∧ ((s.fanOut u).state = 3 ∨ (s.fanOut u).state = 4) then (beginAttempt u 1 s, ok []) else (s, bad 8)) mbx s)

def execFanStats (mbx : Nat) (s : State) : Host.Outcome State Fault Refusal :=
  .next (serveRead 0x0D05 1 (· == 4) (fun c s =>
    match fanUnitArgument c with
    | none => bad 6
    | some u =>
      if u ≤ 11 then ok (countBytes (s.fanOut u).stats 5 ++ le 4 (count32 ((s.fanOut u).runMs / 1000)))
      else ok (countBytes (s.fanGroup (u - 32)).stats 5 ++ le 4 (count32 ((s.fanGroup (u - 32)).runMs / 1000)))) mbx s)

def clearFanUnit (s : State) (u : Nat) : State :=
  if u ≤ 11 then s.setFanOut u { s.fanOut u with stats := [], runMs := 0 } else s.setFanGroup (u - 32) { s.fanGroup (u - 32) with stats := [], runMs := 0 }

def execFanStatsClear (mbx : Nat) (s : State) : Host.Outcome State Fault Refusal :=
  .next (serve 0x0D06 2 (· == 4) (fun c s =>
    match fanUnitArgument c with
    | some u => (clearFanUnit s u, ok [])
    | none => if u8 c.pay 0 = 0xFF ∧ allZero (c.pay.drop 1) then (((List.range 64).filter fanUnit).foldl clearFanUnit s, ok []) else (s, bad 6)) mbx s)

end Sys2Proof.Machine
end

