-- ==== Sys2Proof/Machine/FieldFrames.lean ====
section
/-! DEFINITION. Chapters 12 and 13 where they meet: frames received and sent on a channel, and the responses, segments and timeouts that end transactions. -/

namespace Sys2Proof.Machine

/-! ## Receiving (R375, R385, R391, R413, R414) -/

/-- CAN_RECEIVE_ERROR: an error while receiving; an ANNOUNCE whose identifier was seen counts toward CFP.UID_CLASH (R375, R414). -/
def execCanReceiveError (channel : Nat) (ident : Option Nat) (s : State) : Host.Outcome State Fault Refusal :=
  if onBus (s.chan channel) then
    let s1 := receiveError channel s
    match ident with
    | none => .next s1
    | some id =>
      let bits := id % 2 ^ 23
      let b := s1.bus channel
      if identKind id = 6 ∧ b.window = true ∧ b.clashNow.contains bits = false then
        .next (s1.setBus channel { b with clashNow := b.clashNow ++ [bits] })
      else .next s1
  else .next s

/-- A frame taken as valid; a ROLL of another sender opens the claim window (R385, R413). -/
def acceptFrame (n : Nat) (f : CanFrame) (s : State) : State :=
  if f.extended = true ∧ identKind f.ident = 4 ∧ filterAction s.cfg n f = 1 ∧ s.cfg.busOn n = true then
    let s1 := receiveGood n (countChan n 1 1 s)
    if (s1.chan n).rx.length ≥ 128 then rxOverflow n false s1 else hearRoll n f (countChan n 2 1 s1)
  else takeFrame n f s

/-- CAN_FRAME_RECEIVED: an FD frame on a channel without FD sends the engine to integration; else the frame is compared with the listening spare's decoding and taken (R375, R385, R391). -/
def execCanFrameReceived (channel : Nat) (frame : CanFrame) (spare : SpareView) (s : State) : Host.Outcome State Fault Refusal :=
  let c := s.chan channel
  if onBus c = false then .next s
  else if frame.fd = true ∧ chFlag (s.cfg.channel channel) 0 = false then .next (s.setChan channel { c with state := 1 })
  else
    match if spareListens s channel then spare else .agree with
    | .agree => .next (acceptFrame channel frame s)
    | .spareError => .next (suspectSpare channel (acceptFrame channel frame s))
    | .engineError => .next (suspectEngine channel (receiveError channel s))
    | .differ => .next (suspectSpare channel (suspectEngine channel (acceptFrame channel frame s)))

/-! ## Sending (R381 to R384) -/

/-- The transmitter delay that an FD frame of a channel with TDC measures, at most 127 clocks; the manual leaves it to the board (R380, log 10). -/
def measureTdc (n : Nat) (fd : Bool) (s : State) : State :=
  if fd = true ∧ chFlag (s.cfg.channel n) 2 = true then
    let (b, s1) := s.takeByte
    s1.setChan n { s1.chan n with tdc := b.toNat % 128, tdcValid := true }
  else s

/-- A sent frame lowers the transmit counter (R375). -/
def sentGood (n : Nat) (s : State) : State :=
  let c := s.chan n
  settleErrors n (countChan n 0 1 (s.setChan n { c with txErr := c.txErr - 1 }))

/-- The transaction whose last frame has been sent awaits its response (R425). -/
def markSent (n : Nat) (f : TxFrame) (s : State) : State :=
  match f.transaction, f.last with
  | some o, true =>
    match findTx s n o with
    | some t => if t.stage = 2 then setTx n { t with stage := 3 } s else s
    | none => s
  | _, _ => s

/-- CAN_FRAME_SENT: the pending reference message, or the FIFO's head, has been sent (R381, R382, R388, R389, R398). DESIGN CHOICE, log 31: a frame takes no time, so the reference message's delay is that of this command's angle. -/
def execCanFrameSent (channel : Nat) (reference : Bool) (s : State) : Host.Outcome State Fault Refusal :=
  let c := s.chan channel
  if onBus c = false then .next s
  else if reference then
    if c.refPending then
      .next (countChan channel 13 1 (sentGood channel (s.setChan channel { c with
        refPending := false, refSent := true, refCycle := s.cycle, sent := some (referenceFrame s channel) })))
    else .next s
  else
    match c.fifo with
    | [] => .next s
    | f :: _ =>
      let s1 := s.setChan channel { c with sent := some f.frame }
      .next (feedLayer channel (markSent channel f (popHead channel (sentGood channel (measureTdc channel f.frame.fd s1)))))

/-- The head frame is discarded: 1 errors, 2 arbitration; its transaction fails with a transport error (R383, R402). -/
def discardHead (n cause : Nat) (s : State) : State :=
  match (s.chan n).fifo with
  | [] => s
  | f :: _ =>
    let s1 := raise 0x0A04 [n, f.frame.ident, cause, f.bead] (countChan n (5 + cause) 1 (popHead n s))
    let s2 := match f.transaction with
      | none => s1
      | some o =>
        match findTx s1 n o with
        | none => s1
        | some t => failTx n t 3 0 (s1.setChan n { s1.chan n with fifo := (s1.chan n).fifo.filter fun g => g.transaction != some o })
    feedLayer n s2

/-- The frame that an attempt is for is the FIFO's head: a pending reference buffer is offered ahead of it (R381). -/
def headOffered (c : Channel) : Bool := !c.refPending && !c.fifo.isEmpty

/-- CAN_TRANSMIT_ERROR: an attempt ends in an error frame (R375, R383, R384). A passive transmitter whose frame only went unacknowledged keeps its counter; the command does not say which it was (log 31). -/
def execCanTransmitError (channel : Nat) (s : State) : Host.Outcome State Fault Refusal :=
  let c := s.chan channel
  if onBus c = false then .next s
  else
    let (unacknowledged, s0) := if c.state = 3 then s.takeBool else (false, s)
    let up := if unacknowledged then c.txErr else c.txErr + 8
    let s1 := countChan channel 10 1 (s0.setChan channel { c with txErr := up, errors := if headOffered c then c.errors + 1 else c.errors })
    let s2 := if up ≥ 256 then goBusOff channel s1 else settleErrors channel s1
    .next (if headOffered c = true ∧ c.errors + 1 ≥ u8 (s.cfg.channel channel) 13 then discardHead channel 1 s2 else s2)

/-- ARBITRATION_LOST (R383). -/
def execArbitrationLost (channel : Nat) (s : State) : Host.Outcome State Fault Refusal :=
  let c := s.chan channel
  let limit := u16 (s.cfg.channel channel) 14
  if onBus c = false then .next s
  else if headOffered c = false then .next (countChan channel 11 1 s)
  else
    let s1 := countChan channel 11 1 (s.setChan channel { c with losses := c.losses + 1 })
    .next (if limit ≠ 0 ∧ limit ≤ c.losses + 1 then discardHead channel 2 s1 else s1)

/-! ## Responses (R411, R419, R422, R426, R427) -/

/-- The move of a role has ended OK: HELD at its new address and epoch (R420). -/
def moveDone (n : Nat) (t : Transaction) (s : State) : State :=
  let e := s.roleEntry t.role
  if e.state = 1 ∧ e.target = t.address then
    raise 0x0B03 [t.role, e.old, t.address, t.epoch] (holdRole n t.role t.address t.epoch s)
  else s

/-- What an OK response brings about: the next step of a move, a reading, a fan group's state. -/
def effectOfOk (n : Nat) (t : Transaction) (f : RxFrame) (epoch : Nat) (result : List Byte) (s : State) : State :=
  if t.purpose = 1 then
    let e := s.roleEntry t.role
    if e.state = 1 then manage n t.role 0x01 e.target ((e.epoch + 1) % 256) 2 s else s
  else if t.purpose = 2 then moveDone n t s
  else if t.opcode = 0x10 then
    let e := s.roleEntry t.role
    if e.address = t.address ∧ e.epoch = epoch then
      takeReading t.role (u8 result 0) (BitVec.ofNat 32 (n32 result 2)) (bit (u8 result 1) 0) f.stamp s
    else countBus n 10 s
  else if t.opcode = 0x22 ∧ t.origin = 1 ∧ t.role / 256 = 3 then takeFanState n t.role result s
  else s

/-- A transaction is reissued once, when its role lets it (R427). -/
def reissue (n : Nat) (t : Transaction) (after : Option Nat) (s : State) : State :=
  setTx n { t with stage := 0, tag := none, reissued := true, after := after, rest := [], result := [], total := 0, rseq := 1, retried := 0 } (countBus n 11 s)

/-- ROLE_STALE (R419, R427): the roots that await the transaction drop with cause 2; then the table of R427. -/
def roleStale (n : Nat) (t : Transaction) (epoch role : Nat) (s : State) : State :=
  let s1 := failRead t 2 s
  let e := s1.roleEntry t.role
  let st := roleState s1 t.role
  let stale := le 1 n ++ le 1 t.address ++ le 2 role ++ le 1 epoch ++ zeros 3
  if t.purpose ≠ 0 then manageFailed t (endTx n t 4 4 [] [] s1)
  else if t.origin = 2 ∧ t.given.isSome then endTx n t 5 4 [] stale s1
  else if t.reissued then endTx n t 4 4 [] [] s1
  else if (st = 0 ∧ newerEpoch e.epoch t.epoch = true) ∨ st = 1 then
    (if t.idem then reissue n t none s1 else endTx n t 4 4 [] [] s1)
  else if st = 0 ∧ e.epoch = t.epoch ∧ role = t.role ∧ newerEpoch t.epoch epoch = true then
    if t.idem then
      let o := s1.cfp.order
      reissue n t (some o) (manage n t.role 0x01 e.address e.epoch 3 s1)
    else endTx n t 4 4 [] [] s1
  else
    let s2 := if st = 3 then s1 else setRoleState t.role 2 s1
    if t.idem then reissue n t none s2 else endTx n t 4 4 [] [] s2

/-- A whole response: OK, ROLE_STALE, or another node status (R426). -/
def finishRsp (n : Nat) (t : Transaction) (f : RxFrame) (status epoch role : Nat) (result : List Byte) (s : State) : State :=
  if status = 0 then effectOfOk n t f epoch result (endTx n t 0 0 result [] s)
  else if status = 4 then roleStale n t epoch role s
  else manageFailed t (endTx n t 1 status result [] s)

/-- The transaction of this chip's that a tag and sender answer (R409, R425). -/
def answeredTx (s : State) (n stage : Nat) (f : CanFrame) : Option Transaction :=
  if identTag f.ident / 64 ≠ tagPrefix s.cfg n then none
  else (s.bus n).transactions.find? fun t => t.stage == stage && t.tag == some (identTag f.ident % 64) && t.address == identSrc f.ident

/-- A RSP, or the first frame of a segmented one (R407, R411, R426). -/
def takeRsp (n : Nat) (f : RxFrame) (s : State) : State :=
  match answeredTx s n 3 f.frame with
  | none => s
  | some t =>
    let d := f.frame.data
    let status := u8 d 0
    if bit status 7 then
      let total := n16 d 4
      let part := d.drop 6
      if total ≤ part.length then finishRsp n t f (status % 128) (u8 d 1) (n16 d 2) (part.take total) s
      else
        setTx n { t with
          stage := 4, status := status % 128, rspEpoch := u8 d 1, rspRole := n16 d 2, total := total, result := part, rseq := 1 } s
    else finishRsp n t f status (u8 d 1) (n16 d 2) (d.drop 4) s

/-- CFP_RSP (R407, R411, R426). -/
def execCfpRsp (bus : Nat) (s : State) : Host.Outcome State Fault Refusal :=
  match takeKind bus 1 s with
  | none => .next s
  | some (f, s1) => .next (takeRsp bus f s1)

/-- A received RSP that waits and answers a transaction. -/
def waitingRsp (s : State) (n : Nat) (p : Transaction → Bool) : Option RxFrame :=
  (s.chan n).rx.find? fun f => !f.host && f.frame.extended && identKind f.frame.ident == 1 && (answeredTx s n 3 f.frame).any p

/-- The end of a role's move that has been received counts ahead of a bead that fires at the same tick (R430). -/
def endMove (n role : Nat) (s : State) : State :=
  match waitingRsp s n fun t => t.purpose == 2 && t.role == role with
  | none => s
  | some f => takeRsp n f (s.setChan n { s.chan n with rx := (s.chan n).rx.erase f })

/-- CFP_SEGMENT: a response's SEG in order continues its result; out of order it fails the transfer (R411). -/
def execCfpSegment (bus : Nat) (s : State) : Host.Outcome State Fault Refusal :=
  match takeKind bus 3 s with
  | none => .next s
  | some (f, s1) =>
    if bit f.frame.ident 8 = false then .next s1
    else
      match answeredTx s1 bus 4 f.frame with
      | none => .next s1
      | some t =>
        let d := f.frame.data
        if u8 d 0 ≠ t.rseq then .next (feedLayer bus (failTx bus t 3 0 s1))
        else
          let all := t.result ++ d.drop 1
          let s2 := countBus bus 12 s1
          if t.total ≤ all.length then .next (finishRsp bus t f t.status t.rspEpoch t.rspRole (all.take t.total) s2)
          else .next (setTx bus { t with result := all, rseq := (t.rseq + 1) % 256 } s2)

/-- A transaction of a bus by its 8-bit tag, at a stage. -/
def taggedTx (s : State) (n tag stage : Nat) : Option Transaction :=
  if tag / 64 ≠ tagPrefix s.cfg n then none
  else (s.bus n).transactions.find? fun t => t.stage == stage && t.tag == some (tag % 64)

/-- CFP_TIMEOUT (R425, R426); a response that has arrived counts (R430). -/
def execCfpTimeout (bus tag : Nat) (s : State) : Host.Outcome State Fault Refusal :=
  match taggedTx s bus tag 3 with
  | none => .next s
  | some t => if (waitingRsp s bus fun x => x.order == t.order).isSome then .next s else .next (failTx bus t 2 0 s)

/-- SEGMENT_TIMEOUT (R411). -/
def execSegmentTimeout (bus tag : Nat) (s : State) : Host.Outcome State Fault Refusal :=
  match taggedTx s bus tag 4 with
  | none => .next s
  | some t => .next (failTx bus t 3 0 s)

end Sys2Proof.Machine
end

