-- ==== Sys2Proof/Machine/Valves.lean ====
section
/-! DEFINITION. Chapter 14: valve requests, their waiting and ranking, the phases of an event, faults, duty requests, and the VALVE commands. -/

namespace Sys2Proof.Machine

/-! ## Records (R444, R462, R463) -/

def Cfg.valveBank (c : Cfg) (b : Nat) : List Byte := (c.baseValue 0x0C01 b).getD []
def Cfg.valve (c : Cfg) (n : Nat) : List Byte := (c.baseValue 0x0C02 n).getD []
def Cfg.profile (c : Cfg) (p : Nat) : List Byte := c.valueOr 0x8C03 p (zeros 32)
/-- A profile that starts no event (R444). -/
def emptyProfile (v : List Byte) : Bool := u32 v 4 == 0 && u32 v 8 == 0

def State.vbank (s : State) (b : Nat) : ValveBank := fget {} s.valve.banks b
def State.setVbank (s : State) (b : Nat) (x : ValveBank) : State := { s with valve := { s.valve with banks := fput {} s.valve.banks b x } }
def State.valveCh (s : State) (n : Nat) : ValveChannel := fget {} s.valve.channels n
def State.setValveCh (s : State) (n : Nat) (x : ValveChannel) : State := { s with valve := { s.valve with channels := fput {} s.valve.channels n x } }
def countValve (n i : Nat) (s : State) : State := s.setValveCh n { s.valveCh n with stats := bump (s.valveCh n).stats i 1 }

/-- A channel takes requests: its record has ENABLE set and its bank is enabled (R459, R462). -/
def valveEnabled (s : State) (n : Nat) : Bool := bit (u8 (s.cfg.valve n) 0) 0 && u8 (s.cfg.valveBank (n / 8)) 0 == 1

/-- The channels of a request (R453). -/
def requestChannels (c : Cfg) (r : ValveReq) : List Nat :=
  if r.pair then
    match pairIn (c.valveBank (r.channel / 8)) r.channel with
    | some d => [min r.channel d, max r.channel d]
    | none => [r.channel]
  else [r.channel]

/-- The event that runs on a channel. -/
def eventOn (s : State) (n : Nat) : Option ValveEvent :=
  match (s.vbank (n / 8)).event with
  | none => none
  | some e => if e.channels.contains n then some e else none

/-- A driver's code (R466). -/
def driverCode (r : ValveReq) : Nat := r.layer * 65536 + r.number

/-- A driver as a configuration key (R468). -/
def driverKey (r : ValveReq) : Nat × Nat := (if r.layer = 1 then 0x8401 else if r.layer = 2 then 0x0703 else 0x0C00, r.number)

/-! ## Refusals (R450, R451, R458, R466, R468) -/

/-- The completion of a refused VALVE.FIRE (R468). -/
def refusalAnswer (r : ValveReq) (cause : Nat) (holder : Option ValveReq) : Answer :=
  if cause = 4 ∨ cause = 5 then bad 8
  else
    let first := (holder.map driverKey).getD (0, 0)
    let resource := if cause = 1 then 0xFFFF0C00 + r.channel / 8 else 0xFFFF0C10 + r.channel
    { status := 7, payload := conflictPayload resource first.1 first.2 (driverKey r).1 (driverKey r).2 0 }

/-- A request is refused: counted, reported (cause 3 at most once per rod per channel), and a VALVE.FIRE completes. -/
def refuseValve (r : ValveReq) (cause : Nat) (holder : Option ValveReq) (s : State) : State :=
  let s1 := countValve r.channel 1 s
  let again := decide (cause = 3) && decide ((s1.valveCh r.channel).superseded = some s.cycle)
  let s2 := if cause = 3 then s1.setValveCh r.channel { s1.valveCh r.channel with superseded := some s.cycle } else s1
  let s3 := if again then s2 else raise 0x0C01 [r.channel, cause, driverCode r, (holder.map driverCode).getD 0] s2
  if r.layer = 3 then complete r.job (refusalAnswer r cause holder) s3 else s3

/-- The completion of a VALVE.FIRE at this tick (R468). -/
def fireDone (r : ValveReq) (s : State) : State :=
  if r.layer = 3 then complete r.job (ok (cycle64 s.cycle ++ le 2 s.angle ++ zeros 6)) s else s

/-! ## Requests (R447 to R453, R458) -/

/-- Some channel of a request, or its bank, is faulted. -/
def requestFaulted (s : State) (r : ValveReq) : Bool :=
  decide ((s.vbank (r.channel / 8)).fault ≠ 0) || (requestChannels s.cfg r).any fun c => decide ((s.valveCh c).fault ≠ 0)

/-- An event enters DECAY (R441, R452). -/
def enterDecay (b : Nat) (s : State) : State :=
  match (s.vbank b).event with
  | none => s
  | some e => s.setVbank b { s.vbank b with event := some { e with phase := 7, phaseStart := s.phase.now } }

/-- A request takes its channel's wait slot (R450); an ABORT against a running event takes it whatever the layers (R452). -/
def waitFor (r : ValveReq) (always : Bool) (s : State) : State :=
  match (s.valveCh r.channel).waiting with
  | none => s.setValveCh r.channel { s.valveCh r.channel with waiting := some r }
  | some w =>
    if always || decide (r.layer ≤ w.layer) then
      refuseValve w 3 (some r) (s.setValveCh r.channel { s.valveCh r.channel with waiting := some r })
    else refuseValve r 3 (some w) s

/-- A request arrives (R450, R452, R458, R459, R460); with the empty profile it starts no event, and a VALVE.FIRE is done (log 34). -/
def requestValve (r : ValveReq) (s : State) : State :=
  let empty := emptyProfile (s.cfg.profile r.profile)
  if s.inFallow ∨ s.hif.mode = .bootRom then s
  else if valveEnabled s r.channel = false then refuseValve r 5 none s
  else if requestFaulted s r then refuseValve r 4 none s
  else
    match r.abort, eventOn s r.channel with
    | true, some e =>
      if e.req.layer < r.layer then refuseValve r 6 (some e.req) s
      else
        let s1 := if e.phase = 7 then s else countValve r.channel 5 (enterDecay (r.channel / 8) s)
        if empty then
          match (s1.valveCh r.channel).waiting with
          | none => fireDone r s1
          | some w => fireDone r (refuseValve w 3 (some r) (s1.setValveCh r.channel { s1.valveCh r.channel with waiting := none }))
        else waitFor r true s1
    | _, _ => if empty then fireDone r s else waitFor r false s

/-- A VALVE bead's request, at the tick it fires (R447). -/
def fireValve (bead cls : Nat) (action : List Byte) (s : State) : State :=
  let p := s.cfg.profile (u8 action 1)
  requestValve
    { channel := u8 action 0, profile := u8 action 1, abort := bit (u8 action 2) 0, pair := bit (u8 action 2) 1, requested := s.phase.now,
      hold := u32 p 8, layer := 1, number := bead, cls := cls, defer := u16 p 14 } s

/-- A waiting request may start now (R448). -/
def mayStart (s : State) (r : ValveReq) : Bool :=
  let b := s.vbank (r.channel / 8)
  b.event.isNone && !b.recovery && Instant.le r.requested s.phase.now && !requestFaulted s r
    && (requestChannels s.cfg r).all fun c => !(s.valveCh c).offTime

/-- Order of requests that can start at one tick (R449), least first. -/
def requestRank (r : ValveReq) : Nat :=
  let bead := if r.layer = 1 then r.cls * 4096 + r.number else 0
  ((r.layer * 2 ^ 80 + r.requested.tu) * 2 ^ 16 + bead) * 64 + r.channel

def firstRequest : List ValveReq → Option ValveReq
  | [] => none
  | r :: rs => some (rs.foldl (fun a b => if requestRank b < requestRank a then b else a) r)

/-- An event starts with the profile in force (R446). -/
def startEvent (r : ValveReq) (s : State) : State :=
  let b := r.channel / 8
  let cs := requestChannels s.cfg r
  let p := s.cfg.profile r.profile
  let s1 := s.setValveCh r.channel { s.valveCh r.channel with waiting := none }
  let s2 := countValve r.channel 0 (if r.requested.tu < s.phase.now.tu then countValve r.channel 2 s1 else s1)
  let s3 := cs.foldl (fun s c => s.setValveCh c { s.valveCh c with peak := 0, micros := 0, mean := 0, current := 0, lastEnd := u16 p 24 }) s2
  fireDone r (s3.setVbank b { s3.vbank b with
    event := some { req := r, channels := cs, profile := p, phase := 3, start := s.phase.now, phaseStart := s.phase.now } })

/-- VALVE_EVENT_START (R448, R449). -/
def execValveEventStart (bank : Nat) (s : State) : Host.Outcome State Fault Refusal :=
  let rs := (List.range 8).filterMap fun k => (s.valveCh (8 * bank + k)).waiting
  match firstRequest (rs.filter (mayStart s)) with
  | none => .next s
  | some r => .next (startEvent r s)

/-! ## Phases of an event (R441) -/

/-- The event of a channel goes to a phase. -/
def toPhase (channel phase : Nat) (e : ValveEvent) (s : State) : State :=
  let b := channel / 8
  s.setVbank b { s.vbank b with event := some { e with phase := phase, phaseStart := s.phase.now } }

/-- The phase after the peak: HOLD after DROP, or DECAY with a hold time of 0 (R441). -/
def afterPeak (e : ValveEvent) (phase : Nat) : Nat := if e.req.hold = 0 then 7 else phase

/-- VALVE_PEAK_REACHED: the current reaches i_peak, or i_hold with t_peak = 0 (R441). -/
def execValvePeakReached (channel micros currentMa : Nat) (s : State) : Host.Outcome State Fault Refusal :=
  match eventOn s channel with
  | none => .next s
  | some e =>
    if e.phase ≠ 3 then .next s
    else
      let s1 := s.setValveCh channel { s.valveCh channel with peak := currentMa, micros := micros, current := currentMa }
      .next (toPhase channel (if u32 e.profile 4 = 0 then afterPeak e 6 else 4) e s1)

/-- VALVE_PEAK_END: t_peak passes (R441). -/
def execValvePeakEnd (channel : Nat) (s : State) : Host.Outcome State Fault Refusal :=
  match eventOn s channel with
  | none => .next s
  | some e => if (e.phase = 3 ∨ e.phase = 4) ∧ u32 e.profile 4 ≠ 0 then .next (toPhase channel (afterPeak e 5) e s) else .next s

/-- VALVE_DROP_END (R441). -/
def execValveDropEnd (channel : Nat) (s : State) : Host.Outcome State Fault Refusal :=
  match eventOn s channel with
  | none => .next s
  | some e =>
    if e.phase = 5 then .next (toPhase channel 6 e (s.setValveCh channel { s.valveCh channel with current := u16 e.profile 2 })) else .next s

/-- VALVE_HOLD_END (R441). -/
def execValveHoldEnd (channel meanMa : Nat) (s : State) : Host.Outcome State Fault Refusal :=
  match eventOn s channel with
  | none => .next s
  | some e =>
    if e.phase = 6 then .next (toPhase channel 7 e (s.setValveCh channel { s.valveCh channel with mean := meanMa, current := meanMa })) else .next s

/-- An event ends: the bank recovers, and its channels' min_off runs (R441, R448). -/
def endEvent (b : Nat) (s : State) : State :=
  match (s.vbank b).event with
  | none => s
  | some e =>
    let s1 := e.channels.foldl (fun s c => s.setValveCh c { s.valveCh c with offTime := true, current := 0, endCycle := s.cycle }) s
    s1.setVbank b { s1.vbank b with event := none, recovery := true }

/-- VALVE_DECAY_END (R441). -/
def execValveDecayEnd (channel : Nat) (s : State) : Host.Outcome State Fault Refusal :=
  match eventOn s channel with
  | none => .next s
  | some e => if e.phase = 7 then .next (endEvent (channel / 8) s) else .next s

/-- VALVE_OFF_TIME_END (R448). -/
def execValveOffTimeEnd (channel : Nat) (s : State) : Host.Outcome State Fault Refusal :=
  .next (s.setValveCh channel { s.valveCh channel with offTime := false })

/-- BANK_RECOVERY_END (R448). -/
def execBankRecoveryEnd (bank : Nat) (s : State) : Host.Outcome State Fault Refusal :=
  .next (s.setVbank bank { s.vbank bank with recovery := false })

/-- VALVE_DEFER_EXPIRY: a request that could start at its limit starts (R461); else it is refused, with cause 1 while the bank holds another channel's event, else 2 (R451). -/
def execValveDeferExpiry (channel : Nat) (s : State) : Host.Outcome State Fault Refusal :=
  match (s.valveCh channel).waiting with
  | none => .next s
  | some r =>
    let limit := r.requested.add r.defer
    if s.cycle < limit.cycle then .next s
    else
      let s0 := if limit.cycle = s.cycle then s.atAngle (max s.angle limit.angle) else s
      let ready := firstRequest (((List.range 8).filterMap fun k => (s0.valveCh (channel / 8 * 8 + k)).waiting).filter (mayStart s0))
      if s0.phase.now = limit ∧ ready = some r then .next (startEvent r s0)
      else
      let s1 := s0.setValveCh channel { s0.valveCh channel with waiting := none }
      let own := (requestChannels s.cfg r).any fun c => (eventOn s c).isSome
      match (s.vbank (channel / 8)).event with
      | some e => .next (refuseValve r (if own then 2 else 1) (some e.req) s1)
      | none => .next (refuseValve r 2 none s1)

/-! ## Duty drive from loops (R454) -/

/-- The loop and output whose VALVE route drives a channel. -/
def valveRoute (c : Cfg) (n : Nat) : Option (Nat × Nat) :=
  (c.recordsOf 0x0703).findSome? fun r =>
    ((List.range 16).find? fun o => decide ((route r.value o).kind = 3) && (route r.value o).target == n).map fun o => (r.inst, o)

/-- DUTY_INSTANT: the open time of the value last applied, as one request (R454). -/
def execDutyInstant (channel : Nat) (s : State) : Host.Outcome State Fault Refusal :=
  let v := s.cfg.valve channel
  if bit (u8 v 0) 2 = false ∨ s.phase.started = false ∨ s.cycle % 2 ^ u8 v 6 ≠ u16 v 10 then .next s
  else
    let s1 := s.atAngle (max s.angle (u16 v 8))
    match valveRoute s1.cfg channel with
    | none => .next s1
    | some (l, o) =>
      let d := (fget none (s1.loop l).applied o).getD zeroWord
      let p := s1.cfg.profile (u8 v 1)
      let t := ((exact d).times ((2 ^ u8 v 6 * 10 ^ 12 : Nat) : Int) s1.dtFreq)
      let peak := u32 p 4
      if isZeroFp d ∨ s1.dtFreq = 0 then .next s1
      else if t.lt (Exact.ofInt (peak + u16 p 18 : Nat)) then .next (countValve channel 4 s1)
      else
        let hold := min (u32 p 8) ((t.sub (Exact.ofInt (peak : Nat))).rounded 0).toNat
        .next (requestValve
          { channel := channel, profile := u8 v 1, requested := s1.phase.now, hold := hold, layer := 2, number := l, defer := u16 p 14 } s1)

/-! ## Faults (R457, R458) -/

/-- Requests that wait on channels a test names are refused with cause 4. -/
def refuseFaulted (p : ValveReq → Bool) (b : Nat) (s : State) : State :=
  (List.range 8).foldl (fun s k =>
    let c := 8 * b + k
    match (s.valveCh c).waiting with
    | none => s
    | some r => if p r then refuseValve r 4 none (s.setValveCh c { s.valveCh c with waiting := none }) else s) s

/-- A fault latches on a channel: the event ends at once, for both of a pair (R453, R457, R458). -/
def latchChannel (channel fault : Nat) (s : State) : State :=
  let s1 := if (eventOn s channel).isSome then endEvent (channel / 8) s else s
  let s2 := countValve channel 3 (s1.setValveCh channel { s1.valveCh channel with fault := fault })
  refuseFaulted (fun r => (requestChannels s2.cfg r).contains channel) (channel / 8) s2

/-- A fault latches on a bank (R457, R458). -/
def latchBank (b fault channel : Nat) (s : State) : State :=
  let s1 := endEvent b s
  refuseFaulted (fun _ => true) b (countValve channel 3 (s1.setVbank b { s1.vbank b with fault := fault }))

/-- VALVE_OPEN (R457). -/
def execValveOpen (channel currentMa : Nat) (s : State) : Host.Outcome State Fault Refusal :=
  match eventOn s channel with
  | none => .next s
  | some e =>
    if currentMa < u16 e.profile 16 then .next (raise 0x0C02 [channel, e.req.profile, currentMa, driverCode e.req] (latchChannel channel 1 s)) else .next s

/-- VALVE_SHORT (R457). -/
def execValveShort (channel micros : Nat) (s : State) : Host.Outcome State Fault Refusal :=
  match eventOn s channel with
  | none => .next s
  | some e =>
    if e.phase = 3 ∧ micros < u16 e.profile 20 then .next (raise 0x0C03 [channel, e.req.profile, micros, driverCode e.req] (latchChannel channel 2 s))
    else .next s

/-- VALVE_OVERCURRENT (R457). -/
def execValveOvercurrent (channel currentMa : Nat) (s : State) : Host.Outcome State Fault Refusal :=
  match eventOn s channel with
  | none => .next s
  | some e =>
    if u16 e.profile 22 < currentMa then .next (raise 0x0C04 [channel, e.phase, currentMa, driverCode e.req] (latchChannel channel 3 s)) else .next s

/-- VALVE_DECAY (R457). -/
def execValveDecay (bank currentMa : Nat) (s : State) : Host.Outcome State Fault Refusal :=
  match (s.vbank bank).event with
  | none => .next s
  | some e =>
    if e.phase = 7 ∧ u16 e.profile 24 ≤ currentMa then .next (raise 0x0C05 [bank, e.req.channel, currentMa] (latchBank bank 4 e.req.channel s)) else .next s

/-- VALVE_STUCK: an idle channel draws current on two scans running (R456, R457). -/
def execValveStuck (channel currentMa : Nat) (s : State) : Host.Outcome State Fault Refusal :=
  let b := channel / 8
  if (s.vbank b).event.isNone ∧ u8 (s.cfg.valveBank b) 0 = 1 ∧ (s.vbank b).fault = 0 ∧ (s.valveCh channel).lastEnd < currentMa then
    .next (raise 0x0C06 [b, channel, currentMa] (latchBank b 5 channel s))
  else .next s

/-- VALVE_BANK_OVERCURRENT (R457). -/
def execValveBankOvercurrent (bank currentMa : Nat) (s : State) : Host.Outcome State Fault Refusal :=
  match (s.vbank bank).event with
  | none => .next s
  | some e =>
    let s0 := s.setVbank bank { s.vbank bank with current := currentMa }
    if u16 (s.cfg.valveBank bank) 6 < currentMa then .next (raise 0x0C07 [bank, currentMa, e.req.channel] (latchBank bank 6 e.req.channel s0)) else .next s0

/-- VALVE_GROUND_SHORT (R457). -/
def execValveGroundShort (bank excessMa : Nat) (s : State) : Host.Outcome State Fault Refusal :=
  match (s.vbank bank).event with
  | none => .next s
  | some e =>
    if u16 (s.cfg.valveBank bank) 8 < excessMa then .next (raise 0x0C08 [bank, excessMa, e.req.channel] (latchBank bank 7 e.req.channel s)) else .next s

/-! ## Modes (R460) -/

/-- Every event ends and every request is discarded, with no event raised: fallow entry, and a start through the boot ROM, which clears latched faults too (R458, R460). -/
def stopValves (faultsToo : Bool) (s : State) : State :=
  { s with valve := {
      banks := fmapv {} (fun b : ValveBank => { b with event := none, recovery := false, current := 0, fault := if faultsToo then 0 else b.fault }) s.valve.banks
      channels := fmapv {} (fun c : ValveChannel =>
        { c with waiting := none, offTime := false, current := 0, fault := if faultsToo then 0 else c.fault }) s.valve.channels } }

/-- A warm restart abandons the VALVE.FIREs that wait (R460). -/
def abandonFires (s : State) : State :=
  (List.range 40).foldl (fun s c =>
    match (s.valveCh c).waiting with
    | none => s
    | some r => if r.layer = 3 then refuseValve r 3 none (s.setValveCh c { s.valveCh c with waiting := none }) else s) s

/-! ## VALVE commands (R459, R467, R468) -/

/-- A channel's state code (R459). -/
def valveState (s : State) (n : Nat) : Nat :=
  let c := s.valveCh n
  if valveEnabled s n = false then 0
  else if c.fault ≠ 0 then 9
  else
    match eventOn s n with
    | some e => e.phase
    | none => if c.waiting.isSome then 2 else if c.offTime then 8 else 1

/-- A bank's state: 0 IDLE, 1 BUSY, 2 RECOVERY, 3 FAULT (R459). -/
def bankState (s : State) (b : Nat) : Nat :=
  let x := s.vbank b
  if x.fault ≠ 0 then 3 else if x.event.isSome then 1 else if x.recovery then 2 else 0

/-- Microseconds of turn units at the present frequency. -/
def tuMicros (s : State) (tu : Nat) : Nat := tu * 10 ^ 12 / (65536 * s.freq)

/-- The time in phase of a channel's event, in µs. -/
def timeInPhase (s : State) (n : Nat) : Nat :=
  match eventOn s n with
  | none => 0
  | some e => low32 (tuMicros s (s.phase.now.tu - e.phaseStart.tu))

def valveStatusBytes (s : State) (n : Nat) : List Byte :=
  let c := s.valveCh n
  let b := s.vbank (n / 8)
  let e := (eventOn s n).map fun e => e.req
  le 1 (valveState s n) ++ le 1 (bankState s (n / 8)) ++ le 1 ((e.map fun r => r.profile).getD 0) ++ le 1 ((e.map fun r => r.layer).getD 0)
    ++ le 2 (sat 65535 c.current) ++ le 2 (sat 65535 b.current) ++ le 4 (timeInPhase s n)
    ++ le 1 ((c.waiting.map fun r => r.profile).getD 0) ++ le 1 ((c.waiting.map fun r => r.layer).getD 0)
    ++ le 1 (if c.fault ≠ 0 then c.fault else b.fault) ++ zeros 1
    ++ le 2 (sat 65535 c.peak) ++ le 2 (sat 65535 c.micros) ++ le 2 (sat 65535 c.mean) ++ zeros 2 ++ cycle64 c.endCycle

/-- A channel number with reserved bytes zero. -/
def valveArgument (c : Call) : Option Nat := if u8 c.pay 0 ≤ 39 ∧ allZero (c.pay.drop 1) then some (u8 c.pay 0) else none

def execValveStatus (mbx : Nat) (s : State) : Host.Outcome State Fault Refusal :=
  .next (serveRead 0x0C01 1 (· == 4) (fun c s =>
    match valveArgument c with
    | none => bad 6
    | some n => ok (valveStatusBytes s n)) mbx s)

def execValveFire (mbx : Nat) (s : State) : Host.Outcome State Fault Refusal :=
  .next (serve 0x0C02 2 (· == 8) (fun c s =>
    let n := u8 c.pay 0
    let p := u8 c.pay 1
    let fl := u8 c.pay 2
    let hold := u32 c.pay 4
    let v := s.cfg.profile p
    let r : ValveReq :=
      { channel := n, profile := p, abort := bit fl 0, pair := bit fl 1, requested := s.phase.now, hold := if hold = 0 then u32 v 8 else hold,
        layer := 3, number := c.req.hdr.tag, defer := u16 v 14, job := s.mail.jobs }
    if n > 39 ∨ p > 15 ∨ fl ≥ 4 ∨ u8 c.pay 3 ≠ 0 ∨ (r.pair = true ∧ pairIn (s.cfg.valveBank (n / 8)) n = none)
        ∨ (hold ≠ 0 ∧ emptyProfile v = true) then (s, bad 6)
    else if bit (u8 (s.cfg.valve n) 0) 1 = false then (s, bad 5)
    else if valveEnabled s n = false ∨ requestFaulted s r then (s, bad 8)
    else
      let d := defer c n s
      if d.2.status = 1 then (requestValve r d.1, d.2) else d) mbx s)

def execValveClear (mbx : Nat) (s : State) : Host.Outcome State Fault Refusal :=
  .next (serve 0x0C03 2 (· == 4) (fun c s =>
    let n := u8 c.pay 0
    if allZero (c.pay.drop 1) = false then (s, bad 6)
    else if n ≤ 39 then
      let s1 := s.setValveCh n { s.valveCh n with fault := 0 }
      (s1, ok (le 1 (valveState s1 n) ++ zeros 3))
    else if 0x80 ≤ n ∧ n ≤ 0x84 then
      let s1 := s.setVbank (n - 0x80) { s.vbank (n - 0x80) with fault := 0 }
      (s1, ok (le 1 (bankState s1 (n - 0x80)) ++ zeros 3))
    else (s, bad 6)) mbx s)

def execValveProfile (mbx : Nat) (s : State) : Host.Outcome State Fault Refusal :=
  .next (serveRead 0x0C04 1 (· == 4) (fun c s =>
    if u8 c.pay 0 > 15 ∨ allZero (c.pay.drop 1) = false then bad 6 else ok (s.cfg.profile (u8 c.pay 0))) mbx s)

def execValveStats (mbx : Nat) (s : State) : Host.Outcome State Fault Refusal :=
  .next (serveRead 0x0C05 1 (· == 4) (fun c s =>
    match valveArgument c with
    | none => bad 6
    | some n => ok (countBytes (s.valveCh n).stats 6)) mbx s)

def clearValve (s : State) (n : Nat) : State := s.setValveCh n { s.valveCh n with stats := [] }

def execValveStatsClear (mbx : Nat) (s : State) : Host.Outcome State Fault Refusal :=
  .next (serve 0x0C06 2 (· == 4) (fun c s =>
    match valveArgument c with
    | some n => (clearValve s n, ok [])
    | none => if u8 c.pay 0 = 0xFF ∧ allZero (c.pay.drop 1) then ((List.range 40).foldl clearValve s, ok []) else (s, bad 6)) mbx s)

end Sys2Proof.Machine
end

