-- ==== Sys2Proof/Machine/Firing.lean ====
section
/-! DEFINITION. Chapter 05: the firing of an occurrence, its order at one angle, its tolerance, and what each type of bead does (R149, R155, R159 to R161). -/

namespace Sys2Proof.Machine

/-- Tolerance of a type about the bead's angle, in tu (R159). -/
def fireTolerance (type : Nat) : Nat :=
  match type with
  | 1 | 2 => 2
  | 3 => 4
  | 7 => 8
  | _ => 1

/-- Order of the occurrences of one angle: snapshots, samples, then class and bead number (R160). -/
def fireRank (o : Occ) : Nat :=
  match o.bead_.type with
  | 6 => o.bead
  | 4 => 4096 + o.bead
  | _ => 8192 + o.bead_.cls * 4096 + o.bead

/-- A PIN occurrence acts on the bead layer of its output: 0 SET, 1 CLEAR, 2 PULSE_HIGH, 3 PULSE_LOW, 4 RELEASE (R149, R161). -/
def firePin (action : List Byte) (s : State) : State :=
  let n := u8 action 0
  let x := fget {} s.abacus.layer n
  let back := Instant.ofTu (s.phase.now.tu + u16 action 2)
  let y : BeadLayer := match u8 action 1 with
    | 0 => { base := some true }
    | 1 => { base := some false }
    | 2 => { x with pulse := some (true, back) }
    | 3 => { x with pulse := some (false, back) }
    | _ => {}
  { s with abacus := { s.abacus with layer := fput {} s.abacus.layer n y } }

/-- A SWATH occurrence stages its change: op 0 sets a swath, op 1 clears a level (R100, R149). -/
def fireSwath (bead : Nat) (action : List Byte) (s : State) : State :=
  if u8 action 0 = 0 then stageSet (u8 action 1) 0 bead s else stageSwath (u8 action 1) none 0 bead s

/-- What an occurrence does as it fires, by type (R149, R159). -/
def fireAction (bead : Nat) (b : BeadRec) (s : State) : State :=
  match b.type with
  | 1 => firePin b.action s
  | 2 => fireValve bead b.cls b.action s
  | 3 => fireCfp bead b.cls { cycle := s.cycle, angle := b.angle } b.action (endMove (u8 b.action 0) (u16 b.action 2) s)
  | 4 => takeSample (u16 b.action 0) s
  | 5 => publishBead (u16 b.action 0) (u16 b.action 2) (u8 b.action 4) s
  | 6 => ownStrobe raise (u8 b.action 0) 3 0 s
  | _ => fireSwath bead b.action s

/-- An occurrence has fired: it is marked, counted, spent, and its cost is kept for the forecasts (R152, R204). -/
def noteFired (o : Occ) (s : State) : State :=
  let b := o.bead_
  let mark := fun (x : Occ) => if x.waits && x.bead == o.bead && x.home == o.home then { x with state := 2, firedAngle := s.angle } else x
  let cost : Cost := { rod := s.cycle, phase := b.phase, power := b.power, heat := b.heat, fired := some s.angle, bead := o.bead }
  spend o { s with
    abacus := { s.abacus with current := s.abacus.current.map mark, fired := s.abacus.fired + 1 }
    reck := { s.reck with costs := s.reck.costs ++ [cost] } }

/-- The occurrence fires now; outside its tolerance it is late, and counts against R24 (R159, R171). -/
def fireOcc (o : Occ) (s : State) : State :=
  let b := o.bead_
  let s1 := fireAction o.bead b (noteFired o s)
  if s.angle ≤ b.angle + fireTolerance b.type ∧ b.angle ≤ s.angle + fireTolerance b.type then s1
  else beadLate o.bead { cycle := s.cycle, angle := b.angle } s1

/-- BEAD_FIRE: the occurrence of a bead in the current rod list fires at an angle, in the order of R160; while COUNT_VALID is clear, only periodic beads fire (R155). -/
def execBeadFire (bead actual : Nat) (s : State) : Host.Outcome State Fault Refusal :=
  match s.abacus.current.find? fun o => o.bead == bead && o.state == 0 with
  | none => .next s
  | some o =>
    let before := s.abacus.current.any fun x => x.state == 0 && x.bead_.angle == o.bead_.angle && decide (fireRank x < fireRank o)
    let s1 := s.atAngle (max s.angle (min 65535 actual))
    if s.abacus.running = false ∨ before = true then .next s
    else if o.bead_.select ≠ 0 ∧ s.phase.countValid = false then .next (skipOccs (fun x => x.bead == o.bead && x.home == o.home) 4 s1)
    else .next (fireOcc o s1)

end Sys2Proof.Machine
end

