-- ==== Sys2Proof/Machine/Ring.lean ====
section
/-! DEFINITION. Chapter 11: the switch of the ring and host ports, HSR, VLANs, phase-timed gates, PTP, and the RING commands; and the cycle mark's sending (R131). -/

namespace Sys2Proof.Machine

/-! ## Gates (R354 to R357) -/

/-- The default gate list (R356): end angle and open mask of each entry. -/
def defaultGates (c : Cfg) : List (Nat × Nat) :=
  [(7680, 0xFF), (9216, 0x80), (cutAngle c - 3072, 0xFF), (cutAngle c, 0xC0), (0, 0xFF)]

/-- A port's gate list: its record's in force, else the default (R356, R357). -/
def gateList (c : Cfg) (p : Nat) : List (Nat × Nat) :=
  match c.value 0x8902 p with
  | none => defaultGates c
  | some v => (List.range (u8 v 0)).map fun i => (u16 v (4 + 4 * i), u8 v (6 + 4 * i))

/-- The lists are in force: the boot ROM has applied the configuration of this start, the first rod has started, and the mode is not fallow or test (R354, R367); the boot sequence is one step, so boot ROM mode is ahead of it. -/
def gatesTimed (s : State) : Bool := s.phase.started && sendsOwn s

/-- An end angle of 0 stands for 65,536 (R354). -/
def gateEnd (e : Nat × Nat) : Nat := if e.1 = 0 then 65536 else e.1

/-- The entry of a list that is in force. -/
def gateEntry (s : State) (p : Nat) : Nat × Nat := (gateList s.cfg p).getD (s.port p).gate (0, 0xFF)

/-- The gate of a class is open on a port. -/
def egressOpen (s : State) (p cls : Nat) : Bool := !gatesTimed s || bit (gateEntry s p).2 cls

/-- Turn units through which a class stays open over the entries from the present one; the second list is the next turn of the list. -/
def openSpan (cls from_ : Nat) : List (Nat × Nat) → Nat
  | [] => 0
  | e :: es => if bit e.2 cls then (gateEnd e - from_) + openSpan cls (gateEnd e % 65536) es else 0

/-- The turn units for which a class stays open on a port from now, up to one rod beyond this one. -/
def openFor (s : State) (p cls : Nat) : Nat :=
  let l := gateList s.cfg p
  openSpan cls s.angle (l.drop (s.port p).gate ++ l)

/-- A frame fits its gate: with preamble and gap it ends at 10 Gbit/s before the gate closes (R355). -/
def gateFits (s : State) (p cls length : Nat) : Bool :=
  !gatesTimed s || decide ((length + 20) * 8 * 65536 * s.freq ≤ openFor s p cls * 10 ^ 16)

/-- GATE_TRANSITION: a port's list passes to its next entry at its end angle; the last entry ends at angle 0 with the rod (R354, R369). -/
def execGateTransition (port : Nat) (s : State) : Host.Outcome State Fault Refusal :=
  let x := s.port port
  let e := gateEntry s port
  if gatesTimed s ∧ e.1 ≠ 0 ∧ x.gate + 1 < (gateList s.cfg port).length then
    .next ((s.atAngle (max s.angle e.1)).setPort port { x with gate := x.gate + 1 })
  else .next s

/-- At angle 0 every list restarts (R354). -/
def gatesBoundary (s : State) : State :=
  (List.range 3).foldl (fun s p => s.setPort p { s.port p with gate := 0 }) s

/-! ## Egress (R343, R345, R351, R353) -/

/-- The port is on: a standalone chip's ring ports are off (R368). -/
def portOn (s : State) (p : Nat) : Bool := p == 2 || !s.cfg.standalone

/-- A class or a higher one waits on a port. -/
def waitingAtLeast (x : Port) (cls : Nat) : Bool := (List.range 8).any fun k => decide (cls ≤ k) && !(fget [] x.queues k).isEmpty

/-- A frame leaves a port cut-through: nothing of an equal or higher class waits, the gate is open and the frame fits it; a host-port frame counts as 1,536 bytes (R343). -/
def cutsThrough (s : State) (fromHost : Bool) (p cls length : Nat) : Bool :=
  (s.port p).link && !waitingAtLeast (s.port p) cls && egressOpen s p cls && gateFits s p cls (if fromHost then 1536 else length)

/-- A forwarded frame leaves cut-through, or is stored (R343). -/
def forward (fromHost : Bool) (p cls : Nat) (f : EthFrame) (s : State) : State :=
  if cutsThrough s fromHost p cls f.length then (s.setPort p { s.port p with sent := some f }).countPort p 1 else enqueueFrame raise p cls f s

/-- The highest class of a port whose gate is open and whose head fits, with its queue (R353). -/
def nextClass (s : State) (p : Nat) : Option (Nat × EthFrame × List EthFrame) :=
  (List.range 8).reverse.findSome? fun k =>
    match fget [] (s.port p).queues k with
    | [] => none
    | f :: q => if egressOpen s p k && gateFits s p k f.length then some (k, f, q) else none

/-- A cycle mark of this chip's own carries its angle at egress (R131): bytes 15 and 16 after the subtype's place. -/
def stampEgress (angle : Nat) (f : EthFrame) : EthFrame :=
  if f.src = ownMac ∧ f.etherType = 0x88B5 ∧ u8 f.body 0 = 1 then { f with body := f.body.take 15 ++ be 2 angle ++ f.body.drop 17 } else f

/-- FRAME_TRANSMIT (R131, R353). -/
def execFrameTransmit (port : Nat) (s : State) : Host.Outcome State Fault Refusal :=
  if (s.port port).link ∧ portOn s port = true then
    match nextClass s port with
    | none => .next s
    | some (k, f, q) =>
      .next ((s.setPort port { s.port port with
        queues := fput [] (s.port port).queues k q, sent := some (stampEgress s.angle f) }).countPort port 1)
  else .next s

/-! ## Links (R338, R349) -/

/-- RING_OPEN is set, once (R349). -/
def openRing (port cause : Nat) (s : State) : State :=
  if s.ring.opened then s
  else raise 0x0902 [port, cause] { s with ring := { s.ring with opened := true, openedTicks := s.clock.ticksRun } }

/-- RING_OPEN clears (R349). -/
def closeRing (s : State) : State :=
  if s.ring.opened then raise 0x0903 [s.msSince s.ring.openedTicks] { s with ring := { s.ring with opened := false } } else s

/-- LINK_UP (R338). -/
def execLinkUp (port : Nat) (s : State) : Host.Outcome State Fault Refusal :=
  let x := s.port port
  if x.link = false ∧ portOn s port = true then .next (raise 0x0901 [port, 1, 1] (s.setPort port { x with link := true, lowPower := false }))
  else .next s

/-- LINK_DOWN (R338, R349, R369). -/
def execLinkDown (port cause : Nat) (s : State) : Host.Outcome State Fault Refusal :=
  let x := s.port port
  if x.link then
    let s1 := raise 0x0901 [port, 0, cause] ((s.setPort port { x with link := false }).countPort port 18)
    .next (if port < 2 then openRing port 1 s1 else s1)
  else .next s

/-- SERDES_IDLE (R338). -/
def execSerdesIdle (port : Nat) (s : State) : Host.Outcome State Fault Refusal :=
  if (s.port port).link then .next s else .next (s.setPort port { s.port port with lowPower := true })

/-- SERDES_WAKE (R338). -/
def execSerdesWake (port : Nat) (s : State) : Host.Outcome State Fault Refusal :=
  .next (s.setPort port { s.port port with lowPower := false })

/-! ## PTP (R358 to R361) -/

/-- The ordinary clock runs (R358, R367). -/
def ptpOn (s : State) : Bool := s.cfg.ringFlag 4 && sendsOwn s

/-- Rank of a clock in the default best-master comparison, least best: priority1, quality, priority2, identity (R358). -/
def ptpRank (p1 quality p2 uid : Nat) : Nat := ((p1 * 2 ^ 32 + quality) * 256 + p2) * 2 ^ 64 + uid

/-- Clock quality of a free-running clock, IEEE 1588's default for the attributes the spec does not give (PRESUMED, log 29). -/
abbrev ownQuality : Nat := 0xF8FEFFFF

/-- This chip's rank: none for a slave-only clock (R358). -/
def ownRank (s : State) : Option Nat :=
  if s.phase.master then some (ptpRank 64 ownQuality 128 ownUid)
  else if s.cfg.eligible then some (ptpRank 200 ownQuality 128 ownUid)
  else none

/-- A foreign master's Announce is held: the last came within three announce intervals (PRESUMED, log 29). -/
def foreignMaster (s : State) : Bool :=
  let p := s.ring.ptp
  decide (p.grandmaster ≠ 0) && decide (p.grandmaster ≠ ownUid) && decide (s.msSince p.heardTicks < 3000)

/-- The PTP state and grandmaster that the best master selection gives (R358, R372). -/
def ptpChoice (s : State) : Nat × Nat :=
  let p := s.ring.ptp
  if ptpOn s = false then (0, 0)
  else if foreignMaster s && (match ownRank s with
      | none => true
      | some r => decide (p.rank < r)) then (if p.state = 3 then 3 else 2, p.grandmaster)
  else if (ownRank s).isSome && (p.state == 4 || foreignMaster s || decide (3000 ≤ s.msSince p.heardTicks)) then (4, ownUid)
  else (1, 0)

/-- Enter a PTP state (R359, R371): a grandmaster holds PTP_SYNC set, and a clock that is not a slave in synchronism has it clear. -/
def setPtp (st gm : Nat) (s : State) : State :=
  let p := s.ring.ptp
  let p1 := if p.state = 0 then { p with heardTicks := s.clock.ticksRun } else p
  let s1 := { s with ring := { s.ring with ptp := { p1 with state := st, grandmaster := gm, sync := decide (3 ≤ st) } } }
  if p.state = st then s1 else raise 0x0905 [p.state, st, low32 gm, gm / 4294967296] s1

/-- Run the best master selection. -/
def settlePtp (s : State) : State :=
  let c := ptpChoice s
  if c.1 = s.ring.ptp.state ∧ c.2 = s.ring.ptp.grandmaster then s else setPtp c.1 c.2 s

/-- An Announce of the profile's domain: the better of it and the master held stands (R358; its layout is that of IEEE 1588, log 29). -/
def hearAnnounce (f : EthFrame) (s : State) : State :=
  let b := f.body
  if ptpOn s = false ∨ f.etherType ≠ 0x88F7 ∨ u8 b 0 % 16 ≠ 11 ∨ u8 b 4 ≠ u8 s.cfg.ring 7 ∨ f.vlan.map Prod.fst ≠ some s.cfg.siteVid then s
  else
    let gm := n64 b 53
    let rank := ptpRank (u8 b 47) (n32 b 48) (u8 b 52) gm
    let p := s.ring.ptp
    if gm = ownUid then s
    else if p.grandmaster = gm ∨ foreignMaster s = false ∨ rank < p.rank then
      let st := if p.state = 4 ∨ p.grandmaster = gm then p.state else min p.state 2
      settlePtp { s with ring := { s.ring with ptp := { p with
        grandmaster := gm, rank := rank, heardTicks := s.clock.ticksRun, state := st
        inside := if p.grandmaster = gm then p.inside else 0
        beyond := if p.grandmaster = gm then p.beyond else 0
        sync := p.sync && (p.state == 4 || p.grandmaster == gm) } } }
    else s

/-- PTP_SYNC_RECEIVED: the offset of a Sync, and PTP_SYNC after 16 inside or 4 beyond ±1 µs (R359, R360). -/
def execPtpSyncReceived (offsetNs : Int) (pathDelayNs : Nat) (dPtp : Int) (s : State) : Host.Outcome State Fault Refusal :=
  let p := s.ring.ptp
  if p.state = 2 ∨ p.state = 3 then
    let good := decide (offsetNs.natAbs ≤ 1000)
    let inside := if good then p.inside + 1 else 0
    let beyond := if good then 0 else p.beyond + 1
    let sync := if good then p.sync || decide (16 ≤ inside) else p.sync && decide (beyond < 4)
    let p1 := { p with
      inside := inside, beyond := beyond, silent := 0, seen := true, offset := offsetNs, dPtp := dPtp
      pathDelay := if sync then pathDelayNs else p.pathDelay
      pathKnown := p.pathKnown || sync }
    .next (setPtp (if sync then 3 else 2) p.grandmaster { s with ring := { s.ring with ptp := p1 } })
  else .next s

/-- PTP_SYNC_TIMEOUT: eight rods without a Sync clear PTP_SYNC (R359). -/
def execPtpSyncTimeout (s : State) : Host.Outcome State Fault Refusal :=
  let p := s.ring.ptp
  if p.state = 3 ∧ p.silent ≥ 8 then
    .next (setPtp 2 p.grandmaster { s with ring := { s.ring with ptp := { p with inside := 0 } } })
  else .next s

/-- At each boundary a slave counts the rod that brought no Sync, and the selection runs again (R359, R372). -/
def ptpBoundary (s : State) : State :=
  let p := s.ring.ptp
  let slave := p.state == 2 || p.state == 3
  let missed := slave && !p.seen
  settlePtp { s with ring := { s.ring with ptp := { p with
    seen := false, silent := if missed then p.silent + 1 else 0, missed := if missed then p.missed + 1 else p.missed } } }

/-- The header of a PTP message: type, length, sequence and log interval (IEEE 1588, log 29). -/
def ptpHeader (c : Cfg) (type length seq interval : Nat) : List Byte :=
  [BitVec.ofNat 8 type, 2] ++ be 2 length ++ le 1 (u8 c.ring 7) ++ zeros 1 ++ be 2 (if type = 0 then 0x0200 else 0) ++ zeros 12
    ++ be 8 ownUid ++ be 2 1 ++ be 2 seq ++ le 1 (if type = 0 then 0 else if type = 8 then 2 else 5) ++ le 1 interval

/-- A PTP message on site_vid, both ring ports, and the host port where its VID leaves there (R351, R358). -/
def sendPtp (body : List Byte) (s : State) : State :=
  let f : EthFrame :=
    { dst := 0x011B19000000, src := ownMac, vlan := some (s.cfg.siteVid, 7), hsr := none, etherType := 0x88F7,
      body := body, length := max 64 (28 + body.length) }
  sendHost raise 7 f (sendRing raise 7 f s)

/-- ANNOUNCE_SEND (R358). -/
def execAnnounceSend (s : State) : Host.Outcome State Fault Refusal :=
  let s0 := settlePtp s
  let p := s0.ring.ptp
  if p.state = 4 then
    let p1 := if s0.phase.master then 64 else 200
    let body := ptpHeader s0.cfg 11 64 p.announceSeq 0 ++ zeros 13 ++ le 1 p1 ++ be 4 ownQuality ++ le 1 128 ++ be 8 ownUid ++ zeros 2 ++ le 1 0xA0
    .next (sendPtp body { s0 with ring := { s0.ring with ptp := { p with announceSeq := (p.announceSeq + 1) % 65536 } } })
  else .next s0

/-- PDELAY_SEND: a peer delay request, link-local and without an HSR tag, and the delay it measures (R358); it is a frame of the chip's own, sent in the modes that send them (R367). -/
def execPdelaySend (port delayNs : Nat) (s : State) : Host.Outcome State Fault Refusal :=
  if (s.port port).link ∧ sendsOwn s = true then
    let p := s.ring.ptp
    let f : EthFrame :=
      { dst := 0x0180C200000E, src := ownMac, vlan := none, hsr := none, etherType := 0x88F7,
        body := ptpHeader s.cfg 2 54 p.delaySeq 0 ++ zeros 20, length := 72 }
    let s1 := { s with ring := { s.ring with ptp := { p with delaySeq := (p.delaySeq + 1) % 65536 } } }
    .next (enqueueFrame raise port 7 f (s1.setPort port { s1.port port with peerDelay := delayNs }))
  else .next s

/-! ## Supervision (R346, R349) -/

/-- SUPERVISION_SEND: on both ring ports, with a RedBox TLV for each proxy node (R346; the layout is that of IEC 62439-3, log 30). -/
def execSupervisionSend (s : State) : Host.Outcome State Fault Refusal :=
  if sendsOwn s = true ∧ s.cfg.standalone = false then
    let body := be 2 1 ++ be 2 s.ring.seq ++ [23, 6] ++ be 6 ownMac ++ s.ring.proxies.flatMap (fun x => [30, 6] ++ be 6 x.mac) ++ zeros 2
    let f : EthFrame :=
      { dst := 0x01154E000100, src := ownMac, vlan := some (s.cfg.siteVid, 6), hsr := none, etherType := 0x88FB,
        body := body, length := max 64 (28 + body.length) }
    .next (sendRing raise 6 f { s with ring := { s.ring with supSeq := some s.ring.seq, supEast := false, supWest := false } })
  else .next s

/-- SUPERVISION_RETURN_TIMEOUT: the copy sent on a port has not returned on the other; two frames running set RING_OPEN (R349). -/
def execSupervisionReturnTimeout (port : Nat) (s : State) : Host.Outcome State Fault Refusal :=
  let r := s.ring
  match r.supSeq with
  | none => .next s
  | some q =>
    let back := if port = 0 then r.supWest else r.supEast
    if port ≥ 2 ∨ back = true ∨ fget 0 r.supCounted port = q + 1 then .next s
    else
      let n := fget 0 r.supMissed port + 1
      let s1 := { s with ring := { r with supMissed := fput 0 r.supMissed port n, supCounted := fput 0 r.supCounted port (q + 1) } }
      .next (if n ≥ 2 then openRing port 2 s1 else s1)

/-- This chip's supervision frame returns on a port; once both copies have, RING_OPEN clears (R349). -/
def supReturned (p : Nat) (f : EthFrame) (s : State) : State :=
  let r := s.ring
  if f.etherType = 0x88FB ∧ r.supSeq.isSome ∧ f.hsr = r.supSeq then
    let east := r.supEast || p == 0
    let west := r.supWest || p == 1
    let s1 := { s with ring := { r with supEast := east, supWest := west, supMissed := fput 0 r.supMissed (1 - p) 0 } }
    if east && west then closeRing s1 else s1
  else s

/-- An entry of the node table is made or renewed, in ascending order, at most 512 (R346). -/
def noteNode (p mac : Nat) (proxy : Bool) (s : State) : State :=
  let ns := s.ring.nodes
  let low := ns.filter fun n => decide (n.mac < mac)
  let high := ns.filter fun n => decide (mac < n.mac)
  match ns.find? fun n => n.mac == mac with
  | some n =>
    { s with ring := { s.ring with nodes := low ++ [{ n with
        east := n.east || p == 0, west := n.west || p == 1, proxy := proxy, seen := s.clock.ticksRun }] ++ high } }
  | none =>
    if ns.length < 512 then
      { s with ring := { s.ring with nodes := low ++ [{
          mac := mac, east := p == 0, west := p == 1, proxy := proxy, seen := s.clock.ticksRun }] ++ high } }
    else s

/-- The TLVs of a supervision frame: the sender's, and its proxies' (R346, log 30). -/
def noteTlvs (p : Nat) : Nat → List Byte → State → State
  | 0, _, s => s
  | n + 1, b, s =>
    if u8 b 1 ≠ 6 then s
    else if u8 b 0 = 23 then noteTlvs p n (b.drop 8) (noteNode p (n48 b 2) false s)
    else if u8 b 0 = 30 then noteTlvs p n (b.drop 8) (noteNode p (n48 b 2) true s)
    else s

/-- Another node's supervision frame. -/
def hearSupervision (p : Nat) (f : EthFrame) (s : State) : State :=
  if f.etherType = 0x88FB then noteTlvs p 32 (f.body.drop 4) s else s

/-- NODE_ENTRY_EXPIRY: 60 s after the entry's last supervision frame (R346). -/
def execNodeEntryExpiry (mac : Nat) (s : State) : Host.Outcome State Fault Refusal :=
  .next { s with ring := { s.ring with nodes := s.ring.nodes.filter fun n => n.mac != mac || decide (s.msSince n.seen < 60000) } }

/-- PROXY_ENTRY_EXPIRY (R350). -/
def execProxyEntryExpiry (mac : Nat) (s : State) : Host.Outcome State Fault Refusal :=
  .next { s with ring := { s.ring with proxies := s.ring.proxies.filter fun n => n.mac != mac } }

/-! ## The duplicate table (R347) -/

/-- The entry of a source and sequence number. -/
def findDuplicate (r : Ring) (src seq : Nat) : Option Duplicate := r.duplicates.find? fun d => d.src == src && d.seq == seq

/-- A frame is a duplicate when its entry shows it already received on either ring port (R347). -/
def Duplicate.known (d : Duplicate) : Bool := d.rxEast || d.rxWest

/-- Entries made more than 16,384 tu ago are freed; one expires after the tick on which a second copy still meets it (R347, R369). -/
def freeDuplicates (s : State) : State :=
  { s with ring := { s.ring with duplicates := s.ring.duplicates.filter fun d => decide (s.phase.now.tu ≤ d.made.tu + 16384) } }

/-- Store an entry: freed once received on both ring ports; a full table loses its oldest (R347). -/
def keepDuplicate (d : Duplicate) (s : State) : State :=
  let r := s.ring
  if r.duplicates.any fun x => x.src == d.src && x.seq == d.seq then
    if d.rxEast && d.rxWest then { s with ring := { r with duplicates := r.duplicates.filter fun x => !(x.src == d.src && x.seq == d.seq) } }
    else { s with ring := { r with duplicates := r.duplicates.map fun x => if x.src = d.src ∧ x.seq = d.seq then d else x } }
  else if r.duplicates.length < 4096 then { s with ring := { r with duplicates := r.duplicates ++ [d] } }
  else
    let due := match r.evictRaised with
      | none => true
      | some c => decide (s.cycle ≥ c + 256)
    let s1 := { s with ring := { r with
      duplicates := r.duplicates.drop 1 ++ [d], replacements := r.replacements + 1
      evictRaised := if due then some s.cycle else r.evictRaised } }
    if due then raise 0x0904 [r.replacements + 1, 4096, low32 s.cycle] s1 else s1

/-- DUPLICATE_ENTRY_EXPIRY (R347, R369). -/
def execDuplicateEntryExpiry (src seq : Nat) (s : State) : Host.Outcome State Fault Refusal :=
  .next { s with ring := { s.ring with
    duplicates := s.ring.duplicates.filter fun x => !(x.src == src && x.seq == seq && decide (x.made.tu + 16384 < s.phase.now.tu)) } }

/-! ## Delivery to the chip (R341, R364, R365, R367) -/

/-- Bytes of a body of the chip's own receivers, after the subtype byte (R131, R222, R327, R328, R363). -/
def bodyLength (b : List Byte) : Option Nat :=
  match u8 b 0 with
  | 1 => some 32
  | 2 => if 1 ≤ n16 b 3 ∧ n16 b 3 ≤ 90 then some (8 + 16 * n16 b 3) else none
  | 3 => some 24
  | 4 => some 40
  | 8 => some 20
  | _ => none

/-- A frame's length matches its body: shorter than 64 bytes it is padded (R362, R364). -/
def lengthMatches (f : EthFrame) : Bool :=
  match bodyLength f.body with
  | none => false
  | some n => decide (n + 1 ≤ f.body.length) && f.length == max 64 (19 + n + (if f.vlan.isSome then 4 else 0) + (if f.hsr.isSome then 6 else 0))

/-- The chip's own receivers take a frame, mailbox frames under R365 and the rest under R364; cycle marks in every mode (R131). -/
def receiverTakes (s : State) (d : Delivered) : Bool :=
  if u8 d.frame.body 0 = 5 then mailboxFrameAllowed s d && (frameMessage d.frame).isSome
  else decide (d.port < 2) && (sendsOwn s || u8 d.frame.body 0 == 1) && (d.frame.vlan.map Prod.fst == some s.cfg.siteVid) && lengthMatches d.frame

/-- The group addresses the chip receives on (R341). -/
def listedGroup (dst : Nat) : Bool :=
  [0x03504C440001, 0x03504C440002, 0x03504C440003, 0x011B19000000, 0x0180C200000E, 0x01154E000100].contains dst

/-- A frame reaches the chip's own receivers, or is refused and counted (R364); one whose receiver rests in this mode is neither (R367, log 29). -/
def deliver (p : Nat) (f : EthFrame) (s : State) : State :=
  if f.etherType = 0x88B5 then
    if receiverTakes s ⟨p, f⟩ then { s with ring := { s.ring with delivered := s.ring.delivered ++ [⟨p, f⟩] } }
    else if sendsOwn s || u8 f.body 0 == 1 || u8 f.body 0 == 5 then s.countPort p 8
    else s
  else hearAnnounce f s

/-! ## Forwarding (R342) -/

/-- First byte odd: a group address. -/
def isGroup (dst : Nat) : Bool := bit (dst / 2 ^ 40) 0

/-- Addresses never forwarded (R342). -/
def linkLocal (dst : Nat) : Bool := dst / 16 == 0x0180C200000

/-- The host port exchanges frames other than mailboxes' (R367). -/
def hostServed (s : State) : Bool := sendsOwn s

/-- A copy to the host port, without its HSR tag, on the VIDs of R351. -/
def toHost (f : EthFrame) (s : State) : State :=
  match f.vlan with
  | none => s
  | some (vid, pcp) =>
    let bare := { f with hsr := none, length := max 64 (f.length - (if f.hsr.isSome then 6 else 0)) }
    match hostServed s, hostEgress s vid with
    | true, some true => forward false 2 pcp bare s
    | true, some false => forward false 2 pcp { bare with vlan := none, length := max 64 (bare.length - 4) } s
    | _, _ => s

/-- A frame of another node on a ring port, with a sequence number (R342, R347). -/
def ringFrame (p vid pcp seq : Nat) (f : EthFrame) (s : State) : State :=
  let q := 1 - p
  let s := freeDuplicates s
  let d := (findDuplicate s.ring f.src seq).getD { src := f.src, seq := seq, made := s.phase.now }
  let first := !d.known
  let toMe := f.dst == ownMac
  let proxy := isProxy s.ring f.dst
  let sent := if q = 0 then d.txEast else d.txWest
  let onward := !toMe && !proxy && !sent
  let d1 := { d with
    rxEast := d.rxEast || p == 0, rxWest := d.rxWest || p == 1
    txEast := d.txEast || (onward && q == 0), txWest := d.txWest || (onward && q == 1) }
  let s1 := keepDuplicate d1 (if first then s else s.countPort p 6)
  let g := { f with vlan := some (vid, pcp) }
  let s2 := if first && (toMe || (isGroup f.dst && listedGroup f.dst)) then deliver p g s1 else s1
  let s3 := hearSupervision p f s2
  let s4 := if onward then forward false q pcp g s3 else s3
  if first && (proxy || isGroup f.dst) then toHost g s4 else s4

/-- A frame on a ring port (R342, R351): without an 802.1Q or an HSR tag it is discarded; this chip's own is removed and counted, and so is the return of a proxy node's, uncounted (log 30). -/
def fromRing (p : Nat) (f : EthFrame) (s : State) : State :=
  if linkLocal f.dst then s
  else if f.src = ownMac then supReturned p f (s.countPort p 5)
  else if isProxy s.ring f.src then s
  else
    match f.vlan, f.hsr with
    | some (vid, pcp), some seq => ringFrame p vid pcp seq f s
    | _, _ => s

/-- The VID and priority of a host-port frame: an untagged one takes the host's; a tagged one needs a VLAN entry with HOST set; 6 and 7 become 5 (R351); in fallow and test modes any VID (R367). -/
def hostVlan (s : State) (f : EthFrame) : Option (Nat × Nat) :=
  match f.vlan with
  | none => some (u16 s.cfg.ring 4, u8 s.cfg.ring 6)
  | some (vid, pcp) =>
    let pcp1 := if pcp ≥ 6 then 5 else pcp
    if s.inFallow then some (vid, pcp1)
    else
      match s.cfg.vlan vid with
      | none => none
      | some x => if bit x 0 then some (vid, pcp1) else none

/-- A source on the host port enters the proxy table, or is refused as a seventeenth: the number its frame takes, and the state (R346, R350). -/
def learnProxy (mac vid : Nat) (s : State) : Option Nat × State :=
  let r := s.ring
  match r.proxies.find? fun x => x.mac == mac with
  | some x =>
    (some x.seq, { s with ring := { r with proxies := r.proxies.map fun y =>
      if y.mac = mac then { y with vid := vid, frames := y.frames + 1, seq := (y.seq + 1) % 65536 } else y } })
  | none =>
    if r.proxies.length < 16 then
      (some 0, { s with ring := { r with proxies := r.proxies ++ [{ mac := mac, vid := vid, frames := 1, seq := 1 }] } })
    else if r.proxyRefused.any fun x => x.1 == mac then
      (none, { s with ring := { r with proxyRefused := r.proxyRefused.map fun x => if x.1 = mac then (x.1, x.2 + 1) else x } })
    else (none, raise 0x0907 [low32 mac, mac / 4294967296, 1] { s with ring := { r with proxyRefused := r.proxyRefused ++ [(mac, 1)] } })

/-- A frame poses as a chip's: subtypes 0x01 to 0x04 and 0x08 on the host port (R364). -/
def posesAsChip (f : EthFrame) : Bool :=
  let k := u8 f.body 0
  f.etherType == 0x88B5 && ((decide (1 ≤ k) && decide (k ≤ 4)) || k == 8)

/-- A frame of the host port (R342, R350, R351, R364, R367). -/
def fromHost (f : EthFrame) (s : State) : State :=
  if linkLocal f.dst then s
  else if s.hif.mode = .bootRom then s
  else if s.inFallow then
    match hostVlan s f with
    | none => s
    | some t =>
      if f.dst = ownMac ∧ f.etherType = 0x88B5 ∧ u8 f.body 0 = 5 then
        match learnProxy f.src t.1 s with
        | (none, s1) => s1
        | (some _, s1) => deliver 2 { f with vlan := some t } s1
      else s
  else
    match hostVlan s f with
    | none => s
    | some (vid, pcp) =>
      if posesAsChip f then s.countPort 2 8
      else
        match learnProxy f.src vid s with
        | (none, s1) => s1
        | (some seq, s1) =>
          let g := { f with vlan := some (vid, pcp) }
          if f.dst = ownMac then deliver 2 g s1
          else if isProxy s1.ring f.dst then s1
          else
            let s2 := if listedGroup f.dst then deliver 2 g s1 else s1
            if s2.cfg.standalone then s2
            else
              let h := { g with hsr := some seq, length := f.length + 6 + (if f.vlan.isSome then 0 else 4) }
              forward true 1 pcp h (forward true 0 pcp h s2)

/-- A frame with a bad FCS is discarded and counted; a copy that was leaving cut-through is stomped, counted on both ports (R339, R344). -/
def badFcs (p : Nat) (f : EthFrame) (s : State) : State :=
  let pcp := (f.vlan.map Prod.snd).getD 0
  let ports := if p = 2 then [0, 1] else [1 - p]
  let transit := f.dst != ownMac && f.src != ownMac && !isProxy s.ring f.dst && !linkLocal f.dst && f.etherType != 0x8808 && (p == 2 || (f.vlan.isSome && f.hsr.isSome))
  let cut := ports.filter fun q => transit && (p != 2 || (hostServed s && !s.cfg.standalone)) && cutsThrough s (p == 2) q pcp f.length
  let s1 := s.countPort p 2
  if cut.isEmpty then s1 else cut.foldl (fun s q => (s.countPort q 4).countPort q 1) (s1.countPort p 4)

/-- FRAME_RECEIVED: R339, R337, then R342. -/
def execFrameReceived (port : Nat) (frame : EthFrame) (fcsOk : Bool) (s : State) : Host.Outcome State Fault Refusal :=
  if (s.port port).link = false ∨ portOn s port = false then .next s
  else if frame.length < 64 ∨ 1536 < frame.length then .next (s.countPort port 3)
  else if fcsOk = false then .next (badFcs port frame s)
  else
    let s1 := s.countPort port 0
    if frame.etherType = 0x8808 then .next (s1.countPort port 7)
    else if port = 2 then .next (fromHost frame s1)
    else .next (fromRing port frame s1)

/-! ## Cycle marks sent (R131), and the cross-check (R361) -/

/-- The master this chip follows is LOCKED, by its last mark. -/
def masterLocked (s : State) : Bool :=
  match s.phase.follows with
  | none => false
  | some u => s.heardNow.any fun h => h.uid == u && h.state == 1

/-- PTP_DISAGREE (R361): set after 16 consecutive rods beyond 64 tu, cleared after 16 within; a rod without the comparison breaks the run. -/
def crossCheck (s : State) : State :=
  let p := s.ring.ptp
  if s.phase.state = .locked ∧ masterLocked s = true ∧ p.state = 3 then
    if (s.phase.lastD - p.dPtp).natAbs > 64 then
      let n := p.apart + 1
      let s1 := { s with ring := { s.ring with ptp := { p with apart := n, near := 0, disagree := p.disagree || decide (16 ≤ n) } } }
      if 16 ≤ n ∧ p.disagree = false then
        raise 0x0906 [(s.phase.lastD % 4294967296).toNat, (p.dPtp % 4294967296).toNat, low32 (s.phase.follows.getD 0)] s1
      else s1
    else
      let n := p.near + 1
      { s with ring := { s.ring with ptp := { p with near := n, apart := 0, disagree := p.disagree && decide (n < 16) } } }
  else { s with ring := { s.ring with ptp := { p with apart := 0, near := 0 } } }

/-- The body of this chip's cycle mark (R131). -/
def markBody (s : State) : List Byte :=
  be 8 ownUid ++ be 6 (s.cycle % 2 ^ 48) ++ be 2 s.angle ++ le 1 s.phase.state.code
    ++ le 1 (flag s.phase.countValid 0 + flag s.phase.master 1 + flag s.phase.refSub.isSome 2)
    ++ be 4 s.freq ++ be 8 (s.phase.follows.getD 0) ++ zeros 2

/-- A grandmaster's Sync with its Follow_Up (R358); the time it carries is timing, and stands as zeros. -/
def sendSync (s : State) : State :=
  let p := s.ring.ptp
  if p.state = 4 then
    let s1 := { s with ring := { s.ring with ptp := { p with syncSeq := (p.syncSeq + 1) % 65536 } } }
    sendPtp (ptpHeader s.cfg 8 44 p.syncSeq 0 ++ zeros 10) (sendPtp (ptpHeader s.cfg 0 44 p.syncSeq 0 ++ zeros 10) s1)
  else s

/-- CYCLE_MARK_SEND: at angle 8,192 an eligible chip sends its mark, a grandmaster its Sync, and the cross-check runs (R131, R358, R361). -/
def execCycleMarkSend (s : State) : Host.Outcome State Fault Refusal :=
  let s1 := s.atAngle 8192
  if sendsOwn s1 ∧ s1.phase.started then
    let s2 := if s1.cfg.eligible then sendGroup raise 0x03504C440001 7 0x01 (markBody s1) s1 else s1
    .next (crossCheck (sendSync s2))
  else .next s

/-! ## RING commands (R372, R373) -/

def execRingInfo (mbx : Nat) (s : State) : Host.Outcome State Fault Refusal :=
  .next (serveRead 0x0901 1 (· == 0) (fun _ s =>
    ok (be 6 ownMac ++ le 1 (u8 s.cfg.ring 0) ++ le 1 (ptpFlags s.ring) ++ (List.range 3).flatMap (fun p => le 1 (flag (s.port p).link 0)) ++ zeros 1
      ++ le 2 s.cfg.siteVid ++ le 2 s.ring.nodes.length ++ le 1 s.ring.proxies.length ++ le 1 s.mail.requesters.length
      ++ le 2 s.ring.duplicates.length)) mbx s)

/-- The port of a request, with its reserved bytes zero. -/
def portArgument (c : Call) : Option Nat := if u8 c.pay 0 ≤ 2 ∧ allZero (c.pay.drop 1) then some (u8 c.pay 0) else none

def execRingPort (mbx : Nat) (s : State) : Host.Outcome State Fault Refusal :=
  .next (serveRead 0x0902 1 (· == 4) (fun c s =>
    match portArgument c with
    | none => bad 6
    | some p => ok (countBytes (s.port p).counters 19)) mbx s)

def clearPort (s : State) (p : Nat) : State := s.setPort p { s.port p with counters := [] }

def execRingPortClear (mbx : Nat) (s : State) : Host.Outcome State Fault Refusal :=
  .next (serve 0x0903 2 (· == 4) (fun c s =>
    match portArgument c with
    | some p => (clearPort s p, ok [])
    | none => if u8 c.pay 0 = 0xFF ∧ allZero (c.pay.drop 1) then ((List.range 3).foldl clearPort s, ok []) else (s, bad 6)) mbx s)

def nodeBytes (s : State) (n : RingNode) : List Byte :=
  be 6 n.mac ++ le 1 (flag n.east 0 + flag n.west 1 + flag n.proxy 2) ++ le 1 (sat 255 (s.msSince n.seen / 1000))

def execRingNodes (mbx : Nat) (s : State) : Host.Outcome State Fault Refusal :=
  .next (serveRead 0x0904 1 (· == 4) (fun c s =>
    let first := u16 c.pay 0
    let n := u8 c.pay 2
    if n = 0 ∨ n > 120 ∨ u8 c.pay 3 ≠ 0 ∨ first + n > 512 then bad 6
    else
      let ns := (s.ring.nodes.drop first).take n
      ok (le 2 s.ring.nodes.length ++ le 1 ns.length ++ zeros 1 ++ ns.flatMap (nodeBytes s))) mbx s)

def execRingProxy (mbx : Nat) (s : State) : Host.Outcome State Fault Refusal :=
  .next (serveRead 0x0905 1 (· == 0) (fun _ s =>
    ok (le 1 s.ring.proxies.length ++ zeros 3 ++ s.ring.proxies.flatMap fun x => be 6 x.mac ++ le 2 x.vid ++ le 4 (count32 x.frames))) mbx s)

def execRingPtp (mbx : Nat) (s : State) : Host.Outcome State Fault Refusal :=
  .next (serveRead 0x0906 1 (· == 0) (fun _ s =>
    let p := s.ring.ptp
    ok (le 1 p.state ++ le 1 (ptpFlags s.ring) ++ zeros 2 ++ le 8 p.grandmaster ++ leInt 4 p.offset ++ le 4 (low32 p.pathDelay)
      ++ leInt 2 s.phase.lastD ++ leInt 2 p.dPtp ++ (List.range 3).flatMap (fun i => le 4 (low32 (s.port i).peerDelay)) ++ le 4 (count32 p.missed))) mbx s)

def execRingGates (mbx : Nat) (s : State) : Host.Outcome State Fault Refusal :=
  .next (serveRead 0x0907 1 (· == 4) (fun c s =>
    match portArgument c with
    | none => bad 6
    | some p =>
      let l := gateList s.cfg p
      ok (le 1 (flag (s.cfg.value 0x8902 p).isSome 0) ++ le 1 (s.port p).gate ++ le 1 l.length ++ zeros 1
        ++ l.flatMap fun e => le 2 e.1 ++ le 1 e.2 ++ zeros 1)) mbx s)

/-- Mailboxes bound to a requester, bit m for mailbox m. -/
def boundMask (s : State) (mac : Nat) : Nat :=
  ((List.range 15).map fun m => flag (decide (fget none s.mail.bound m = some (.net mac))) m).sum

def execRingRequesters (mbx : Nat) (s : State) : Host.Outcome State Fault Refusal :=
  .next (serveRead 0x0908 1 (· == 0) (fun _ s =>
    ok (le 1 s.mail.requesters.length ++ zeros 3 ++ s.mail.requesters.flatMap fun r =>
      be 6 r.mac ++ le 1 r.port ++ le 1 (s.mail.sessions.filter fun x => x.who == .net r.mac).length ++ le 2 (boundMask s r.mac))) mbx s)

end Sys2Proof.Machine
end

