-- ==== Sys2Proof/Machine/Panels.lean ====
section
/-! DEFINITION. Chapter 18: the key matrix, rectangles, encoders, the key queue, panel bindings, reset combinations, and the PANEL commands. -/

namespace Sys2Proof.Machine

/-! ## Records (R564 to R566) -/

/-- The panel record, or its defaults without one (R557, R564). -/
def Cfg.panel (c : Cfg) : List Byte := (c.baseValue 0x1001 0).getD ([0, 5] ++ le 2 1000 ++ [4, 4, 4, 4] ++ zeros 4)

def State.setPanel (s : State) (x : Panel) : State := { s with panel := x }
def countPanel (i : Nat) (s : State) : State := s.setPanel { s.panel with stats := bump s.panel.stats i 1 }

/-! ## The key queue (R558) -/

/-- An entry that adds a step to the newest one (R558). -/
def mergesStep (e newest : KeyEntry) : Bool :=
  (e.kind == 4 || e.kind == 5) && newest.kind == e.kind && newest.index == e.index && decide (newest.count < 65535)

/-- An entry enters the queue, merges into the newest, or is lost (R558). -/
def pushKey (kind index count : Nat) (s : State) : State :=
  let p := s.panel
  let e : KeyEntry := { kind := kind, index := index, count := count, cycle := low32 s.cycle, angle := s.angle }
  if p.queue.getLast?.any (mergesStep e) then
    s.setPanel { p with queue := p.queue.dropLast ++ (p.queue.getLast?.map fun x => { x with count := x.count + 1 }).toList }
  else if p.queue.length < 64 then s.setPanel { p with queue := p.queue ++ [e] }
  else
    let s1 := countPanel 2 (s.setPanel { p with overflow := true, lost := p.lost + 1, episode := true })
    if p.episode then s1 else raise 0x1003 [p.lost + 1, low32 s.cycle] s1

/-! ## Bindings and reset combinations (R559 to R561) -/

/-- A key's edge meets its binding: 1 press, 2 release, 3 LONG (R559). -/
def meetBindings (key edge : Nat) (s : State) : State :=
  (s.cfg.recordsOf 0x1002).foldl (fun s r =>
    if u8 r.value 0 = key ∧ u8 r.value 1 = edge then
      (if u8 r.value 2 = 0 then stageSet (u8 r.value 3) 2 key s else stageSwath (u8 r.value 3) none 2 key s)
    else s) s

def Cfg.reset (c : Cfg) (i : Nat) : List Byte := (c.baseValue 0x1003 i).getD []

/-- A set of keys as key bits. -/
def keyMask (ks : List Nat) : BitVec 64 := ks.foldl (fun m k => m ||| BitVec.twoPow 64 k) 0

def combination (s : State) (i : Nat) : Combination := fget {} s.panel.combinations i
def setCombination (s : State) (i : Nat) (x : Combination) : State := s.setPanel { s.panel with combinations := fput {} s.panel.combinations i x }

/-- A combination with a record is met: exactly its keys are down, and no scan has been ambiguous since the last of them went down (R560). -/
def combinationMet (s : State) (i : Nat) : Bool :=
  let ks := resetKeys (s.cfg.reset i)
  !ks.isEmpty && s.panel.debounced == keyMask ks && (combination s i).clean && !s.panel.ambiguous

/-- RESET_COMBINATION: a combination has stayed met for its hold time (R560, R561). -/
def execResetCombination (record : Nat) (s : State) : Host.Outcome State Fault Refusal :=
  let v := s.cfg.reset record
  let c := combination s record
  if combinationMet s record = false ∨ c.acted = true ∨ s.hif.mode = .bootRom ∨ s.hif.mode = .fallow then .next s
  else
    let keys := u8 v 2 + 256 * u8 v 3 + 65536 * u8 v 4
    let s1 := setCombination s record { c with acted := true }
    let s2 := s1.setPanel { s1.panel with request := some (max (u8 v 0) (s1.panel.request.getD 0)) }
    .next (raise 0x1002 [u8 v 0, record, keys, u8 v 5] (countPanel 4 s2))

/-! ## The matrix (R551 to R554) -/

/-- Rows and columns of the rectangles of a raw set (R553). -/
def rectangles (raw : BitVec 64) : BitVec 8 × BitVec 8 :=
  let row := fun (r : Nat) => (raw >>> (8 * r)).setWidth 8
  (List.range 8).foldl (fun acc a =>
    (List.range 8).foldl (fun acc b =>
      let shared := row a &&& row b
      if a < b ∧ ((List.range 8).filter fun c => shared.getLsbD c).length ≥ 2 then
        (acc.1 ||| BitVec.twoPow 8 a ||| BitVec.twoPow 8 b, acc.2 ||| shared)
      else acc) acc) (0, 0)

/-- Keys in frozen rows and columns. -/
def frozenKeys (rows cols : BitVec 8) : BitVec 64 :=
  keyMask ((List.range 64).filter fun k => rows.getLsbD (k / 8) || cols.getLsbD (k % 8))

/-- A key's debounced state changes: its entry, its edge and the combinations that name it (R552, R558 to R560). -/
def keyEdge (k : Nat) (down : Bool) (s : State) : State :=
  let p := s.panel
  let bitK := BitVec.twoPow 64 k
  let s1 := s.setPanel { p with debounced := if down then p.debounced ||| bitK else p.debounced &&& ~~~bitK, long := p.long &&& ~~~bitK }
  let s2 := if down then countPanel 0 s1 else s1
  let s3 := [0, 1].foldl (fun s i =>
    let ks := resetKeys (s.cfg.reset i)
    if ks.contains k = false then s
    else
      let c := combination s i
      setCombination s i
        { clean := if down then !s.panel.ambiguous else c.clean, acted := c.acted && s.panel.debounced &&& keyMask ks != 0 }) s2
  meetBindings k (if down then 1 else 2) (pushKey (if down then 1 else 2) k 0 s3)

/-- One key's part in a scan (R552). -/
def debounceKey (raw : BitVec 64) (s : State) (k : Nat) : State :=
  let p := s.panel
  let now := raw.getLsbD k
  if now = p.debounced.getLsbD k then s.setPanel { p with counts := fput 0 p.counts k 0 }
  else
    let n := fget 0 p.counts k + 1
    if u8 s.cfg.panel 1 ≤ n then keyEdge k now (s.setPanel { p with counts := fput 0 p.counts k 0 })
    else s.setPanel { p with counts := fput 0 p.counts k n }

/-- An ambiguous scan: the keys of its rectangles keep the state of the last unambiguous scan, without edges (R553). -/
def ambiguousScan (rows cols : BitVec 8) (s : State) : State :=
  let p := s.panel
  let frozen := frozenKeys rows cols
  let s1 := s.setPanel
    { p with ambiguous := true, frozenRows := rows, frozenCols := cols, ambiguousTicks := if p.ambiguous then p.ambiguousTicks else s.clock.ticksRun,
             debounced := (p.debounced &&& ~~~frozen) ||| (p.settled &&& frozen), counts := p.counts.filter fun e => !frozen.getLsbD e.1,
             combinations := fmapv {} (fun x : Combination => { x with clean := false }) p.combinations }
  if p.ambiguous then s1
  else raise 0x1001 [1, rows.toNat, cols.toNat, 0] (pushKey 6 0 0 (countPanel 1 s1))

/-- The first unambiguous scan of an episode ends it (R553). -/
def endAmbiguity (s : State) : State :=
  let p := s.panel
  if p.ambiguous then
    raise 0x1001 [0, p.frozenRows.toNat, p.frozenCols.toNat, s.msSince p.ambiguousTicks]
      (pushKey 7 0 0 (s.setPanel { p with ambiguous := false, frozenRows := 0, frozenCols := 0 }))
  else s

/-- KEY_SCAN: one scan and its raw set; keys debounce in ascending order (R551 to R554, R557). -/
def execKeyScan (raw : BitVec 64) (s : State) : Host.Outcome State Fault Refusal :=
  let p := s.panel
  let quiet := if raw = 0 then p.quiet + 1 else 0
  let scanning := decide (s.hif.mode = .running) && ((p.scanning && decide (quiet < 16)) || raw != 0)
  let s1 := s.setPanel { p with raw := raw, quiet := quiet, scanning := scanning }
  let r := if bit (u8 s.cfg.panel 0) 0 then (0, 0) else rectangles raw
  let s2 := if r.1 = 0 then endAmbiguity s1 else ambiguousScan r.1 r.2 s1
  let frozen := frozenKeys r.1 r.2
  let s3 := ((List.range 64).filter fun k => !frozen.getLsbD k).foldl (debounceKey raw) s2
  .next (if r.1 = 0 then s3.setPanel { s3.panel with settled := s3.panel.debounced } else s3)

/-- LONG_PRESS: a key has stayed down for long_ms (R558, R559). -/
def execLongPress (key : Nat) (s : State) : Host.Outcome State Fault Refusal :=
  let p := s.panel
  let frozen := p.ambiguous && (p.frozenRows.getLsbD (key / 8) || p.frozenCols.getLsbD (key % 8))
  if 64 ≤ key ∨ p.debounced.getLsbD key = false ∨ p.long.getLsbD key = true ∨ frozen = true then .next s
  else .next (meetBindings key 3 (pushKey 3 key 0 (s.setPanel { p with long := p.long ||| BitVec.twoPow 64 key })))

/-! ## Encoders (R555, R556) -/

def encoderOf (s : State) (e : Nat) : PanelEncoder := fget {} s.panel.encoders e
def setEncoder (s : State) (e : Nat) (x : PanelEncoder) : State := s.setPanel { s.panel with encoders := fput {} s.panel.encoders e x }

/-- The place of levels of A and B in the order of counting up. -/
def encoderPlace (l : BitVec 2) : Nat :=
  match l.getLsbD 0, l.getLsbD 1 with
  | false, false => 0
  | true, false => 1
  | true, true => 2
  | false, true => 3

/-- A step, where the count has moved detent counts from the rest point (R556). -/
def stepEncoder (e : Nat) (s : State) : State :=
  let x := encoderOf s e
  let d := u8 s.cfg.panel (4 + e)
  if d = 0 ∨ (x.count - x.rest).natAbs < d then s
  else
    let up := decide (x.rest < x.count)
    pushKey (if up then 4 else 5) e 1 (setEncoder s e { x with rest := x.count, position := if up then x.position + 1 else x.position - 1 })

/-- Accepted levels of an encoder's lines: a count, or an illegal change; then the step it may complete (R555, R556). -/
def acceptLines (e : Nat) (lines : BitVec 2) (s : State) : State :=
  let x := encoderOf s e
  if 4 ≤ e ∨ u8 s.cfg.panel (4 + e) = 0 then s
  else
    match (encoderPlace lines + 4 - encoderPlace x.lines) % 4 with
    | 0 => s
    | 1 => stepEncoder e (setEncoder s e { x with lines := lines, count := x.count + 1 })
    | 2 => countPanel 3 (setEncoder s e { x with lines := lines })
    | _ => stepEncoder e (setEncoder s e { x with lines := lines, count := x.count - 1 })

/-- ENCODER_STEP: the transition that completes a step (R556). -/
def execEncoderStep (encoder : Nat) (lines : BitVec 2) (s : State) : Host.Outcome State Fault Refusal := .next (acceptLines encoder lines s)

/-- ENCODER_TRANSITION (R555). -/
def execEncoderTransition (encoder : Nat) (lines : BitVec 2) (s : State) : Host.Outcome State Fault Refusal := .next (acceptLines encoder lines s)

/-! ## PANEL commands (R570, R571) -/

def encoderPositions (p : Panel) : List Byte := (List.range 4).flatMap fun e => le 2 (fget {} p.encoders e : PanelEncoder).position.toNat

def execPanelStatus (mbx : Nat) (s : State) : Host.Outcome State Fault Refusal :=
  .next (serveRead 0x1001 1 (· == 0) (fun _ s =>
    ok (le 2 (panelFlags s) ++ le 1 s.panel.queue.length ++ zeros 1 ++ encoderPositions s.panel)) mbx s)

def execPanelKeys (mbx : Nat) (s : State) : Host.Outcome State Fault Refusal :=
  .next (serveRead 0x1002 1 (· == 0) (fun _ s =>
    let p := s.panel
    ok (le 8 p.debounced.toNat ++ le 8 p.raw.toNat ++ le 1 p.frozenRows.toNat ++ le 1 p.frozenCols.toNat ++ zeros 2)) mbx s)

def KeyEntry.bytes (e : KeyEntry) : List Byte := le 1 e.kind ++ le 1 e.index ++ le 2 e.count ++ le 4 e.cycle ++ le 2 e.angle ++ zeros 2

def execPanelEvents (mbx : Nat) (s : State) : Host.Outcome State Fault Refusal :=
  .next (serve 0x1003 2 (· == 4) (fun c s =>
    let n := u8 c.pay 0
    let clear := u8 c.pay 1
    if n = 0 ∨ n > 64 ∨ clear > 1 ∨ u16 c.pay 2 ≠ 0 then (s, bad 6)
    else
      let p := s.panel
      let out := p.queue.take n
      let left := p.queue.drop n
      let room := decide (left.length < 64)
      (s.setPanel { p with queue := left, overflow := p.overflow && clear == 0, episode := p.episode && !room, lost := if room then 0 else p.lost },
        ok (le 1 out.length ++ le 1 left.length ++ zeros 2 ++ out.flatMap KeyEntry.bytes))) mbx s)

def execPanelDisplay (mbx : Nat) (s : State) : Host.Outcome State Fault Refusal :=
  .next (serve 0x1004 2 (· == 8) (fun c s =>
    if s.hif.mode = .test then (s.setPanel { s.panel with digits := c.pay }, ok []) else (s, bad 8)) mbx s)

/-- PANEL.STATS: key presses, ambiguous episodes, entries lost, illegal encoder transitions, resets requested. -/
def panelStatBytes (p : Panel) : List Byte := countBytes p.stats 5

def execPanelStats (mbx : Nat) (s : State) : Host.Outcome State Fault Refusal :=
  .next (serveRead 0x1005 1 (· == 0) (fun _ s => ok (panelStatBytes s.panel)) mbx s)

def execPanelStatsClear (mbx : Nat) (s : State) : Host.Outcome State Fault Refusal :=
  .next (serve 0x1006 2 (· == 0) (fun _ s => (s.setPanel { s.panel with stats := [] }, ok [])) mbx s)

end Sys2Proof.Machine
end

