-- ==== Sys2Proof/Machine/Security.lean ====
section
/-! DEFINITION. Chapter 23: tokens and sessions, the key store and claiming, rollback counters, identity and attestation. -/

namespace Sys2Proof.Machine

/-! ## The key store (R674, R675) -/

def KeySlot.tokenBytes (k : KeySlot) : List Byte := if k.set then le 1 1 ++ le 1 k.ceiling ++ fit 32 k.key else zeros 34
def KeySlot.configBytes (k : KeySlot) : List Byte := if k.set then le 1 1 ++ fit 32 k.key else zeros 33
def State.tokenSlot (s : State) (i : Nat) : KeySlot := fget {} s.sec.tokens i
def State.configSlot (s : State) (i : Nat) : KeySlot := fget {} s.sec.configs i
def State.setTokenSlot (s : State) (i : Nat) (k : KeySlot) : State := { s with sec := { s.sec with tokens := fput {} s.sec.tokens i k } }
def State.setConfigSlot (s : State) (i : Nat) (k : KeySlot) : State := { s with sec := { s.sec with configs := fput {} s.sec.configs i k } }

/-- SHA-256 of the fields in slot order, 338 bytes (R674). -/
def keyDigest (s : State) : List Byte :=
  sha256 ((List.range 8).flatMap (fun i => (s.tokenSlot i).tokenBytes) ++ (List.range 2).flatMap fun i => (s.configSlot i).configBytes)

/-- First four bytes of a key's SHA-256 (R684). -/
def keyMark (k : List Byte) : Nat := u32 (sha256 k) 0

/-- JTAG debug access to the supervisor cores is available: until the first claim (R673). -/
def debugAccess (s : State) : Bool := !s.sec.debugClosed

/-- The claim: token key 0 with ceiling owner, and configuration key 0 (R675); debug access closes for good (R673). -/
def claimPart (serial : Nat) (issuer config : List Byte) (s : State) : State :=
  let s1 := (s.setTokenSlot 0 { set := true, ceiling := 3, key := issuer }).setConfigSlot 0 { set := true, key := config }
  raise 0x1601 [serial, keyMark issuer, keyMark config] { s1 with sec := { s1.sec with claimed := true, debugClosed := true } }

/-! ## Rollback counters (R668, R670) -/

/-- At a confirmed start the firmware and key revocation counters become the greater of themselves and the running firmware's floors (R670). -/
def raiseCounters (s : State) : State :=
  match s.start.running with
  | none => s
  | some f =>
    let fw := max s.sec.fwCounter f.floor
    let key := max s.sec.keyCounter f.keyFloor
    noteRaise 3 s.sec.keyCounter key (noteRaise 1 s.sec.fwCounter fw { s with sec := { s.sec with fwCounter := fw, keyCounter := key } })

/-! ## Tokens and sessions (R64 to R68, R677 to R681) -/

/-- Requester kind: 1 quad-SPI, 2 ring port, 3 host port (R678). -/
def requesterKind (r : Request) : Nat :=
  match r.who with
  | .qspi => 1
  | .net _ => if r.port = 2 then 3 else 2

/-- A new handle: the first from the chip's candidate on that is not zero and is none of the last 256 issued (R64). -/
def newHandle (s : State) : Nat :=
  let c := (Config.handle s.free).toNat
  (((List.range 258).map fun k => (c + k) % 65536).find? fun h => h != 0 && !s.mail.handles.contains h).getD 1

/-- The challenge of a requester that was issued less than 60 s ago and has this nonce (R678 step 4). -/
def challengeMet (s : State) (who : Requester) (nonce : List Byte) : Bool :=
  s.mail.challenges.any fun c => decide (c.who = who) && c.nonce == nonce && decide (s.msSince c.issued < 60000)

/-- The key a token is verified against (R678 step 6). -/
def tokenKey (s : State) (t : List Byte) : List Byte := if bit (u8 t 7) 0 then slice t 60 32 else (s.tokenSlot (u8 t 8)).key

/-- The checks of a token, in order: the first status that applies, or 0 (R678). -/
def checkToken (s : State) (r : Request) (t : List Byte) : Nat :=
  let role := u8 t 6
  let claim := bit (u8 t 7) 0
  let slot := s.tokenSlot (u8 t 8)
  if u32 t 0 ≠ 0x4B544743 ∨ u16 t 4 ≠ 1 ∨ u8 t 7 / 2 ≠ 0 ∨ allZero (slice t 9 3) = false ∨ u32 t 124 ≠ 0 ∨ role = 0 ∨ 3 < role then 6
  else if u64 t 12 ≠ ownUid then 5
  else if claim = false ∧ (s.sec.claimed = false ∨ slot.set = false ∨ 7 < u8 t 8 ∨ slot.ceiling < role) then 5
  else if claim = true ∧ (s.sec.claimed = true ∨ role ≠ 3 ∨ r.who ≠ .qspi ∨ allZero (slice t 60 32) = true ∨ allZero (slice t 92 32) = true) then 5
  else if challengeMet s r.who (slice t 20 16) = false then 0x0E
  else if u32 t 36 ≤ s.clock.seconds ∧ s.clock.osf = false then 0x0E
  else if Config.verifies 4 (tokenKey s t) (t.take 128) (t.drop 128) = false then 0x0C
  else if 16 ≤ s.mail.sessions.length ∨ (role = 3 ∧ s.mail.sessions.any fun x => x.role == 3) then 2
  else 0

/-- Open the session of an accepted token (R64, R66, R681). -/
def openSession (r : Request) (t : List Byte) (s : State) : State × Answer :=
  let notAfter := u32 t 36
  let h := newHandle s
  let alive := decide (s.clock.seconds < notAfter)
  let x : Session :=
    { handle := h, role := u8 t 6, who := r.who, port := r.port, vid := r.vid, notAfter := if alive then some notAfter else none,
      osfOpened := s.clock.osf, openedTicks := s.clock.ticksRun, serial := u32 t 40 }
  let hour := low32 (s.clock.seconds + 3600)
  let closes := if s.clock.osf then (if alive then min notAfter hour else hour) else notAfter
  let s1 := { s with
    free := s.free + 1
    mail := { s.mail with sessions := s.mail.sessions ++ [x], handles := (h :: s.mail.handles).take 256 } }
  let s2 := if bit (u8 t 7) 0 then claimPart (u32 t 40) (slice t 60 32) (slice t 92 32) s1 else s1
  (s2, ok (le 2 h ++ le 1 x.role ++ zeros 1 ++ le 4 closes))

/-- The final part: the nonce is spent, and the token opens its session or is refused (R678). -/
def finishToken (r : Request) (t : List Byte) (s : State) : State × Answer :=
  let st := checkToken s r t
  let s1 := { s with mail := { s.mail with challenges := s.mail.challenges.filter fun c => decide (c.who ≠ r.who) } }
  if st = 0 then openSession r t s1 else (raise 0x0103 [requesterKind r, st] s1, bad st)

/-- Free a requester's token buffer (R680). -/
def freeToken (who : Requester) (s : State) : State :=
  { s with mail := { s.mail with tokens := s.mail.tokens.filter fun b => decide (b.who ≠ who) } }

/-- A token part: part p carries bytes 1,000 × p onward, in order from part 0 (R680, R686). -/
def takePart (r : Request) (p : Nat) (data : List Byte) (s : State) : State × Answer :=
  let held := s.mail.tokens.find? fun b => decide (b.who = r.who)
  let s1 := freeToken r.who s
  if p = 0 ∧ held = none ∧ 4 ≤ s.mail.tokens.length then (s, bad 2)
  else
    let b : TokenBuffer := if p = 0 then { who := r.who } else held.getD { who := r.who, parts := 99 }
    if b.parts ≠ p ∨ (p < 17 ∧ data.length ≠ 1000) ∨ (p = 17 ∧ data.length ≠ 216) then (s1, bad 6)
    else if p = 17 then finishToken r (b.data ++ data) s1
    else
      let all := b.data ++ data
      ({ s1 with mail := { s1.mail with tokens := s1.mail.tokens ++ [{ b with parts := p + 1, data := all }] } }, ok (le 2 all.length ++ zeros 2))

/-- SEC.SESSION_OPEN: op 0 issues a challenge, op 1 takes a part (R679, R685, R686). -/
def sessionOpen (c : Call) (s : State) : State × Answer :=
  let op := u8 c.pay 0
  let p := u8 c.pay 1
  if 1 < op ∨ 17 < p ∨ u16 c.pay 2 ≠ 0 then (s, bad 6)
  else if op = 1 then takePart c.req p (c.pay.drop 4) s
  else
    let nonce := be 16 (Config.entropy s.free).toNat
    let others := s.mail.challenges.filter fun x => decide (x.who ≠ c.req.who)
    ({ s with
        free := s.free + 1
        mail := { s.mail with challenges := others ++ [{ who := c.req.who, nonce := nonce, issued := s.clock.ticksRun }] } }, ok nonce)

/-- Length of a SEC.SESSION_OPEN request (R685). -/
def openLength (n : Nat) : Bool := decide (4 ≤ n) && decide (n ≤ 1004)

def execSecSessionOpen (mbx : Nat) (s : State) : Host.Outcome State Fault Refusal := .next (serve 0x1601 0 openLength sessionOpen mbx s)

def execSecSessionClose (mbx : Nat) (s : State) : Host.Outcome State Fault Refusal :=
  .next (serve 0x1602 1 (· == 0) (fun c s => (closeSession c.session 0 s, ok [])) mbx s)

/-! ## Identity and attestation (R671, R672, R682) -/

/-- The device certificate (R672): body and 128s signature, 7,920 bytes. -/
def certificate : List Byte :=
  le 4 0x54444743 ++ le 2 1 ++ [Config.certificateByte 6] ++ le 1 0xA2 ++ le 8 ownUid ++ identityKey
    ++ (List.range 4).map (fun i => Config.certificateByte (48 + i)) ++ zeros 12 ++ (List.range 7856).map fun i => Config.certificateByte (64 + i)

def execSecIdentity (mbx : Nat) (s : State) : Host.Outcome State Fault Refusal :=
  .next (serveRead 0x1603 0 (· == 0) (fun _ s => ok (le 8 ownUid ++ identityKey ++ le 1 (flag s.sec.claimed 0) ++ zeros 3 ++ le 4 7920)) mbx s)

/-- Last cause of R626, and 0xFF where there has been no attempt. -/
def lastCause (s : State) : Nat := (s.start.ledger.attempts.head?.map fun a => a.cause).getD 0xFF

/-- The 256-byte body of an attestation report, latched now (R682). -/
def attestBody (nonce : List Byte) (serial : Nat) (s : State) : List Byte :=
  let fw := s.start.running.getD {}
  let base := s.cfg.base.getD {}
  le 4 0x54414743 ++ le 2 1 ++ le 1 0xA2 ++ le 1 s.hif.mode.code ++ le 8 ownUid ++ identityKey ++ fit 32 nonce
    ++ le 4 s.clock.seconds ++ le 2 s.clock.fraction ++ le 2 (clockFlags s.clock true)
    ++ cycle64 s.cycle ++ le 2 s.angle ++ le 1 s.phase.state.code
    ++ le 1 (flag s.phase.countValid 0 + flag s.super.single 1 + flag s.sec.claimed 2)
    ++ le 1 fw.slot ++ le 1 s.cfg.active ++ zeros 2 ++ le 4 fw.version ++ fit 32 fw.hash ++ le 4 Config.fallowVersion.toNat
    ++ le 4 base.version ++ fit 32 base.hash ++ s.cfg.stack.flatMap (fun l => le 1 (l.getD 0xFF))
    ++ le 4 s.sec.fwCounter ++ le 4 s.sec.cfgCounter ++ le 4 s.sec.keyCounter ++ keyDigest s
    ++ le 1 s.start.ledger.count ++ le 1 (lastCause s) ++ zeros 2 ++ le 4 (chipDays s) ++ le 4 (low32 (yearCount s s.year).outMs)
    ++ le 4 serial ++ zeros 12

def execSecAttest (mbx : Nat) (s : State) : Host.Outcome State Fault Refusal :=
  .next (serve 0x1604 1 (· == 32) (fun c s =>
    if s.sec.attesting.isSome then (s, bad 2)
    else
      let r := defer c 0 s
      if r.2.status = 1 then
        let n := low32 (s.sec.serial + 1)
        let a : Attesting := { job := s.mail.jobs, session := c.session, serial := n, body := attestBody c.pay n s }
        ({ r.1 with sec := { r.1.sec with serial := n, attesting := some a } }, r.2)
      else r) mbx s)

/-- ATTESTATION_COMPLETE: the report is signed and kept, and the completion carries its hash (R682, R685). -/
def execAttestationComplete (s : State) : Host.Outcome State Fault Refusal :=
  match s.sec.attesting with
  | none => .next s
  | some a =>
    let report := a.body ++ (List.range 17088).map (Config.signatureByte a.body)
    .next (complete a.job (ok (le 4 a.serial ++ zeros 4 ++ sha256 report))
      { s with sec := { s.sec with attesting := none, report := some { session := a.session, bytes := report } } })

/-- A part of an object (R686). -/
def objectPart (p : Nat) (bytes : List Byte) : Answer :=
  if bytes.length ≤ 1000 * p then bad 6
  else
    let d := slice bytes (1000 * p) 1000
    ok (le 4 bytes.length ++ le 1 p ++ zeros 1 ++ le 2 d.length ++ d)

def execSecObjectRead (mbx : Nat) (s : State) : Host.Outcome State Fault Refusal :=
  .next (serveRead 0x1605 0 (· == 4) (fun c s =>
    let o := u8 c.pay 0
    let p := u8 c.pay 1
    if o = 0 ∨ 2 < o ∨ u16 c.pay 2 ≠ 0 then bad 6
    else if o = 1 then objectPart p certificate
    else
      match s.sec.report with
      | none => bad 8
      | some r => if r.session = c.session then objectPart p r.bytes else bad 5) mbx s)

def execSecKeys (mbx : Nat) (s : State) : Host.Outcome State Fault Refusal :=
  .next (serveRead 0x1606 1 (· == 0) (fun _ s =>
    ok (le 1 (flag s.sec.claimed 0) ++ zeros 3 ++ (List.range 8).flatMap (fun i => (s.tokenSlot i).tokenBytes)
      ++ (List.range 2).flatMap (fun i =>
        let k := s.configSlot i
        if k.set then le 1 1 ++ zeros 1 ++ fit 32 k.key else zeros 34) ++ keyDigest s)) mbx s)

/-- The slot is the last token slot with ceiling owner (R686). -/
def lastOwnerKey (s : State) (i : Nat) : Bool :=
  (s.tokenSlot i).set && (s.tokenSlot i).ceiling == 3
    && !((List.range 8).any fun j => j != i && (s.tokenSlot j).set && (s.tokenSlot j).ceiling == 3)

def execSecKeySet (mbx : Nat) (s : State) : Host.Outcome State Fault Refusal :=
  .next (serve 0x1607 3 (· == 36) (fun c s =>
    let kind := u8 c.pay 0
    let slot := u8 c.pay 1
    let op := u8 c.pay 2
    let ceiling := u8 c.pay 3
    let key := c.pay.drop 4
    let named := s.cfg.base.any fun b => b.key == slot
    if kind = 0 ∨ 2 < kind ∨ 1 < op ∨ (kind = 1 ∧ 7 < slot) ∨ (kind = 2 ∧ 1 < slot)
        ∨ (kind = 1 ∧ op = 1 ∧ (ceiling = 0 ∨ 3 < ceiling)) ∨ (op = 1 ∧ allZero key) then (s, bad 6)
    else if kind = 1 ∧ lastOwnerKey s slot ∧ (op = 0 ∨ ceiling < 3) then (s, { status := 7, payload := conflictPayload 0xFFFF1600 0 0 0 0 0 })
    else if kind = 2 ∧ op = 0 ∧ named then (s, { status := 7, payload := conflictPayload 0xFFFF1601 0 0 0 0 0 })
    else
      let k : KeySlot := if op = 0 then {} else { set := true, ceiling := if kind = 1 then ceiling else 0, key := key }
      let s1 := if kind = 1 then s.setTokenSlot slot k else s.setConfigSlot slot k
      (raise 0x1602 [kind, slot, ceiling, c.session] s1, ok (keyDigest s1))) mbx s)

def execSecCounters (mbx : Nat) (s : State) : Host.Outcome State Fault Refusal :=
  .next (serveRead 0x1608 1 (· == 0) (fun _ s => ok (le 4 s.sec.fwCounter ++ le 4 s.sec.cfgCounter ++ le 4 s.sec.keyCounter ++ zeros 4)) mbx s)

/-- SEC.RELINQUISH: every key slot empty, the part unclaimed, every session closed (R676). -/
def execSecRelinquish (mbx : Nat) (s : State) : Host.Outcome State Fault Refusal :=
  .next (serve 0x1609 3 (· == 8) (fun c s =>
    if u64 c.pay 0 ≠ ownUid then (s, bad 6)
    else
      let serial := ((findSession s c.session).map fun x => x.serial).getD 0
      (raise 0x1603 [c.session, serial] (closeAll 6 { s with sec := { s.sec with tokens := [], configs := [], claimed := false } }), ok [])) mbx s)

end Sys2Proof.Machine
end

