-- ==== Sys2Proof/Machine/Sense.lean ====
section
/-! DEFINITION. Chapter 17: sensor conversions, mains metering, the rotation and replacement of modulators, and the SENSE commands. -/

namespace Sys2Proof.Machine

/-! ## Records (R542 to R544) -/

def Cfg.sense (c : Cfg) (n : Nat) : List Byte := (c.baseValue 0x0F01 n).getD (zeros 24)
def Cfg.excitation (c : Cfg) (k : Nat) : Nat := ((c.baseValue 0x0F02 k).map fun v => u8 v 0).getD 0
/-- The metering record; every input is disabled without one (R544). -/
def Cfg.meter (c : Cfg) : List Byte := (c.baseValue 0x0F03 0).getD (zeros 32)
def Cfg.vScale (c : Cfg) (p : Nat) : Word := BitVec.ofNat 32 (u32 c.meter (8 * p))
def Cfg.iScale (c : Cfg) (p : Nat) : Word := BitVec.ofNat 32 (u32 c.meter (8 * p + 4))
/-- The phase's ct_shift, in 1/16 tu (R531, R544). -/
def Cfg.ctShift (c : Cfg) (p : Nat) : Int := signed 16 (u16 c.meter (24 + 2 * p))
/-- Metering input 0 to 2 VSENSE, 3 to 5 ISENSE, of L1 to L3. -/
def Cfg.meterInput (c : Cfg) (k : Nat) : Bool := bit (u8 c.meter 30) k

def State.senseCh (s : State) (n : Nat) : SenseChannel := fget {} s.sense.channels n
def State.setSenseCh (s : State) (n : Nat) (x : SenseChannel) : State := { s with sense := { s.sense with channels := fput {} s.sense.channels n x } }
def State.meterP (s : State) (p : Nat) : MeterPhase := fget {} s.sense.phases p
def State.setMeterP (s : State) (p : Nat) (x : MeterPhase) : State := { s with sense := { s.sense with phases := fput {} s.sense.phases p x } }
def countSense (i n : Nat) (s : State) : State := { s with sense := { s.sense with stats := bump s.sense.stats i n } }

/-- Full scale of the 24-bit codes (R524). -/
abbrev fullCode : Nat := 8388607

/-- Sensor conversions run: from the first rod on, outside fallow mode (R540). -/
def converts (s : State) : Bool := s.phase.started && decide (s.hif.mode = .start ∨ s.hif.mode = .running)

/-! ## Modulators (R536 to R539) -/

/-- The modulator that serves a position. -/
def modulatorAt (s : State) (p : Nat) : Nat := (fget none s.sense.serving p).getD p

/-- The free spares, in ascending order (R536). -/
def freeModulators (s : State) : List Nat :=
  [30, 31].filter fun m => !s.sense.retired.contains m && !s.sense.serving.any fun e => e.2 == some m

/-- A position is enabled: its sensor channel, or its metering input. -/
def positionOn (s : State) (p : Nat) : Bool :=
  if p < 24 then u8 (s.cfg.sense p) 0 != 0 else p < 30 && s.cfg.meterInput (p - 24)

/-- The next enabled position after one, in order; itself again where it is the only one (R536). -/
def nextPosition (s : State) (p : Nat) : Nat := ((List.range 30).map fun k => (p + 1 + k) % 30).find? (positionOn s) |>.getD p

/-- The position the free spares shadow (R536, R539). -/
def shadowed (s : State) : Option Nat :=
  if freeModulators s = [] then none
  else
    match s.sense.swap with
    | some w => some w.position
    | none => if positionOn s s.sense.dwell.position then some s.sense.dwell.position else none

/-- Two codes agree within 0.01 % of full scale, 839 codes (R537). -/
def codesAgree (a b : Int) : Bool := decide ((a - b).natAbs ≤ 839)

/-- A conversion of the shadowed position, with the readings of the free spares in ascending order, enters the counts of the dwell (R537, R539). -/
def dwellAfter (d : Dwell) (own : Int) (spares : List Int) : Dwell :=
  match spares with
  | a :: b :: _ =>
    let odd := fun (x y z : Int) => !codesAgree x y && !codesAgree x z && codesAgree y z
    { d with conversions := d.conversions + 1, oddOwn := d.oddOwn + flag (odd own a b) 0, oddFirst := d.oddFirst + flag (odd a own b) 0,
             oddSecond := d.oddSecond + flag (odd b own a) 0 }
  | [a] => { d with conversions := d.conversions + 1, differ := d.differ + flag (!codesAgree own a) 0 }
  | [] => d

/-- A conversion at a position meets the spares that shadow it (R536 to R539). -/
def shadowConversion (p : Nat) (own : Int) (spares : List Int) (s : State) : State :=
  if shadowed s ≠ some p then s
  else
    match s.sense.swap with
    | some w => if p < 24 then { s with sense := { s.sense with swap := some { w with shadowed := w.shadowed + 1 } } } else s
    | none => { s with sense := { s.sense with dwell := dwellAfter s.sense.dwell own (spares.take (freeModulators s).length) } }

/-- A modulator's count is reported (R537, R539). -/
def suspectModulator (m p n : Nat) (s : State) : State := raise 0x0F05 [m, p, n] (countSense 4 1 s)

/-- A replacement begins, by the lowest-numbered free spare, which may have shadowed the position already (R538). -/
def beginSwap (p cause : Nat) (mailbox : Option Nat) (s : State) : State :=
  match freeModulators s, s.sense.swap with
  | m :: _, none =>
    let d := s.sense.dwell
    let n := if d.position = p then (if p < 24 then d.conversions else d.rods) else 0
    { s with sense := { s.sense with swap := some { position := p, cause := cause, spare := m, shadowed := n, mailbox := mailbox } } }
  | _, _ => s

/-- A dwell begins on a position. -/
def beginDwell (p : Nat) (again : Bool) (s : State) : State := { s with sense := { s.sense with dwell := { position := p, again := again } } }

/-- A spare is withdrawn (R537). -/
def withdrawModulator (m : Nat) (s : State) : State := writeLedger 4 5 m none { s with sense := { s.sense with retired := s.sense.retired ++ [m] } }

/-- More than 1 % of the conversions of a dwell (R537, R539). -/
def tooMany (odd conversions : Nat) : Bool := decide (conversions < 100 * odd)

/-- A spare's counts after a dwell: in two consecutive dwells it is withdrawn (R537). -/
def judgeSpare (m odd p : Nat) (s : State) : State :=
  let d := s.sense.dwell
  if tooMany odd d.conversions && decide (3 ≤ odd) then
    let n := fget 0 s.sense.spareCounts m + 1
    let s1 := suspectModulator m p n { s with sense := { s.sense with spareCounts := fput 0 s.sense.spareCounts m n } }
    if 2 ≤ n then withdrawModulator m s1 else s1
  else { s with sense := { s.sense with spareCounts := fput 0 s.sense.spareCounts m 0 } }

/-- DWELL_END: 256 rods of a dwell have passed (R536, R537, R539). -/
def execDwellEnd (s : State) : Host.Outcome State Fault Refusal :=
  let d := s.sense.dwell
  let p := d.position
  if shadowed s ≠ some p ∨ s.sense.swap.isSome ∨ d.rods < 256 then .next s
  else
    match freeModulators s with
    | a :: b :: _ =>
      let own := tooMany d.oddOwn d.conversions && decide (3 ≤ d.oddOwn)
      let s1 := if own then suspectModulator (modulatorAt s p) p (if d.again then 2 else 1) s else s
      let s2 := judgeSpare b d.oddSecond p (judgeSpare a d.oddFirst p s1)
      if own = true ∧ d.again = true then
        let s3 := if 24 ≤ p then s2.setMeterP ((p - 24) % 3) { s2.meterP ((p - 24) % 3) with failed := true } else s2
        .next (beginSwap p 1 none s3)
      else .next (beginDwell (if own then p else nextPosition s2 p) own s2)
    | [a] =>
      let s1 := if tooMany d.differ d.conversions then suspectModulator a p 1 (suspectModulator (modulatorAt s p) p 1 s) else s
      .next (beginDwell (nextPosition s1 p) false s1)
    | [] => .next s

/-- Ledger cause of a replacement (R658): the codes of R538 agree with it for suspect, wear and command. -/
def execModulatorReplacement (s : State) : Host.Outcome State Fault Refusal :=
  match s.sense.swap with
  | none => .next s
  | some w =>
    if w.shadowed < (if w.position < 24 then 3 else 1) then .next s
    else
      let old := modulatorAt s w.position
      let s1 := { s with sense := { s.sense with
        serving := fput none s.sense.serving w.position (some w.spare), retired := s.sense.retired ++ [old], swap := none,
        spareCounts := fput 0 s.sense.spareCounts w.spare 0 } }
      let s2 := raise 0x0F06 [w.position, old, w.spare, w.cause] (countSense 5 1 (writeLedger 4 w.cause old (some w.spare) s1))
      let s3 := beginDwell (nextPosition s2 w.position) false s2
      match w.mailbox with
      | none => .next s3
      | some m => .next (answerStarted m (ok (le 1 old ++ le 1 w.spare ++ zeros 2 ++ cycle64 s3.cycle)) s3)

/-! ## Sensor conversions (R524 to R529) -/

/-- The input voltage over the reference voltage: code / (full scale × 2^g) (R524). -/
def inputRatio (v : List Byte) (code : Int) : Exact := { num := code, den := fullCode, q := -(u8 v 4 : Nat) }

/-- n / d against the Callendar–Van Dusen ratio at t / 2^48 °C, with the coefficients of IEC 60751 (R527; log 36 PRESUMED). -/
def ratioBelow (n : Int) (d : Nat) (t : Int) : Bool :=
  let z : Int := (2 ^ 48 : Nat)
  let cold := if t < 0 then 4183 * (t - 100 * z) * t * t * t else 0
  decide (n * 10 ^ 15 * z ^ 4 < d * (10 ^ 15 * z ^ 4 + 39083 * 10 ^ 8 * t * z ^ 3 - 5775 * 10 ^ 5 * t * t * z ^ 2 - cold))

/-- Halving from `k` steps: the greatest t / 2^48 °C above `lo` whose ratio does not exceed n / d. -/
def temperatureFrom (n : Int) (d : Nat) : Nat → Int → Int
  | 0, lo => lo
  | k + 1, lo => if ratioBelow n d (lo + (2 ^ k : Nat)) then temperatureFrom n d k lo else temperatureFrom n d k (lo + (2 ^ k : Nat))

/-- The temperature of a resistance ratio, over −200 to 850 °C; none outside. -/
def rtdTemperature (n : Int) (d : Nat) : Option Exact :=
  let z : Int := (2 ^ 48 : Nat)
  if ratioBelow n d (-200 * z) || ratioBelow n d (850 * z) == false && decide (n * 10 ^ 9 ≠ d * (3904811250 : Int)) then none
  else some { num := temperatureFrom n d 59 (-200 * z), q := -48 }

/-- What a conversion gives: a cause, or its quantity before scale and offset, or none where the manual states no value. -/
inductive Quantity where
  | invalid (cause : Nat)
  | value (x : Exact)
  | unstated
deriving DecidableEq, Repr

/-- An RTD's conversion, with the reference channel's latest code (R527, R529). -/
def rtdQuantity (s : State) (v : List Byte) (code : Int) : Quantity :=
  let rv := s.cfg.sense (u8 v 6)
  let r := s.senseCh (u8 v 6)
  if r.state ≠ 1 then .invalid 6
  else
    let n := code * (u32 rv 8 * 2 ^ u8 rv 4 : Nat) * (if r.raw < 0 then -1 else 1)
    let d := r.raw.natAbs * 2 ^ u8 v 4 * u32 v 8
    if 4 * (d : Int) < n ∨ d = 0 then .invalid 2
    else if n * 100 < 15 * (d : Int) then .invalid 3
    else
      match rtdTemperature n d with
      | none => .unstated
      | some x => .value x

/-- A conversion's quantity; of several causes, the lowest code (R526, R529, log 36). -/
def conversionQuantity (s : State) (v : List Byte) (code : Int) : Quantity :=
  let kind := u8 v 1
  let source := u8 v 5
  if code.natAbs ≥ fullCode ∨ (u8 v 0 = 1 ∧ code * 200 < -(fullCode : Int)) then .invalid 1
  else
    let late := decide (kind ≥ 2) && s.sense.compliance.getLsbD source && s.cfg.excitation source != 0
    let own := if kind = 2 then rtdQuantity s v code else .unstated
    match own with
    | .invalid 2 => .invalid 2
    | .invalid 3 => .invalid 3
    | q =>
      if late then .invalid 4
      else if s.sense.refFault then .invalid 5
      else
        let x := inputRatio v code
        match kind with
        | 0 => .value (x.times s.sense.refMv 1000)
        | 1 => .value x
        | 2 => q
        | _ => if u32 v 8 = 0 then .unstated else .value (x.times s.sense.refMv (u32 v 8))

/-- scale × x + offset, rounded once (R526). -/
def scaledWord (v : List Byte) (x : Exact) : Word :=
  toWord ((x.mul (exact (BitVec.ofNat 32 (u32 v 12)))).add (exact (BitVec.ofNat 32 (u32 v 16))))

/-- A conversion is judged: an invalid one keeps the last valid value (R529). -/
def judgeConversion (n : Nat) (code : Int) (s : State) : State :=
  let v := s.cfg.sense n
  let c : SenseChannel := { s.senseCh n with awaits := false }
  let valid := fun (w : Word) (s : State) =>
    let s2 := s.setSenseCh n { c with raw := code, value := w, state := 1, cause := 0, ended := s.phase.now, invalids := 0 }
    if c.invalids ≠ 0 then raise 0x0F02 [n, c.invalids] s2 else s2
  match conversionQuantity s v code with
  | .invalid cause =>
    let s2 := countSense 1 1 (s.setSenseCh n { c with raw := code, state := 2, cause := cause, ended := s.phase.now, invalids := c.invalids + 1 })
    if c.invalids = 0 then raise 0x0F01 [n, cause, (code % (2 ^ 32 : Nat)).toNat] s2 else s2
  | .value x => valid (scaledWord v x) s
  | .unstated => let (w, s2) := s.takeWord; valid w s2

/-- An RTD whose reference channel has not yet converted at this tick: its resistance is the ratio of two conversions of one window (R527). -/
def awaitsReference (s : State) (n : Nat) : Bool :=
  let v := s.cfg.sense n
  u8 v 1 == 2 && u8 v 6 != n && decide ((s.senseCh (u8 v 6)).ended ≠ s.phase.now)

/-- A conversion is recorded, and with a reference channel's the RTDs of the same tick that waited for it (R526, R527, R529). -/
def recordConversion (n : Nat) (code : Int) (s : State) : State :=
  let s1 := countSense 0 1 s
  if awaitsReference s n then s1.setSenseCh n { s1.senseCh n with raw := code, ended := s.phase.now, awaits := true }
  else
    let waiting := (List.range 24).filter fun m =>
      u8 (s.cfg.sense m) 1 == 2 && u8 (s.cfg.sense m) 6 == n && (s.senseCh m).awaits && decide ((s.senseCh m).ended = s.phase.now)
    waiting.foldl (fun s m => judgeConversion m (s.senseCh m).raw s) (judgeConversion n code s1)

/-- CONVERSION_END: at the next angle j × P of the channel, its 24-bit code, and the codes of the spares that shadow it (R525, R536). -/
def execConversionEnd (channel : Nat) (code : Int) (spares : List Int) (s : State) : Host.Outcome State Fault Refusal :=
  let v := s.cfg.sense channel
  if converts s = false ∨ 24 ≤ channel ∨ u8 v 0 = 0 then .next s
  else
    let p := 2 ^ (16 - u8 v 2)
    let a := (s.angle + p - 1) / p * p
    let s0 := if a < 65536 then s.atAngle a else s
    .next (shadowConversion channel code spares (recordConversion channel code s0))

/-- Channels that a test names and that are valid become invalid at once (R523, R528). -/
def invalidateChannels (p : List Byte → Bool) (cause : Nat) (s : State) : State :=
  (List.range 24).foldl (fun s n =>
    let v := s.cfg.sense n
    let c := s.senseCh n
    if u8 v 0 ≠ 0 ∧ p v = true ∧ c.state = 1 then s.setSenseCh n { c with state := 2, cause := cause } else s) s

/-- EXCITATION_COMPLIANCE: a source that is on reaches its limit, or falls back below it (R528). -/
def execExcitationCompliance (source : Nat) (reached : Bool) (s : State) : Host.Outcome State Fault Refusal :=
  if s.cfg.excitation source = 0 ∨ 4 ≤ source ∨ s.phase.applied = false ∨ s.inFallow = true then .next s
  else
    let b := s.sense.compliance
    let s1 := { s with sense := { s.sense with compliance := if reached then b ||| BitVec.twoPow 4 source else b &&& ~~~(BitVec.twoPow 4 source) } }
    if reached then .next (invalidateChannels (fun v => decide (2 ≤ u8 v 1) && u8 v 5 == source) 4 s1) else .next s1

/-! ## Metering (R531 to R534) -/

/-- The current sample of a phase after ct_shift: the code itself at 0, else a free value (R531, log 36). -/
def shiftCurrent (p : Nat) (code : Int) (s : State) : Int × State :=
  let k := s.cfg.ctShift p
  if k = 0 then (code, s) else (Config.shiftedCurrent k code s.free, { s with free := s.free + 1 })

/-- One phase takes a sample pair; a code at full scale is clipped (R531, R534). -/
def takePair (p : Nat) (x : MeterPair) (s0 : State) : State :=
  let (i, s) := shiftCurrent p x.i s0
  let m := s.meterP p
  let cv := flag (x.vClip || decide (fullCode ≤ x.v.natAbs)) 0
  let ci := flag (x.iClip || decide (fullCode ≤ x.i.natAbs)) 0
  let s1 := countSense 2 (cv + ci) (s.setMeterP p { m with samples := (x.v, i) :: m.samples, clipsV := m.clipsV + cv, clipsI := m.clipsI + ci })
  shadowConversion (27 + p) x.i x.spares (shadowConversion (24 + p) x.v x.spares s1)

/-- METER_SAMPLE: the pairs at angle 256 × j (R531). -/
def execMeterSample (l1 l2 l3 : MeterPair) (s : State) : Host.Outcome State Fault Refusal :=
  let j := (s.meterP 0).samples.length
  if 256 ≤ j then .next s
  else
    let s0 := s.atAngle (max s.angle (256 * j))
    .next (takePair 2 l3 (takePair 1 l2 (takePair 0 l1 s0)))

/-- A mean of products of codes in the units of two scales. -/
def codeMean (sum : Int) (n : Nat) (a b : Word) : Exact :=
  if n = 0 then Exact.zero else { num := sum * mant a * mant b, den := n * (fullCode * fullCode), q := expo a + expo b - 46 }

def sumBy (f : Int × Int → Int) (l : List (Int × Int)) : Int := (l.map f).sum

/-- The mean power of a rod (R532). -/
def rodPower (s : State) (p : Nat) : Exact :=
  let l := (s.meterP p).samples
  codeMean (sumBy (fun x => x.1 * x.2) l) l.length (s.cfg.vScale p) (s.cfg.iScale p)

/-- POWER × T, with the rod's duration in 25 MHz ticks (R532). -/
def rodEnergy (s : State) (p ticks : Nat) : Exact := (rodPower s p).times (ticks : Nat) 25000000

/-- The cause that makes a phase invalid for the rod: the lowest code (R534, R546). -/
def meterCause (s : State) (p : Nat) : Nat :=
  let m := s.meterP p
  if s.present p = false then 1
  else if 2 < m.clipsV then 2
  else if 2 < m.clipsI then 3
  else if m.failed then 4
  else if s.cfg.meterInput p = false ∨ s.cfg.meterInput (p + 3) = false then 5
  else 0

/-- A phase's rod closes: its quantities, and its mark, which 4 consecutive valid rods clear (R532 to R534). -/
def closePhase (ticks p : Nat) (s : State) : State :=
  let m := s.meterP p
  let a := s.cfg.vScale p
  let b := s.cfg.iScale p
  let l := m.samples
  let last := l.take (l.length - 192)
  let cause := meterCause s p
  let good := if cause = 0 then m.good + 1 else 0
  let marked := cause ≠ 0 ∨ (m.marked ∧ good < 4)
  let word := fun (x : Exact) => toWord x
  let c : MeterClosed :=
    { vrms := word { codeMean (sumBy (fun x => x.1 * x.1) l) l.length a a with root := true }
      irms := word { codeMean (sumBy (fun x => x.2 * x.2) l) l.length b b with root := true }
      power := word (rodPower s p)
      energy := word (rodEnergy s p ticks)
      endPower := word (codeMean (sumBy (fun x => x.1 * x.2) last) last.length a b)
      reactive := Config.reactive l m.closed.wave a b
      frequency := wordOfRat (inputFreq (s.input p) : Nat) 1000000
      invalid := decide marked
      cause := if cause ≠ 0 then cause else if decide marked then m.closed.cause else 0
      clips := m.clipsV + m.clipsI
      wave := l }
  let s1 := s.setMeterP p { samples := [], marked := decide marked, good := if decide marked then good else 0, closed := c }
  let s2 := if cause ≠ 0 then countSense 3 1 s1 else s1
  if cause ≠ 0 ∧ m.marked = false then raise 0x0F03 [p + 1, cause, m.clipsV + m.clipsI] s2 else s2

/-- Step 4 of R19: the metering closes the rod that has ended, and the measured heat of R206 with it (R532, R533). -/
def closeMeters (rod ticks : Nat) (s : State) : State :=
  let total := (List.range 3).foldl (fun x p => x.add (rodEnergy s p ticks)) Exact.zero
  let fraction := (s.cfg.heat.map fun v => u16 v 14).getD 62259
  let s1 := (List.range 3).foldl (fun s p => closePhase ticks p s) s
  { s1 with sense := { s1.sense with
      closedAny := true, closedRod := rod, heat := toWord (total.times (fraction : Nat) 65536)
      heatInvalid := (List.range 3).any fun p => (s1.meterP p).closed.invalid } }

/-- The reference is compared with the bandgap at a rod boundary (R523). -/
def checkVref (vref bandgap : Nat) (s : State) : State :=
  let off := decide (5 * bandgap < 100 * ((vref : Int) - bandgap).natAbs)
  let before := s.sense.refFault
  let s1 := { s with sense := { s.sense with refMv := vref, refFault := off } }
  let s2 := if off then invalidateChannels (fun _ => true) 5 s1 else s1
  if off ≠ before then raise 0x0F04 [vref, flag off 0] s2 else s2

/-- A rod of the dwell, or of a metering position's replacement, has passed (R536, R538). -/
def dwellRod (s : State) : State :=
  match s.sense.swap with
  | some w => if w.position < 24 then s else { s with sense := { s.sense with swap := some { w with shadowed := w.shadowed + 1 } } }
  | none =>
    if positionOn s s.sense.dwell.position then { s with sense := { s.sense with dwell := { s.sense.dwell with rods := s.sense.dwell.rods + 1 } } }
    else beginDwell (nextPosition s s.sense.dwell.position) false s

/-- A start through the boot ROM, and fallow mode: sources off, conversions stopped; modulators and metering go on (R540). -/
def stopSense (s : State) : State := { s with sense := { s.sense with channels := [], compliance := 0, swap := none } }

/-! ## SENSE commands (R547, R548) -/

def execSenseRead (mbx : Nat) (s : State) : Host.Outcome State Fault Refusal :=
  .next (serveRead 0x0F01 1 (· == 4) (fun c s =>
    let n := u8 c.pay 0
    if n > 23 ∨ allZero (c.pay.drop 1) = false then bad 6
    else
      let x := s.senseCh n
      ok (le 1 (if u8 (s.cfg.sense n) 0 = 0 then 0 else if x.state = 1 then 1 else 2) ++ le 1 x.cause ++ le 1 (modulatorAt s n) ++ zeros 1
        ++ leInt 4 x.raw ++ le 4 x.value.toNat ++ cycle64 x.ended.cycle ++ le 2 x.ended.angle ++ zeros 6)) mbx s)

/-- Quantities 0 to 6 of a phase's closed rod. -/
def closedWords (m : MeterClosed) : List Byte :=
  [m.vrms, m.irms, m.power, m.energy, m.endPower, m.reactive, m.frequency].flatMap fun w => le 4 w.toNat

/-- Quantities that a phase does not have: value words of zero (R236, R547). -/
def zeroWords (n : Nat) : List Byte := (List.replicate n zeroWord).flatMap fun w => le 4 w.toNat

/-- SENSE.METER of the sums over present phases (R532, R548). -/
def meterSums (s : State) : List Byte :=
  let sum := fun (k : Nat) => (meterReading s k 0).1.toNat
  let bad := ((List.range 3).filter s.present).filter fun p => (meterPhase s p).invalid
  let none_ := ((List.range 3).filter s.present).isEmpty
  let cause := if none_ then 1 else match bad with
    | [] => 0
    | p :: ps => ps.foldl (fun a p => min a (meterPhase s p).cause) (meterPhase s p).cause
  zeroWords 2 ++ ([2, 3, 4, 5].flatMap fun k => le 4 (sum k)) ++ zeroWords 1 ++ le 4 s.sense.heat.toNat
    ++ le 1 (flag (meterReading s 2 0).2 0 + flag s.sense.heatInvalid 1) ++ le 1 cause
    ++ le 2 (sat 65535 (((List.range 3).map fun p => (meterPhase s p).clips).sum)) ++ zeros 4

def execSenseMeter (mbx : Nat) (s : State) : Host.Outcome State Fault Refusal :=
  .next (serveRead 0x0F02 1 (· == 4) (fun c s =>
    let p := u8 c.pay 0
    if p > 3 ∨ allZero (c.pay.drop 1) = false then bad 6
    else if s.sense.closedAny = false then bad 8
    else if p = 0 then ok (cycle64 s.sense.closedRod ++ meterSums s)
    else
      let m := meterPhase s (p - 1)
      ok (cycle64 s.sense.closedRod ++ closedWords m ++ zeroWords 1 ++ le 1 (flag m.invalid 0) ++ le 1 m.cause ++ le 2 (sat 65535 m.clips) ++ zeros 4)) mbx s)

/-- The top 16 bits of a sample. -/
def top16 (x : Int) : List Byte := leInt 2 (x / 256)

def execSenseWave (mbx : Nat) (s : State) : Host.Outcome State Fault Refusal :=
  .next (serveRead 0x0F03 1 (· == 4) (fun c s =>
    let p := u8 c.pay 0
    let h := u8 c.pay 1
    if p = 0 ∨ p > 3 ∨ h > 1 ∨ u16 c.pay 2 ≠ 0 then bad 6
    else if s.sense.closedAny = false then bad 8
    else
      let w := (meterPhase s (p - 1)).wave.reverse
      ok (cycle64 s.sense.closedRod ++ (List.range 128).flatMap fun k => let x := w.getD (128 * h + k) (0, 0); top16 x.1 ++ top16 x.2)) mbx s)

/-- The modulator map: the position of each of 32 modulators, 0xFE a spare, 0xFF retired or withdrawn; the position shadowed, and rods into the dwell (R547). -/
def modulatorMap (s : State) : List Byte :=
  let place := fun (m : Nat) =>
    if s.sense.retired.contains m then 0xFF
    else ((List.range 30).find? fun p => modulatorAt s p == m).getD 0xFE
  ((List.range 32).flatMap fun m => le 1 (place m)) ++ le 1 ((shadowed s).getD 0xFF) ++ le 1 (sat 255 s.sense.dwell.rods)

def execSenseModulators (mbx : Nat) (s : State) : Host.Outcome State Fault Refusal :=
  .next (serveRead 0x0F04 1 (· == 0) (fun _ s => ok (modulatorMap s)) mbx s)

def execSenseSpare (mbx : Nat) (s : State) : Host.Outcome State Fault Refusal :=
  .next (serveLater 0x0F05 3 (· == 4) (fun c s =>
    let p := u8 c.pay 0
    if p > 29 ∨ allZero (c.pay.drop 1) = false then (s, some (bad 6))
    else if positionOn s p = false then (s, some (bad 8))
    else if freeModulators s = [] ∨ s.sense.swap.isSome then (s, some (bad 2))
    else (beginSwap p 3 (some c.mbx) s, none)) mbx s)

def execSenseStats (mbx : Nat) (s : State) : Host.Outcome State Fault Refusal :=
  .next (serveRead 0x0F06 1 (· == 0) (fun _ s => ok (countBytes s.sense.stats 6)) mbx s)

def execSenseStatsClear (mbx : Nat) (s : State) : Host.Outcome State Fault Refusal :=
  .next (serve 0x0F07 2 (· == 0) (fun _ s => ({ s with sense := { s.sense with stats := [] } }, ok [])) mbx s)

end Sys2Proof.Machine
end

