-- ==== Sys2Proof/Machine/Spares.lean ====
section
/-! DEFINITION. Chapter 22: wear, substitutions, memory repair, core swaps, the ageing accounts and the SPARE commands. -/

namespace Sys2Proof.Machine

/-! ## Warm restarts (R30, R74, R81) -/

/-- Harlopor restarts warm: requests and sessions are abandoned, mailboxes 1 to 14 are not free until it is over (R714), and the outage of R78 begins. -/
def beginWarm (s : State) : State :=
  let s1 := abandonFires (abandon 3 s)
  let swap : Option ModulatorSwap := s1.sense.swap.map fun w : ModulatorSwap => { w with mailbox := none }
  let s2 := { s1 with
    hif := { s1.hif with reqFree := 0x0001#16 }
    sense := { s1.sense with swap := swap }
    fbus := { s1.fbus with switching := s1.fbus.switching.map fun w : SwitchOver => { w with mailbox := none } } }
  let waiting : List Substitution := (s1.super.retiring.toList ++ s1.spare.waiting).map fun w : Substitution => { w with request := none }
  let x := s2.super
  let idle : Super :=
    { x with
      warmAt := none, fwVerifying := false, fwStaged := none, fwChange := none, watchdog := false, testing := false, retiring := none }
  beginOutage 2 0 (beginPause 4 { s2 with spare := { s2.spare with waiting := waiting, finished := [] }, super := idle })

/-! ## Calling a substitution (R643, R646, R648) -/

/-- The free spare that would replace a unit (R643, R644). -/
def spareFor (s : State) (kind unit : Nat) : Option Nat :=
  let taken := s.spare.copying.map fun c => c.2
  let pick := fun (us : List Nat) => us.find? fun u => unitState s kind u == 2 && !taken.contains u
  match kind with
  | 2 => pick ((List.range 20).map fun i => unit / 65536 * 65536 + 1024 + i)
  | 3 => pick ((List.range 64).map (2048 + ·))
  | 8 => pick [if unit % 2 = 0 then unit + 1 else unit - 1]
  | _ => freeSpare s kind

/-- A substitution of a unit is under way. -/
def swapCalled (s : State) (kind unit : Nat) : Bool :=
  s.spare.waiting.any (fun w => w.kind == kind && w.unit == unit)
    || s.spare.copying.any (fun c => c.1.kind == kind && c.1.unit == unit)
    || s.super.retiring.any (fun w => kind == 1 && w.unit == unit)

/-- The channel or bank of a gate-command ball is IDLE (R440). -/
def gateIdle (s : State) (ball : Nat) : Bool :=
  if ball < 5 then bankState s ball == 0 else valveState s (ball - 5) == 1 || valveState s (ball - 5) == 0

/-- A substitution has been made: the ledger is written, and a commanded one waits for its completion to be placed (R658, R661). -/
def substituted (w : Substitution) (joined : Option Nat) (s : State) : State :=
  let s1 := writeLedger w.kind w.cause w.unit joined s
  if w.request = none then s1
  else { s1 with spare := { s1.spare with finished := s1.spare.finished ++ [(w, joined.getD saturated, s1.cycle)] } }

/-- The spare gate stage takes over its ball (R440, R643). -/
def swapGate (w : Substitution) (s : State) : State := substituted w (spareFor s 8 w.unit) s

def waitSubstitution (w : Substitution) (s : State) : State := { s with spare := { s.spare with waiting := s.spare.waiting ++ [w] } }

/-- The channel that a CAN engine serves (R391). -/
def engineChannel (s : State) (unit : Nat) : Nat := if unit = 8 then s.fbus.spareChannel else unit

/-- A unit is called out by the rules of its kind; its spare is free (R646, R648, R662). -/
def callSubstitution (w : Substitution) (s : State) : State :=
  match w.kind with
  | 2 | 3 =>
    match spareFor s w.kind w.unit with
    | none => s
    | some u => { s with spare := { s.spare with copying := s.spare.copying ++ [(w, u)] } }
  | 4 =>
    match (List.range 30).find? fun p => modulatorAt s p == w.unit with
    | none => s
    | some p => beginSwap p w.cause none s
  | 5 => waitSubstitution w (s.setProcessor w.unit { s.processor w.unit with retired := true })
  | 6 => requestSwitch (engineChannel s w.unit) w.cause none s
  | 8 => if gateIdle s (w.unit / 2) then swapGate w s else waitSubstitution w s
  | _ => waitSubstitution w s

/-- SPARE.WORN, once per level and unit (R646, R660). -/
def raiseWorn (kind unit level : Nat) (s : State) : State :=
  let x := s.unit kind unit
  if level ≤ x.worn then s
  else raise 0x1502 [kind * 256 + level, unit, x.w, freeSpares s kind] (s.setUnit kind unit { x with worn := level })

/-- A unit is to be replaced: its substitution is called if a spare is free, else it stays in service and SPARE.WORN is raised at level 2 (R646). -/
def replaceUnit (kind unit cause : Nat) (s : State) : State :=
  if swapCalled s kind unit then
    -- R659: a wear call and an outright failure of the same unit: cause 4
    let worse := fun (w : Substitution) => if w.kind = kind ∧ w.unit = unit then { w with cause := max w.cause cause } else w
    { s with spare := { s.spare with waiting := s.spare.waiting.map worse, copying := s.spare.copying.map fun c => (worse c.1, c.2) } }
  else if (spareFor s kind unit).isSome then callSubstitution { kind := kind, unit := unit, cause := cause } s
  else raiseWorn kind unit 2 s

/-- A unit ages: it exists, is not retired, and is not one of the spares that stay powered down while free (R644). -/
def monitored (s : State) (kind unit : Nat) : Bool :=
  unitExists kind unit && unitState s kind unit != 3 && !(unitState s kind unit == 2 && (kind == 1 || kind == 2 || kind == 3 || kind == 8))

/-- A unit's wear figure is updated (R645, R646). -/
def noteWear (kind unit w : Nat) (s : State) : State :=
  let w := sat 65535 w
  let s1 := s.setUnit kind unit { s.unit kind unit with w := w }
  let s2 := if 8000 ≤ w then raiseWorn kind unit 1 s1 else s1
  if 10000 ≤ w ∧ unitState s2 kind unit = 1 then replaceUnit kind unit 2 s2 else s2

/-- The wear figure that an MRAM block's or a row's corrections give (R645). -/
def eccFigure (kind : Nat) (x : WearUnit) : Nat := 10000 * x.corrections.length / (if kind = 2 then 2 else 4)

/-- The wear figure that an MRAM block's writes give, as last measured (R645). -/
def writeFigure (x : WearUnit) : Nat := (x.writes.getLast?.map fun e => e.2).getD 0

/-- WEAR_MEASUREMENT: the figure of a unit's monitors, in 1/10,000, the larger where it has two; of an MRAM block the figure of its write count (R645, R646). -/
def execWearMeasurement (kind unit wear : Nat) (s : State) : Host.Outcome State Fault Refusal :=
  if monitored s kind unit = false ∨ kind = 2 then .next s
  else if kind = 3 then
    let x := s.unit 3 unit
    let kept := x.writes.filter fun e => decide (s.spare.seconds ≤ e.1 + 31536000)
    let y := { x with writes := kept ++ [(s.spare.seconds, sat 65535 wear)] }
    .next (noteWear 3 unit (max (writeFigure y) (eccFigure 3 y)) (s.setUnit 3 unit y))
  else .next (noteWear kind unit wear s)

/-- ECC_CORRECTION: a corrected read counts toward its row's or block's wear (R645). -/
def execEccCorrection (kind unit : Nat) (s : State) : Host.Outcome State Fault Refusal :=
  if monitored s kind unit = false ∨ (kind ≠ 2 ∧ kind ≠ 3) then .next s
  else
    let x := s.unit kind unit
    let y := { x with corrections := (x.corrections.filter fun r => decide (s.cycle < r + 1048576)) ++ [s.cycle] }
    .next (noteWear kind unit (max (if kind = 3 then writeFigure y else 0) (eccFigure kind y)) (s.setUnit kind unit y))

/-! ## Uncorrectable errors (R647) -/

/-- A damaged point reads with VALID clear until it is next written. -/
def damagePoint (p : Nat) (s : State) : State :=
  let clear := fun (m : FMap Point) => let x := fget {} m p; fput {} m p { x with quality := x.quality / 2 * 2 }
  { s with commons := { s.commons with view := clear s.commons.view, fill := clear s.commons.fill, frozen := s.commons.frozen.map clear } }

/-- A loop's running sample gives no result, and MISS is set. -/
def damageSample (l : Nat) (s : State) : State :=
  let running := s.engine.processors.filterMap fun e => e.2.sample.filter fun x => x.slot == l && !x.dropped
  let s1 := mapSamples (fun x => if running.any fun y => y.instant == x.instant && y.slot == x.slot then { x with dropped := true } else x) s
  let s2 := unclean l (missSample l s1)
  match running.head? with
  | none => s2
  | some x => traceKind l 5 x.count (committedFile s2 l) s2

/-- A damaged image: 0 and 1 the firmware slots, 2 and 3 the configuration slots. -/
def damageImage (place : Nat) (s : State) : State :=
  if place < 2 then s.setFwSlot place { s.fwSlot place with damaged := true }
  else s.setCfgSlot (place - 2) { s.cfgSlot (place - 2) with damaged := true }

/-- The damaged word by where it lies (R647): 1 commons, 2 loop, 3 Harlopor, 5 recorder, 6 image; region 4 is restored from its second copy. -/
def damageRegion (region place : Nat) (s : State) : State :=
  match region with
  | 1 => damagePoint place s
  | 2 => damageSample place s
  | 3 => { s with super := { s.super with warmAt := some (min (s.super.warmAt.getD (s.cycle + 1)) (s.cycle + 1)) } }
  | 5 =>
    { s with recorder := { s.recorder with
        torn := s.recorder.torn + 1, area := fput none s.recorder.area (areaSlot place) none } }
  | 6 => damageImage place s
  | _ => s

/-- UNCORRECTABLE_ERROR: reported once, handled by its region, and its row or block replaced with cause 4 (R646, R647). -/
def execUncorrectableError (kind unit offset region place : Nat) (s : State) : Host.Outcome State Fault Refusal :=
  if monitored s kind unit = false ∨ (kind ≠ 2 ∧ kind ≠ 3) then .next s
  else .next (replaceUnit kind unit 4 (damageRegion region place (raise 0x1504 [kind, unit, offset, region] s)))

/-- ROW_REMAP: the copy of a row or block is complete, and it is remapped (R648). -/
def execRowRemap (kind unit : Nat) (s : State) : Host.Outcome State Fault Refusal :=
  match s.spare.copying.find? fun c => c.1.kind == kind && c.1.unit == unit with
  | none => .next s
  | some c => .next (substituted c.1 (some c.2) { s with spare := { s.spare with copying := s.spare.copying.erase c } })

/-! ## The phase-clock PLL (R117, R646) -/

/-- A waiting substitution whose unit has left service, or whose spare is gone, is not made: a worn unit stays in service at level 2 (R646), and a command completes NOT_READY (DESIGN CHOICE, log 41). -/
def dropCall (w : Substitution) (s : State) : State :=
  match w.request with
  | some r => complete r (bad 8) s
  | none => if unitState s w.kind w.unit = 1 then raiseWorn w.kind w.unit 2 s else s

/-- The spare PLL is brought in, without repeating or skipping a tick (R117). -/
def swapPll (w : Substitution) (s : State) : State :=
  match freeSpare s 7 with
  | none => dropCall w s
  | some u => substituted w (some u) { s with phase := { s.phase with pll := u } }

/-- PLL_LOSS_OF_LOCK: the PLL in service is replaced at once with cause 4 (R646); a substitution that waited for it is made by this one. -/
def execPllLossOfLock (s : State) : Host.Outcome State Fault Refusal :=
  let s1 := { s with spare := { s.spare with waiting := s.spare.waiting.filter fun w => w.kind != 7 } }
  let request := (s.spare.waiting.find? fun w => w.kind == 7).bind Substitution.request
  if (freeSpare s 7).isSome then .next (swapPll { kind := 7, unit := s.phase.pll, cause := 4, request := request } s1)
  else .next (raiseWorn 7 s.phase.pll 2 s1)

/-! ## Substitutions at a rod boundary (R117, R268, R440) -/

/-- A retired stage processor is replaced by the spare, if it is free (R268, R269). -/
def swapStage (w : Substitution) (s : State) : State :=
  if w.unit < 8 ∧ s.engine.spareServes = none ∧ unitState s 5 8 = 2 ∧ (s.processor 8).retired = false then
    substituted w (some 8) { s with engine := { s.engine with spareServes := some w.unit } }
  else substituted w none s

/-- One waiting substitution at its boundary; a core waits for the sequence to complete, a gate stage for IDLE. -/
def boundarySubstitution (w : Substitution) (s : State) : State :=
  match w.kind with
  | 5 => swapStage w s
  | 7 => swapPll w s
  | 8 => if gateIdle s (w.unit / 2) then swapGate w s else waitSubstitution w s
  | _ => waitSubstitution w s

/-- The waiting substitutions whose moment is this boundary, oldest first; none of a PLL during a firmware change (R653). -/
def substitutionBoundary (s : State) : State :=
  s.spare.waiting.foldl (fun s w => if w.kind = 7 ∧ s.super.state = 3 then waitSubstitution w s else boundarySubstitution w s)
    { s with spare := { s.spare with waiting := [] } }

/-- A waiting core substitution starts when the boundary sequence has completed, unless the supervisor is paused (R650, R653). -/
def coreBoundary (s : State) : State :=
  match s.spare.waiting.find? fun w => w.kind == 1 with
  | none => s
  | some w =>
    if s.hif.supPause ∨ s.hif.mode = .bootRom then s
    else if unitState s 1 w.unit ≠ 1 ∨ freeSpare s 1 = none then dropCall w { s with spare := { s.spare with waiting := s.spare.waiting.erase w } }
    else
      beginPause 2
        { s with
          spare := { s.spare with waiting := s.spare.waiting.erase w }
          super := { s.super with retiring := some w, testing := false, watchdog := false } }

/-! ## Core swaps (R649 to R652) -/

/-- A swap runs from step 1: the pair halts and the self-tests begin. -/
def beginCoreTest (watchdog : Bool) (s : State) : State :=
  beginPause 2 { s with super := { s.super with testing := true, watchdog := watchdog } }

/-- LOCKSTEP_MISMATCH (R649). -/
def execLockstepMismatch (s : State) : Host.Outcome State Fault Refusal :=
  if s.super.cores.length ≠ 2 ∨ s.hif.supPause ∨ s.super.state = 5 then .next s
  else .next (beginCoreTest false { s with super := { s.super with mismatchTicks := s.clock.ticksRun } })

/-- The cores that run from now on; one alone sets SINGLE and raises SPARE.SINGLE (R650, R651). -/
def runCores (cores : List Nat) (cause : Nat) (s : State) : State :=
  let s1 := { s with super := { s.super with cores := cores, single := decide (cores.length = 1), testing := false } }
  match cores with
  | [c] => if s.super.single then s1 else raise 0x1505 [c, cause, low32 s.cycle] s1
  | _ => s1

/-- A core is retired and the free spare, if there is one, joins the other (R650). -/
def retireCore (core cause : Nat) (spare : Option Nat) (s : State) : State :=
  runCores (sortNat ((s.super.cores.filter (· != core)) ++ spare.toList)) cause (writeLedger 1 cause core spare s)

/-- SPARE.WATCHDOG with its outcome, if the start watchdog began the swap (R652). -/
def watchdogOutcome (outcome : Nat) (s : State) : State := if s.super.watchdog then raise 0x1506 [outcome, low32 s.cycle] s else s

/-- Both cores passed: a warm restart on the same pair after a watchdog; else a transient, the third of which within 2^24 rods retires the core with the higher w, of equal ones the higher-numbered (R650, R652). -/
def coresPassed (spare : Option Nat) (micros : Nat) (s : State) : State :=
  if s.super.watchdog then beginWarm (watchdogOutcome 2 s)
  else
    let ts := (s.super.transients.filter fun r => decide (s.cycle < r + 16777216)) ++ [s.cycle]
    let s1 := { s with super := { s.super with transients := ts, testing := false } }
    let pair := s.super.cores
    let s2 := raise 0x1503 [(pair.getD 0 0) * 256 + pair.getD 1 0, ts.length, micros] s1
    if ts.length < 3 ∨ pair.length < 2 then s2
    else
      let a := pair.getD 0 0
      let b := pair.getD 1 0
      retireCore (if (s.unit 1 b).w < (s.unit 1 a).w then a else b) 1 spare { s2 with super := { s2.super with transients := [] } }

/-- SELF_TEST_COMPLETE: bit c of the operand says that core c passed; the microseconds are those from the mismatch to resumption (R649, R650). -/
def execSelfTestComplete (passed : BitVec 3) (micros : Nat) (s : State) : Host.Outcome State Fault Refusal :=
  if s.super.state ≠ 2 ∨ s.super.testing = false then .next s
  else
    let pass := s.super.cores.filter fun c => passed.getLsbD c
    let spare := (freeSpare s 1).bind fun c => if passed.getLsbD c then some c else none
    match pass, spare with
    | [], none => .next { s with super := { s.super with cores := [], testing := false } }
    | [], some c => .next (runCores [c] 1 (watchdogOutcome 1 (s.setUnit 1 c { s.unit 1 c with state := 1, entered := s.spare.eqMicros / 1000000 })))
    | p, sp =>
      if p.length = s.super.cores.length then .next (coresPassed sp micros s)
      else
        match s.super.cores.find? (fun c => !passed.getLsbD c), sp with
        | some failed, some c => .next (retireCore failed 1 (some c) (watchdogOutcome 1 s))
        | _, _ => .next (runCores p 1 (watchdogOutcome 1 s))

/-- SWAP_RESUME: the core of a wear call or a command gives way to the spare, and the new pair serves again (R649, R650). -/
def execSwapResume (s : State) : Host.Outcome State Fault Refusal :=
  if s.super.state ≠ 2 ∨ s.super.testing ∨ s.super.cores = [] then .next s
  else
    match s.super.retiring with
    | none => .next (endPause s)
    | some w =>
      let spare := freeSpare s 1
      let s1 := substituted w spare { s with super := { s.super with retiring := none } }
      .next (endPause (runCores (sortNat ((s1.super.cores.filter (· != w.unit)) ++ spare.toList)) w.cause s1))

/-! ## The ageing accounts (R654) -/

/-- The bin of a temperature in 0.01 °C: 17 bins of 10 °C from −40 °C (R654). -/
def ageingBin (t : Int) : Nat := min 16 ((t + 4000) / 1000).toNat

/-- AGEING_SAMPLE: one second at a die temperature in 0.01 °C, while main power is present (R654). -/
def execAgeingSample (temperature : Int) (s : State) : Host.Outcome State Fault Refusal :=
  if s.pins.inReset then .next s
  else
    let e := Config.ageing temperature
    let x := s.spare
    let day := x.dayMicros + e
    let full := decide ((x.seconds + 1) % 86400 = 0)
    .next { s with spare := { x with
      bins := bump x.bins (ageingBin temperature) 1
      eqMicros := x.eqMicros + e
      seconds := x.seconds + 1
      dayMicros := if full then 0 else day
      days := if full then (day :: x.days).take 365 else x.days } }

/-- Equivalent hours per hour in 0.001 over the last 365 days, or 2.1415 in the first year (R656, R661; the rounding is open, log 10). -/
def ageingRate (s : State) : Nat :=
  if s.spare.days.length < 365 then quotient 21415 10 else sat 65535 (quotient (s.spare.days.sum * 1000) (365 * 86400000000))

/-! ## SPARE commands (R661, R662) -/

def SpareEntry.bytes (e : SpareEntry) : List Byte :=
  le 2 e.seq ++ le 1 e.kind ++ le 1 e.cause ++ le 4 e.retired ++ le 4 e.joined ++ le 4 e.seconds ++ le 4 e.cycle ++ le 4 e.eqHours
    ++ le 2 e.wear ++ le 1 e.left ++ zeros 1 ++ le 4 e.remaining

/-- SPARE.INFO; the 65,536 SRAM rows in service do not fit the field's 16 bits and saturate (DESIGN CHOICE, log 41). -/
def execSpareInfo (mbx : Nat) (s : State) : Host.Outcome State Fault Refusal :=
  .next (serveRead 0x1501 1 (· == 0) (fun _ s =>
    ok (le 1 (flag s.super.single 0) ++ zeros 3 ++ le 4 (chipDays s) ++ le 4 (eqHours s) ++ le 2 (ageingRate s)
      ++ (List.range 8).flatMap fun i =>
        let k := i + 1
        le 2 (sat 65535 (inService s k)) ++ le 2 (freeSpares s k) ++ le 2 (retiredCount s k) ++ le 2 (worstWear s k) ++ le 4 (kindDays s k))) mbx s)

def execSpareLedger (mbx : Nat) (s : State) : Host.Outcome State Fault Refusal :=
  .next (serveRead 0x1502 1 (· == 4) (fun c s =>
    let n := u8 c.pay 2
    if n = 0 ∨ 31 < n ∨ u8 c.pay 3 ≠ 0 then bad 6
    else
      let es := (s.spare.ledger.drop (u16 c.pay 0)).take n
      ok (le 1 es.length ++ zeros 1 ++ le 2 s.spare.ledger.length ++ zeros 4 ++ es.flatMap SpareEntry.bytes)) mbx s)

/-- The unit after a unit of a kind (R643: 1,044 rows in each SRAM macro). -/
def nextUnit (kind unit : Nat) : Nat := if kind = 2 ∧ unit % 65536 = 1043 then (unit / 65536 + 1) * 65536 else unit + 1

/-- Up to n units of a kind, from one upward. -/
def unitsFrom (kind : Nat) : Nat → Nat → List Nat
  | 0, _ => []
  | n + 1, u => if unitExists kind u then u :: unitsFrom kind n (nextUnit kind u) else []

def execSpareWear (mbx : Nat) (s : State) : Host.Outcome State Fault Refusal :=
  .next (serveRead 0x1503 1 (· == 8) (fun c s =>
    let k := u8 c.pay 0
    let n := u8 c.pay 2
    let first := u32 c.pay 4
    if k = 0 ∨ 8 < k ∨ unitExists k first = false ∨ n = 0 ∨ 62 < n ∨ u8 c.pay 1 ≠ 0 ∨ u8 c.pay 3 ≠ 0 then bad 6
    else
      let us := unitsFrom k n first
      ok (le 1 us.length ++ zeros 3 ++ us.flatMap fun u =>
        le 4 u ++ le 1 (unitState s k u - 1) ++ zeros 1 ++ le 2 (s.unit k u).w ++ le 4 (unitAge s k u / 3600000000)
          ++ le 4 (remainingDays s k u))) mbx s)

def execSpareProfile (mbx : Nat) (s : State) : Host.Outcome State Fault Refusal :=
  .next (serveRead 0x1504 1 (· == 0) (fun _ s =>
    ok ((List.range 17).flatMap (fun b => le 4 (fget 0 s.spare.bins b / 3600)) ++ le 4 (eqHours s) ++ le 2 (ageingRate s) ++ zeros 2)) mbx s)

/-- A substitution of a kind is under way (R662). -/
def kindBusy (s : State) (kind : Nat) : Bool :=
  s.spare.waiting.any (fun w => w.kind == kind) || (kind == 1 && (decide (s.super.state = 2) || s.super.retiring.isSome))

def execSpareSwap (mbx : Nat) (s : State) : Host.Outcome State Fault Refusal :=
  .next (serve 0x1505 3 (· == 8) (fun c s =>
    let k := u8 c.pay 0
    let u := u32 c.pay 4
    if (k ≠ 1 ∧ k ≠ 5 ∧ k ≠ 7 ∧ k ≠ 8) ∨ allZero (slice c.pay 1 3) = false ∨ unitExists k u = false ∨ unitState s k u ≠ 1 then (s, bad 6)
    else if spareFor s k u = none then (s, bad 8)
    else if kindBusy s k then (s, bad 2)
    else
      let r := defer c u s
      if r.2.status = 1 then
        (callSubstitution { kind := k, unit := u, cause := 3, request := some s.mail.jobs } r.1, r.2)
      else r) mbx s)

/-- SUBSTITUTION_COMPLETE: a gate stage whose ball has become IDLE is brought in, and the completions of the commanded substitutions that are made are placed (R440, R661, R662). -/
def execSubstitutionComplete (s : State) : Host.Outcome State Fault Refusal :=
  let s1 := s.spare.waiting.foldl (fun s w => if w.kind = 8 then boundarySubstitution w s else waitSubstitution w s)
    { s with spare := { s.spare with waiting := [] } }
  let s2 := { s1 with spare := { s1.spare with finished := [] } }
  .next (s1.spare.finished.foldl (fun s f =>
    match f.1.request with
    | none => s
    | some r => complete r (ok (le 4 f.2.1 ++ zeros 4 ++ cycle64 f.2.2)) s) s2)

end Sys2Proof.Machine
end

