-- ==== Sys2Proof/Machine/Vents.lean ====
section
/-! DEFINITION. Chapter 16: position counters, illegal transitions, indices, SSI encoders, compares, speeds, the positioner, and the VENT commands. -/

namespace Sys2Proof.Machine

/-! ## Records (R515, R516) -/

def Cfg.vent (c : Cfg) (n : Nat) : List Byte := (c.baseValue 0x0E01 n).getD []
/-- The limits in force; the defaults without a record. -/
def Cfg.ventLimits (c : Cfg) (n : Nat) : List Byte := c.valueOr 0x8E02 n (le 2 0 ++ le 2 10000 ++ le 2 100 ++ le 2 20)
def ventMode (v : List Byte) : Nat := u8 v 0
def ventInverted (v : List Byte) : Bool := bit (u8 v 1) 0
def hasPositioner (v : List Byte) : Bool := bit (u8 v 1) 1

def State.ventCh (s : State) (n : Nat) : VentChannel := fget {} s.vent.channels n
def State.setVentCh (s : State) (n : Nat) (x : VentChannel) : State := { s with vent := { s.vent with channels := fput {} s.vent.channels n x } }
def countVent (n i : Nat) (s : State) : State := s.setVentCh n { s.ventCh n with stats := bump (s.ventCh n).stats i 1 }

/-- The chapter acts: in fallow mode the counters count, and nothing else does (R503). -/
def ventsAct (s : State) : Bool := decide (s.hif.mode = .start ∨ s.hif.mode = .running)

/-- The counter holds: a fault with cause 1 or 2 (R513). -/
def VentChannel.holds (c : VentChannel) : Bool := c.fault == 1 || c.fault == 2

/-- The signed difference of two positions (R498). -/
def posDiff (a b : Word) : Int := signed 32 ((a.toNat + 2 ^ 32) - b.toNat)
def posAdd (p : Word) (d : Int) : Word := p + BitVec.ofInt 32 d

/-! ## Set-point and feedback (R511, R512) -/

/-- The layer in force and the set-point: a VENT route applied since start, else VENT.SET. -/
def ventGoverning (c : VentChannel) : Nat × Nat :=
  match c.route, c.host with
  | some r, _ => (4, r)
  | none, some h => (5, h)
  | none, none => (0, 0)

/-- The set-point limited to the travel limits. -/
def ventTarget (s : State) (n : Nat) : Nat :=
  let l := s.cfg.ventLimits n
  max (u16 l 0) (min (u16 l 2) (ventGoverning (s.ventCh n)).2)

/-- The FEEDBACK input of the channel is marked invalid. -/
def feedbackInvalid (s : State) (n : Nat) : Bool := (feedbackReading s 0 n).2

/-- The target less the fraction of travel is above a bound, both in units of 0.01 % (R512). -/
def errorAbove (s : State) (n : Nat) (sign : Int) (bound : Nat) : Bool :=
  let x := ventFraction s n
  decide ((bound : Int) * x.den < sign * ((ventTarget s n : Int) * x.den - 10000 * x.num))

/-! ## Faults (R500, R502, R513) -/

/-- run_out falls (R512). -/
def stopRun (n : Nat) (s : State) : State :=
  let c := s.ventCh n
  s.setVentCh n { c with run := false, starting := false, lowTicks := if c.run then s.clock.ticksRun else c.lowTicks }

/-- A channel enters FAULT (R513). -/
def enterVentFault (n cause : Nat) (s : State) : State :=
  if (s.ventCh n).fault ≠ 0 then s
  else
    let s1 := countVent n 2 (stopRun n (s.setVentCh n { s.ventCh n with fault := cause }))
    raise 0x0E02 [n, cause, (s1.ventCh n).counter.toNat, (ventGoverning (s1.ventCh n)).2] s1

/-! ## Compares (R508 to R510) -/

/-- The state of a compare that has not fired, after an update: behind the motion, or ahead of it (R510). -/
def armedState (value position : Word) (speed : Int) : Nat :=
  let d := posDiff value position
  if (0 < speed ∧ d < 0) ∨ (speed < 0 ∧ 0 < d) then 2 else 1

/-- The state of a compare as it is written (R509, R510). -/
def writtenState (value position : Word) (speed : Int) : Nat :=
  if value = position then 3 else armedState value position speed

/-- An armed compare fires on an update from `p` by `d` (R508, R509). -/
def compareFires (x : Compare) (p : Word) (d : Int) : Bool :=
  let e := posDiff x.value p
  match x.state with
  | 1 | 2 => if 0 < d then decide (0 < e ∧ e ≤ d) else decide (d ≤ e ∧ e < 0)
  | 3 => decide (d ≠ 0)
  | _ => false

/-- A compare fires: its record, its flag, its count and its actions (R508, R512). -/
def fireCompare (n i : Nat) (up : Bool) (s : State) : State :=
  let c := s.ventCh n
  let x := fget {} c.compares i
  let y : Compare := { x with state := 4, fired := s.phase.now, up := up }
  let s1 := countVent n 3 (s.setVentCh n { c with compares := fput {} c.compares i y, fired := c.fired ||| BitVec.twoPow 4 i })
  let s2 := if bit x.action 0 then raise 0x0E03 [n, i, x.value.toNat, flag up 0] s1 else s1
  if bit x.action 1 then stopRun n (s2.setVentCh n { s2.ventCh n with stopHold := true }) else s2

/-- The statuses of the armed compares are evaluated again (R510). -/
def reviewCompares (equalToo : Bool) (n : Nat) (s : State) : State :=
  let c := s.ventCh n
  let again := fun (x : Compare) =>
    if x.state = 1 ∨ x.state = 2 ∨ x.state = 3 then
      { x with state := if equalToo then writtenState x.value c.counter c.speed else armedState x.value c.counter c.speed }
    else x
  s.setVentCh n { c with compares := fmapv {} again c.compares }

/-- An update moves the counter by a signed step and meets the compares in order (R498, R508, R514). -/
def applyUpdate (n : Nat) (d : Int) (s : State) : State :=
  let c := s.ventCh n
  let s1 := s.setVentCh n { c with counter := posAdd c.counter d, up := decide (0 < d), lastUpdate := s.phase.now }
  if ventsAct s then
    let due := (List.range 4).filter fun i => compareFires (fget {} c.compares i) c.counter d
    reviewCompares false n (due.foldl (fun s i => fireCompare n i (decide (0 < d)) s) s1)
  else s1

/-! ## Counting (R498 to R501, R505) -/

/-- What a transition of the lines is. -/
inductive Transition where
  | still | illegal | reference
  | count (up : Bool)
deriving DecidableEq, Repr

/-- The place of a state of A and B in the order of counting up: 00, A, A and B, B (R499). -/
def quadPlace (l : BitVec 3) : Nat :=
  match l.getLsbD 0, l.getLsbD 1 with
  | false, false => 0
  | true, false => 1
  | true, true => 2
  | false, true => 3

/-- The place of a state (U, V, W) in the order of counting up, none for 000 and 111 (R501). -/
def hallPlace (l : BitVec 3) : Option Nat :=
  let uvw := 4 * flag (l.getLsbD 0) 0 + 2 * flag (l.getLsbD 1) 0 + flag (l.getLsbD 2) 0
  [1, 3, 2, 6, 4, 5].findIdx? (· == uvw)

/-- Lines that differ. -/
def linesChanged (a b : BitVec 3) : Nat := ((List.range 3).filter fun i => a.getLsbD i != b.getLsbD i).length

/-- A transition in QUAD (R499, R500). -/
def quadTransition (old new : BitVec 3) : Transition :=
  match (quadPlace new + 4 - quadPlace old) % 4 with
  | 0 => .still
  | 1 => .count true
  | 2 => .illegal
  | _ => .count false

/-- A transition in HALL (R500, R501). -/
def hallTransition (old new : BitVec 3) : Transition :=
  if old = new then .still
  else if linesChanged old new ≥ 2 then .illegal
  else
    match hallPlace old, hallPlace new with
    | _, none => .illegal
    | none, some _ => .reference
    | some a, some b =>
      match (b + 6 - a) % 6 with
      | 1 => .count true
      | 5 => .count false
      | _ => .illegal

/-- The speed after a count: its period, discarded for the first count after a reversal (R505). -/
def countSpeed (up : Bool) (c : VentChannel) : VentChannel :=
  let c1 := { c with counts := min 2 (c.counts + 1), samples := 0 }
  if c.counts = 0 ∨ c.up ≠ up ∨ c.samples = 0 then c1
  else { c1 with speed := if up then 10000000 else -10000000, speedDen := c.samples }

/-- An illegal transition is counted, reported at most once per 256 rods, and a high rate faults the channel (R500, R519). -/
def illegalTransition (n : Nat) (s : State) : State :=
  let c := s.ventCh n
  let due := match c.illegalRaised with
    | none => true
    | some r => decide (s.cycle ≥ r + 256)
  let k := sat 0xFFFFFFFF (c.illegals + 1)
  let s1 := s.setVentCh n
    { c with illegal := true, illegals := k, recent := 0 :: c.recent, illegalRaised := if due then some s.cycle else c.illegalRaised }
  let s2 := if due then raise 0x0E01 [n, k, c.counter.toNat, low32 s.cycle] s1 else s1
  if 4 < c.recent.length + 1 then enterVentFault n 1 s2 else s2

/-- ENCODER_UPDATE: the new filtered levels, and the samples since the channel's previous transition (R497 to R501, R505, R508). -/
def execEncoderUpdate (channel : Nat) (lines : BitVec 3) (samples : Nat) (s : State) : Host.Outcome State Fault Refusal :=
  let v := s.cfg.vent channel
  let m := ventMode v
  if m ≠ 1 ∧ m ≠ 2 then .next s
  else
    let c := s.ventCh channel
    let t := if m = 1 then quadTransition c.lines lines else hallTransition c.lines lines
    let s1 := s.setVentCh channel
      { c with lines := lines, samples := c.samples + samples, recent := (c.recent.map fun a => a + samples).filter fun a => decide (a < 1024) }
    match t with
    | .still => .next s1
    | .reference => .next s1
    | .illegal => if ventsAct s then .next (illegalTransition channel s1) else .next s1
    | .count u =>
      let up := u != ventInverted v
      if c.holds then .next s1
      else
        let s2 := if ventsAct s then s1.setVentCh channel (countSpeed up (s1.ventCh channel)) else s1
        .next (applyUpdate channel (if up then 1 else -1) s2)

/-- With no motion no armed compare is behind it (R510). -/
def reviewStill (n : Nat) (s : State) : State :=
  let c := s.ventCh n
  s.setVentCh n { c with compares := fmapv {} (fun x : Compare => if x.state = 2 then { x with state := 1 } else x) c.compares }

/-- SPEED_TIMEOUT: no count for speed_timeout (R505). -/
def execSpeedTimeout (channel : Nat) (s : State) : Host.Outcome State Fault Refusal :=
  let m := ventMode (s.cfg.vent channel)
  if ventsAct s ∧ (m = 1 ∨ m = 2) then
    .next (reviewStill channel (s.setVentCh channel { s.ventCh channel with speed := 0, speedDen := 1 }))
  else .next s

/-! ## Index (R506, R507) -/

/-- INDEX_EVENT: an edge of Z with the gate met; the capture, then the homing (R506, R507, R514). -/
def execIndexEvent (channel : Nat) (lines : BitVec 3) (s : State) : Host.Outcome State Fault Refusal :=
  let v := s.cfg.vent channel
  let c0 := s.ventCh channel
  let gate := !bit (u8 v 1) 4 || (lines.getLsbD 0 == bit (u8 v 4) 0 && lines.getLsbD 1 == bit (u8 v 4) 1)
  if ventMode v ≠ 1 ∨ ventsAct s = false ∨ u8 v 3 = 0 ∨ lines.getLsbD 2 = false ∨ gate = false then .next s
  else
    let c := { c0 with lines := (c0.lines &&& 0x3#3) ||| 0x4#3, indexSeen := true, index := c0.counter }
    let home := !c.holds && ((u8 v 3 == 2 && !c.homeDone) || u8 v 3 == 3)
    if home = false then .next (s.setVentCh channel c)
    else
      let value := BitVec.ofNat 32 (u32 v 20)
      let s1 := s.setVentCh channel { c with counter := value, homed := true, homeDone := true }
      if u8 v 3 = 2 ∨ c0.counter ≠ value then .next (raise 0x0E04 [channel, c0.counter.toNat, u32 v 20] s1) else .next s1

/-! ## SSI (R502) -/

/-- A Gray code of `w` bits as a number. -/
def grayValue (w n : Nat) : Nat := (List.range w).foldl (fun a k => a ^^^ (n >>> k)) 0

/-- Ones among the low bits of a number. -/
def onesOf (w n : Nat) : Nat := ((List.range w).filter fun k => bit n k).length

/-- A read fails: the data line low before it, or parity odd (R502). -/
def ssiFails (v : List Byte) (dataHigh : Bool) (bits : Nat) (parity : Bool) : Bool :=
  !dataHigh || (bit (u8 v 1) 3 && (onesOf (u8 v 5) bits + flag parity 0) % 2 == 1)

/-- A good read: the first sets the counter; a later one moves it by the signed difference, an update where it is not 0 (R498, R502, R505). -/
def ssiGood (n value : Nat) (s : State) : State :=
  let v := s.cfg.vent n
  let w := u8 v 5
  let c := { s.ventCh n with ssiFailed := 0, homed := true, counts := min 2 ((s.ventCh n).counts + 1) }
  if c.holds then s.setVentCh n { s.ventCh n with ssiFailed := 0 }
  else if c.ssiRead = false then s.setVentCh n { c with ssiRead := true, counter := BitVec.ofNat 32 value }
  else
    let d := signed w (value + 2 ^ w - c.counter.toNat % 2 ^ w)
    let s1 := s.setVentCh n { c with speed := d * (2 ^ u8 v 6 * s.freq : Nat), speedDen := 1000000 }
    if d = 0 then reviewStill n s1 else applyUpdate n d s1

/-- SSI_READ: at the next of the channel's angles, the level of the data line before the read, the data bits and the parity bit (R502). -/
def execSsiRead (channel : Nat) (dataHigh : Bool) (bits : Nat) (parity : Bool) (s : State) : Host.Outcome State Fault Refusal :=
  let v := s.cfg.vent channel
  if ventMode v ≠ 3 ∨ ventsAct s = false then .next s
  else
    let step := 65536 / 2 ^ u8 v 6
    let a := (s.angle + step - 1) / step * step
    let s0 := if a < 65536 then s.atAngle a else s
    if ssiFails v dataHigh bits parity then
      let c := s0.ventCh channel
      let s1 := countVent channel 1 (s0.setVentCh channel { c with ssiError := true, ssiFailed := c.ssiFailed + 1 })
      if 3 ≤ c.ssiFailed + 1 then .next (enterVentFault channel 2 s1) else .next s1
    else
      let raw := bits % 2 ^ u8 v 5
      .next (ssiGood channel (if bit (u8 v 1) 2 then grayValue (u8 v 5) raw else raw) s0)

/-! ## The positioner (R512, R513) -/

/-- POSITIONER_EVALUATION (R512). -/
def execPositionerEvaluation (channel : Nat) (s : State) : Host.Outcome State Fault Refusal :=
  let v := s.cfg.vent channel
  let l := s.cfg.ventLimits channel
  let c := s.ventCh channel
  if ventMode v = 0 ∨ hasPositioner v = false ∨ ventsAct s = false then .next s
  else if (ventGoverning c).1 = 0 ∨ c.fault ≠ 0 ∨ feedbackInvalid s channel = true ∨ c.stopHold = true then .next (stopRun channel s)
  else if c.starting then .next (s.setVentCh channel { c with run := true, starting := false })
  else if c.run = false then
    let opens := errorAbove s channel 1 (u16 l 4)
    let closes := errorAbove s channel (-1) (u16 l 4)
    if (opens || closes) && (c.dir == opens || decide (u16 v 26 ≤ s.msSince c.lowTicks)) then
      .next (s.setVentCh channel { c with dir := opens, starting := true })
    else .next s
  else if errorAbove s channel (if c.dir then 1 else -1) (u16 l 6) then .next s
  else .next (stopRun channel s)

/-- MOVE_TIMEOUT (R513); an update at this tick counts (R514). -/
def execMoveTimeout (channel : Nat) (s : State) : Host.Outcome State Fault Refusal :=
  if ventsAct s ∧ (s.ventCh channel).run = true ∧ (s.ventCh channel).lastUpdate ≠ s.phase.now then .next (enterVentFault channel 3 s) else .next s

/-- MAX_RUN_TIMEOUT (R513). -/
def execMaxRunTimeout (channel : Nat) (s : State) : Host.Outcome State Fault Refusal :=
  if ventsAct s ∧ (s.ventCh channel).run = true then .next (enterVentFault channel 4 s) else .next s

/-! ## The 64-bit extension (R504) -/

def extendVent (n : Nat) (s : State) : State :=
  let c := s.ventCh n
  s.setVentCh n { c with extended := c.extended + posDiff c.counter c.extendedFrom, extendedFrom := c.counter }

/-- EXTENSION_UPDATE: firmware reads every counter (R504). -/
def execExtensionUpdate (s : State) : Host.Outcome State Fault Refusal :=
  if ventsAct s then .next ((List.range 12).foldl (fun s n => extendVent n s) s) else .next s

/-- A start through the boot ROM: counter 0, HOMED clear, every compare off, run low, the extension from the counter; levels and counts of statistics stay (R503, R504, R513). -/
def startVents (s : State) : State :=
  { s with vent := { s.vent with channels := fmapv {} (fun x : VentChannel =>
      { lines := x.lines, illegals := x.illegals, stats := x.stats, lowTicks := if x.run then s.clock.ticksRun else x.lowTicks }) s.vent.channels } }

/-- Fallow mode: run_out and dir_out take their fallow states, and nothing acts (R503, R513). -/
def fallowVents (s : State) : State := (List.range 12).foldl (fun s n => stopRun n s) s

/-! ## VENT commands (R518, R520, R521) -/

/-- 0 OFF, 1 RUNNING, 2 FAULT. -/
def ventState (s : State) (n : Nat) : Nat := if ventMode (s.cfg.vent n) = 0 then 0 else if (s.ventCh n).fault ≠ 0 then 2 else 1

/-- The reported speed, in whole counts per second (R505; log 10 for its rounding). -/
def ventSpeed (c : VentChannel) : Int := clampInt (-(2 ^ 31)) (2 ^ 31 - 1) (quotientInt c.speed c.speedDen)

def compareStates (c : VentChannel) : List Byte := (List.range 4).flatMap fun i => le 1 (fget {} c.compares i : Compare).state
def compareValues (c : VentChannel) : List Byte := (List.range 4).flatMap fun i => le 4 (fget {} c.compares i : Compare).value.toNat

def ventReadBytes (s : State) (n : Nat) : List Byte :=
  let c := s.ventCh n
  let g := ventGoverning c
  le 1 (ventState s n) ++ le 1 g.1 ++ le 2 (ventFlags c) ++ le 4 c.counter.toNat ++ leInt 8 c.extended ++ le 4 (toWord (ventFraction s n)).toNat
    ++ leInt 4 (ventSpeed c) ++ le 4 c.index.toNat ++ le 2 g.2 ++ le 2 (ventTarget s n) ++ compareStates c ++ compareValues c
    ++ cycle64 c.lastUpdate.cycle ++ le 2 c.lastUpdate.angle ++ zeros 2

/-- A channel number of 0 to 11 with reserved bytes zero. -/
def ventArgument (c : Call) : Option Nat := if u8 c.pay 0 ≤ 11 ∧ allZero ((c.pay.take 4).drop 1) then some (u8 c.pay 0) else none

def execVentRead (mbx : Nat) (s : State) : Host.Outcome State Fault Refusal :=
  .next (serve 0x0E01 1 (· == 4) (fun c s =>
    match ventArgument c with
    | none => (s, bad 6)
    | some n =>
      let s1 := extendVent n s
      (s1, ok (ventReadBytes s1 n))) mbx s)

def execVentCompare (mbx : Nat) (s : State) : Host.Outcome State Fault Refusal :=
  .next (serve 0x0E02 2 (· == 8) (fun c s =>
    let n := u8 c.pay 0
    let i := u8 c.pay 1
    let a := u8 c.pay 2
    if n > 11 ∨ i > 3 ∨ a % 128 ≥ 4 ∨ u8 c.pay 3 ≠ 0 then (s, bad 6)
    else if ventMode (s.cfg.vent n) = 0 then (s, bad 8)
    else
      let x := s.ventCh n
      let v := BitVec.ofNat 32 (u32 c.pay 4)
      let y : Compare := if bit a 7 then { value := v, action := a % 128 } else { value := v, action := a, state := writtenState v x.counter x.speed }
      (s.setVentCh n { x with compares := fput {} x.compares i y }, ok (le 1 y.state ++ zeros 3 ++ le 4 x.counter.toNat))) mbx s)

def execVentPreset (mbx : Nat) (s : State) : Host.Outcome State Fault Refusal :=
  .next (serve 0x0E03 2 (· == 8) (fun c s =>
    match ventArgument c with
    | none => (s, bad 6)
    | some n =>
      let m := ventMode (s.cfg.vent n)
      if m = 0 ∨ m = 3 then (s, bad 8)
      else
        let v := BitVec.ofNat 32 (u32 c.pay 4)
        (reviewCompares true n (s.setVentCh n { s.ventCh n with counter := v, homed := true, extended := s32 c.pay 4, extendedFrom := v }), ok [])) mbx s)

def execVentSet (mbx : Nat) (s : State) : Host.Outcome State Fault Refusal :=
  .next (serve 0x0E04 2 (· == 4) (fun c s =>
    let n := u8 c.pay 0
    let p := u16 c.pay 2
    if n > 11 ∨ u8 c.pay 1 ≠ 0 ∨ (p > 10000 ∧ p ≠ 0xFFFF) then (s, bad 6)
    else if ventMode (s.cfg.vent n) = 0 ∨ hasPositioner (s.cfg.vent n) = false then (s, bad 8)
    else
      let s1 := s.setVentCh n { s.ventCh n with host := if p = 0xFFFF then none else some p, stopHold := false }
      (s1, ok (le 1 (ventGoverning (s1.ventCh n)).1 ++ zeros 3))) mbx s)

/-- VENT.CLEAR of a channel: the flags of a mask, FAULT and the STOP hold end; an SSI fault whose three failed reads stand comes again (R521). -/
def clearVent (n mask : Nat) (s : State) : State :=
  let c := s.ventCh n
  let s1 := s.setVentCh n
    { c with fired := c.fired &&& ~~~(BitVec.ofNat 4 (mask / 4096)), ssiError := c.ssiError && !bit mask 6, indexSeen := c.indexSeen && !bit mask 4,
             illegal := c.illegal && !bit mask 3, fault := 0, stopHold := false, homeDone := false, recent := [] }
  if c.fault = 2 ∧ 3 ≤ c.ssiFailed then enterVentFault n 2 s1 else s1

def execVentClear (mbx : Nat) (s : State) : Host.Outcome State Fault Refusal :=
  .next (serve 0x0E05 2 (· == 4) (fun c s =>
    let n := u8 c.pay 0
    let mask := u16 c.pay 2
    if n > 11 ∨ u8 c.pay 1 ≠ 0 ∨ mask &&& 0x0FA7 ≠ 0 then (s, bad 6)
    else
      let s1 := clearVent n mask s
      (s1, ok (le 2 (ventFlags (s1.ventCh n)) ++ le 1 (ventState s1 n) ++ zeros 1))) mbx s)

/-- The counters of VENT.STATS: illegal transitions, SSI errors, faults, compares fired. -/
def ventStatBytes (c : VentChannel) : List Byte := le 4 c.illegals ++ ([1, 2, 3].flatMap fun i => le 4 (count32 (fget 0 c.stats i)))

def execVentStats (mbx : Nat) (s : State) : Host.Outcome State Fault Refusal :=
  .next (serveRead 0x0E06 1 (· == 4) (fun c s =>
    match ventArgument c with
    | none => bad 6
    | some n => ok (ventStatBytes (s.ventCh n))) mbx s)

end Sys2Proof.Machine
end

