-- ==== Sys2Proof/Machine/Starts.lean ====
section
/-! DEFINITION. Chapter 21: power, the boot sequence, the start ledger, confirms and failures, fallow and test mode, and the START commands. -/

namespace Sys2Proof.Machine

/-! ## What stops (R169, R193, R325, R397, R433, R439, R458, R472, R540, R629) -/

/-- A calendar bead stands at the index it was last armed for, if its rod has not begun (R169). -/
def stopCalendar (cycle : Nat) (c : Calendar) : Calendar :=
  { c with armed := none, next := if c.armed.any fun r => decide (cycle < r) then c.next - 1 else c.next }

/-- The abacus stops, and its bead layer releases every output; placed beads are lost (R144, R169). The counters of BEAD.STATS stay, and how far the calendar beads had come. -/
def stopAbacus (cycle : Nat) (a : Abacus) : Abacus :=
  { calendar := fmapv {} (stopCalendar cycle) a.calendar, fired := a.fired, slidCount := a.slidCount, skipped := a.skipped, late := a.late, peakRod := a.peakRod, peakAngle := a.peakAngle,
    provAdmitted := a.provAdmitted }

/-- A loop slot at a start: nothing but its counters stays; ST registers are zero (R290, R306). -/
def stopLoop (x : Loop) : Loop :=
  { samples := x.samples, overruns := x.overruns, misses := x.misses, fallbacks := x.fallbacks, implausibles := x.implausibles }

def stopEngine (e : Engine) : Engine :=
  { e with
    running := false, queue := [], thirds := [], recomputes := [], checkedRod := false, loops := fmapv {} stopLoop e.loops
    processors := fmapv {} (fun p : Processor => { p with sample := none }) e.processors }

/-- The reckoner keeps its leases, loans, numbers and counters (R206, R208, R216, R226). -/
def stopReck (now : Instant) (r : Reck) : Reck :=
  { current := r.current, next := r.next, loans := r.loans, nextLoan := r.nextLoan, deadlined := r.deadlined, heatInstant := now, stats := r.stats }

/-- CFP sends nothing; the address and role tables stay, and each role is held at its last address and epoch (R433). -/
def stopCfp (c : Cfp) : Cfp :=
  { c with
    buses := fmapv {} (fun b : Bus => { nodes := b.nodes, stats := b.stats }) c.buses
    roles := fmapv {} (fun r : RoleEntry => { address := r.address, epoch := r.epoch }) c.roles
    readings := [] }

/-- A fan output of which only the counters stay, in a state and duty. -/
def stopFanOutput (state duty : Nat) (o : FanOutput) : FanOutput := { state := state, duty := duty, runMs := o.runMs, stats := o.stats }

/-- Every fan output in a state and duty; zones and groups are as never written (R472, R473). -/
def stopFans (state : Nat → Nat) (duty : Nat → Nat) (f : Fan) : Fan :=
  { f with
    outputs := (List.range 12).foldl (fun m i => fput {} m i (stopFanOutput (state i) (duty i) (fget {} m i))) f.outputs
    groups := fmapv {} (fun g : FanGroup => { runMs := g.runMs, stats := g.stats }) f.groups
    zones := [], silent := false }

/-- The occurrences that wait are skipped with cause 7 (R171). -/
def skipStopped (s : State) : State := (waitingOccs s).foldl (fun s o => raiseSkipped o 7 s) s

/-- What a start through the boot ROM and fallow entry both stop. -/
def stopChip (s0 : State) : State :=
  let s := skipStopped s0
  { s with
    cfg := { s.cfg with staged := [], validating := none, nextBase := none, restartAt := none, restartJob := none, report := none, triggers := [] }
    abacus := stopAbacus s.cycle s.abacus
    carry := {}
    engine := stopEngine s.engine
    reck := stopReck s.phase.now s.reck
    commons := { stats := s.commons.stats, peakQueue := s.commons.peakQueue, suppressed := s.commons.suppressed }
    cfp := stopCfp s.cfp
    fan := { s.fan with silent := false }
    panel := { s.panel with request := none, digits := [] }
    pins := { s.pins with loop := [], readback := [] }
    start := { s.start with fallowAt := none, leaving := false, running := none, rodRun := false }
    super := { s.super with
      warmAt := none, fwVerifying := false, fwStaged := none, fwChange := none, watchdog := false, testing := false, retiring := none
      pauseRods := 0, state := 5 }
    spare := { s.spare with waiting := s.spare.waiting.map (fun w : Substitution => { w with request := none }), finished := [] }
    sec := { s.sec with attesting := none } }

/-- Field buses off, or with the fallow beacon on every enabled channel (R397, R631). -/
def silenceChannels (beacon : Bool) (s : State) : State :=
  (List.range 8).foldl (fun s n =>
    s.setChan n { stats := (s.chan n).stats, spare := (s.chan n).spare, state := if beacon && chEnabled (s.cfg.channel n) then 5 else 0 })
    { s with fbus := { s.fbus with switching := none } }

/-! ## A start through the boot ROM begins (R74, R623, R629) -/

/-- Boot ROM mode: every request and session is gone, every block is stopped, and only mailbox 0 is free (R714). -/
def enterBoot (s : State) : State :=
  let s1 := stopSense (startVents (stopValves true (silenceChannels false (stopChip (abandon 5 s)))))
  let s2 := { s1 with
    fan := stopFans (fun _ => 0) (fun _ => 0) s1.fan
    pins := { s1.pins with host := [], tested := [] }
    snap := { s1.snap with schedule := [] }
    start := { s1.start with step := 1 }
    hif := { s1.hif with supPause := false, reqFree := 0x0001#16 } }
  setMode .bootRom (changeOutage 3 0 s2)

/-! ## Fallow mode (R629, R630, R637) -/

/-- A cause of R626 that is counted. -/
def countedCause (c : Nat) : Bool := decide (1 ≤ c) && decide (c ≤ 10)

/-- Entries of the current streak: the newest counted failures, as many as the count says (R637; log 42). -/
def streakLength (l : Ledger) : Nat := min 8 (min l.count (l.attempts.takeWhile fun a => countedCause a.cause).length)

/-- The image of the active slot, if its signature verifies: what fallow mode takes polarities and bit timing from where no configuration is applied (R397, R472, R557). -/
def fallowImage (s : State) : Option BaseImage :=
  let x := s.cfgSlot s.cfg.active
  let v := validateImage s x
  if x.state.code = 0 ∨ v.1.step = 1 ∨ v.1.step = 2 then none else some v.2

/-- Whether fallow mode for a reason is owner-requested time (R25, R562). -/
def ownerFallow (s : State) (reason : Nat) : Nat := if reason = 2 ∨ (reason = 3 ∧ bit (u8 s.cfg.panel 0) 3) then 2 else 0

/-- Entry to fallow mode: 1 LEDGER, 2 OWNER, 3 PANEL. -/
def enterFallow (reason : Nat) (s : State) : State :=
  let s0 := if s.hif.mode = .start ∨ s.hif.mode = .running then abandon 4 s else s
  let s1 := stopSense (fallowVents (stopValves false (stopChip s0)))
  let s2 := if s1.cfg.base.isNone ∨ s1.cfg.borrowed then { s1 with cfg := { s1.cfg with base := fallowImage s1, borrowed := true } } else s1
  let s3 := silenceChannels true s2
  let enabled := fun i => fanEnabled (s3.cfg.fan i)
  let l := s3.start.ledger
  let record : ReasonRecord :=
    { reason := reason, count := l.count, threshold := l.threshold, streak := streakLength l, seconds := s3.clock.seconds, cycle := s3.cycle,
      attempts := l.attempts }
  let s4 := { s3 with
    fan := stopFans (fun i => if enabled i then 6 else 0) (fun i => if enabled i then 1000000 else 0) s3.fan
    start := { s3.start with
      reason := some record, fallowReason := reason, fallowTicks := s3.clock.ticksRun, leftWay := 0, loaded := some l.map }
    hif := { s3.hif with supPause := false, reqFree := s3.hif.reqFree ||| 0x7FFE#16, cause := s3.hif.cause ||| 0x20#7 } }
  raise 0x1405 [reason, l.count, lastCause s4, low32 s4.cycle] (setMode .fallow (changeOutage 4 (ownerFallow s4 reason) s4))

/-- The fallow beacon of a channel (R631). -/
def beaconFrame (s : State) (n : Nat) : CanFrame :=
  let r := chRefId (s.cfg.channel n)
  { ident := if r = 0xFFFF then 0x7EF else r + 7,
    data := le 1 3 ++ le 1 s.start.fallowReason ++ le 1 s.start.ledger.count ++ le 1 (lastCause s) ++ be 4 (low32 ownUid) }

/-- FALLOW_BEACON: an enabled channel of the verified slot sends its beacon from the reference buffer (R397, R631). -/
def execFallowBeacon (channel : Nat) (s : State) : Host.Outcome State Fault Refusal :=
  if s.hif.mode = .fallow ∧ (s.chan channel).state = 5 then
    .next (countChan channel 0 1 (s.setChan channel { s.chan channel with sent := some (beaconFrame s channel) }))
  else .next s

/-! ## Attempts (R624, R626, R636) -/

def slots (p : Nat × Nat) : Nat := p.1 * 256 + p.2
def preferredPair (l : Ledger) : Nat × Nat := (l.preferredFw, l.preferredCfg)

/-- The pair an attempt uses: preferred at an even count, confirmed at an odd one (R624). -/
def attemptPair (l : Ledger) : Nat × Nat := if l.count % 2 = 0 then preferredPair l else l.confirmed.getD (preferredPair l)

def State.setLedger (s : State) (l : Ledger) : State := { s with start := { s.start with ledger := l } }

/-- Version of a firmware slot; 0 where it could not be read. -/
def fwVersion (x : ImageSlot) : Nat := if x.state.code = 0 then 0 else u32 x.bytes 12

/-- A new attempt entry, newest first, of at most eight (R635). -/
def pushAttempt (a : Attempt) (s : State) : State :=
  s.setLedger { s.start.ledger with attempts := (a :: s.start.ledger.attempts).take 8 }

/-- The entry of an attempt with a pair, as it begins. -/
def newAttempt (s : State) (pair : Nat × Nat) (cause : Nat) : Attempt :=
  { cause := cause, fwSlot := pair.1, cfgSlot := pair.2, fwVersion := fwVersion (s.fwSlot pair.1), cfgVersion := slotVersion (s.cfgSlot pair.2),
    seconds := s.clock.seconds }

/-- The cause and detail of the attempt in progress (R626). -/
def closeAttempt (cause detail : Nat) (s : State) : State :=
  match s.start.ledger.attempts with
  | [] => s
  | a :: as => s.setLedger { s.start.ledger with attempts := { a with cause := cause, detail := detail } :: as }

/-- An attempt is in progress. -/
def attempting (s : State) : Bool := (s.start.ledger.attempts.head?.map fun a => a.cause) == some 0xFF

/-- An attempt that loss of supply ended is closed with POWER_LOST (R627). -/
def closeLost (s : State) : State :=
  match s.start.ledger.attempts.head? with
  | none => s
  | some a =>
    if a.cause = 0xFF then raise 0x1407 [s.start.reached, slots (a.fwSlot, a.cfgSlot), a.seconds] (closeAttempt 11 0 s) else s

/-- Step 1 of R623: the pair is chosen, the attempt recorded, START.ATTEMPT and START.FALLBACK raised. -/
def beginAttemptEntry (s : State) : State :=
  let s1 := closeLost s
  let l := s1.start.ledger
  let pair := attemptPair l
  let a := newAttempt s1 pair 0xFF
  let s2 := pushAttempt a { s1 with start := { s1.start with ledger := { l with starts := l.starts + 1 }, step := 1, reached := 1 } }
  let s3 := raise 0x1401 [l.count, slots pair, a.fwVersion, a.cfgVersion] s2
  if pair = preferredPair l then s3 else raise 0x1404 [slots (preferredPair l), slots pair, l.count] s3

/-- Fallow mode that a counted failure leads to: by the threshold, or because it has been asked for and the failure came first (R629, R638; log 42). -/
def failureFallow (s : State) (n : Nat) : Option Nat :=
  let asked := if s.panel.request = some 2 then some 3 else s.start.fallowAt.map Prod.snd
  if s.hif.mode ≠ .start ∧ s.hif.mode ≠ .running then (if s.start.ledger.threshold ≤ n then some 1 else none)
  else
    match asked with
    | some 3 => some (if s.start.ledger.threshold ≤ n then 1 else 3)
    | some r => some r
    | none => if s.start.ledger.threshold ≤ n then some 1 else none

/-- A counted cause ends an attempt: the chip restarts through the boot ROM, or fallow mode is entered (R626, R629). -/
def failAttempt (cause detail : Nat) (s : State) : State :=
  let s1 := closeAttempt cause detail s
  let l := s1.start.ledger
  let a := l.attempts.headD {}
  let n := sat 255 (l.count + 1)
  let s2 := raise 0x1403 [cause, detail, a.fwVersion, a.cfgVersion] (s1.setLedger { l with count := n, failures := l.failures + 1 })
  match failureFallow s2 n with
  | some reason => enterFallow reason s2
  | none => enterBoot s2

/-! ## The boot sequence (R623) -/

/-- The cores that pass their self-tests at a start: the two lowest-numbered form the pair; an outright failure in service is replaced with cause 4 (R646, R651). -/
def bootCores (passed : BitVec 3) (s : State) : State :=
  let tested := [0, 1, 2].filter fun c => unitState s 1 c != 3
  let cores := (tested.filter fun c => passed.getLsbD c).take 2
  let failed := tested.find? fun c => unitState s 1 c == 1 && !passed.getLsbD c
  let s1 := match cores.find? fun c => unitState s 1 c == 2, failed with
    | some c, some f => if cores.length = 2 then writeLedger 1 4 f (some c) s else s.setUnit 1 c { s.unit 1 c with state := 1, entered := s.spare.eqMicros / 1000000 }
    | _, _ => s
  runCores cores 4 s1

/-- Loops at a start: enabled ones in SOFT, in their configured timing (R283, R287). -/
def startLoops (s : State) : State :=
  s.cfg.loopSlots.foldl (fun s l =>
    let x := s.loop l
    s.setLoop l { x with mode := if s.loopEnabled l then .soft else .disabled, softFirst := s.loopEnabled l, period := bit (u8 (s.cfg.loopRec l) 1) 0 }) s

/-- Fans at a start: the configured drivers take over, and the host-silence count starts (R472, R476, R477). -/
def startFans (s : State) : State :=
  { s with fan := { stopFans (fun i => if fanEnabled (s.cfg.fan i) then 1 else 0) (fun _ => 0) s.fan with lastRequest := s.clock.ticksRun } }

/-- A configured calendar bead enters the table at a start: instants that passed while the abacus stood are skipped with cause 7 (R169). -/
def loadCalendar (s : State) (e : Nat × Bead) : State :=
  let b := beadOf e.2.record
  if b.select = 2 ∧ (s.calendar e.1).rule = some (b.start, b.period) then skipPassed 7 e.1 e.2 s else enterCalendar s e

/-- The table as a start loads it (R144, R169). -/
def startBeads (s : State) : State :=
  let m := loadBeads s.cfg
  m.foldl loadCalendar { s with abacus := { s.abacus with
    beads := m, calendar := s.abacus.calendar.filter fun e => m.any fun b => b.1 == e.1 } }

/-- Step 4 of R623: the configuration is applied. -/
def applyConfiguration (im : BaseImage) (slot : Nat) (s : State) : State :=
  let s1 := becomeActive im slot false s
  let first := !s1.phase.applied
  let p := s1.phase
  let s2 := { s1 with
    phase := { p with applied := true, good := if first then 0 else p.good, acquireTurns := if first then 0 else p.acquireTurns }
    reck := { s1.reck with heatInstant := p.now } }
  startFans (startLoops (startChannels (startCommons (settleTimebase s.cfg (startBeads s2)))))

/-- Step 5 of R623: hand-over to the verified firmware, in start mode; mailboxes 1 to 14 are free (R714). -/
def handOver (fw : RunningFw) (s : State) : State :=
  setMode .start
    { s with
      start := { s.start with running := some fw, handTicks := s.clock.ticksRun, step := 5 }
      super := { s.super with state := if s.super.single then 1 else 0 }
      hif := { s.hif with reqFree := s.hif.reqFree ||| 0x7FFE#16 } }

/-- The cause that a failing step of R667 gives (R626). -/
def fwCause (step : Nat) : Nat := if step = 1 then 1 else if step = 4 then 3 else 2

/-- Steps 3 to 5 with a verified firmware; a refused image raises CFG.VALIDATION_FAILED (R105). -/
def bootConfiguration (fw : RunningFw) (slot : Nat) (s : State) : State :=
  let x := s.cfgSlot slot
  if x.state = .empty ∨ x.state = .partly then failAttempt 4 0 s
  else
    let (o, im) := validateImage s x
    let s1 := raise 0x0205 [slot, o.step, o.status, o.offset] s
    if o.step = 0 then handOver fw (applyConfiguration im slot (s.setCfgSlot slot { x with state := .validated }))
    else if o.step = 2 then failAttempt 5 0 s1
    else if o.step = 3 then failAttempt 6 0 s1
    else failAttempt 7 o.step s1

/-- BOOT_SEQUENCE: one attempt, whole; bit c of the operand says that core c passed its self-test (R623 to R627, R630, R651). -/
def execBootSequence (passed : BitVec 3) (s : State) : Host.Outcome State Fault Refusal :=
  if s.hif.mode ≠ .bootRom ∨ s.pins.inReset then .next s
  else
    let s1 := bootCores passed { s with start := { s.start with loaded := some s.start.ledger.map } }
    if s1.super.cores = [] then .next s1
    else
      let s2 := beginAttemptEntry s1
      let pair := attemptPair s1.start.ledger
      let v := verifyFirmware s2 pair.1
      .next (if v.step ≠ 0 then failAttempt (fwCause v.step) 0 s2 else bootConfiguration v.fw pair.2 s2)

/-! ## Confirm, deadlines and restarts (R29, R625, R626, R633, R652) -/

/-- A start is confirmed: 1 Harlopor, 2 host (R625, R633, R670). -/
def confirmStart (source : Nat) (s : State) : State × Nat :=
  let ms := sat 65535 (s.msSince s.start.handTicks)
  let l := s.start.ledger
  let pair := (((s.start.running.map RunningFw.slot).getD l.preferredFw), s.cfg.active)
  let s1 := closeAttempt 0 0 s
  let s2 := s1.setLedger { s1.start.ledger with
    count := 0, confirmed := some pair, preferredFw := pair.1, preferredCfg := pair.2, lastConfirm := s.clock.seconds }
  let s3 := raiseCounters (raise 0x1402 [l.count, ms, source, slots pair] (setMode .running s2))
  let s4 := if s.start.leftWay = 0 then s3 else raise 0x1406 [s.start.leftWay, s.start.leftSeconds, s.start.leftCount] s3
  (endCauses (fun c => c == 3 || c == 4) { s4 with start := { s4.start with leftWay := 0, fallowReason := 0 } }, ms)

/-- HOST_CONFIRM of the start record (R639). -/
def Cfg.hostConfirm (c : Cfg) : Bool := bit (u8 ((c.baseValue 0x1401 0).getD [0]) 0) 0

/-- Harlopor's own checks: the first rod has run, and the pair has run for 1 s without a mismatch (R625; a single core has no pair to check, log 42). -/
def checksPass (s : State) : Bool :=
  s.start.rodRun && (s.super.single || decide (1000 ≤ s.msSince (max s.start.handTicks s.super.mismatchTicks)))

/-- HARLOPOR_CONFIRM: Harlopor's own confirm, once its checks pass (R625). -/
def execHarloporConfirm (s : State) : Host.Outcome State Fault Refusal :=
  if s.hif.mode ≠ .start ∨ s.cfg.hostConfirm ∨ checksPass s = false ∨ s.hif.supPause then .next s else .next (confirmStart 1 s).1

/-- CONFIRM_DEADLINE: 60 s from hand-over have passed (R625, R626). -/
def execConfirmDeadline (s : State) : Host.Outcome State Fault Refusal :=
  if s.hif.mode = .start ∧ 60000 ≤ s.msSince s.start.handTicks then .next (failAttempt 9 0 s) else .next s

/-- START_WATCHDOG_EXPIRY: a failed attempt in boot ROM and start modes; in running mode a core swap (R626, R652). -/
def execStartWatchdogExpiry (s : State) : Host.Outcome State Fault Refusal :=
  match s.hif.mode with
  | .bootRom => if s.pins.inReset then .next s else .next (failAttempt 8 0 (beginAttemptEntry s))
  | .start => .next (failAttempt 8 0 s)
  | .running => if s.hif.supPause then .next s else .next (beginCoreTest true s)
  | .fallow | .test => .next s

/-- SUPERVISOR_RESTART_DEADLINE: the 16th rod after a swap or restart began has ended without a supervisor; the chip restarts through the boot ROM, with SUPERVISOR_LOST (R29, R626). DESIGN CHOICE, log 46: the sixteen are counted by the boundaries that end them, so a rod in whose midst the swap began is the first. -/
def execSupervisorRestartDeadline (s : State) : Host.Outcome State Fault Refusal :=
  if s.hif.supPause = false ∨ (s.super.state ≠ 2 ∧ s.super.state ≠ 4) ∨ s.super.pauseRods < 16 then .next s
  else
    let pair := (((s.start.running.map RunningFw.slot).getD s.start.ledger.preferredFw), s.cfg.active)
    .next (failAttempt 10 0 (if attempting s then s else pushAttempt (newAttempt s pair 10) s))

/-- LEAVE_RESTART: 20 ms after the response of START.LEAVE has been placed (R633). -/
def execLeaveRestart (s : State) : Host.Outcome State Fault Refusal :=
  if s.start.leaving = false ∨ s.inFallow = false ∨ (s.entries 0).any (fun e => e.req.hdr.code == 0x1405 && !e.placed) then .next s
  else
    .next (enterBoot { s with start := { s.start with leftWay := 1, leftSeconds := s.msSince s.start.fallowTicks / 1000 } })

/-! ## Power (R583, R627, R708) -/

/-- Fallow mode ends by loss of power (R633). -/
def leaveByPower (s : State) : State :=
  if s.inFallow ∧ s.start.leaving = false then
    { s with start := { s.start with
        leftWay := 2, leftSeconds := s.msSince s.start.fallowTicks / 1000, leftCount := s.start.ledger.count } }
  else if s.inFallow then { s with start := { s.start with leftWay := 1, leftSeconds := s.msSince s.start.fallowTicks / 1000 } }
  else s

/-- The interval in progress is counted, and one without supply begins (R25). -/
def loseSupply (s : State) : State :=
  let s1 := match s.mail.outage with
    | none => s
    | some i => countInterval i.excluded (s.msSince i.since) s
  { s1 with mail := { s1.mail with outage := some ⟨3, s.clock.ticksRun, 1, [3]⟩ } }

/-- SUPPLY_FAIL: reset is asserted, and outputs hold the states of power-on reset (R708). The intake's reports are lost (R600). -/
def execSupplyFail (s : State) : Host.Outcome State Fault Refusal :=
  if s.pins.inReset then .next s
  else
    let s1 := leaveByPower (loseSupply s)
    .next { s1 with
      pins := { s1.pins with inReset := true }
      hif := { s1.hif with mode := .bootRom, reqFree := 0, respReady := 0 }
      recorder := { s1.recorder with intake := [] }
      abacus := stopAbacus s1.cycle s1.abacus
      engine := { s1.engine with running := false } }

/-- What the backup domain and the model's own measure keep through a reset (R578, R585). -/
def keptClock (backupKept : Bool) (c : Clock) : Clock :=
  if backupKept then
    { seconds := c.seconds, fraction := c.fraction, staged := c.staged.map (fun w : ClockWrite => { w with mailbox := none }), trim := c.trim,
      trimCount := c.trimCount, bvl := c.bvl, osf := c.osf, stopped := c.stopped, ticksRun := c.ticksRun }
  else { ticksRun := c.ticksRun }

/-- The ledger, the slots and how an attempt under way ended stay through a reset; the boot ROM is at step 1 again (R627, R635, R640). -/
def restartedStart (x : Start) : Start :=
  { x with running := none, leaving := false, fallowAt := none, loaded := none, reached := max x.reached x.step, step := 1, rodRun := false }

/-- What MRAM, flash and retired units keep through a reset: everything else is as power-on reset leaves it. -/
def powerOn (backupKept : Bool) (s : State) : State :=
  { State.reset with
    cfg := { slotA := s.cfg.slotA, slotB := s.cfg.slotB, active := s.cfg.active, stack := s.cfg.stack, loaded := s.cfg.loaded }
    phase := { pll := s.phase.pll }
    reck := { current := s.reck.current, next := s.reck.next, loans := s.reck.loans, nextLoan := s.reck.nextLoan }
    engine := { spareServes := s.engine.spareServes, processors := fmapv {} (fun p : Processor => { p with sample := none }) s.engine.processors }
    fbus := { spareState := s.fbus.spareState, spareChannel := s.fbus.spareChannel,
              channels := fmapv {} (fun c : Channel => { spare := c.spare }) s.fbus.channels }
    cfp := { buses := fmapv {} (fun b : Bus => { nodes := b.nodes }) s.cfp.buses,
             roles := fmapv {} (fun r : RoleEntry => { address := r.address, epoch := r.epoch }) s.cfp.roles }
    sense := { serving := s.sense.serving, retired := s.sense.retired }
    clock := keptClock backupKept s.clock
    recorder := { intake := [], seq := s.recorder.seq, area := s.recorder.area, kept := s.recorder.kept, armed := s.recorder.armed,
                  torn := s.recorder.torn }
    mail := { years := s.mail.years, outage := s.mail.outage }
    start := restartedStart s.start
    spare := { s.spare with waiting := [], copying := [], finished := [] }
    sec := { s.sec with attesting := none, report := none }
    hif := { reqFree := 0x0001#16 }
    free := s.free
    pending := s.pending }

/-- POWER_ON_RESET: reset is released, by the supplies or by RESET_N, and the boot ROM serves mailbox 0 (R692, R708, R714); a backup domain that lost both supplies starts at 0 with OSF set (R583). -/
def execPowerOnReset (backupKept : Bool) (s : State) : Host.Outcome State Fault Refusal :=
  let s0 := if s.pins.inReset then s else leaveByPower (loseSupply s)
  let s1 := powerOn backupKept s0
  let s2 := if backupKept then s1 else raise 0x1103 [1] s1
  .next (beginOutage 3 0 (endOutage s2))

/-! ## The display (R632) -/

/-- Segments of a decimal or hexadecimal digit (R632). -/
def segDigit (n : Nat) : Byte :=
  BitVec.ofNat 8 ([0x3F, 0x06, 0x5B, 0x4F, 0x66, 0x6D, 0x7D, 0x07, 0x7F, 0x6F, 0x77, 0x7C, 0x39, 0x5E, 0x79, 0x71].getD n 0)

/-- Two decimal digits; above 99 they show 99. -/
def segDecimal (n : Nat) : List Byte := [segDigit (min 99 n / 10), segDigit (min 99 n % 10)]
def segSlot (n : Nat) : Byte := if n = 0 then 0x77#8 else 0x7C#8

/-- The eight segment bytes shown now; dark in running mode, and blank in test mode until PANEL.DISPLAY writes them (R557, R632). -/
def displayDigits (s : State) : List Byte :=
  let l := s.start.ledger
  let a := l.attempts.headD {}
  let pair := if s.hif.mode = .bootRom then attemptPair l else (a.fwSlot, a.cfgSlot)
  let pairBytes := [segSlot pair.1, segSlot pair.2]
  match s.hif.mode with
  | .bootRom => [0x7C#8, segDigit s.start.step] ++ pairBytes ++ zeros 2 ++ segDecimal l.count
  | .start => [0x6D#8, 0] ++ pairBytes ++ segDecimal (60 - s.msSince s.start.handTicks / 1000) ++ segDecimal l.count
  | .running => zeros 8
  | .fallow => [0x71#8, segDigit s.start.fallowReason, segDigit (lastCause s / 16), segDigit (lastCause s % 16)] ++ zeros 2 ++ segDecimal l.count
  | .test => [0x78#8, 0] ++ zeros 6 |> fun d => if s.panel.digits = [] then d else s.panel.digits

/-! ## START commands (R641, R642) -/

def execStartConfirm (mbx : Nat) (s : State) : Host.Outcome State Fault Refusal :=
  .next (serve 0x1401 2 (· == 0) (fun _ s =>
    if s.hif.mode ≠ .start then (s, bad 8)
    else
      let r := confirmStart 2 s
      (r.1, ok (le 1 2 ++ zeros 1 ++ le 2 r.2))) mbx s)

def Attempt.bytes (a : Attempt) : List Byte :=
  le 1 a.cause ++ le 1 a.fwSlot ++ le 1 a.cfgSlot ++ le 1 a.detail ++ le 4 a.fwVersion ++ le 4 a.cfgVersion ++ le 4 a.seconds

/-- Eight attempt entries, those not there as zeros. -/
def attemptBytes (as : List Attempt) : List Byte := fit 128 (as.flatMap Attempt.bytes)

def execStartLedger (mbx : Nat) (s : State) : Host.Outcome State Fault Refusal :=
  .next (serveRead 0x1402 0 (· == 0) (fun _ s =>
    let l := s.start.ledger
    let c := l.confirmed.getD (0xFF, 0xFF)
    ok (le 1 l.count ++ le 1 l.threshold ++ le 1 l.preferredFw ++ le 1 l.preferredCfg ++ le 1 c.1 ++ le 1 c.2 ++ zeros 2 ++ le 4 (count32 l.starts)
      ++ le 4 (count32 l.failures) ++ le 4 l.lastConfirm ++ le 10 l.map ++ zeros 2 ++ attemptBytes l.attempts)) mbx s)

def ReasonRecord.bytes (r : ReasonRecord) : List Byte :=
  le 1 r.reason ++ le 1 r.count ++ le 1 r.threshold ++ le 1 r.streak ++ le 4 r.seconds ++ cycle64 r.cycle ++ attemptBytes r.attempts

def execStartReason (mbx : Nat) (s : State) : Host.Outcome State Fault Refusal :=
  .next (serveRead 0x1403 1 (· == 0) (fun _ s =>
    match s.start.reason with
    | none => bad 8
    | some r => ok r.bytes) mbx s)

def execStartSessionOpen (mbx : Nat) (s : State) : Host.Outcome State Fault Refusal := .next (serve 0x1404 0 openLength sessionOpen mbx s)

def execStartLeave (mbx : Nat) (s : State) : Host.Outcome State Fault Refusal :=
  .next (serve 0x1405 3 (· == 0) (fun _ s =>
    if s.inFallow = false then (s, bad 8)
    else
      let l := s.start.ledger
      ({ s with start := { s.start with
          ledger := { l with count := 0 }, leaving := true, leftCount := if s.start.leaving then s.start.leftCount else l.count } }, ok [])) mbx s)

def execStartFallow (mbx : Nat) (s : State) : Host.Outcome State Fault Refusal :=
  .next (serve 0x1406 3 (· == 0) (fun _ s =>
    if s.hif.mode ≠ .start ∧ s.hif.mode ≠ .running then (s, bad 8)
    else ({ s with start := { s.start with fallowAt := some (s.cycle + 1, 2) } }, ok (cycle64 (s.cycle + 1)))) mbx s)

def execStartSelect (mbx : Nat) (s : State) : Host.Outcome State Fault Refusal :=
  .next (serve 0x1407 3 (· == 4) (fun c s =>
    let f := u8 c.pay 0
    let g := u8 c.pay 1
    if 1 < f ∨ 1 < g ∨ u16 c.pay 2 ≠ 0 then (s, bad 6)
    else if (s.fwSlot f).state = .empty ∨ (s.cfgSlot g).state = .empty then (s, bad 8)
    else (s.setLedger { s.start.ledger with preferredFw := f, preferredCfg := g }, ok [])) mbx s)

def execStartThreshold (mbx : Nat) (s : State) : Host.Outcome State Fault Refusal :=
  .next (serve 0x1408 3 (· == 4) (fun c s =>
    let n := u8 c.pay 0
    if n < 2 ∨ 7 < n ∨ allZero (slice c.pay 1 3) = false then (s, bad 6)
    else (s.setLedger { s.start.ledger with threshold := n }, ok (le 1 s.start.ledger.threshold ++ zeros 3))) mbx s)

/-- Test mode ends: the levels written in it are released (R698). -/
def leaveTest (s : State) : State :=
  setMode .fallow
    { s with
      panel := { s.panel with digits := [] }
      pins := { s.pins with host := s.pins.host.filter (fun e => !fget false s.pins.tested e.1), tested := [] } }

def execStartTest (mbx : Nat) (s : State) : Host.Outcome State Fault Refusal :=
  .next (serve 0x1409 3 (· == 4) (fun c s =>
    let op := u8 c.pay 0
    if 1 < op ∨ allZero (slice c.pay 1 3) = false then (s, bad 6)
    else if op = 1 then (if s.hif.mode = .fallow then (setMode .test { s with panel := { s.panel with digits := [] } }, ok []) else (s, bad 8))
    else if s.hif.mode = .test then (leaveTest s, ok [])
    else (s, bad 8)) mbx s)

def execStartFallowMap (mbx : Nat) (s : State) : Host.Outcome State Fault Refusal :=
  .next (serve 0x140A 3 (· == 12) (fun c s =>
    let m := u64 c.pay 0 + 2 ^ 64 * u16 c.pay 8
    if u16 c.pay 10 ≠ 0 ∨ (List.range 40).any (fun n => m / 4 ^ n % 4 == 3) then (s, bad 6)
    else
      let s1 := s.setLedger { s.start.ledger with map := m }
      (if s.hif.mode = .bootRom ∨ s.inFallow then { s1 with start := { s1.start with loaded := some m } } else s1, ok [])) mbx s)

end Sys2Proof.Machine
end

