-- ==== Sys2Proof/Machine/Boundaries.lean ====
section
/-! DEFINITION. Chapters 01 and 04: the rod boundary sequence in its order, with a step of the cycle count (R19, R135). -/

namespace Sys2Proof.Machine

/-! ## A cycle step (R135) -/

/-- A rod number carried over a step: it skips numbers but takes no time. -/
def shiftCycle (d : Int) (c : Nat) : Nat := ((c : Int) + d).toNat
def shiftInstant (d : Int) (t : Instant) : Instant := { t with cycle := shiftCycle d t.cycle }
def shiftOcc (d : Int) (o : Occ) : Occ := { o with rod := shiftCycle d o.rod, home := shiftCycle d o.home }

/-- The rod lists, the pulses under way and the changes that wait follow the new number. -/
def shiftAbacus (d : Int) (a : Abacus) : Abacus :=
  { a with
    current := a.current.map (shiftOcc d)
    next := a.next.map fun l => l.map (shiftOcc d)
    sliding := a.sliding.map (shiftOcc d)
    layer := fmapv {} (fun x : BeadLayer => { x with pulse := x.pulse.map fun p => (p.1, shiftInstant d p.2) }) a.layer
    changes := a.changes.map fun x : BeadChange => { x with boundary := shiftCycle d x.boundary }
    ended := a.ended.map fun e => (e.1, shiftCycle d e.2) }

def shiftLoop (d : Int) (x : Loop) : Loop :=
  { x with
    due := x.due.map fun y : Due => { y with instant := shiftInstant d y.instant }
    previous := x.previous.map (shiftInstant d)
    waiting := x.waiting.map fun y : Sample => { y with instant := shiftInstant d y.instant }
    enableNext := x.enableNext.map fun e => (e.1, shiftCycle d e.2) }

def shiftProcessor (d : Int) (p : Processor) : Processor :=
  { p with sample := p.sample.map fun x : Sample => { x with instant := shiftInstant d x.instant } }

def shiftEngine (d : Int) (e : Engine) : Engine :=
  { e with
    loops := fmapv {} (shiftLoop d) e.loops
    queue := e.queue.map fun x : Sample => { x with instant := shiftInstant d x.instant }
    thirds := e.thirds.map fun x : Sample => { x with instant := shiftInstant d x.instant }
    processors := fmapv {} (shiftProcessor d) e.processors }

def shiftEntry (d : Int) (x : CarryEntry) : CarryEntry :=
  { x with opened := shiftInstant d x.opened, horizon := x.horizon.map (shiftInstant d), instant := shiftInstant d x.instant }

def shiftCarry (d : Int) (c : Carry) : Carry :=
  { c with entries := fmapv {} (shiftEntry d) c.entries }

def shiftReck (d : Int) (r : Reck) : Reck :=
  { r with
    closed := r.closed.map fun x : Closed => { x with rod := shiftCycle d x.rod }
    costs := r.costs.map fun x : Cost => { x with rod := shiftCycle d x.rod }
    charges := { r.charges with rod := shiftCycle d r.charges.rod }
    chargesNow := { r.chargesNow with rod := shiftCycle d r.chargesNow.rod }
    borrows := r.borrows.map fun b : Borrow => { b with sent := shiftCycle d b.sent }
    refusedBy := r.refusedBy.map fun e => (e.1, shiftCycle d e.2)
    overRaised := r.overRaised.map fun e => (e.1, shiftCycle d e.2)
    overflowed := r.overflowed.map fun e => (shiftCycle d e.1, e.2)
    heatInstant := shiftInstant d r.heatInstant }

def shiftFrame (d : Int) (f : TxFrame) : TxFrame := { f with due := shiftInstant d f.due }

/-- A channel's frames follow the new number; a host frame keeps the stamp that FBUS.RECEIVE reports. -/
def shiftChannel (d : Int) (c : Channel) : Channel :=
  { c with
    fifo := c.fifo.map (shiftFrame d), hold := c.hold.map (shiftFrame d)
    rx := c.rx.map fun f : RxFrame => if f.host then f else { f with stamp := shiftInstant d f.stamp }
    rxRaised := c.rxRaised.map (shiftCycle d), suspects := c.suspects.map (shiftCycle d) }

def shiftFbus (d : Int) (f : Fbus) : Fbus :=
  { f with channels := fmapv {} (shiftChannel d) f.channels, spareSuspects := f.spareSuspects.map (shiftCycle d) }

/-- A claim window keeps its length. -/
def shiftCfp (d : Int) (c : Cfp) : Cfp :=
  { c with buses := fmapv {} (fun b : Bus => if b.window then { b with lastRoll := shiftCycle d b.lastRoll } else b) c.buses }

def shiftVent (d : Int) (v : Vent) : Vent :=
  { v with channels := fmapv {} (fun c : VentChannel => { c with illegalRaised := c.illegalRaised.map (shiftCycle d) }) v.channels }

def shiftPort (d : Int) (p : Port) : Port := { p with dropRaised := p.dropRaised.map (shiftCycle d) }

def shiftRing (d : Int) (r : Ring) : Ring :=
  { r with
    ports := fmapv {} (shiftPort d) r.ports, evictRaised := r.evictRaised.map (shiftCycle d)
    duplicates := r.duplicates.map fun x : Duplicate => { x with made := shiftInstant d x.made } }

def shiftValveReq (d : Int) (r : ValveReq) : ValveReq := { r with requested := shiftInstant d r.requested }

def shiftValve (d : Int) (v : Valve) : Valve :=
  { v with
    banks := fmapv {} (fun b : ValveBank => { b with event := b.event.map fun e : ValveEvent =>
      { e with req := shiftValveReq d e.req, start := shiftInstant d e.start, phaseStart := shiftInstant d e.phaseStart } }) v.banks
    channels := fmapv {} (fun c : ValveChannel => { c with waiting := c.waiting.map (shiftValveReq d) }) v.channels }

/-- Everything that stands at an instant or waits for a boundary keeps its distance from the present rod (log 45). -/
def shiftRods (d : Int) (s : State) : State :=
  { s with
    abacus := shiftAbacus d s.abacus
    engine := shiftEngine d s.engine
    carry := shiftCarry d s.carry
    reck := shiftReck d s.reck
    ring := shiftRing d s.ring
    fbus := shiftFbus d s.fbus
    cfp := shiftCfp d s.cfp
    valve := shiftValve d s.valve
    vent := shiftVent d s.vent
    commons := { s.commons with txq := s.commons.txq.map fun e : TxEntry => { e with queued := shiftInstant d e.queued } }
    cfg := { s.cfg with
      staged := s.cfg.staged.map fun x : Staged => { x with boundary := shiftCycle d x.boundary }
      restartAt := s.cfg.restartAt.map (shiftCycle d) }
    super := { s.super with warmAt := s.super.warmAt.map (shiftCycle d) }
    recorder := { s.recorder with matched := fmapv none (Option.map (shiftCycle d)) s.recorder.matched }
    snap := { s.snap with outSince := shiftInstant d s.snap.outSince }
    start := { s.start with fallowAt := s.start.fallowAt.map fun x => (shiftCycle d x.1, x.2) } }

/-- A specific-cycle bead whose cycle the step jumps over is skipped, and its listed occurrence does not fire (R135, R152). -/
def skipJumped (first last : Nat) (s : State) (e : Nat × Bead) : State :=
  let b := beadOf e.2.record
  if e.2.spent ∨ e.2.record = [] ∨ b.enabled = false ∨ b.select ≠ 1 ∨ b.cycle < first ∨ last < b.cycle then s
  else
    let waits := (waitingOccs s).any fun o => o.bead == e.1
    if waits then skipOccs (fun o => o.bead == e.1) 8 s
    else raiseSkipped { bead := e.1, home := b.cycle, rod := b.cycle, record := e.2.record } 8 s

/-- A calendar occurrence armed for a rod that the step passes over is armed again under its index, in the first rod after the step whose pass is open; one armed for the expected rod has had its rod, whose list fires now (R154). -/
def rearmJumped (expected last : Nat) (s : State) (e : Nat × Calendar) : State :=
  match e.2.armed with
  | none => s
  | some r =>
    if r = expected then s.setCalendar e.1 { e.2 with armed := none }
    else if expected < r ∧ r ≤ last then armIndex e.1 (e.2.next - 1) (s.bead e.1) (s.cycle + 1) s
    else s

/-- What a step from the expected number to another does; the list made for the rod fires in it (R135). -/
def stepRods (expected : Nat) (s : State) : State :=
  let n := s.cycle
  if n = expected then s
  else
    let s1 := shiftRods ((n : Int) - expected) s
    let s2 := s1.abacus.beads.foldl (skipJumped expected n) s1
    s2.abacus.calendar.foldl (rearmJumped expected n) s2

/-! ## Step 2: the configuration (R97, R103, R167, R192, R287) -/

/-- The records of a loop slot differ between two configurations. -/
def loopChanged (old new : Cfg) (l : Nat) : Bool :=
  old.program l != new.program l || old.loopRec l != new.loopRec l || old.sup l != new.sup l || old.value 0x8702 l != new.value 0x8702 l

/-- A chain with an entry of a replaced loop or bead drops with cause 5 (R192); odd kinds of entries are a loop's. -/
def dropReplaced (loop : Nat → Bool) (bead : Nat → Bool) (s : State) : State :=
  let hit := fun (x : CarryEntry) => if x.kind % 2 = 1 then loop x.owner else bead x.owner
  let chains := ((s.carry.entries.filter fun e => hit e.2).map fun e => e.2.chain).eraseDups
  chains.foldl (fun s c => dropChain c 5 s) s

/-- A loop slot under the new configuration: a supervision record replaced takes LOOP.ENABLE's place, and a loop enabled or disabled changes state (R167, R287, R306). -/
def settleLoop (old : Cfg) (was : Nat → Bool) (s : State) (l : Nat) : State :=
  let s1 := if old.sup l = s.cfg.sup l then s else s.setLoop l { s.loop l with enable := none }
  let s2 := if old.loopRec l = s.cfg.loopRec l then s1 else setPeriod l (loopPeriodCfg (s1.cfg.loopRec l)) s1
  let on := s2.loopEnabled l
  if on = was l then s2
  else if on then setLoopMode l .soft (s2.setLoop l { s2.loop l with fieldSeen := [] })
  else setLoopMode l .disabled s2

/-- A channel whose record the new base changes restarts under it (R397; log 45). -/
def settleChannel (old : Cfg) (s : State) (n : Nat) : State :=
  if old.channel n = s.cfg.channel n then s
  else startChannel s n

/-- A block whose chips the new base changes begins as at a start (R325; log 45). -/
def settleBlock (old : Cfg) (fresh : FMap BlockState) (s : State) (b : Nat) : State :=
  if blockPrimary old b = blockPrimary s.cfg b ∧ blockStandby old b = blockStandby s.cfg b then s
  else { s with commons := { s.commons with blocks := fput {} s.commons.blocks b (fget {} fresh b) } }

/-- Step 2 of R19, with the bead changes that this boundary brings in (R192). -/
def configurationBoundary (s : State) : State :=
  let old := s.cfg
  let slots := fun (c : Cfg) => c.loopSlots
  let enabled := (old.loopSlots.filter s.loopEnabled)
  let s1 := settleTimebase s.cfg (applyStaged (applyNextBase s))
  let due := (s.abacus.changes.filter fun x => decide (x.boundary ≤ s.cycle)).map BeadChange.bead
  let s2 := dropReplaced (loopChanged old s1.cfg) (fun b => due.contains b || old.value 0x8401 b != s1.cfg.value 0x8401 b) s1
  let gone := old.loopSlots.filter fun l => !(slots s2.cfg).contains l
  let s3 := gone.foldl (fun s l => { setLoopMode l .disabled { s with cfg := old } with cfg := s2.cfg }) s2
  let s4 := (slots s3.cfg).foldl (settleLoop old fun l => enabled.contains l) s3
  if old.base = s4.cfg.base then s4
  else
    let s5 := (List.range 8).foldl (settleChannel old) s4
    let fresh := startBlocks s5.cfg
    (List.range 1024).foldl (settleBlock old fresh) s5

/-! ## Step 5: the abacus and the engine start the rod (R144, R152, R156, R158, R165, R166, R306) -/

/-- An occurrence of the rod that has ended, still provisional, slides with its entry (R158). -/
def slideUnchecked (s : State) (o : Occ) : State :=
  match o.entry with
  | none => s
  | some e => slideOut o e s

/-- Bead changes enter the table; sliding occurrences of changed beads are skipped, and spent placed beads leave their slots. -/
def tableBoundary (old : Cfg) (s : State) : State :=
  let due := s.abacus.changes.filter fun x => decide (x.boundary ≤ s.cycle)
  let table := tableAfter old s.cfg due s.abacus.beads
  let changed := fun (o : Occ) => (table.any fun e => e.1 == o.bead && e.2.record == (s.bead o.bead).record) == false
    || due.any fun x => x.bead == o.bead
  let out := s.abacus.sliding.filter changed
  let s1 := { s with abacus := { s.abacus with sliding := s.abacus.sliding.filter fun o => !changed o } }
  let s2 := out.foldl (fun s o => raiseSkipped o 3 s) s1
  let anew := (due.filter fun x => x.kind != 2).map BeadChange.bead
  let s3 := { s2 with abacus := { s2.abacus with
    beads := (tableAfter old s2.cfg due s2.abacus.beads).filter fun e => !(e.2.spent && e.2.origin == 2)
    calendar := s2.abacus.calendar.filter fun e => !anew.contains e.1
    changes := s2.abacus.changes.filter fun x => decide (s2.cycle < x.boundary) } }
  let kept := { s3 with abacus := { s3.abacus with calendar := s3.abacus.calendar.filter fun e => s3.abacus.beads.any fun b => b.1 == e.1 } }
  kept.abacus.beads.foldl enterCalendar kept

/-- The abacus starts the rod with the admission decided for it. -/
def abacusBoundary (old : Cfg) (s : State) : State :=
  let live := s.hif.mode == .start || s.hif.mode == .running
  let s1 := settleAll ((s.abacus.current.filter fun o => o.state == 1 && o.entry.isSome).foldl slideUnchecked s)
  let s2 := tableBoundary old s1
  { s2 with
    start := { s2.start with rodRun := s2.start.rodRun || s2.abacus.running }
    abacus := { s2.abacus with
      running := s2.abacus.running || live, current := s2.abacus.next.getD [], next := none
      ended := s2.abacus.ended.filter fun e => decide (s2.cycle ≤ e.2) }
    reck := { s2.reck with chargesNow := s2.reck.charges, rodBudget := heatBudget s2 s2.cycle, heatLate := none } }

/-- LOOP.ENABLE takes effect (R306). -/
def enableBoundary (s : State) (l : Nat) : State :=
  match (s.loop l).enableNext with
  | none => s
  | some (on, r) =>
    if s.cycle < r then s
    else
      let was := s.loopEnabled l
      let s1 := s.setLoop l { s.loop l with enable := some on, enableNext := none }
      if s1.loopEnabled l = was then s1
      else if was then setLoopMode l .disabled s1
      else setLoopMode l .soft (s1.setLoop l { s1.loop l with fieldSeen := [] })

/-- The engine's rod begins: loops enabled or disabled, and the turn of the check of R266. -/
def engineBoundary (s : State) : State :=
  let live := s.hif.mode == .start || s.hif.mode == .running
  let s1 := s.cfg.loopSlots.foldl enableBoundary s
  { s1 with engine := { s1.engine with
      running := s1.engine.running || live, checkedRod := false, checkTurn := nextTurn s1 s1.engine.checkTurn } }

/-! ## Restarts that wait for a boundary (R81, R103, R561, R625, R629) -/

/-- Fallow entry by the owner or from the panel ends an attempt in progress (R626). -/
def fallowBoundary (reason : Nat) (s : State) : State :=
  enterFallow reason (if attempting s then closeAttempt 12 0 s else s)

/-- What was asked for at this boundary: fallow mode, a restart on the other configuration slot, or a warm restart. -/
def requestsBoundary (s : State) : State :=
  let fallow := match s.start.fallowAt with
    | none => none
    | some (r, reason) => if r ≤ s.cycle then some reason else none
  let restart := match s.cfg.restartAt with
    | none => false
    | some r => decide (r ≤ s.cycle)
  let warm := match s.super.warmAt with
    | none => false
    | some r => decide (r ≤ s.cycle)
  let panel := s.panel.request
  let s1 := { s with panel := { s.panel with request := none } }
  if s.hif.mode ≠ .start ∧ s.hif.mode ≠ .running then s1
  else
    match fallow with
    | some reason => fallowBoundary reason s1
    | none =>
      if panel = some 2 then fallowBoundary 3 s1
      else if restart then enterBoot (s1.setLedger { s1.start.ledger with preferredCfg := 1 - s1.cfg.active })
      else if s1.hif.supPause then { s1 with super := { s1.super with warmAt := if panel = some 1 then some s1.cycle else s1.super.warmAt } }
      else if warm ∨ panel = some 1 then beginWarm s1
      else s1

/-! ## The sequence (R19) -/

/-- Steps 1 to 5 of R19 in a rod that has its number, with the measurements of the rod that ended. -/
def boundarySequence (rod : Nat) (begun closing : Bool) (ticks vref bandgap : Nat) (s : State) : State :=
  let old := s.cfg
  let s1 := viewBoundary (ptpBoundary (gatesBoundary s))
  let s2 := applyFirmware (configurationBoundary s1)
  let s3 := if begun then closeMeters rod ticks s2 else s2
  let s4 := dwellRod (checkVref vref bandgap (if closing then closeAccounts (s3.cycle - 1) s3 else s3))
  republish (engineBoundary (abacusBoundary old (loanBoundary (leaseBoundary s4))))

/-- ROD_BOUNDARY: angle 0 of the next rod, once the timebase has left ACQUIRE (R119; in it only the angle turns), in the order of R19. The operands are the clock ticks of the rod that has ended, for the metering, and the two references in mV (R523, R533). -/
def execRodBoundary (ticks vrefMv bandgapMv : Nat) (s : State) : Host.Outcome State Fault Refusal :=
  if s.pins.inReset then .next s
  else if s.phase.left = false then .next (acquireTurn s)
  else
    let rod := s.cycle
    let begun := s.phase.started
    let s1 := phaseBoundary s
    let s2 := stepRods (if begun then (rod + 1) % 2 ^ 48 else 0) s1
    let s3 := boundarySequence rod begun (begun && s.abacus.running) ticks vrefMv bandgapMv s2
    let s4 := if s3.hif.supPause ∧ s.hif.supPause then { s3 with super := { s3.super with pauseRods := s3.super.pauseRods + 1 } } else s3
    .next (coreBoundary (requestsBoundary (substitutionBoundary s4)))

end Sys2Proof.Machine
end

