-- ==== Sys2Proof/Machine/Pins.lean ====
section
/-! DEFINITION. Chapter 24: drive priority of the general outputs, the rail, temperature and readback monitors, and the PIN commands. -/

namespace Sys2Proof.Machine

/-! ## Drive priority (R695, R697, R698) -/

/-- What drives a general output: a level, or high-impedance, and the layer in force. -/
structure Drive where
  level : Option Bool := none
  layer : Nat := 0
deriving DecidableEq, Repr

/-- The fallow state of an output by the map loaded: 0 low, 1 high, 2 high-impedance (R630). -/
def fallowLevel (s : State) (n : Nat) : Option Bool :=
  match s.start.loaded with
  | none => none
  | some m => if m / 4 ^ n % 4 = 0 then some false else if m / 4 ^ n % 4 = 1 then some true else none

/-- The level of the bead layer: a pulse under way, else the base level (R161). -/
def beadLevel (s : State) (n : Nat) : Option Bool :=
  let x := fget {} s.abacus.layer n
  match x.pulse with
  | some p => some p.1
  | none => x.base

/-- The positioner whose run or direction output this is: the channel, and whether it is the run output (R512). -/
def ventOutput (s : State) (n : Nat) : Option (Nat × Bool) :=
  (List.range 12).findSome? fun c =>
    let v := s.cfg.vent c
    if ventMode v = 0 ∨ hasPositioner v = false then none
    else if u8 v 24 = n then some (c, true)
    else if u8 v 25 = n then some (c, false)
    else none

/-- A vent channel's drive of an output: a fault is hardware-safe, else the layer of the set-point (R512, R513, R697). -/
def ventDrive (s : State) (n : Nat) : Drive :=
  match ventOutput s n with
  | none => { level := some false }
  | some (c, isRun) =>
    let x := s.ventCh c
    { level := some (if isRun then x.run else x.dir), layer := if x.fault ≠ 0 then 1 else (ventGoverning x).1 }

/-- The configured drivers act: from the first rod boundary after the configuration's application (R623 step 4). -/
def driversAct (s : State) : Bool := decide (s.hif.mode = .start ∨ s.hif.mode = .running) && s.abacus.running

/-- The highest layer that holds a level governs (R697, R698); an unclaimed output is held as in boot ROM mode (R695). -/
def outputDrive (s : State) (n : Nat) : Drive :=
  let claim := s.cfg.claimant (ballOutput n)
  let host := fget none s.pins.host n
  if s.hif.mode = .test ∧ host.isSome then { level := host, layer := 5 }
  else if driversAct s = false then { level := fallowLevel s n, layer := 1 }
  else if claim = 0 then { level := fallowLevel s n, layer := 0 }
  else if claim = claimVent then ventDrive s n
  else if (beadLevel s n).isSome then { level := beadLevel s n, layer := 3 }
  else if (fget none s.pins.loop n).isSome then { level := fget none s.pins.loop n, layer := 4 }
  else if host.isSome then { level := host, layer := 5 }
  else { level := some false }

/-! ## Monitors (R701, R709) -/

/-- The range of a rail in mV: VDD_CORE, VDD_SD, VDDIO33, VDDIO18, VDDA, VBAT (R701). -/
def railRange (r : Nat) : Nat × Nat := [(776, 824), (873, 927), (3135, 3465), (1710, 1890), (3135, 3465), (1800, 3600)].getD r (0, 65535)

/-- One rail's measurement: ten outside raise PIN.RAIL with state 1, ten inside with state 0 (R709). -/
def measureRail (s : State) (e : Nat × Nat) : State :=
  let r := e.1
  let x := fget {} s.pins.rails r
  let range := railRange r
  let out := decide (e.2 < range.1) || decide (range.2 < e.2)
  let y : Rail :=
    { x with
      mv := e.2
      outside := if out then x.outside + 1 else 0
      inside := if out then 0 else x.inside + 1
      limit := if e.2 < range.1 then range.1 else if range.2 < e.2 then range.2 else x.limit }
  let set := fun (b : Bool) => { s with pins := { s.pins with rails := fput {} s.pins.rails r { y with bad := b } } }
  if x.bad = false ∧ 10 ≤ y.outside then raise 0x1701 [r + 1, 1, y.mv, y.limit] (set true)
  else if x.bad = true ∧ 10 ≤ y.inside then raise 0x1701 [r + 1, 0, y.mv, y.limit] (set false)
  else set x.bad

/-- The thermal level that a die temperature in 0.01 °C gives from a level (R709). -/
def thermalLevel (was : Nat) (t : Int) : Nat :=
  if 14000 < t then 2 else if t < 12000 then 0 else if 12500 < t then max was 1 else was

/-- The die temperature (R709, R711). -/
def measureThermal (t : Int) (s : State) : State :=
  let p := s.pins
  let l := thermalLevel p.thermal t
  let peak := if p.thermal = 0 then t else max p.episode t
  let s1 := { s with pins := { p with tj := t, peak := some (max t (p.peak.getD t)), thermal := l, episode := peak } }
  if l = p.thermal then s1 else raise 0x1702 [l, (BitVec.ofInt 32 t).toNat, (BitVec.ofInt 32 peak).toNat] s1

/-- RAIL_MONITOR: every millisecond the six rails in mV and the die temperature in 0.01 °C (R709). -/
def execRailMonitor (millivolts : List Nat) (temperature : Int) (s : State) : Host.Outcome State Fault Refusal :=
  if s.pins.inReset then .next s
  else .next (measureThermal temperature (((List.range 6).zip millivolts).foldl measureRail s))

/-! ## Readback (R710) -/

/-- One output's check: nothing is compared in the first after a change of its driven level, nor while it is high-impedance; the third difference in a row raises PIN.READBACK and puts the chip out of service (R78, R710). -/
def checkOutput (levels : BitVec 40) (s : State) (n : Nat) : State :=
  let d := outputDrive s n
  let x := fget {} s.pins.readback n
  let high := levels.getLsbD n
  let compared := decide (x.driven = d.level)
  let differs := match d.level with
    | none => 0
    | some b => if compared then (if b = high then 0 else x.differs + 1) else 0
  let fault := decide (3 ≤ differs)
  let s1 := { s with pins := { s.pins with readback := fput {} s.pins.readback n { driven := d.level, high := high, differs := differs, fault := fault } } }
  if fault ∧ x.fault = false then raise 0x1703 [n, if d.level = some true then 1 else 0, d.layer] (beginOutage 6 0 s1) else s1

/-- The outage of a readback ends when no output differs any more (R24, R78). -/
def endReadback (s : State) : State :=
  if s.pins.readback.any fun e => e.2.fault then s else endCauses (fun c => c == 6) s

/-- READBACK_CHECK: every millisecond, with the levels of the 40 balls (R710). -/
def execReadbackCheck (levels : BitVec 40) (s : State) : Host.Outcome State Fault Refusal :=
  if s.pins.inReset then .next s else .next (endReadback ((List.range 40).foldl (checkOutput levels) s))

/-! ## PIN commands (R712, R713) -/

/-- One output of PIN.OUTPUTS. -/
def outputBytes (s : State) (n : Nat) : List Byte :=
  let d := outputDrive s n
  let x := fget {} s.pins.readback n
  le 1 (flag (decide (d.level = some true)) 0 + flag x.high 1 + flag d.level.isNone 2 + flag x.fault 3) ++ le 1 d.layer
    ++ le 1 (s.cfg.claimant (ballOutput n)) ++ zeros 1

def execPinOutputs (mbx : Nat) (s : State) : Host.Outcome State Fault Refusal :=
  .next (serveRead 0x1701 1 (· == 0) (fun _ s => ok ((List.range 40).flatMap (outputBytes s))) mbx s)

/-- A host write is stored under layer 5 (R697, R698). -/
def storeHost (n op : Nat) (s : State) : State :=
  let v := if op = 2 then none else some (op == 1)
  { s with pins := { s.pins with
      host := fput none s.pins.host n v
      tested := if s.hif.mode = .test then fput false s.pins.tested n true else s.pins.tested } }

def execPinWrite (mbx : Nat) (s : State) : Host.Outcome State Fault Refusal :=
  .next (serve 0x1702 2 (· == 4) (fun c s =>
    let n := u8 c.pay 0
    let op := u8 c.pay 1
    if 39 < n ∨ 2 < op ∨ u16 c.pay 2 ≠ 0 then (s, bad 6)
    else if s.hif.mode ≠ .test ∧ s.cfg.layerNamed (ballOutput n) 2 = false then (s, bad 5)
    else
      let s1 := storeHost n op s
      (s1, ok (le 1 (outputDrive s1 n).layer ++ zeros 3))) mbx s)

/-- The first record of the active base image, in key order, that uses a resource (R713). -/
def firstUser (c : Cfg) (r : Nat) : Nat × Nat :=
  let rs := (c.base.map BaseImage.records).getD []
  match rs.find? fun x => (usesOf rs x.type x.inst x.value).any fun u => u.resource == r with
  | none => (0, 0)
  | some x => (x.type, x.inst)

def execPinClaim (mbx : Nat) (s : State) : Host.Outcome State Fault Refusal :=
  .next (serveRead 0x1703 1 (· == 4) (fun c s =>
    let r := u32 c.pay 0
    if claimable r = false then bad 6
    else
      let u := firstUser s.cfg r
      ok (le 1 (s.cfg.claimant r) ++ le 1 (flag (s.cfg.baseValue 0x1701 r).isSome 0) ++ zeros 2 ++ le 2 u.1 ++ le 2 u.2)) mbx s)

/-- Every FAN_PWM ball is high: in boot ROM mode, until the first rod boundary of the configured drivers, and in fallow mode where the slot does not verify (R472, R623, R629). -/
def fansHigh (s : State) : Bool := if s.inFallow then s.cfg.base.isNone else !driversAct s

/-- The level a digital ball is driven to, where the state gives it: none for an input, and for a waveform that only timing knows; beside it, whether the ball is an output (R691). -/
def ballDrive (s : State) (b : Nat) : Bool × Option Bool :=
  match groupOf b with
  | (.output, n) => let d := outputDrive s n; (d.level.isSome, some (d.level.getD false))
  | (.fan, k) =>
    if k % 2 = 1 then (false, some false)
    else
      let o := s.fanOut (k / 2)
      let v := s.cfg.fan (k / 2)
      let inverted := bit (u8 v 0) 1
      if fansHigh s ∨ fanEnabled v = false then (true, some true)
      else if o.duty = 0 then (true, some inverted)
      else if 1000000 ≤ o.duty then (true, some (!inverted))
      else (true, none)
  | (.valve, k) =>
    let j := k % 18
    if j % 2 = 1 then (false, some false)
    else if j = 0 then (true, if ((s.vbank (k / 18)).event.any fun e => decide (e.phase ≤ 6)) then none else some false)
    else (true, some ((eventOn s (8 * (k / 18) + (j - 2) / 2)).any fun e => decide (e.phase ≤ 6)))
  | (.can, k) =>
    if k % 4 = 0 then (true, if (s.chan (k / 4)).state = 0 then some true else none)
    else if k % 4 = 2 then (true, some (s.chan (k / 4)).injHigh)
    else (false, some false)
  | (.misc, 7) => (true, some s.snap.out)
  | (.misc, 8) => (true, some (!fallowLow s))
  | (.qspi, 6) => (true, some (!irqLow s))
  | (.panel, k) => (decide (k < 16), none)
  | (.flash, _) => (true, none)
  | _ => (false, some false)

/-- Analog and power balls, which read zero (R703, R712); SerDes and crystal balls are none of the digital balls of R702. -/
def analogBall (b : Nat) : Bool :=
  match groupOf b with
  | (.serdes, _) | (.sensor, _) | (.metering, _) | (.power, _) => true
  | (.valve, k) => k % 2 == 1
  | (.can, k) => k % 4 == 3
  | (.misc, k) => decide (1 ≤ k) && decide (k ≤ 5)
  | _ => false

/-- One ball of PIN.BALLS; a level that the state does not hold is a free value (log 10). -/
def ballByte (s : State) (b k : Nat) : Byte :=
  if analogBall b then 0
  else
    let free := (Config.freeByte (s.free + k)).toNat
    let input := match groupOf b with
      | (.output, n) => (fget {} s.pins.readback n).high
      | _ => bit free 0
    let d := ballDrive s b
    BitVec.ofNat 8 (flag input 0 + flag (d.2.getD (bit free 1)) 1 + flag d.1 2)

def execPinBalls (mbx : Nat) (s : State) : Host.Outcome State Fault Refusal :=
  .next (serve 0x1704 1 (· == 4) (fun c s =>
    let first := u16 c.pay 0
    let n := u8 c.pay 2
    if n = 0 ∨ 240 < n ∨ u8 c.pay 3 ≠ 0 ∨ 484 < first + n then (s, bad 6)
    else ({ s with free := s.free + n }, ok (le 1 n ++ zeros 3 ++ (List.range n).map fun k => ballByte s (first + k) k))) mbx s)

def execPinSupply (mbx : Nat) (s : State) : Host.Outcome State Fault Refusal :=
  .next (serveRead 0x1705 1 (· == 0) (fun _ s =>
    let p := s.pins
    ok ((List.range 6).flatMap (fun r => le 2 (fget {} p.rails r).mv) ++ leInt 2 p.tj ++ leInt 2 (p.peak.getD p.tj)
      ++ le 2 (((List.range 6).map fun r => flag (fget {} p.rails r).bad r).sum + p.thermal * 64))) mbx s)

end Sys2Proof.Machine
end

