-- ==== Sys2Proof/Machine/Recording.lean ====
section
/-! DEFINITION. Chapter 20, the recorder: the writer, lost reports, and the LOG commands. -/

namespace Sys2Proof.Machine

def State.setRecorder (s : State) (x : Recorder) : State := { s with recorder := x }

/-- The counters of lost reports, packed in four parameters (R599). -/
def lostParams (r : Recorder) : List Nat :=
  (List.range 4).map fun n => ((List.range 4).map fun i => fget 0 r.lost (4 * n + i) * 256 ^ i).sum

/-- LOG.OVERFLOW enters once the intake has fallen to 48 entries with reports lost (R599). -/
def noteOverflow (s : State) : State :=
  let r := s.recorder
  if r.lost.isEmpty ∨ 48 < r.intake.length then s
  else
    let e := recordOf s 0x1201 (lostParams r)
    notifyAll raise e (s.setRecorder { r with intake := r.intake ++ [e], lost := [], stats := bump r.stats 3 1 })

/-- A record is written under the next sequence number, and kept while the kept area is armed; LOG.REARMED clears and arms it first (R600 to R603). -/
def writeRecord (e : EventRecord) (r : Recorder) : Recorder :=
  let rearmed := decide (e.code = 0x1202)
  let kept := if rearmed then [] else r.kept
  let armed := r.armed || rearmed
  { r with
    seq := r.seq + 1, area := fput none r.area (areaSlot r.seq) (some (r.seq, e)), armed := armed
    kept := if armed ∧ kept.length < 1024 then kept ++ [(r.seq, e)] else kept
    stats := bump r.stats 0 1 }

/-- RECORD_WRITE: the oldest entry of the intake (R599, R600). -/
def execRecordWrite (s : State) : Host.Outcome State Fault Refusal :=
  match s.recorder.intake with
  | [] => .next s
  | e :: es => .next (noteOverflow (s.setRecorder (writeRecord e { s.recorder with intake := es })))

/-! ## LOG commands (R618, R619) -/

/-- The oldest sequence number held. -/
def oldestSeq (r : Recorder) : Nat := r.seq - 16384

def lostBytes (r : Recorder) : List Byte := (List.range 16).flatMap fun i => le 1 (fget 0 r.lost i)

def execLogInfo (mbx : Nat) (s : State) : Host.Outcome State Fault Refusal :=
  .next (serveRead 0x1201 1 (· == 0) (fun _ s =>
    let r := s.recorder
    ok (le 4 r.seq ++ le 4 (oldestSeq r) ++ le 2 r.kept.length ++ le 1 r.intake.length ++ le 1 (flag r.armed 0) ++ le 2 (sat 65535 r.torn)
      ++ zeros 2 ++ lostBytes r)) mbx s)

/-- A record as a session sees it: CLOCK.OSC_STOPPED is all zero to sessions that are not owner sessions (R604). -/
def shownRecord (owner : Bool) (e : EventRecord) : List Byte := if e.code = 0x1103 ∧ owner = false then zeros 32 else e.bytes

def execLogRead (mbx : Nat) (s : State) : Host.Outcome State Fault Refusal :=
  .next (serveRead 0x1202 1 (· == 8) (fun c s =>
    let r := s.recorder
    let n := u8 c.pay 4
    if n = 0 ∨ 31 < n ∨ allZero (c.pay.drop 5) = false then bad 6
    else
      let first := max (u32 c.pay 0) (oldestSeq r)
      let k := min n (r.seq - first)
      let records := (List.range k).flatMap fun i =>
        match fget none r.area (areaSlot (first + i)) with
        | some e => shownRecord c.owner e.2
        | none => zeros 32
      ok (le 4 first ++ le 1 k ++ zeros 3 ++ records)) mbx s)

def execLogReadKept (mbx : Nat) (s : State) : Host.Outcome State Fault Refusal :=
  .next (serveRead 0x1203 1 (· == 4) (fun c s =>
    let first := u16 c.pay 0
    let n := u8 c.pay 2
    if first > 1023 ∨ n = 0 ∨ 31 < n ∨ u8 c.pay 3 ≠ 0 then bad 6
    else
      let es := (s.recorder.kept.drop first).take n
      ok (le 2 first ++ le 1 es.length ++ zeros 5 ++ es.flatMap fun e => shownRecord c.owner e.2)) mbx s)

def execLogRearm (mbx : Nat) (s : State) : Host.Outcome State Fault Refusal :=
  .next (serve 0x1204 3 (· == 0) (fun c s =>
    let r := s.recorder
    if 64 ≤ r.intake.length then (s, bad 2)
    else
      let s1 := raise 0x1202 [r.kept.length, c.session] s
      (s1, ok (le 2 r.kept.length ++ zeros 2 ++ le 4 (r.seq + r.intake.length)))) mbx s)

def execLogMark (mbx : Nat) (s : State) : Host.Outcome State Fault Refusal :=
  .next (serve 0x1205 2 (· == 16) (fun c s =>
    let ps := [u32 c.pay 0, u32 c.pay 4, u32 c.pay 8, u32 c.pay 12]
    if reportResult s.recorder (recordOf s 0x1203 ps) = .lost then (s, bad 2) else (raise 0x1203 ps s, ok [])) mbx s)

def execLogStats (mbx : Nat) (s : State) : Host.Outcome State Fault Refusal :=
  .next (serveRead 0x1206 1 (· == 0) (fun _ s => ok (countBytes s.recorder.stats 4)) mbx s)

def execLogStatsClear (mbx : Nat) (s : State) : Host.Outcome State Fault Refusal :=
  .next (serve 0x1207 2 (· == 0) (fun _ s => (s.setRecorder { s.recorder with stats := [] }, ok [])) mbx s)

end Sys2Proof.Machine
end

