-- ==== Sys2Proof/Machine/Snapshots.lean ====
section
/-! DEFINITION. Chapter 20, snapshots: the contents of every block's bank, the strobes' happenings, and the SNAP commands. -/

namespace Sys2Proof.Machine

/-! ## Contents of the banks (R613); each takes the state as it stood at the strobe -/

/-- R170. -/
def abacusBank (s : State) : List Byte :=
  let a := s.abacus
  let shown := fun (o : Occ) => o.state != 1
  let layer := fun (i : Nat) =>
    let l := (fget {} a.layer i : BeadLayer)
    let level := match l.pulse with
      | some p => some p.1
      | none => l.base
    le 1 (flag level.isSome 0 + flag (level == some true) 1 + flag l.pulse.isSome 2)
  let sliding := a.sliding.filter fun o => o.entry == none
  fit 1024 ((a.current.filter shown).flatMap fun o => le 2 o.bead ++ le 1 o.state ++ le 1 o.slid) ++ (List.range 40).flatMap layer
    ++ le 2 sliding.length ++ le 2 ((sortNat (sliding.map Occ.bead)).headD 0) ++ beadStatsBytes a

/-- R200. -/
def carryBank (s : State) : List Byte :=
  ((List.range 128).flatMap fun e =>
    let x := s.entry e
    le 1 x.state ++ le 1 x.kind ++ le 1 x.chain ++ le 1 (entryFlags x) ++ le 2 x.owner ++ le 1 x.sourceKind ++ zeros 1 ++ le 4 x.source)
    ++ carryCounters s.carry

/-- R231. -/
def reckonerBank (s : State) : List Byte :=
  let k := s.reck
  let c : Closed := k.closed.headD {}
  ((List.range 3).flatMap fun p =>
    le32Int (limPower s s.cycle p) ++ le 4 (limRamp s s.cycle p) ++ le32Int (k.shown.getD p 0) ++ le 4 (c.energy.getD p 0) ++ le32Int (c.endPower.getD p 0))
    ++ le 4 (heatBudget s s.cycle) ++ le32Int k.balance ++ le32Int k.forecastHeat ++ leaseBytes k.current ++ leaseBytes k.next
    ++ fit 640 (k.loans.flatMap loanBytes) ++ reckStatsBytes k.stats

/-- R270; the stage a processor is at is timing, which the model does not hold (log 39). -/
def processorBank (s : State) : List Byte :=
  ((List.range 9).flatMap fun p =>
    let x := s.processor p
    let st := if x.retired then 3 else if x.sample.isSome then 1 else if p = 8 ∧ s.engine.spareServes.isNone then 2 else 0
    le 1 st ++ (if x.sample.isSome then [Config.stageAt p s.phase.now.tu] else zeros 1) ++ le 2 ((x.sample.map Sample.slot).getD 0))
    ++ ((List.range 512).flatMap fun l => le 2 (s.loop l).flags.toNat)
    ++ le 2 s.engine.queue.length ++ le 2 s.engine.peakWaiting ++ le 2 (engineLoad s)
    ++ le 4 (count32 s.engine.checks) ++ le 4 (count32 s.engine.mismatches) ++ le 4 (count32 s.engine.noMajority)

/-- R303. -/
def loopBank (s : State) : List Byte :=
  let file := fun (n : Nat) (ws : List Word) => wordBytes ((List.range n).map (reg ws))
  ((List.range 512).flatMap fun l => le 1 (s.loop l).mode.code ++ le 1 (timingBits s l) ++ le 2 (s.loop l).clean)
    ++ ((List.range 512).flatMap fun l => file 16 (s.loop l).inp ++ file 16 (s.loop l).out ++ file 64 (s.loop l).st)
    ++ (List.range 512).flatMap fun l => le 4 (s.loop l).bias.toNat ++ le 4 (s.loop l).predicted.toNat

/-- R332. -/
def commonsBank (s : State) : List Byte :=
  let v := (s.cfg.baseValue 0x0801 0).getD []
  chipsBytes s ++ ((List.range 1024).flatMap fun b => le 1 (blockState s b))
    ++ ((List.range 256).flatMap fun k => (s.viewPoint (u16 v (2056 + 2 * k))).bytes) ++ commonsStatsBytes s.commons

/-- R370. -/
def ringBank (s : State) : List Byte :=
  let p := s.ring.ptp
  ((List.range 3).flatMap fun k =>
    let x := s.port k
    le 1 (flag x.link 0) ++ le 1 x.gate ++ zeros 2 ++ (List.range 8).flatMap fun c => le 2 (sat 65535 ((fget [] x.queues c).map EthFrame.length).sum))
    ++ le 2 s.ring.duplicates.length ++ zeros 2 ++ le 4 (count32 s.ring.replacements)
    ++ le 1 p.state ++ le 1 (ptpFlags s.ring) ++ leInt 2 s.phase.lastD ++ leInt 2 p.dPtp ++ zeros 2 ++ leInt 4 p.offset ++ le 4 p.pathDelay
    ++ (List.range 3).flatMap fun k => countBytes (s.port k).counters 19

/-- R401. -/
def fbusBank (s : State) : List Byte :=
  ((List.range 8).flatMap fun n =>
    let c := s.chan n
    le 1 c.state ++ le 1 (engineOf n c) ++ le 1 (sat 255 c.txErr) ++ le 1 (sat 255 c.recErr) ++ le 1 c.fifo.length ++ le 1 c.hold.length
      ++ le 1 c.rx.length ++ le 1 c.refState ++ le 4 ((c.fifo.head?.map fun f => f.frame.ident).getD 0) ++ le 1 (sat 255 c.errors) ++ zeros 1
      ++ le 2 (sat 65535 c.losses) ++ le 4 (low32 c.refCycle) ++ le 4 c.leak ++ le 1 (channelFlags c false) ++ zeros 3)
    ++ le 1 s.fbus.spareChannel ++ le 1 s.fbus.spareSuspects.length ++ zeros 2
    ++ (List.range 8).flatMap fun n => countBytes (s.chan n).stats 16

/-- R434. -/
def cfpBank (s : State) : List Byte :=
  ((List.range 8).flatMap fun n =>
    let b := s.bus n
    le 1 b.seq ++ le 1 (b.nodes.filter fun e => e.2.state == 1).length ++ le 1 (b.transactions.filter fun t => decide (2 ≤ t.stage)).length
      ++ le 1 (b.transactions.filter fun t => decide (t.stage < 2)).length)
    ++ fit 6144 ((s.cfg.recordsOf 0x0B01).flatMap fun r =>
      let e := s.roleEntry r.inst
      le 2 r.inst ++ le 1 (u8 r.value 0) ++ le 1 e.address ++ le 1 e.epoch ++ le 1 e.state)
    ++ (List.range 8).flatMap fun n => countBytes (s.bus n).stats 13

/-- R465. -/
def valveBankBytes (s : State) : List Byte :=
  ((List.range 5).flatMap fun b =>
    let x := s.vbank b
    le 1 (bankState s b) ++ le 1 ((x.event.map fun e => e.req.channel).getD 0xFF) ++ le 1 x.fault ++ zeros 1 ++ le 2 (sat 65535 x.current) ++ zeros 2)
    ++ ((List.range 40).flatMap fun n =>
      let c := s.valveCh n
      let e := (eventOn s n).map fun e => e.req
      le 1 (valveState s n) ++ le 1 ((e.map fun r => r.profile).getD 0) ++ le 1 ((e.map fun r => r.layer).getD 0) ++ zeros 1
        ++ le 2 (sat 65535 c.current) ++ le 1 ((c.waiting.map fun r => r.profile).getD 0) ++ le 1 ((c.waiting.map fun r => r.layer).getD 0)
        ++ le 4 (timeInPhase s n))
    ++ (List.range 40).flatMap fun n => countBytes (s.valveCh n).stats 6

/-- R492. -/
def fanBank (s : State) : List Byte :=
  ((List.range 12).flatMap fun u =>
    let o := s.fanOut u
    le 1 o.state ++ le 1 o.layer ++ le 1 (flag o.stalled 0 + flag o.tachLost 1 + flag o.speedValid 2) ++ le 1 o.attempts
      ++ le 2 (o.duty / 1000) ++ le 2 o.target ++ le 2 (sat 65535 o.speed) ++ zeros 2)
    ++ ((List.range 32).flatMap fun g =>
      let x := s.fanGroup g
      le 2 (x.sent.getD 0) ++ le 2 x.speed ++ le 1 x.flags ++ zeros 3)
    ++ ((List.range 32).flatMap fun z => le 2 ((fget none s.fan.zones z).map demandUnits |>.getD 0))
    ++ le 1 (flag s.fan.silent 0) ++ le 1 (sat 255 (if s.fan.silent then s.msSince s.fan.lastRequest / 1000 else 0)) ++ zeros 2
    ++ (List.range 12).flatMap fun u => countBytes (s.fanOut u).stats 5 ++ le 4 (count32 ((s.fanOut u).runMs / 1000))

/-- R517. -/
def ventBank (s : State) : List Byte :=
  ((List.range 12).flatMap fun n =>
    let c := s.ventCh n
    let g := ventGoverning c
    le 4 c.counter.toNat ++ leInt 4 (ventSpeed c) ++ le 2 (ventFlags c) ++ le 1 (ventState s n) ++ le 1 g.1 ++ le 4 c.index.toNat ++ le 2 g.2
      ++ le 1 (flag c.run 0) ++ le 1 (flag c.dir 0) ++ compareValues c ++ compareStates c)
    ++ (List.range 12).flatMap fun n => ventStatBytes (s.ventCh n)

/-- R545. -/
def senseBank (s : State) : List Byte :=
  ((List.range 24).flatMap fun n =>
    let c := s.senseCh n
    leInt 4 c.raw ++ le 4 c.value.toNat ++ le 1 (if u8 (s.cfg.sense n) 0 = 0 then 0 else if c.state = 1 then 1 else 2) ++ le 1 c.cause
      ++ le 1 (modulatorAt s n) ++ zeros 1)
    ++ ((List.range 3).flatMap fun p => closedWords (meterPhase s p) ++ le 4 (flag (meterPhase s p).invalid 0))
    ++ ((List.range 3).flatMap fun p =>
      let x := ((s.meterP p).samples ++ (meterPhase s p).wave).headD (0, 0)
      top16 x.1 ++ top16 x.2)
    ++ modulatorMap s

/-- R567. -/
def panelBank (s : State) : List Byte :=
  let p := s.panel
  le 8 p.raw.toNat ++ le 8 p.debounced.toNat ++ le 2 (panelFlags s) ++ le 1 p.frozenRows.toNat ++ le 1 p.frozenCols.toNat
    ++ encoderPositions p ++ le 1 p.queue.length ++ zeros 3 ++ countBytes p.stats 5

/-- R588: the flags as a session that is not an owner session sees them. -/
def clockBank (s : State) : List Byte :=
  let k := s.clock
  le 4 k.seconds ++ le 2 k.fraction ++ le 2 (clockFlags k false) ++ leInt 2 k.trim ++ leInt 2 k.temperature ++ zeros 4

/-- R614. -/
def recorderBank (s : State) : List Byte :=
  let r := s.recorder
  le 4 r.seq ++ le 2 r.kept.length ++ le 1 r.intake.length ++ le 1 (flag r.armed 0) ++ lostBytes r ++ countBytes r.stats 4

/-- Size of one bank of a block; none for a number that is no block (R613). -/
def bankSize : Nat → Option Nat
  | 1 => some 1100
  | 2 => some 1602
  | 3 => some 856
  | 4 => some 1086
  | 5 => some 202760
  | 6 => some 5672
  | 7 => some 320
  | 8 => some 748
  | 9 => some 6600
  | 10 => some 1488
  | 11 => some 764
  | 12 => some 680
  | 13 => some 438
  | 14 => some 60
  | 15 => some 24
  | 16 => some 48
  | _ => none

/-- Contents of a block's bank after the strobe's instant. -/
def bankItems : Nat → State → List Byte
  | 1 => abacusBank
  | 2 => carryBank
  | 3 => reckonerBank
  | 4 => processorBank
  | 5 => loopBank
  | 6 => commonsBank
  | 7 => ringBank
  | 8 => fbusBank
  | 9 => cfpBank
  | 10 => valveBankBytes
  | 11 => fanBank
  | 12 => ventBank
  | 13 => senseBank
  | 14 => panelBank
  | 15 => clockBank
  | _ => recorderBank

/-- The state as a bank's blocks stood at its strobe (R605). -/
def atStrobe (x : SnapBank) (s : State) : State :=
  match x.latched with
  | none => s
  | some b => { s with toBlocks := b, hif := { s.hif with mode := x.mode } }

/-- A whole bank of a block: the cycle number (its low 48 bits in 6 bytes) and angle of the strobe, then the items. -/
def bankBytes (block : Nat) (x : SnapBank) (s : State) : List Byte :=
  le 6 x.strobe.cycle ++ le 2 x.strobe.angle ++ bankItems block (atStrobe x s)

/-! ## Strobes from outside and from the schedule (R606, R611, R612) -/

/-- SNAP_IN_EDGE (R606). -/
def execSnapInEdge (s : State) : Host.Outcome State Fault Refusal :=
  if u8 s.cfg.snap 2 ≤ 3 then .next (ownStrobe raise (u8 s.cfg.snap 2) 2 0 s) else .next s

/-- The scheduled strobe of the earliest instant. -/
def earliest : List SnapSchedule → Option SnapSchedule
  | [] => none
  | x :: xs => some (xs.foldl (fun a b => if b.at_.tu < a.at_.tu then b else a) x)

/-- SCHEDULED_STROBE: the earliest instant of the table has come (R611). One whose rod has passed in ACQUIRE, or in a step of the count, leaves the table without a strobe (DESIGN CHOICE, log 40). -/
def execScheduledStrobe (s : State) : Host.Outcome State Fault Refusal :=
  match earliest s.snap.schedule with
  | none => .next s
  | some x =>
    if s.phase.state = .acquire ∨ s.cycle < x.at_.cycle then .next s
    else if x.at_.cycle < s.cycle ∧ x.at_.tu + 1 < s.phase.now.tu then .next { s with snap := { s.snap with schedule := s.snap.schedule.erase x } }
    else
      let s0 := if x.at_.cycle = s.cycle then s.atAngle (max s.angle x.at_.angle) else s
      .next (strobe raise x.bank x.source false (x.source == 4) x.sender 0 { s0 with snap := { s0.snap with schedule := s0.snap.schedule.erase x } })

/-- SNAPSHOT_TRIGGER_FRAME (R348, R612). -/
def execSnapshotTriggerFrame (s : State) : Host.Outcome State Fault Refusal :=
  match takeDelivered 8 s with
  | none => .next s
  | some (d, s1) =>
    let b := d.frame.body.drop 1
    let sender := n64 b 0
    let at_ : Instant := ⟨n48 b 8, n16 b 14⟩
    let bank := u8 b 16
    let key := (sender, at_, bank)
    if s1.cfg.ringFlag 3 = false ∨ sendsOwn s1 = false ∨ 3 < bank ∨ s1.snap.taken.contains key = true then .next s1
    else
      let s2 := { s1 with snap := { s1.snap with taken := key :: s1.snap.taken } }
      if at_.tu ≤ s2.phase.now.tu then .next (strobe raise bank 4 true true sender 0 s2)
      else if s2.phase.now.tu + 2 ^ 36 < at_.tu then .next (raise 0x1302 [bank, 4, 16, low32 s2.cycle] s2)
      else if 8 ≤ s2.snap.schedule.length then .next (raise 0x1302 [bank, 3, 16, low32 s2.cycle] s2)
      else .next { s2 with snap := { s2.snap with schedule := s2.snap.schedule ++ [{ bank := bank, at_ := at_, source := 4, sender := sender }] } }

/-- SNAPSHOT_COPY_COMPLETE (R605). -/
def execSnapshotCopyComplete (bank : Nat) (s : State) : Host.Outcome State Fault Refusal :=
  if (s.bank bank).state = 1 then .next (s.setBank bank { s.bank bank with state := 2 }) else .next s

/-- SNAP_OUT_END: 256 tu have passed since the latest strobe (R609). -/
def execSnapOutEnd (s : State) : Host.Outcome State Fault Refusal :=
  if s.phase.now.tu < s.snap.outSince.tu + 256 then .next s else .next { s with snap := { s.snap with out := false } }

/-! ## SNAP commands (R620, R621) -/

/-- A bank entry, 28 bytes. -/
def bankEntry (s : State) (b : Nat) : List Byte :=
  let x := s.bank b
  le 1 x.state ++ le 1 (flag (bit (u8 s.cfg.snap 1) b) 0) ++ le 1 x.sources ++ le 1 (flag x.late 0 + flag x.remote 1) ++ cycle64 x.strobe.cycle
    ++ le 2 x.strobe.angle ++ zeros 2 ++ le 8 x.sender ++ le 4 x.seq

def execSnapInfo (mbx : Nat) (s : State) : Host.Outcome State Fault Refusal :=
  .next (serveRead 0x1301 1 (· == 0) (fun _ s =>
    ok ((List.range 4).flatMap (bankEntry s) ++ le 1 s.snap.schedule.length ++ zeros 3)) mbx s)

def execSnapTrigger (mbx : Nat) (s : State) : Host.Outcome State Fault Refusal :=
  .next (serve 0x1302 2 (· == 20) (fun c s =>
    let b := u8 c.pay 0
    let fl := u8 c.pay 1
    let i : Instant := ⟨u64 c.pay 4, u16 c.pay 12⟩
    let sends := bit fl 1 || bit (u8 s.cfg.snap 0) 0
    let reply := fun (i : Instant) => ok (cycle64 i.cycle ++ le 2 i.angle ++ zeros 6)
    if b > 3 ∨ fl > 3 ∨ u16 c.pay 2 ≠ 0 ∨ allZero (c.pay.drop 14) = false ∨ (bit fl 0 = false ∧ i ≠ ⟨0, 0⟩) then (s, bad 6)
    else if bit fl 0 = false then
      let s1 := strobe raise b 0 false false 0 0 s
      (if sends then sendTrigger raise s.phase.now b s1 else s1, reply s.phase.now)
    else if s.phase.now.tu + 2 ^ 36 < i.tu then (s, bad 6)
    else if i.tu ≤ s.phase.now.tu then (s, bad 0x0F)
    else if 8 ≤ s.snap.schedule.length then (s, bad 2)
    else
      let s1 := { s with snap := { s.snap with schedule := s.snap.schedule ++ [{ bank := b, at_ := i, source := 0 }] } }
      (if sends then sendTrigger raise i b s1 else s1, reply i)) mbx s)

def execSnapRead (mbx : Nat) (s : State) : Host.Outcome State Fault Refusal :=
  .next (serveRead 0x1303 1 (· == 12) (fun c s =>
    let b := u8 c.pay 0
    let o := u32 c.pay 4
    let n := u16 c.pay 8
    match bankSize (u8 c.pay 1) with
    | none => bad 6
    | some size =>
      if b > 3 ∨ u16 c.pay 2 ≠ 0 ∨ u16 c.pay 10 ≠ 0 ∨ n = 0 ∨ 992 < n then bad 6
      else if (s.bank b).state ≠ 2 then bad 8
      else
        let data := slice (fit size (bankBytes (u8 c.pay 1) (s.bank b) s)) o n
        ok (le 4 size ++ le 2 data.length ++ zeros 2 ++ data)) mbx s)

def execSnapRelease (mbx : Nat) (s : State) : Host.Outcome State Fault Refusal :=
  .next (serve 0x1304 2 (· == 4) (fun c s =>
    let m := u8 c.pay 0
    if m > 15 ∨ allZero (c.pay.drop 1) = false then (s, bad 6)
    else (((List.range 4).filter (bit m)).foldl (fun s b => s.setBank b {}) s, ok [])) mbx s)

end Sys2Proof.Machine
end

