-- ==== Sys2Proof/Machine/Dispatch.lean ====
section
/-! DEFINITION. One arm per command: the row of spec/opcode_table.json on the left, its meaning on the right. -/

namespace Sys2Proof.Machine

def exec (i : Instr) (s : State) : Host.Outcome State Fault Refusal :=
  match i with
  | .hostWindowWrite head bytes => Sys2Proof.Machine.execHostWindowWrite head bytes s
  | .doorbellRing bits => Sys2Proof.Machine.execDoorbellRing bits s
  | .responseRelease bits => Sys2Proof.Machine.execResponseRelease bits s
  | .doorbellLostClear bits => Sys2Proof.Machine.execDoorbellLostClear bits s
  | .irqCauseClear bits => Sys2Proof.Machine.execIrqCauseClear bits s
  | .mailboxRequestFrame => Sys2Proof.Machine.execMailboxRequestFrame s
  | .mailboxBindingExpiry mbx => Sys2Proof.Machine.execMailboxBindingExpiry mbx s
  | .requesterExpiry mac => Sys2Proof.Machine.execRequesterExpiry mac s
  | .sessionIdleTimeout handle => Sys2Proof.Machine.execSessionIdleTimeout handle s
  | .sessionExpiry handle => Sys2Proof.Machine.execSessionExpiry handle s
  | .bulkClaimLapse => Sys2Proof.Machine.execBulkClaimLapse s
  | .bulkCopyComplete => Sys2Proof.Machine.execBulkCopyComplete s
  | .tokenBufferTimeout buffer => Sys2Proof.Machine.execTokenBufferTimeout buffer s
  | .sysIdentify mbx => Sys2Proof.Machine.execSysIdentify mbx s
  | .sysPing mbx => Sys2Proof.Machine.execSysPing mbx s
  | .sysStatus mbx => Sys2Proof.Machine.execSysStatus mbx s
  | .sysOutageRead mbx => Sys2Proof.Machine.execSysOutageRead mbx s
  | .sysSubscribe mbx => Sys2Proof.Machine.execSysSubscribe mbx s
  | .sysBulkClaim mbx => Sys2Proof.Machine.execSysBulkClaim mbx s
  | .sysBulkRelease mbx => Sys2Proof.Machine.execSysBulkRelease mbx s
  | .sysBulkWrite mbx => Sys2Proof.Machine.execSysBulkWrite mbx s
  | .sysBulkCommit mbx => Sys2Proof.Machine.execSysBulkCommit mbx s
  | .sysFwActivate mbx => Sys2Proof.Machine.execSysFwActivate mbx s
  | .fwVerificationComplete => Sys2Proof.Machine.execFwVerificationComplete s
  | .sysWarmRestart mbx => Sys2Proof.Machine.execSysWarmRestart mbx s
  | .sysDeferredStatus mbx => Sys2Proof.Machine.execSysDeferredStatus mbx s
  | .sysMbxStats mbx => Sys2Proof.Machine.execSysMbxStats mbx s
  | .cfgInfo mbx => Sys2Proof.Machine.execCfgInfo mbx s
  | .cfgValidate mbx => Sys2Proof.Machine.execCfgValidate mbx s
  | .cfgActivate mbx => Sys2Proof.Machine.execCfgActivate mbx s
  | .configValidationComplete => Sys2Proof.Machine.execConfigValidationComplete s
  | .cfgReport mbx => Sys2Proof.Machine.execCfgReport mbx s
  | .cfgRead mbx => Sys2Proof.Machine.execCfgRead mbx s
  | .cfgSwathLoad mbx => Sys2Proof.Machine.execCfgSwathLoad mbx s
  | .cfgSwathSet mbx => Sys2Proof.Machine.execCfgSwathSet mbx s
  | .cfgSwathClear mbx => Sys2Proof.Machine.execCfgSwathClear mbx s
  | .cfgSwathRead mbx => Sys2Proof.Machine.execCfgSwathRead mbx s
  | .cfgSwathDelete mbx => Sys2Proof.Machine.execCfgSwathDelete mbx s
  | .rodBoundary ticks vrefMv bandgapMv => Sys2Proof.Machine.execRodBoundary ticks vrefMv bandgapMv s
  | .firmwarePauseEnd => Sys2Proof.Machine.execFirmwarePauseEnd s
  | .warmRestartEnd => Sys2Proof.Machine.execWarmRestartEnd s
  | .zeroCrossing phase stamp16 intervalNs peakMv => Sys2Proof.Machine.execZeroCrossing phase stamp16 intervalNs peakMv s
  | .referenceCrossingMissing => Sys2Proof.Machine.execReferenceCrossingMissing s
  | .flywheelTimeout => Sys2Proof.Machine.execFlywheelTimeout s
  | .acquireTimeout => Sys2Proof.Machine.execAcquireTimeout s
  | .cycleMarkSend => Sys2Proof.Machine.execCycleMarkSend s
  | .cycleMark => Sys2Proof.Machine.execCycleMark s
  | .masterElection => Sys2Proof.Machine.execMasterElection s
  | .countSeed => Sys2Proof.Machine.execCountSeed s
  | .phaseRead mbx => Sys2Proof.Machine.execPhaseRead mbx s
  | .phaseInputs mbx => Sys2Proof.Machine.execPhaseInputs mbx s
  | .phaseSite mbx => Sys2Proof.Machine.execPhaseSite mbx s
  | .phaseMeasureOffset mbx => Sys2Proof.Machine.execPhaseMeasureOffset mbx s
  | .measureOffsetComplete => Sys2Proof.Machine.execMeasureOffsetComplete s
  | .beadFire bead actual => Sys2Proof.Machine.execBeadFire bead actual s
  | .pulseReturn output => Sys2Proof.Machine.execPulseReturn output s
  | .provisionalCheck bead => Sys2Proof.Machine.execProvisionalCheck bead s
  | .calendarArm bead => Sys2Proof.Machine.execCalendarArm bead s
  | .mainPass => Sys2Proof.Machine.execMainPass s
  | .beadPlace mbx => Sys2Proof.Machine.execBeadPlace mbx s
  | .beadRemove mbx => Sys2Proof.Machine.execBeadRemove mbx s
  | .beadEnable mbx => Sys2Proof.Machine.execBeadEnable mbx s
  | .beadRead mbx => Sys2Proof.Machine.execBeadRead mbx s
  | .beadRod mbx => Sys2Proof.Machine.execBeadRod mbx s
  | .beadStats mbx => Sys2Proof.Machine.execBeadStats mbx s
  | .beadCapacity mbx => Sys2Proof.Machine.execBeadCapacity mbx s
  | .chainHorizon chain => Sys2Proof.Machine.execChainHorizon chain s
  | .recomputation entry => Sys2Proof.Machine.execRecomputation entry s
  | .carryInfo mbx => Sys2Proof.Machine.execCarryInfo mbx s
  | .carryList mbx => Sys2Proof.Machine.execCarryList mbx s
  | .carryRead mbx => Sys2Proof.Machine.execCarryRead mbx s
  | .carryChain mbx => Sys2Proof.Machine.execCarryChain mbx s
  | .carryStats mbx => Sys2Proof.Machine.execCarryStats mbx s
  | .carryStatsClear mbx => Sys2Proof.Machine.execCarryStatsClear mbx s
  | .carryDrop mbx => Sys2Proof.Machine.execCarryDrop mbx s
  | .leaseConfirmDeadline => Sys2Proof.Machine.execLeaseConfirmDeadline s
  | .offerPublish => Sys2Proof.Machine.execOfferPublish s
  | .borrowReceived => Sys2Proof.Machine.execBorrowReceived s
  | .grantReceived => Sys2Proof.Machine.execGrantReceived s
  | .refuseReceived => Sys2Proof.Machine.execRefuseReceived s
  | .returnReceived => Sys2Proof.Machine.execReturnReceived s
  | .borrowTimeout loan => Sys2Proof.Machine.execBorrowTimeout loan s
  | .loanRenewalCheck loan => Sys2Proof.Machine.execLoanRenewalCheck loan s
  | .heatFallback => Sys2Proof.Machine.execHeatFallback s
  | .reckAccounts mbx => Sys2Proof.Machine.execReckAccounts mbx s
  | .reckLeaseSet mbx => Sys2Proof.Machine.execReckLeaseSet mbx s
  | .reckLeaseConfirm mbx => Sys2Proof.Machine.execReckLeaseConfirm mbx s
  | .reckLeaseRefuse mbx => Sys2Proof.Machine.execReckLeaseRefuse mbx s
  | .reckLeaseRead mbx => Sys2Proof.Machine.execReckLeaseRead mbx s
  | .reckLoans mbx => Sys2Proof.Machine.execReckLoans mbx s
  | .reckLoanReturn mbx => Sys2Proof.Machine.execReckLoanReturn mbx s
  | .reckStats mbx => Sys2Proof.Machine.execReckStats mbx s
  | .reckStatsClear mbx => Sys2Proof.Machine.execReckStatsClear mbx s
  | .loopSample slot => Sys2Proof.Machine.execLoopSample slot s
  | .sampleStart => Sys2Proof.Machine.execSampleStart s
  | .sampleComplete processor => Sys2Proof.Machine.execSampleComplete processor s
  | .resultApply slot => Sys2Proof.Machine.execResultApply slot s
  | .awaitGiveUp slot => Sys2Proof.Machine.execAwaitGiveUp slot s
  | .loopStatus mbx => Sys2Proof.Machine.execLoopStatus mbx s
  | .loopRead mbx => Sys2Proof.Machine.execLoopRead mbx s
  | .loopFlagsClear mbx => Sys2Proof.Machine.execLoopFlagsClear mbx s
  | .loopEnable mbx => Sys2Proof.Machine.execLoopEnable mbx s
  | .loopManual mbx => Sys2Proof.Machine.execLoopManual mbx s
  | .loopModel mbx => Sys2Proof.Machine.execLoopModel mbx s
  | .loopTraceArm mbx => Sys2Proof.Machine.execLoopTraceArm mbx s
  | .loopTraceStatus mbx => Sys2Proof.Machine.execLoopTraceStatus mbx s
  | .loopTraceRead mbx => Sys2Proof.Machine.execLoopTraceRead mbx s
  | .loopStats mbx => Sys2Proof.Machine.execLoopStats mbx s
  | .cutMarkSend => Sys2Proof.Machine.execCutMarkSend s
  | .commonsCut => Sys2Proof.Machine.execCommonsCut s
  | .commonsUpdateFrame => Sys2Proof.Machine.execCommonsUpdateFrame s
  | .cutMark => Sys2Proof.Machine.execCutMark s
  | .commonsFrameSend => Sys2Proof.Machine.execCommonsFrameSend s
  | .refreshQueue => Sys2Proof.Machine.execRefreshQueue s
  | .commonsInfo mbx => Sys2Proof.Machine.execCommonsInfo mbx s
  | .commonsRead mbx => Sys2Proof.Machine.execCommonsRead mbx s
  | .commonsWrite mbx => Sys2Proof.Machine.execCommonsWrite mbx s
  | .commonsChips mbx => Sys2Proof.Machine.execCommonsChips mbx s
  | .commonsBlocks mbx => Sys2Proof.Machine.execCommonsBlocks mbx s
  | .commonsStats mbx => Sys2Proof.Machine.execCommonsStats mbx s
  | .commonsStatsClear mbx => Sys2Proof.Machine.execCommonsStatsClear mbx s
  | .frameReceived port frame fcsOk => Sys2Proof.Machine.execFrameReceived port frame fcsOk s
  | .frameTransmit port => Sys2Proof.Machine.execFrameTransmit port s
  | .gateTransition port => Sys2Proof.Machine.execGateTransition port s
  | .linkUp port => Sys2Proof.Machine.execLinkUp port s
  | .linkDown port cause => Sys2Proof.Machine.execLinkDown port cause s
  | .serdesIdle port => Sys2Proof.Machine.execSerdesIdle port s
  | .supervisionSend => Sys2Proof.Machine.execSupervisionSend s
  | .supervisionReturnTimeout port => Sys2Proof.Machine.execSupervisionReturnTimeout port s
  | .duplicateEntryExpiry src seq => Sys2Proof.Machine.execDuplicateEntryExpiry src seq s
  | .nodeEntryExpiry mac => Sys2Proof.Machine.execNodeEntryExpiry mac s
  | .proxyEntryExpiry mac => Sys2Proof.Machine.execProxyEntryExpiry mac s
  | .pdelaySend port delayNs => Sys2Proof.Machine.execPdelaySend port delayNs s
  | .announceSend => Sys2Proof.Machine.execAnnounceSend s
  | .ptpSyncReceived offsetNs pathDelayNs dPtp => Sys2Proof.Machine.execPtpSyncReceived offsetNs pathDelayNs dPtp s
  | .ptpSyncTimeout => Sys2Proof.Machine.execPtpSyncTimeout s
  | .ringInfo mbx => Sys2Proof.Machine.execRingInfo mbx s
  | .ringPort mbx => Sys2Proof.Machine.execRingPort mbx s
  | .ringPortClear mbx => Sys2Proof.Machine.execRingPortClear mbx s
  | .ringNodes mbx => Sys2Proof.Machine.execRingNodes mbx s
  | .ringProxy mbx => Sys2Proof.Machine.execRingProxy mbx s
  | .ringPtp mbx => Sys2Proof.Machine.execRingPtp mbx s
  | .ringGates mbx => Sys2Proof.Machine.execRingGates mbx s
  | .ringRequesters mbx => Sys2Proof.Machine.execRingRequesters mbx s
  | .canFrameReceived channel frame spare => Sys2Proof.Machine.execCanFrameReceived channel frame spare s
  | .canFrameSent channel reference => Sys2Proof.Machine.execCanFrameSent channel reference s
  | .canTransmitError channel => Sys2Proof.Machine.execCanTransmitError channel s
  | .arbitrationLost channel => Sys2Proof.Machine.execArbitrationLost channel s
  | .busOffRecovery channel => Sys2Proof.Machine.execBusOffRecovery channel s
  | .referencePeriodStart channel => Sys2Proof.Machine.execReferencePeriodStart channel s
  | .referencePending channel => Sys2Proof.Machine.execReferencePending channel s
  | .referenceCancel channel => Sys2Proof.Machine.execReferenceCancel channel s
  | .spareEngineRotate => Sys2Proof.Machine.execSpareEngineRotate s
  | .spareSwitchOver => Sys2Proof.Machine.execSpareSwitchOver s
  | .spareIntegrated framesLost => Sys2Proof.Machine.execSpareIntegrated framesLost s
  | .leakInjectionToggle channel averageMv => Sys2Proof.Machine.execLeakInjectionToggle channel averageMv s
  | .fallowBeacon channel => Sys2Proof.Machine.execFallowBeacon channel s
  | .fbusStatus mbx => Sys2Proof.Machine.execFbusStatus mbx s
  | .fbusStats mbx => Sys2Proof.Machine.execFbusStats mbx s
  | .fbusStatsClear mbx => Sys2Proof.Machine.execFbusStatsClear mbx s
  | .fbusSend mbx => Sys2Proof.Machine.execFbusSend mbx s
  | .fbusReceive mbx => Sys2Proof.Machine.execFbusReceive mbx s
  | .fbusRecover mbx => Sys2Proof.Machine.execFbusRecover mbx s
  | .fbusSpare mbx => Sys2Proof.Machine.execFbusSpare mbx s
  | .fbusInsulation mbx => Sys2Proof.Machine.execFbusInsulation mbx s
  | .fbusTiming mbx => Sys2Proof.Machine.execFbusTiming mbx s
  | .rollCall bus => Sys2Proof.Machine.execRollCall bus s
  | .cfpAnnounce bus => Sys2Proof.Machine.execCfpAnnounce bus s
  | .cfpAssign bus => Sys2Proof.Machine.execCfpAssign bus s
  | .cfpClaim bus => Sys2Proof.Machine.execCfpClaim bus s
  | .claimWindowEnd bus => Sys2Proof.Machine.execClaimWindowEnd bus s
  | .cfpRsp bus => Sys2Proof.Machine.execCfpRsp bus s
  | .cfpRpt bus => Sys2Proof.Machine.execCfpRpt bus s
  | .cfpSegment bus => Sys2Proof.Machine.execCfpSegment bus s
  | .cfpTimeout bus tag => Sys2Proof.Machine.execCfpTimeout bus tag s
  | .segmentTimeout bus tag => Sys2Proof.Machine.execSegmentTimeout bus tag s
  | .transactionSend bus => Sys2Proof.Machine.execTransactionSend bus s
  | .cfpNodes mbx => Sys2Proof.Machine.execCfpNodes mbx s
  | .cfpRole mbx => Sys2Proof.Machine.execCfpRole mbx s
  | .cfpRoleMove mbx => Sys2Proof.Machine.execCfpRoleMove mbx s
  | .cfpTransact mbx => Sys2Proof.Machine.execCfpTransact mbx s
  | .cfpRollcall mbx => Sys2Proof.Machine.execCfpRollcall mbx s
  | .cfpForget mbx => Sys2Proof.Machine.execCfpForget mbx s
  | .cfpStats mbx => Sys2Proof.Machine.execCfpStats mbx s
  | .cfpStatsClear mbx => Sys2Proof.Machine.execCfpStatsClear mbx s
  | .valveEventStart bank => Sys2Proof.Machine.execValveEventStart bank s
  | .valvePeakReached channel micros currentMa => Sys2Proof.Machine.execValvePeakReached channel micros currentMa s
  | .valvePeakEnd channel => Sys2Proof.Machine.execValvePeakEnd channel s
  | .valveDropEnd channel => Sys2Proof.Machine.execValveDropEnd channel s
  | .valveHoldEnd channel meanMa => Sys2Proof.Machine.execValveHoldEnd channel meanMa s
  | .valveDecayEnd channel => Sys2Proof.Machine.execValveDecayEnd channel s
  | .valveOffTimeEnd channel => Sys2Proof.Machine.execValveOffTimeEnd channel s
  | .bankRecoveryEnd bank => Sys2Proof.Machine.execBankRecoveryEnd bank s
  | .valveDeferExpiry channel => Sys2Proof.Machine.execValveDeferExpiry channel s
  | .dutyInstant channel => Sys2Proof.Machine.execDutyInstant channel s
  | .valveOpen channel currentMa => Sys2Proof.Machine.execValveOpen channel currentMa s
  | .valveShort channel micros => Sys2Proof.Machine.execValveShort channel micros s
  | .valveOvercurrent channel currentMa => Sys2Proof.Machine.execValveOvercurrent channel currentMa s
  | .valveDecay bank currentMa => Sys2Proof.Machine.execValveDecay bank currentMa s
  | .valveStuck channel currentMa => Sys2Proof.Machine.execValveStuck channel currentMa s
  | .valveBankOvercurrent bank currentMa => Sys2Proof.Machine.execValveBankOvercurrent bank currentMa s
  | .valveGroundShort bank excessMa => Sys2Proof.Machine.execValveGroundShort bank excessMa s
  | .valveStatus mbx => Sys2Proof.Machine.execValveStatus mbx s
  | .valveFire mbx => Sys2Proof.Machine.execValveFire mbx s
  | .valveClear mbx => Sys2Proof.Machine.execValveClear mbx s
  | .valveProfile mbx => Sys2Proof.Machine.execValveProfile mbx s
  | .valveStats mbx => Sys2Proof.Machine.execValveStats mbx s
  | .valveStatsClear mbx => Sys2Proof.Machine.execValveStatsClear mbx s
  | .fanSlewUpdate => Sys2Proof.Machine.execFanSlewUpdate s
  | .tachPulse output periodUs => Sys2Proof.Machine.execTachPulse output periodUs s
  | .kickAttemptEnd output => Sys2Proof.Machine.execKickAttemptEnd output s
  | .retryWaitEnd output => Sys2Proof.Machine.execRetryWaitEnd output s
  | .coolDownEnd output => Sys2Proof.Machine.execCoolDownEnd output s
  | .tachLossTimeout output => Sys2Proof.Machine.execTachLossTimeout output s
  | .hostSilence => Sys2Proof.Machine.execHostSilence s
  | .fanGroupUpdate group => Sys2Proof.Machine.execFanGroupUpdate group s
  | .fanStatus mbx => Sys2Proof.Machine.execFanStatus mbx s
  | .fanSet mbx => Sys2Proof.Machine.execFanSet mbx s
  | .fanZones mbx => Sys2Proof.Machine.execFanZones mbx s
  | .fanRetry mbx => Sys2Proof.Machine.execFanRetry mbx s
  | .fanStats mbx => Sys2Proof.Machine.execFanStats mbx s
  | .fanStatsClear mbx => Sys2Proof.Machine.execFanStatsClear mbx s
  | .encoderUpdate channel lines samples => Sys2Proof.Machine.execEncoderUpdate channel lines samples s
  | .indexEvent channel lines => Sys2Proof.Machine.execIndexEvent channel lines s
  | .ssiRead channel dataHigh bits parity => Sys2Proof.Machine.execSsiRead channel dataHigh bits parity s
  | .speedTimeout channel => Sys2Proof.Machine.execSpeedTimeout channel s
  | .positionerEvaluation channel => Sys2Proof.Machine.execPositionerEvaluation channel s
  | .moveTimeout channel => Sys2Proof.Machine.execMoveTimeout channel s
  | .maxRunTimeout channel => Sys2Proof.Machine.execMaxRunTimeout channel s
  | .extensionUpdate => Sys2Proof.Machine.execExtensionUpdate s
  | .ventRead mbx => Sys2Proof.Machine.execVentRead mbx s
  | .ventCompare mbx => Sys2Proof.Machine.execVentCompare mbx s
  | .ventPreset mbx => Sys2Proof.Machine.execVentPreset mbx s
  | .ventSet mbx => Sys2Proof.Machine.execVentSet mbx s
  | .ventClear mbx => Sys2Proof.Machine.execVentClear mbx s
  | .ventStats mbx => Sys2Proof.Machine.execVentStats mbx s
  | .conversionEnd channel code spares => Sys2Proof.Machine.execConversionEnd channel code spares s
  | .excitationCompliance source reached => Sys2Proof.Machine.execExcitationCompliance source reached s
  | .dwellEnd => Sys2Proof.Machine.execDwellEnd s
  | .modulatorReplacement => Sys2Proof.Machine.execModulatorReplacement s
  | .senseRead mbx => Sys2Proof.Machine.execSenseRead mbx s
  | .senseMeter mbx => Sys2Proof.Machine.execSenseMeter mbx s
  | .senseWave mbx => Sys2Proof.Machine.execSenseWave mbx s
  | .senseModulators mbx => Sys2Proof.Machine.execSenseModulators mbx s
  | .senseSpare mbx => Sys2Proof.Machine.execSenseSpare mbx s
  | .senseStats mbx => Sys2Proof.Machine.execSenseStats mbx s
  | .senseStatsClear mbx => Sys2Proof.Machine.execSenseStatsClear mbx s
  | .keyScan raw => Sys2Proof.Machine.execKeyScan raw s
  | .encoderStep encoder lines => Sys2Proof.Machine.execEncoderStep encoder lines s
  | .longPress key => Sys2Proof.Machine.execLongPress key s
  | .resetCombination record => Sys2Proof.Machine.execResetCombination record s
  | .panelStatus mbx => Sys2Proof.Machine.execPanelStatus mbx s
  | .panelKeys mbx => Sys2Proof.Machine.execPanelKeys mbx s
  | .panelEvents mbx => Sys2Proof.Machine.execPanelEvents mbx s
  | .panelDisplay mbx => Sys2Proof.Machine.execPanelDisplay mbx s
  | .panelStats mbx => Sys2Proof.Machine.execPanelStats mbx s
  | .panelStatsClear mbx => Sys2Proof.Machine.execPanelStatsClear mbx s
  | .clockWriteApply => Sys2Proof.Machine.execClockWriteApply s
  | .trimCompensation temperature => Sys2Proof.Machine.execTrimCompensation temperature s
  | .vbatCheck millivolts => Sys2Proof.Machine.execVbatCheck millivolts s
  | .oscillatorStop => Sys2Proof.Machine.execOscillatorStop s
  | .clockRead mbx => Sys2Proof.Machine.execClockRead mbx s
  | .clockSet mbx => Sys2Proof.Machine.execClockSet mbx s
  | .clockConvert mbx => Sys2Proof.Machine.execClockConvert mbx s
  | .clockFlagsClear mbx => Sys2Proof.Machine.execClockFlagsClear mbx s
  | .clockTrim mbx => Sys2Proof.Machine.execClockTrim mbx s
  | .recordWrite => Sys2Proof.Machine.execRecordWrite s
  | .snapInEdge => Sys2Proof.Machine.execSnapInEdge s
  | .scheduledStrobe => Sys2Proof.Machine.execScheduledStrobe s
  | .snapshotTriggerFrame => Sys2Proof.Machine.execSnapshotTriggerFrame s
  | .snapshotCopyComplete bank => Sys2Proof.Machine.execSnapshotCopyComplete bank s
  | .snapOutEnd => Sys2Proof.Machine.execSnapOutEnd s
  | .logInfo mbx => Sys2Proof.Machine.execLogInfo mbx s
  | .logRead mbx => Sys2Proof.Machine.execLogRead mbx s
  | .logReadKept mbx => Sys2Proof.Machine.execLogReadKept mbx s
  | .logRearm mbx => Sys2Proof.Machine.execLogRearm mbx s
  | .logMark mbx => Sys2Proof.Machine.execLogMark mbx s
  | .logStats mbx => Sys2Proof.Machine.execLogStats mbx s
  | .logStatsClear mbx => Sys2Proof.Machine.execLogStatsClear mbx s
  | .snapInfo mbx => Sys2Proof.Machine.execSnapInfo mbx s
  | .snapTrigger mbx => Sys2Proof.Machine.execSnapTrigger mbx s
  | .snapRead mbx => Sys2Proof.Machine.execSnapRead mbx s
  | .snapRelease mbx => Sys2Proof.Machine.execSnapRelease mbx s
  | .powerOnReset backupKept => Sys2Proof.Machine.execPowerOnReset backupKept s
  | .supplyFail => Sys2Proof.Machine.execSupplyFail s
  | .bootSequence passed => Sys2Proof.Machine.execBootSequence passed s
  | .harloporConfirm => Sys2Proof.Machine.execHarloporConfirm s
  | .confirmDeadline => Sys2Proof.Machine.execConfirmDeadline s
  | .startWatchdogExpiry => Sys2Proof.Machine.execStartWatchdogExpiry s
  | .supervisorRestartDeadline => Sys2Proof.Machine.execSupervisorRestartDeadline s
  | .leaveRestart => Sys2Proof.Machine.execLeaveRestart s
  | .startConfirm mbx => Sys2Proof.Machine.execStartConfirm mbx s
  | .startLedger mbx => Sys2Proof.Machine.execStartLedger mbx s
  | .startReason mbx => Sys2Proof.Machine.execStartReason mbx s
  | .startSessionOpen mbx => Sys2Proof.Machine.execStartSessionOpen mbx s
  | .startLeave mbx => Sys2Proof.Machine.execStartLeave mbx s
  | .startFallow mbx => Sys2Proof.Machine.execStartFallow mbx s
  | .startSelect mbx => Sys2Proof.Machine.execStartSelect mbx s
  | .startThreshold mbx => Sys2Proof.Machine.execStartThreshold mbx s
  | .startTest mbx => Sys2Proof.Machine.execStartTest mbx s
  | .startFallowMap mbx => Sys2Proof.Machine.execStartFallowMap mbx s
  | .lockstepMismatch => Sys2Proof.Machine.execLockstepMismatch s
  | .selfTestComplete passed micros => Sys2Proof.Machine.execSelfTestComplete passed micros s
  | .swapResume => Sys2Proof.Machine.execSwapResume s
  | .wearMeasurement kind unit wear => Sys2Proof.Machine.execWearMeasurement kind unit wear s
  | .eccCorrection kind unit => Sys2Proof.Machine.execEccCorrection kind unit s
  | .uncorrectableError kind unit offset region place => Sys2Proof.Machine.execUncorrectableError kind unit offset region place s
  | .rowRemap kind unit => Sys2Proof.Machine.execRowRemap kind unit s
  | .ageingSample temperature => Sys2Proof.Machine.execAgeingSample temperature s
  | .spareInfo mbx => Sys2Proof.Machine.execSpareInfo mbx s
  | .spareLedger mbx => Sys2Proof.Machine.execSpareLedger mbx s
  | .spareWear mbx => Sys2Proof.Machine.execSpareWear mbx s
  | .spareProfile mbx => Sys2Proof.Machine.execSpareProfile mbx s
  | .spareSwap mbx => Sys2Proof.Machine.execSpareSwap mbx s
  | .substitutionComplete => Sys2Proof.Machine.execSubstitutionComplete s
  | .secSessionOpen mbx => Sys2Proof.Machine.execSecSessionOpen mbx s
  | .secSessionClose mbx => Sys2Proof.Machine.execSecSessionClose mbx s
  | .secIdentity mbx => Sys2Proof.Machine.execSecIdentity mbx s
  | .secAttest mbx => Sys2Proof.Machine.execSecAttest mbx s
  | .attestationComplete => Sys2Proof.Machine.execAttestationComplete s
  | .secObjectRead mbx => Sys2Proof.Machine.execSecObjectRead mbx s
  | .secKeys mbx => Sys2Proof.Machine.execSecKeys mbx s
  | .secKeySet mbx => Sys2Proof.Machine.execSecKeySet mbx s
  | .secCounters mbx => Sys2Proof.Machine.execSecCounters mbx s
  | .secRelinquish mbx => Sys2Proof.Machine.execSecRelinquish mbx s
  | .railMonitor millivolts temperature => Sys2Proof.Machine.execRailMonitor millivolts temperature s
  | .readbackCheck levels => Sys2Proof.Machine.execReadbackCheck levels s
  | .pinOutputs mbx => Sys2Proof.Machine.execPinOutputs mbx s
  | .pinWrite mbx => Sys2Proof.Machine.execPinWrite mbx s
  | .pinClaim mbx => Sys2Proof.Machine.execPinClaim mbx s
  | .pinBalls mbx => Sys2Proof.Machine.execPinBalls mbx s
  | .pinSupply mbx => Sys2Proof.Machine.execPinSupply mbx s
  | .clockTick => Sys2Proof.Machine.execClockTick s
  | .oscillatorRestart => Sys2Proof.Machine.execOscillatorRestart s
  | .masterMarkTimeout => Sys2Proof.Machine.execMasterMarkTimeout s
  | .serdesWake port => Sys2Proof.Machine.execSerdesWake port s
  | .canIntegrated channel => Sys2Proof.Machine.execCanIntegrated channel s
  | .canReceiveError channel ident => Sys2Proof.Machine.execCanReceiveError channel ident s
  | .meterSample l1 l2 l3 => Sys2Proof.Machine.execMeterSample l1 l2 l3 s
  | .encoderTransition encoder lines => Sys2Proof.Machine.execEncoderTransition encoder lines s
  | .pllLossOfLock => Sys2Proof.Machine.execPllLossOfLock s

end Sys2Proof.Machine
end

