-- ==== Sys2Proof/Safety.lean ====
section
/-! DEFINITION. The terms claims use: a safe step, a legal state, and a verb that is asked, completes or is turned away. -/

namespace Sys2Proof.Machine

/-- A command answers a next state: it neither stops the block nor lacks a meaning. -/
def answers (o : Host.Outcome State Fault Refusal) : Bool :=
  match o with
  | .next _ => true
  | .fault _ => false
  | .refused _ => false

/-- Canonical form of the window and a legal present angle (R9, R36). -/
def State.wf (s : State) : Bool := Memory.wf s.window && decide (s.phase.now.angle ≤ 65535)

/-- Every queue and table of messaging, of the recorder and of the switch is within its size: 16 deferred commands (R52), 16 sessions (R65), 16 network requesters (R366), 48 event and 16 completion notifications (R54), 4 token buffers (R680), 64 reports in the intake (R595), 1,024 kept records (R602), 4,096 duplicate entries (R347), 16 proxies (R350). -/
def State.queuesFit (s : State) : Prop :=
  s.mail.deferred.length ≤ 16 ∧ s.mail.sessions.length ≤ 16 ∧ s.mail.requesters.length ≤ 16
    ∧ (s.mail.notices.filter fun x => !x.completion).length ≤ 48 ∧ (s.mail.notices.filter Notice.completion).length ≤ 16
    ∧ s.mail.tokens.length ≤ 4 ∧ s.recorder.intake.length ≤ 64 ∧ s.recorder.kept.length ≤ 1024
    ∧ s.ring.duplicates.length ≤ 4096 ∧ s.ring.proxies.length ≤ 16

/-- The later state differs from the earlier at most in what raising events changes: reports in the recorder, frames and counters at the switch's ports, snapshot banks with SNAP_OUT, loop traces that a strobe triggers, notifications, and the free values taken. -/
def sameButEvents (s t : State) : Prop :=
  t = { s with
    ring := { s.ring with ports := t.ring.ports, seq := t.ring.seq }
    engine := { s.engine with traces := t.engine.traces }
    recorder := { s.recorder with
      intake := t.recorder.intake, area := t.recorder.area, kept := t.recorder.kept, lost := t.recorder.lost
      matched := t.recorder.matched, stats := t.recorder.stats }
    hif := { s.hif with respReady := t.hif.respReady }
    mail := { s.mail with notices := t.mail.notices, noticePlaced := t.mail.noticePlaced, lostNotices := t.mail.lostNotices }
    snap := { s.snap with banks := t.snap.banks, out := t.snap.out, outSince := t.snap.outSince }
    window := t.window
    free := t.free }

/-- The later state differs from the earlier at most in what raising events and answering requests change: besides the above, the requests of the mailboxes and their FREE bits, the responses kept for repetitions, the mailbox counters, the deferred commands, and the restarts that follow a placed response or completion (R81, R103). -/
def sameButAnswers (s t : State) : Prop :=
  sameButEvents
    { s with
      mail := { s.mail with
        queues := t.mail.queues, kept := t.mail.kept, stats := t.mail.stats, deferred := t.mail.deferred, finished := t.mail.finished }
      hif := { s.hif with reqFree := t.hif.reqFree }
      super := { s.super with warmAt := t.super.warmAt }
      cfg := { s.cfg with restartAt := t.cfg.restartAt, restartJob := t.cfg.restartJob } } t

/-- A supervisor serves the mailbox's oldest unanswered request, which is this call's, has the code, is not begun, has its turn (R48, R50), and passes every check of R73 that comes before the command's own. -/
def asked (s : State) (m code role : Nat) (lenOk : Nat → Bool) (c : Call) : Bool :=
  serving s && c.mbx == m && c.req.hdr.code == code &&
    (match waitingEntry s m with
     | none => false
     | some e => e.req == c.req && !e.started && turn s m e) &&
    (match entryCheck s m c.req role lenOk with
     | .error _ => false
     | .ok r => r == c.role)

/-- A verb completes: whenever it is asked and its conditions hold, its next state is the state its effect leaves, with the request answered OK and the payload its rule gives. -/
def Completes (i : Nat → Instr) (code role : Nat) (lenOk : Nat → Bool) (good : Call → State → Prop)
    (effect : Call → State → State) (payload : Call → State → List Byte) : Prop :=
  ∀ m s c, asked s m code role lenOk c = true → good c s →
    exec (i m) s = .next (answer m (ok (payload c s)) (effect c s))

/-- A verb that only reads completes: it changes nothing and answers OK with its payload. -/
def Reads (i : Nat → Instr) (code role : Nat) (lenOk : Nat → Bool) (good : Call → State → Prop)
    (payload : Call → State → List Byte) : Prop :=
  Completes i code role lenOk good (fun _ s => s) payload

/-- A verb is turned away: whenever it is asked and the condition holds, it changes nothing and answers with this status alone. -/
def TurnsAway (i : Nat → Instr) (code role : Nat) (lenOk : Nat → Bool) (when_ : Call → State → Prop) (status : Nat) : Prop :=
  ∀ m s c, asked s m code role lenOk c = true → when_ c s → exec (i m) s = .next (answer m (bad status) s)

/-- A verb that answers later starts: its effect happens, and its request stays unanswered and is marked as begun (R404, R548, R591). -/
def Starts (i : Nat → Instr) (code role : Nat) (lenOk : Nat → Bool) (good : Call → State → Prop)
    (effect : Call → State → State) : Prop :=
  ∀ m s c, asked s m code role lenOk c = true → good c s →
    exec (i m) s = .next ((effect c s).setEntries m (startFirst ((effect c s).entries m)))

end Sys2Proof.Machine
end

