-- ==== Sys2Proof/Certificates/Slice0/Obligations.lean ====
section
/-! DEFINITION. The statements for the provers: one `def Obligations.<Name> : Prop` each, listed in OBLIGATIONS.json. Their words are those of Sys2Proof/Safety.lean and of the model. -/

open Sys2Proof Sys2Proof.Machine

/-- For every command c, queue rest and state s, the step of s with c at the front of its queue is exec c on s with the queue's rest. With an empty queue the step is one tick of the phase clock: the angle advances by one; at 65,535 it awaits the ROD_BOUNDARY, and before the timebase has first left ACQUIRE it turns to 0 and only the counts of turns change (what an empty queue does is the model's own choice, assumption log 1). -/
def Obligations.StepRunsTheFrontCommand : Prop :=
  (∀ (c : Instr) (rest : List Instr) (s : State), step { s with pending := c :: rest } = exec c { s with pending := rest }) ∧
  (∀ s : State, s.pending = [] → s.phase.now.angle < 65535 →
    step s = .next { s with phase := { s.phase with now := { s.phase.now with angle := s.phase.now.angle + 1 } } }) ∧
  (∀ s : State, s.pending = [] → 65535 ≤ s.phase.now.angle → s.phase.left = true → step s = .next s) ∧
  (∀ s : State, s.pending = [] → 65535 ≤ s.phase.now.angle → s.phase.left = false → step s = .next { s with phase := { s.phase with
    now := { s.phase.now with angle := 0 }, sinceValid := s.phase.sinceValid + 1, acquireTurns := s.phase.acquireTurns + 1 } })

/-- For every command and every state, exec answers a next state, except HOST_WINDOW_WRITE of whole words touching the bulk window while a copy is going on, which is the fault outsideManual (R41, R3). No command is ever refused. -/
def Obligations.EveryCommandAnswersButOne : Prop :=
  ∀ (c : Instr) (s : State),
    (∃ t, exec c s = .next t) ∨
    (∃ head bytes, c = .hostWindowWrite head bytes ∧ s.hif.copying.isSome = true ∧ touchesBulk head.addr bytes.length = true ∧
      exec c s = .fault .outsideManual)

/-- Whenever exec of any command answers a next state, that state's queue is the one it was given; so a step from a queue c :: rest leaves exactly rest. -/
def Obligations.StepTakesOnlyItsCommand : Prop :=
  (∀ (c : Instr) (s t : State), exec c s = .next t → t.pending = s.pending) ∧
  (∀ (c : Instr) (rest : List Instr) (s t : State), s.pending = c :: rest → step s = .next t → t.pending = rest)

/-- For every state s, reachable or not, and every step of it that answers a next state t: the firmware rollback counter, the configuration rollback counter and the key revocation counter of t are each at least what they are in s, whatever the command at the front of the queue is and whatever its operands are. -/
def Obligations.RollbackCountersNeverFall : Prop :=
  ∀ s t : State, step s = .next t →
    s.sec.fwCounter ≤ t.sec.fwCounter ∧ s.sec.cfgCounter ≤ t.sec.cfgCounter ∧ s.sec.keyCounter ≤ t.sec.keyCounter

/-- Whenever any command answers a next state in which the configuration rollback counter differs, the command is ROD_BOUNDARY (a configuration becomes active at a boundary) or BOOT_SEQUENCE (one becomes active in the boot ROM), the two moments of R104. Whenever the firmware rollback counter or the key revocation counter differs, the command is HARLOPOR_CONFIRM or START.CONFIRM, the two confirmations of R625. -/
def Obligations.RollbackCountersRiseOnlyWhere : Prop :=
  ∀ (c : Instr) (s t : State), exec c s = .next t →
    (t.sec.cfgCounter ≠ s.sec.cfgCounter → (∃ ticks vref bandgap, c = .rodBoundary ticks vref bandgap) ∨ (∃ p, c = .bootSequence p)) ∧
    (t.sec.fwCounter ≠ s.sec.fwCounter ∨ t.sec.keyCounter ≠ s.sec.keyCounter → c = .harloporConfirm ∨ ∃ m, c = .startConfirm m)

/-- For every state s in which at most 16 deferred commands, 16 sessions, 16 network requesters, 48 event and 16 completion notifications, 4 token buffers, 64 reports in the intake, 1,024 kept records, 4,096 duplicate entries and 16 proxies stand, every step that answers a next state gives one in which the same bounds hold. -/
def Obligations.QueuesStayWithinTheirSizes : Prop :=
  ∀ s t : State, s.queuesFit → step s = .next t → t.queuesFit

/-- For every state whose window lists strictly rising addresses and no byte equal to the 0 an unlisted address reads as, every step that answers a next state gives one whose window has the same form: equal windows stay equal data (the form is the model's own, assumption log 6). -/
def Obligations.WindowStaysCanonical : Prop :=
  ∀ s t : State, Memory.wf s.window = true → step s = .next t → Memory.wf t.window = true

/-- State.reset has an empty command queue, a canonical window, queues within their sizes and an angle below 65,536; the block is in boot ROM mode with all three rollback counters at 0 and no session open, SUP_PAUSE clear. -/
def Obligations.ResetIsLegal : Prop :=
  State.reset.pending = [] ∧ Memory.wf State.reset.window = true ∧ State.reset.queuesFit ∧ State.reset.phase.now.angle ≤ 65535 ∧
  State.reset.hif.mode = .bootRom ∧ State.reset.hif.supPause = false ∧ State.reset.mail.sessions = [] ∧
  State.reset.sec.fwCounter = 0 ∧ State.reset.sec.cfgCounter = 0 ∧ State.reset.sec.keyCounter = 0

/-- For every code, parameters and state, raising an event changes at most the reports of the recorder, the egress queues, counters and sequence number of the switch, the snapshot banks and SNAP_OUT with its latest strobe's time, the loop traces that a strobe triggers (R301), the notifications of mailbox 15 with its READY bit and response area, and how many free values are taken; every other field of the state is as it was. -/
def Obligations.RaisingAnEventChangesOnlyRecords : Prop :=
  ∀ (code : Nat) (params : List Nat) (s : State), sameButEvents s (raise code params s)

/-- For every mailbox, answer and state, answering the oldest unanswered request changes at most what events change and the requests of the mailboxes with their FREE bits, the responses kept for network requesters, the mailbox counters, the deferred commands, and the warm or configuration restart that waits for this answer to be placed (R81, R103); configuration otherwise, timebase, abacus, carry, reckoner, engine, commons, field bus, valve, fan, vent, sense, panel, clock, start, supervisor, spare, security and pin state are as they were. -/
def Obligations.AnsweringChangesOnlyMessaging : Prop :=
  ∀ (m : Nat) (a : Answer) (s : State), sameButAnswers s (answer m a s)

/-- Whenever they are asked (served, waiting, past the checks of R73), SYS.IDENTIFY, SYS.PING, SYS.STATUS, SYS.OUTAGE_READ of one of the last 32 years, SYS.DEFERRED_STATUS and SYS.MBX_STATS answer OK with the fields of R76 in order, and their own effect changes no state. SYS.SUBSCRIBE with bits of classes 1 to 23 replaces the session's class mask and answers the old one; SYS.BULK_CLAIM of a free window by the role its target needs claims it at offset 0; BULK_WRITE inside the window stores exactly its bytes; BULK_COMMIT of the next bytes starts the copy and answers the new offset; BULK_RELEASE by the holder ends the claim; FW_ACTIVATE with fewer than 16 deferred commands in flight and no activation under way starts the verification of the inactive slot against the rollback counters as they stand, and answers ACCEPTED as a job of its own; WARM_RESTART answers OK first, and when that response is placed (or sent) the restart is set for the second boundary after it, unless one stands already. A response is placed in the response area with READY set when its mailbox's READY bit is clear (the bytes beyond it are zeros, assumption log 46). The next state is written out, so whatever is not named is unchanged but for the answer. Completes: SYS.IDENTIFY, SYS.PING, SYS.STATUS, SYS.OUTAGE_READ, SYS.SUBSCRIBE, SYS.BULK_CLAIM, SYS.BULK_RELEASE, SYS.BULK_WRITE, SYS.BULK_COMMIT, SYS.FW_ACTIVATE, SYS.WARM_RESTART, SYS.DEFERRED_STATUS, SYS.MBX_STATS. -/
def Obligations.SysVerbsComplete : Prop :=
  Reads .sysIdentify 0x0101 0 (· == 0) (fun _ _ => True) (fun _ s =>
      le 2 0xD184 ++ le 1 0xA2 ++ le 1 s.hif.mode.code ++ le 8 ownUid
        ++ le 4 ((s.start.running.map RunningFw.version).getD 0) ++ le 4 Config.fallowVersion.toNat) ∧
  Reads .sysPing 0x0102 0 (· == 0) (fun _ _ => True) (fun _ s =>
      cycle64 s.phase.now.cycle ++ le 2 s.phase.now.angle ++ le 1 s.hif.mode.code ++ zeros 1) ∧
  Reads .sysStatus 0x0103 1 (· == 0) (fun _ _ => True) (fun _ s =>
      le 1 s.hif.mode.code ++ le 1 s.super.state ++ le 1 s.mail.sessions.length ++ le 1 s.mail.deferred.length
        ++ ((List.range 15).flatMap fun m => le 1 (outstanding s m)) ++ zeros 1 ++ le 2 (64 - s.mail.notices.length)) ∧
  Reads .sysOutageRead 0x0104 1 (· == 2) (fun c s => u16 c.pay 0 ≤ s.year ∧ s.year < u16 c.pay 0 + 32) (fun c s =>
      le 2 (u16 c.pay 0) ++ le 4 (yearCount s (u16 c.pay 0)).outMs ++ le 4 (yearCount s (u16 c.pay 0)).noSupplyMs
        ++ le 4 (yearCount s (u16 c.pay 0)).ownerMs ++ le 2 (yearCount s (u16 c.pay 0)).intervals) ∧
  Reads .sysDeferredStatus 0x010C 1 (· == 2) (fun _ _ => True) (fun c s =>
      if (s.mail.deferred.any fun d => d.session == c.session && d.tag == u16 c.pay 0) = true then le 1 1 ++ zeros 3
      else match (lastFinished s c.session).find? fun f => f.tag == u16 c.pay 0 with
        | some f => le 1 2 ++ zeros 1 ++ le 2 f.status
        | none => zeros 4) ∧
  Reads .sysMbxStats 0x010D 1 (· == 0) (fun _ _ => True) (fun _ s =>
      (List.range 16).flatMap fun m =>
        le 4 (count32 (s.mbxStats m).requests) ++ le 4 (count32 (s.mbxStats m).busy) ++ le 4 (count32 (s.mbxStats m).lost)) ∧
  Completes .sysSubscribe 0x0105 1 (· == 4) (fun c _ => u32 c.pay 0 % 2 = 0 ∧ u32 c.pay 0 < 2 ^ 24)
    (fun c s => { s with mail := { s.mail with subscriptions :=
      (s.mail.subscriptions.filter fun x => x.session != c.session) ++
        (if u32 c.pay 0 = 0 then [] else [{ session := c.session, mask := BitVec.ofNat 32 (u32 c.pay 0) }]) } })
    (fun c s => le 4 (((s.mail.subscriptions.find? fun x => x.session == c.session).map fun x => x.mask.toNat).getD 0)) ∧
  Completes .sysBulkClaim 0x0106 2 (· == 8)
    (fun c s => 1 ≤ u8 c.pay 0 ∧ u8 c.pay 0 ≤ 4 ∧ allZero (slice c.pay 1 3) = true ∧ 0 < u32 c.pay 4
      ∧ u32 c.pay 4 ≤ targetSize (u8 c.pay 0) ∧ (u8 c.pay 0 ≤ 2 → c.role = 3) ∧ s.hif.claim = none ∧ targetBusy s (u8 c.pay 0) = false)
    (fun c s => { s with hif := { s.hif with
      nextOffset := 0
      claim := some { mailbox := c.mbx, who := c.req.who, session := c.session, target := u8 c.pay 0, total := u32 c.pay 4
                      slot := targetSlot s (u8 c.pay 0) } } })
    (fun _ _ => []) ∧
  Completes .sysBulkRelease 0x0107 2 (· == 0) (fun c s => holdsClaim s c = true) (fun _ s => lapseClaim s) (fun _ _ => []) ∧
  Completes .sysBulkWrite 0x0108 2 (fun n => decide (4 ≤ n) && decide (n ≤ 1004) && n % 4 == 0)
    (fun c s => holdsClaim s c = true ∧ u32 c.pay 0 + (c.pay.drop 4).length ≤ 65536 ∧ s.hif.copying = none)
    (fun c s => { s with window := writeBytes s.window (0x10000 + u32 c.pay 0) (c.pay.drop 4) }) (fun _ _ => []) ∧
  Completes .sysBulkCommit 0x0109 2 (· == 8)
    (fun c s => holdsClaim s c = true ∧ s.hif.copying = none ∧ claimBusy s = false ∧ u32 c.pay 0 = s.hif.nextOffset ∧ 0 < u32 c.pay 4
      ∧ u32 c.pay 4 ≤ 65536 ∧ u32 c.pay 0 + u32 c.pay 4 ≤ (s.hif.claim.map Claim.total).getD 0)
    (fun c s => { s with hif := { s.hif with copying := some { offset := u32 c.pay 0, length := u32 c.pay 4 } } })
    (fun c _ => le 4 (u32 c.pay 0 + u32 c.pay 4)) ∧
  (∀ m s c, asked s m 0x010A 3 (· == 0) c = true → targetBusy s 1 = false → s.mail.deferred.length < 16 →
    exec (.sysFwActivate m) s = .next (answer m { status := 1, job := some s.mail.jobs }
      { s with
        mail := { s.mail with
          jobs := s.mail.jobs + 1
          deferred := s.mail.deferred ++
          [{ job := s.mail.jobs, code := 0x010A, tag := c.req.hdr.tag, session := c.session, who := c.req.who, mailbox := m, port := c.req.port,
             vid := c.req.vid, owner := c.owner, object := s.inactiveFw }] },
        super := { s.super with fwVerifying := true, fwCounters := (s.sec.fwCounter, s.sec.keyCounter) } })) ∧
  Completes .sysWarmRestart 0x010B 2 (· == 0) (fun _ _ => True) (fun _ s => s) (fun _ _ => []) ∧
  (∀ (r : Request) (a : Answer) (s : State), r.hdr.code = 0x010B → a.status = 0 →
    noteWarm r a s = { s with super := { s.super with warmAt := some (s.super.warmAt.getD (s.phase.now.cycle + 2)) } }) ∧
  (∀ (m : Nat) (e : Entry) (a : Answer) (s : State), e.answer = some a → e.placed = false → e.req.who = .qspi → s.hif.respReady.getLsbD m = false →
    flushEntries m [e] s = ([{ e with placed := true }], noteWarm e.req a { s with
      window := writeBytes s.window (0x1400 + 0x800 * m) (fit 1024 (responseMessage s e.req a))
      hif := { s.hif with respReady := s.hif.respReady ||| BitVec.twoPow 16 m } }))

/-- A transaction whose address or length is not a multiple of 4, or whose instruction byte is neither 0x02 (write) nor 0x0B (read), leaves the state as it is. A read of whole words sends the words from its address upward, each least significant byte first, and changes nothing else; a word of storage reads as stored and registers as R38 to R41 give them. A write (0x02) of whole words whose every byte lies in a request area of mailboxes 0 to 14 or in the bulk window, while nothing is copying, gives a next state that differs only in the window; with the window in canonical form, byte i of the transaction then reads at address addr + i, and every other address reads as before. While a copy is going on, a write that touches the bulk window stops the block as outside the manual (R41, R3). Completes: HOST_WINDOW_WRITE. -/
def Obligations.WindowWriteStoresExactlyItsBytes : Prop :=
  (∀ s op addr bytes, addr % 4 ≠ 0 ∨ bytes.length % 4 ≠ 0 ∨ (op ≠ 0x02 ∧ op ≠ 0x0B) → exec (.hostWindowWrite ⟨op, addr⟩ bytes) s = .next s) ∧
  (∀ s addr bytes, addr % 4 = 0 → bytes.length % 4 = 0 → exec (.hostWindowWrite ⟨0x0B, addr⟩ bytes) s =
    .next { s with hif := { s.hif with sent := readWords s (bytes.length / 4) addr } }) ∧
  (∀ (s : State) (addr k n : Nat), addr % 4 = 0 → k < 4 * n → (∀ i < 4 * n, storedAddress (addr + i) = true) →
    (readWords s n addr)[k]? = some (readByte s.window (addr + k))) ∧
  (∀ s addr bytes, addr % 4 = 0 → bytes.length % 4 = 0 → s.hif.copying = none →
    (∀ i < bytes.length, storedAddress (addr + i) = true) → Memory.wf s.window = true →
    ∃ t, exec (.hostWindowWrite ⟨0x02, addr⟩ bytes) s = .next t ∧ t = { s with window := t.window } ∧ Memory.wf t.window = true ∧
      (∀ i (h : i < bytes.length), readByte t.window (addr + i) = bytes[i]) ∧
      (∀ a, a < addr ∨ addr + bytes.length ≤ a → readByte t.window a = readByte s.window a)) ∧
  (∀ s addr bytes, addr % 4 = 0 → bytes.length % 4 = 0 → s.hif.copying.isSome = true → bytes ≠ [] →
    addr < 0x20000 → 0x10000 < addr + bytes.length → exec (.hostWindowWrite ⟨0x02, addr⟩ bytes) s = .fault .outsideManual)

/-- DOORBELL_LOST_CLEAR and IRQ_CAUSE_CLEAR clear exactly the bits written as 1 (of IRQ_CAUSE only its four W1C bits) and change nothing else. A doorbell on mailbox m whose FREE bit is clear counts it lost and sets m's DOORBELL_LOST bit; with that bit set already, no event is raised and nothing else changes. A doorbell on a mailbox with FREE set submits a copy of the request area: with fewer than four requests outstanding, the mailbox free for the local port, and a code that names a command, the request joins the end of the mailbox's queue. RESPONSE_RELEASE takes the placed response out of the queue and clears m's READY bit before the next response is placed; the release of a held BUSY answer sets m's FREE bit again, and that of an ACCEPTED lets the completion of its own job be delivered, and of no other. On mailbox 15 it releases the notification, and a bit whose READY is clear does nothing. Completes: DOORBELL_RING, RESPONSE_RELEASE, DOORBELL_LOST_CLEAR, IRQ_CAUSE_CLEAR. -/
def Obligations.HostRegisterWritesActBitwise : Prop :=
  (∀ (s : State) (bits : Word), exec (.doorbellLostClear bits) s =
    .next { s with hif := { s.hif with lost := s.hif.lost &&& ~~~(bits.setWidth 16) } }) ∧
  (∀ (s : State) (bits : Word), exec (.irqCauseClear bits) s =
    .next { s with hif := { s.hif with cause := s.hif.cause &&& ~~~(bits.setWidth 7 &&& 0x78#7) } }) ∧
  (∀ (s : State) (m : Nat), m < 15 → s.hif.reqFree.getLsbD m = false → s.hif.lost.getLsbD m = true →
    exec (.doorbellRing (BitVec.twoPow 32 m)) s =
      .next ({ s with hif := { s.hif with lost := s.hif.lost ||| BitVec.twoPow 16 m } }.setMbxStats m
        { s.mbxStats m with lost := (s.mbxStats m).lost + 1 })) ∧
  (∀ (s : State) (m : Nat), m < 15 → s.hif.reqFree.getLsbD m = true →
    exec (.doorbellRing (BitVec.twoPow 32 m)) s = .next (submit m (localRequest s m) s)) ∧
  (∀ (s : State) (m : Nat) (r : Request), outstanding s m < 4 → boundElsewhere s m r.who = false → knownCode r.hdr.code = true →
    fwf [] s.mail.queues = true →
    (((submit m r s).entries m).filter fun e => e.answer.isNone).map Entry.req =
      ((s.entries m).filter fun e => e.answer.isNone).map Entry.req ++ [r]) ∧
  (∀ (s : State) (m : Nat) (e : Entry) (a : Answer), m < 15 → s.hif.respReady.getLsbD m = true →
    (s.entries m).find? Entry.placed = some e → e.answer = some a →
    exec (.responseRelease (BitVec.twoPow 32 m)) s =
      .next (flush m (releaseAccepted a (freeBusy m e
        ({ s with hif := { s.hif with respReady := s.hif.respReady &&& ~~~(BitVec.twoPow 16 m) } }.setEntries m
          ((s.entries m).filter fun x => !x.placed)))))) ∧
  (∀ (m : Nat) (e : Entry) (s : State), (e.busy = false → freeBusy m e s = s) ∧
    (e.busy = true → freeBusy m e s = { s with hif := { s.hif with reqFree := s.hif.reqFree ||| BitVec.twoPow 16 m } })) ∧
  (∀ (a : Answer) (s : State), (a.job = none → releaseAccepted a s = s) ∧
    (∀ j, a.job = some j → releaseAccepted a s = deliverCompletions { s with mail := { s.mail with
      deferred := s.mail.deferred.map fun d => if d.job = j then { d with released := true } else d } })) ∧
  (∀ (s : State) (m : Nat), m < 15 → s.hif.respReady.getLsbD m = false → exec (.responseRelease (BitVec.twoPow 32 m)) s = .next s) ∧
  (∀ s : State, s.hif.respReady.getLsbD 15 = true → exec (.responseRelease (BitVec.twoPow 32 15)) s = .next (releaseNotice s))

/-- MAILBOX_BINDING_EXPIRY of a mailbox with nothing outstanding unbinds it; REQUESTER_EXPIRY of a requester that holds no session, binding or deferred command forgets it and its kept responses; TOKEN_BUFFER_TIMEOUT frees that buffer; BULK_CLAIM_LAPSE with a finished target, or a target of 3 or 4, ends the claim, and with an unfinished firmware or configuration target also empties the slot that was claimed (NEXT_OFFSET then reads 0 and a running copy is dropped: assumption log 46). SESSION_IDLE_TIMEOUT of an open session, and SESSION_EXPIRY of one whose time has come, close that session with its subscription and lost count (cause 2 and 1); apart from the event, and a claim the session held, nothing else changes. Completes: MAILBOX_BINDING_EXPIRY, REQUESTER_EXPIRY, SESSION_IDLE_TIMEOUT, SESSION_EXPIRY, BULK_CLAIM_LAPSE, TOKEN_BUFFER_TIMEOUT. -/
def Obligations.MessagingTimersFreeWhatTheyName : Prop :=
  (∀ (s : State) (m : Nat), s.entries m = [] →
    exec (.mailboxBindingExpiry m) s = .next { s with mail := { s.mail with bound := fput none s.mail.bound m none } }) ∧
  (∀ (s : State) (mac : Nat), requesterHeld s mac = false →
    exec (.requesterExpiry mac) s = .next { s with mail := { s.mail with
      requesters := s.mail.requesters.filter fun r => r.mac != mac
      kept := s.mail.kept.filter fun k => k.mac != mac } }) ∧
  (∀ (s : State) (i : Nat),
    exec (.tokenBufferTimeout i) s = .next { s with mail := { s.mail with tokens := s.mail.tokens.eraseIdx i } }) ∧
  (∀ (s : State) (c : Claim), s.hif.claim = some c → c.total ≤ s.hif.nextOffset ∨ 3 ≤ c.target →
    exec .bulkClaimLapse s = .next { s with hif := { s.hif with claim := none, nextOffset := 0, copying := none } }) ∧
  (∀ (s : State) (c : Claim), s.hif.claim = some c → s.hif.nextOffset < c.total → c.target = 1 →
    exec .bulkClaimLapse s =
      .next ({ s with hif := { s.hif with claim := none, nextOffset := 0, copying := none } }.setFwSlot c.slot {})) ∧
  (∀ (s : State) (c : Claim), s.hif.claim = some c → s.hif.nextOffset < c.total → c.target = 2 →
    exec .bulkClaimLapse s =
      .next ({ s with hif := { s.hif with claim := none, nextOffset := 0, copying := none } }.setCfgSlot c.slot {})) ∧
  (∀ (s : State) (h : Nat) (x : Session), findSession s h = some x → (∀ c, s.hif.claim = some c → c.session ≠ h) →
    exec (.sessionIdleTimeout h) s = .next (raise 0x0104 [h, 2] { s with mail := { s.mail with
      sessions := s.mail.sessions.filter fun x => x.handle != h
      subscriptions := s.mail.subscriptions.filter fun x => x.session != h
      lostNotices := s.mail.lostNotices.filter fun x => x.session != h
      finished := s.mail.finished.filter fun x => x.session != h } })) ∧
  (∀ (s : State) (h : Nat) (x : Session), findSession s h = some x → expiryDue s x = true → (∀ c, s.hif.claim = some c → c.session ≠ h) →
    exec (.sessionExpiry h) s = .next (raise 0x0104 [h, 1] { s with mail := { s.mail with
      sessions := s.mail.sessions.filter fun x => x.handle != h
      subscriptions := s.mail.subscriptions.filter fun x => x.session != h
      lostNotices := s.mail.lostNotices.filter fun x => x.session != h
      finished := s.mail.finished.filter fun x => x.session != h } }))

/-- When the oldest delivered mailbox frame is allowed, carries a whole message and names an open mailbox (bits 3:0 of the mailbox byte; bits 7:4 are kept as its reserved field, which R8 refuses with BAD_ARGUMENT when it is not zero), MAILBOX_REQUEST_FRAME takes it. From a source that is a requester, or from a new one while fewer than 16 are held, a request that is no repetition is submitted on that mailbox with the frame's port, VID, priority and sequence, and kept for the replay rule. A repetition (same sequence and bytes) is not executed again: it is answered from the kept response once there is one, at once or, during a supervisor pause, when the pause ends. With 16 others held, mailbox 0 takes the request, and any other mailbox answers BUSY, counted in its statistics, with RING.REQUESTERS_FULL once per source. A frame that is not allowed, carries no whole message or names mailbox 15 or a closed mailbox is discarded and counted on its port (the last is the model's choice, assumption log 46). Completes: MAILBOX_REQUEST_FRAME. -/
def Obligations.NetworkRequestsAreSubmitted : Prop :=
  (∀ (s s1 : State) (d : Delivered) (msg : List Byte) (m : Nat), takeDelivered 0x05 s = some (d, s1) → mailboxFrameAllowed s1 d = true →
    frameMessage d.frame = some msg → m = u8 d.frame.body 1 % 16 → m < 15 → mailboxOpen s1 m = true →
    ∃ r : Request, r.hdr = Header.ofBytes msg ∧ r.payload = (msg.drop 16).take (min r.hdr.length 1008) ∧ r.who = .net d.frame.src ∧
      r.port = d.port ∧ r.seq = u8 d.frame.body 2 ∧ (r.vid, r.pcp) = d.frame.vlan.getD (u16 s1.cfg.ring 4, u8 s1.cfg.ring 6) ∧
      r.message = msg ∧ r.frameReserved = u8 d.frame.body 1 / 16 ∧
      (isRequester s1 d.frame.src = true → (s1.mail.kept.find? fun k => k.mac == d.frame.src && k.mailbox == m) = none →
        exec .mailboxRequestFrame s = .next (submit m r { s1 with mail := { s1.mail with
          kept := s1.mail.kept ++ [{ mac := d.frame.src, mailbox := m, seq := u8 d.frame.body 2, message := msg }] } })) ∧
      (∀ k : Kept, isRequester s1 d.frame.src = true → (s1.mail.kept.find? fun k => k.mac == d.frame.src && k.mailbox == m) = some k →
        k.seq ≠ u8 d.frame.body 2 ∨ k.message ≠ msg →
        exec .mailboxRequestFrame s = .next (submit m r { s1 with mail := { s1.mail with
          kept := s1.mail.kept.map fun x => if x.mac = d.frame.src ∧ x.mailbox = m then { x with seq := u8 d.frame.body 2, message := msg, response := none } else x } })) ∧
      (isRequester s1 d.frame.src = false → s1.mail.requesters.length < 16 →
        (s1.mail.kept.find? fun k => k.mac == d.frame.src && k.mailbox == m) = none →
        exec .mailboxRequestFrame s = .next (submit m r { s1 with mail := { s1.mail with
          requesters := s1.mail.requesters ++ [{ mac := d.frame.src, port := d.port, vid := r.vid }]
          kept := s1.mail.kept ++ [{ mac := d.frame.src, mailbox := m, seq := u8 d.frame.body 2, message := msg }] } })) ∧
      (∀ (k : Kept) (x : List Byte), isRequester s1 d.frame.src = true →
        (s1.mail.kept.find? fun k => k.mac == d.frame.src && k.mailbox == m) = some k →
        k.seq = u8 d.frame.body 2 → k.message = msg → k.response = some x →
        exec .mailboxRequestFrame s = .next (sendOrHold d.frame.src r.vid r.pcp (le 1 m ++ le 1 (u8 d.frame.body 2) ++ be 2 x.length ++ x) (noteRequest s1))) ∧
      (∀ k : Kept, isRequester s1 d.frame.src = true → (s1.mail.kept.find? fun k => k.mac == d.frame.src && k.mailbox == m) = some k →
        k.seq = u8 d.frame.body 2 → k.message = msg → k.response = none → exec .mailboxRequestFrame s = .next (noteRequest s1)) ∧
      (isRequester s1 d.frame.src = false → 16 ≤ s1.mail.requesters.length → m = 0 → exec .mailboxRequestFrame s = .next (submit 0 r s1)) ∧
      (isRequester s1 d.frame.src = false → 16 ≤ s1.mail.requesters.length → m ≠ 0 →
        exec .mailboxRequestFrame s = .next (refuseRequester d.frame.src m (answerStranger m r d.frame.src (noteRequest s1))))) ∧
  (∀ (s s1 : State) (d : Delivered), takeDelivered 0x05 s = some (d, s1) →
    mailboxFrameAllowed s1 d = false ∨ frameMessage d.frame = none ∨ 15 ≤ u8 d.frame.body 1 % 16 ∨ mailboxOpen s1 (u8 d.frame.body 1 % 16) = false →
    exec .mailboxRequestFrame s = .next (s1.countPort d.port 8)) ∧
  (∀ (mac vid pcp : Nat) (body : List Byte) (s : State),
    (s.hif.supPause = true → sendOrHold mac vid pcp body s =
      { s with mail := { s.mail with heldResponses := s.mail.heldResponses ++ [{ mac := mac, vid := vid, pcp := pcp, body := body }] } }) ∧
    (s.hif.supPause = false → sendOrHold mac vid pcp body s = sendMailbox raise mac vid pcp 0x06 body s)) ∧
  (∀ (m mac : Nat) (r : Request) (s t : State), t = s.setMbxStats m { s.mbxStats m with requests := (s.mbxStats m).requests + 1, busy := (s.mbxStats m).busy + 1 } →
    ∃ msg, msg = responseMessage t r (bad 2) ∧ answerStranger m r mac s = sendOrHold mac r.vid r.pcp (le 1 m ++ le 1 r.seq ++ be 2 msg.length ++ msg) t)

/-- BULK_COPY_COMPLETE moves the bytes of the window into the target that was claimed (targets 1 and 2: the slot inactive at the claim), advances NEXT_OFFSET by the length, clears COPYING and sets BULK_DONE. FW_VERIFICATION_COMPLETE in running mode stages a slot that passes R667, against the rollback counters as they stood when it began (R683), for the next boundary, and ends the command with the status of the failing step otherwise. FIRMWARE_PAUSE_END records SYS.FW_ACTIVATED with the old and new versions, completes the command and serves again. WARM_RESTART_END sets FREE of mailboxes 1 to 14, serves again and ends the outage of cause 2 unless a request of mailbox 0 is still late (R50). Completes: BULK_COPY_COMPLETE, FW_VERIFICATION_COMPLETE, FIRMWARE_PAUSE_END, WARM_RESTART_END. -/
def Obligations.BulkAndFirmwareStepsComplete : Prop :=
  (∀ (s : State) (k : BulkCopy) (c : Claim), s.hif.copying = some k → s.hif.claim = some c → 3 ≤ c.target →
    exec .bulkCopyComplete s = .next { s with hif := { s.hif with
      claim := some { c with data := c.data.take k.offset ++ readBytes s.window 0x10000 k.length }
      copying := none, nextOffset := k.offset + k.length, cause := s.hif.cause ||| 0x08#7 } }) ∧
  (∀ (s : State) (k : BulkCopy) (c : Claim), s.hif.copying = some k → s.hif.claim = some c → c.target = 1 ∨ c.target = 2 →
    ∃ t, exec .bulkCopyComplete s = .next t ∧
      t = { s with hif := t.hif, start := t.start, cfg := t.cfg } ∧
      t.hif = { s.hif with copying := none, nextOffset := k.offset + k.length, cause := s.hif.cause ||| 0x08#7 } ∧
      (c.target = 1 → t.cfg = s.cfg ∧ t.fwSlot c.slot =
        extendSlot (s.fwSlot c.slot) k.offset c.total (readBytes s.window 0x10000 k.length)) ∧
      (c.target = 2 → t.start = s.start ∧ t.cfgSlot c.slot =
        extendSlot (s.cfgSlot c.slot) k.offset c.total (readBytes s.window 0x10000 k.length))) ∧
  (∀ (s b : State) (d : Deferred), s.super.fwVerifying = true → s.hif.mode = .running →
    b = { s with super := { s.super with fwVerifying := false }, sec := { s.sec with fwCounter := s.super.fwCounters.1, keyCounter := s.super.fwCounters.2 } } →
    ((verifyFirmware b s.inactiveFw).step = 0 → (s.mail.deferred.find? fun d => d.code == 0x010A && d.final.isNone) = some d →
      exec .fwVerificationComplete s = .next { s with super := { s.super with
        fwVerifying := false, fwStaged := some ((verifyFirmware b s.inactiveFw).fw, d.job) } }) ∧
    ((verifyFirmware b s.inactiveFw).step ≠ 0 →
      exec .fwVerificationComplete s = .next (completeFw (bad (fwStatus (verifyFirmware b s.inactiveFw).step))
        { s with super := { s.super with fwVerifying := false } }))) ∧
  (∀ s : State, s.super.fwVerifying = true → s.hif.mode ≠ .running →
    exec .fwVerificationComplete s = .next (completeFw (bad 8) { s with super := { s.super with fwVerifying := false } })) ∧
  (∀ (a : Answer) (d : Deferred) (s : State), (s.mail.deferred.find? fun d => d.code == 0x010A && d.final.isNone) = some d → completeFw a s = complete d.job a s) ∧
  (∀ (s : State) (old job : Nat), s.super.fwChange = some (old, job) →
    exec .firmwarePauseEnd s = .next (endPause (complete job (ok (le 4 (runningVersion s) ++ cycle64 s.phase.now.cycle))
      (raise 0x0106 [old, runningVersion s, low32 s.phase.now.cycle] { s with super := { s.super with fwChange := none } })))) ∧
  (∀ (s : State), s.super.state = 4 →
    ∃ t, t = endPause { s with hif := { s.hif with reqFree := s.hif.reqFree ||| 0x7FFE#16 } } ∧
      exec .warmRestartEnd s = .next (endLate t) ∧ t.hif.supPause = false)

/-- Whenever they are asked, CFG.INFO answers the active slot, the inactive slot's state, the versions, the four levels of the stack with 0xFF for an empty one, the masks of defined and of loaded swaths and the rollback counter; CFG.REPORT with a report answers its fields; CFG.READ of a record that exists in the base or in force, at an offset inside its value or 0, answers its length, the level it comes from (0xFF for the base) and up to 1,004 bytes; CFG.SWATH_READ of a defined swath answers its header. They change nothing of their own. With no validation or activation of that slot under way and fewer than 16 deferred commands, CFG.VALIDATE and CFG.ACTIVATE start the validation of the inactive slot and answer ACCEPTED as a job of their own (an empty slot then completes NOT_READY). CFG.SWATH_LOAD of a checked swath, from a complete staging area, to a number that the base does not carry and the stack does not hold replaces the loaded swath of that number. SWATH_SET stages a defined swath at its level and SWATH_CLEAR stages an empty level, for the boundary they answer; in fallow mode nothing is staged. SWATH_DELETE removes a loaded swath not on the stack. Completes: CFG.INFO, CFG.VALIDATE, CFG.ACTIVATE, CFG.REPORT, CFG.READ, CFG.SWATH_LOAD, CFG.SWATH_SET, CFG.SWATH_CLEAR, CFG.SWATH_READ, CFG.SWATH_DELETE. -/
def Obligations.CfgVerbsComplete : Prop :=
  Reads .cfgInfo 0x0201 1 (· == 0) (fun _ _ => True) (fun _ s =>
    le 1 s.cfg.active ++ le 1 (s.cfgSlot s.inactiveCfg).state.code ++ zeros 2 ++ le 4 (slotVersion s.cfg.slotA)
      ++ le 4 (slotVersion s.cfg.slotB) ++ (s.cfg.stack.flatMap fun l => le 1 (l.getD 0xFF))
      ++ le 2 (maskOf fun i => (s.cfg.swath i).isSome) ++ le 2 (maskOf fun i => s.cfg.loaded.any fun w => w.number == i)
      ++ le 4 s.sec.cfgCounter) ∧
  (∀ r, Reads .cfgReport 0x0204 1 (· == 0) (fun _ s => s.cfg.report = some r) (fun _ _ =>
    le 1 r.step ++ zeros 1 ++ le 2 r.status ++ le 4 r.offset ++ le 2 r.type1 ++ le 2 r.inst1 ++ le 2 r.type2 ++ le 2 r.inst2
      ++ le 4 r.resource)) ∧
  (∀ v, Reads .cfgRead 0x0205 1 (· == 8)
    (fun c s => u8 c.pay 0 = 0 ∧ s.cfg.baseValue (u16 c.pay 4) (u16 c.pay 6) = some v ∧ u8 c.pay 1 = 0 ∧
      (u16 c.pay 2 < v.length ∨ u16 c.pay 2 = 0 ∧ v = []))
    (fun c _ => le 2 v.length ++ le 1 0xFF ++ zeros 1 ++ slice v (u16 c.pay 2) 1004)) ∧
  (∀ v, Reads .cfgRead 0x0205 1 (· == 8)
    (fun c s => u8 c.pay 0 = 1 ∧ s.cfg.value (u16 c.pay 4) (u16 c.pay 6) = some v ∧ u8 c.pay 1 = 0 ∧
      (u16 c.pay 2 < v.length ∨ u16 c.pay 2 = 0 ∧ v = []))
    (fun c s => le 2 v.length ++ le 1 ((s.cfg.levelOf (u16 c.pay 4) (u16 c.pay 6)).getD 0xFF) ++ zeros 1
      ++ slice v (u16 c.pay 2) 1004)) ∧
  (∀ w, Reads .cfgSwathRead 0x0209 1 (· == 4)
    (fun c s => s.cfg.swath (u8 c.pay 0) = some w ∧ allZero (slice c.pay 1 3) = true) (fun _ _ => w.header)) ∧
  (∀ m s c, asked s m 0x0202 2 (· == 0) c = true → targetBusy s 2 = false → s.mail.deferred.length < 16 →
    exec (.cfgValidate m) s = .next (answer m { status := 1, job := some s.mail.jobs }
      { s with
        mail := { s.mail with
          jobs := s.mail.jobs + 1
          deferred := s.mail.deferred ++
          [{ job := s.mail.jobs, code := 0x0202, tag := c.req.hdr.tag, session := c.session, who := c.req.who, mailbox := m, port := c.req.port,
             vid := c.req.vid, owner := c.owner, object := s.inactiveCfg }] },
        cfg := { s.cfg with validating := some { slot := s.inactiveCfg, activate := false, job := s.mail.jobs } } })) ∧
  (∀ m s c, asked s m 0x0203 3 (· == 0) c = true → targetBusy s 2 = false → s.mail.deferred.length < 16 →
    exec (.cfgActivate m) s = .next (answer m { status := 1, job := some s.mail.jobs }
      { s with
        mail := { s.mail with
          jobs := s.mail.jobs + 1
          deferred := s.mail.deferred ++
          [{ job := s.mail.jobs, code := 0x0203, tag := c.req.hdr.tag, session := c.session, who := c.req.who, mailbox := m, port := c.req.port,
             vid := c.req.vid, owner := c.owner, object := s.inactiveCfg }] },
        cfg := { s.cfg with validating := some { slot := s.inactiveCfg, activate := true, job := s.mail.jobs } } })) ∧
  (∀ b k w o, Completes .cfgSwathLoad 0x0206 2 (· == 4)
    (fun c s => s.cfg.base = some b ∧ s.hif.claim = some k ∧ holdsClaim s c = true ∧ k.target = 3 ∧ bit b.flags 1 = true ∧
      s.cfg.carried (u8 c.pay 0) = false ∧ u8 c.pay 0 ≤ 15 ∧ allZero (slice c.pay 1 3) = true ∧ s.cfg.inStack (u8 c.pay 0) = false ∧ k.total ≤ s.hif.nextOffset ∧
      checkSwath b.placed s.cfg.defined (u8 c.pay 0) b.hash k.data none = o ∧ o.step = 0 ∧ parseSwath false k.data = some w)
    (fun c s => { s with cfg := { s.cfg with
      report := some o.report,
      loaded := (s.cfg.loaded.filter fun x => x.number != u8 c.pay 0) ++ [w] } })
    (fun _ _ => [])) ∧
  (∀ w, Completes .cfgSwathSet 0x0207 2 (· == 4)
    (fun c s => s.cfg.swath (u8 c.pay 0) = some w ∧ allZero (slice c.pay 1 3) = true)
    (fun c s => if s.inFallow then s else { s with cfg := { s.cfg with staged := s.cfg.staged ++
      [{ boundary := s.stageBoundary, level := w.level, swath := some (u8 c.pay 0), source := 3, number := c.req.hdr.tag }] } })
    (fun _ s => le 1 w.level ++ zeros 7 ++ cycle64 s.stageBoundary)) ∧
  Completes .cfgSwathClear 0x0208 2 (· == 4) (fun c _ => u8 c.pay 0 ≤ 3 ∧ allZero (slice c.pay 1 3) = true)
    (fun c s => if s.inFallow then s else { s with cfg := { s.cfg with staged := s.cfg.staged ++
      [{ boundary := s.stageBoundary, level := u8 c.pay 0, swath := none, source := 3, number := c.req.hdr.tag }] } })
    (fun _ s => zeros 8 ++ cycle64 s.stageBoundary) ∧
  Completes .cfgSwathDelete 0x020A 2 (· == 4)
    (fun c s => allZero (slice c.pay 1 3) = true ∧ s.cfg.carried (u8 c.pay 0) = false ∧ s.cfg.inStack (u8 c.pay 0) = false ∧
      (s.cfg.loaded.any fun w => w.number == u8 c.pay 0) = true)
    (fun c s => { s with cfg := { s.cfg with loaded := s.cfg.loaded.filter fun w => w.number != u8 c.pay 0 } })
    (fun _ _ => [])

/-- For the validation under way: an empty slot completes NOT_READY and nothing else changes. An image that passes leaves the slot validated and step 0 in the report, and CFG.VALIDATE completes OK; CFG.ACTIVATE in running mode stages an image with identical claim records for the next boundary, and completes OK with the version, the flag and that boundary. For another image a restart waits for the completion: when the completion is delivered it carries, in place of the last field, the second boundary after it, and the restart is set for that boundary (that delivered means placed in the queue of mailbox 15, or sent, is the model's reading, assumption log 46). Outside running mode CFG.ACTIVATE completes NOT_READY. An image that fails leaves the slot, keeps the report, raises CFG.VALIDATION_FAILED with slot, step, status and offset, and completes with the failing step's answer. With none under way nothing changes. Completes: CONFIG_VALIDATION_COMPLETE. -/
def Obligations.ConfigValidationCompletes : Prop :=
  (∀ s : State, s.cfg.validating = none → exec .configValidationComplete s = .next s) ∧
  (∀ (s : State) (v : Validation), s.cfg.validating = some v → (s.cfgSlot v.slot).state.code = 0 →
    exec .configValidationComplete s = .next (complete v.job (bad 8) { s with cfg := { s.cfg with validating := none } })) ∧
  (∀ (s : State) (v : Validation) (o : Outcome) (im : BaseImage),
    s.cfg.validating = some v → (s.cfgSlot v.slot).state.code ≠ 0 → validateImage s (s.cfgSlot v.slot) = (o, im) → o.step = 0 → v.activate = false →
    exec .configValidationComplete s = .next (complete v.job (ok [])
      ({ s with cfg := { s.cfg with validating := none, report := some o.report } }.setCfgSlot v.slot
        { s.cfgSlot v.slot with state := .validated }))) ∧
  (∀ (s : State) (v : Validation) (o : Outcome) (im b : BaseImage),
    s.cfg.validating = some v → (s.cfgSlot v.slot).state.code ≠ 0 → validateImage s (s.cfgSlot v.slot) = (o, im) → o.step = 0 → v.activate = true →
    s.hif.mode = .running → s.cfg.base = some b → sameClaims b.records im.records = true → ∃ t,
    exec .configValidationComplete s = .next (complete v.job (ok (le 4 im.version ++ [1] ++ zeros 3 ++ cycle64 (s.phase.now.cycle + 1))) t) ∧
      t = ({ s with cfg := { s.cfg with validating := none, report := some o.report, nextBase := some im } }.setCfgSlot v.slot
        { s.cfgSlot v.slot with state := .validated })) ∧
  (∀ (s : State) (v : Validation) (o : Outcome) (im : BaseImage),
    s.cfg.validating = some v → (s.cfgSlot v.slot).state.code ≠ 0 → validateImage s (s.cfgSlot v.slot) = (o, im) → o.step = 0 → v.activate = true →
    s.hif.mode = .running → (∀ b, s.cfg.base = some b → sameClaims b.records im.records = false) → ∃ t last, last.length = 8 ∧
    exec .configValidationComplete s = .next (complete v.job (ok (le 4 im.version ++ [0] ++ zeros 3 ++ last)) t) ∧
      t = ({ s with cfg := { s.cfg with validating := none, report := some o.report, restartJob := some v.job } }.setCfgSlot v.slot
        { s.cfgSlot v.slot with state := .validated })) ∧
  (∀ (s : State) (d : Deferred), s.cfg.restartJob = some d.job →
    (∀ (ver : Nat) (f last : List Byte), f.length = 1 → restartAnswer d (ok (le 4 ver ++ f ++ zeros 3 ++ last)) s =
      ok (le 4 ver ++ f ++ zeros 3 ++ cycle64 (s.phase.now.cycle + 2))) ∧
    ((s.mail.deferred.any fun x => x.job == d.job) = false →
      noteRestart d s = { s with cfg := { s.cfg with restartJob := none, restartAt := some (s.phase.now.cycle + 2) } })) ∧
  (∀ (d : Deferred) (s : State), deliverOne s d = noteRestart d (notifyCompletion d (restartAnswer d (d.final.getD {}) s) s)) ∧
  (∀ (s : State) (v : Validation) (o : Outcome) (im : BaseImage),
    s.cfg.validating = some v → (s.cfgSlot v.slot).state.code ≠ 0 → validateImage s (s.cfgSlot v.slot) = (o, im) → o.step = 0 → v.activate = true →
    s.hif.mode ≠ .running →
    exec .configValidationComplete s = .next (complete v.job (bad 8)
      ({ s with cfg := { s.cfg with validating := none, report := some o.report } }.setCfgSlot v.slot
        { s.cfgSlot v.slot with state := .validated }))) ∧
  (∀ (s : State) (v : Validation) (o : Outcome) (im : BaseImage),
    s.cfg.validating = some v → (s.cfgSlot v.slot).state.code ≠ 0 → validateImage s (s.cfgSlot v.slot) = (o, im) → o.step ≠ 0 →
    exec .configValidationComplete s = .next (complete v.job o.answer
      (raise 0x0205 [v.slot, o.step, o.status, o.offset]
        { s with cfg := { s.cfg with validating := none, report := some o.report } })))

/-- In reset nothing changes. Before the timebase has first left ACQUIRE no rod starts: the angle turns to 0 and the turns are counted. Otherwise ROD_BOUNDARY numbers the rod and lets everything that stands at an instant follow a step, runs the steps of R19 in their order (the network's gates and views, configuration and firmware, metering, accounts, leases and loans, the abacus and the engine), counts a rod of a supervisor pause that goes on, and then runs the substitutions, the restarts asked for and the cores. boundaryCycle, the numbering of a rod boundary: the first rod carries 0; later ones one more than the last, modulo 2^48 (the wrap is the model's choice, assumption log 46); a planned count replaces it, raises PHASE.CYCLE_STEP with the count the rod was to carry, the new one and the case, and sets COUNT_VALID for cases 0 and 1. The angle is 0. Numbering changes only the present instant, the plan, the count's validity and what has been heard, besides records. Completes: ROD_BOUNDARY. -/
def Obligations.RodBoundaryRunsItsSequence : Prop :=
  (∀ (ticks vref bandgap : Nat) (s : State), s.pins.inReset = true → exec (.rodBoundary ticks vref bandgap) s = .next s) ∧
  (∀ (ticks vref bandgap : Nat) (s : State), s.pins.inReset = false → s.phase.left = false →
    exec (.rodBoundary ticks vref bandgap) s = .next { s with phase := { s.phase with
      now := { s.phase.now with angle := 0 }, sinceValid := s.phase.sinceValid + 1, acquireTurns := s.phase.acquireTurns + 1 } }) ∧
  (∀ (ticks vref bandgap : Nat) (s : State), s.pins.inReset = false → s.phase.left = true →
    ∃ s1 s2 s3, s1 = stepRods (if s.phase.started then (s.phase.now.cycle + 1) % 2 ^ 48 else 0) (phaseBoundary s) ∧
      s2 = boundarySequence s.phase.now.cycle s.phase.started (s.phase.started && s.abacus.running) ticks vref bandgap s1 ∧
      s3 = (if s2.hif.supPause = true ∧ s.hif.supPause = true then { s2 with super := { s2.super with pauseRods := s2.super.pauseRods + 1 } } else s2) ∧
      exec (.rodBoundary ticks vref bandgap) s = .next (coreBoundary (requestsBoundary (substitutionBoundary s3)))) ∧
  (∀ s : State, ∃ t, t = { s with phase := { s.phase with
      rodFrequency := if s.phase.state = .locked ∨ s.phase.state = .slew then some (inputFreq (s.input s.tracked)) else none } } ∧
    phaseBoundary s = boundaryCounters (boundaryRotation (boundaryInput 2 (boundaryInput 1 (boundaryInput 0 (boundaryCycle t)))))) ∧
  (∀ (rod : Nat) (begun closing : Bool) (ticks vref bandgap : Nat) (s : State), ∃ s2 s3,
    s2 = applyFirmware (configurationBoundary (viewBoundary (ptpBoundary (gatesBoundary s)))) ∧
    s3 = (if begun then closeMeters rod ticks s2 else s2) ∧
    boundarySequence rod begun closing ticks vref bandgap s =
      republish (engineBoundary (abacusBoundary s.cfg (loanBoundary (leaseBoundary (dwellRod
        (checkVref vref bandgap (if closing then closeAccounts (s3.cycle - 1) s3 else s3)))))))) ∧
  (∀ s : State, s.phase.started = false → s.phase.step = none →
    boundaryCycle s = { s with phase := { s.phase with started := true, now := ⟨0, 0⟩ } }) ∧
  (∀ s : State, s.phase.started = true → s.phase.step = none →
    boundaryCycle s = { s with phase := { s.phase with started := true, now := ⟨(s.phase.now.cycle + 1) % 2 ^ 48, 0⟩ } }) ∧
  (∀ (s : State) (n c old new : Nat), s.phase.step = some (n, c) → old = (if s.phase.started then (s.phase.now.cycle + 1) % 2 ^ 48 else 0) →
    new = (if c = 0 then countSeed s else n) →
    boundaryCycle s = raise 0x0309 [low32 old, low32 new, c] { s with phase := { s.phase with
      started := true, now := ⟨new, 0⟩, step := none, countValid := s.phase.countValid || decide (c = 0) || decide (c = 1), behindRods := 0
      heard := s.phase.heard.map fun h => { h with cycle := h.cycle + new - old } } })

/-- Outside fallow mode, applyStaged, the step of a boundary that applies staged swath changes, leaves each level of the stack that no due change names as it was; a level that due changes act on takes the swath of the last one staged of them, when that is defined or empty, and is left otherwise; a set acts on the level that its swath's header names (R95). The changes that are due leave the list, the later ones stay, and nothing else of the configuration changes. In fallow mode nothing changes. -/
def Obligations.StagedSwathsApplyLastOfTheirLevel : Prop :=
  (∀ s : State, s.inFallow = true → applyStaged s = s) ∧
  (∀ s : State, s.inFallow = false →
    (applyStaged s).cfg = { s.cfg with
      staged := s.cfg.staged.filter (fun x => decide (s.cycle < x.boundary))
      stack := (applyStaged s).cfg.stack } ∧
    (applyStaged s).cfg.stack.length = s.cfg.stack.length ∧
    ∀ l, l < s.cfg.stack.length → (applyStaged s).cfg.stack.getD l none =
      match (((s.cfg.staged.filter fun x => decide (x.boundary ≤ s.cycle)).map (relevel s)).filter fun x => x.level == l).getLast? with
      | none => s.cfg.stack.getD l none
      | some x => match x.swath with
        | none => none
        | some n => if (s.cfg.swath n).isSome then some n else s.cfg.stack.getD l none) ∧
  (∀ (s : State) (x : Staged), (x.swath = none → relevel s x = x) ∧
    (∀ n w, x.swath = some n → s.cfg.swath n = some w → relevel s x = { x with level := w.level }))

/-- After becomeActive, the configuration rollback counter is the larger of its old value and the image's floor, the base is the image, its slot is active, no image waits for a boundary, every loaded swath was loaded before and carries the hash of the new base, and each of the four levels of the stack holds its swath still if that exists at that level, and nothing otherwise. A trigger whose record the new base replaces counts anew (R88). Firmware and key counters keep their values. -/
def Obligations.BecomingActiveKeepsTheCounterAndTheStack : Prop :=
  ∀ (im : BaseImage) (slot : Nat) (preserving : Bool) (s : State), s.cfg.stack.length = 4 →
    ∀ t, t = becomeActive im slot preserving s →
      t.sec.cfgCounter = max s.sec.cfgCounter im.rollbackFloor ∧ t.sec.fwCounter = s.sec.fwCounter ∧ t.sec.keyCounter = s.sec.keyCounter ∧
      t.cfg = { s.cfg with
        base := some im, active := slot, nextBase := none, stack := t.cfg.stack
        loaded := s.cfg.loaded.filter fun w => slice w.header 32 32 == im.hash
        borrowed := false
        triggers := s.cfg.triggers.filter fun e => s.cfg.baseValue 0x0202 e.1 == ({ s.cfg with base := some im } : Cfg).baseValue 0x0202 e.1 } ∧
      ∀ l, l < 4 → t.cfg.stack.getD l none =
        match s.cfg.stack.getD l none with
        | none => none
        | some n => match t.cfg.swath n with
          | some w => if w.level = l then some n else none
          | none => none

/-- A crossing within a quarter of the last valid period after a valid one changes nothing. An invalid one (peak below 200 mV, or an interval outside 1/66 s to 1/45 s) stores the peak, leaves no last valid crossing, and on the tracked phase clears the count of good ones. A valid one enters its detector's history, with its stamp less the delay compensation, gives the configured reference back when it has been present for 8 rods, and then either is compared with the expected angle (tracked phase, with the error of R113) or checks the rotation. Completes: ZERO_CROSSING. -/
def Obligations.CrossingsAreQualified : Prop :=
  (∀ (phase stamp16 interval peak : Nat) (s : State) (at_ : Instant), (s.input (phase - 1)).lastValid = some at_ →
    4 * interval < (s.input (phase - 1)).lastPeriod → exec (.zeroCrossing phase stamp16 interval peak) s = .next s) ∧
  (∀ (phase stamp16 interval peak : Nat) (s : State), inHoldoff (s.input (phase - 1)) interval = false →
    peak < 200 ∨ 66 * interval < 10 ^ 9 ∨ 10 ^ 9 < 45 * interval → ∃ t, exec (.zeroCrossing phase stamp16 interval peak) s = .next t ∧
      t = { s with phase := { s.phase with inputs := t.phase.inputs, good := if phase - 1 = s.tracked then 0 else s.phase.good } } ∧
      t.phase.inputs = fput {} (fput {} s.phase.inputs (phase - 1) { s.input (phase - 1) with peak := peak % 65536 }) (phase - 1)
        { fget {} (fput {} s.phase.inputs (phase - 1) { s.input (phase - 1) with peak := peak % 65536 }) (phase - 1) with lastValid := none }) ∧
  (∀ (phase stamp16 interval peak : Nat) (s : State), inHoldoff (s.input (phase - 1)) interval = false →
    200 ≤ peak → 10 ^ 9 ≤ 66 * interval → 45 * interval ≤ 10 ^ 9 →
    ∀ (at16 : Int) (t : State), at16 = ((stamp16 : Int) - 16 * s.cfg.delayComp) % 1048576 →
      t = takeBack (phase - 1) (takeCrossing (phase - 1) (at16.toNat / 16) interval
        (s.setInput (phase - 1) { s.input (phase - 1) with peak := peak % 65536 })) →
      (phase - 1 = t.tracked → exec (.zeroCrossing phase stamp16 interval peak) s = .next (referenceCrossing
        (wrap16 (at16 - 16 * s.cfg.offset - 16 * (if t.phase.refSub.isSome then t.phase.subAngle else 0))) t)) ∧
      (phase - 1 ≠ t.tracked → exec (.zeroCrossing phase stamp16 interval peak) s = .next (checkRotation t)))

/-- For a valid crossing of the tracked phase with error e (of R113, wrapped into -32,768 to 32,767), after the count of good crossings rises: ACQUIRE becomes LOCKED at the 8th once a configuration is applied, with the angle set to the offset plus the delay compensation, so that the next compensated crossing falls on the offset, and the crossings' own angles turned with it; LOCKED clears its count of large errors, counts a first error above 2,048, and enters SLEW at the second; SLEW becomes LOCKED within 64, follows its expected error while crossings lie within 2,048 of it, and at a second crossing in a row beyond it fixes its direction anew; FLYWHEEL and NOMINAL become LOCKED at the 8th within 64, and SLEW beyond it. LOCKED raises PHASE.LOCKED with the previous state and e; SLEW raises PHASE.SLEW_BEGIN and is fast exactly when e is negative. -/
def Obligations.TimebaseStatesFollowTheirTable : Prop :=
  (∀ (e16 e : Int) (s s1 : State), e = wrapTu (divRound e16 16) →
    s1 = { s with phase := { s.phase with good := s.phase.good + 1, missing := 0, sinceValid := 0, lastE := e } } →
    (s.phase.state = .acquire → s.phase.applied = false ∨ s.phase.good < 7 → referenceCrossing e16 s = s1) ∧
    (s.phase.state = .acquire → s.phase.applied = true → 7 ≤ s.phase.good →
      ∃ t, t = enterLocked e { s1 with phase := { s1.phase with left := true } } ∧
        referenceCrossing e16 s = { t with phase := { t.phase with
          now := { t.phase.now with angle := (s.cfg.offset + s.cfg.delayComp) % 65536 }
          inputs := fmapv {} (fun x : PhaseInput => { x with angle := (((x.angle : Int) - e) % 65536).toNat }) t.phase.inputs } }) ∧
    (s.phase.state = .locked → e.natAbs ≤ 2048 → referenceCrossing e16 s = { s1 with phase := { s1.phase with bigErrors := 0 } }) ∧
    (s.phase.state = .locked → 2048 < e.natAbs → s.phase.bigErrors = 0 →
      referenceCrossing e16 s = { s1 with phase := { s1.phase with bigErrors := 1 } }) ∧
    (s.phase.state = .locked → 2048 < e.natAbs → 1 ≤ s.phase.bigErrors → referenceCrossing e16 s = enterSlew e s1) ∧
    (s.phase.state = .slew → e.natAbs ≤ 64 → referenceCrossing e16 s = enterLocked e s1) ∧
    (s.phase.state = .slew → 64 < e.natAbs → (wrapTu (e - s.phase.slewExpected)).natAbs ≤ 2048 →
      referenceCrossing e16 s = { s1 with phase := { s1.phase with bigErrors := 0, slewExpected := slewNext e s.phase.slewFast } }) ∧
    (s.phase.state = .slew → 64 < e.natAbs → 2048 < (wrapTu (e - s.phase.slewExpected)).natAbs → s.phase.bigErrors = 0 →
      referenceCrossing e16 s = { s1 with phase := { s1.phase with bigErrors := 1, slewExpected := slewNext s.phase.slewExpected s.phase.slewFast } }) ∧
    (s.phase.state = .slew → 64 < e.natAbs → 2048 < (wrapTu (e - s.phase.slewExpected)).natAbs → 1 ≤ s.phase.bigErrors →
      referenceCrossing e16 s = raiseSlew e { s1 with phase := { s1.phase with
        bigErrors := 0, slewFast := decide (e < 0), slewExpected := slewNext e (decide (e < 0)) } }) ∧
    (s.phase.state = .flywheel ∨ s.phase.state = .nominal → s.phase.good < 7 → referenceCrossing e16 s = s1) ∧
    (s.phase.state = .flywheel ∨ s.phase.state = .nominal → 7 ≤ s.phase.good → e.natAbs ≤ 64 → referenceCrossing e16 s = enterLocked e s1) ∧
    (s.phase.state = .flywheel ∨ s.phase.state = .nominal → 7 ≤ s.phase.good → 64 < e.natAbs → referenceCrossing e16 s = enterSlew e s1)) ∧
  (∀ (e : Int) (s : State), ∃ t, enterLocked e s = raise 0x0301 [s.phase.state.code, (e % 4294967296).toNat] t ∧
    t.phase.state = .locked ∧ t.phase.rodsInState = 0 ∧ t.phase.now = s.phase.now) ∧
  (∀ (e : Int) (s : State), ∃ t, enterSlew e s = raise 0x0304 [(e % 4294967296).toNat, if e < 0 then 1 else 0, t.freq] t ∧
    t.phase.state = .slew ∧ t.phase.slewFast = decide (e < 0) ∧ t.phase.now = s.phase.now)

/-- In LOCKED and SLEW the first two missing crossings in a row are counted, and the third makes the phase tracked missing (a substitute with PHASE.PHASE_MISSING, unless it is missing already): the next present phase of the rotation substitutes with PHASE.REF_SUBSTITUTED, or the state becomes FLYWHEEL. FLYWHEEL_TIMEOUT, 250 cycles after the last valid crossing, and ACQUIRE_TIMEOUT, after 32 nominal periods with a configuration applied, enter NOMINAL with PHASE.NOMINAL. A candidate that has heard no lower candidate for 8 rods becomes master; a chip heard from no master follows none; an eligible chip with no valid count on the site plans a seed. CYCLE_MARK_SEND sends the mark of an eligible chip at angle 8,192, then a Sync and the cross-check. In other states these commands change nothing. Completes: REFERENCE_CROSSING_MISSING, FLYWHEEL_TIMEOUT, ACQUIRE_TIMEOUT, MASTER_ELECTION, MASTER_MARK_TIMEOUT, COUNT_SEED, CYCLE_MARK_SEND. -/
def Obligations.TimebaseTimersAndElections : Prop :=
  (∀ s : State, s.phase.state ≠ .locked → s.phase.state ≠ .slew → exec .referenceCrossingMissing s = .next s) ∧
  (∀ s : State, s.phase.state = .locked ∨ s.phase.state = .slew → s.phase.missing < 2 → exec .referenceCrossingMissing s =
    .next { s with phase := { s.phase with missing := s.phase.missing + 1, good := 0, bigErrors := 0 } }) ∧
  (∀ s : State, s.phase.state = .locked ∨ s.phase.state = .slew → 2 ≤ s.phase.missing → ∃ t u,
    u = { s with phase := { s.phase with
      missing := s.phase.missing + 1, good := 0, bigErrors := 0
      inputs := fput {} s.phase.inputs s.tracked { s.input s.tracked with silentRods := 3, presentRods := 0 } } } ∧
    t = (if (s.input s.tracked).silentRods < 3 ∧ s.tracked ≠ s.cfg.reference then raise 0x0306 [s.tracked + 1] u else u) ∧
    exec .referenceCrossingMissing s = .next (match (rotationAfter t.cfg.rotation t.tracked).find? t.present with
      | none => enterFlywheel t
      | some p => raise 0x0307 [p, if p = t.cfg.reference then 0 else substituteAngle t p] { t with phase := { t.phase with
          refSub := if p = t.cfg.reference then none else some p
          subAngle := if p = t.cfg.reference then 0 else substituteAngle t p
          missing := 0 } })) ∧
  (∀ s : State, s.phase.state = .flywheel → 250 ≤ s.phase.sinceValid → exec .flywheelTimeout s = .next (enterNominal s)) ∧
  (∀ s : State, s.phase.state ≠ .flywheel ∨ s.phase.sinceValid < 250 → exec .flywheelTimeout s = .next s) ∧
  (∀ s : State, s.phase.state = .acquire → s.phase.applied = true → 32 ≤ s.phase.acquireTurns → exec .acquireTimeout s = .next (enterNominal s)) ∧
  (∀ s : State, s.phase.state ≠ .acquire ∨ s.phase.applied = false ∨ s.phase.acquireTurns < 32 → exec .acquireTimeout s = .next s) ∧
  (∀ s : State, ∃ t, enterNominal s = raise 0x0303 [s.phase.sinceValid] t ∧ t.phase.state = .nominal ∧ t.phase.left = true) ∧
  (∀ s : State, s.candidate = true → s.phase.master = false → 8 ≤ s.phase.quietCandidates →
    exec .masterElection s = .next (refollow { s with phase := { s.phase with master := true } })) ∧
  (∀ s : State, s.candidate = false ∨ s.phase.master = true ∨ s.phase.quietCandidates < 8 → exec .masterElection s = .next s) ∧
  (∀ s : State, exec .masterMarkTimeout s = .next (if followed s = s.phase.follows then s else
    raise 0x0308 [low32 ((followed s).getD 0), (followed s).getD 0 / 4294967296]
      { s with phase := { s.phase with follows := followed s, behindRods := 0 } })) ∧
  (∀ s : State, s.phase.countValid = false → s.cfg.eligible = true → s.phase.left = true → 32 ≤ s.phase.quietEligible →
    (s.heardNow.any fun h => bit h.flags 0) = false → exec .countSeed s = .next { s with phase := { s.phase with step := some (0, 0) } }) ∧
  (∀ s : State, s.phase.countValid = true ∨ s.cfg.eligible = false ∨ s.phase.left = false ∨ s.phase.quietEligible < 32 ∨
    (s.heardNow.any fun h => bit h.flags 0) = true → exec .countSeed s = .next s) ∧
  (∀ s : State, s.hif.mode = .start ∨ s.hif.mode = .running → s.phase.started = true → s.phase.now.angle ≤ 8192 →
    ∃ s1, s1 = { s with phase := { s.phase with now := { s.phase.now with angle := 8192 } } } ∧ exec .cycleMarkSend s =
    .next (crossCheck (sendSync (if s.cfg.eligible then sendGroup raise 0x03504C440001 7 0x01 (markBody s1) s1 else s1)))) ∧
  (∀ s : State, sendsOwn s = false ∨ s.phase.started = false → exec .cycleMarkSend s = .next s)

/-- A cycle mark delivered is taken from the receivers. One of this chip, or of a sender already compared in that rod, changes nothing else; every mode takes marks (R131). Otherwise the sender is entered as heard; a master takes a candidate's count that is 1 to 64 cycles ahead (case 3), and a follower compares its master's: without a valid count it plans the master's (case 1), behind it plans the master's (case 2), equal it goes on, ahead as a candidate by 1 to 64 it waits up to 16 rods, and else clears COUNT_VALID and plans the master's (case 5). Completes: CYCLE_MARK. -/
def Obligations.CycleMarksAreCompared : Prop :=
  (∀ s : State, takeDelivered 0x01 s = none → exec .cycleMark s = .next s) ∧
  (∀ (s s1 : State) (d : Delivered), takeDelivered 0x01 s = some (d, s1) →
    (markOf d.frame.body).uid = ownUid ∨
      s1.phase.markSenders.contains ((markOf d.frame.body).uid * 2 ^ 48 + (markOf d.frame.body).at_.cycle) = true →
    exec .cycleMark s = .next s1) ∧
  (∀ (s s1 t : State) (d : Delivered) (m : Mark), takeDelivered 0x01 s = some (d, s1) → markOf d.frame.body = m →
    m.uid ≠ ownUid → s1.phase.markSenders.contains (m.uid * 2 ^ 48 + m.at_.cycle) = false →
    t = hearMark m { s1 with phase := { s1.phase with
      markSenders := (m.uid * 2 ^ 48 + m.at_.cycle) :: s1.phase.markSenders.filter fun x => x / 2 ^ 48 != m.uid } } →
    (t.phase.master = true → m.state = 1 ∧ bit m.flags 0 = true ∧ 1 ≤ cyclesAhead t m ∧ cyclesAhead t m ≤ 64 →
      exec .cycleMark s = .next (planStep (cyclesAhead t m) 3 t)) ∧
    (t.phase.master = true → ¬(m.state = 1 ∧ bit m.flags 0 = true ∧ 1 ≤ cyclesAhead t m ∧ cyclesAhead t m ≤ 64) →
      exec .cycleMark s = .next t) ∧
    (t.phase.master = false → t.phase.follows ≠ some m.uid → exec .cycleMark s = .next t) ∧
    (t.phase.master = false → t.phase.follows = some m.uid → exec .cycleMark s = .next (compareMaster m (compareAngle m t)))) ∧
  (∀ (m : Mark) (s : State),
    (s.phase.countValid = false → compareMaster m s = planStep (cyclesAhead s m) 1 s) ∧
    (s.phase.countValid = true → 1 ≤ cyclesAhead s m →
      compareMaster m s = planStep (cyclesAhead s m) 2 { s with phase := { s.phase with behindRods := 0 } }) ∧
    (s.phase.countValid = true → cyclesAhead s m = 0 → compareMaster m s = { s with phase := { s.phase with behindRods := 0 } }) ∧
    (s.phase.countValid = true → s.candidate = true → -64 ≤ cyclesAhead s m → cyclesAhead s m ≤ -1 → s.phase.behindRods ≤ 16 →
      compareMaster m s = { s with phase := { s.phase with behindRods := max 1 s.phase.behindRods } }) ∧
    (s.phase.countValid = true → cyclesAhead s m ≤ -1 → s.candidate = false ∨ cyclesAhead s m < -64 ∨ 16 < s.phase.behindRods →
      compareMaster m s = dropMaster (planStep (cyclesAhead s m) 5
        { s with phase := { s.phase with countValid := false, behindRods := 0 } }))) ∧
  (∀ s : State, (boundaryCounters s).phase.behindRods = if s.phase.behindRods = 0 then 0 else s.phase.behindRods + 1)

/-- Whenever asked, PHASE.READ answers the cycle and angle of one instant, the state, the flags of R140, the frequency, the last error, the master and the rods in state; INPUTS answers each phase's presence, mean relative angle, peak and frequency; SITE answers the master, its state, the candidates heard lowest first, at most 62, and the last d. MEASURE_OFFSET with fewer than 16 deferred commands adds a measurement and answers ACCEPTED as a job of its own. The measurement that can end completes with the mean, the suggested offset and 256 marks, or NOT_READY. Completes: PHASE.READ, PHASE.INPUTS, PHASE.SITE, PHASE.MEASURE_OFFSET, MEASURE_OFFSET_COMPLETE. -/
def Obligations.PhaseVerbsComplete : Prop :=
  Reads .phaseRead 0x0301 1 (· == 0) (fun _ _ => True) (fun _ s =>
    cycle64 s.phase.now.cycle ++ le 2 s.phase.now.angle ++ le 1 s.phase.state.code
      ++ le 1 (flag s.phase.countValid 0 + flag s.phase.master 1 + flag s.phase.refSub.isSome 2 + flag s.phase.rotationError 3
          + flag s.phase.siteMismatch 4 + flag s.cfg.eligible 5)
      ++ le 4 s.freq ++ leInt 2 s.phase.lastE ++ zeros 2 ++ le 8 (s.phase.follows.getD 0) ++ le 4 (count32 s.phase.rodsInState)) ∧
  Reads .phaseInputs 0x0302 1 (· == 0) (fun _ _ => True) (fun _ s =>
    (List.range 3).flatMap fun p =>
      le 1 (flag (s.present p) 0) ++ zeros 1
        ++ le 2 (if p = s.cfg.reference then 0 else meanAngle ((s.input p).relative.take 16))
        ++ le 2 (s.input p).peak ++ le 4 (inputFreq (s.input p))) ∧
  Reads .phaseSite 0x0303 1 (· == 0) (fun _ _ => True) (fun _ s =>
    le 8 (s.phase.follows.getD 0)
      ++ le 1 (match s.phase.follows with
        | none => 0xFF
        | some u => if u = ownUid then s.phase.state.code else ((s.phase.heard.find? fun h => h.uid == u).map Heard.state).getD 0xFF)
      ++ le 1 (candidatesHeard s).length ++ leInt 2 s.phase.lastD ++ zeros 4 ++ ((candidatesHeard s).take 62).flatMap (le 8)) ∧
  (∀ m s c, asked s m 0x0304 2 (· == 0) c = true → s.mail.deferred.length < 16 →
    exec (.phaseMeasureOffset m) s = .next (answer m { status := 1, job := some s.mail.jobs }
      { s with
        mail := { s.mail with
          jobs := s.mail.jobs + 1
          deferred := s.mail.deferred ++
          [{ job := s.mail.jobs, code := 0x0304, tag := c.req.hdr.tag, session := c.session, who := c.req.who, mailbox := m, port := c.req.port,
             vid := c.req.vid, owner := c.owner, object := 0 }] }
        phase := { s.phase with measures := s.phase.measures ++ [{ job := s.mail.jobs }] } })) ∧
  (∀ (s : State) (x : Measure), s.phase.measures.find? (measureEnds s) = some x → 256 ≤ x.used →
    exec .measureOffsetComplete s = .next (complete x.job
      (ok (leInt 2 (divRound x.sum x.used) ++ le 2 (((s.cfg.offset : Int) - divRound x.sum x.used) % 65536).toNat ++ le 2 x.used ++ zeros 2))
      { s with phase := { s.phase with measures := s.phase.measures.erase x } })) ∧
  (∀ (s : State) (x : Measure), s.phase.measures.find? (measureEnds s) = some x → x.used < 256 →
    exec .measureOffsetComplete s = .next (complete x.job (bad 8)
      { s with phase := { s.phase with measures := s.phase.measures.erase x } })) ∧
  (∀ s : State, s.phase.measures.find? (measureEnds s) = none → exec .measureOffsetComplete s = .next s)

/-- With no admitted occurrence of the bead in the rod list, or the abacus stopped, or one of the same angle that goes before it, nothing changes. With COUNT_VALID clear a bead that is not periodic is skipped with cause 4. Otherwise it fires at the angle, no earlier than now: it is counted and marked, and its action happens; outside its tolerance BEAD.LATE follows. A PIN action sets the base level high or low and ends a pulse (SET, CLEAR), starts a pulse that returns width tu later and keeps the base level, or releases it, and touches no other output. Completes: BEAD_FIRE. -/
def Obligations.OccurrencesFire : Prop :=
  (∀ (bead actual : Nat) (s : State), (s.abacus.current.find? fun o => o.bead == bead && o.state == 0) = none →
    exec (.beadFire bead actual) s = .next s) ∧
  (∀ (bead actual : Nat) (s : State) (o : Occ), (s.abacus.current.find? fun o => o.bead == bead && o.state == 0) = some o →
    s.abacus.running = true →
    (∀ x ∈ s.abacus.current, x.state = 0 → x.bead_.angle = o.bead_.angle → fireRank o ≤ fireRank x) →
    (o.bead_.select ≠ 0 → s.phase.countValid = false → exec (.beadFire bead actual) s =
      .next (skipOccs (fun x => x.bead == o.bead && x.home == o.home) 4 (s.atAngle (max s.angle (min 65535 actual))))) ∧
    (o.bead_.select = 0 ∨ s.phase.countValid = true → ∃ t, t = s.atAngle (max s.angle (min 65535 actual)) ∧
      (t.angle ≤ o.bead_.angle + fireTolerance o.bead_.type ∧ o.bead_.angle ≤ t.angle + fireTolerance o.bead_.type →
        exec (.beadFire bead actual) s = .next (fireAction o.bead o.bead_ (noteFired o t))) ∧
      (o.bead_.angle + fireTolerance o.bead_.type < t.angle ∨ t.angle + fireTolerance o.bead_.type < o.bead_.angle →
        exec (.beadFire bead actual) s =
          .next (beadLate o.bead ⟨t.cycle, o.bead_.angle⟩ (fireAction o.bead o.bead_ (noteFired o t)))))) ∧
  (∀ (action : List Byte) (s : State), ∃ y, firePin action s =
      { s with abacus := { s.abacus with layer := fput {} s.abacus.layer (u8 action 0) y } } ∧
    (u8 action 1 = 0 → y = ⟨some true, none⟩) ∧ (u8 action 1 = 1 → y = ⟨some false, none⟩) ∧
    (u8 action 1 = 2 → y = ⟨(fget {} s.abacus.layer (u8 action 0)).base, some (true, Instant.ofTu (s.phase.now.tu + u16 action 2))⟩) ∧
    (u8 action 1 = 3 → y = ⟨(fget {} s.abacus.layer (u8 action 0)).base, some (false, Instant.ofTu (s.phase.now.tu + u16 action 2))⟩) ∧
    (u8 action 1 = 4 → y = ⟨none, none⟩))

/-- A pulse whose return has come, or comes in this rod, ends and its base level stands. A provisional occurrence whose check has come, or comes in this rod, slides out with its entry; one that settled at the very tick of its check slides out committed. CALENDAR_ARM of a calendar bead in the table that waits for no armed rod skips the indices whose time has passed with cause 6, and arms the next, if it lies at most 512 rods ahead, on the first of 17 rods with room, with BEAD.CALENDAR_ARMED; with no room it is skipped with cause 5. MAIN_PASS runs once a rod at angle 61,440 while the abacus runs. A chain whose horizon has passed by a tick with an INPUT root open drops with cause 1. The lowest entry that waits to be recomputed is recomputed once a processor is free. Completes: PULSE_RETURN, PROVISIONAL_CHECK, CALENDAR_ARM, MAIN_PASS, CHAIN_HORIZON, RECOMPUTATION. -/
def Obligations.AbacusTimersHaveTheirEffect : Prop :=
  (∀ (n : Nat) (s : State) (level : Bool) (t : Instant), (fget {} s.abacus.layer n).pulse = some (level, t) → t.tu ≤ s.phase.now.tu →
    exec (.pulseReturn n) s = .next { s with abacus := { s.abacus with
      layer := fput {} s.abacus.layer n { fget {} s.abacus.layer n with pulse := none } } }) ∧
  (∀ (n : Nat) (s : State) (level : Bool) (t : Instant), (fget {} s.abacus.layer n).pulse = some (level, t) → s.phase.now.tu < t.tu →
    t.cycle = s.cycle → ∃ u, u = s.atAngle t.angle ∧ exec (.pulseReturn n) s = .next { u with abacus := { u.abacus with
      layer := fput {} s.abacus.layer n { fget {} s.abacus.layer n with pulse := none } } }) ∧
  (∀ (n : Nat) (s : State), (fget {} s.abacus.layer n).pulse = none → exec (.pulseReturn n) s = .next s) ∧
  (∀ (bead : Nat) (s : State) (o : Occ) (e : Nat),
    ((s.abacus.current ++ s.abacus.next.getD []).find? fun o => o.bead == bead &&
      (o.state == 1 && o.entry.isSome || o.state == 0 && o.settled == some (checkInstant o.rod o.bead_.angle))) = some o →
    o.state = 1 → o.entry = some e → (checkInstant o.rod o.bead_.angle).cycle ≤ s.cycle →
    exec (.provisionalCheck bead) s = .next (settleAll (slideOut o e
      (if s.phase.now.tu < (checkInstant o.rod o.bead_.angle).tu then s.atAngle (checkInstant o.rod o.bead_.angle).angle else s)))) ∧
  (∀ (bead : Nat) (s : State) (o : Occ),
    ((s.abacus.current ++ s.abacus.next.getD []).find? fun o => o.bead == bead &&
      (o.state == 1 && o.entry.isSome || o.state == 0 && o.settled == some (checkInstant o.rod o.bead_.angle))) = some o →
    o.state = 0 → o.entry = none → checkInstant o.rod o.bead_.angle = s.phase.now →
    exec (.provisionalCheck bead) s = .next (settleAll (slideSettled o s))) ∧
  (∀ (bead : Nat) (s : State), s.abacus.running = false ∨ (s.bead bead).record = [] ∨ (beadOf (s.bead bead).record).select ≠ 2 →
    exec (.calendarArm bead) s = .next s) ∧
  (∀ (bead r : Nat) (s : State), s.abacus.running = true → (fget {} s.abacus.calendar bead).armed = some r → s.cycle ≤ r →
    exec (.calendarArm bead) s = .next s) ∧
  (∀ (bead : Nat) (s u : State) (b : BeadRec) (k t : Nat), beadOf (s.bead bead).record = b → (s.bead bead).record ≠ [] →
    s.abacus.running = true → b.select = 2 → (∀ r, (fget {} s.abacus.calendar bead).armed = some r → r < s.cycle) →
    u = skipPassed 6 bead (s.bead bead) s → k = (fget {} u.abacus.calendar bead).next →
    ticksTo s (calendarAt b k) = some t → t * s.freq / (32768 * 1000000) ≤ 512 → (b.period = 0 → k = 0) →
    (∀ r, roomyRod u (max (s.cycle + t * s.freq / (32768 * 1000000)) (firstOpenRod s)) b.angle = some r →
      exec (.calendarArm bead) s = .next (raise 0x0403 [bead, k, low32 r, flag u.clock.bvl 0]
        (u.setCalendar bead { rule := some (b.start, b.period), next := k + 1, armed := some r }))) ∧
    (∀ x, x = max (s.cycle + t * s.freq / (32768 * 1000000)) (firstOpenRod s) → roomyRod u x b.angle = none →
      exec (.calendarArm bead) s = .next (raiseSkipped { bead := bead, home := x, rod := x, record := (s.bead bead).record } 5
        (u.setCalendar bead { rule := some (b.start, b.period), next := k + 1, armed := none })))) ∧
  (∀ s : State, s.abacus.running = true → s.phase.started = true → s.abacus.next = none →
    exec .mainPass s = .next (settleAll (runMainPass (s.atAngle 61440)))) ∧
  (∀ s : State, s.abacus.running = false ∨ s.phase.started = false ∨ s.abacus.next.isSome = true → exec .mainPass s = .next s) ∧
  (∀ (chain : Nat) (s : State) (h : Instant), chainHorizon s chain = some h → (h.add 1).tu ≤ s.phase.now.tu →
    exec (.chainHorizon chain) s = .next (dropChain chain 1 s)) ∧
  (∀ (chain : Nat) (s : State) (h : Instant), chainHorizon s chain = some h → s.phase.now.tu < (h.add 1).tu → (h.add 1).cycle = s.cycle →
    exec (.chainHorizon chain) s = .next (dropChain chain 1 (s.atAngle (h.add 1).angle))) ∧
  (∀ (chain : Nat) (s : State), chainHorizon s chain = none → exec (.chainHorizon chain) s = .next s) ∧
  (∀ (e : Nat) (s : State), e ∈ readyRecomputes s → (∀ x ∈ readyRecomputes s, e ≤ x) →
    (freeProcessors s ≠ [] → exec (.recomputation e) s = .next (settleAll (recompute e s))) ∧
    (freeProcessors s = [] → exec (.recomputation e) s = .next s))

/-- BEAD.PLACE of a record that passes the checks of R173, to a slot not configured or to the lowest free one for 0xFFFF, adds the change for the boundary of R165 and answers the bead and that boundary; BEAD.REMOVE of a placed bead and BEAD.ENABLE of one in the table or accepted add theirs. BEAD.READ of a bead in the table answers origin, state, rods slid, next cycle and record; of an slot with an accepted placement origin 2, state 0, its next cycle from that boundary on and its record; of a free slot zeros. BEAD.ROD answers the page of the current list, or of the next one once it is made; STATS and CAPACITY answer their counts. Reads change nothing. Completes: BEAD.PLACE, BEAD.REMOVE, BEAD.ENABLE, BEAD.READ, BEAD.ROD, BEAD.STATS, BEAD.CAPACITY. -/
def Obligations.BeadVerbsComplete : Prop :=
  (∀ bead, Completes .beadPlace 0x0401 2 (· == 36)
    (fun c s => u16 c.pay 2 = 0 ∧ beadFieldsOk s bead (c.pay.drop 4) = true ∧
      (u16 c.pay 0 = bead ∧ bead ≤ 4095 ∧ (s.bead bead).origin ≠ 1 ∨ u16 c.pay 0 = 0xFFFF ∧ lowestFree s = some bead) ∧
      placeConflict s bead (c.pay.drop 4) = none ∧ (∀ p, publishPoint (beadOf (c.pay.drop 4)) = some p → pointRefused s bead p = none) ∧
      beyondBudget s (beadOf (c.pay.drop 4)) = false ∧ tooLate s (beadOf (c.pay.drop 4)) = false)
    (fun c s => { s with abacus := { s.abacus with changes := s.abacus.changes ++
      [{ bead := bead, kind := 0, record := c.pay.drop 4, boundary := effectBoundary s }] } })
    (fun _ s => le 2 bead ++ zeros 6 ++ cycle64 (effectBoundary s))) ∧
  Completes .beadRemove 0x0402 2 (· == 4)
    (fun c s => u16 c.pay 0 ≤ 4095 ∧ u16 c.pay 2 = 0 ∧ (s.bead (u16 c.pay 0)).origin ≠ 1 ∧ beadTaken s (u16 c.pay 0) = true)
    (fun c s => { s with abacus := { s.abacus with changes := s.abacus.changes ++
      [{ bead := u16 c.pay 0, kind := 1, boundary := effectBoundary s }] } })
    (fun _ s => cycle64 (effectBoundary s)) ∧
  Completes .beadEnable 0x0403 2 (· == 4)
    (fun c s => u16 c.pay 0 ≤ 4095 ∧ u8 c.pay 2 ≤ 1 ∧ u8 c.pay 3 = 0 ∧ beadTaken s (u16 c.pay 0) = true)
    (fun c s => { s with abacus := { s.abacus with changes := s.abacus.changes ++
      [{ bead := u16 c.pay 0, kind := 2, enable := decide (u8 c.pay 2 = 1), boundary := effectBoundary s }] } })
    (fun _ s => cycle64 (effectBoundary s)) ∧
  Reads .beadRead 0x0404 1 (· == 4)
    (fun c s => u16 c.pay 0 ≤ 4095 ∧ u16 c.pay 2 = 0 ∧ (s.bead (u16 c.pay 0)).origin ≠ 0 ∧ pendingPlace s (u16 c.pay 0) = none)
    (fun c s =>
      let b := u16 c.pay 0
      let slid := s.abacus.sliding.find? fun o => o.bead == b && o.entry == none
      let pending := (s.abacus.current ++ s.abacus.next.getD []).find? fun o => o.bead == b && o.state == 0
      le 1 (s.bead b).origin ++ le 1 (if (s.bead b).spent then 3 else if slid.isSome then 2 else if pending.isSome then 1 else 0)
        ++ le 1 (((if slid.isSome then slid else pending).map Occ.slid).getD 0) ++ zeros 1
        ++ cycle64 (((if slid.isSome then slid else pending).map Occ.rod).getD (nextCycle s b (s.bead b) (s.cycle + 1))) ++ (s.bead b).record) ∧
  (∀ (v : List Byte) (first : Nat), Reads .beadRead 0x0404 1 (· == 4)
    (fun c s => u16 c.pay 0 ≤ 4095 ∧ u16 c.pay 2 = 0 ∧ pendingPlace s (u16 c.pay 0) = some (v, first))
    (fun c s => le 1 2 ++ zeros 3 ++ cycle64 (nextCycle s (u16 c.pay 0) { origin := 2, record := v } first) ++ v)) ∧
  (∀ (s : State) (bead : Nat) (k : BeadChange), k.bead = bead → k.kind = 0 → (∀ x ∈ s.abacus.changes, x.bead ≠ bead) →
    pendingPlace s bead = none ∧
    pendingPlace { s with abacus := { s.abacus with changes := s.abacus.changes ++ [k] } } bead = some (k.record, k.boundary)) ∧
  Reads .beadRead 0x0404 1 (· == 4)
    (fun c s => u16 c.pay 0 ≤ 4095 ∧ u16 c.pay 2 = 0 ∧ (s.bead (u16 c.pay 0)).origin = 0 ∧ pendingPlace s (u16 c.pay 0) = none)
    (fun _ _ => zeros 44) ∧
  Reads .beadRod 0x0405 1 (· == 4) (fun c _ => u8 c.pay 0 = 0 ∧ u8 c.pay 1 ≤ 1 ∧ u16 c.pay 2 = 0)
    (fun c s =>
      let es := (s.abacus.current.drop (128 * u8 c.pay 1)).take 128
      cycle64 s.cycle ++ le 2 s.abacus.current.length ++ le 2 es.length ++ zeros 4
        ++ es.flatMap fun o => le 2 o.bead ++ le 1 o.state ++ le 1 o.slid) ∧
  (∀ l, Reads .beadRod 0x0405 1 (· == 4) (fun c s => u8 c.pay 0 = 1 ∧ u8 c.pay 1 ≤ 1 ∧ u16 c.pay 2 = 0 ∧ s.abacus.next = some l)
    (fun c s =>
      let es := (l.drop (128 * u8 c.pay 1)).take 128
      cycle64 (s.cycle + 1) ++ le 2 l.length ++ le 2 es.length ++ zeros 4
        ++ es.flatMap fun o => le 2 o.bead ++ le 1 o.state ++ le 1 o.slid)) ∧
  Reads .beadStats 0x0406 1 (· == 0) (fun _ _ => True) (fun _ s =>
    le 4 (count32 s.abacus.fired) ++ le 4 (count32 s.abacus.slidCount) ++ le 4 (count32 s.abacus.skipped) ++ le 4 (count32 s.abacus.late)
      ++ le 2 s.abacus.peakRod ++ le 2 s.abacus.peakAngle ++ le 4 (count32 s.abacus.provAdmitted)) ∧
  Reads .beadCapacity 0x0407 1 (· == 0) (fun _ _ => True) (fun _ s =>
    let taken := (List.range 4096).filter (beadTaken s)
    let all := counted (recordsIn (acceptedBeads s))
    le 2 (4096 - taken.length) ++ le 2 (taken.filter fun b => (s.bead b).origin == 1).length
      ++ le 2 (taken.length - (taken.filter fun b => (s.bead b).origin == 1).length)
      ++ le 2 (worstOf (all.map fun x => x.2.2)).1
      ++ le 2 ((((all.map fun x => x.2.1).eraseDups).map fun a => (worstOf ((all.filter fun x => x.2.1 == a).map fun x => x.2.2)).1).foldl max 0)
      ++ zeros 2)

/-- Whenever asked, CARRY.INFO answers occupancy, chains, the record in force and the full flag; LIST the set of entries that are not FREE; READ of an entry up to 127 its 32 bytes and the provisional output, and zeros for a FREE one; CHAIN of an entry in use its chain's number, roots, entries, horizon and members in order of opening; STATS the counters of R197. They change nothing. STATS_CLEAR sets every counter of R197 to zero and nothing else; DROP drops the whole chain of a live entry with cause 7 and answers its size, and answers 0 for a FREE entry. Completes: CARRY.INFO, CARRY.LIST, CARRY.READ, CARRY.CHAIN, CARRY.STATS, CARRY.STATS_CLEAR, CARRY.DROP. -/
def Obligations.CarryVerbsComplete : Prop :=
  Reads .carryInfo 0x0501 1 (· == 0) (fun _ _ => True) (fun _ s =>
    le 1 s.carry.entries.length ++ le 1 ((s.carry.entries.map fun e => e.2.chain).eraseDups).length
      ++ le 1 (u8 (s.cfg.valueOr 0x8501 0 [1, 16, 0, 0]) 0) ++ le 1 (u8 (s.cfg.valueOr 0x8501 0 [1, 16, 0, 0]) 1)
      ++ le 1 (if s.carry.full then 1 else 0) ++ zeros 3) ∧
  Reads .carryList 0x0502 1 (· == 0) (fun _ _ => True) (fun _ s =>
    le 16 (((List.range 128).map fun e => if (s.entry e).state ≠ 0 then 2 ^ e else 0).sum)) ∧
  Reads .carryRead 0x0503 1 (· == 4)
    (fun c s => u8 c.pay 0 ≤ 127 ∧ allZero (slice c.pay 1 3) = true ∧ (s.entry (u8 c.pay 0)).state ≠ 0)
    (fun c s => (s.entry (u8 c.pay 0)).bytes ++ le 4 (shownOutput (s.entry (u8 c.pay 0))) ++ zeros 4) ∧
  Reads .carryRead 0x0503 1 (· == 4)
    (fun c s => u8 c.pay 0 ≤ 127 ∧ allZero (slice c.pay 1 3) = true ∧ (s.entry (u8 c.pay 0)).state = 0) (fun _ _ => zeros 40) ∧
  Reads .carryChain 0x0504 1 (· == 4)
    (fun c s => u8 c.pay 0 ≤ 127 ∧ allZero (slice c.pay 1 3) = true ∧ (s.entry (u8 c.pay 0)).state ≠ 0)
    (fun c s =>
      let n := (s.entry (u8 c.pay 0)).chain
      le 1 n ++ le 1 ((chainEntries s n).filter fun x => x.2.root).length ++ le 1 (chainEntries s n).length ++ zeros 1
        ++ cycle64 (horizonRead s n).cycle ++ le 2 (horizonRead s n).angle ++ zeros 6
        ++ (chainEntries s n).flatMap fun x => le 1 x.1) ∧
  Reads .carryStats 0x0505 1 (· == 0) (fun _ _ => True) (fun _ s =>
    le 4 s.carry.opened ++ le 4 s.carry.settled ++ le 4 s.carry.recomputed
      ++ ((List.range 9).flatMap fun i => le 4 (fget 0 s.carry.dropped (i + 1)))
      ++ le 4 s.carry.refused ++ le 1 s.carry.peak ++ le 1 s.carry.longest
      ++ le 2 (sat 65535 (if s.carry.latencies.isEmpty then 0 else divNear s.carry.latencies.sum s.carry.latencies.length))
      ++ le 2 s.carry.latencyMax ++ zeros 2) ∧
  Completes .carryStatsClear 0x0506 2 (· == 0) (fun _ _ => True)
    (fun _ s => { s with carry := { s.carry with
      opened := 0, settled := 0, recomputed := 0, dropped := [], refused := 0, peak := 0, longest := 0, latencies := [], latencyMax := 0 } })
    (fun _ _ => []) ∧
  Completes .carryDrop 0x0507 2 (· == 4)
    (fun c s => u8 c.pay 0 ≤ 127 ∧ allZero (slice c.pay 1 3) = true ∧ (s.entry (u8 c.pay 0)).state ≠ 0)
    (fun c s => dropChain (s.entry (u8 c.pay 0)).chain 7 s)
    (fun c s => le 1 (chainEntries s (s.entry (u8 c.pay 0)).chain).length ++ zeros 3) ∧
  Completes .carryDrop 0x0507 2 (· == 4)
    (fun c s => u8 c.pay 0 ≤ 127 ∧ allZero (slice c.pay 1 3) = true ∧ (s.entry (u8 c.pay 0)).state = 0)
    (fun _ s => s) (fun _ _ => zeros 4)

/-- LEASE_SET of arguments that pass R234 puts the lease in NEXT, after the pending lease it replaces is refused with cause 3, and answers slot 1. LEASE_CONFIRM of the pending number before its confirm_by boundary confirms it and holds its roots, and one after it, or of a lease that its deadline refused, is LATE; LEASE_REFUSE refuses it with cause 1 and answers the roots dropped. LOAN_RETURN of a borrowed loan the forecast can do without ends it from the first open rod, sends RETURN and answers that rod. The reads answer the fields of R233 and change nothing; STATS_CLEAR clears the counters. Completes: RECK.ACCOUNTS, RECK.LEASE_SET, RECK.LEASE_CONFIRM, RECK.LEASE_REFUSE, RECK.LEASE_READ, RECK.LOANS, RECK.LOAN_RETURN, RECK.STATS, RECK.STATS_CLEAR. -/
def Obligations.ReckVerbsComplete : Prop :=
  Reads .reckAccounts 0x0601 1 (· == 0) (fun _ _ => True) (fun _ s =>
    let c : Closed := s.reck.closed.headD {}
    ((List.range 3).flatMap fun p =>
      le 2 (limPower s s.cycle p / 100).toNat ++ le 2 (leaseRamp s s.cycle p) ++ le 2 (loanKw s true s.cycle p) ++ le 2 (loanKw s false s.cycle p)
        ++ leInt 4 (s.reck.shown.getD p 0) ++ le 4 (c.energy.getD p 0) ++ leInt 4 (c.endPower.getD p 0))
      ++ le 4 (heatBudget s s.cycle) ++ leInt 4 s.reck.balance ++ leInt 4 s.reck.forecastHeat ++ leInt 4 s.reck.excess
      ++ le 1 (((List.range 3).map fun p => flag (c.invalid.getD p true) p).sum + flag s.reck.fallback 3 + flag (leaseFor s s.cycle).isNone 4)
      ++ zeros 3) ∧
  Completes .reckLeaseSet 0x0602 2 (· == 44)
    (fun c s => leaseBad s c.pay (leaseOf c.pay) = false ∧ s.cycle + 2 ≤ (leaseOf c.pay).start ∧ leaseBelowLent s (leaseOf c.pay) = false ∧
      (∀ n, s.reck.next = some n → n.confirmed = true))
    (fun c s => { s with reck := { s.reck with next := some (leaseOf c.pay) } }) (fun _ _ => le 1 1 ++ zeros 7) ∧
  (∀ n, Completes .reckLeaseSet 0x0602 2 (· == 44)
    (fun c s => leaseBad s c.pay (leaseOf c.pay) = false ∧ s.cycle + 2 ≤ (leaseOf c.pay).start ∧ leaseBelowLent s (leaseOf c.pay) = false ∧
      s.reck.next = some n ∧ n.confirmed = false)
    (fun c s =>
      let t := raise 0x0605 [n.number, 3, countRoots s fun x => x.kind == 2 && x.source == n.number]
        (dropRoots (fun x => x.kind == 2 && x.source == n.number) 4 { s with reck := { s.reck with next := none } })
      { t with reck := { t.reck with next := some (leaseOf c.pay) } }) (fun _ _ => le 1 1 ++ zeros 7)) ∧
  (∀ l, Completes .reckLeaseConfirm 0x0603 2 (· == 4)
    (fun c s => s.reck.next = some l ∧ l.confirmed = false ∧ l.number = u32 c.pay 0 ∧ s.cycle < l.confirmBy)
    (fun _ s => confirmRoots l.number { s with reck := { s.reck with next := some { l with confirmed := true } } }) (fun _ _ => [])) ∧
  TurnsAway .reckLeaseConfirm 0x0603 2 (· == 4)
    (fun c s => s.reck.deadlined = some (u32 c.pay 0) ∧ s.reck.next = none ∨
      ∃ l, s.reck.next = some l ∧ l.confirmed = false ∧ l.number = u32 c.pay 0 ∧ l.confirmBy ≤ s.cycle) 0x0F ∧
  (∀ l, Completes .reckLeaseRefuse 0x0604 2 (· == 4)
    (fun c s => s.reck.next = some l ∧ l.confirmed = false ∧ l.number = u32 c.pay 0)
    (fun _ s => raise 0x0605 [l.number, 1, countRoots s fun x => x.kind == 2 && x.source == l.number]
        (dropRoots (fun x => x.kind == 2 && x.source == l.number) 4 { s with reck := { s.reck with next := none } }))
    (fun _ s => le 1 (countRoots s fun x => x.kind == 2 && x.source == l.number) ++ zeros 3)) ∧
  Reads .reckLeaseRead 0x0605 1 (· == 0) (fun _ _ => True) (fun _ s => leaseBytes s.reck.current ++ leaseBytes s.reck.next) ∧
  Reads .reckLoans 0x0606 1 (· == 0) (fun _ _ => True) (fun _ s =>
    le 1 (s.reck.loans.filter fun l => !l.lent).length ++ le 1 (s.reck.loans.filter Loan.lent).length ++ zeros 2
      ++ ((s.reck.loans.filter fun l => !l.lent) ++ s.reck.loans.filter Loan.lent).flatMap fun l => (leaseBodyFor 2 l).bytes) ∧
  (∀ l, Completes .reckLoanReturn 0x0607 2 (· == 4)
    (fun c s => ((s.reck.loans.filter fun l => !l.returned).find? fun l => l.number == u32 c.pay 0 && !l.lent) = some l ∧
      s.reck.forecast.getD (l.phase - 1) 0 ≤ limPower s (max (firstOpenRod s) l.start) (l.phase - 1) - l.kw * 100)
    (fun _ s => raiseLoan l.number 0 3 l.phase l.kw (sendLeaseBody l.lender (leaseBodyFor 4 l)
      { s with reck := { s.reck with loans := s.reck.loans.map fun x =>
        if x = l then { x with expiry := min x.expiry (firstOpenRod s), returned := true } else x } }))
    (fun _ s => cycle64 (firstOpenRod s))) ∧
  Reads .reckStats 0x0608 1 (· == 0) (fun _ _ => True) (fun _ s =>
    le 4 (count32 s.reck.stats.admitted) ++ le 4 (count32 s.reck.stats.provisional)
      ++ ((List.range 6).flatMap fun i => le 4 (count32 (fget 0 s.reck.stats.refused (i + 1))))
      ++ le 4 (count32 s.reck.stats.dropped) ++ le 4 (count32 s.reck.stats.overflows) ++ le 4 (count32 s.reck.stats.borrows)
      ++ le 4 (count32 s.reck.stats.lent)) ∧
  Completes .reckStatsClear 0x0609 2 (· == 0) (fun _ _ => True) (fun _ s => { s with reck := { s.reck with stats := {} } }) (fun _ _ => [])

/-- LEASE_CONFIRM_DEADLINE refuses a pending lease whose confirm_by boundary has come, with cause 2. OFFER_PUBLISH writes the offer point while LEND is set in running mode. BORROW_RECEIVED for this chip answers a new number by R223 and a repeated one with the same answer. GRANT_RECEIVED confirms the loan outstanding, raises RECK.LOAN outcome 1 and holds its roots, and returns one already treated as refused. REFUSE_RECEIVED and BORROW_TIMEOUT (4 rods) drop its roots with cause 4. RETURN_RECEIVED ends the loan from the first open rod; one of a loan not granted yet is kept for that tick, and a GRANT of that same tick is then ended at once. LOAN_RENEWAL_CHECK sends a BORROW for an excess. HEAT_FALLBACK sets the fallback once. With nothing to take they change nothing. Completes: LEASE_CONFIRM_DEADLINE, OFFER_PUBLISH, BORROW_RECEIVED, GRANT_RECEIVED, REFUSE_RECEIVED, BORROW_TIMEOUT, RETURN_RECEIVED, LOAN_RENEWAL_CHECK, HEAT_FALLBACK. -/
def Obligations.LeasesAndLoansHappen : Prop :=
  (∀ (s : State) (l : Lease), s.reck.next = some l → l.confirmed = false → l.confirmBy ≤ s.cycle →
    exec .leaseConfirmDeadline s = .next (raise 0x0605 [l.number, 2, countRoots s fun x => x.kind == 2 && x.source == l.number]
      (dropRoots (fun x => x.kind == 2 && x.source == l.number) 4
        { s with reck := { s.reck with next := none, deadlined := some l.number } }))) ∧
  (∀ (s : State), (∀ l, s.reck.next = some l → l.confirmed = true ∨ s.cycle < l.confirmBy) → exec .leaseConfirmDeadline s = .next s) ∧
  (∀ s : State, lendOn s.cfg = true → s.phase.started = true → s.hif.mode = .running →
    exec .offerPublish s = .next (publish (u16 s.cfg.reck 14) 1 (offerValue (s.atAngle 32768)) (s.atAngle 32768))) ∧
  (∀ (s s1 : State) (b : LeaseBody), takeLease 1 s = some (b, s1) → sendsOwn s1 = true → b.lender = ownUid →
    (s1.reck.answered.find? fun a => a.borrower == b.borrower && a.number == b.loan) = none →
    exec .borrowReceived s = .next (lend b s1)) ∧
  (∀ (s s1 : State) (b : LeaseBody) (a : Answered), takeLease 1 s = some (b, s1) → sendsOwn s1 = true → b.lender = ownUid →
    (s1.reck.answered.find? fun a => a.borrower == b.borrower && a.number == b.loan) = some a →
    exec .borrowReceived s = .next (sendLease raise (macOf b.borrower) a.body s1)) ∧
  (∀ (s s1 : State) (g : LeaseBody) (b : Borrow), takeLease 2 s = some (g, s1) → sendsOwn s1 = true → g.borrower = ownUid →
    findBorrow s1 g.loan = some b → s1.reck.returnsSeen.contains (b.number, s1.phase.now) = false →
    exec .grantReceived s = .next (confirmRoots b.number (raise 0x0606 [b.number, 0, 1, b.phase * 65536 + b.kw]
      { s1 with reck := { s1.reck with
        loans := s1.reck.loans ++ [{ lent := false, phase := b.phase, kw := b.kw, number := b.number, borrower := ownUid, lender := b.lender, start := b.start, expiry := g.expiry }],
        borrows := s1.reck.borrows.filter fun x => x.number != b.number } }))) ∧
  (∀ (s s1 : State) (g : LeaseBody) (b : Borrow), takeLease 2 s = some (g, s1) → sendsOwn s1 = true → g.borrower = ownUid →
    findBorrow s1 g.loan = some b → s1.reck.returnsSeen.contains (b.number, s1.phase.now) = true →
    exec .grantReceived s = .next (dropRoots (fun x => x.kind == 2 && x.source == b.number) 4
      (raise 0x0606 [b.number, 0, 3, b.phase * 65536 + b.kw]
        { s1 with reck := { s1.reck with borrows := s1.reck.borrows.filter fun x => x.number != b.number } }))) ∧
  (∀ (s s1 : State) (g : LeaseBody), takeLease 2 s = some (g, s1) → sendsOwn s1 = true → g.borrower = ownUid →
    findBorrow s1 g.loan = none → s1.reck.lapsed.contains g.loan = true →
    exec .grantReceived s = .next (sendLeaseBody g.lender { g with kind := 4, reason := 0 } s1)) ∧
  (∀ (s s1 : State) (g : LeaseBody) (b : Borrow), takeLease 3 s = some (g, s1) → sendsOwn s1 = true → g.borrower = ownUid →
    findBorrow s1 g.loan = some b → exec .refuseReceived s = .next (loanRefused b s1)) ∧
  (∀ (s : State) (b : Borrow) (n : Nat), findBorrow s n = some b → b.sent + 4 ≤ s.cycle → exec (.borrowTimeout n) s = .next (loanRefused b s)) ∧
  (∀ (s : State) (n : Nat), findBorrow s n = none → exec (.borrowTimeout n) s = .next s) ∧
  (∀ (s : State) (b : Borrow), loanRefused b s = dropRoots (fun x => x.kind == 2 && x.source == b.number) 4
    (raise 0x0606 [b.number, 0, 2, b.phase * 65536 + b.kw] { s with reck := { s.reck with
      borrows := s.reck.borrows.filter fun x => x.number != b.number
      refusedBy := (b.lender, s.cycle) :: s.reck.refusedBy.filter (fun r => r.1 != b.lender)
      lapsed := b.number :: s.reck.lapsed } })) ∧
  (∀ (s s1 : State) (g : LeaseBody) (l : Loan), takeLease 4 s = some (g, s1) → sendsOwn s1 = true →
    ((s1.reck.loans.filter fun l => !l.returned).find? fun l => l.number == g.loan && l.borrower == g.borrower && l.lender == g.lender) = some l →
    exec .returnReceived s = .next (raise 0x0606 [l.number, if l.lent then 1 else 0, 3, l.phase * 65536 + l.kw]
      { s1 with reck := { s1.reck with loans := s1.reck.loans.map fun x =>
        if x = l then { x with expiry := min x.expiry (firstOpenRod s1), returned := true } else x } })) ∧
  (∀ (s s1 : State) (g : LeaseBody) (b : Borrow), takeLease 4 s = some (g, s1) → sendsOwn s1 = true →
    ((s1.reck.loans.filter fun l => !l.returned).find? fun l => l.number == g.loan && l.borrower == g.borrower && l.lender == g.lender) = none →
    g.borrower = ownUid → findBorrow s1 g.loan = some b →
    exec .returnReceived s = .next { s1 with reck := { s1.reck with
      returnsSeen := (g.loan, s1.phase.now) :: s1.reck.returnsSeen.filter fun e => e.2 == s1.phase.now } }) ∧
  (∀ (s : State) (n : Nat) (l : Loan) (x : Int), ((s.reck.loans.filter fun l => !l.returned).find? fun l => l.number == n && !l.lent) = some l →
    s.cycle < l.expiry → l.expiry ≤ s.cycle + 256 →
    x = s.reck.forecast.getD (l.phase - 1) 0 - (limPower s (max (firstOpenRod s) l.start) (l.phase - 1) - l.kw * 100) → 0 < x →
    exec (.loanRenewalCheck n) s = .next (sendBorrow (l.phase - 1) (kwFor x) l.expiry s)) ∧
  (∀ (s : State) (v : List Byte), s.cfg.heat = some v → s.reck.fallback = false → s.abacus.running = true →
    u16 v 0 = 0xFFFF ∨ 16 ≤ s.cycle - s.reck.heatInstant.cycle →
    exec .heatFallback s = .next (raise 0x0607 [u16 v 0, s.cycle - s.reck.heatInstant.cycle]
      { s with reck := { s.reck with fallback := true } })) ∧
  (∀ s : State, s.cfg.heat = none ∨ s.reck.fallback = true → exec .heatFallback s = .next s)

/-- A loop with an instant in the present rod that is not the one it has sampled samples there, and else at the instant after it if that lies in the rod. SAMPLE_START moves a third run, else the first sample of R262, from the queue to the lowest free processor with its loop's OUT and ST, unless a recomputation waits. SAMPLE_COMPLETE frees the processor; an unchecked sample without a carry entry runs its program and commits; a checked one is compared once both its runs are complete, and a third run decides, with free values for what the comparisons find. RESULT_APPLY applies the results due by the first due instant of this rod. AWAIT_GIVE_UP ends the wait at instant plus horizon with a lost sample of cause 3. With nothing to do they change nothing. Completes: LOOP_SAMPLE, SAMPLE_START, SAMPLE_COMPLETE, RESULT_APPLY, AWAIT_GIVE_UP. -/
def Obligations.SamplesRunThroughTheEngine : Prop :=
  (∀ (l t : Nat) (s : State), s.engine.running = true → s.phase.started = true → s.cfg.hasLoop l = true →
    loopBead (s.cfg.loopRec l) = false → (s.loop l).mode ≠ .disabled →
    nextInstant (s.cfg.loopRec l) s.phase.now.tu = t → (s.loop l).previous ≠ some (Instant.ofTu t) → t / 65536 = s.cycle →
    exec (.loopSample l) s = .next (settleAll (takeSample l (s.atAngle (t % 65536))))) ∧
  (∀ (l t u : Nat) (s : State), s.engine.running = true → s.phase.started = true → s.cfg.hasLoop l = true →
    loopBead (s.cfg.loopRec l) = false → (s.loop l).mode ≠ .disabled →
    nextInstant (s.cfg.loopRec l) s.phase.now.tu = t → (s.loop l).previous = some (Instant.ofTu t) →
    nextInstant (s.cfg.loopRec l) (t + 1) = u → u / 65536 = s.cycle →
    exec (.loopSample l) s = .next (settleAll (takeSample l (s.atAngle (u % 65536))))) ∧
  (∀ (l : Nat) (s : State), s.engine.running = false ∨ s.cfg.hasLoop l = false ∨ (s.loop l).mode = .disabled →
    exec (.loopSample l) s = .next s) ∧
  (∀ (s s1 : State) (x : Sample) (p : Nat) (ps : List Nat), resolveLoose s = s1 → s1.engine.running = true → readyRecomputes s1 = [] →
    s1.engine.thirds = [] → nextSample s1 = some x → freeProcessors s1 = p :: ps →
    exec .sampleStart s = .next (startOn p x s1)) ∧
  (∀ (s s1 : State) (x : Sample) (xs : List Sample) (p : Nat) (ps : List Nat), resolveLoose s = s1 → s1.engine.running = true →
    readyRecomputes s1 = [] → s1.engine.thirds = x :: xs → freeProcessors s1 = p :: ps →
    exec .sampleStart s = .next { s1 with engine := { s1.engine with
      thirds := xs
      processors := fput {} s1.engine.processors p { s1.processor p with sample := some { x with part := 3 } } } }) ∧
  (∀ (s : State), (resolveLoose s).engine.running = false ∨ readyRecomputes (resolveLoose s) ≠ []
    ∨ freeProcessors (resolveLoose s) = [] ∨ (resolveLoose s).engine.thirds = [] ∧ nextSample (resolveLoose s) = none →
    exec .sampleStart s = .next (resolveLoose s)) ∧
  (∀ (p : Nat) (x : Sample) (s : State), x.entry = none → checker s p = none →
    startOn p x s = { s with engine := { s.engine with
      processors := fput {} s.engine.processors p { s.processor p with
        sample := some { x with processor := p, out := (s.loop x.slot).out, st := (s.loop x.slot).st, part := 0, partner := 0 } }
      queue := s.engine.queue.erase x
      checkedRod := s.engine.checkedRod || decide (p = s.engine.checkTurn) } }) ∧
  (∀ (p : Nat) (s : State), (s.processor p).sample = none → exec (.sampleComplete p) s = .next s) ∧
  (∀ (p : Nat) (s s1 : State) (x : Sample), (s.processor p).sample = some x →
    s1 = s.setProcessor p { s.processor p with sample := none } →
    (x.part = 0 → exec (.sampleComplete p) s = .next (settleAll (finishSample x s1))) ∧
    (x.part = 1 ∨ x.part = 2 → otherRuns x s1 = true → exec (.sampleComplete p) s = .next (settleAll s1)) ∧
    (x.part = 1 ∨ x.part = 2 → otherRuns x s1 = false → ∃ t, t = { s1 with engine := { s1.engine with checks := s.engine.checks + 1 }, free := s.free + 1 } ∧
      (Config.freeBool s.free = true → exec (.sampleComplete p) s = .next (settleAll (finishSample x t))) ∧
      (Config.freeBool s.free = false → exec (.sampleComplete p) s = .next (settleAll { t with engine := { t.engine with
        mismatches := s.engine.mismatches + 1, thirds := s.engine.thirds ++ [x] } }))) ∧
    (x.part = 3 → ∃ t, t = { s1 with free := s.free + 2 } ∧
      (Config.freeBool s.free = true → exec (.sampleComplete p) s = .next (settleAll (finishSample x
        (retireProcessor (if Config.freeBool (s.free + 1) = true then x.partner else x.processor) t)))) ∧
      (Config.freeBool s.free = false → exec (.sampleComplete p) s = .next (settleAll (loseMajority x t))))) ∧
  (∀ (x : Sample) (s : State), x.dropped = false → x.entry = none →
    finishSample x s = commit x.slot (runProgram s.cfg x) x.instant 0 s) ∧
  (∀ (l : Nat) (s : State), (s.loop l).due = [] → exec (.resultApply l) s = .next s) ∧
  (∀ (l : Nat) (s : State) (d : Due) (ds : List Due), (s.loop l).due = d :: ds → d.instant.tu ≤ s.phase.now.tu →
    exec (.resultApply l) s = .next (settleAll (applyDue l s))) ∧
  (∀ (l : Nat) (s : State) (d : Due) (ds : List Due), (s.loop l).due = d :: ds → s.phase.now.tu < d.instant.tu → d.instant.cycle = s.cycle →
    exec (.resultApply l) s = .next (settleAll (applyDue l (s.atAngle d.instant.angle)))) ∧
  (∀ (l : Nat) (s : State), (s.loop l).waiting = none → exec (.awaitGiveUp l) s = .next s) ∧
  (∀ (l : Nat) (s u : State) (w : Sample) (t : Instant), (s.loop l).waiting = some w → t = w.instant.add (loopHorizon (s.cfg.loopRec l)) →
    t.tu ≤ s.phase.now.tu ∧ u = s ∨ s.phase.now.tu < t.tu ∧ t.cycle = s.cycle ∧ u = s.atAngle t.angle →
    exec (.awaitGiveUp l) s = .next (loseSample l 3 w.count { u with engine := { u.engine with
      loops := fput {} s.engine.loops l { s.loop l with waiting := none }
      givenUp := s.engine.givenUp + 1 } }))

/-- The reads answer the fields of R305 and change nothing. FLAGS_CLEAR clears the flags of its mask and nothing else of the loop, FIRST_STAGE with bits 4 to 0. ENABLE of a configured loop within the load limit waits for the boundary it answers. MANUAL lays its mask and values, or the return through SOFT, ready for the loop's next instant, where the state changes with them, and answers the first instant after now. TRACE_ARM within its ranges sets the channel up afresh, and fires at once for trigger 0. Completes: LOOP.STATUS, LOOP.READ, LOOP.FLAGS_CLEAR, LOOP.ENABLE, LOOP.MANUAL, LOOP.MODEL, LOOP.TRACE_ARM, LOOP.TRACE_STATUS, LOOP.TRACE_READ, LOOP.STATS. -/
def Obligations.LoopVerbsComplete : Prop :=
  Reads .loopStatus 0x0701 1 (· == 4) (fun c _ => u16 c.pay 0 ≤ 511 ∧ u16 c.pay 2 = 0) (fun c s =>
    let l := u16 c.pay 0
    let x := s.loop l
    le 1 x.mode.code ++ le 1 (flag (loopPeriodCfg (s.cfg.loopRec l)) 0 + flag x.period 1) ++ le 2 x.flags.toNat ++ le 2 x.clean
      ++ le 1 x.implausible ++ le 1 x.holdCause ++ le 4 (count32 x.samples) ++ le 4 (count32 x.overruns) ++ le 4 (count32 x.misses)
      ++ le 4 (count32 x.fallbacks) ++ cycle64 x.lastCommit.cycle ++ le 2 x.lastCommit.angle ++ zeros 6) ∧
  Reads .loopRead 0x0702 1 (· == 4) (fun c _ => u16 c.pay 0 ≤ 511 ∧ u8 c.pay 2 ≤ 2 ∧ u8 c.pay 3 = 0) (fun c s =>
    let x := s.loop (u16 c.pay 0)
    if u8 c.pay 2 = 0 then le 1 16 ++ zeros 3 ++ wordBytes ((List.range 16).map (reg x.inp))
    else if u8 c.pay 2 = 1 then le 1 16 ++ zeros 3 ++ wordBytes ((List.range 16).map (reg x.out))
    else le 1 64 ++ zeros 3 ++ wordBytes ((List.range 64).map (reg x.st))) ∧
  Completes .loopFlagsClear 0x0703 2 (· == 4) (fun c _ => u16 c.pay 0 ≤ 511 ∧ u16 c.pay 2 ≤ 0x7F)
    (fun c s => s.setLoop (u16 c.pay 0) { s.loop (u16 c.pay 0) with flags := clearFlags (s.loop (u16 c.pay 0)).flags (u16 c.pay 2) })
    (fun c s => le 2 (clearFlags (s.loop (u16 c.pay 0)).flags (u16 c.pay 2)).toNat ++ zeros 2) ∧
  Completes .loopEnable 0x0704 2 (· == 4)
    (fun c s => u16 c.pay 0 ≤ 511 ∧ u8 c.pay 2 ≤ 1 ∧ u8 c.pay 3 = 0 ∧ s.cfg.hasLoop (u16 c.pay 0) = true ∧
      (u8 c.pay 2 = 0 ∨ loadOf s.cfg (s.cfg.loopSlots.filter fun k =>
        k == u16 c.pay 0 || (match (s.loop k).enableNext with
          | some (b, _) => b
          | none => s.loopEnabled k)) ≤ 3000000000 * 4096))
    (fun c s => s.setLoop (u16 c.pay 0) { s.loop (u16 c.pay 0) with enableNext := some (decide (u8 c.pay 2 = 1), s.stageBoundary) })
    (fun _ s => cycle64 s.stageBoundary) ∧
  Completes .loopManual 0x0705 2 (· == 72)
    (fun c s => u16 c.pay 0 ≤ 511 ∧ u8 c.pay 2 = 1 ∧ u8 c.pay 3 = 0 ∧ u16 c.pay 6 = 0 ∧ (s.loop (u16 c.pay 0)).mode ≠ .disabled)
    (fun c s => s.setLoop (u16 c.pay 0) { s.loop (u16 c.pay 0) with
      manualNext := some (some (u16 c.pay 4, (List.range 16).map fun i => BitVec.ofNat 32 (u32 c.pay (8 + 4 * i)))) })
    (fun c s => cycle64 (firstInstant s (u16 c.pay 0)).cycle ++ le 2 (firstInstant s (u16 c.pay 0)).angle ++ zeros 6) ∧
  Completes .loopManual 0x0705 2 (· == 72)
    (fun c s => u16 c.pay 0 ≤ 511 ∧ u8 c.pay 2 = 0 ∧ u8 c.pay 3 = 0 ∧ u16 c.pay 6 = 0 ∧ (s.loop (u16 c.pay 0)).mode = .manual)
    (fun c s => s.setLoop (u16 c.pay 0) { s.loop (u16 c.pay 0) with manualNext := some none })
    (fun c s => cycle64 (firstInstant s (u16 c.pay 0)).cycle ++ le 2 (firstInstant s (u16 c.pay 0)).angle ++ zeros 6) ∧
  (∀ (l : Nat) (s t : State) (v : Nat × List Word), (s.loop l).manualNext = some (some v) →
    t = setLoopMode l .manual (s.setLoop l { s.loop l with manualNext := none }) →
    applyManual l s = t.setLoop l { t.loop l with manual := some v }) ∧
  Reads .loopModel 0x0706 1 (· == 4)
    (fun c s => u16 c.pay 0 ≤ 511 ∧ u16 c.pay 2 = 0 ∧ (supModelIn (s.cfg.sup (u16 c.pay 0))).isSome = true)
    (fun c s => let x := s.loop (u16 c.pay 0)
      wordBytes [x.predicted, x.bias, x.residual] ++ le 4 (count32 x.implausibles)) ∧
  Completes .loopTraceArm 0x0707 2 (· == 12)
    (fun c _ => u8 c.pay 0 ≤ 15 ∧ u8 c.pay 1 ≤ 3 ∧ u8 c.pay 2 ≤ 8 ∧ u8 c.pay 3 = 0 ∧ u16 c.pay 4 ≤ 511 ∧ u8 c.pay 6 ≤ 0xC2 ∧
      u8 c.pay 7 = 0 ∧ 1 ≤ u16 c.pay 8 ∧ u16 c.pay 8 ≤ 4095 ∧ u16 c.pay 10 ≤ 0x7F)
    (fun c s =>
      let s1 := s.setTrace (u8 c.pay 0) { state := 1, trigger := u8 c.pay 1, j := u8 c.pay 2, slot := u16 c.pay 4, register := u8 c.pay 6, post := u16 c.pay 8, mask := u16 c.pay 10 }
      if u8 c.pay 1 = 0 then fireTrace (u8 c.pay 0) s1 else s1)
    (fun _ _ => []) ∧
  Reads .loopTraceStatus 0x0708 1 (· == 4) (fun c _ => u8 c.pay 0 ≤ 15 ∧ allZero (slice c.pay 1 3) = true) (fun c s =>
    let x := s.trace (u8 c.pay 0)
    le 1 x.state ++ zeros 1 ++ le 2 x.entries.length ++ le 2 x.triggerIndex ++ le 2 x.triggerInstant.angle ++ cycle64 x.triggerInstant.cycle) ∧
  Reads .loopTraceRead 0x0709 1 (· == 8)
    (fun c s => u8 c.pay 0 ≤ 15 ∧ u8 c.pay 1 = 0 ∧ 1 ≤ u16 c.pay 4 ∧ u16 c.pay 4 ≤ 192 ∧ u16 c.pay 6 = 0 ∧ (s.trace (u8 c.pay 0)).state ≠ 0)
    (fun c s =>
      let es := ((s.trace (u8 c.pay 0)).entries.drop (u16 c.pay 2)).take (u16 c.pay 4)
      le 2 (u16 c.pay 2) ++ le 2 es.length ++ zeros 4 ++ es.flatMap fun e => le 4 e.1.toNat ++ le 1 e.2) ∧
  Reads .loopStats 0x070A 1 (· == 0) (fun _ _ => True) (fun _ s =>
    let ls := s.cfg.loopSlots.map s.loop
    le 2 (engineLoad s) ++ ((List.range 5).flatMap fun k => le 2 (ls.filter fun x => x.mode.code == k).length)
      ++ le 2 (ls.filter Loop.period).length ++ le 4 (count32 (ls.map Loop.overruns).sum) ++ le 4 (count32 (ls.map Loop.fallbacks).sum)
      ++ le 4 (count32 (ls.map Loop.misses).sum) ++ le 4 (count32 s.engine.givenUp))

/-- The reads answer the fields of R334 and change nothing. COMMONS.WRITE of a value that fits a point declared HOST, in a block this chip writes, with COUNT_VALID set and room on the queue, queues the update for the cut it is assigned to and answers that cut's number. STATS_CLEAR sets the counters and the peak to zero and nothing else. Completes: COMMONS.INFO, COMMONS.READ, COMMONS.WRITE, COMMONS.CHIPS, COMMONS.BLOCKS, COMMONS.STATS, COMMONS.STATS_CLEAR. -/
def Obligations.CommonsVerbsComplete : Prop :=
  Reads .commonsInfo 0x0801 1 (· == 0) (fun _ _ => True) (fun _ s =>
    let mine := (List.range 1024).filter (writesBlock s)
    le 1 (ownChip s.cfg) ++ le 1 (flag s.phase.countValid 0 + flag (s.commons.chips.any fun e => e.2.flags &&& 6 != 0) 1)
      ++ le 2 (cutAngle s.cfg) ++ le 4 (mapHash s.cfg) ++ le 2 mine.length ++ le 2 (mine.filter (asStandby s)).length
      ++ le 2 s.commons.txq.length ++ zeros 2 ++ cycle64 s.commons.viewCycle) ∧
  Reads .commonsRead 0x0802 1 (· == 4)
    (fun c _ => 1 ≤ u8 c.pay 2 ∧ u8 c.pay 2 ≤ 62 ∧ u8 c.pay 3 = 0 ∧ u16 c.pay 0 + u8 c.pay 2 ≤ 65536)
    (fun c s => cycle64 s.commons.viewCycle ++ (List.range (u8 c.pay 2)).flatMap fun i =>
      let p := s.viewPoint (u16 c.pay 0 + i)
      le 8 p.value ++ le 4 p.stamp ++ le 1 p.writer ++ le 1 p.type ++ le 2 p.quality) ∧
  (∀ r, Completes .commonsWrite 0x0803 2 (· == 16)
    (fun c s => s.cfg.run (u16 c.pay 0) = some r ∧ allZero (slice c.pay 2 6) = true ∧ bit (u8 r.value 3) 0 = true ∧
      hostValueOk (u8 r.value 2) (u16 r.value 4) (u64 c.pay 8) = true ∧ writesBlock s (u16 c.pay 0 / 64) = true ∧
      s.phase.countValid = true ∧ s.commons.txq.length < 1024)
    (fun c s => queueOwn 0 (u16 c.pay 0) (u8 r.value 2) (u64 c.pay 8) (asStandby s (u16 c.pay 0 / 64)) (assignedCut s) s)
    (fun _ s => le 4 (low32 (assignedCut s)) ++ zeros 4)) ∧
  Reads .commonsChips 0x0804 1 (· == 0) (fun _ _ => True) (fun _ s =>
    ((List.range 251).drop 1).flatMap fun c => le 1 (silentOf s c) ++ le 1 (s.chip c).flags) ∧
  Reads .commonsBlocks 0x0805 1 (· == 4)
    (fun c _ => 1 ≤ u8 c.pay 2 ∧ u8 c.pay 2 ≤ 240 ∧ u8 c.pay 3 = 0 ∧ u16 c.pay 0 + u8 c.pay 2 ≤ 1024)
    (fun c s => (List.range (u8 c.pay 2)).flatMap fun i =>
      le 1 (blockPrimary s.cfg (u16 c.pay 0 + i)) ++ le 1 (blockStandby s.cfg (u16 c.pay 0 + i)) ++ le 1 (writerOf s (u16 c.pay 0 + i))
        ++ le 1 (blockState s (u16 c.pay 0 + i))) ∧
  Reads .commonsStats 0x0806 1 (· == 0) (fun _ _ => True) (fun _ s => countBytes s.commons.stats 10 ++ le 2 s.commons.peakQueue ++ zeros 2) ∧
  Completes .commonsStatsClear 0x0807 2 (· == 0) (fun _ _ => True)
    (fun _ s => { s with commons := { s.commons with stats := [], peakQueue := 0 } }) (fun _ _ => [])

/-- COMMONS_UPDATE_FRAME takes each entry of a frame of another chip whose COUNT_VALID is set, in order: with a valid count an entry for a later cut is held, one of a chip that is not the writer is rejected, one for the coming cut fills the copy unless a newer stamp stands there, an older one is late. CUT_MARK notes the mark and the hash. CUT_MARK_SEND sends the mark at the cut angle less 1,024. COMMONS_CUT freezes the filling copy after what has arrived is taken and presence and blocks have moved, once a rod. COMMONS_FRAME_SEND sends up to 90 entries once 90 wait or 32 tu have passed since the first was queued; REFRESH_QUEUE queues the next points in rotation. Without a number or a rod they change nothing. Completes: COMMONS_UPDATE_FRAME, CUT_MARK, CUT_MARK_SEND, COMMONS_CUT, COMMONS_FRAME_SEND, REFRESH_QUEUE. -/
def Obligations.CommonsFramesAndCuts : Prop :=
  (∀ (s s1 : State) (d : Delivered), takeDelivered 0x02 s = some (d, s1) → commonsOn s1 = true → u8 d.frame.body 1 ≠ ownChip s1.cfg →
    bit (u8 d.frame.body 2) 0 = true →
    exec .commonsUpdateFrame s = .next ((List.range (n16 d.frame.body 3)).foldl (fun s i =>
      takeUpdate
        { sender := u8 d.frame.body 1, point := n16 d.frame.body (9 + 16 * i), type := u8 d.frame.body (9 + 16 * i + 2), standby := bit (u8 d.frame.body (9 + 16 * i + 3)) 0, stamp := n32 d.frame.body (9 + 16 * i + 4), value := n64 d.frame.body (9 + 16 * i + 8) }
        (bit (u8 d.frame.body (9 + 16 * i + 3)) 1) s) s1)) ∧
  (∀ (s s1 : State) (d : Delivered), takeDelivered 0x02 s = some (d, s1) →
    commonsOn s1 = false ∨ u8 d.frame.body 1 = ownChip s1.cfg ∨ bit (u8 d.frame.body 2) 0 = false → exec .commonsUpdateFrame s = .next s1) ∧
  (∀ (u : HeldUpdate) (s : State), s.phase.countValid = true →
    (0 < stampDiff u.stamp (comingCut s) → takeUpdate u false s = countReceived u (holdUpdate u s)) ∧
    (stampDiff u.stamp (comingCut s) ≤ 0 → writerOf s (u.point / 64) ≠ u.sender → takeUpdate u false s = rejectUpdate u s) ∧
    (stampDiff u.stamp (comingCut s) = 0 → writerOf s (u.point / 64) = u.sender → takeUpdate u false s = fillValue u false (countReceived u s)) ∧
    (stampDiff u.stamp (comingCut s) < 0 → writerOf s (u.point / 64) = u.sender → takeUpdate u false s = lateUpdate u s)) ∧
  (∀ (u : HeldUpdate) (late : Bool) (s : State), bit (fget {} s.commons.fill u.point).quality 0 = false ∨ 0 ≤ stampDiff u.stamp (fget {} s.commons.fill u.point).stamp →
    ∃ x : Point, x = { value := u.value, stamp := u.stamp, writer := u.sender, type := u.type, quality := 1 + (if late then 2 else 0) + (if u.standby then 8 else 0) } ∧
    fillValue u late s = arrivePoint u.point u.type u.value { s with commons := { s.commons with fill := fput {} s.commons.fill u.point x } }) ∧
  (∀ (s s1 : State) (d : Delivered), takeDelivered 0x03 s = some (d, s1) → commonsOn s1 = true →
    1 ≤ u8 d.frame.body 1 → u8 d.frame.body 1 ≤ 250 → u8 d.frame.body 1 ≠ ownChip s1.cfg →
    n32 d.frame.body 13 = mapHash s1.cfg → n16 d.frame.body 3 = cutAngle s1.cfg →
    exec .cutMark s = .next (s1.setChip (u8 d.frame.body 1) { s1.chip (u8 d.frame.body 1) with
      marks := (s1.chip (u8 d.frame.body 1)).marks ++ [(n32 d.frame.body 5, bit (u8 d.frame.body 2) 0, n16 d.frame.body 9)]
      flags := flag (bit (u8 d.frame.body 2) 0) 0 + flag (bit (s1.chip (u8 d.frame.body 1)).flags 3) 3
      mismatch := false })) ∧
  (∀ s : State, commonsOn s = true → s.phase.started = true → ∃ t, t = s.atAngle (cutAngle s.cfg - 1024) ∧
    exec .cutMarkSend s = .next (sendGroup raise 0x03504C440002 6 0x03
      (le 1 (ownChip t.cfg) ++ le 1 (if t.phase.countValid then 1 else 0) ++ be 2 (cutAngle t.cfg) ++ be 4 (low32 t.cycle)
        ++ be 2 (fget 0 t.commons.assigned (low32 t.cycle)) ++ zeros 2 ++ be 4 (mapHash t.cfg) ++ be 8 ownUid)
      (t.setChip (ownChip t.cfg) { t.chip (ownChip t.cfg) with flags := if t.phase.countValid then 1 else 0 }))) ∧
  (∀ s : State, s.commons.cutDone = false → s.phase.started = true → sendsOwn s = true → ∃ u t,
    u = takeArrived (s.atAngle (cutAngle s.cfg)) ∧
    t = (if u.phase.countValid then (List.range 1024).foldl cutBlock
      ((((List.range 251).drop 1).filter fun c => c != ownChip s.cfg).foldl cutChip u) else u) ∧
    exec .commonsCut s = .next (releaseHeld (reportLate { t with commons := { t.commons with
      frozen := some t.commons.fill, frozenStale := staleBlocks t, cutDone := true, sinceCut := []
      assigned := t.commons.assigned.filter fun e => decide (0 < stampDiff e.1 (low32 t.cycle)) } }))) ∧
  (∀ s : State, s.commons.cutDone = true ∨ s.phase.started = false ∨ sendsOwn s = false → exec .commonsCut s = .next s) ∧
  (∀ (s u : State) (x : TxEntry) (xs es : List TxEntry) (t : Instant), s.commons.txq = x :: xs → nextEntries s.commons.txq = es → t = x.queued.add 32 →
    es.length = 90 ∧ u = s ∨ es.length < 90 ∧ t.tu ≤ s.phase.now.tu ∧ u = s ∨
      es.length < 90 ∧ s.phase.now.tu < t.tu ∧ t.tu / 65536 = s.cycle ∧ u = s.atAngle (t.tu % 65536) →
    ∃ v, v = { u with commons := { u.commons with txq := es.foldl List.erase s.commons.txq } } ∧
    exec .commonsFrameSend s = .next (sendGroup raise 0x03504C440002 6 0x02
      (le 1 (ownChip s.cfg) ++ le 1 (if s.phase.countValid then 1 else 0) ++ be 2 es.length ++ zeros 4 ++ es.flatMap entryBytes)
      (countCommons 7 (es.filter fun e => e.kind == 2).length (countCommons 0 es.length v)))) ∧
  (∀ s : State, s.commons.txq = [] → exec .commonsFrameSend s = .next s) ∧
  (∀ (s : State) (mine : List Nat), commonsOn s = true → s.phase.countValid = true →
    mine = (s.commons.view.filter fun e => bit e.2.quality 0 && writesBlock s (e.1 / 64)).map Prod.fst →
    exec .refreshQueue s = .next ((((mine.filter fun p => decide (s.commons.refreshNext ≤ p)) ++
      mine.filter fun p => decide (p < s.commons.refreshNext)).take (min (u8 s.cfg.commons 1) (513 - s.commons.txq.length))).foldl
      (fun s p => pushTx { point := p, type := (s.viewPoint p).type, standby := asStandby s (p / 64), stamp := (s.viewPoint p).stamp, value := (s.viewPoint p).value, kind := 2 }
        { s with commons := { s.commons with refreshNext := p + 1 } }) s))

/-- At a cut, with n the silent count of the block's primary: PRIMARY becomes STALE at n of 3 or more; STALE becomes PRIMARY at n = 0, and else STANDBY at n of 8 or more while a standby exists and is present; STANDBY becomes RETURNING at n = 0; RETURNING becomes PRIMARY at the 16th consecutive cut with the primary present, and STANDBY at n above 0. NONE never changes. -/
def Obligations.BlocksFollowTheirTable : Prop :=
  ∀ (s : State) (b n : Nat) (x : BlockState), fget {} s.commons.blocks b = x → silentOf s (blockPrimary s.cfg b) = n →
    (x.state = 0 → nextBlock s b = x) ∧
    (x.state = 1 → nextBlock s b = if 3 ≤ n then ⟨2, 0⟩ else x) ∧
    (x.state = 2 → n = 0 → (nextBlock s b).state = 1) ∧
    (x.state = 2 → 8 ≤ n → blockStandby s.cfg b ≠ 0 → silentOf s (blockStandby s.cfg b) = 0 → (nextBlock s b).state = 3) ∧
    (x.state = 2 → n ≠ 0 → n < 8 ∨ blockStandby s.cfg b = 0 ∨ silentOf s (blockStandby s.cfg b) ≠ 0 → nextBlock s b = x) ∧
    (x.state = 3 → n = 0 → (nextBlock s b).state = 4) ∧ (x.state = 3 → n ≠ 0 → nextBlock s b = x) ∧
    (x.state = 4 → n ≠ 0 → (nextBlock s b).state = 3) ∧
    (x.state = 4 → n = 0 → x.returning < 15 → nextBlock s b = ⟨4, x.returning + 1⟩) ∧
    (x.state = 4 → n = 0 → 15 ≤ x.returning → (nextBlock s b).state = 1)

/-- Whenever a RING command is asked and its arguments are in range it answers OK: INFO the address, flags, links and table sizes, PORT the counters of a port 0 to 2, NODES up to 120 entries of the node table, PROXY the proxies with their frames, PTP the clock's state, offset, delays and cross-check, GATES a port's list and the entry in force, REQUESTERS the network requesters; PORT_CLEAR empties the counters of the port, or of all three for 0xFF, and changes nothing else. A port above 2 is turned away with the status 6 by PORT and GATES. Completes: RING.INFO, RING.PORT, RING.PORT_CLEAR, RING.NODES, RING.PROXY, RING.PTP, RING.GATES, RING.REQUESTERS. -/
def Obligations.RingVerbsComplete : Prop :=
  Reads .ringInfo 0x0901 1 (· == 0) (fun _ _ => True)
    (fun _ s => be 6 ownMac ++ le 1 (u8 s.cfg.ring 0) ++ le 1 (ptpFlags s.ring)
      ++ (le 1 (flag (s.port 0).link 0) ++ le 1 (flag (s.port 1).link 0) ++ le 1 (flag (s.port 2).link 0)) ++ zeros 1
      ++ le 2 s.cfg.siteVid ++ le 2 s.ring.nodes.length ++ le 1 s.ring.proxies.length ++ le 1 s.mail.requesters.length
      ++ le 2 s.ring.duplicates.length) ∧
  Reads .ringPort 0x0902 1 (· == 4) (fun c _ => u8 c.pay 0 ≤ 2 ∧ allZero (c.pay.drop 1) = true)
    (fun c s => countBytes (s.port (u8 c.pay 0)).counters 19) ∧
  TurnsAway .ringPort 0x0902 1 (· == 4) (fun c _ => 2 < u8 c.pay 0) 6 ∧
  Completes .ringPortClear 0x0903 2 (· == 4) (fun c _ => u8 c.pay 0 ≤ 2 ∧ allZero (c.pay.drop 1) = true)
    (fun c s => s.setPort (u8 c.pay 0) { s.port (u8 c.pay 0) with counters := [] }) (fun _ _ => []) ∧
  Completes .ringPortClear 0x0903 2 (· == 4) (fun c _ => u8 c.pay 0 = 0xFF ∧ allZero (c.pay.drop 1) = true)
    (fun _ s => clearPort (clearPort (clearPort s 0) 1) 2) (fun _ _ => []) ∧
  Reads .ringNodes 0x0904 1 (· == 4)
    (fun c _ => 1 ≤ u8 c.pay 2 ∧ u8 c.pay 2 ≤ 120 ∧ u8 c.pay 3 = 0 ∧ u16 c.pay 0 + u8 c.pay 2 ≤ 512)
    (fun c s => le 2 s.ring.nodes.length ++ le 1 ((s.ring.nodes.drop (u16 c.pay 0)).take (u8 c.pay 2)).length ++ zeros 1
      ++ ((s.ring.nodes.drop (u16 c.pay 0)).take (u8 c.pay 2)).flatMap (nodeBytes s)) ∧
  Reads .ringProxy 0x0905 1 (· == 0) (fun _ _ => True)
    (fun _ s => le 1 s.ring.proxies.length ++ zeros 3 ++ s.ring.proxies.flatMap fun x => be 6 x.mac ++ le 2 x.vid ++ le 4 (count32 x.frames)) ∧
  Reads .ringPtp 0x0906 1 (· == 0) (fun _ _ => True)
    (fun _ s => le 1 s.ring.ptp.state ++ le 1 (ptpFlags s.ring) ++ zeros 2 ++ le 8 s.ring.ptp.grandmaster ++ leInt 4 s.ring.ptp.offset
      ++ le 4 (low32 s.ring.ptp.pathDelay) ++ leInt 2 s.phase.lastD ++ leInt 2 s.ring.ptp.dPtp
      ++ (le 4 (low32 (s.port 0).peerDelay) ++ le 4 (low32 (s.port 1).peerDelay) ++ le 4 (low32 (s.port 2).peerDelay))
      ++ le 4 (count32 s.ring.ptp.missed)) ∧
  Reads .ringGates 0x0907 1 (· == 4) (fun c _ => u8 c.pay 0 ≤ 2 ∧ allZero (c.pay.drop 1) = true)
    (fun c s => le 1 (flag (s.cfg.value 0x8902 (u8 c.pay 0)).isSome 0) ++ le 1 (s.port (u8 c.pay 0)).gate ++ le 1 (gateList s.cfg (u8 c.pay 0)).length
      ++ zeros 1 ++ (gateList s.cfg (u8 c.pay 0)).flatMap fun e => le 2 e.1 ++ le 1 e.2 ++ zeros 1) ∧
  TurnsAway .ringGates 0x0907 1 (· == 4) (fun c _ => 2 < u8 c.pay 0) 6 ∧
  Reads .ringRequesters 0x0908 1 (· == 0) (fun _ _ => True)
    (fun _ s => le 1 s.mail.requesters.length ++ zeros 3 ++ s.mail.requesters.flatMap fun r =>
      be 6 r.mac ++ le 1 r.port ++ le 1 (s.mail.sessions.filter fun x => x.who == .net r.mac).length ++ le 2 (boundMask s r.mac))

/-- FRAME_RECEIVED on a port without link changes nothing; a length outside 64 to 1,536 or a bad FCS is discarded and counted. On a ring port a frame from this chip is removed and counted, one without an 802.1Q or HSR tag discarded, a MAC control frame counted alone. The first copy of a frame to this chip's own address is delivered, noted in the duplicate table, and not sent onward; a second copy is counted as a duplicate and not delivered. FRAME_TRANSMIT takes the head of the highest class whose gate is open and which fits off its queue, sends it with its angle stamped if it is a cycle mark, and counts it; else it changes nothing. Completes: FRAME_RECEIVED, FRAME_TRANSMIT. -/
def Obligations.TheSwitchMovesFrames : Prop :=
  (∀ (p : Nat) (f : EthFrame) (ok : Bool) (s : State), (s.port p).link = false → exec (.frameReceived p f ok) s = .next s) ∧
  (∀ (p : Nat) (f : EthFrame) (ok : Bool) (s : State), (s.port p).link = true → portOn s p = true → f.length < 64 ∨ 1536 < f.length →
    exec (.frameReceived p f ok) s = .next (s.countPort p 3)) ∧
  (∀ (p : Nat) (f : EthFrame) (s : State), (s.port p).link = true → portOn s p = true → 64 ≤ f.length → f.length ≤ 1536 →
    exec (.frameReceived p f false) s = .next (badFcs p f s) ∧
    (f.etherType = 0x8808 → exec (.frameReceived p f true) s = .next ((s.countPort p 0).countPort p 7)) ∧
    (f.etherType ≠ 0x8808 → p = 2 → exec (.frameReceived p f true) s = .next (fromHost f (s.countPort p 0))) ∧
    (f.etherType ≠ 0x8808 → p ≠ 2 → linkLocal f.dst = true → exec (.frameReceived p f true) s = .next (s.countPort p 0)) ∧
    (f.etherType ≠ 0x8808 → p ≠ 2 → linkLocal f.dst = false → f.src = ownMac →
      exec (.frameReceived p f true) s = .next (supReturned p f ((s.countPort p 0).countPort p 5))) ∧
    (f.etherType ≠ 0x8808 → p ≠ 2 → linkLocal f.dst = false → f.src ≠ ownMac → f.vlan = none ∨ f.hsr = none →
      exec (.frameReceived p f true) s = .next (s.countPort p 0)) ∧
    (∀ vid pcp seq, f.etherType ≠ 0x8808 → p ≠ 2 → linkLocal f.dst = false → f.src ≠ ownMac →
      isProxy (s.countPort p 0).ring f.src = false → f.vlan = some (vid, pcp) → f.hsr = some seq →
      exec (.frameReceived p f true) s = .next (ringFrame p vid pcp seq f (s.countPort p 0)))) ∧
  (∀ (p vid pcp seq : Nat) (f : EthFrame) (s u : State), f.dst = ownMac → isProxy s.ring f.dst = false → isGroup f.dst = false →
    u = { s with ring := { s.ring with duplicates := s.ring.duplicates.filter fun d => decide (s.phase.now.tu ≤ d.made.tu + 16384) } } →
    (findDuplicate u.ring f.src seq = none →
      ringFrame p vid pcp seq f s = hearSupervision p f (deliver p { f with vlan := some (vid, pcp) }
        (keepDuplicate { src := f.src, seq := seq, made := s.phase.now, rxEast := p == 0, rxWest := p == 1 } u))) ∧
    (∀ d, findDuplicate u.ring f.src seq = some d → d.known = true →
      ringFrame p vid pcp seq f s = hearSupervision p f
        (keepDuplicate { d with rxEast := d.rxEast || p == 0, rxWest := d.rxWest || p == 1 } (u.countPort p 6)))) ∧
  (∀ (p : Nat) (f : EthFrame) (s : State), f.etherType = 0x88B5 →
    (receiverTakes s ⟨p, f⟩ = true → deliver p f s = { s with ring := { s.ring with delivered := s.ring.delivered ++ [⟨p, f⟩] } }) ∧
    (receiverTakes s ⟨p, f⟩ = false → sendsOwn s = true ∨ u8 f.body 0 = 1 ∨ u8 f.body 0 = 5 → deliver p f s = s.countPort p 8)) ∧
  (∀ (p k : Nat) (f : EthFrame) (q : List EthFrame) (s : State), (s.port p).link = true → portOn s p = true → nextClass s p = some (k, f, q) →
    exec (.frameTransmit p) s = .next ((s.setPort p { s.port p with
      queues := fput [] (s.port p).queues k q, sent := some (stampEgress s.angle f) }).countPort p 1)) ∧
  (∀ (p : Nat) (s : State), (s.port p).link = false ∨ portOn s p = false ∨ nextClass s p = none → exec (.frameTransmit p) s = .next s)

/-- LINK_UP sets the link and raises RING.LINK; LINK_DOWN clears it, counts it, raises RING.LINK and on a ring port opens the ring with cause 1, once; SERDES_IDLE without link is low power and SERDES_WAKE leaves it. GATE_TRANSITION steps to the next entry at its end angle. An expiry removes exactly the entry named: a node's 60 s after its last supervision frame, a duplicate's more than 16,384 tu after it was made, a proxy's at once. SUPERVISION_SEND leaves on both ring ports with a TLV per proxy and awaits its return; SUPERVISION_RETURN_TIMEOUT counts a copy that has not returned, once per frame, and the second running opens the ring with cause 2. Completes: LINK_UP, LINK_DOWN, SERDES_IDLE, SERDES_WAKE, GATE_TRANSITION, NODE_ENTRY_EXPIRY, PROXY_ENTRY_EXPIRY, DUPLICATE_ENTRY_EXPIRY, SUPERVISION_SEND, SUPERVISION_RETURN_TIMEOUT. -/
def Obligations.LinksGatesAndTablesMove : Prop :=
  (∀ (p : Nat) (s : State), (s.port p).link = false → portOn s p = true →
    exec (.linkUp p) s = .next (raise 0x0901 [p, 1, 1] (s.setPort p { s.port p with link := true, lowPower := false }))) ∧
  (∀ (p : Nat) (s : State), (s.port p).link = true ∨ portOn s p = false → exec (.linkUp p) s = .next s) ∧
  (∀ (p cause : Nat) (s : State), (s.port p).link = true → ∃ t,
    t = raise 0x0901 [p, 0, cause] ((s.setPort p { s.port p with link := false }).countPort p 18) ∧
    (2 ≤ p → exec (.linkDown p cause) s = .next t) ∧
    (p < 2 → t.ring.opened = true → exec (.linkDown p cause) s = .next t) ∧
    (p < 2 → t.ring.opened = false → exec (.linkDown p cause) s =
      .next (raise 0x0902 [p, 1] { t with ring := { t.ring with opened := true, openedTicks := t.clock.ticksRun } }))) ∧
  (∀ (p cause : Nat) (s : State), (s.port p).link = false → exec (.linkDown p cause) s = .next s) ∧
  (∀ (p : Nat) (s : State), (s.port p).link = false → exec (.serdesIdle p) s = .next (s.setPort p { s.port p with lowPower := true })) ∧
  (∀ (p : Nat) (s : State), (s.port p).link = true → exec (.serdesIdle p) s = .next s) ∧
  (∀ (p : Nat) (s : State), exec (.serdesWake p) s = .next (s.setPort p { s.port p with lowPower := false })) ∧
  (∀ (p : Nat) (s : State), gatesTimed s = true → (gateEntry s p).1 ≠ 0 → (s.port p).gate + 1 < (gateList s.cfg p).length →
    exec (.gateTransition p) s = .next ((s.atAngle (max s.angle (gateEntry s p).1)).setPort p { s.port p with gate := (s.port p).gate + 1 })) ∧
  (∀ (p : Nat) (s : State), gatesTimed s = false ∨ (gateEntry s p).1 = 0 ∨ (gateList s.cfg p).length ≤ (s.port p).gate + 1 →
    exec (.gateTransition p) s = .next s) ∧
  (∀ (mac : Nat) (s : State),
    exec (.nodeEntryExpiry mac) s = .next { s with ring := { s.ring with nodes := s.ring.nodes.filter fun n => n.mac != mac || decide (s.msSince n.seen < 60000) } } ∧
    exec (.proxyEntryExpiry mac) s = .next { s with ring := { s.ring with proxies := s.ring.proxies.filter fun n => n.mac != mac } }) ∧
  (∀ (src seq : Nat) (s : State),
    exec (.duplicateEntryExpiry src seq) s =
      .next { s with ring := { s.ring with duplicates := s.ring.duplicates.filter fun x => !(x.src == src && x.seq == seq && decide (x.made.tu + 16384 < s.phase.now.tu)) } }) ∧
  (∀ (s : State) (body : List Byte), sendsOwn s = true → s.cfg.standalone = false →
    body = be 2 1 ++ be 2 s.ring.seq ++ [23, 6] ++ be 6 ownMac ++ s.ring.proxies.flatMap (fun x => [30, 6] ++ be 6 x.mac) ++ zeros 2 →
    exec .supervisionSend s = .next (sendRing raise 6
      { dst := 0x01154E000100, src := ownMac, vlan := some (s.cfg.siteVid, 6), hsr := none, etherType := 0x88FB, body := body, length := max 64 (28 + body.length) }
      { s with ring := { s.ring with supSeq := some s.ring.seq, supEast := false, supWest := false } })) ∧
  (∀ s : State, sendsOwn s = false ∨ s.cfg.standalone = true → exec .supervisionSend s = .next s) ∧
  (∀ (p q : Nat) (s : State), s.ring.supSeq = some q → p < 2 → (if p = 0 then s.ring.supWest else s.ring.supEast) = false →
    fget 0 s.ring.supCounted p ≠ q + 1 → ∃ t,
    t = { s with ring := { s.ring with
      supMissed := fput 0 s.ring.supMissed p (fget 0 s.ring.supMissed p + 1), supCounted := fput 0 s.ring.supCounted p (q + 1) } } ∧
    exec (.supervisionReturnTimeout p) s = .next (if 1 ≤ fget 0 s.ring.supMissed p then openRing p 2 t else t)) ∧
  (∀ (p q : Nat) (s : State), s.ring.supSeq = some q →
    2 ≤ p ∨ (if p = 0 then s.ring.supWest else s.ring.supEast) = true ∨ fget 0 s.ring.supCounted p = q + 1 →
    exec (.supervisionReturnTimeout p) s = .next s) ∧
  (∀ (p : Nat) (s : State), s.ring.supSeq = none → exec (.supervisionReturnTimeout p) s = .next s)

/-- In the states UNCALIBRATED and SLAVE, PTP_SYNC_RECEIVED notes the offset: within 1,000 ns, the 16th running or one with PTP_SYNC set makes the clock a slave and takes the path delay; beyond, the 4th running ends PTP_SYNC. PTP_SYNC_TIMEOUT after eight silent rods returns a slave to UNCALIBRATED. In other states neither changes anything. ANNOUNCE_SEND of a clock that is grandmaster after the selection sends an Announce with the next sequence number; PDELAY_SEND on a port with link sends a peer delay request and keeps the delay measured. The field layouts are IEEE 1588's (assumption log 29). Completes: PTP_SYNC_RECEIVED, PTP_SYNC_TIMEOUT, ANNOUNCE_SEND, PDELAY_SEND. -/
def Obligations.TheNetworkClockIsFollowed : Prop :=
  (∀ (o : Int) (pd : Nat) (d : Int) (s : State), s.ring.ptp.state = 2 ∨ s.ring.ptp.state = 3 →
    (o.natAbs ≤ 1000 → s.ring.ptp.sync = true ∨ 15 ≤ s.ring.ptp.inside →
      exec (.ptpSyncReceived o pd d) s = .next (setPtp 3 s.ring.ptp.grandmaster { s with ring := { s.ring with ptp := { s.ring.ptp with
        inside := s.ring.ptp.inside + 1, beyond := 0, silent := 0, seen := true, offset := o, dPtp := d, pathDelay := pd, pathKnown := true } } })) ∧
    (o.natAbs ≤ 1000 → s.ring.ptp.sync = false → s.ring.ptp.inside < 15 →
      exec (.ptpSyncReceived o pd d) s = .next (setPtp 2 s.ring.ptp.grandmaster { s with ring := { s.ring with ptp := { s.ring.ptp with
        inside := s.ring.ptp.inside + 1, beyond := 0, silent := 0, seen := true, offset := o, dPtp := d } } })) ∧
    (1000 < o.natAbs → s.ring.ptp.sync = true → s.ring.ptp.beyond < 3 →
      exec (.ptpSyncReceived o pd d) s = .next (setPtp 3 s.ring.ptp.grandmaster { s with ring := { s.ring with ptp := { s.ring.ptp with
        inside := 0, beyond := s.ring.ptp.beyond + 1, silent := 0, seen := true, offset := o, dPtp := d, pathDelay := pd, pathKnown := true } } })) ∧
    (1000 < o.natAbs → s.ring.ptp.sync = false ∨ 3 ≤ s.ring.ptp.beyond →
      exec (.ptpSyncReceived o pd d) s = .next (setPtp 2 s.ring.ptp.grandmaster { s with ring := { s.ring with ptp := { s.ring.ptp with
        inside := 0, beyond := s.ring.ptp.beyond + 1, silent := 0, seen := true, offset := o, dPtp := d } } }))) ∧
  (∀ (o : Int) (pd : Nat) (d : Int) (s : State), s.ring.ptp.state ≠ 2 → s.ring.ptp.state ≠ 3 → exec (.ptpSyncReceived o pd d) s = .next s) ∧
  (∀ s : State, s.ring.ptp.state = 3 → 8 ≤ s.ring.ptp.silent →
    exec .ptpSyncTimeout s = .next (setPtp 2 s.ring.ptp.grandmaster { s with ring := { s.ring with ptp := { s.ring.ptp with inside := 0 } } })) ∧
  (∀ s : State, s.ring.ptp.state ≠ 3 ∨ s.ring.ptp.silent < 8 → exec .ptpSyncTimeout s = .next s) ∧
  (∀ (st gm : Nat) (s : State), s.ring.ptp.state = st → s.ring.ptp.state ≠ 0 →
    setPtp st gm s = { s with ring := { s.ring with ptp := { s.ring.ptp with grandmaster := gm, sync := decide (3 ≤ st) } } }) ∧
  (∀ (st gm : Nat) (s : State), s.ring.ptp.state ≠ st → s.ring.ptp.state ≠ 0 →
    setPtp st gm s = raise 0x0905 [s.ring.ptp.state, st, low32 gm, gm / 4294967296]
      { s with ring := { s.ring with ptp := { s.ring.ptp with state := st, grandmaster := gm, sync := decide (3 ≤ st) } } }) ∧
  (∀ (s t : State), settlePtp s = t → t.ring.ptp.state = 4 →
    exec .announceSend s = .next (sendPtp
      (ptpHeader t.cfg 11 64 t.ring.ptp.announceSeq 0 ++ zeros 13 ++ le 1 (if t.phase.master then 64 else 200) ++ be 4 ownQuality
        ++ le 1 128 ++ be 8 ownUid ++ zeros 2 ++ le 1 0xA0)
      { t with ring := { t.ring with ptp := { t.ring.ptp with announceSeq := (t.ring.ptp.announceSeq + 1) % 65536 } } })) ∧
  (∀ (s t : State), settlePtp s = t → t.ring.ptp.state ≠ 4 → exec .announceSend s = .next t) ∧
  (∀ (p delay : Nat) (s : State), (s.port p).link = true → sendsOwn s = true → ∃ t,
    t = { s with ring := { s.ring with ptp := { s.ring.ptp with delaySeq := (s.ring.ptp.delaySeq + 1) % 65536 } } } ∧
    exec (.pdelaySend p delay) s = .next (enqueueFrame raise p 7
      { dst := 0x0180C200000E, src := ownMac, vlan := none, hsr := none, etherType := 0x88F7, body := ptpHeader s.cfg 2 54 s.ring.ptp.delaySeq 0 ++ zeros 20, length := 72 }
      (t.setPort p { t.port p with peerDelay := delay }))) ∧
  (∀ (p delay : Nat) (s : State), (s.port p).link = false ∨ sendsOwn s = false → exec (.pdelaySend p delay) s = .next s)

/-- STATUS, STATS, INSULATION and TIMING answer from a channel 0 to 7 and change nothing; STATS_CLEAR empties the channel's counters, or all eight for 0xFF. SEND of a frame that fits the channel appends it to the FIFO and answers the entries left free; RECEIVE takes up to 12 host frames, oldest first, and leaves the others; RECOVER of a bus-off channel with manual recovery starts the recovery; SPARE starts the switch-over of an enabled channel with cause 3 and answers later. Where the conditions do not hold, RECOVER answers 8, SPARE 8 or 2, and INSULATION without a measurement 8. Completes: FBUS.STATUS, FBUS.STATS, FBUS.STATS_CLEAR, FBUS.SEND, FBUS.RECEIVE, FBUS.RECOVER, FBUS.SPARE, FBUS.INSULATION, FBUS.TIMING. -/
def Obligations.FbusVerbsComplete : Prop :=
  Reads .fbusStatus 0x0A01 1 (· == 4) (fun c _ => u8 c.pay 0 ≤ 7 ∧ allZero (c.pay.drop 1) = true)
    (fun r s =>
      let n := u8 r.pay 0
      let c := s.chan n
      le 1 c.state ++ le 1 (engineOf n c) ++ le 1 (sat 255 c.txErr) ++ le 1 (sat 255 c.recErr) ++ le 1 c.fifo.length ++ le 1 c.hold.length
        ++ le 1 c.rx.length ++ le 1 c.refState ++ le 1 c.lowest ++ le 1 (channelFlags c (chanTriple s n)) ++ le 1 c.tdc ++ zeros 1
        ++ le 4 c.leak ++ cycle64 c.refCycle) ∧
  Reads .fbusStats 0x0A02 1 (· == 4) (fun c _ => u8 c.pay 0 ≤ 7 ∧ allZero (c.pay.drop 1) = true)
    (fun c s => countBytes (s.chan (u8 c.pay 0)).stats 16) ∧
  Completes .fbusStatsClear 0x0A03 2 (· == 4) (fun c _ => u8 c.pay 0 ≤ 7 ∧ allZero (c.pay.drop 1) = true)
    (fun c s => s.setChan (u8 c.pay 0) { s.chan (u8 c.pay 0) with stats := [] }) (fun _ _ => []) ∧
  Completes .fbusStatsClear 0x0A03 2 (· == 4) (fun c _ => u8 c.pay 0 = 0xFF ∧ allZero (c.pay.drop 1) = true)
    (fun _ s => (List.range 8).foldl (fun s n => s.setChan n { s.chan n with stats := [] }) s) (fun _ _ => []) ∧
  Completes .fbusSend 0x0A04 2 (fun n => decide (8 ≤ n) && decide (n ≤ 72))
    (fun r s => ∃ v, v = s.cfg.channel (u8 r.pay 0) ∧ u8 r.pay 0 ≤ 7 ∧ u8 r.pay 1 < 8 ∧ u8 r.pay 3 = 0 ∧ dataLength (u8 r.pay 2) = true ∧
      r.pay.length = 8 + u8 r.pay 2 ∧
      (bit (u8 r.pay 1) 1 = false → bit (u8 r.pay 1) 2 = false ∧ u8 r.pay 2 ≤ 8) ∧
      (bit (u8 r.pay 1) 1 = true → chFlag v 0 = true) ∧ (bit (u8 r.pay 1) 2 = true → chFlag v 1 = true) ∧
      (bit (u8 r.pay 1) 0 = true → u32 r.pay 4 < 2 ^ 29) ∧
      (bit (u8 r.pay 1) 0 = false → u32 r.pay 4 < 2 ^ 11 ∧ (chRefId v = 0xFFFF ∨ u32 r.pay 4 < chRefId v ∨ chRefId v + 7 < u32 r.pay 4)) ∧
      chFlag v 3 = true ∧ (s.chan (u8 r.pay 0)).state ≠ 0 ∧ (s.chan (u8 r.pay 0)).state ≠ 4 ∧ admitsOther v (s.chan (u8 r.pay 0)) false = true)
    (fun r s => pushFifo (u8 r.pay 0)
      { frame := { ident := u32 r.pay 4, extended := bit (u8 r.pay 1) 0, fd := bit (u8 r.pay 1) 1, brs := bit (u8 r.pay 1) 2, data := slice r.pay 8 (u8 r.pay 2) }, source := 2 } s)
    (fun r s => le 1 (32 - ((s.chan (u8 r.pay 0)).fifo.length + 1)) ++ zeros 3) ∧
  Completes .fbusReceive 0x0A05 2 (· == 4)
    (fun r s => u8 r.pay 0 ≤ 7 ∧ 1 ≤ u8 r.pay 1 ∧ u8 r.pay 1 ≤ 12 ∧ u16 r.pay 2 = 0 ∧ chFlag (s.cfg.channel (u8 r.pay 0)) 3 = true)
    (fun r s => s.setChan (u8 r.pay 0) { s.chan (u8 r.pay 0) with
      rx := dropHosts (u8 r.pay 1) (s.chan (u8 r.pay 0)).rx })
    (fun r s =>
      let hosts := (s.chan (u8 r.pay 0)).rx.filter fun x => x.host
      le 1 (hosts.take (u8 r.pay 1)).length ++ le 1 (hosts.drop (u8 r.pay 1)).length ++ zeros 6 ++ (hosts.take (u8 r.pay 1)).flatMap frameRecord) ∧
  (∀ (k : Nat) (l : List RxFrame), ((dropHosts k l).filter fun x => x.host) = (l.filter fun x => x.host).drop k ∧
    ((dropHosts k l).filter fun x => !x.host) = l.filter fun x => !x.host) ∧
  Completes .fbusRecover 0x0A06 2 (· == 4)
    (fun r s => u8 r.pay 0 ≤ 7 ∧ allZero (r.pay.drop 1) = true ∧ (s.chan (u8 r.pay 0)).state = 4 ∧ chFlag (s.cfg.channel (u8 r.pay 0)) 4 = true)
    (fun r s => s.setChan (u8 r.pay 0) { s.chan (u8 r.pay 0) with recovering := true }) (fun _ _ => []) ∧
  TurnsAway .fbusRecover 0x0A06 2 (· == 4)
    (fun r s => u8 r.pay 0 ≤ 7 ∧ allZero (r.pay.drop 1) = true ∧ ((s.chan (u8 r.pay 0)).state ≠ 4 ∨ chFlag (s.cfg.channel (u8 r.pay 0)) 4 = false)) 8 ∧
  Starts .fbusSpare 0x0A07 3 (· == 4)
    (fun r s => u8 r.pay 0 ≤ 7 ∧ allZero (r.pay.drop 1) = true ∧ chEnabled (s.cfg.channel (u8 r.pay 0)) = true ∧ (s.chan (u8 r.pay 0)).state ≠ 0 ∧
      s.fbus.spareState = 0 ∧ s.fbus.switching = none)
    (fun r s => { s with fbus := { s.fbus with switching := some { channel := u8 r.pay 0, cause := 3, mailbox := some r.mbx } } }) ∧
  Reads .fbusInsulation 0x0A08 1 (· == 4) (fun r s => u8 r.pay 0 ≤ 7 ∧ allZero (r.pay.drop 1) = true ∧ (s.chan (u8 r.pay 0)).leaks ≠ [])
    (fun r s =>
      let c := s.chan (u8 r.pay 0)
      le 4 c.leak ++ le 1 (channelFlags c (chanTriple s (u8 r.pay 0))) ++ zeros 3
        ++ (List.replicate (16 - c.leaks.length) 0 ++ c.leaks).flatMap (le 4) ++ cycle64 c.leakCycle) ∧
  TurnsAway .fbusInsulation 0x0A08 1 (· == 4) (fun r s => u8 r.pay 0 ≤ 7 ∧ allZero (r.pay.drop 1) = true ∧ (s.chan (u8 r.pay 0)).leaks = []) 8 ∧
  Reads .fbusTiming 0x0A09 1 (· == 8)
    (fun r s => u8 r.pay 0 ≤ 7 ∧ u8 r.pay 1 = 0 ∧ u16 r.pay 6 = 0 ∧ s.cfg.channel (u8 r.pay 0) ≠ [])
    (fun r s => timingBytes (s.cfg.channel (u8 r.pay 0)) (u16 r.pay 2) (u16 r.pay 4)) ∧
  Reads .fbusTiming 0x0A09 1 (· == 8) (fun r s => u8 r.pay 0 ≤ 7 ∧ u8 r.pay 1 = 0 ∧ u16 r.pay 6 = 0 ∧ s.cfg.channel (u8 r.pay 0) = [])
    (fun _ _ => zeros 20)

/-- On a channel that is off the bus the six channel events change nothing. A frame on whose decoding engine and spare agree, or to which the spare does not listen, is taken: it lowers the receive counter and goes through the filter; an FD frame on a channel without FD sends it to integration. A receive error adds 1. A sent frame leaves the FIFO; a sent reference message ends its pending. A transmit error adds 8, or of a passive transmitter by a free value nothing (assumption log 31), and counts for the head where no reference message is offered ahead of it; 256 is bus-off; the configured count discards the head. A lost arbitration adds to the head's losses. CAN_INTEGRATED and BUS_OFF_RECOVERY give back the bus. Completes: CAN_FRAME_RECEIVED, CAN_RECEIVE_ERROR, CAN_FRAME_SENT, CAN_TRANSMIT_ERROR, ARBITRATION_LOST, CAN_INTEGRATED, BUS_OFF_RECOVERY. -/
def Obligations.ChannelsReceiveAndSend : Prop :=
  (∀ (n : Nat) (f : CanFrame) (v : SpareView) (id : Option Nat) (r : Bool) (s : State), onBus (s.chan n) = false →
    exec (.canFrameReceived n f v) s = .next s ∧ exec (.canReceiveError n id) s = .next s ∧ exec (.canFrameSent n r) s = .next s ∧
    exec (.canTransmitError n) s = .next s ∧ exec (.arbitrationLost n) s = .next s) ∧
  (∀ (n : Nat) (f : CanFrame) (v : SpareView) (s : State), onBus (s.chan n) = true → f.fd = true → chFlag (s.cfg.channel n) 0 = false →
    exec (.canFrameReceived n f v) s = .next (s.setChan n { s.chan n with state := 1 })) ∧
  (∀ (n : Nat) (f : CanFrame) (v : SpareView) (s : State), onBus (s.chan n) = true → f.fd = false ∨ chFlag (s.cfg.channel n) 0 = true →
    (v = .agree ∨ spareListens s n = false → exec (.canFrameReceived n f v) s = .next (acceptFrame n f s)) ∧
    (v = .spareError → spareListens s n = true → exec (.canFrameReceived n f v) s = .next (suspectSpare n (acceptFrame n f s))) ∧
    (v = .engineError → spareListens s n = true → exec (.canFrameReceived n f v) s = .next (suspectEngine n (receiveError n s))) ∧
    (v = .differ → spareListens s n = true → exec (.canFrameReceived n f v) s = .next (suspectSpare n (suspectEngine n (acceptFrame n f s))))) ∧
  (∀ (n : Nat) (f : CanFrame) (s : State), (f.extended = false ∨ identKind f.ident ≠ 4) → isReference (s.cfg.channel n) f = false → ∃ t,
    t = receiveGood n (countChan n 1 1 s) ∧
    (filterAction s.cfg n f = 1 → acceptFrame n f s = bufferFrame n f false t) ∧
    (filterAction s.cfg n f = 2 → acceptFrame n f s = bufferFrame n f true t) ∧
    (filterAction s.cfg n f ≠ 1 → filterAction s.cfg n f ≠ 2 → acceptFrame n f s = countChan n 4 1 t)) ∧
  (∀ (n : Nat) (s : State), onBus (s.chan n) = true →
    exec (.canReceiveError n none) s = .next (settleErrors n (countChan n 10 1 (s.setChan n { s.chan n with recErr := min 255 ((s.chan n).recErr + 1) })))) ∧
  (∀ (n id : Nat) (s t : State), onBus (s.chan n) = true → receiveError n s = t →
    (identKind id = 6 → (t.bus n).window = true → (t.bus n).clashNow.contains (id % 2 ^ 23) = false →
      exec (.canReceiveError n (some id)) s = .next (t.setBus n { t.bus n with clashNow := (t.bus n).clashNow ++ [id % 2 ^ 23] })) ∧
    (identKind id ≠ 6 ∨ (t.bus n).window = false → exec (.canReceiveError n (some id)) s = .next t)) ∧
  (∀ (n : Nat) (s : State), onBus (s.chan n) = true → (s.chan n).refPending = true →
    exec (.canFrameSent n true) s = .next (countChan n 13 1 (sentGood n
      (s.setChan n { s.chan n with refPending := false, refSent := true, refCycle := s.cycle, sent := some (referenceFrame s n) })))) ∧
  (∀ (n : Nat) (r : Bool) (s : State), onBus (s.chan n) = true → r = true ∧ (s.chan n).refPending = false ∨ r = false ∧ (s.chan n).fifo = [] →
    exec (.canFrameSent n r) s = .next s) ∧
  (∀ (n : Nat) (f : TxFrame) (fs : List TxFrame) (s : State), onBus (s.chan n) = true → (s.chan n).fifo = f :: fs →
    exec (.canFrameSent n false) s = .next (feedLayer n (markSent n f (popHead n (sentGood n (measureTdc n f.frame.fd
      (s.setChan n { s.chan n with sent := some f.frame }))))))) ∧
  (∀ (n up : Nat) (s s0 t u : State), onBus (s.chan n) = true →
    (s.chan n).state ≠ 3 ∧ up = (s.chan n).txErr + 8 ∧ s0 = s ∨
      (s.chan n).state = 3 ∧ up = (s.chan n).txErr + (if Config.freeBool s.free then 0 else 8) ∧ s0 = { s with free := s.free + 1 } →
    t = countChan n 10 1 (s0.setChan n { s.chan n with
      txErr := up
      errors := if (s.chan n).refPending = false ∧ (s.chan n).fifo ≠ [] then (s.chan n).errors + 1 else (s.chan n).errors }) →
    u = (if 256 ≤ up then goBusOff n t else settleErrors n t) →
    ((s.chan n).refPending = true ∨ (s.chan n).fifo = [] ∨ (s.chan n).errors + 1 < u8 (s.cfg.channel n) 13 → exec (.canTransmitError n) s = .next u) ∧
    ((s.chan n).refPending = false → (s.chan n).fifo ≠ [] → u8 (s.cfg.channel n) 13 ≤ (s.chan n).errors + 1 →
      exec (.canTransmitError n) s = .next (discardHead n 1 u))) ∧
  (∀ (n : Nat) (s : State), onBus (s.chan n) = true → (s.chan n).refPending = false → (s.chan n).fifo ≠ [] → ∃ t,
    t = countChan n 11 1 (s.setChan n { s.chan n with losses := (s.chan n).losses + 1 }) ∧
    exec (.arbitrationLost n) s = .next (if u16 (s.cfg.channel n) 14 ≠ 0 ∧ u16 (s.cfg.channel n) 14 ≤ (s.chan n).losses + 1 then discardHead n 2 t else t)) ∧
  (∀ (n : Nat) (s : State), onBus (s.chan n) = true → (s.chan n).refPending = true ∨ (s.chan n).fifo = [] →
    exec (.arbitrationLost n) s = .next (countChan n 11 1 s)) ∧
  (∀ (n : Nat) (s t : State), (s.chan n).state = 1 → t = s.setChan n { s.chan n with state := errorState (s.chan n) } →
    (chRefId (s.cfg.channel n) = 0xFFFF ∨ chPriority (s.cfg.channel n) ≠ 0xFF → exec (.canIntegrated n) s = .next t) ∧
    ((t.chan n).state ≠ 0 → chRefId (s.cfg.channel n) ≠ 0xFFFF → chPriority (s.cfg.channel n) = 0xFF →
      exec (.canIntegrated n) s = .next (setRefState n 3 t))) ∧
  (∀ (n : Nat) (s : State), (s.chan n).state ≠ 1 → exec (.canIntegrated n) s = .next s) ∧
  (∀ (n : Nat) (s : State), (s.chan n).state = 4 → (s.chan n).recovering = true →
    exec (.busOffRecovery n) s = .next (raise 0x0A03 [n, s.msSince (s.chan n).offTicks]
      (s.setChan n { s.chan n with state := 2, txErr := 0, recErr := 0, recovering := false }))) ∧
  (∀ (n : Nat) (s : State), (s.chan n).state ≠ 4 ∨ (s.chan n).recovering = false → exec (.busOffRecovery n) s = .next s)

/-- REFERENCE_PENDING makes a potential master's buffer pending at its angle, REFERENCE_CANCEL ends it; REFERENCE_PERIOD_START begins a period in a rod N with N mod 2^ref_n = 0 and judges the last. SPARE_ENGINE_ROTATE moves a free spare to the next enabled channel every 256 rods; SPARE_SWITCH_OVER passes the channel, and SPARE_INTEGRATED gives it the spare, enters the ledger and answers the waiting FBUS.SPARE. LEAK_INJECTION_TOGGLE starts the high half and at its end measures; four differences below 50 mV are a fault. FALLOW_BEACON counts a frame sent in fallow mode. Where the conditions do not hold each changes nothing. Completes: REFERENCE_PENDING, REFERENCE_CANCEL, REFERENCE_PERIOD_START, SPARE_ENGINE_ROTATE, SPARE_SWITCH_OVER, SPARE_INTEGRATED, LEAK_INJECTION_TOGGLE, FALLOW_BEACON. -/
def Obligations.ReferencesSpareAndInsulation : Prop :=
  (∀ (n : Nat) (s : State), chPriority (s.cfg.channel n) ≤ 2 → chRefId (s.cfg.channel n) ≠ 0xFFFF → (s.chan n).refPeriod.isSome = true →
    onBus (s.chan n) = true → (∀ q, (s.chan n).refHeard = some q → chPriority (s.cfg.channel n) ≤ q) → (s.chan n).refSent = false →
    exec (.referencePending n) s = .next ((s.atAngle (max s.angle (min 65535
      (u16 (s.cfg.channel n) 24 + chPriority (s.cfg.channel n) * u16 (s.cfg.channel n) 26)))).setChan n { s.chan n with refPending := true })) ∧
  (∀ (n : Nat) (s : State), 2 < chPriority (s.cfg.channel n) ∨ chRefId (s.cfg.channel n) = 0xFFFF ∨ (s.chan n).refPeriod = none ∨ (s.chan n).refSent = true →
    exec (.referencePending n) s = .next s) ∧
  (∀ (n : Nat) (s : State), (s.chan n).refPending = true →
    exec (.referenceCancel n) s = .next ((s.atAngle (max s.angle (min 65535 (u16 (s.cfg.channel n) 24 + 8192)))).setChan n
      { s.chan n with refPending := false })) ∧
  (∀ (n : Nat) (s : State), (s.chan n).refPending = false → exec (.referenceCancel n) s = .next s) ∧
  (∀ (n : Nat) (s : State), chRefId (s.cfg.channel n) ≠ 0xFFFF → onBus (s.chan n) = true → s.phase.started = true →
    s.cycle % 2 ^ u8 (s.cfg.channel n) 23 = 0 → (s.chan n).refPeriod = none →
    exec (.referencePeriodStart n) s = .next (s.setChan n { s.chan n with
      refSent := false, refHeard := none, refPending := false, refPeriod := some s.cycle })) ∧
  (∀ (n k : Nat) (s s0 t : State), chRefId (s.cfg.channel n) ≠ 0xFFFF → onBus (s.chan n) = true → s.phase.started = true →
    s.cycle % 2 ^ u8 (s.cfg.channel n) 23 = 0 → (s.chan n).refPeriod = some k → k ≠ s.cycle →
    s0 = s.setChan n { s.chan n with lowest := (s.chan n).refHeard.getD 0xFF } →
    t = setRefState n (refStateOf (s.cfg.channel n) (s.chan n).refSent (s.chan n).refHeard)
      (if !(s.chan n).refSent && (s.chan n).refHeard.isNone then raise 0x0A07 [n, low32 k] s0 else s0) →
    exec (.referencePeriodStart n) s = .next (t.setChan n { t.chan n with
      refSent := false, refHeard := none, refPending := false, refPeriod := some s.cycle })) ∧
  (∀ (n : Nat) (s : State), chRefId (s.cfg.channel n) = 0xFFFF ∨ s.cycle % 2 ^ u8 (s.cfg.channel n) 23 ≠ 0 ∨ (s.chan n).refPeriod = some s.cycle →
    exec (.referencePeriodStart n) s = .next s) ∧
  (∀ (v : List Byte) (sent : Bool) (heard : Option Nat), chRefId v ≠ 0xFFFF →
    (chPriority v = 0xFF → refStateOf v sent heard = 3) ∧ (chPriority v ≠ 0xFF → refStateOf v true heard = 1) ∧
    (∀ p, chPriority v ≠ 0xFF → refStateOf v false (some p) = if p < chPriority v then 2 else 0) ∧
    (chPriority v ≠ 0xFF → refStateOf v false none = 0)) ∧
  (∀ (k : Nat) (s : State), s.fbus.spareState = 0 → s.fbus.switching = none → s.cycle % 256 = 0 →
    ((List.range 8).find? fun k => chEnabled (s.cfg.channel ((s.fbus.spareChannel + 1 + k) % 8))) = some k →
    exec .spareEngineRotate s = .next { s with fbus := { s.fbus with spareChannel := (s.fbus.spareChannel + 1 + k) % 8 } }) ∧
  (∀ s : State, s.fbus.spareState ≠ 0 ∨ s.fbus.switching ≠ none ∨ s.cycle % 256 ≠ 0 → exec .spareEngineRotate s = .next s) ∧
  (∀ (w : SwitchOver) (s : State), s.fbus.switching = some w →
    (w.passed = false → exec .spareSwitchOver s = .next
      ({ s with fbus := { s.fbus with switching := some { w with passed := true, cycle := s.cycle } } }.setChan w.channel { s.chan w.channel with state := 6 })) ∧
    (w.passed = true → exec .spareSwitchOver s = .next s) ∧
    (∀ lost, w.passed = false → exec (.spareIntegrated lost) s = .next s) ∧
    (∀ lost, w.passed = true → ∃ t,
      t = writeLedger 6 w.cause w.channel (some 8) (raise 0x0A09 [w.channel, w.channel, w.cause, lost] (countChan w.channel 15 lost
        ({ s with fbus := { s.fbus with switching := none, spareState := 1, spareChannel := w.channel } }.setChan w.channel
          { s.chan w.channel with spare := true, state := if 256 ≤ (s.chan w.channel).txErr then 4 else errorState (s.chan w.channel), suspects := [] }))) ∧
      (w.mailbox = none → exec (.spareIntegrated lost) s = .next t) ∧
      (∀ m, w.mailbox = some m → exec (.spareIntegrated lost) s =
        .next (answerStarted m (ok (le 1 w.channel ++ le 1 (sat 255 lost) ++ zeros 2 ++ cycle64 w.cycle)) t)))) ∧
  (∀ (lost : Nat) (s : State), s.fbus.switching = none → exec .spareSwitchOver s = .next s ∧ exec (.spareIntegrated lost) s = .next s) ∧
  (∀ (n mv : Nat) (s : State), u8 (s.cfg.channel n) 28 ≠ 0 → (s.chan n).state ≠ 0 →
    ((s.chan n).injHigh = false → exec (.leakInjectionToggle n mv) s = .next (s.setChan n { s.chan n with injHigh := true, lowHalf := some (4 * mv) })) ∧
    (∀ low, (s.chan n).injHigh = true → (s.chan n).lowHalf = some low → exec (.leakInjectionToggle n mv) s =
      .next (measureLeak n (((4 * mv : Nat) : Int) - (low : Int)) (s.setChan n { s.chan n with injHigh := false, lowHalf := none })))) ∧
  (∀ (n mv : Nat) (s : State), u8 (s.cfg.channel n) 28 = 0 ∨ (s.chan n).state = 0 → exec (.leakInjectionToggle n mv) s = .next s) ∧
  (∀ (n : Nat) (dv : Int) (s : State), dv < 50 → 3 ≤ (s.chan n).leakOpen → (s.chan n).leakFault = false →
    measureLeak n dv s = raise 0x0A0B [n, (dv % 4294967296).toNat]
      (s.setChan n { s.chan n with leakOpen := (s.chan n).leakOpen + 1, leakFault := true, leakValid := false })) ∧
  (∀ (n : Nat) (s : State), s.hif.mode = .fallow → (s.chan n).state = 5 → exec (.fallowBeacon n) s = .next (countChan n 0 1
    (s.setChan n { s.chan n with sent := some (beaconFrame s n) }))) ∧
  (∀ (n : Nat) (s : State), s.hif.mode ≠ .fallow ∨ (s.chan n).state ≠ 5 → exec (.fallowBeacon n) s = .next s)

/-- NODES, ROLE, ROLLCALL and STATS answer and change nothing. ROLE_MOVE to the UID of a present node of the right kind pins it and begins a move, or answers zeros where the node holds the role already; to UID 0 it ends the pin. TRANSACT with its arguments, in the request or (BULK) committed whole to the window's target 4, on an enabled bus and a role that is not UNHELD, is deferred and originates its transaction, at the bus's own priority for 0xFF and segments. FORGET empties the entry of a node that is absent and holds no role. STATS_CLEAR empties the counters of one bus, or of all eight for 0xFF. ROLLCALL before any window has ended answers 8, and FORGET of a present node 7 with the conflict. Completes: CFP.NODES, CFP.ROLE, CFP.ROLE_MOVE, CFP.TRANSACT, CFP.ROLLCALL, CFP.FORGET, CFP.STATS, CFP.STATS_CLEAR. -/
def Obligations.CfpVerbsComplete : Prop :=
  Reads .cfpNodes 0x0B01 1 (· == 4)
    (fun c _ => u8 c.pay 0 ≤ 7 ∧ 1 ≤ u8 c.pay 1 ∧ u8 c.pay 1 ≤ 126 ∧ 1 ≤ u8 c.pay 2 ∧ u8 c.pay 2 ≤ 63 ∧ u8 c.pay 1 + u8 c.pay 2 ≤ 127 ∧ u8 c.pay 3 = 0)
    (fun c s => (List.range (u8 c.pay 2)).flatMap fun i => cfpNodeBytes (s.node (u8 c.pay 0) (u8 c.pay 1 + i))) ∧
  Reads .cfpRole 0x0B02 1 (· == 4) (fun c s => (s.cfg.role (u16 c.pay 0)).isSome = true ∧ u16 c.pay 2 = 0)
    (fun c s =>
      let r := u16 c.pay 0
      let e := s.roleEntry r
      le 1 (s.cfg.roleBus r) ++ le 1 (roleState s r) ++ le 1 e.address ++ le 1 e.epoch
        ++ le 8 (if e.address = 0 then 0 else (s.node (s.cfg.roleBus r) e.address).uid)
        ++ le 1 (flag e.pinned.isSome 0) ++ le 1 (flag (s.cfg.listens r) 0) ++ zeros 2) ∧
  Completes .cfpRoleMove 0x0B03 2 (· == 12)
    (fun c s => (s.cfg.role (u16 c.pay 0)).isSome = true ∧ u16 c.pay 2 = 0 ∧ s.cfg.listens (u16 c.pay 0) = false ∧ u64 c.pay 4 = 0 ∧
      (s.roleEntry (u16 c.pay 0)).state ≠ 1)
    (fun c s => s.setRoleEntry (u16 c.pay 0) { s.roleEntry (u16 c.pay 0) with pinned := none }) (fun _ _ => zeros 8) ∧
  (∀ a, Completes .cfpRoleMove 0x0B03 2 (· == 12)
    (fun c s => (s.cfg.role (u16 c.pay 0)).isSome = true ∧ u16 c.pay 2 = 0 ∧ s.cfg.listens (u16 c.pay 0) = false ∧ u64 c.pay 4 ≠ 0 ∧
      addressOf s (s.cfg.roleBus (u16 c.pay 0)) (u64 c.pay 4) = some a ∧ a ≠ 0 ∧ (s.node (s.cfg.roleBus (u16 c.pay 0)) a).state = 1 ∧
      (s.node (s.cfg.roleBus (u16 c.pay 0)) a).kind = u16 c.pay 0 / 256 ∧ (s.roleEntry (u16 c.pay 0)).state ≠ 1 ∧ (s.roleEntry (u16 c.pay 0)).address ≠ a)
    (fun c s => beginMove (s.cfg.roleBus (u16 c.pay 0)) (u16 c.pay 0) a
      (s.setRoleEntry (u16 c.pay 0) { s.roleEntry (u16 c.pay 0) with pinned := some (u64 c.pay 4) }))
    (fun _ s => cycle64 s.cycle)) ∧
  (∀ m s c args p, asked s m 0x0B04 2 (fun n => decide (12 ≤ n)) c = true →
    u8 c.pay 0 ≤ 7 → u8 c.pay 1 < 4 → u8 c.pay 7 = 0 → u16 c.pay 10 = 0 → u16 c.pay 8 ≤ 4096 → transactArgs s c (u16 c.pay 8) = some args →
    (s.cfg.role (u16 c.pay 4)).isSome = true → s.cfg.roleBus (u16 c.pay 4) = u8 c.pay 0 → u8 c.pay 6 ≠ 1 → u8 c.pay 6 ≠ 2 →
    (u8 c.pay 2 ≤ 7 ∧ p = u8 c.pay 2) ∨ (u8 c.pay 2 = 0xFF ∧ frameRoom s.cfg (u8 c.pay 0) < 4 + u16 c.pay 8 ∧ p = u8 (s.cfg.bus (u8 c.pay 0)) 10) →
    s.cfg.busOn (u8 c.pay 0) = true → roleState s (u16 c.pay 4) ≠ 3 →
    ((s.bus (u8 c.pay 0)).transactions.filter fun t => t.origin == 2).length < 16 → s.mail.deferred.length < 16 →
    exec (.cfpTransact m) s = .next (answer m { status := 1, job := some s.mail.jobs } (originate (u8 c.pay 0)
      { origin := 2, role := u16 c.pay 4, opcode := u8 c.pay 6, args := args, idem := bit (u8 c.pay 1) 0, prio := p, given := if bit (u8 c.pay 1) 1 then some (u8 c.pay 3) else none, job := s.mail.jobs }
      { s with
        mail := { s.mail with
          jobs := s.mail.jobs + 1
          deferred := s.mail.deferred ++
            [{ job := s.mail.jobs, code := c.req.hdr.code, tag := c.req.hdr.tag, session := c.session, who := c.req.who, mailbox := c.mbx, port := c.req.port, vid := c.req.vid, owner := c.owner, object := u8 c.pay 0 }] } }))) ∧
  (∀ (s : State) (c : Call) (length : Nat),
    (c.bulk = false → c.pay.length = 12 + length → transactArgs s c length = some (c.pay.drop 12)) ∧
    (c.bulk = false → c.pay.length ≠ 12 + length → transactArgs s c length = none) ∧
    (c.bulk = true → s.hif.claim = none → transactArgs s c length = none) ∧
    (∀ k, c.bulk = true → s.hif.claim = some k → claimComplete s k = false → transactArgs s c length = none) ∧
    (∀ k, c.bulk = true → s.hif.claim = some k → c.pay.length = 12 → k.target = 4 → k.mailbox = c.mbx → k.who = c.req.who → claimComplete s k = true →
      length ≤ k.data.length → transactArgs s c length = some (k.data.take length))) ∧
  Reads .cfpRollcall 0x0B05 1 (· == 4) (fun c s => u8 c.pay 0 ≤ 7 ∧ allZero (c.pay.drop 1) = true ∧ (s.bus (u8 c.pay 0)).ended = true)
    (fun c s =>
      let b := s.bus (u8 c.pay 0)
      le 1 b.seq ++ le 1 (if b.own then 0 else 1) ++ le 1 (b.nodes.filter fun e => e.2.state == 1).length ++ le 1 (sat 255 b.announced)
        ++ le 1 (sat 255 b.assigned) ++ le 1 b.missing ++ zeros 2 ++ cycle64 b.lastRoll) ∧
  TurnsAway .cfpRollcall 0x0B05 1 (· == 4) (fun c s => u8 c.pay 0 ≤ 7 ∧ allZero (c.pay.drop 1) = true ∧ (s.bus (u8 c.pay 0)).ended = false) 8 ∧
  Completes .cfpForget 0x0B06 2 (· == 4)
    (fun c s => u8 c.pay 0 ≤ 7 ∧ 1 ≤ u8 c.pay 1 ∧ u8 c.pay 1 ≤ 126 ∧ u16 c.pay 2 = 0 ∧ (s.node (u8 c.pay 0) (u8 c.pay 1)).state ≠ 1 ∧
      roleAt s (u8 c.pay 0) (u8 c.pay 1) = none)
    (fun c s => s.setNode (u8 c.pay 0) (u8 c.pay 1) {}) (fun _ _ => []) ∧
  (∀ m s c, asked s m 0x0B06 2 (· == 4) c = true → u8 c.pay 0 ≤ 7 → 1 ≤ u8 c.pay 1 → u8 c.pay 1 ≤ 126 → u16 c.pay 2 = 0 →
    (s.node (u8 c.pay 0) (u8 c.pay 1)).state = 1 → roleAt s (u8 c.pay 0) (u8 c.pay 1) = none →
    exec (.cfpForget m) s = .next (answer m
      { status := 7, payload := conflictPayload 0xFFFF0B00 0x0B01 (s.node (u8 c.pay 0) (u8 c.pay 1)).role 0 0 0 } s)) ∧
  Reads .cfpStats 0x0B07 1 (· == 4) (fun c _ => u8 c.pay 0 ≤ 7 ∧ allZero (c.pay.drop 1) = true)
    (fun c s => countBytes (s.bus (u8 c.pay 0)).stats 13) ∧
  Completes .cfpStatsClear 0x0B08 2 (· == 4) (fun c _ => u8 c.pay 0 ≤ 7 ∧ allZero (c.pay.drop 1) = true)
    (fun c s => s.setBus (u8 c.pay 0) { s.bus (u8 c.pay 0) with stats := [] }) (fun _ _ => []) ∧
  Completes .cfpStatsClear 0x0B08 2 (· == 4) (fun c _ => u8 c.pay 0 = 0xFF ∧ allZero (c.pay.drop 1) = true)
    (fun _ s => (List.range 8).foldl (fun s n => s.setBus n { s.bus n with stats := [] }) s) (fun _ _ => [])

/-- Each takes the oldest received frame of its kind; without one it changes nothing. ROLL_CALL of the sender in its rod sends a ROLL with the next number and opens the window. CFP_ANNOUNCE of a known UID is answered with its address, of a new one with the lowest free address, with CFP.NODE_NEW; one chip only answers. CFP_ASSIGN is learnt by the others. CFP_CLAIM marks its node present with its role, epoch and kind. CFP_RPT gives its entries to the role whose address and epoch match, else counts a stale report. CLAIM_WINDOW_END, 224 rods after the roll, counts misses and clashes, resolves the roles and clears wrong claims, the CLAIM frames received before it counting first. Completes: ROLL_CALL, CFP_ANNOUNCE, CFP_ASSIGN, CFP_CLAIM, CFP_RPT, CLAIM_WINDOW_END. -/
def Obligations.RollCallsAndNodesFollowTheRules : Prop :=
  (∀ (n kind : Nat) (s : State), ((s.chan n).rx.find? fun f => !f.host && f.frame.extended && identKind f.frame.ident == kind) = none →
    (kind = 6 → exec (.cfpAnnounce n) s = .next s) ∧ (kind = 7 → exec (.cfpAssign n) s = .next s) ∧ (kind = 5 → exec (.cfpClaim n) s = .next s) ∧
    (kind = 2 → exec (.cfpRpt n) s = .next s)) ∧
  (∀ (n : Nat) (s : State), s.cfg.busOn n = true → sendsOwn s = true → rollSender s n = true → s.hif.supPause = false → s.phase.countValid = true →
    s.cycle % 256 = u8 (s.cfg.bus n) 1 → (s.chan n).state ≠ 0 → ¬ ((s.bus n).window = true ∧ (s.bus n).lastRoll = s.cycle) → ∃ t seq, t = s.atAngle (max s.angle (u16 (s.cfg.bus n) 2)) ∧ seq = ((t.bus n).seq + 1) % 256 ∧
    exec (.rollCall n) s = .next (sendLayer n
      { frame := cfpFrame t.cfg n (cfpIdent 3 4 127 0 false 0) (le 1 seq ++ le 1 (flag t.phase.countValid 0) ++ be 4 (low32 t.cycle)) }
      (openWindow n seq true t))) ∧
  (∀ (n : Nat) (s : State), s.cfg.busOn n = false ∨ sendsOwn s = false ∨ rollSender s n = false ∨ s.hif.supPause = true ∨ s.phase.countValid = false ∨
    s.cycle % 256 ≠ u8 (s.cfg.bus n) 1 ∨ (s.chan n).state = 0 ∨ ((s.bus n).window = true ∧ (s.bus n).lastRoll = s.cycle) →
    exec (.rollCall n) s = .next s) ∧
  (∀ (n uid : Nat) (f : RxFrame) (s s1 t : State), takeKind n 6 s = some (f, s1) → n64 f.frame.data 0 = uid →
    t = s1.setBus n { s1.bus n with announced := (s1.bus n).announced + 1 } →
    (rollSender t n = false → exec (.cfpAnnounce n) s = .next t) ∧
    (∀ a, rollSender t n = true → t.cfg.busOn n = true → addressOf t n uid = some a → exec (.cfpAnnounce n) s =
      .next (sendLayer n { frame := cfpFrame t.cfg n (cfpIdent 3 7 a 0 false 0) (be 8 uid) }
        (t.setBus n { t.bus n with assigned := (t.bus n).assigned + 1 }))) ∧
    (∀ a, rollSender t n = true → t.cfg.busOn n = true → addressOf t n uid = none → chooseAddress t n uid = some a → ∃ t1 t2,
      t1 = t.setNode n a { uid := uid, seen := t.cycle } ∧
      t2 = sendLayer n { frame := cfpFrame t1.cfg n (cfpIdent 3 7 a 0 false 0) (be 8 uid) }
        (t1.setBus n { t1.bus n with assigned := (t1.bus n).assigned + 1 }) ∧
      exec (.cfpAnnounce n) s = .next (raise 0x0B01 [n, a, low32 uid, (t2.node n a).kind] t2)) ∧
    (rollSender t n = true → t.cfg.busOn n = true → chooseAddress t n uid = none →
      exec (.cfpAnnounce n) s = .next (raise 0x0B07 [n, low32 uid] t))) ∧
  (∀ (s : State) (n uid a : Nat), addressOf s n uid = none →
    (((List.range 126).map (· + 1)).find? fun a => (s.node n a).uid == 0) = some a → chooseAddress s n uid = some a) ∧
  (∀ (n : Nat) (f : RxFrame) (s s1 : State), takeKind n 7 s = some (f, s1) → rollSender s1 n = true → exec (.cfpAssign n) s = .next s1) ∧
  (∀ (n a uid : Nat) (f : RxFrame) (s s1 : State), takeKind n 7 s = some (f, s1) → rollSender s1 n = false → f.frame.ident / 2 ^ 16 % 128 = a →
    a ≠ 0 → a ≠ 127 → n64 f.frame.data 0 = uid → ∃ t,
    t = s1.setBus n { s1.bus n with
      assigned := (s1.bus n).assigned + 1
      nodes := fput {} ((s1.bus n).nodes.filter fun e => !(e.2.uid == uid && e.1 != a)) a
        (if (s1.node n a).uid = uid then s1.node n a else { uid := uid, seen := s1.cycle }) } ∧
    exec (.cfpAssign n) s = .next (if (addressOf s1 n uid).isSome then t else raise 0x0B01 [n, a, low32 uid, 0] t)) ∧
  (∀ (n a uid : Nat) (f : RxFrame) (s s1 : State), takeKind n 5 s = some (f, s1) → identSrc f.frame.ident = a → a ≠ 0 → a ≠ 127 →
    claimedUid s1 n a (n32 f.frame.data 4) = uid → low32 uid = n32 f.frame.data 4 →
    exec (.cfpClaim n) s = .next (followListen n (n16 f.frame.data 1) a (u8 f.frame.data 0) (s1.setNode n a { s1.node n a with
      uid := uid, kind := u8 f.frame.data 3, state := 1, role := n16 f.frame.data 1, epoch := u8 f.frame.data 0, missed := 0, claimed := true, seen := s1.cycle }))) ∧
  (∀ (n : Nat) (f : RxFrame) (s s1 t : State), takeKind n 2 s = some (f, s1) →
    t = followListen n (s1.node n (identSrc f.frame.ident)).role (identSrc f.frame.ident) (u8 f.frame.data 0) s1 →
    (∀ r, ((rolesOn t.cfg n).find? fun r => (t.roleEntry r).address == identSrc f.frame.ident && (t.roleEntry r).epoch == u8 f.frame.data 0) = some r →
      exec (.cfpRpt n) s = .next (takeEntries r f.stamp (u8 f.frame.data 1) (f.frame.data.drop 2) t)) ∧
    (((rolesOn t.cfg n).find? fun r => (t.roleEntry r).address == identSrc f.frame.ident && (t.roleEntry r).epoch == u8 f.frame.data 0) = none →
      exec (.cfpRpt n) s = .next (countBus n 10 t))) ∧
  (∀ (n : Nat) (s : State), (s.bus n).window = true → (s.bus n).lastRoll + 224 ≤ s.cycle → ∃ t0 t1 t2,
    t0 = takeClaims n 128 s ∧
    t1 = t0.setBus n { t0.bus n with
      window := false, ended := true, clashNow := [], missing := ((t0.bus n).nodes.filter fun e => !e.2.claimed).length } ∧
    t2 = (t0.bus n).clashNow.foldl (countClash n) (((t0.bus n).nodes.map Prod.fst).foldl (missNode n) t1) ∧
    exec (.claimWindowEnd n) s = .next (((t0.bus n).nodes.map Prod.fst).foldl (clearClaim n) ((rolesOn t2.cfg n).foldl (resolveRole n) ([], t2)).2)) ∧
  (∀ (k n : Nat) (s : State), (takeKind n 5 s = none → takeClaims n k s = s) ∧
    (∀ f s1, takeKind n 5 s = some (f, s1) → takeClaims n (k + 1) s = takeClaims n k (takeClaim n f s1))) ∧
  (∀ (n : Nat) (s : State), (s.bus n).window = false ∨ s.cycle < (s.bus n).lastRoll + 224 → exec (.claimWindowEnd n) s = .next s) ∧
  (∀ (n a : Nat) (s : State),
    ((s.node n a).claimed = true → missNode n s a = s) ∧
    ((s.node n a).claimed = false → (s.node n a).missed + 1 < u8 (s.cfg.bus n) 11 →
      missNode n s a = s.setNode n a { s.node n a with missed := min 255 ((s.node n a).missed + 1) }) ∧
    ((s.node n a).claimed = false → u8 (s.cfg.bus n) 11 ≤ (s.node n a).missed + 1 → (s.node n a).state = 1 →
      missNode n s a = raise 0x0B02 [n, a, low32 (s.node n a).uid, (s.node n a).missed + 1]
        (unpin (s.node n a).uid (s.setNode n a { s.node n a with missed := min 255 ((s.node n a).missed + 1), state := 2 }))))

/-- TRANSACTION_SEND first ends a waiting transaction whose role is UNHELD, else sends the first that can be sent. CFP_RSP of the transaction its tag and sender name ends it by its status, or begins its segments; CFP_SEGMENT in order appends, and the last one ends it; out of order it fails with a transport error. CFP_TIMEOUT and SEGMENT_TIMEOUT fail the tagged transaction: one that is idempotent with a retry left is sent again with its tag, else it ends with that outcome. A status OK ends it with 0, and another than ROLE_STALE with 1. Without such a transaction nothing but the received frame changes, and a CFP_TIMEOUT with the response already received changes nothing. Completes: TRANSACTION_SEND, CFP_RSP, CFP_SEGMENT, CFP_TIMEOUT, SEGMENT_TIMEOUT. -/
def Obligations.TransactionsRunTheirCourse : Prop :=
  (∀ (n : Nat) (s : State), s.cfg.busOn n = true → sendsOwn s = true → (s.chan n).state ≠ 0 →
    (∀ t, ((s.bus n).transactions.find? fun t => t.purpose == 0 && decide (t.stage ≤ 1) && roleState s t.role == 3) = some t →
      exec (.transactionSend n) s = .next (endTx n t 6 0 [] [] s)) ∧
    (((s.bus n).transactions.find? fun t => t.purpose == 0 && decide (t.stage ≤ 1) && roleState s t.role == 3) = none →
      (s.bus n).transactions.find? (sendable s n) = none → exec (.transactionSend n) s = .next s) ∧
    (∀ t, ((s.bus n).transactions.find? fun t => t.purpose == 0 && decide (t.stage ≤ 1) && roleState s t.role == 3) = none →
      (s.bus n).transactions.find? (sendable s n) = some t →
      exec (.transactionSend n) s = .next (if t.origin = 0 then sendBead n s.phase.now t s else sendTx n t s))) ∧
  (∀ (n a e k : Nat) (b : Bus) (t : Transaction) (s : State), resolve s t = some (a, e) → takeTag (s.bus n) t = some (k, b) → ∃ t1 f,
    t1 = { t with address := a, epoch := e, tag := some k, stage := 2, seq := 1 } ∧ f = firstFrame s n t1 ∧
    sendTx n t s = feedSegments 32 n
      (if t.origin = 0 then offerBead n f.1 (setTx n { t1 with rest := f.2 } (s.setBus n b)) else pushFifo n f.1 (setTx n { t1 with rest := f.2 } (s.setBus n b)))) ∧
  (∀ (n : Nat) (t : Transaction) (due : Instant) (s : State), t.tag.isSome = true → (s.chan n).hold.length < 16 → ∃ s1, s1 = sendTx n t s ∧
    sendBead n due t s = s1.setChan n { s1.chan n with
      hold := (s1.chan n).hold.map fun f => if f.transaction = some t.order then { f with due := due } else f }) ∧
  (∀ (n : Nat) (s : State), s.cfg.busOn n = false ∨ sendsOwn s = false ∨ (s.chan n).state = 0 → exec (.transactionSend n) s = .next s) ∧
  (∀ (n : Nat) (f : RxFrame) (s s1 : State), takeKind n 1 s = some (f, s1) →
    (answeredTx s1 n 3 f.frame = none → exec (.cfpRsp n) s = .next s1) ∧
    (∀ t, answeredTx s1 n 3 f.frame = some t →
      (bit (u8 f.frame.data 0) 7 = false →
        exec (.cfpRsp n) s = .next (finishRsp n t f (u8 f.frame.data 0) (u8 f.frame.data 1) (n16 f.frame.data 2) (f.frame.data.drop 4) s1)) ∧
      (bit (u8 f.frame.data 0) 7 = true → n16 f.frame.data 4 ≤ (f.frame.data.drop 6).length →
        exec (.cfpRsp n) s = .next (finishRsp n t f (u8 f.frame.data 0 % 128) (u8 f.frame.data 1) (n16 f.frame.data 2)
          ((f.frame.data.drop 6).take (n16 f.frame.data 4)) s1)) ∧
      (bit (u8 f.frame.data 0) 7 = true → (f.frame.data.drop 6).length < n16 f.frame.data 4 →
        exec (.cfpRsp n) s = .next (setTx n { t with
          stage := 4, status := u8 f.frame.data 0 % 128, rspEpoch := u8 f.frame.data 1, rspRole := n16 f.frame.data 2, total := n16 f.frame.data 4, result := f.frame.data.drop 6, rseq := 1 } s1)))) ∧
  (∀ n s, takeKind n 1 s = none → exec (.cfpRsp n) s = .next s) ∧ (∀ n s, takeKind n 3 s = none → exec (.cfpSegment n) s = .next s) ∧
  (∀ (n : Nat) (f : RxFrame) (s s1 : State), takeKind n 3 s = some (f, s1) →
    (bit f.frame.ident 8 = false → exec (.cfpSegment n) s = .next s1) ∧
    (answeredTx s1 n 4 f.frame = none → exec (.cfpSegment n) s = .next s1) ∧
    (∀ t, bit f.frame.ident 8 = true → answeredTx s1 n 4 f.frame = some t →
      (u8 f.frame.data 0 ≠ t.rseq → exec (.cfpSegment n) s = .next (feedLayer n (failTx n t 3 0 s1))) ∧
      (u8 f.frame.data 0 = t.rseq → (t.result ++ f.frame.data.drop 1).length < t.total →
        exec (.cfpSegment n) s = .next (setTx n { t with result := t.result ++ f.frame.data.drop 1, rseq := (t.rseq + 1) % 256 } (countBus n 12 s1))) ∧
      (u8 f.frame.data 0 = t.rseq → t.total ≤ (t.result ++ f.frame.data.drop 1).length →
        exec (.cfpSegment n) s = .next (finishRsp n t f t.status t.rspEpoch t.rspRole ((t.result ++ f.frame.data.drop 1).take t.total) (countBus n 12 s1))))) ∧
  (∀ (n tag : Nat) (t : Transaction) (s : State), taggedTx s n tag 3 = some t →
    ((waitingRsp s n fun x => x.order == t.order) = none → exec (.cfpTimeout n tag) s = .next (failTx n t 2 0 s)) ∧
    ((waitingRsp s n fun x => x.order == t.order).isSome = true → exec (.cfpTimeout n tag) s = .next s)) ∧
  (∀ (n tag : Nat) (s : State), taggedTx s n tag 3 = none → exec (.cfpTimeout n tag) s = .next s) ∧
  (∀ (n tag : Nat) (t : Transaction) (s : State), taggedTx s n tag 4 = some t → exec (.segmentTimeout n tag) s = .next (failTx n t 3 0 s)) ∧
  (∀ (n tag : Nat) (s : State), taggedTx s n tag 4 = none → exec (.segmentTimeout n tag) s = .next s) ∧
  (∀ (n : Nat) (t : Transaction) (outcome status : Nat) (s : State),
    (t.idem = true → outcome = 2 ∨ outcome = 3 → t.retried < u8 (s.cfg.bus n) 8 →
      failTx n t outcome status s = setTx n { t with stage := 1, retried := t.retried + 1, rest := [], result := [], total := 0, rseq := 1 } s) ∧
    (t.idem = false ∨ u8 (s.cfg.bus n) 8 ≤ t.retried → failTx n t outcome status s = manageFailed t (endTx n t outcome status [] [] s))) ∧
  (∀ (n : Nat) (t : Transaction) (f : RxFrame) (status epoch role : Nat) (result : List Byte) (s : State),
    finishRsp n t f 0 epoch role result s = effectOfOk n t f epoch result (endTx n t 0 0 result [] s) ∧
    (status ≠ 0 → status ≠ 4 → finishRsp n t f status epoch role result s = manageFailed t (endTx n t 1 status result [] s)))

/-- VALVE_EVENT_START starts the first-ranked waiting request that may start. An event goes from rise to peak at the peak current (or, with t_peak 0, on), from peak to DROP, DROP to HOLD, HOLD to DECAY, and at the end of DECAY the bank recovers and its channels' off time runs; with a hold time of 0 it goes to DECAY after the peak. The end of an off time or of a recovery clears it. A deferral that expires starts its request where it may start at that very tick, else refuses it. DUTY_INSTANT in its rod requests the open time of the value last applied, counts a time too short, and in other rods changes nothing. The seven faults latch on their thresholds with their event, and at or within the threshold they do not. Without an event on the channel or bank nothing changes. Completes: VALVE_EVENT_START, VALVE_PEAK_REACHED, VALVE_PEAK_END, VALVE_DROP_END, VALVE_HOLD_END, VALVE_DECAY_END, VALVE_OFF_TIME_END, BANK_RECOVERY_END, VALVE_DEFER_EXPIRY, DUTY_INSTANT, VALVE_OPEN, VALVE_SHORT, VALVE_OVERCURRENT, VALVE_DECAY, VALVE_STUCK, VALVE_BANK_OVERCURRENT, VALVE_GROUND_SHORT. -/
def Obligations.ValveRequestsAndEventsRun : Prop :=
  (∀ (b : Nat) (s : State), firstRequest (((List.range 8).filterMap fun k => (s.valveCh (8 * b + k)).waiting).filter (mayStart s)) = none →
    exec (.valveEventStart b) s = .next s) ∧
  (∀ (b : Nat) (r : ValveReq) (s : State), firstRequest (((List.range 8).filterMap fun k => (s.valveCh (8 * b + k)).waiting).filter (mayStart s)) = some r →
    ∃ u t, u = s.setValveCh r.channel { s.valveCh r.channel with waiting := none } ∧
    t = (requestChannels s.cfg r).foldl (fun t c => t.setValveCh c { t.valveCh c with peak := 0, micros := 0, mean := 0, current := 0, lastEnd := u16 (s.cfg.profile r.profile) 24 })
      (countValve r.channel 0 (if r.requested.tu < s.phase.now.tu then countValve r.channel 2 u else u)) ∧
    exec (.valveEventStart b) s = .next (fireDone r (t.setVbank (r.channel / 8) { t.vbank (r.channel / 8) with
      event := some { req := r, channels := requestChannels s.cfg r, profile := s.cfg.profile r.profile, phase := 3, start := t.phase.now, phaseStart := t.phase.now } }))) ∧
  (∀ (n a b : Nat) (s : State), eventOn s n = none →
    exec (.valvePeakReached n a b) s = .next s ∧ exec (.valvePeakEnd n) s = .next s ∧ exec (.valveDropEnd n) s = .next s ∧
    exec (.valveHoldEnd n a) s = .next s ∧ exec (.valveDecayEnd n) s = .next s ∧ exec (.valveOpen n a) s = .next s ∧
    exec (.valveShort n a) s = .next s ∧ exec (.valveOvercurrent n a) s = .next s) ∧
  (∀ (n : Nat) (e : ValveEvent) (s : State), eventOn s n = some e →
    (∀ us ma, e.phase = 3 → ∃ t, t = s.setValveCh n { s.valveCh n with peak := ma, micros := us, current := ma } ∧
      exec (.valvePeakReached n us ma) s = .next (toPhase n (if u32 e.profile 4 ≠ 0 then 4 else if e.req.hold = 0 then 7 else 6) e t)) ∧
    (e.phase = 3 ∨ e.phase = 4 → u32 e.profile 4 ≠ 0 →
      exec (.valvePeakEnd n) s = .next (toPhase n (if e.req.hold = 0 then 7 else 5) e s)) ∧
    ((e.phase ≠ 3 ∧ e.phase ≠ 4) ∨ u32 e.profile 4 = 0 → exec (.valvePeakEnd n) s = .next s) ∧
    (∀ us, e.phase ≠ 3 → exec (.valveShort n us) s = .next s) ∧
    (e.phase = 5 → exec (.valveDropEnd n) s = .next (toPhase n 6 e (s.setValveCh n { s.valveCh n with current := u16 e.profile 2 }))) ∧
    (∀ ma, e.phase = 6 → exec (.valveHoldEnd n ma) s = .next (toPhase n 7 e (s.setValveCh n { s.valveCh n with mean := ma, current := ma }))) ∧
    (∀ us ma, e.phase ≠ 3 → exec (.valvePeakReached n us ma) s = .next s) ∧ (e.phase ≠ 5 → exec (.valveDropEnd n) s = .next s) ∧
    (∀ ma, e.phase ≠ 6 → exec (.valveHoldEnd n ma) s = .next s) ∧ (e.phase ≠ 7 → exec (.valveDecayEnd n) s = .next s) ∧
    (∀ ma, exec (.valveOpen n ma) s = .next (if ma < u16 e.profile 16 then raise 0x0C02 [n, e.req.profile, ma, driverCode e.req] (latchChannel n 1 s) else s)) ∧
    (∀ us, e.phase = 3 → exec (.valveShort n us) s =
      .next (if us < u16 e.profile 20 then raise 0x0C03 [n, e.req.profile, us, driverCode e.req] (latchChannel n 2 s) else s)) ∧
    (∀ ma, exec (.valveOvercurrent n ma) s =
      .next (if u16 e.profile 22 < ma then raise 0x0C04 [n, e.phase, ma, driverCode e.req] (latchChannel n 3 s) else s))) ∧
  (∀ (n : Nat) (e : ValveEvent) (s : State), eventOn s n = some e → e.phase = 7 → (s.vbank (n / 8)).event = some e → ∃ t,
    t = e.channels.foldl (fun s c => s.setValveCh c { s.valveCh c with offTime := true, current := 0, endCycle := s.cycle }) s ∧
    exec (.valveDecayEnd n) s = .next (t.setVbank (n / 8) { t.vbank (n / 8) with event := none, recovery := true })) ∧
  (∀ (n : Nat) (s : State), exec (.valveOffTimeEnd n) s = .next (s.setValveCh n { s.valveCh n with offTime := false }) ∧
    exec (.bankRecoveryEnd n) s = .next (s.setVbank n { s.vbank n with recovery := false })) ∧
  (∀ (n : Nat) (s : State), (s.valveCh n).waiting = none → exec (.valveDeferExpiry n) s = .next s) ∧
  (∀ (n : Nat) (r : ValveReq) (s : State), (s.valveCh n).waiting = some r → s.cycle < (r.requested.add r.defer).cycle →
    exec (.valveDeferExpiry n) s = .next s) ∧
  (∀ (n : Nat) (r : ValveReq) (s s0 : State), (s.valveCh n).waiting = some r → (r.requested.add r.defer).cycle ≤ s.cycle →
    s0 = (if (r.requested.add r.defer).cycle = s.cycle then s.atAngle (max s.angle (r.requested.add r.defer).angle) else s) → ∃ ready t,
    ready = firstRequest (((List.range 8).filterMap fun k => (s0.valveCh (n / 8 * 8 + k)).waiting).filter (mayStart s0)) ∧
    t = s0.setValveCh n { s0.valveCh n with waiting := none } ∧
    (s0.phase.now = r.requested.add r.defer → ready = some r → exec (.valveDeferExpiry n) s = .next (startEvent r s0)) ∧
    (s0.phase.now ≠ r.requested.add r.defer ∨ ready ≠ some r →
      ((s.vbank (n / 8)).event = none → exec (.valveDeferExpiry n) s = .next (refuseValve r 2 none t)) ∧
      (∀ e, (s.vbank (n / 8)).event = some e → exec (.valveDeferExpiry n) s =
        .next (refuseValve r (if ((requestChannels s.cfg r).any fun c => (eventOn s c).isSome) then 2 else 1) (some e.req) t)))) ∧
  (∀ (n : Nat) (s : State), bit (u8 (s.cfg.valve n) 0) 2 = false ∨ s.phase.started = false ∨ s.cycle % 2 ^ u8 (s.cfg.valve n) 6 ≠ u16 (s.cfg.valve n) 10 →
    exec (.dutyInstant n) s = .next s) ∧
  (∀ (n : Nat) (s t : State), bit (u8 (s.cfg.valve n) 0) 2 = true → s.phase.started = true → s.cycle % 2 ^ u8 (s.cfg.valve n) 6 = u16 (s.cfg.valve n) 10 →
    t = s.atAngle (max s.angle (u16 (s.cfg.valve n) 8)) →
    valveRoute t.cfg n = none ∨ (∃ l o, valveRoute t.cfg n = some (l, o) ∧
      (isZeroFp ((fget none (t.loop l).applied o).getD zeroWord) = true ∨ t.dtFreq = 0)) → exec (.dutyInstant n) s = .next t) ∧
  (∀ (n l o : Nat) (d : Word) (s t : State), bit (u8 (s.cfg.valve n) 0) 2 = true → s.phase.started = true →
    s.cycle % 2 ^ u8 (s.cfg.valve n) 6 = u16 (s.cfg.valve n) 10 → t = s.atAngle (max s.angle (u16 (s.cfg.valve n) 8)) →
    valveRoute t.cfg n = some (l, o) → fget none (t.loop l).applied o = some d → isZeroFp d = false → t.dtFreq ≠ 0 → ∃ p time,
    p = t.cfg.profile (u8 (s.cfg.valve n) 1) ∧ time = (exact d).times ((2 ^ u8 (s.cfg.valve n) 6 * 10 ^ 12 : Nat) : Int) t.dtFreq ∧
    (time.lt (Exact.ofInt (u32 p 4 + u16 p 18 : Nat)) = true → exec (.dutyInstant n) s = .next (countValve n 4 t)) ∧
    (time.lt (Exact.ofInt (u32 p 4 + u16 p 18 : Nat)) = false → exec (.dutyInstant n) s = .next (requestValve
      { channel := n, profile := u8 (s.cfg.valve n) 1, requested := t.phase.now, hold := min (u32 p 8) ((time.sub (Exact.ofInt (u32 p 4 : Nat))).rounded 0).toNat, layer := 2, number := l, defer := u16 p 14 } t))) ∧
  (∀ (b : Nat) (s : State), (s.vbank b).event = none →
    (∀ ma, exec (.valveDecay b ma) s = .next s ∧ exec (.valveBankOvercurrent b ma) s = .next s ∧ exec (.valveGroundShort b ma) s = .next s)) ∧
  (∀ (b ma : Nat) (e : ValveEvent) (s : State), (s.vbank b).event = some e →
    exec (.valveDecay b ma) s = .next (if e.phase = 7 ∧ u16 e.profile 24 ≤ ma then raise 0x0C05 [b, e.req.channel, ma] (latchBank b 4 e.req.channel s) else s) ∧
    (∃ t, t = s.setVbank b { s.vbank b with current := ma } ∧ exec (.valveBankOvercurrent b ma) s =
      .next (if u16 (s.cfg.valveBank b) 6 < ma then raise 0x0C07 [b, ma, e.req.channel] (latchBank b 6 e.req.channel t) else t)) ∧
    exec (.valveGroundShort b ma) s =
      .next (if u16 (s.cfg.valveBank b) 8 < ma then raise 0x0C08 [b, ma, e.req.channel] (latchBank b 7 e.req.channel s) else s)) ∧
  (∀ (n ma : Nat) (s : State), (s.vbank (n / 8)).event = none → u8 (s.cfg.valveBank (n / 8)) 0 = 1 → (s.vbank (n / 8)).fault = 0 →
    exec (.valveStuck n ma) s = .next (if (s.valveCh n).lastEnd < ma then raise 0x0C06 [n / 8, n, ma] (latchBank (n / 8) 5 n s) else s)) ∧
  (∀ (n ma : Nat) (s : State), (s.vbank (n / 8)).event.isSome = true ∨ u8 (s.cfg.valveBank (n / 8)) 0 ≠ 1 ∨ (s.vbank (n / 8)).fault ≠ 0 →
    exec (.valveStuck n ma) s = .next s)

/-- STATUS, PROFILE and STATS answer from a channel 0 to 39 or a profile 0 to 15 and change nothing. FIRE of an enabled channel that takes host requests and is not faulted is deferred and makes a request of layer 3 with the profile's hold time, or the one given, that waits or starts by the rules. CLEAR of a channel or of a bank clears its fault and answers the state then. STATS_CLEAR empties the counters of one channel, or of all 40 for 0xFF. FIRE of a channel that is not for the host answers 5, of one disabled 8. Completes: VALVE.STATUS, VALVE.FIRE, VALVE.CLEAR, VALVE.PROFILE, VALVE.STATS, VALVE.STATS_CLEAR. -/
def Obligations.ValveVerbsComplete : Prop :=
  Reads .valveStatus 0x0C01 1 (· == 4) (fun c _ => u8 c.pay 0 ≤ 39 ∧ allZero (c.pay.drop 1) = true) (fun c s => valveStatusBytes s (u8 c.pay 0)) ∧
  (∀ m s c r, asked s m 0x0C02 2 (· == 8) c = true → u8 c.pay 0 ≤ 39 → u8 c.pay 1 ≤ 15 → u8 c.pay 2 < 4 → u8 c.pay 3 = 0 →
    (bit (u8 c.pay 2) 1 = true → (pairIn (s.cfg.valveBank (u8 c.pay 0 / 8)) (u8 c.pay 0)).isSome = true) →
    u32 c.pay 4 = 0 ∨ emptyProfile (s.cfg.profile (u8 c.pay 1)) = false → bit (u8 (s.cfg.valve (u8 c.pay 0)) 0) 1 = true →
    r = { channel := u8 c.pay 0, profile := u8 c.pay 1, abort := bit (u8 c.pay 2) 0, pair := bit (u8 c.pay 2) 1, requested := s.phase.now, hold := if u32 c.pay 4 = 0 then u32 (s.cfg.profile (u8 c.pay 1)) 8 else u32 c.pay 4, layer := 3, number := c.req.hdr.tag, defer := u16 (s.cfg.profile (u8 c.pay 1)) 14, job := s.mail.jobs : ValveReq } →
    (valveEnabled s (u8 c.pay 0) = true → requestFaulted s r = false → s.mail.deferred.length < 16 →
      exec (.valveFire m) s = .next (answer m { status := 1, job := some s.mail.jobs } (requestValve r { s with
        mail := { s.mail with jobs := s.mail.jobs + 1, deferred := s.mail.deferred ++
          [{ job := s.mail.jobs, code := c.req.hdr.code, tag := c.req.hdr.tag, session := c.session, who := c.req.who, mailbox := c.mbx, port := c.req.port, vid := c.req.vid, owner := c.owner, object := u8 c.pay 0 }] } }))) ∧
    (valveEnabled s (u8 c.pay 0) = false → exec (.valveFire m) s = .next (answer m (bad 8) s))) ∧
  TurnsAway .valveFire 0x0C02 2 (· == 8) (fun c s => u8 c.pay 0 ≤ 39 ∧ u8 c.pay 1 ≤ 15 ∧ u8 c.pay 2 < 2 ∧ u8 c.pay 3 = 0 ∧ u32 c.pay 4 = 0 ∧
    bit (u8 (s.cfg.valve (u8 c.pay 0)) 0) 1 = false) 5 ∧
  Completes .valveClear 0x0C03 2 (· == 4) (fun c _ => u8 c.pay 0 ≤ 39 ∧ allZero (c.pay.drop 1) = true)
    (fun c s => s.setValveCh (u8 c.pay 0) { s.valveCh (u8 c.pay 0) with fault := 0 })
    (fun c s => le 1 (valveState (s.setValveCh (u8 c.pay 0) { s.valveCh (u8 c.pay 0) with fault := 0 }) (u8 c.pay 0)) ++ zeros 3) ∧
  Completes .valveClear 0x0C03 2 (· == 4) (fun c _ => 0x80 ≤ u8 c.pay 0 ∧ u8 c.pay 0 ≤ 0x84 ∧ allZero (c.pay.drop 1) = true)
    (fun c s => s.setVbank (u8 c.pay 0 - 0x80) { s.vbank (u8 c.pay 0 - 0x80) with fault := 0 })
    (fun c s => le 1 (bankState (s.setVbank (u8 c.pay 0 - 0x80) { s.vbank (u8 c.pay 0 - 0x80) with fault := 0 }) (u8 c.pay 0 - 0x80)) ++ zeros 3) ∧
  Reads .valveProfile 0x0C04 1 (· == 4) (fun c _ => u8 c.pay 0 ≤ 15 ∧ allZero (c.pay.drop 1) = true) (fun c s => s.cfg.profile (u8 c.pay 0)) ∧
  Reads .valveStats 0x0C05 1 (· == 4) (fun c _ => u8 c.pay 0 ≤ 39 ∧ allZero (c.pay.drop 1) = true) (fun c s => countBytes (s.valveCh (u8 c.pay 0)).stats 6) ∧
  Completes .valveStatsClear 0x0C06 2 (· == 4) (fun c _ => u8 c.pay 0 ≤ 39 ∧ allZero (c.pay.drop 1) = true)
    (fun c s => s.setValveCh (u8 c.pay 0) { s.valveCh (u8 c.pay 0) with stats := [] }) (fun _ _ => []) ∧
  Completes .valveStatsClear 0x0C06 2 (· == 4) (fun c _ => u8 c.pay 0 = 0xFF ∧ allZero (c.pay.drop 1) = true)
    (fun _ s => (List.range 40).foldl (fun s n => s.setValveCh n { s.valveCh n with stats := [] }) s) (fun _ _ => [])

/-- FAN_SLEW_UPDATE updates the 12 outputs, then the 32 groups. TACH_PULSE of an enabled output with a tach and a period of 10 µs or more is counted and gives the speed; four good ones end a tach loss with FAN.TACH_RESTORED. KICK_ATTEMPT_END of an attempt succeeds without a tach or with two pulses, else it fails, after the fourth into a cool-down with FAN.STALL; RETRY_WAIT_END and COOL_DOWN_END begin an attempt. TACH_LOSS_TIMEOUT above the kick duty raises FAN.TACH_LOST. HOST_SILENCE after watchdog_s seconds without a request sets the watchdog, once. FAN_GROUP_UPDATE sends the duty when it moved by 10 or is due, and FAN_STATE half a period apart. STATUS, ZONES and STATS answer and change nothing; SET notes a host duty, RETRY begins an attempt, STATS_CLEAR empties counters and run time. Completes: FAN_SLEW_UPDATE, TACH_PULSE, KICK_ATTEMPT_END, RETRY_WAIT_END, COOL_DOWN_END, TACH_LOSS_TIMEOUT, HOST_SILENCE, FAN_GROUP_UPDATE, FAN.STATUS, FAN.SET, FAN.ZONES, FAN.RETRY, FAN.STATS, FAN.STATS_CLEAR. -/
def Obligations.FansKickStallAndAnswer : Prop :=
  (∀ s : State, s.phase.applied = true → exec .fanSlewUpdate s = .next ((List.range 32).foldl updateGroup ((List.range 12).foldl updateOutput s))) ∧
  (∀ s : State, s.phase.applied = false → exec .fanSlewUpdate s = .next s) ∧
  (∀ (s : State) (i l t : Nat), fanEnabled (s.cfg.fan i) = true → outputGoverning s i = (l, t) → l ≠ 1 → ∃ s1,
    s1 = s.setFanOut i { s.fanOut i with layer := l, target := t } ∧
    (t ≠ 0 → (s.fanOut i).target = 0 → updateOutput s i = countFan i 0 (beginAttempt i 1 s1)) ∧
    (t = 0 → (s.fanOut i).state ≠ 5 → (s.fanOut i).state ≠ 1 → updateOutput s i = fanOff i s1) ∧
    (t ≠ 0 → (s.fanOut i).target ≠ 0 → (s.fanOut i).state = 5 → updateOutput s i = s1.setFanOut i { s1.fanOut i with
      duty := if l = 2 then 1000 * t else slewDuty (s.cfg.curve i) (s.fanOut i).duty t
      runMs := (s.fanOut i).runMs + 1 })) ∧
  (∀ (i us : Nat) (s : State), fanEnabled (s.cfg.fan i) = true → bit (u8 (s.cfg.fan i) 0) 3 = true → 10 ≤ us → (s.fanOut i).tachLost = false → ∃ ps,
    ps = (us :: (s.fanOut i).periods).take (u8 (s.cfg.fan i) 1) ∧
    exec (.tachPulse i us) s = .next (s.setFanOut i { s.fanOut i with
      periods := ps, pulses := (s.fanOut i).pulses + 1, good := 0, tachLost := false
      speed := if ps.length = u8 (s.cfg.fan i) 1 then divNear 60000000 ps.sum else (s.fanOut i).speed
      speedValid := decide (ps.length = u8 (s.cfg.fan i) 1) && (s.fanOut i).state == 5 })) ∧
  (∀ (i us : Nat) (s : State), fanEnabled (s.cfg.fan i) = true → bit (u8 (s.cfg.fan i) 0) 3 = true → 10 ≤ us → (s.fanOut i).tachLost = true → ∃ ps good lost t,
    ps = (us :: (s.fanOut i).periods).take (u8 (s.cfg.fan i) 1) ∧ good = (if us ≤ tachWindow (s.cfg.fan i) then (s.fanOut i).good + 1 else 0) ∧ lost = decide (good < 4) ∧
    t = s.setFanOut i { s.fanOut i with
      periods := ps, pulses := (s.fanOut i).pulses + 1, good := good, tachLost := lost
      speed := if ps.length = u8 (s.cfg.fan i) 1 then divNear 60000000 ps.sum else (s.fanOut i).speed
      speedValid := decide (ps.length = u8 (s.cfg.fan i) 1) && !lost && (s.fanOut i).state == 5 } ∧
    exec (.tachPulse i us) s = .next (if lost then t else raise 0x0D04 [i, s.msSince (s.fanOut i).lostTicks / 1000] t)) ∧
  (∀ (i us : Nat) (s : State), fanEnabled (s.cfg.fan i) = false ∨ bit (u8 (s.cfg.fan i) 0) 3 = false ∨ us < 10 → exec (.tachPulse i us) s = .next s) ∧
  (∀ (i : Nat) (s : State), (s.fanOut i).state = 2 → bit (u8 (s.cfg.fan i) 0) 3 = false ∨ 2 ≤ (s.fanOut i).pulses → ∃ t,
    t = s.setFanOut i { s.fanOut i with state := 5, duty := 1000 * (s.fanOut i).target, attempts := 0, episode := 0, stalled := false, coolDowns := 0 } ∧
    exec (.kickAttemptEnd i) s = .next (if (s.fanOut i).stalled then raise 0x0D02 [i, (s.fanOut i).coolDowns, s.msSince (s.fanOut i).stalledTicks / 1000] t else t)) ∧
  (∀ (i : Nat) (s t : State), (s.fanOut i).state = 2 → bit (u8 (s.cfg.fan i) 0) 3 = true → (s.fanOut i).pulses < 2 → t = countFan i 1 s →
    ((t.fanOut i).attempts < 4 → exec (.kickAttemptEnd i) s = .next (t.setFanOut i { t.fanOut i with state := 3, duty := 0 })) ∧
    (4 ≤ (t.fanOut i).attempts → (t.fanOut i).stalled = false → exec (.kickAttemptEnd i) s =
      .next (raise 0x0D01 [i, (t.fanOut i).target, (t.fanOut i).episode, low32 s.cycle] (countFan i 2 (t.setFanOut i { t.fanOut i with
        state := 4, duty := 0, coolDowns := (t.fanOut i).coolDowns + 1, stalled := true, stalledTicks := t.clock.ticksRun })))) ∧
    (4 ≤ (t.fanOut i).attempts → (t.fanOut i).stalled = true → exec (.kickAttemptEnd i) s =
      .next (t.setFanOut i { t.fanOut i with state := 4, duty := 0, coolDowns := (t.fanOut i).coolDowns + 1 }))) ∧
  (∀ (i : Nat) (s : State), (s.fanOut i).state ≠ 2 → exec (.kickAttemptEnd i) s = .next s) ∧
  (∀ (i : Nat) (s : State), (s.fanOut i).state = 3 → exec (.retryWaitEnd i) s = .next (beginAttempt i ((s.fanOut i).attempts + 1) s)) ∧
  (∀ (i : Nat) (s : State), (s.fanOut i).state ≠ 3 → exec (.retryWaitEnd i) s = .next s) ∧
  (∀ (i : Nat) (s : State), (s.fanOut i).state = 4 → exec (.coolDownEnd i) s = .next (beginAttempt i 1 s)) ∧
  (∀ (i : Nat) (s : State), (s.fanOut i).state ≠ 4 → exec (.coolDownEnd i) s = .next s) ∧
  (∀ (i : Nat) (s : State), (s.fanOut i).state = 5 → bit (u8 (s.cfg.fan i) 0) 3 = true → 1000 * u16 (s.cfg.fan i) 4 < (s.fanOut i).duty →
    (s.fanOut i).tachLost = false → exec (.tachLossTimeout i) s = .next (raise 0x0D03 [i, (s.fanOut i).duty / 1000, (s.fanOut i).speed]
      (countFan i 3 (s.setFanOut i { s.fanOut i with tachLost := true, good := 0, lostTicks := s.clock.ticksRun, speedValid := false })))) ∧
  (∀ (i : Nat) (s : State), (s.fanOut i).state ≠ 5 ∨ bit (u8 (s.cfg.fan i) 0) 3 = false ∨ (s.fanOut i).duty ≤ 1000 * u16 (s.cfg.fan i) 4 ∨ (s.fanOut i).tachLost = true → exec (.tachLossTimeout i) s = .next s) ∧
  (∀ s : State, s.cfg.watchdogSeconds ≠ 0 → s.fan.silent = false → s.phase.applied = true → 1000 * s.cfg.watchdogSeconds ≤ s.msSince s.fan.lastRequest →
    exec .hostSilence s = .next (raise 0x0D05 [1, s.msSince s.fan.lastRequest / 1000, watchdogUnits s.cfg]
      (countWatchdogs { s with fan := { s.fan with silent := true } }))) ∧
  (∀ s : State, s.cfg.watchdogSeconds = 0 ∨ s.fan.silent = true ∨ s.phase.applied = false ∨ s.msSince s.fan.lastRequest < 1000 * s.cfg.watchdogSeconds →
    exec .hostSilence s = .next s) ∧
  (∀ (g n r period : Nat) (s s1 : State), groupEnabled (s.cfg.fanGroup g) = true → n = u8 (s.cfg.fanGroup g) 0 → r = u16 (s.cfg.fanGroup g) 2 →
    period = 2 ^ u8 (s.cfg.fanGroup g) 4 → s.cfg.busOn n = true → sendsOwn s = true →
    (s.fanGroup g).sentRod ≠ some s.cycle → s1 = s.setFanGroup g { s.fanGroup g with sentRod := some s.cycle, resend := false } → ∃ s2,
    ((s.fanGroup g).resend = true ∨ (s.fanGroup g).sent = none ∨ (∃ k, (s.fanGroup g).sent = some k ∧ 10 ≤ (((s.fanGroup g).duty / 1000 : Nat) - (k : Int)).natAbs) ∨
        s.cycle % period = 0 → s2 = submitTx n (layerTx s1 n r 0x21 (be 2 ((s.fanGroup g).duty / 1000) ++ le 1 (u8 (s.cfg.fanGroup g) 5)))
      (s1.setFanGroup g { s1.fanGroup g with sent := some ((s.fanGroup g).duty / 1000) })) ∧
    (∀ k, (s.fanGroup g).resend = false → (s.fanGroup g).sent = some k → (((s.fanGroup g).duty / 1000 : Nat) - (k : Int)).natAbs < 10 → s.cycle % period ≠ 0 → s2 = s1) ∧
    exec (.fanGroupUpdate g) s = .next (if s.cycle % period = period / 2 ∧ txOutstanding s2 n r 0x22 = false then submitTx n (layerTx s2 n r 0x22 []) s2 else s2)) ∧
  (∀ (g : Nat) (s : State), groupEnabled (s.cfg.fanGroup g) = false ∨ s.cfg.busOn (u8 (s.cfg.fanGroup g) 0) = false ∨ sendsOwn s = false ∨ (s.fanGroup g).sentRod = some s.cycle → exec (.fanGroupUpdate g) s = .next s) ∧
  Reads .fanStatus 0x0D01 1 (· == 4) (fun c _ => fanUnit (u8 c.pay 0) = true ∧ allZero (c.pay.drop 1) = true) (fun c s => fanStatusBytes s (u8 c.pay 0)) ∧
  Completes .fanSet 0x0D02 2 (· == 4) (fun c s => u8 c.pay 0 ≤ 11 ∧ u8 c.pay 1 = 0 ∧ u16 c.pay 2 ≤ 1000 ∧ unitEnabled s (u8 c.pay 0) = true)
    (fun c s => s.setFanOut (u8 c.pay 0) { s.fanOut (u8 c.pay 0) with host := some (u16 c.pay 2) })
    (fun c s => le 1 (outputGoverning (s.setFanOut (u8 c.pay 0) { s.fanOut (u8 c.pay 0) with host := some (u16 c.pay 2) }) (u8 c.pay 0)).1 ++ zeros 3) ∧
  Completes .fanSet 0x0D02 2 (· == 4) (fun c s => 32 ≤ u8 c.pay 0 ∧ u8 c.pay 0 ≤ 63 ∧ u8 c.pay 1 = 0 ∧ u16 c.pay 2 = 0xFFFF ∧ unitEnabled s (u8 c.pay 0) = true)
    (fun c s => s.setFanGroup (u8 c.pay 0 - 32) { s.fanGroup (u8 c.pay 0 - 32) with host := none })
    (fun c s => le 1 (groupGoverning (s.setFanGroup (u8 c.pay 0 - 32) { s.fanGroup (u8 c.pay 0 - 32) with host := none }) (u8 c.pay 0 - 32)).1 ++ zeros 3) ∧
  Reads .fanZones 0x0D03 1 (· == 0) (fun _ _ => True)
    (fun _ s => (List.range 32).flatMap fun z => le 2 (((fget none s.fan.zones z).map demandUnits).getD 0xFFFF)) ∧
  Completes .fanRetry 0x0D04 2 (· == 4) (fun c s => u8 c.pay 0 ≤ 11 ∧ allZero (c.pay.drop 1) = true ∧ ((s.fanOut (u8 c.pay 0)).state = 3 ∨ (s.fanOut (u8 c.pay 0)).state = 4))
    (fun c s => beginAttempt (u8 c.pay 0) 1 s) (fun _ _ => []) ∧
  Reads .fanStats 0x0D05 1 (· == 4) (fun c _ => u8 c.pay 0 ≤ 11 ∧ allZero (c.pay.drop 1) = true)
    (fun c s => countBytes (s.fanOut (u8 c.pay 0)).stats 5 ++ le 4 (count32 ((s.fanOut (u8 c.pay 0)).runMs / 1000))) ∧
  Reads .fanStats 0x0D05 1 (· == 4) (fun c _ => 32 ≤ u8 c.pay 0 ∧ u8 c.pay 0 ≤ 63 ∧ allZero (c.pay.drop 1) = true)
    (fun c s => countBytes (s.fanGroup (u8 c.pay 0 - 32)).stats 5 ++ le 4 (count32 ((s.fanGroup (u8 c.pay 0 - 32)).runMs / 1000))) ∧
  Completes .fanStatsClear 0x0D06 2 (· == 4) (fun c _ => u8 c.pay 0 ≤ 11 ∧ allZero (c.pay.drop 1) = true)
    (fun c s => s.setFanOut (u8 c.pay 0) { s.fanOut (u8 c.pay 0) with stats := [], runMs := 0 }) (fun _ _ => []) ∧
  Completes .fanStatsClear 0x0D06 2 (· == 4) (fun c _ => u8 c.pay 0 = 0xFF ∧ allZero (c.pay.drop 1) = true)
    (fun _ s => ((List.range 64).filter fanUnit).foldl clearFanUnit s) (fun _ _ => [])

/-- ENCODER_UPDATE notes the lines and, by the transition of the mode, counts one up or down, notes an illegal transition, or does nothing more; a channel in FAULT 1 or 2 holds its count. A count moves the counter by 1 and meets the compares. SPEED_TIMEOUT sets the speed to 0. INDEX_EVENT with its gate met captures and, by the mode, homes. SSI_READ that fails is counted, the third running faults; a good one moves the counter by the signed difference. POSITIONER_EVALUATION starts, waits for its direction, and stops inside the dead band; the two run timeouts fault a running drive, the move timeout not where an update came at this tick. EXTENSION_UPDATE extends the 12 counters. READ, COMPARE, PRESET, SET, CLEAR and STATS answer and have their effect on the channel. Completes: ENCODER_UPDATE, SPEED_TIMEOUT, INDEX_EVENT, SSI_READ, POSITIONER_EVALUATION, MOVE_TIMEOUT, MAX_RUN_TIMEOUT, EXTENSION_UPDATE, VENT.READ, VENT.COMPARE, VENT.PRESET, VENT.SET, VENT.CLEAR, VENT.STATS. -/
def Obligations.VentsCountAndPosition : Prop :=
  (∀ (n k : Nat) (l : BitVec 3) (s : State), ventMode (s.cfg.vent n) ≠ 1 → ventMode (s.cfg.vent n) ≠ 2 → exec (.encoderUpdate n l k) s = .next s) ∧
  (∀ (n k : Nat) (l : BitVec 3) (s s1 : State) (t : Transition),
    (ventMode (s.cfg.vent n) = 1 ∧ t = quadTransition (s.ventCh n).lines l) ∨ (ventMode (s.cfg.vent n) = 2 ∧ t = hallTransition (s.ventCh n).lines l) →
    s1 = s.setVentCh n { s.ventCh n with
      lines := l, samples := (s.ventCh n).samples + k, recent := ((s.ventCh n).recent.map fun a => a + k).filter fun a => decide (a < 1024) } →
    (t = .still ∨ t = .reference → exec (.encoderUpdate n l k) s = .next s1) ∧
    (t = .illegal → ventsAct s = true → exec (.encoderUpdate n l k) s = .next (illegalTransition n s1)) ∧
    (t = .illegal → ventsAct s = false → exec (.encoderUpdate n l k) s = .next s1) ∧
    (∀ u, t = .count u → (s.ventCh n).holds = true → exec (.encoderUpdate n l k) s = .next s1) ∧
    (∀ u, t = .count u → (s.ventCh n).holds = false → exec (.encoderUpdate n l k) s = .next
      (applyUpdate n (if (u != ventInverted (s.cfg.vent n)) then 1 else -1)
        (if ventsAct s then s1.setVentCh n (countSpeed (u != ventInverted (s.cfg.vent n)) (s1.ventCh n)) else s1)))) ∧
  (∀ a b : BitVec 3, quadTransition a b = .count true ↔ quadTransition b a = .count false) ∧
  (∀ a b : BitVec 3, hallTransition a b = .count true ↔ hallTransition b a = .count false) ∧
  (∀ (n : Nat) (d : Int) (s : State), ventsAct s = false →
    applyUpdate n d s = s.setVentCh n { s.ventCh n with counter := posAdd (s.ventCh n).counter d, up := decide (0 < d), lastUpdate := s.phase.now }) ∧
  (∀ (n : Nat) (s : State), ventsAct s = true → ventMode (s.cfg.vent n) = 1 ∨ ventMode (s.cfg.vent n) = 2 → ∃ t,
    t = s.setVentCh n { s.ventCh n with speed := 0, speedDen := 1 } ∧ exec (.speedTimeout n) s = .next (t.setVentCh n { t.ventCh n with
      compares := fmapv {} (fun x : Compare => if x.state = 2 then { x with state := 1 } else x) (t.ventCh n).compares })) ∧
  (∀ (n : Nat) (s : State), ventsAct s = false ∨ (ventMode (s.cfg.vent n) ≠ 1 ∧ ventMode (s.cfg.vent n) ≠ 2) → exec (.speedTimeout n) s = .next s) ∧
  (∀ (n : Nat) (l : BitVec 3) (s : State), ventMode (s.cfg.vent n) ≠ 1 ∨ ventsAct s = false ∨ u8 (s.cfg.vent n) 3 = 0 ∨ l.getLsbD 2 = false ∨
    (bit (u8 (s.cfg.vent n) 1) 4 = true ∧ (l.getLsbD 0 ≠ bit (u8 (s.cfg.vent n) 4) 0 ∨ l.getLsbD 1 ≠ bit (u8 (s.cfg.vent n) 4) 1)) →
    exec (.indexEvent n l) s = .next s) ∧
  (∀ (n : Nat) (l : BitVec 3) (s s1 s2 : State), ventMode (s.cfg.vent n) = 1 → ventsAct s = true → l.getLsbD 2 = true → u8 (s.cfg.vent n) 3 ≠ 0 →
    bit (u8 (s.cfg.vent n) 1) 4 = false ∨ (l.getLsbD 0 = bit (u8 (s.cfg.vent n) 4) 0 ∧ l.getLsbD 1 = bit (u8 (s.cfg.vent n) 4) 1) →
    s1 = s.setVentCh n { s.ventCh n with
      lines := ((s.ventCh n).lines &&& 0x3#3) ||| 0x4#3, indexSeen := true, index := (s.ventCh n).counter } →
    s2 = s.setVentCh n { s.ventCh n with
      lines := ((s.ventCh n).lines &&& 0x3#3) ||| 0x4#3, indexSeen := true, index := (s.ventCh n).counter
      counter := BitVec.ofNat 32 (u32 (s.cfg.vent n) 20), homed := true, homeDone := true } →
    ((s.ventCh n).holds = true ∨ u8 (s.cfg.vent n) 3 = 1 ∨ (u8 (s.cfg.vent n) 3 = 2 ∧ (s.ventCh n).homeDone = true) → exec (.indexEvent n l) s = .next s1) ∧
    ((s.ventCh n).holds = false → (u8 (s.cfg.vent n) 3 = 2 ∧ (s.ventCh n).homeDone = false) ∨
        (u8 (s.cfg.vent n) 3 = 3 ∧ (s.ventCh n).counter ≠ BitVec.ofNat 32 (u32 (s.cfg.vent n) 20)) →
      exec (.indexEvent n l) s = .next (raise 0x0E04 [n, (s.ventCh n).counter.toNat, u32 (s.cfg.vent n) 20] s2)) ∧
    ((s.ventCh n).holds = false → u8 (s.cfg.vent n) 3 = 3 → (s.ventCh n).counter = BitVec.ofNat 32 (u32 (s.cfg.vent n) 20) →
      exec (.indexEvent n l) s = .next s2)) ∧
  (∀ (n bits : Nat) (hi p : Bool) (s : State), ventMode (s.cfg.vent n) ≠ 3 ∨ ventsAct s = false → exec (.ssiRead n hi bits p) s = .next s) ∧
  (∀ (n bits a : Nat) (hi p : Bool) (s t : State), ventMode (s.cfg.vent n) = 3 → ventsAct s = true →
    a = (s.angle + 65536 / 2 ^ u8 (s.cfg.vent n) 6 - 1) / (65536 / 2 ^ u8 (s.cfg.vent n) 6) * (65536 / 2 ^ u8 (s.cfg.vent n) 6) →
    t = (if a < 65536 then s.atAngle a else s) →
    (ssiFails (s.cfg.vent n) hi bits p = false →
      exec (.ssiRead n hi bits p) s = .next (ssiGood n
        (if bit (u8 (s.cfg.vent n) 1) 2 then grayValue (u8 (s.cfg.vent n) 5) (bits % 2 ^ u8 (s.cfg.vent n) 5) else bits % 2 ^ u8 (s.cfg.vent n) 5) t)) ∧
    (ssiFails (s.cfg.vent n) hi bits p = true → (t.ventCh n).ssiFailed < 2 → exec (.ssiRead n hi bits p) s =
      .next (countVent n 1 (t.setVentCh n { t.ventCh n with ssiError := true, ssiFailed := (t.ventCh n).ssiFailed + 1 }))) ∧
    (ssiFails (s.cfg.vent n) hi bits p = true → 2 ≤ (t.ventCh n).ssiFailed → exec (.ssiRead n hi bits p) s =
      .next (enterVentFault n 2 (countVent n 1 (t.setVentCh n { t.ventCh n with ssiError := true, ssiFailed := (t.ventCh n).ssiFailed + 1 }))))) ∧
  (∀ (n : Nat) (s : State), ventMode (s.cfg.vent n) = 0 ∨ hasPositioner (s.cfg.vent n) = false ∨ ventsAct s = false → exec (.positionerEvaluation n) s = .next s) ∧
  (∀ (n : Nat) (s : State), ventMode (s.cfg.vent n) ≠ 0 → hasPositioner (s.cfg.vent n) = true → ventsAct s = true →
    ((ventGoverning (s.ventCh n)).1 = 0 ∨ (s.ventCh n).fault ≠ 0 ∨ feedbackInvalid s n = true ∨ (s.ventCh n).stopHold = true →
      exec (.positionerEvaluation n) s = .next (stopRun n s)) ∧
    ((ventGoverning (s.ventCh n)).1 ≠ 0 → (s.ventCh n).fault = 0 → feedbackInvalid s n = false → (s.ventCh n).stopHold = false →
      ((s.ventCh n).starting = true → exec (.positionerEvaluation n) s = .next (s.setVentCh n { s.ventCh n with run := true, starting := false })) ∧
      ((s.ventCh n).starting = false → (s.ventCh n).run = true →
        (errorAbove s n (if (s.ventCh n).dir then 1 else -1) (u16 (s.cfg.ventLimits n) 6) = true → exec (.positionerEvaluation n) s = .next s) ∧
        (errorAbove s n (if (s.ventCh n).dir then 1 else -1) (u16 (s.cfg.ventLimits n) 6) = false → exec (.positionerEvaluation n) s = .next (stopRun n s))) ∧
      (∀ opens closes, (s.ventCh n).starting = false → (s.ventCh n).run = false → opens = errorAbove s n 1 (u16 (s.cfg.ventLimits n) 4) →
        closes = errorAbove s n (-1) (u16 (s.cfg.ventLimits n) 4) →
        (opens = true ∨ closes = true → (s.ventCh n).dir = opens ∨ u16 (s.cfg.vent n) 26 ≤ s.msSince (s.ventCh n).lowTicks →
          exec (.positionerEvaluation n) s = .next (s.setVentCh n { s.ventCh n with dir := opens, starting := true })) ∧
        ((opens = false ∧ closes = false) ∨ ((s.ventCh n).dir ≠ opens ∧ s.msSince (s.ventCh n).lowTicks < u16 (s.cfg.vent n) 26) →
          exec (.positionerEvaluation n) s = .next s)))) ∧
  (∀ (n : Nat) (s : State), ventsAct s = true → (s.ventCh n).run = true →
    ((s.ventCh n).lastUpdate ≠ s.phase.now → exec (.moveTimeout n) s = .next (enterVentFault n 3 s)) ∧
    ((s.ventCh n).lastUpdate = s.phase.now → exec (.moveTimeout n) s = .next s) ∧ exec (.maxRunTimeout n) s = .next (enterVentFault n 4 s)) ∧
  (∀ (n : Nat) (s : State), ventsAct s = false ∨ (s.ventCh n).run = false → exec (.moveTimeout n) s = .next s ∧ exec (.maxRunTimeout n) s = .next s) ∧
  (∀ s : State, ventsAct s = true → exec .extensionUpdate s = .next ((List.range 12).foldl (fun s n => extendVent n s) s)) ∧
  (∀ s : State, ventsAct s = false → exec .extensionUpdate s = .next s) ∧
  Completes .ventRead 0x0E01 1 (· == 4) (fun c _ => u8 c.pay 0 ≤ 11 ∧ allZero ((c.pay.take 4).drop 1) = true)
    (fun c s => extendVent (u8 c.pay 0) s) (fun c s => ventReadBytes (extendVent (u8 c.pay 0) s) (u8 c.pay 0)) ∧
  Completes .ventCompare 0x0E02 2 (· == 8)
    (fun c s => u8 c.pay 0 ≤ 11 ∧ u8 c.pay 1 ≤ 3 ∧ u8 c.pay 2 < 4 ∧ u8 c.pay 3 = 0 ∧ bit (u8 c.pay 2) 7 = false ∧ ventMode (s.cfg.vent (u8 c.pay 0)) ≠ 0)
    (fun c s => s.setVentCh (u8 c.pay 0) { s.ventCh (u8 c.pay 0) with
      compares := fput {} (s.ventCh (u8 c.pay 0)).compares (u8 c.pay 1) { value := BitVec.ofNat 32 (u32 c.pay 4), action := u8 c.pay 2, state := writtenState (BitVec.ofNat 32 (u32 c.pay 4)) (s.ventCh (u8 c.pay 0)).counter (s.ventCh (u8 c.pay 0)).speed } })
    (fun c s => le 1 (writtenState (BitVec.ofNat 32 (u32 c.pay 4)) (s.ventCh (u8 c.pay 0)).counter (s.ventCh (u8 c.pay 0)).speed) ++ zeros 3
      ++ le 4 (s.ventCh (u8 c.pay 0)).counter.toNat) ∧
  Completes .ventCompare 0x0E02 2 (· == 8)
    (fun c s => u8 c.pay 0 ≤ 11 ∧ u8 c.pay 1 ≤ 3 ∧ u8 c.pay 2 % 128 < 4 ∧ u8 c.pay 3 = 0 ∧ bit (u8 c.pay 2) 7 = true ∧ ventMode (s.cfg.vent (u8 c.pay 0)) ≠ 0)
    (fun c s => s.setVentCh (u8 c.pay 0) { s.ventCh (u8 c.pay 0) with
      compares := fput {} (s.ventCh (u8 c.pay 0)).compares (u8 c.pay 1) { value := BitVec.ofNat 32 (u32 c.pay 4), action := u8 c.pay 2 % 128 } })
    (fun c s => le 1 0 ++ zeros 3 ++ le 4 (s.ventCh (u8 c.pay 0)).counter.toNat) ∧
  Completes .ventPreset 0x0E03 2 (· == 8)
    (fun c s => u8 c.pay 0 ≤ 11 ∧ allZero ((c.pay.take 4).drop 1) = true ∧ ventMode (s.cfg.vent (u8 c.pay 0)) ≠ 0 ∧ ventMode (s.cfg.vent (u8 c.pay 0)) ≠ 3)
    (fun c s => reviewCompares true (u8 c.pay 0) (s.setVentCh (u8 c.pay 0) { s.ventCh (u8 c.pay 0) with
      counter := BitVec.ofNat 32 (u32 c.pay 4), homed := true, extended := s32 c.pay 4, extendedFrom := BitVec.ofNat 32 (u32 c.pay 4) })) (fun _ _ => []) ∧
  Completes .ventSet 0x0E04 2 (· == 4)
    (fun c s => u8 c.pay 0 ≤ 11 ∧ u8 c.pay 1 = 0 ∧ u16 c.pay 2 ≤ 10000 ∧ ventMode (s.cfg.vent (u8 c.pay 0)) ≠ 0 ∧ hasPositioner (s.cfg.vent (u8 c.pay 0)) = true)
    (fun c s => s.setVentCh (u8 c.pay 0) { s.ventCh (u8 c.pay 0) with host := some (u16 c.pay 2), stopHold := false })
    (fun c s => le 1 (if (s.ventCh (u8 c.pay 0)).route.isSome then 4 else 5) ++ zeros 3) ∧
  Completes .ventSet 0x0E04 2 (· == 4)
    (fun c s => u8 c.pay 0 ≤ 11 ∧ u8 c.pay 1 = 0 ∧ u16 c.pay 2 = 0xFFFF ∧ ventMode (s.cfg.vent (u8 c.pay 0)) ≠ 0 ∧ hasPositioner (s.cfg.vent (u8 c.pay 0)) = true)
    (fun c s => s.setVentCh (u8 c.pay 0) { s.ventCh (u8 c.pay 0) with host := none, stopHold := false })
    (fun c s => le 1 (ventGoverning ((s.setVentCh (u8 c.pay 0) { s.ventCh (u8 c.pay 0) with host := none, stopHold := false }).ventCh (u8 c.pay 0))).1 ++ zeros 3) ∧
  Completes .ventClear 0x0E05 2 (· == 4) (fun c _ => u8 c.pay 0 ≤ 11 ∧ u8 c.pay 1 = 0 ∧ u16 c.pay 2 &&& 0x0FA7 = 0)
    (fun c s => clearVent (u8 c.pay 0) (u16 c.pay 2) s)
    (fun c s => le 2 (ventFlags ((clearVent (u8 c.pay 0) (u16 c.pay 2) s).ventCh (u8 c.pay 0))) ++ le 1 (ventState (clearVent (u8 c.pay 0) (u16 c.pay 2) s) (u8 c.pay 0)) ++ zeros 1) ∧
  Reads .ventStats 0x0E06 1 (· == 4) (fun c _ => u8 c.pay 0 ≤ 11 ∧ allZero ((c.pay.take 4).drop 1) = true) (fun c s => ventStatBytes (s.ventCh (u8 c.pay 0)))

/-- CONVERSION_END of an enabled channel records the conversion at its next angle and shows it to the shadowing spares: an invalid one keeps the value and raises SENSE.CHANNEL_INVALID once, a valid one stores it and raises SENSE.CHANNEL_VALID after invalid ones; an RTD waits for its reference channel of the same tick. EXCITATION_COMPLIANCE notes the source, and on reaching its limit makes its channels invalid with cause 4. METER_SAMPLE takes the three pairs at its angle, 256 a rod. DWELL_END of 256 rods judges the modulators and moves on. MODULATOR_REPLACEMENT after its conversions or rods replaces, enters the ledger, and answers SENSE.SPARE. READ, METER, WAVE, MODULATORS and STATS answer and change nothing; SPARE begins a replacement of cause 3; STATS_CLEAR empties the counters. Completes: CONVERSION_END, EXCITATION_COMPLIANCE, METER_SAMPLE, DWELL_END, MODULATOR_REPLACEMENT, SENSE.READ, SENSE.METER, SENSE.WAVE, SENSE.MODULATORS, SENSE.SPARE, SENSE.STATS, SENSE.STATS_CLEAR. -/
def Obligations.SensorsMetersAndModulators : Prop :=
  (∀ (n a : Nat) (code : Int) (sp : List Int) (s : State), converts s = true → n < 24 → u8 (s.cfg.sense n) 0 ≠ 0 →
    a = (s.angle + 2 ^ (16 - u8 (s.cfg.sense n) 2) - 1) / 2 ^ (16 - u8 (s.cfg.sense n) 2) * 2 ^ (16 - u8 (s.cfg.sense n) 2) →
    exec (.conversionEnd n code sp) s = .next (shadowConversion n code sp (recordConversion n code (if a < 65536 then s.atAngle a else s)))) ∧
  (∀ (n : Nat) (code : Int) (sp : List Int) (s : State), converts s = false ∨ 24 ≤ n ∨ u8 (s.cfg.sense n) 0 = 0 → exec (.conversionEnd n code sp) s = .next s) ∧
  (∀ (n : Nat) (code : Int) (s s1 : State), s1 = countSense 0 1 s →
    (awaitsReference s n = true → recordConversion n code s = s1.setSenseCh n { s1.senseCh n with raw := code, ended := s.phase.now, awaits := true }) ∧
    (awaitsReference s n = false → recordConversion n code s = ((List.range 24).filter fun m =>
      u8 (s.cfg.sense m) 1 == 2 && u8 (s.cfg.sense m) 6 == n && (s.senseCh m).awaits && decide ((s.senseCh m).ended = s.phase.now)).foldl
        (fun s m => judgeConversion m (s.senseCh m).raw s) (judgeConversion n code s1))) ∧
  (∀ (n cause : Nat) (code : Int) (s t : State), conversionQuantity s (s.cfg.sense n) code = .invalid cause →
    t = countSense 1 1 (s.setSenseCh n { s.senseCh n with
      raw := code, state := 2, cause := cause, ended := s.phase.now, invalids := (s.senseCh n).invalids + 1, awaits := false }) →
    judgeConversion n code s = if (s.senseCh n).invalids = 0 then raise 0x0F01 [n, cause, (code % (2 ^ 32 : Nat)).toNat] t else t) ∧
  (∀ (n : Nat) (code : Int) (x : Exact) (s t : State), conversionQuantity s (s.cfg.sense n) code = .value x →
    t = s.setSenseCh n { s.senseCh n with
      raw := code, value := scaledWord (s.cfg.sense n) x, state := 1, cause := 0, ended := s.phase.now, invalids := 0, awaits := false } →
    judgeConversion n code s = if (s.senseCh n).invalids ≠ 0 then raise 0x0F02 [n, (s.senseCh n).invalids] t else t) ∧
  (∀ (v : List Byte) (code : Int) (s : State), 8388607 ≤ code.natAbs → conversionQuantity s v code = .invalid 1) ∧
  (∀ (k : Nat) (s : State), s.cfg.excitation k ≠ 0 → k < 4 → s.phase.applied = true → s.inFallow = false →
    exec (.excitationCompliance k true) s = .next (invalidateChannels (fun v => decide (2 ≤ u8 v 1) && u8 v 5 == k) 4
      { s with sense := { s.sense with compliance := s.sense.compliance ||| BitVec.twoPow 4 k } }) ∧
    exec (.excitationCompliance k false) s = .next { s with sense := { s.sense with compliance := s.sense.compliance &&& ~~~(BitVec.twoPow 4 k) } }) ∧
  (∀ (k : Nat) (r : Bool) (s : State), s.cfg.excitation k = 0 ∨ 4 ≤ k ∨ s.phase.applied = false ∨ s.inFallow = true → exec (.excitationCompliance k r) s = .next s) ∧
  (∀ (a b c : MeterPair) (s : State), (s.meterP 0).samples.length < 256 → exec (.meterSample a b c) s =
    .next (takePair 2 c (takePair 1 b (takePair 0 a (s.atAngle (max s.angle (256 * (s.meterP 0).samples.length))))))) ∧
  (∀ (p : Nat) (x : MeterPair) (s : State), s.cfg.ctShift p = 0 → ∃ cv ci t, cv = flag (x.vClip || decide (fullCode ≤ x.v.natAbs)) 0 ∧
    ci = flag (x.iClip || decide (fullCode ≤ x.i.natAbs)) 0 ∧
    t = countSense 2 (cv + ci) (s.setMeterP p { s.meterP p with
      samples := (x.v, x.i) :: (s.meterP p).samples, clipsV := (s.meterP p).clipsV + cv, clipsI := (s.meterP p).clipsI + ci }) ∧
    takePair p x s = shadowConversion (27 + p) x.i x.spares (shadowConversion (24 + p) x.v x.spares t)) ∧
  (∀ (a b c : MeterPair) (s : State), 256 ≤ (s.meterP 0).samples.length → exec (.meterSample a b c) s = .next s) ∧
  (∀ s : State, shadowed s ≠ some s.sense.dwell.position ∨ s.sense.swap.isSome = true ∨ s.sense.dwell.rods < 256 → exec .dwellEnd s = .next s) ∧
  (∀ s : State, freeModulators s = [] → exec .dwellEnd s = .next s) ∧
  (∀ (s : State) (a : Nat), shadowed s = some s.sense.dwell.position → s.sense.swap = none → 256 ≤ s.sense.dwell.rods → freeModulators s = [a] → ∃ t,
    (tooMany s.sense.dwell.differ s.sense.dwell.conversions = false → t = s) ∧
    (tooMany s.sense.dwell.differ s.sense.dwell.conversions = true →
      t = suspectModulator a s.sense.dwell.position 1 (suspectModulator (modulatorAt s s.sense.dwell.position) s.sense.dwell.position 1 s)) ∧
    exec .dwellEnd s = .next (beginDwell (nextPosition t s.sense.dwell.position) false t)) ∧
  (∀ (s : State) (p a b : Nat) (rest : List Nat) (own : Bool), p = s.sense.dwell.position → shadowed s = some p → s.sense.swap = none → 256 ≤ s.sense.dwell.rods →
    freeModulators s = a :: b :: rest → own = (tooMany s.sense.dwell.oddOwn s.sense.dwell.conversions && decide (3 ≤ s.sense.dwell.oddOwn)) → ∃ t1 t,
    t1 = (if own then suspectModulator (modulatorAt s p) p (if s.sense.dwell.again then 2 else 1) s else s) ∧
    t = judgeSpare b s.sense.dwell.oddSecond p (judgeSpare a s.sense.dwell.oddFirst p t1) ∧
    (own = false → exec .dwellEnd s = .next (beginDwell (nextPosition t p) false t)) ∧
    (own = true → s.sense.dwell.again = false → exec .dwellEnd s = .next (beginDwell p true t)) ∧
    (own = true → s.sense.dwell.again = true → exec .dwellEnd s = .next (beginSwap p 1 none
      (if 24 ≤ p then t.setMeterP ((p - 24) % 3) { t.meterP ((p - 24) % 3) with failed := true } else t)))) ∧
  (∀ (w : ModulatorSwap) (s : State), s.sense.swap = some w → w.shadowed < (if w.position < 24 then 3 else 1) → exec .modulatorReplacement s = .next s) ∧
  (∀ s : State, s.sense.swap = none → exec .modulatorReplacement s = .next s) ∧
  (∀ (w : ModulatorSwap) (s : State), s.sense.swap = some w → (if w.position < 24 then 3 else 1) ≤ w.shadowed → ∃ t u,
    t = raise 0x0F06 [w.position, modulatorAt s w.position, w.spare, w.cause] (countSense 5 1 (writeLedger 4 w.cause (modulatorAt s w.position) (some w.spare)
      { s with sense := { s.sense with
        serving := fput none s.sense.serving w.position (some w.spare), retired := s.sense.retired ++ [modulatorAt s w.position], swap := none
        spareCounts := fput 0 s.sense.spareCounts w.spare 0 } })) ∧
    u = beginDwell (nextPosition t w.position) false t ∧
    (w.mailbox = none → exec .modulatorReplacement s = .next u) ∧
    (∀ m, w.mailbox = some m → exec .modulatorReplacement s = .next
      (answerStarted m (ok (le 1 (modulatorAt s w.position) ++ le 1 w.spare ++ zeros 2 ++ cycle64 u.cycle)) u))) ∧
  Reads .senseRead 0x0F01 1 (· == 4) (fun c _ => u8 c.pay 0 ≤ 23 ∧ allZero (c.pay.drop 1) = true)
    (fun c s =>
      let n := u8 c.pay 0
      let x := s.senseCh n
      le 1 (if u8 (s.cfg.sense n) 0 = 0 then 0 else if x.state = 1 then 1 else 2) ++ le 1 x.cause ++ le 1 (modulatorAt s n) ++ zeros 1
        ++ leInt 4 x.raw ++ le 4 x.value.toNat ++ cycle64 x.ended.cycle ++ le 2 x.ended.angle ++ zeros 6) ∧
  Reads .senseMeter 0x0F02 1 (· == 4) (fun c s => u8 c.pay 0 = 0 ∧ allZero (c.pay.drop 1) = true ∧ s.sense.closedAny = true)
    (fun _ s => cycle64 s.sense.closedRod ++ meterSums s) ∧
  Reads .senseMeter 0x0F02 1 (· == 4) (fun c s => 1 ≤ u8 c.pay 0 ∧ u8 c.pay 0 ≤ 3 ∧ allZero (c.pay.drop 1) = true ∧ s.sense.closedAny = true)
    (fun c s =>
      let m := meterPhase s (u8 c.pay 0 - 1)
      cycle64 s.sense.closedRod ++ closedWords m ++ zeroWords 1 ++ le 1 (flag m.invalid 0) ++ le 1 m.cause ++ le 2 (sat 65535 m.clips) ++ zeros 4) ∧
  TurnsAway .senseMeter 0x0F02 1 (· == 4) (fun c s => u8 c.pay 0 ≤ 3 ∧ allZero (c.pay.drop 1) = true ∧ s.sense.closedAny = false) 8 ∧
  Reads .senseWave 0x0F03 1 (· == 4)
    (fun c s => 1 ≤ u8 c.pay 0 ∧ u8 c.pay 0 ≤ 3 ∧ u8 c.pay 1 ≤ 1 ∧ u16 c.pay 2 = 0 ∧ s.sense.closedAny = true)
    (fun c s => cycle64 s.sense.closedRod ++ (List.range 128).flatMap fun k =>
      top16 (((meterPhase s (u8 c.pay 0 - 1)).wave.reverse).getD (128 * u8 c.pay 1 + k) (0, 0)).1
        ++ top16 (((meterPhase s (u8 c.pay 0 - 1)).wave.reverse).getD (128 * u8 c.pay 1 + k) (0, 0)).2) ∧
  Reads .senseModulators 0x0F04 1 (· == 0) (fun _ _ => True) (fun _ s => modulatorMap s) ∧
  (∀ a rest, Starts .senseSpare 0x0F05 3 (· == 4)
    (fun c s => u8 c.pay 0 ≤ 29 ∧ allZero (c.pay.drop 1) = true ∧ positionOn s (u8 c.pay 0) = true ∧ freeModulators s = a :: rest ∧ s.sense.swap = none)
    (fun c s => { s with sense := { s.sense with
      swap := some { position := u8 c.pay 0, cause := 3, spare := a, shadowed := if s.sense.dwell.position = u8 c.pay 0 then (if u8 c.pay 0 < 24 then s.sense.dwell.conversions else s.sense.dwell.rods) else 0, mailbox := some c.mbx } } })) ∧
  Reads .senseStats 0x0F06 1 (· == 0) (fun _ _ => True) (fun _ s => countBytes s.sense.stats 6) ∧
  Completes .senseStatsClear 0x0F07 2 (· == 0) (fun _ _ => True) (fun _ s => { s with sense := { s.sense with stats := [] } }) (fun _ _ => [])

/-- KEY_SCAN without rectangles ends an ambiguity and debounces the 64 keys, with rectangles it freezes their rows and columns. An encoder's accepted count may complete a step, an illegal change is counted. LONG_PRESS of a key down enters the queue once. RESET_COMBINATION of a met combination acts once and raises PANEL.RESET. An entry in a full queue is lost. RAIL_MONITOR measures six rails and the die, READBACK_CHECK compares 40 outputs; neither acts in reset. STATUS, KEYS, STATS, OUTPUTS, CLAIM and SUPPLY answer and change nothing; EVENTS takes entries, DISPLAY in test mode sets digits, STATS_CLEAR empties counters, WRITE stores a host level, BALLS takes a free value per ball (assumption log 10). Completes: KEY_SCAN, ENCODER_TRANSITION, ENCODER_STEP, LONG_PRESS, RESET_COMBINATION, RAIL_MONITOR, READBACK_CHECK, PANEL.STATUS, PANEL.KEYS, PANEL.EVENTS, PANEL.DISPLAY, PANEL.STATS, PANEL.STATS_CLEAR, PIN.OUTPUTS, PIN.WRITE, PIN.CLAIM, PIN.BALLS, PIN.SUPPLY. -/
def Obligations.PanelAndPinsFollowTheirRules : Prop :=
  (∀ (raw : BitVec 64) (s s1 : State), s1 = { s with panel := { s.panel with
      raw := raw, quiet := if raw = 0 then s.panel.quiet + 1 else 0
      scanning := decide (s.hif.mode = .running) && ((s.panel.scanning && decide ((if raw = 0 then s.panel.quiet + 1 else 0) < 16)) || raw != 0) } } →
    (bit (u8 s.cfg.panel 0) 0 = true ∨ (rectangles raw).1 = 0 → (rectangles raw).2 = 0 ∨ bit (u8 s.cfg.panel 0) 0 = true → ∃ t,
      t = (List.range 64).foldl (debounceKey raw) (endAmbiguity s1) ∧
      exec (.keyScan raw) s = .next { t with panel := { t.panel with settled := t.panel.debounced } }) ∧
    (bit (u8 s.cfg.panel 0) 0 = false → (rectangles raw).1 ≠ 0 → exec (.keyScan raw) s =
      .next (((List.range 64).filter fun k => !(frozenKeys (rectangles raw).1 (rectangles raw).2).getLsbD k).foldl (debounceKey raw)
        (ambiguousScan (rectangles raw).1 (rectangles raw).2 s1)))) ∧
  (∀ (k n : Nat) (raw : BitVec 64) (s : State), fget 0 s.panel.counts k = n →
    (raw.getLsbD k = s.panel.debounced.getLsbD k → debounceKey raw s k = { s with panel := { s.panel with counts := fput 0 s.panel.counts k 0 } }) ∧
    (raw.getLsbD k ≠ s.panel.debounced.getLsbD k → n + 1 < u8 s.cfg.panel 1 →
      debounceKey raw s k = { s with panel := { s.panel with counts := fput 0 s.panel.counts k (n + 1) } }) ∧
    (raw.getLsbD k ≠ s.panel.debounced.getLsbD k → u8 s.cfg.panel 1 ≤ n + 1 →
      debounceKey raw s k = keyEdge k (raw.getLsbD k) { s with panel := { s.panel with counts := fput 0 s.panel.counts k 0 } })) ∧
  (∀ (kind i n : Nat) (s : State), kind ≠ 4 → kind ≠ 5 →
    (s.panel.queue.length < 64 → pushKey kind i n s = { s with panel := { s.panel with
      queue := s.panel.queue ++ [{ kind := kind, index := i, count := n, cycle := low32 s.cycle, angle := s.angle }] } }) ∧
    (64 ≤ s.panel.queue.length → s.panel.episode = true → pushKey kind i n s = { s with panel := { s.panel with
      overflow := true, lost := s.panel.lost + 1, episode := true, stats := bump s.panel.stats 2 1 } }) ∧
    (64 ≤ s.panel.queue.length → s.panel.episode = false → pushKey kind i n s = raise 0x1003 [s.panel.lost + 1, low32 s.cycle] { s with panel := { s.panel with
      overflow := true, lost := s.panel.lost + 1, episode := true, stats := bump s.panel.stats 2 1 } })) ∧
  (∀ (e : Nat) (l : BitVec 2) (s : State), exec (.encoderStep e l) s = exec (.encoderTransition e l) s ∧
    (4 ≤ e ∨ u8 s.cfg.panel (4 + e) = 0 → exec (.encoderTransition e l) s = .next s) ∧
    (e < 4 → u8 s.cfg.panel (4 + e) ≠ 0 →
      ((encoderPlace l + 4 - encoderPlace (encoderOf s e).lines) % 4 = 0 → exec (.encoderTransition e l) s = .next s) ∧
      ((encoderPlace l + 4 - encoderPlace (encoderOf s e).lines) % 4 = 1 → ∃ t, t = stepEncoder e (setEncoder s e { encoderOf s e with lines := l, count := (encoderOf s e).count + 1 }) ∧
        exec (.encoderStep e l) s = .next t ∧ exec (.encoderTransition e l) s = .next t) ∧
      ((encoderPlace l + 4 - encoderPlace (encoderOf s e).lines) % 4 = 3 → ∃ t, t = stepEncoder e (setEncoder s e { encoderOf s e with lines := l, count := (encoderOf s e).count - 1 }) ∧
        exec (.encoderStep e l) s = .next t ∧ exec (.encoderTransition e l) s = .next t) ∧
      ((encoderPlace l + 4 - encoderPlace (encoderOf s e).lines) % 4 = 2 → ∃ t, t = setEncoder s e { encoderOf s e with lines := l } ∧
        exec (.encoderTransition e l) s = .next { t with panel := { t.panel with stats := bump t.panel.stats 3 1 } }))) ∧
  (∀ (k : Nat) (s : State), k < 64 → s.panel.debounced.getLsbD k = true → s.panel.long.getLsbD k = false →
    s.panel.ambiguous = false ∨ (s.panel.frozenRows.getLsbD (k / 8) = false ∧ s.panel.frozenCols.getLsbD (k % 8) = false) →
    exec (.longPress k) s = .next (meetBindings k 3 (pushKey 3 k 0 { s with panel := { s.panel with long := s.panel.long ||| BitVec.twoPow 64 k } }))) ∧
  (∀ (k : Nat) (s : State), 64 ≤ k ∨ s.panel.debounced.getLsbD k = false ∨ s.panel.long.getLsbD k = true ∨
    (s.panel.ambiguous = true ∧ (s.panel.frozenRows.getLsbD (k / 8) = true ∨ s.panel.frozenCols.getLsbD (k % 8) = true)) → exec (.longPress k) s = .next s) ∧
  (∀ (i : Nat) (s t : State), combinationMet s i = true → (combination s i).acted = false → s.hif.mode ≠ .bootRom → s.hif.mode ≠ .fallow →
    t = setCombination s i { combination s i with acted := true } →
    exec (.resetCombination i) s = .next (raise 0x1002 [u8 (s.cfg.reset i) 0, i, u8 (s.cfg.reset i) 2 + 256 * u8 (s.cfg.reset i) 3 + 65536 * u8 (s.cfg.reset i) 4, u8 (s.cfg.reset i) 5]
      (countPanel 4 { t with panel := { t.panel with request := some (max (u8 (s.cfg.reset i) 0) (t.panel.request.getD 0)) } }))) ∧
  (∀ (i : Nat) (s : State), combinationMet s i = false ∨ (combination s i).acted = true ∨ s.hif.mode = .bootRom ∨ s.hif.mode = .fallow →
    exec (.resetCombination i) s = .next s) ∧
  (∀ (mv : List Nat) (t : Int) (s : State), s.pins.inReset = false → exec (.railMonitor mv t) s = .next (measureThermal t (((List.range 6).zip mv).foldl measureRail s))) ∧
  (∀ (l : BitVec 40) (s : State), s.pins.inReset = false → exec (.readbackCheck l) s = .next (endReadback ((List.range 40).foldl (checkOutput l) s))) ∧
  (∀ (mv : List Nat) (t : Int) (l : BitVec 40) (s : State), s.pins.inReset = true → exec (.railMonitor mv t) s = .next s ∧ exec (.readbackCheck l) s = .next s) ∧
  Reads .panelStatus 0x1001 1 (· == 0) (fun _ _ => True)
    (fun _ s => le 2 (panelFlags s) ++ le 1 s.panel.queue.length ++ zeros 1 ++ encoderPositions s.panel) ∧
  Reads .panelKeys 0x1002 1 (· == 0) (fun _ _ => True)
    (fun _ s => le 8 s.panel.debounced.toNat ++ le 8 s.panel.raw.toNat ++ le 1 s.panel.frozenRows.toNat ++ le 1 s.panel.frozenCols.toNat ++ zeros 2) ∧
  Completes .panelEvents 0x1003 2 (· == 4) (fun c _ => 1 ≤ u8 c.pay 0 ∧ u8 c.pay 0 ≤ 64 ∧ u8 c.pay 1 ≤ 1 ∧ u16 c.pay 2 = 0)
    (fun c s => { s with panel := { s.panel with
      queue := s.panel.queue.drop (u8 c.pay 0), overflow := s.panel.overflow && u8 c.pay 1 == 0
      episode := s.panel.episode && decide (64 ≤ (s.panel.queue.drop (u8 c.pay 0)).length)
      lost := if (s.panel.queue.drop (u8 c.pay 0)).length < 64 then 0 else s.panel.lost } })
    (fun c s => le 1 (s.panel.queue.take (u8 c.pay 0)).length ++ le 1 (s.panel.queue.drop (u8 c.pay 0)).length ++ zeros 2
      ++ (s.panel.queue.take (u8 c.pay 0)).flatMap KeyEntry.bytes) ∧
  Completes .panelDisplay 0x1004 2 (· == 8) (fun _ s => s.hif.mode = .test) (fun c s => { s with panel := { s.panel with digits := c.pay } }) (fun _ _ => []) ∧
  TurnsAway .panelDisplay 0x1004 2 (· == 8) (fun _ s => s.hif.mode ≠ .test) 8 ∧
  Reads .panelStats 0x1005 1 (· == 0) (fun _ _ => True) (fun _ s => countBytes s.panel.stats 5) ∧
  Completes .panelStatsClear 0x1006 2 (· == 0) (fun _ _ => True) (fun _ s => { s with panel := { s.panel with stats := [] } }) (fun _ _ => []) ∧
  Reads .pinOutputs 0x1701 1 (· == 0) (fun _ _ => True) (fun _ s => (List.range 40).flatMap (outputBytes s)) ∧
  Completes .pinWrite 0x1702 2 (· == 4)
    (fun c s => u8 c.pay 0 ≤ 39 ∧ u8 c.pay 1 ≤ 2 ∧ u16 c.pay 2 = 0 ∧ (s.hif.mode = .test ∨ s.cfg.layerNamed (ballOutput (u8 c.pay 0)) 2 = true))
    (fun c s => storeHost (u8 c.pay 0) (u8 c.pay 1) s) (fun c s => le 1 (outputDrive (storeHost (u8 c.pay 0) (u8 c.pay 1) s) (u8 c.pay 0)).layer ++ zeros 3) ∧
  Reads .pinClaim 0x1703 1 (· == 4) (fun c _ => claimable (u32 c.pay 0) = true)
    (fun c s => le 1 (s.cfg.claimant (u32 c.pay 0)) ++ le 1 (flag (s.cfg.baseValue 0x1701 (u32 c.pay 0)).isSome 0) ++ zeros 2
      ++ le 2 (firstUser s.cfg (u32 c.pay 0)).1 ++ le 2 (firstUser s.cfg (u32 c.pay 0)).2) ∧
  Completes .pinBalls 0x1704 1 (· == 4) (fun c _ => 1 ≤ u8 c.pay 2 ∧ u8 c.pay 2 ≤ 240 ∧ u8 c.pay 3 = 0 ∧ u16 c.pay 0 + u8 c.pay 2 ≤ 484)
    (fun c s => { s with free := s.free + u8 c.pay 2 })
    (fun c s => le 1 (u8 c.pay 2) ++ zeros 3 ++ (List.range (u8 c.pay 2)).map fun k => ballByte s (u16 c.pay 0 + k) k) ∧
  Reads .pinSupply 0x1705 1 (· == 0) (fun _ _ => True)
    (fun _ s => (List.range 6).flatMap (fun r => le 2 (fget {} s.pins.rails r).mv) ++ leInt 2 s.pins.tj ++ leInt 2 (s.pins.peak.getD s.pins.tj)
      ++ le 2 (((List.range 6).map fun r => flag (fget {} s.pins.rails r).bad r).sum + s.pins.thermal * 64))

/-- CLOCK_TICK adds a cycle to the count, which carries into the seconds, and takes the next trim at a 16 s boundary, and finds a late mailbox 0 (assumption log 46); with a write staged it applies the write instead, and CLOCK_WRITE_APPLY does that alone. VBAT_CHECK below 1,600 mV sets BVL, once. OSCILLATOR_STOP sets OSF and holds the count, OSCILLATOR_RESTART resumes it. TRIM_COMPENSATION sets the next trim, clamped to ±8,191. RECORD_WRITE takes the oldest report under the next sequence number, into the kept area while armed with room. The five CLOCK and seven LOG commands answer and have their effect; a full intake turns REARM and MARK away with 2, CLOCK.FLAGS_CLEAR of OSF needs an owner. Completes: CLOCK_TICK, CLOCK_WRITE_APPLY, VBAT_CHECK, OSCILLATOR_STOP, OSCILLATOR_RESTART, TRIM_COMPENSATION, RECORD_WRITE, CLOCK.READ, CLOCK.SET, CLOCK.CONVERT, CLOCK.FLAGS_CLEAR, CLOCK.TRIM, LOG.INFO, LOG.READ, LOG.READ_KEPT, LOG.REARM, LOG.MARK, LOG.STATS, LOG.STATS_CLEAR. -/
def Obligations.ClockAndRecorderFollowTheirRules : Prop :=
  (∀ s : State, s.clock.stopped = true → exec .clockTick s = .next s ∧ exec .clockWriteApply s = .next s) ∧
  (∀ s t : State, s.clock.stopped = false → t = endLate s →
    (t.clock.staged = none → exec .clockTick s = .next (checkLate (tickClock t))) ∧
    (∀ w, t.clock.staged = some w → exec .clockTick s = .next (checkLate (applyWrite w t)))) ∧
  (∀ s : State, (s.mail.outage = none → endLate s = s) ∧ (((s.entries 0).find? fun e => e.late s.clock.ticksRun) = none → checkLate s = s)) ∧
  (∀ s : State, s.clock.staged = none → exec .clockWriteApply s = .next s) ∧
  (∀ (w : ClockWrite) (s : State), s.clock.stopped = false → s.clock.staged = some w → exec .clockWriteApply s = .next (applyWrite w s)) ∧
  (∀ (s t : State), tickClock s = t →
    (s.clock.fraction < 32767 → t.clock.seconds = s.clock.seconds ∧ t.clock.fraction = s.clock.fraction + 1 ∧ t.clock.ticksRun = s.clock.ticksRun + 1) ∧
    (32767 ≤ s.clock.fraction → t.clock.seconds = (s.clock.seconds + 1) % 4294967296 ∧ t.clock.fraction = 0) ∧
    (s.clock.fraction < 32767 ∨ (s.clock.seconds + 1) % 4294967296 % 16 ≠ 0 → t.clock.trim = s.clock.trim ∧ t.clock.trimNext = s.clock.trimNext) ∧
    (32767 ≤ s.clock.fraction → (s.clock.seconds + 1) % 4294967296 % 16 = 0 → t.clock.trim = s.clock.trimNext.getD s.clock.trim ∧ t.clock.trimNext = none) ∧
    t = { s with clock := t.clock }) ∧
  (∀ (w : ClockWrite) (sec frac : Nat) (s t : State), writtenCount s.clock w = some (sec, frac) → w.mailbox = none → t = tickClock s →
    applyWrite w s = raise 0x1101 [s.clock.seconds, sec, frac, w.session] { t with clock := { t.clock with seconds := sec, fraction := frac, staged := none } }) ∧
  (∀ (w : ClockWrite) (m sec frac : Nat) (s t : State), writtenCount s.clock w = some (sec, frac) → w.mailbox = some m → t = tickClock s →
    applyWrite w s = answerStarted m
      (ok (le 4 s.clock.seconds ++ le 2 s.clock.fraction ++ zeros 2 ++ le 4 sec ++ le 2 frac ++ zeros 2 ++ cycle64 s.cycle ++ le 2 s.angle ++ zeros 6))
      (raise 0x1101 [s.clock.seconds, sec, frac, w.session] { t with clock := { t.clock with seconds := sec, fraction := frac, staged := none } })) ∧
  (∀ (mv : Nat) (s : State), mv < 1600 → s.clock.bvl = false →
    exec (.vbatCheck mv) s = .next (raise 0x1102 [mv, s.clock.seconds] { s with clock := { s.clock with bvl := true } })) ∧
  (∀ (mv : Nat) (s : State), 1600 ≤ mv ∨ s.clock.bvl = true → exec (.vbatCheck mv) s = .next s) ∧
  (∀ s : State, s.clock.stopped = false →
    exec .oscillatorStop s = .next (raise 0x1103 [2, s.clock.seconds, 0] { s with clock := { s.clock with stopped := true, osf := true } }) ∧
    exec .oscillatorRestart s = .next s) ∧
  (∀ s : State, s.clock.stopped = true → s.clock.staged = none →
    exec .oscillatorRestart s = .next { s with clock := { s.clock with stopped := false } } ∧ exec .oscillatorStop s = .next s) ∧
  (∀ (w : ClockWrite) (s : State), s.clock.stopped = true → s.clock.staged = some w →
    exec .oscillatorRestart s = .next (applyWrite w { s with clock := { s.clock with stopped := false } })) ∧
  (∀ (v : List Byte) (temp want : Int) (s t : State), s.cfg.trimRecord = some v → serving s = true →
    want = divRound (-(deviationAt v temp) * 33554432) (10 ^ 13) →
    t = { s with clock := { s.clock with
      temperature := temp, deviation := deviationAt v temp, trimFrozen := false, trimLimit := decide (want.natAbs > 8191), limitEpisode := decide (want.natAbs > 8191)
      trimNext := some (clampInt (-8191) 8191 want) } } →
    exec (.trimCompensation temp) s = .next (if want.natAbs > 8191 ∧ s.clock.limitEpisode = false then
      raise 0x1104 [(want % (2 ^ 32 : Nat)).toNat, (temp % (2 ^ 32 : Nat)).toNat] t else t)) ∧
  (∀ (temp : Int) (s : State), s.cfg.trimRecord = none ∨ serving s = false → exec (.trimCompensation temp) s = .next s) ∧
  (∀ s : State, s.recorder.intake = [] → exec .recordWrite s = .next s) ∧
  (∀ (e : EventRecord) (es : List EventRecord) (s : State), s.recorder.intake = e :: es →
    exec .recordWrite s = .next (noteOverflow { s with recorder := writeRecord e { s.recorder with intake := es } })) ∧
  (∀ (e : EventRecord) (r : Recorder), e.code = 0x1202 →
    (writeRecord e r).seq = r.seq + 1 ∧ (writeRecord e r).armed = true ∧ (writeRecord e r).kept = [(r.seq, e)]) ∧
  (∀ (e : EventRecord) (r : Recorder), e.code ≠ 0x1202 → (writeRecord e r).seq = r.seq + 1 ∧ (writeRecord e r).armed = r.armed ∧
    (writeRecord e r).kept = if r.armed = true ∧ r.kept.length < 1024 then r.kept ++ [(r.seq, e)] else r.kept) ∧
  Reads .clockRead 0x1101 1 (· == 0) (fun _ _ => True)
    (fun c s => le 4 s.clock.seconds ++ le 2 s.clock.fraction ++ le 2 (clockFlags s.clock c.owner) ++ cycle64 s.clock.tickAt.cycle ++ le 2 s.clock.tickAt.angle
      ++ zeros 2 ++ (calendarOf s.clock.seconds).bytes) ∧
  (∀ w, Starts .clockSet 0x1102 2 (· == 16) (fun c s => writeOf c s = .ok w) (fun _ s => { s with clock := { s.clock with staged := some w } })) ∧
  (∀ e, TurnsAway .clockSet 0x1102 2 (· == 16) (fun c s => writeOf c s = .error e) e) ∧
  (∀ n f, Reads .clockConvert 0x1103 1 (· == 16)
    (fun c _ => u8 c.pay 0 = 1 ∧ allZero (slice c.pay 1 3) = true ∧ bodyCount 1 (c.pay.drop 4) = .ok (n, f))
    (fun _ _ => le 4 n ++ le 2 f ++ zeros 6 ++ le 1 (calendarOf n).weekday ++ zeros 3)) ∧
  (∀ n f, Reads .clockConvert 0x1103 1 (· == 16)
    (fun c _ => u8 c.pay 0 = 0 ∧ allZero (slice c.pay 1 3) = true ∧ bodyCount 0 (c.pay.drop 4) = .ok (n, f))
    (fun _ _ => le 2 (calendarOf n).year ++ le 1 (calendarOf n).month ++ le 1 (calendarOf n).day ++ le 1 (calendarOf n).hour ++ le 1 (calendarOf n).minute
      ++ le 1 (calendarOf n).second ++ zeros 1 ++ le 2 f ++ zeros 2 ++ le 1 (calendarOf n).weekday ++ zeros 3)) ∧
  Completes .clockFlagsClear 0x1104 2 (· == 4) (fun c _ => u16 c.pay 0 ≤ 3 ∧ u16 c.pay 2 = 0 ∧ (bit (u16 c.pay 0) 1 = true → c.owner = true))
    (fun c s => { s with clock := { s.clock with bvl := s.clock.bvl && !bit (u16 c.pay 0) 0, osf := s.clock.osf && !bit (u16 c.pay 0) 1 } })
    (fun c s => le 2 (clockFlags { s.clock with bvl := s.clock.bvl && !bit (u16 c.pay 0) 0, osf := s.clock.osf && !bit (u16 c.pay 0) 1 } c.owner) ++ zeros 2) ∧
  TurnsAway .clockFlagsClear 0x1104 2 (· == 4) (fun c _ => u16 c.pay 0 ≤ 3 ∧ u16 c.pay 2 = 0 ∧ bit (u16 c.pay 0) 1 = true ∧ c.owner = false) 5 ∧
  Reads .clockTrim 0x1105 1 (· == 0) (fun _ _ => True)
    (fun c s => leInt 2 s.clock.trim ++ leInt 2 s.clock.temperature ++ leInt 4 (quotientInt s.clock.deviation 10000) ++ le 1 (16 - s.clock.seconds % 16)
      ++ le 1 (clockFlags s.clock c.owner / 4 % 8 * 4) ++ zeros 2) ∧
  Reads .logInfo 0x1201 1 (· == 0) (fun _ _ => True)
    (fun _ s => le 4 s.recorder.seq ++ le 4 (oldestSeq s.recorder) ++ le 2 s.recorder.kept.length ++ le 1 s.recorder.intake.length
      ++ le 1 (flag s.recorder.armed 0) ++ le 2 (sat 65535 s.recorder.torn) ++ zeros 2 ++ lostBytes s.recorder) ∧
  Reads .logRead 0x1202 1 (· == 8) (fun c _ => 1 ≤ u8 c.pay 4 ∧ u8 c.pay 4 ≤ 31 ∧ allZero (c.pay.drop 5) = true)
    (fun c s =>
      let first := max (u32 c.pay 0) (oldestSeq s.recorder)
      let k := min (u8 c.pay 4) (s.recorder.seq - first)
      le 4 first ++ le 1 k ++ zeros 3 ++ (List.range k).flatMap fun i =>
        match fget none s.recorder.area (areaSlot (first + i)) with
        | some e => shownRecord c.owner e.2
        | none => zeros 32) ∧
  Reads .logReadKept 0x1203 1 (· == 4) (fun c _ => u16 c.pay 0 ≤ 1023 ∧ 1 ≤ u8 c.pay 2 ∧ u8 c.pay 2 ≤ 31 ∧ u8 c.pay 3 = 0)
    (fun c s => le 2 (u16 c.pay 0) ++ le 1 ((s.recorder.kept.drop (u16 c.pay 0)).take (u8 c.pay 2)).length ++ zeros 5
      ++ ((s.recorder.kept.drop (u16 c.pay 0)).take (u8 c.pay 2)).flatMap fun e => shownRecord c.owner e.2) ∧
  Completes .logRearm 0x1204 3 (· == 0) (fun _ s => s.recorder.intake.length < 64) (fun c s => raise 0x1202 [s.recorder.kept.length, c.session] s)
    (fun _ s => le 2 s.recorder.kept.length ++ zeros 2 ++ le 4 (s.recorder.seq + s.recorder.intake.length)) ∧
  TurnsAway .logRearm 0x1204 3 (· == 0) (fun _ s => 64 ≤ s.recorder.intake.length) 2 ∧
  Completes .logMark 0x1205 2 (· == 16)
    (fun c s => reportResult s.recorder (recordOf s 0x1203 [u32 c.pay 0, u32 c.pay 4, u32 c.pay 8, u32 c.pay 12]) ≠ .lost)
    (fun c s => raise 0x1203 [u32 c.pay 0, u32 c.pay 4, u32 c.pay 8, u32 c.pay 12] s) (fun _ _ => []) ∧
  TurnsAway .logMark 0x1205 2 (· == 16)
    (fun c s => reportResult s.recorder (recordOf s 0x1203 [u32 c.pay 0, u32 c.pay 4, u32 c.pay 8, u32 c.pay 12]) = .lost) 2 ∧
  Reads .logStats 0x1206 1 (· == 0) (fun _ _ => True) (fun _ s => countBytes s.recorder.stats 4) ∧
  Completes .logStatsClear 0x1207 2 (· == 0) (fun _ _ => True) (fun _ s => { s with recorder := { s.recorder with stats := [] } }) (fun _ _ => [])

/-- A strobe on an empty bank, or on a held one that is not locked, starts the copy of the blocks as they stand, sets SNAP_OUT and raises SNAP.TAKEN; on a held locked bank, or one still copying another strobe, it raises SNAP.IGNORED and changes nothing else; at the same tick it adds its source. SNAP_IN_EDGE strobes the configured bank. SCHEDULED_STROBE takes the earliest entry whose instant has come; an entry whose rod the count has stepped past leaves the table without a strobe (assumption log 40). SNAPSHOT_TRIGGER_FRAME takes a new trigger, at once and late if its instant has passed, else into the schedule, unless that is full or the instant beyond 2^20 rods. SNAPSHOT_COPY_COMPLETE holds the bank, SNAP_OUT_END, 256 turn units after the latest strobe, ends the pulse. INFO and READ of a held bank answer; TRIGGER strobes or schedules, RELEASE empties banks. Completes: SNAP_IN_EDGE, SCHEDULED_STROBE, SNAPSHOT_TRIGGER_FRAME, SNAPSHOT_COPY_COMPLETE, SNAP_OUT_END, SNAP.INFO, SNAP.TRIGGER, SNAP.READ, SNAP.RELEASE. -/
def Obligations.SnapshotBanksFollowTheirRules : Prop :=
  (∀ (b src seq sender : Nat) (late remote : Bool) (s : State),
    ((s.bank b).state = 0 ∨ ((s.bank b).state = 2 ∧ bit (u8 s.cfg.snap 1) b = false) → ∃ t,
      t = fireTraces 1 (fun _ => true) (s.setBank b { state := 1, sources := 2 ^ src, late := late, remote := remote, strobe := s.phase.now, sender := sender, seq := seq, mode := s.hif.mode, latched := some s.toBlocks }) ∧
      strobe raise b src late remote sender seq s =
        raise 0x1301 [b, 2 ^ src, flag late 0 + flag remote 1, low32 sender] { t with snap := { t.snap with out := true, outSince := s.phase.now } }) ∧
    ((s.bank b).state = 2 → bit (u8 s.cfg.snap 1) b = true → strobe raise b src late remote sender seq s = raise 0x1302 [b, 1, 2 ^ src, low32 s.cycle] s) ∧
    ((s.bank b).state = 1 → (s.bank b).strobe ≠ s.phase.now → strobe raise b src late remote sender seq s = raise 0x1302 [b, 2, 2 ^ src, low32 s.cycle] s) ∧
    ((s.bank b).state = 1 → (s.bank b).strobe = s.phase.now → strobe raise b src late remote sender seq s = s.setBank b { s.bank b with
      sources := (s.bank b).sources ||| 2 ^ src, late := (s.bank b).late || late, remote := (s.bank b).remote || remote })) ∧
  (∀ (s : State) (b : Nat), u8 s.cfg.snap 2 = b → b ≤ 3 →
    (bit (u8 s.cfg.snap 0) 2 = false → exec .snapInEdge s = .next (strobe raise b 2 false false 0 0 s)) ∧
    (bit (u8 s.cfg.snap 0) 2 = true → exec .snapInEdge s = .next (sendTrigger raise s.phase.now b (strobe raise b 2 false false 0 0 s)))) ∧
  (∀ s : State, 3 < u8 s.cfg.snap 2 → exec .snapInEdge s = .next s) ∧
  (∀ s : State, earliest s.snap.schedule = none → exec .scheduledStrobe s = .next s) ∧
  (∀ (x : SnapSchedule) (s : State), earliest s.snap.schedule = some x →
    (s.phase.state = .acquire ∨ s.cycle < x.at_.cycle → exec .scheduledStrobe s = .next s) ∧
    (s.phase.state ≠ .acquire → x.at_.cycle < s.cycle → x.at_.tu + 1 < s.phase.now.tu → exec .scheduledStrobe s =
      .next { s with snap := { s.snap with schedule := s.snap.schedule.erase x } }) ∧
    (s.phase.state ≠ .acquire → x.at_.cycle ≤ s.cycle → x.at_.cycle = s.cycle ∨ s.phase.now.tu ≤ x.at_.tu + 1 → ∃ t,
      t = (if x.at_.cycle = s.cycle then s.atAngle (max s.angle x.at_.angle) else s) ∧
      exec .scheduledStrobe s = .next (strobe raise x.bank x.source false (x.source == 4) x.sender 0
        { t with snap := { t.snap with schedule := t.snap.schedule.erase x } }))) ∧
  (∀ s : State, takeDelivered 8 s = none → exec .snapshotTriggerFrame s = .next s) ∧
  (∀ (d : Delivered) (sender bank : Nat) (i : Instant) (s s1 : State), takeDelivered 8 s = some (d, s1) →
    sender = n64 (d.frame.body.drop 1) 0 → i = ⟨n48 (d.frame.body.drop 1) 8, n16 (d.frame.body.drop 1) 14⟩ → bank = u8 (d.frame.body.drop 1) 16 →
    (s1.cfg.ringFlag 3 = false ∨ sendsOwn s1 = false ∨ 3 < bank ∨ s1.snap.taken.contains (sender, i, bank) = true → exec .snapshotTriggerFrame s = .next s1) ∧
    (s1.cfg.ringFlag 3 = true → sendsOwn s1 = true → bank ≤ 3 → s1.snap.taken.contains (sender, i, bank) = false → ∃ t,
      t = { s1 with snap := { s1.snap with taken := (sender, i, bank) :: s1.snap.taken } } ∧
      (i.tu ≤ s1.phase.now.tu → exec .snapshotTriggerFrame s = .next (strobe raise bank 4 true true sender 0 t)) ∧
      (s1.phase.now.tu + 2 ^ 36 < i.tu → exec .snapshotTriggerFrame s = .next (raise 0x1302 [bank, 4, 16, low32 t.cycle] t)) ∧
      (s1.phase.now.tu < i.tu → i.tu ≤ s1.phase.now.tu + 2 ^ 36 → 8 ≤ s1.snap.schedule.length →
        exec .snapshotTriggerFrame s = .next (raise 0x1302 [bank, 3, 16, low32 t.cycle] t)) ∧
      (s1.phase.now.tu < i.tu → i.tu ≤ s1.phase.now.tu + 2 ^ 36 → s1.snap.schedule.length < 8 → exec .snapshotTriggerFrame s = .next
        { t with snap := { t.snap with schedule := t.snap.schedule ++ [{ bank := bank, at_ := i, source := 4, sender := sender }] } }))) ∧
  (∀ (b : Nat) (s : State), (s.bank b).state = 1 → exec (.snapshotCopyComplete b) s = .next (s.setBank b { s.bank b with state := 2 })) ∧
  (∀ (b : Nat) (s : State), (s.bank b).state ≠ 1 → exec (.snapshotCopyComplete b) s = .next s) ∧
  (∀ s : State, s.snap.outSince.tu + 256 ≤ s.phase.now.tu → exec .snapOutEnd s = .next { s with snap := { s.snap with out := false } }) ∧
  (∀ s : State, s.phase.now.tu < s.snap.outSince.tu + 256 → exec .snapOutEnd s = .next s) ∧
  Reads .snapInfo 0x1301 1 (· == 0) (fun _ _ => True)
    (fun _ s => (List.range 4).flatMap (bankEntry s) ++ le 1 s.snap.schedule.length ++ zeros 3) ∧
  Completes .snapTrigger 0x1302 2 (· == 20)
    (fun c _ => u8 c.pay 0 ≤ 3 ∧ (u8 c.pay 1 = 0 ∨ u8 c.pay 1 = 2) ∧ u16 c.pay 2 = 0 ∧ allZero (c.pay.drop 14) = true ∧ u64 c.pay 4 = 0 ∧ u16 c.pay 12 = 0)
    (fun c s =>
      let t := strobe raise (u8 c.pay 0) 0 false false 0 0 s
      if bit (u8 c.pay 1) 1 || bit (u8 s.cfg.snap 0) 0 then sendTrigger raise s.phase.now (u8 c.pay 0) t else t)
    (fun _ s => cycle64 s.phase.now.cycle ++ le 2 s.phase.now.angle ++ zeros 6) ∧
  Completes .snapTrigger 0x1302 2 (· == 20)
    (fun c s => u8 c.pay 0 ≤ 3 ∧ (u8 c.pay 1 = 1 ∨ u8 c.pay 1 = 3) ∧ u16 c.pay 2 = 0 ∧ allZero (c.pay.drop 14) = true ∧
      (⟨u64 c.pay 4, u16 c.pay 12⟩ : Instant).tu ≤ s.phase.now.tu + 2 ^ 36 ∧ s.phase.now.tu < (⟨u64 c.pay 4, u16 c.pay 12⟩ : Instant).tu ∧ s.snap.schedule.length < 8)
    (fun c s =>
      let t : State := { s with snap := { s.snap with
        schedule := s.snap.schedule ++ [{ bank := u8 c.pay 0, at_ := ⟨u64 c.pay 4, u16 c.pay 12⟩, source := 0 }] } }
      if bit (u8 c.pay 1) 1 || bit (u8 s.cfg.snap 0) 0 then sendTrigger raise ⟨u64 c.pay 4, u16 c.pay 12⟩ (u8 c.pay 0) t else t)
    (fun c _ => cycle64 (u64 c.pay 4) ++ le 2 (u16 c.pay 12) ++ zeros 6) ∧
  TurnsAway .snapTrigger 0x1302 2 (· == 20)
    (fun c s => u8 c.pay 0 ≤ 3 ∧ u8 c.pay 1 = 1 ∧ u16 c.pay 2 = 0 ∧ allZero (c.pay.drop 14) = true ∧
      (⟨u64 c.pay 4, u16 c.pay 12⟩ : Instant).tu ≤ s.phase.now.tu) 0x0F ∧
  TurnsAway .snapTrigger 0x1302 2 (· == 20)
    (fun c s => u8 c.pay 0 ≤ 3 ∧ u8 c.pay 1 = 1 ∧ u16 c.pay 2 = 0 ∧ allZero (c.pay.drop 14) = true ∧
      (⟨u64 c.pay 4, u16 c.pay 12⟩ : Instant).tu ≤ s.phase.now.tu + 2 ^ 36 ∧ s.phase.now.tu < (⟨u64 c.pay 4, u16 c.pay 12⟩ : Instant).tu ∧
      8 ≤ s.snap.schedule.length) 2 ∧
  (∀ size, Reads .snapRead 0x1303 1 (· == 12)
    (fun c s => bankSize (u8 c.pay 1) = some size ∧ u8 c.pay 0 ≤ 3 ∧ u16 c.pay 2 = 0 ∧ u16 c.pay 10 = 0 ∧ 1 ≤ u16 c.pay 8 ∧ u16 c.pay 8 ≤ 992 ∧
      (s.bank (u8 c.pay 0)).state = 2)
    (fun c s => le 4 size ++ le 2 (slice (fit size (bankBytes (u8 c.pay 1) (s.bank (u8 c.pay 0)) s)) (u32 c.pay 4) (u16 c.pay 8)).length ++ zeros 2
      ++ slice (fit size (bankBytes (u8 c.pay 1) (s.bank (u8 c.pay 0)) s)) (u32 c.pay 4) (u16 c.pay 8))) ∧
  TurnsAway .snapRead 0x1303 1 (· == 12)
    (fun c s => (bankSize (u8 c.pay 1)).isSome = true ∧ u8 c.pay 0 ≤ 3 ∧ u16 c.pay 2 = 0 ∧ u16 c.pay 10 = 0 ∧ 1 ≤ u16 c.pay 8 ∧ u16 c.pay 8 ≤ 992 ∧
      (s.bank (u8 c.pay 0)).state ≠ 2) 8 ∧
  Completes .snapRelease 0x1304 2 (· == 4) (fun c _ => u8 c.pay 0 ≤ 15 ∧ allZero (c.pay.drop 1) = true)
    (fun c s => ((List.range 4).filter (bit (u8 c.pay 0))).foldl (fun s b => s.setBank b {}) s) (fun _ _ => [])

/-- Completes: POWER_ON_RESET, SUPPLY_FAIL, BOOT_SEQUENCE, HARLOPOR_CONFIRM, CONFIRM_DEADLINE, START_WATCHDOG_EXPIRY, SUPERVISOR_RESTART_DEADLINE, LEAVE_RESTART, START.CONFIRM, START.LEDGER, START.REASON, START.SESSION_OPEN, START.LEAVE, START.FALLOW, START.SELECT, START.THRESHOLD, START.TEST, START.FALLOW_MAP. POWER_ON_RESET begins in the boot ROM with no session, keeping the ledger, slots, keys and counters, and the count of a backup domain that kept its supply; SUPPLY_FAIL asserts reset and loses the intake's reports. BOOT_SEQUENCE takes the preferred pair at an even count, the confirmed at an odd one, and ends in start mode or with the cause of the step that fails. A counted failure raises the count and enters fallow mode at the threshold or where it was asked for, else the boot ROM. Harlopor's checks pass once the first rod has run and a pair ran for 1 s without a mismatch. A confirmation clears the count, makes the pair used both preferred and confirmed, and enters running mode. HARLOPOR_CONFIRM, CONFIRM_DEADLINE, START_WATCHDOG_EXPIRY, SUPERVISOR_RESTART_DEADLINE and LEAVE_RESTART act in their modes and change nothing elsewhere. The START commands answer, have their effect, and are turned away outside their modes. -/
def Obligations.StartsConfirmsAndFailuresFollowTheLedger : Prop :=
  (∀ (kept : Bool) (s : State), ∃ t, exec (.powerOnReset kept) s = .next t ∧ t.hif.mode = .bootRom ∧ t.mail.sessions = [] ∧ t.pending = s.pending ∧ t.start.ledger = s.start.ledger ∧ t.start.fwA = s.start.fwA ∧ t.start.fwB = s.start.fwB ∧
    t.sec.tokens = s.sec.tokens ∧ t.sec.configs = s.sec.configs ∧ t.sec.fwCounter = s.sec.fwCounter ∧ t.sec.cfgCounter = s.sec.cfgCounter ∧
    t.sec.keyCounter = s.sec.keyCounter ∧ t.cfg.slotA = s.cfg.slotA ∧ t.cfg.slotB = s.cfg.slotB ∧ t.cfg.base = none ∧
    (kept = true → t.clock.seconds = s.clock.seconds ∧ t.clock.fraction = s.clock.fraction ∧ t.clock.osf = s.clock.osf) ∧
    (kept = false → t.clock.seconds = 0 ∧ t.clock.fraction = 0 ∧ t.clock.osf = true)) ∧
  (∀ s : State, s.pins.inReset = true → exec .supplyFail s = .next s) ∧
  (∀ s : State, s.pins.inReset = false → ∃ t, exec .supplyFail s = .next t ∧ t.pins.inReset = true ∧ t.hif.mode = .bootRom ∧ t.hif.reqFree = 0 ∧
    t.recorder.intake = [] ∧ t.abacus.running = false ∧ t.start.ledger = s.start.ledger ∧ t.sec = s.sec ∧ t.clock = s.clock) ∧
  (∀ (p : BitVec 3) (s : State), s.hif.mode ≠ .bootRom ∨ s.pins.inReset = true → exec (.bootSequence p) s = .next s) ∧
  (∀ (p : BitVec 3) (s s1 s2 : State) (pair : Nat × Nat), s.hif.mode = .bootRom → s.pins.inReset = false →
    s1 = bootCores p { s with start := { s.start with loaded := some s.start.ledger.map } } → s2 = beginAttemptEntry s1 → pair = attemptPair s1.start.ledger →
    (s1.super.cores = [] → exec (.bootSequence p) s = .next s1) ∧
    (s1.super.cores ≠ [] → (verifyFirmware s2 pair.1).step ≠ 0 → exec (.bootSequence p) s = .next (failAttempt (fwCause (verifyFirmware s2 pair.1).step) 0 s2)) ∧
    (s1.super.cores ≠ [] → (verifyFirmware s2 pair.1).step = 0 → exec (.bootSequence p) s = .next (bootConfiguration (verifyFirmware s2 pair.1).fw pair.2 s2))) ∧
  (∀ l : Ledger, (l.count % 2 = 0 → attemptPair l = (l.preferredFw, l.preferredCfg)) ∧
    (l.count % 2 = 1 → l.confirmed = none → attemptPair l = (l.preferredFw, l.preferredCfg)) ∧
    (∀ q, l.count % 2 = 1 → l.confirmed = some q → attemptPair l = q)) ∧
  (∀ (fw : RunningFw) (slot : Nat) (s : State), (s.cfgSlot slot).state = .empty ∨ (s.cfgSlot slot).state = .partly →
    bootConfiguration fw slot s = failAttempt 4 0 s) ∧
  (∀ (fw : RunningFw) (slot : Nat) (s s1 : State) (x : ImageSlot) (o : Outcome) (im : BaseImage), x = s.cfgSlot slot → x.state ≠ .empty → x.state ≠ .partly → validateImage s x = (o, im) →
    s1 = raise 0x0205 [slot, o.step, o.status, o.offset] s →
    (o.step = 0 → bootConfiguration fw slot s = handOver fw (applyConfiguration im slot (s.setCfgSlot slot { x with state := .validated }))) ∧
    (o.step = 2 → bootConfiguration fw slot s = failAttempt 5 0 s1) ∧ (o.step = 3 → bootConfiguration fw slot s = failAttempt 6 0 s1) ∧
    (o.step = 1 ∨ 4 ≤ o.step → bootConfiguration fw slot s = failAttempt 7 o.step s1)) ∧
  (∀ (fw : RunningFw) (s : State), (handOver fw s).hif.mode = .start ∧ (handOver fw s).start.running = some fw ∧ (handOver fw s).start.handTicks = s.clock.ticksRun ∧
    (handOver fw s).start.ledger = s.start.ledger) ∧
  (∀ (s : State) (n : Nat), (s.hif.mode ≠ .start ∧ s.hif.mode ≠ .running) ∨ (s.panel.request ≠ some 2 ∧ s.start.fallowAt = none) →
    failureFallow s n = if s.start.ledger.threshold ≤ n then some 1 else none) ∧
  (∀ (s : State) (n c : Nat), s.hif.mode = .start ∨ s.hif.mode = .running → s.panel.request ≠ some 2 → s.start.fallowAt = some (c, 2) → failureFallow s n = some 2) ∧
  (∀ (cause detail : Nat) (a : Attempt) (rest : List Attempt) (s : State), s.start.ledger.attempts = a :: rest → ∃ u,
    u = raise 0x1403 [cause, detail, a.fwVersion, a.cfgVersion] (s.setLedger { s.start.ledger with
      attempts := { a with cause := cause, detail := detail } :: rest, count := min 255 (s.start.ledger.count + 1), failures := s.start.ledger.failures + 1 }) ∧
    (∀ r, failureFallow u (min 255 (s.start.ledger.count + 1)) = some r → failAttempt cause detail s = enterFallow r u) ∧
    (failureFallow u (min 255 (s.start.ledger.count + 1)) = none → failAttempt cause detail s = enterBoot u)) ∧
  (∀ s : State, (enterBoot s).hif.mode = .bootRom ∧ (enterBoot s).mail.sessions = [] ∧ (enterBoot s).start.ledger = s.start.ledger ∧
    (enterBoot s).abacus.running = false ∧ (enterBoot s).start.running = none) ∧
  (∀ (reason : Nat) (s : State), (enterFallow reason s).hif.mode = .fallow ∧ (enterFallow reason s).start.ledger = s.start.ledger ∧
    (enterFallow reason s).start.fallowReason = reason ∧ (∃ r, (enterFallow reason s).start.reason = some r ∧ r.reason = reason ∧
      r.count = s.start.ledger.count ∧ r.threshold = s.start.ledger.threshold ∧ r.attempts = s.start.ledger.attempts)) ∧
  (∀ (source : Nat) (s : State), (confirmStart source s).1.hif.mode = .running ∧ (confirmStart source s).1.start.ledger.count = 0 ∧
    (∃ q, q = ((s.start.running.map RunningFw.slot).getD s.start.ledger.preferredFw, s.cfg.active) ∧ (confirmStart source s).1.start.ledger.confirmed = some q ∧
      ((confirmStart source s).1.start.ledger.preferredFw, (confirmStart source s).1.start.ledger.preferredCfg) = q)) ∧
  (∀ s : State, s.hif.mode = .start → s.cfg.hostConfirm = false → checksPass s = true → s.hif.supPause = false →
    exec .harloporConfirm s = .next (confirmStart 1 s).1) ∧
  (∀ s : State, s.hif.mode ≠ .start ∨ s.cfg.hostConfirm = true ∨ checksPass s = false ∨ s.hif.supPause = true → exec .harloporConfirm s = .next s) ∧
  (∀ s : State, s.super.single = true → checksPass s = s.start.rodRun) ∧
  (∀ s : State, s.super.single = false → (checksPass s = true ↔ s.start.rodRun = true ∧ 1000 ≤ s.msSince (max s.start.handTicks s.super.mismatchTicks))) ∧
  (∀ s : State, s.hif.mode = .start → 60000 ≤ s.msSince s.start.handTicks → exec .confirmDeadline s = .next (failAttempt 9 0 s)) ∧
  (∀ s : State, s.hif.mode ≠ .start ∨ s.msSince s.start.handTicks < 60000 → exec .confirmDeadline s = .next s) ∧
  (∀ s : State, s.hif.mode = .start → exec .startWatchdogExpiry s = .next (failAttempt 8 0 s)) ∧
  (∀ s : State, s.hif.mode = .bootRom → s.pins.inReset = false → exec .startWatchdogExpiry s = .next (failAttempt 8 0 (beginAttemptEntry s))) ∧
  (∀ s : State, s.hif.mode = .running → s.hif.supPause = false → exec .startWatchdogExpiry s = .next (beginCoreTest true s)) ∧
  (∀ s : State, s.hif.mode = .fallow ∨ s.hif.mode = .test ∨ (s.hif.mode = .running ∧ s.hif.supPause = true) ∨ (s.hif.mode = .bootRom ∧ s.pins.inReset = true) →
    exec .startWatchdogExpiry s = .next s) ∧
  (∀ s : State, s.hif.supPause = false ∨ (s.super.state ≠ 2 ∧ s.super.state ≠ 4) ∨ s.super.pauseRods < 16 → exec .supervisorRestartDeadline s = .next s) ∧
  (∀ s : State, s.hif.supPause = true → s.super.state = 2 ∨ s.super.state = 4 → 16 ≤ s.super.pauseRods →
    (attempting s = true → exec .supervisorRestartDeadline s = .next (failAttempt 10 0 s)) ∧
    (attempting s = false → exec .supervisorRestartDeadline s = .next (failAttempt 10 0 (pushAttempt
      (newAttempt s ((s.start.running.map RunningFw.slot).getD s.start.ledger.preferredFw, s.cfg.active) 10) s)))) ∧
  (∀ s : State, s.start.leaving = false ∨ s.inFallow = false ∨ (s.entries 0).any (fun e => e.req.hdr.code == 0x1405 && !e.placed) = true →
    exec .leaveRestart s = .next s) ∧
  (∀ s : State, s.start.leaving = true → s.inFallow = true → (s.entries 0).any (fun e => e.req.hdr.code == 0x1405 && !e.placed) = false →
    exec .leaveRestart s = .next (enterBoot { s with start := { s.start with leftWay := 1, leftSeconds := s.msSince s.start.fallowTicks / 1000 } })) ∧
  Completes .startConfirm 0x1401 2 (· == 0) (fun _ s => s.hif.mode = .start) (fun _ s => (confirmStart 2 s).1)
    (fun _ s => le 1 2 ++ zeros 1 ++ le 2 (confirmStart 2 s).2) ∧
  TurnsAway .startConfirm 0x1401 2 (· == 0) (fun _ s => s.hif.mode ≠ .start) 8 ∧
  Reads .startLedger 0x1402 0 (· == 0) (fun _ _ => True)
    (fun _ s => le 1 s.start.ledger.count ++ le 1 s.start.ledger.threshold ++ le 1 s.start.ledger.preferredFw ++ le 1 s.start.ledger.preferredCfg
      ++ le 1 (s.start.ledger.confirmed.getD (0xFF, 0xFF)).1 ++ le 1 (s.start.ledger.confirmed.getD (0xFF, 0xFF)).2 ++ zeros 2 ++ le 4 (count32 s.start.ledger.starts)
      ++ le 4 (count32 s.start.ledger.failures) ++ le 4 s.start.ledger.lastConfirm ++ le 10 s.start.ledger.map ++ zeros 2 ++ attemptBytes s.start.ledger.attempts) ∧
  (∀ r, Reads .startReason 0x1403 1 (· == 0) (fun _ s => s.start.reason = some r)
    (fun _ _ => le 1 r.reason ++ le 1 r.count ++ le 1 r.threshold ++ le 1 r.streak ++ le 4 r.seconds ++ cycle64 r.cycle ++ attemptBytes r.attempts)) ∧
  TurnsAway .startReason 0x1403 1 (· == 0) (fun _ s => s.start.reason = none) 8 ∧
  Completes .startSessionOpen 0x1404 0 openLength (fun c _ => u8 c.pay 0 = 0 ∧ u8 c.pay 1 ≤ 17 ∧ u16 c.pay 2 = 0)
    (fun c s => { s with
      free := s.free + 1
      mail := { s.mail with challenges := (s.mail.challenges.filter fun x => decide (x.who ≠ c.req.who)) ++
        [{ who := c.req.who, nonce := be 16 (Config.entropy s.free).toNat, issued := s.clock.ticksRun }] } })
    (fun _ s => be 16 (Config.entropy s.free).toNat) ∧
  Completes .startLeave 0x1405 3 (· == 0) (fun _ s => s.hif.mode = .fallow ∨ s.hif.mode = .test)
    (fun _ s => { s with start := { s.start with
      ledger := { s.start.ledger with count := 0 }, leaving := true, leftCount := if s.start.leaving then s.start.leftCount else s.start.ledger.count } }) (fun _ _ => []) ∧
  TurnsAway .startLeave 0x1405 3 (· == 0) (fun _ s => s.hif.mode ≠ .fallow ∧ s.hif.mode ≠ .test) 8 ∧
  Completes .startFallow 0x1406 3 (· == 0) (fun _ s => s.hif.mode = .start ∨ s.hif.mode = .running)
    (fun _ s => { s with start := { s.start with fallowAt := some (s.cycle + 1, 2) } }) (fun _ s => cycle64 (s.cycle + 1)) ∧
  TurnsAway .startFallow 0x1406 3 (· == 0) (fun _ s => s.hif.mode ≠ .start ∧ s.hif.mode ≠ .running) 8 ∧
  Completes .startSelect 0x1407 3 (· == 4)
    (fun c s => u8 c.pay 0 ≤ 1 ∧ u8 c.pay 1 ≤ 1 ∧ u16 c.pay 2 = 0 ∧ (s.fwSlot (u8 c.pay 0)).state ≠ .empty ∧ (s.cfgSlot (u8 c.pay 1)).state ≠ .empty)
    (fun c s => s.setLedger { s.start.ledger with preferredFw := u8 c.pay 0, preferredCfg := u8 c.pay 1 }) (fun _ _ => []) ∧
  TurnsAway .startSelect 0x1407 3 (· == 4)
    (fun c s => u8 c.pay 0 ≤ 1 ∧ u8 c.pay 1 ≤ 1 ∧ u16 c.pay 2 = 0 ∧ ((s.fwSlot (u8 c.pay 0)).state = .empty ∨ (s.cfgSlot (u8 c.pay 1)).state = .empty)) 8 ∧
  Completes .startThreshold 0x1408 3 (· == 4) (fun c _ => 2 ≤ u8 c.pay 0 ∧ u8 c.pay 0 ≤ 7 ∧ allZero (slice c.pay 1 3) = true)
    (fun c s => s.setLedger { s.start.ledger with threshold := u8 c.pay 0 }) (fun _ s => le 1 s.start.ledger.threshold ++ zeros 3) ∧
  TurnsAway .startThreshold 0x1408 3 (· == 4) (fun c _ => u8 c.pay 0 < 2 ∨ 7 < u8 c.pay 0) 6 ∧
  Completes .startTest 0x1409 3 (· == 4) (fun c s => u8 c.pay 0 = 1 ∧ allZero (slice c.pay 1 3) = true ∧ s.hif.mode = .fallow)
    (fun _ s => setMode .test { s with panel := { s.panel with digits := [] } }) (fun _ _ => []) ∧
  Completes .startTest 0x1409 3 (· == 4) (fun c s => u8 c.pay 0 = 0 ∧ allZero (slice c.pay 1 3) = true ∧ s.hif.mode = .test) (fun _ s => leaveTest s) (fun _ _ => []) ∧
  TurnsAway .startTest 0x1409 3 (· == 4)
    (fun c s => allZero (slice c.pay 1 3) = true ∧ ((u8 c.pay 0 = 1 ∧ s.hif.mode ≠ .fallow) ∨ (u8 c.pay 0 = 0 ∧ s.hif.mode ≠ .test))) 8 ∧
  Completes .startFallowMap 0x140A 3 (· == 12)
    (fun c s => u16 c.pay 10 = 0 ∧ (List.range 40).any (fun n => (u64 c.pay 0 + 2 ^ 64 * u16 c.pay 8) / 4 ^ n % 4 == 3) = false ∧
      (s.hif.mode = .start ∨ s.hif.mode = .running))
    (fun c s => s.setLedger { s.start.ledger with map := u64 c.pay 0 + 2 ^ 64 * u16 c.pay 8 }) (fun _ _ => []) ∧
  Completes .startFallowMap 0x140A 3 (· == 12)
    (fun c s => u16 c.pay 10 = 0 ∧ (List.range 40).any (fun n => (u64 c.pay 0 + 2 ^ 64 * u16 c.pay 8) / 4 ^ n % 4 == 3) = false ∧
      (s.hif.mode = .fallow ∨ s.hif.mode = .test))
    (fun c s => { s with start := { s.start with
      ledger := { s.start.ledger with map := u64 c.pay 0 + 2 ^ 64 * u16 c.pay 8 }, loaded := some (u64 c.pay 0 + 2 ^ 64 * u16 c.pay 8) } }) (fun _ _ => []) ∧
  TurnsAway .startFallowMap 0x140A 3 (· == 12)
    (fun c _ => (List.range 40).any (fun n => (u64 c.pay 0 + 2 ^ 64 * u16 c.pay 8) / 4 ^ n % 4 == 3) = true) 6

/-- Completes: LOCKSTEP_MISMATCH, SELF_TEST_COMPLETE, SWAP_RESUME, WEAR_MEASUREMENT, ECC_CORRECTION, UNCORRECTABLE_ERROR, ROW_REMAP, PLL_LOSS_OF_LOCK, AGEING_SAMPLE, SUBSTITUTION_COMPLETE, SPARE.INFO, SPARE.LEDGER, SPARE.WEAR, SPARE.PROFILE, SPARE.SWAP. LOCKSTEP_MISMATCH of a serving pair pauses the supervisor and begins the self-tests; SELF_TEST_COMPLETE keeps the pair when both pass, retires the core that fails when the spare passes, runs one core alone when it does not, and stops when none passes; SWAP_RESUME serves again. A measured figure is stored; from 8,000 SPARE.WORN is raised and from 10,000 a unit in service is replaced. Corrections count over 2^20 rods. An uncorrectable error is reported, handled by its region and its unit replaced with cause 4. ROW_REMAP writes the ledger; PLL_LOSS_OF_LOCK brings in the spare PLL at once. AGEING_SAMPLE adds one second to its bin. INFO, LEDGER, WEAR and PROFILE answer, SWAP is deferred, and each is turned away as R662 says. -/
def Obligations.UnitsWearAndSparesJoin : Prop :=
  (∀ s : State, s.super.cores.length ≠ 2 ∨ s.hif.supPause = true ∨ s.super.state = 5 → exec .lockstepMismatch s = .next s) ∧
  (∀ s : State, s.super.cores.length = 2 → s.hif.supPause = false → s.super.state ≠ 5 → exec .lockstepMismatch s = .next { s with
    hif := { s.hif with supPause := true, cause := s.hif.cause ||| 0x40#7 }
    super := { s.super with testing := true, watchdog := false, mismatchTicks := s.clock.ticksRun, state := 2, pauseRods := 0 } }) ∧
  (∀ (p : BitVec 3) (us : Nat) (s : State), s.super.state ≠ 2 ∨ s.super.testing = false → exec (.selfTestComplete p us) s = .next s) ∧
  (∀ (p : BitVec 3) (us a b : Nat) (s : State), s.super.state = 2 → s.super.testing = true → s.super.cores = [a, b] →
    (p.getLsbD a = true → p.getLsbD b = true → ∃ sp, sp = ((freeSpare s 1).bind fun c => if p.getLsbD c then some c else none) ∧
      exec (.selfTestComplete p us) s = .next (coresPassed sp us s)) ∧
    (∀ c, p.getLsbD a = true → p.getLsbD b = false → freeSpare s 1 = some c → p.getLsbD c = true →
      exec (.selfTestComplete p us) s = .next (retireCore b 1 (some c) (watchdogOutcome 1 s))) ∧
    (∀ c, p.getLsbD a = false → p.getLsbD b = true → freeSpare s 1 = some c → p.getLsbD c = true →
      exec (.selfTestComplete p us) s = .next (retireCore a 1 (some c) (watchdogOutcome 1 s))) ∧
    (p.getLsbD a = true → p.getLsbD b = false → (∀ c, freeSpare s 1 = some c → p.getLsbD c = false) → exec (.selfTestComplete p us) s = .next (runCores [a] 1 (watchdogOutcome 1 s))) ∧
    (p.getLsbD a = false → p.getLsbD b = true → (∀ c, freeSpare s 1 = some c → p.getLsbD c = false) → exec (.selfTestComplete p us) s = .next (runCores [b] 1 (watchdogOutcome 1 s))) ∧
    (∀ c, p.getLsbD a = false → p.getLsbD b = false → freeSpare s 1 = some c → p.getLsbD c = true →
      exec (.selfTestComplete p us) s = .next (runCores [c] 1 (watchdogOutcome 1 (s.setUnit 1 c { s.unit 1 c with state := 1, entered := s.spare.eqMicros / 1000000 })))) ∧
    (p.getLsbD a = false → p.getLsbD b = false → (∀ c, freeSpare s 1 = some c → p.getLsbD c = false) →
      exec (.selfTestComplete p us) s = .next { s with super := { s.super with cores := [], testing := false } })) ∧
  (∀ (sp : Option Nat) (us : Nat) (s : State) (ts : List Nat), ts = (s.super.transients.filter fun r => decide (s.cycle < r + 16777216)) ++ [s.cycle] →
    s.super.watchdog = false → ts.length < 3 → coresPassed sp us s = raise 0x1503 [(s.super.cores.getD 0 0) * 256 + s.super.cores.getD 1 0, ts.length, us]
      { s with super := { s.super with transients := ts, testing := false } }) ∧
  (∀ (sp : Option Nat) (us a b : Nat) (s t : State) (ts : List Nat), ts = (s.super.transients.filter fun r => decide (s.cycle < r + 16777216)) ++ [s.cycle] →
    s.super.watchdog = false → 3 ≤ ts.length → s.super.cores = [a, b] → t = raise 0x1503 [a * 256 + b, ts.length, us] { s with super := { s.super with transients := ts, testing := false } } →
    coresPassed sp us s = retireCore (if (s.unit 1 b).w < (s.unit 1 a).w then a else b) 1 sp { t with super := { t.super with transients := [] } }) ∧
  (∀ (sp : Option Nat) (us : Nat) (s : State), s.super.watchdog = true → coresPassed sp us s = beginWarm (raise 0x1506 [2, low32 s.cycle] s)) ∧
  (∀ s : State, s.super.state ≠ 2 ∨ s.super.testing = true ∨ s.super.cores = [] → exec .swapResume s = .next s) ∧
  (∀ s : State, s.super.state = 2 → s.super.testing = false → s.super.cores ≠ [] → s.super.retiring = none → exec .swapResume s = .next (endPause s)) ∧
  (∀ (w : Substitution) (s t : State), s.super.state = 2 → s.super.testing = false → s.super.cores ≠ [] → s.super.retiring = some w → w.request = none →
    t = writeLedger w.kind w.cause w.unit (freeSpare s 1) { s with super := { s.super with retiring := none } } →
    exec .swapResume s = .next (endPause (runCores (sortNat ((s.super.cores.filter (· != w.unit)) ++ (freeSpare s 1).toList)) w.cause t))) ∧
  (∀ (kind unit wear : Nat) (s : State), monitored s kind unit = false ∨ kind = 2 → exec (.wearMeasurement kind unit wear) s = .next s) ∧
  (∀ (kind unit wear : Nat) (s t : State), monitored s kind unit = true → kind ≠ 2 → kind ≠ 3 → t = s.setUnit kind unit { s.unit kind unit with w := min 65535 wear } →
    (wear < 8000 → exec (.wearMeasurement kind unit wear) s = .next t) ∧
    (8000 ≤ wear → wear < 10000 → exec (.wearMeasurement kind unit wear) s = .next (raiseWorn kind unit 1 t)) ∧
    (10000 ≤ wear → unitState (raiseWorn kind unit 1 t) kind unit = 1 → exec (.wearMeasurement kind unit wear) s = .next (replaceUnit kind unit 2 (raiseWorn kind unit 1 t)))) ∧
  (∀ (unit wear : Nat) (s : State) (y : WearUnit), monitored s 3 unit = true →
    y = { s.unit 3 unit with writes := ((s.unit 3 unit).writes.filter fun e => decide (s.spare.seconds ≤ e.1 + 31536000)) ++ [(s.spare.seconds, min 65535 wear)] } →
    exec (.wearMeasurement 3 unit wear) s = .next (noteWear 3 unit (max (min 65535 wear) (10000 * y.corrections.length / 4)) (s.setUnit 3 unit y))) ∧
  (∀ (kind unit level : Nat) (s : State), (level ≤ (s.unit kind unit).worn → raiseWorn kind unit level s = s) ∧
    ((s.unit kind unit).worn < level → ∃ t, t = s.setUnit kind unit { s.unit kind unit with worn := level } ∧
      raiseWorn kind unit level s = raise 0x1502 [kind * 256 + level, unit, (s.unit kind unit).w, freeSpares s kind] t)) ∧
  (∀ (kind unit : Nat) (s : State), monitored s kind unit = false ∨ (kind ≠ 2 ∧ kind ≠ 3) → exec (.eccCorrection kind unit) s = .next s) ∧
  (∀ (unit : Nat) (s : State) (y : WearUnit), monitored s 2 unit = true →
    y = { s.unit 2 unit with corrections := ((s.unit 2 unit).corrections.filter fun r => decide (s.cycle < r + 1048576)) ++ [s.cycle] } →
    exec (.eccCorrection 2 unit) s = .next (noteWear 2 unit (10000 * y.corrections.length / 2) (s.setUnit 2 unit y))) ∧
  (∀ (kind unit offset region place : Nat) (s : State), monitored s kind unit = true → kind = 2 ∨ kind = 3 →
    exec (.uncorrectableError kind unit offset region place) s = .next (replaceUnit kind unit 4 (damageRegion region place (raise 0x1504 [kind, unit, offset, region] s)))) ∧
  (∀ (kind unit offset region place : Nat) (s : State), monitored s kind unit = false ∨ (kind ≠ 2 ∧ kind ≠ 3) →
    exec (.uncorrectableError kind unit offset region place) s = .next s) ∧
  (∀ (place : Nat) (s : State), damageRegion 1 place s = damagePoint place s ∧ damageRegion 2 place s = damageSample place s ∧
    damageRegion 3 place s = { s with super := { s.super with warmAt := some (min (s.super.warmAt.getD (s.cycle + 1)) (s.cycle + 1)) } } ∧ damageRegion 4 place s = s ∧
    damageRegion 5 place s = { s with recorder := { s.recorder with torn := s.recorder.torn + 1, area := fput none s.recorder.area (areaSlot place) none } } ∧
    damageRegion 6 place s = damageImage place s) ∧
  (∀ (kind unit u : Nat) (s : State), spareFor s kind unit = some u → swapCalled s kind unit = false → kind = 2 ∨ kind = 3 →
    replaceUnit kind unit 4 s = { s with spare := { s.spare with copying := s.spare.copying ++ [({ kind := kind, unit := unit, cause := 4 }, u)] } }) ∧
  (∀ (kind unit cause : Nat) (s : State), spareFor s kind unit = none → swapCalled s kind unit = false → replaceUnit kind unit cause s = raiseWorn kind unit 2 s) ∧
  (∀ (kind unit : Nat) (s : State), (s.spare.copying.find? fun c => c.1.kind == kind && c.1.unit == unit) = none → exec (.rowRemap kind unit) s = .next s) ∧
  (∀ (kind unit : Nat) (c : Substitution × Nat) (s : State), (s.spare.copying.find? fun c => c.1.kind == kind && c.1.unit == unit) = some c → c.1.request = none →
    exec (.rowRemap kind unit) s = .next (writeLedger c.1.kind c.1.cause c.1.unit (some c.2) { s with spare := { s.spare with copying := s.spare.copying.erase c } })) ∧
  (∀ (u : Nat) (s : State), freeSpare s 7 = some u → (s.spare.waiting.find? fun w => w.kind == 7) = none →
    exec .pllLossOfLock s = .next (writeLedger 7 4 s.phase.pll (some u) { s with
      spare := { s.spare with waiting := s.spare.waiting.filter fun w => w.kind != 7 }, phase := { s.phase with pll := u } })) ∧
  (∀ s : State, freeSpare s 7 = none →
    exec .pllLossOfLock s = .next (raiseWorn 7 s.phase.pll 2 { s with spare := { s.spare with waiting := s.spare.waiting.filter fun w => w.kind != 7 } })) ∧
  (∀ (temp : Int) (s : State), s.pins.inReset = true → exec (.ageingSample temp) s = .next s) ∧
  (∀ (temp : Int) (s : State), s.pins.inReset = false → ∃ x, exec (.ageingSample temp) s = .next { s with spare := x } ∧
    x.bins = bump s.spare.bins (ageingBin temp) 1 ∧ x.eqMicros = s.spare.eqMicros + Config.ageing temp ∧ x.seconds = s.spare.seconds + 1 ∧
    ((s.spare.seconds + 1) % 86400 ≠ 0 → x.dayMicros = s.spare.dayMicros + Config.ageing temp ∧ x.days = s.spare.days) ∧
    ((s.spare.seconds + 1) % 86400 = 0 → x.dayMicros = 0 ∧ x.days = ((s.spare.dayMicros + Config.ageing temp) :: s.spare.days).take 365)) ∧
  (ageingBin (-4000) = 0 ∧ ageingBin (-3001) = 0 ∧ ageingBin (-3000) = 1 ∧ ageingBin 11999 = 15 ∧ ageingBin 12000 = 16 ∧ ageingBin 13000 = 16) ∧
  (∀ s : State, s.spare.waiting = [] → s.spare.finished = [] → exec .substitutionComplete s = .next s) ∧
  (∀ (w : Substitution) (r u cycle : Nat) (s : State), s.spare.waiting = [] → s.spare.finished = [(w, u, cycle)] → w.request = some r →
    exec .substitutionComplete s = .next (complete r (ok (le 4 u ++ zeros 4 ++ cycle64 cycle)) { s with spare := { s.spare with finished := [] } })) ∧
  Reads .spareInfo 0x1501 1 (· == 0) (fun _ _ => True)
    (fun _ s => le 1 (flag s.super.single 0) ++ zeros 3 ++ le 4 (chipDays s) ++ le 4 (eqHours s) ++ le 2 (ageingRate s)
      ++ [1, 2, 3, 4, 5, 6, 7, 8].flatMap fun k => le 2 (sat 65535 (inService s k)) ++ le 2 (freeSpares s k) ++ le 2 (retiredCount s k) ++ le 2 (worstWear s k) ++ le 4 (kindDays s k)) ∧
  Reads .spareLedger 0x1502 1 (· == 4) (fun c _ => 1 ≤ u8 c.pay 2 ∧ u8 c.pay 2 ≤ 31 ∧ u8 c.pay 3 = 0)
    (fun c s => le 1 ((s.spare.ledger.drop (u16 c.pay 0)).take (u8 c.pay 2)).length ++ zeros 1 ++ le 2 s.spare.ledger.length ++ zeros 4
      ++ ((s.spare.ledger.drop (u16 c.pay 0)).take (u8 c.pay 2)).flatMap SpareEntry.bytes) ∧
  Reads .spareWear 0x1503 1 (· == 8)
    (fun c _ => 1 ≤ u8 c.pay 0 ∧ u8 c.pay 0 ≤ 8 ∧ u8 c.pay 1 = 0 ∧ 1 ≤ u8 c.pay 2 ∧ u8 c.pay 2 ≤ 62 ∧ u8 c.pay 3 = 0 ∧ unitExists (u8 c.pay 0) (u32 c.pay 4) = true)
    (fun c s => le 1 (unitsFrom (u8 c.pay 0) (u8 c.pay 2) (u32 c.pay 4)).length ++ zeros 3 ++ (unitsFrom (u8 c.pay 0) (u8 c.pay 2) (u32 c.pay 4)).flatMap fun u =>
      le 4 u ++ le 1 (unitState s (u8 c.pay 0) u - 1) ++ zeros 1 ++ le 2 (s.unit (u8 c.pay 0) u).w ++ le 4 (unitAge s (u8 c.pay 0) u / 3600000000)
        ++ le 4 (remainingDays s (u8 c.pay 0) u)) ∧
  Reads .spareProfile 0x1504 1 (· == 0) (fun _ _ => True)
    (fun _ s => (List.range 17).flatMap (fun b => le 4 (fget 0 s.spare.bins b / 3600)) ++ le 4 (eqHours s) ++ le 2 (ageingRate s) ++ zeros 2) ∧
  (∀ m s c, asked s m 0x1505 3 (· == 8) c = true → u8 c.pay 0 = 1 ∨ u8 c.pay 0 = 5 ∨ u8 c.pay 0 = 7 ∨ u8 c.pay 0 = 8 → allZero (slice c.pay 1 3) = true →
    unitExists (u8 c.pay 0) (u32 c.pay 4) = true → unitState s (u8 c.pay 0) (u32 c.pay 4) = 1 → (spareFor s (u8 c.pay 0) (u32 c.pay 4)).isSome = true →
    kindBusy s (u8 c.pay 0) = false → s.mail.deferred.length < 16 →
    exec (.spareSwap m) s = .next (answer m { status := 1, job := some s.mail.jobs } (callSubstitution
      { kind := u8 c.pay 0, unit := u32 c.pay 4, cause := 3, request := some s.mail.jobs }
      { s with mail := { s.mail with jobs := s.mail.jobs + 1, deferred := s.mail.deferred ++
        [{ job := s.mail.jobs, code := 0x1505, tag := c.req.hdr.tag, session := c.session, who := c.req.who, mailbox := m, port := c.req.port, vid := c.req.vid,
           owner := c.owner, object := u32 c.pay 4 }] } }))) ∧
  TurnsAway .spareSwap 0x1505 3 (· == 8)
    (fun c s => (u8 c.pay 0 = 1 ∨ u8 c.pay 0 = 5 ∨ u8 c.pay 0 = 7 ∨ u8 c.pay 0 = 8) ∧ allZero (slice c.pay 1 3) = true ∧ unitExists (u8 c.pay 0) (u32 c.pay 4) = true ∧
      unitState s (u8 c.pay 0) (u32 c.pay 4) = 1 ∧ spareFor s (u8 c.pay 0) (u32 c.pay 4) = none) 8 ∧
  TurnsAway .spareSwap 0x1505 3 (· == 8) (fun c _ => u8 c.pay 0 ≠ 1 ∧ u8 c.pay 0 ≠ 5 ∧ u8 c.pay 0 ≠ 7 ∧ u8 c.pay 0 ≠ 8) 6

/-- Completes: SEC.SESSION_OPEN, SEC.SESSION_CLOSE, SEC.IDENTITY, SEC.ATTEST, SEC.OBJECT_READ, SEC.KEYS, SEC.KEY_SET, SEC.COUNTERS, SEC.RELINQUISH, ATTESTATION_COMPLETE. SESSION_OPEN issues a challenge in place of the requester's last, and takes parts in order from 0 into at most four buffers; a complete token that meets every check opens one more session with its role and a handle that is not 0, one that does not raises SYS.SESSION_REFUSED with the first status that applies and opens none. A claim sets token key 0 and configuration key 0 and closes debug access. KEY_SET writes or clears one slot and answers the digest, and never leaves the part without an owner key. ATTEST latches a body under the next serial and is deferred; ATTESTATION_COMPLETE keeps the signed report and completes with its hash. OBJECT_READ gives parts of at most 1,000 bytes. RELINQUISH empties the store and closes every session, and keeps the counters. A confirmed start raises the firmware and key counters to the floors of the running firmware. IDENTITY, KEYS and COUNTERS answer. -/
def Obligations.TokensKeysAndAttestation : Prop :=
  Completes .secSessionOpen 0x1601 0 openLength (fun c _ => u8 c.pay 0 = 0 ∧ u8 c.pay 1 ≤ 17 ∧ u16 c.pay 2 = 0)
    (fun c s => { s with
      free := s.free + 1
      mail := { s.mail with challenges := (s.mail.challenges.filter fun x => decide (x.who ≠ c.req.who)) ++
        [{ who := c.req.who, nonce := be 16 (Config.entropy s.free).toNat, issued := s.clock.ticksRun }] } })
    (fun _ s => be 16 (Config.entropy s.free).toNat) ∧
  Completes .secSessionOpen 0x1601 0 openLength
    (fun c s => u8 c.pay 0 = 1 ∧ u8 c.pay 1 = 0 ∧ u16 c.pay 2 = 0 ∧ c.pay.length = 1004 ∧ s.mail.tokens.length < 4)
    (fun c s => { s with mail := { s.mail with tokens := (s.mail.tokens.filter fun b => decide (b.who ≠ c.req.who)) ++
      [{ who := c.req.who, parts := 1, data := c.pay.drop 4 }] } })
    (fun c _ => le 2 (c.pay.drop 4).length ++ zeros 2) ∧
  (∀ b, Completes .secSessionOpen 0x1601 0 openLength
    (fun c s => u8 c.pay 0 = 1 ∧ 1 ≤ u8 c.pay 1 ∧ u8 c.pay 1 < 17 ∧ u16 c.pay 2 = 0 ∧ c.pay.length = 1004 ∧
      (s.mail.tokens.find? fun b => decide (b.who = c.req.who)) = some b ∧ b.parts = u8 c.pay 1)
    (fun c s => { s with mail := { s.mail with tokens := (s.mail.tokens.filter fun b => decide (b.who ≠ c.req.who)) ++
      [{ b with parts := u8 c.pay 1 + 1, data := b.data ++ c.pay.drop 4 }] } })
    (fun c _ => le 2 (b.data ++ c.pay.drop 4).length ++ zeros 2)) ∧
  (∀ m s c b u, asked s m 0x1601 0 openLength c = true → u8 c.pay 0 = 1 → u8 c.pay 1 = 17 → u16 c.pay 2 = 0 → c.pay.length = 220 →
    (s.mail.tokens.find? fun b => decide (b.who = c.req.who)) = some b → b.parts = 17 →
    u = { s with mail := { s.mail with tokens := s.mail.tokens.filter fun b => decide (b.who ≠ c.req.who) } } →
    exec (.secSessionOpen m) s = .next (answer m (finishToken c.req (b.data ++ c.pay.drop 4) u).2 (finishToken c.req (b.data ++ c.pay.drop 4) u).1)) ∧
  TurnsAway .secSessionOpen 0x1601 0 openLength
    (fun c s => u8 c.pay 0 = 1 ∧ u8 c.pay 1 = 0 ∧ u16 c.pay 2 = 0 ∧ 4 ≤ s.mail.tokens.length ∧ (s.mail.tokens.find? fun b => decide (b.who = c.req.who)) = none) 2 ∧
  TurnsAway .secSessionOpen 0x1601 0 openLength (fun c _ => 1 < u8 c.pay 0 ∨ 17 < u8 c.pay 1 ∨ u16 c.pay 2 ≠ 0) 6 ∧
  (∀ (r : Request) (t : List Byte) (s s1 : State), s1 = { s with mail := { s.mail with challenges := s.mail.challenges.filter fun c => decide (c.who ≠ r.who) } } →
    if checkToken s r t = 0 then
      ∃ x, (finishToken r t s).1.mail.sessions = s.mail.sessions ++ [x] ∧ x.role = u8 t 6 ∧ x.who = r.who ∧ x.handle ≠ 0 ∧
        (finishToken r t s).1.mail.challenges = s1.mail.challenges ∧ (finishToken r t s).2.status = 0
    else finishToken r t s = (raise 0x0103 [requesterKind r, checkToken s r t] s1, bad (checkToken s r t))) ∧
  (∀ (r : Request) (t : List Byte) (s : State),
    Config.verifies 4 (tokenKey s t) (t.take 128) (t.drop 128) = false ∨ u64 t 12 ≠ ownUid ∨ challengeMet s r.who (slice t 20 16) = false ∨
      u8 t 6 = 0 ∨ 3 < u8 t 6 ∨ 16 ≤ s.mail.sessions.length ∨ (bit (u8 t 7) 0 = false ∧ (s.sec.claimed = false ∨ (s.tokenSlot (u8 t 8)).ceiling < u8 t 6)) ∨
      (bit (u8 t 7) 0 = true ∧ (s.sec.claimed = true ∨ u8 t 6 ≠ 3 ∨ r.who ≠ .qspi)) →
    checkToken s r t ≠ 0) ∧
  (∀ (serial : Nat) (issuer config : List Byte) (s t : State), t = claimPart serial issuer config s → t.sec.claimed = true ∧ debugAccess t = false ∧
    t.tokenSlot 0 = { set := true, ceiling := 3, key := issuer } ∧ t.configSlot 0 = { set := true, key := config } ∧
    (∀ i, i ≠ 0 → t.tokenSlot i = s.tokenSlot i ∧ t.configSlot i = s.configSlot i)) ∧
  (∀ (f : RunningFw) (s : State), s.start.running = some f →
    (raiseCounters s).sec.fwCounter = max s.sec.fwCounter f.floor ∧ (raiseCounters s).sec.keyCounter = max s.sec.keyCounter f.keyFloor ∧
    (raiseCounters s).sec.cfgCounter = s.sec.cfgCounter) ∧
  Completes .secSessionClose 0x1602 1 (· == 0) (fun _ _ => True) (fun c s => closeSession c.session 0 s) (fun _ _ => []) ∧
  Reads .secIdentity 0x1603 0 (· == 0) (fun _ _ => True) (fun _ s => le 8 ownUid ++ identityKey ++ le 1 (flag s.sec.claimed 0) ++ zeros 3 ++ le 4 7920) ∧
  (∀ m s c, asked s m 0x1604 1 (· == 32) c = true → s.sec.attesting = none → s.mail.deferred.length < 16 → ∃ n, n = low32 (s.sec.serial + 1) ∧
    exec (.secAttest m) s = .next (answer m { status := 1, job := some s.mail.jobs }
      { s with
        mail := { s.mail with jobs := s.mail.jobs + 1, deferred := s.mail.deferred ++
          [{ job := s.mail.jobs, code := 0x1604, tag := c.req.hdr.tag, session := c.session, who := c.req.who, mailbox := m, port := c.req.port, vid := c.req.vid,
             owner := c.owner, object := 0 }] }
        sec := { s.sec with serial := n, attesting := some { job := s.mail.jobs, session := c.session, serial := n, body := attestBody c.pay n s } } })) ∧
  TurnsAway .secAttest 0x1604 1 (· == 32) (fun _ s => s.sec.attesting.isSome = true) 2 ∧
  TurnsAway .secAttest 0x1604 1 (· == 32) (fun _ s => s.sec.attesting = none ∧ 16 ≤ s.mail.deferred.length) 2 ∧
  (∀ s : State, s.sec.attesting = none → exec .attestationComplete s = .next s) ∧
  (∀ (a : Attesting) (report : List Byte) (s : State), s.sec.attesting = some a → report = a.body ++ (List.range 17088).map (Config.signatureByte a.body) →
    exec .attestationComplete s = .next (complete a.job (ok (le 4 a.serial ++ zeros 4 ++ sha256 report))
      { s with sec := { s.sec with attesting := none, report := some { session := a.session, bytes := report } } })) ∧
  Reads .secObjectRead 0x1605 0 (· == 4) (fun c _ => u8 c.pay 0 = 1 ∧ u16 c.pay 2 = 0 ∧ 1000 * u8 c.pay 1 < certificate.length)
    (fun c _ => le 4 certificate.length ++ le 1 (u8 c.pay 1) ++ zeros 1 ++ le 2 (slice certificate (1000 * u8 c.pay 1) 1000).length
      ++ slice certificate (1000 * u8 c.pay 1) 1000) ∧
  (∀ r, Reads .secObjectRead 0x1605 0 (· == 4)
    (fun c s => u8 c.pay 0 = 2 ∧ u16 c.pay 2 = 0 ∧ s.sec.report = some r ∧ r.session = c.session ∧ 1000 * u8 c.pay 1 < r.bytes.length)
    (fun c _ => le 4 r.bytes.length ++ le 1 (u8 c.pay 1) ++ zeros 1 ++ le 2 (slice r.bytes (1000 * u8 c.pay 1) 1000).length
      ++ slice r.bytes (1000 * u8 c.pay 1) 1000)) ∧
  TurnsAway .secObjectRead 0x1605 0 (· == 4) (fun c s => u8 c.pay 0 = 2 ∧ u16 c.pay 2 = 0 ∧ s.sec.report = none) 8 ∧
  (∀ r, TurnsAway .secObjectRead 0x1605 0 (· == 4) (fun c s => u8 c.pay 0 = 2 ∧ u16 c.pay 2 = 0 ∧ s.sec.report = some r ∧ r.session ≠ c.session) 5) ∧
  Reads .secKeys 0x1606 1 (· == 0) (fun _ _ => True)
    (fun _ s => le 1 (flag s.sec.claimed 0) ++ zeros 3 ++ (List.range 8).flatMap (fun i => (s.tokenSlot i).tokenBytes)
      ++ (List.range 2).flatMap (fun i => if (s.configSlot i).set then le 1 1 ++ zeros 1 ++ fit 32 (s.configSlot i).key else zeros 34) ++ keyDigest s) ∧
  Completes .secKeySet 0x1607 3 (· == 36)
    (fun c s => u8 c.pay 0 = 1 ∧ u8 c.pay 1 ≤ 7 ∧ u8 c.pay 2 = 1 ∧ 1 ≤ u8 c.pay 3 ∧ u8 c.pay 3 ≤ 3 ∧ allZero (c.pay.drop 4) = false ∧
      (lastOwnerKey s (u8 c.pay 1) = false ∨ u8 c.pay 3 = 3))
    (fun c s => raise 0x1602 [1, u8 c.pay 1, u8 c.pay 3, c.session] (s.setTokenSlot (u8 c.pay 1) { set := true, ceiling := u8 c.pay 3, key := c.pay.drop 4 }))
    (fun c s => keyDigest (s.setTokenSlot (u8 c.pay 1) { set := true, ceiling := u8 c.pay 3, key := c.pay.drop 4 })) ∧
  Completes .secKeySet 0x1607 3 (· == 36) (fun c s => u8 c.pay 0 = 1 ∧ u8 c.pay 1 ≤ 7 ∧ u8 c.pay 2 = 0 ∧ lastOwnerKey s (u8 c.pay 1) = false)
    (fun c s => raise 0x1602 [1, u8 c.pay 1, u8 c.pay 3, c.session] (s.setTokenSlot (u8 c.pay 1) {})) (fun c s => keyDigest (s.setTokenSlot (u8 c.pay 1) {})) ∧
  Completes .secKeySet 0x1607 3 (· == 36) (fun c _ => u8 c.pay 0 = 2 ∧ u8 c.pay 1 ≤ 1 ∧ u8 c.pay 2 = 1 ∧ allZero (c.pay.drop 4) = false)
    (fun c s => raise 0x1602 [2, u8 c.pay 1, u8 c.pay 3, c.session] (s.setConfigSlot (u8 c.pay 1) { set := true, key := c.pay.drop 4 }))
    (fun c s => keyDigest (s.setConfigSlot (u8 c.pay 1) { set := true, key := c.pay.drop 4 })) ∧
  Completes .secKeySet 0x1607 3 (· == 36) (fun c s => u8 c.pay 0 = 2 ∧ u8 c.pay 1 ≤ 1 ∧ u8 c.pay 2 = 0 ∧ (s.cfg.base.any fun b => b.key == u8 c.pay 1) = false)
    (fun c s => raise 0x1602 [2, u8 c.pay 1, u8 c.pay 3, c.session] (s.setConfigSlot (u8 c.pay 1) {})) (fun c s => keyDigest (s.setConfigSlot (u8 c.pay 1) {})) ∧
  (∀ m s c, asked s m 0x1607 3 (· == 36) c = true → u8 c.pay 0 = 1 → u8 c.pay 1 ≤ 7 → u8 c.pay 2 = 0 → lastOwnerKey s (u8 c.pay 1) = true →
    exec (.secKeySet m) s = .next (answer m { status := 7, payload := conflictPayload 0xFFFF1600 0 0 0 0 0 } s)) ∧
  Reads .secCounters 0x1608 1 (· == 0) (fun _ _ => True) (fun _ s => le 4 s.sec.fwCounter ++ le 4 s.sec.cfgCounter ++ le 4 s.sec.keyCounter ++ zeros 4) ∧
  Completes .secRelinquish 0x1609 3 (· == 8) (fun c _ => u64 c.pay 0 = ownUid)
    (fun c s => raise 0x1603 [c.session, ((findSession s c.session).map fun x => x.serial).getD 0]
      (closeAll 6 { s with sec := { s.sec with tokens := [], configs := [], claimed := false } })) (fun _ _ => []) ∧
  TurnsAway .secRelinquish 0x1609 3 (· == 8) (fun c _ => u64 c.pay 0 ≠ ownUid) 6

/-- For every state and every mailbox 0 to 14 whose FREE bit is clear: ringing its doorbell submits no request, so every mailbox's requests stand as before, and the mailbox's bit in HIF_DOORBELL_LOST is set afterwards. If the bit was clear, exactly one SYS.DOORBELL_LOST with the mailbox as parameter is raised; if it was set, none is. After the bit is cleared through HIF_DOORBELL_LOST, the next such ring raises it again. -/
def Obligations.DoorbellsOnBusyMailboxesAreIgnored : Prop :=
  ∀ (s : State) (m : Nat), m < 15 → s.hif.reqFree.getLsbD m = false → ∃ t u,
    t = { s.setMbxStats m { s.mbxStats m with lost := (s.mbxStats m).lost + 1 } with hif := { s.hif with lost := s.hif.lost ||| BitVec.twoPow 16 m } } ∧
    exec (.doorbellRing (BitVec.twoPow 32 m)) s = .next u ∧
    (s.hif.lost.getLsbD m = false → u = raise 0x0101 [m] t) ∧ (s.hif.lost.getLsbD m = true → u = t) ∧
    u.hif.lost.getLsbD m = true ∧ u.mail.queues = s.mail.queues ∧
    (∃ v w, exec (.doorbellLostClear (BitVec.twoPow 32 m)) u = .next v ∧ v = { u with hif := { u.hif with lost := u.hif.lost &&& ~~~(BitVec.twoPow 16 m) } } ∧
      v.hif.lost.getLsbD m = false ∧
      w = { v.setMbxStats m { v.mbxStats m with lost := (v.mbxStats m).lost + 1 } with hif := { v.hif with lost := v.hif.lost ||| BitVec.twoPow 16 m } } ∧
      exec (.doorbellRing (BitVec.twoPow 32 m)) v = .next (raise 0x0101 [m] w))

/-- For every recorder, report and newest entry (of the intake, or, with the intake empty, the newest record written) that is equal to the report under R596: if its repeat count is 65,535 and the intake has room, the report enters as a new last entry with repeat 1 and CONT set and nothing else changes, the count of the newest staying 65,535; if its repeat count is below 65,535, the report merges and no entry is added, the newest entry of the intake gaining 1 (so the count never passes 65,535). Every report made of an event has repeat 1. -/
def Obligations.RepeatCountsSaturate : Prop :=
  (∀ (r : Recorder) (e x : EventRecord), e.repeats = 1 → (if r.intake = [] then newestWritten r else r.intake.getLast?) = some x → mergeable e x = true →
    (x.repeats = 65535 → r.intake.length < 64 → ∃ n, n = { e with cont := true } ∧ n.repeats = 1 ∧ intakeTake r e = { r with intake := r.intake ++ [n] }) ∧
    (x.repeats < 65535 → (intakeTake r e).intake.length = r.intake.length ∧ (intakeTake r e).lost = r.lost) ∧
    (x.repeats < 65535 → r.intake ≠ [] → ∃ y, (intakeTake r e).intake.getLast? = some y ∧ y.repeats = x.repeats + 1)) ∧
  (∀ (s : State) (code : Nat) (params : List Nat), (recordOf s code params).repeats = 1)
end

