-- ==== Sys2Proof/Laws/Frames.lean ====
section
/-! SUPPORT. Frames of the shared operations of messaging: what raising an event and answering a request leave alone, once for each operation. -/

namespace Sys2Proof.Machine
open Sys2Proof

/-- What a state is compared with, and whether what answers change, and the requests of the mailboxes, must stand still too. -/
structure AsideRef where
  state : State
  messages : Prop
  queues : Prop
/-- Everything that raising an event, and answering a request, leave alone. -/
def asideOf (s : State) := (s.phase, s.abacus, s.carry, s.reck, s.commons, s.fbus, s.cfp, s.valve, s.fan, s.vent, s.sense, s.panel, s.clock, s.cfg.slotA, s.cfg.slotB, s.cfg.active, s.cfg.base, s.cfg.stack, s.cfg.loaded, s.cfg.staged, s.cfg.validating, s.cfg.nextBase, s.cfg.borrowed, s.cfg.report, s.cfg.triggers, s.engine.running, s.engine.loops, s.engine.queue, s.engine.recomputes, s.engine.processors, s.engine.thirds, s.engine.spareServes, s.engine.checkTurn, s.engine.checkedRod, s.engine.peakWaiting, s.engine.checks, s.engine.mismatches, s.engine.noMajority, s.engine.givenUp, s.super.state, s.super.single, s.super.cores, s.super.pauseRods, s.super.fwVerifying, s.super.fwCounters, s.super.fwStaged, s.super.fwChange, s.super.swapEnd, s.super.transients, s.super.watchdog, s.super.mismatchTicks, s.super.testing, s.super.retiring, s.ring.duplicates, s.ring.replacements, s.ring.evictRaised, s.ring.nodes, s.ring.proxies, s.ring.proxyRefused, s.ring.opened, s.ring.openedTicks, s.ring.supSeq, s.ring.supEast, s.ring.supWest, s.ring.supMissed, s.ring.supCounted, s.ring.delivered, s.ring.ptp, s.recorder.seq, s.recorder.armed, s.recorder.torn, s.hif.mode, s.hif.supPause, s.hif.lost, s.hif.cause, s.hif.irqMask, s.hif.copying, s.hif.claim, s.hif.nextOffset, s.hif.sent, s.mail.bound, s.mail.requesters, s.mail.refusedSources, s.mail.sessions, s.mail.handles, s.mail.subscriptions, s.mail.challenges, s.mail.tokens, s.mail.years, s.mail.outage, s.mail.rings, s.mail.jobs, s.mail.heldResponses, s.snap.schedule, s.snap.taken, s.start, s.spare, s.sec, s.pins, s.pending)
/-- What delivering a response or a completion may change besides. -/
def messagesOf (s : State) := (s.mail.kept, s.mail.deferred, s.mail.finished, s.hif.reqFree, s.super.warmAt, s.cfg.restartAt, s.cfg.restartJob)
/-- The requests of the mailboxes and the counters of SYS.MBX_STATS. -/
def queuesOf (s : State) := (s.mail.queues, s.mail.stats)
/-- A state differs from the one compared with at most in what events and answers change. -/
def Aside (ref : AsideRef) (s : State) : Prop :=
  asideOf s = asideOf ref.state ∧ (ref.messages → messagesOf s = messagesOf ref.state) ∧ (ref.queues → queuesOf s = queuesOf ref.state)
/-- An operation that raises events leaves the rest alone. -/
def AsideRaiser (ref : AsideRef) (rz : Raiser) : Prop := ∀ c ps s, Aside ref s → Aside ref (rz c ps s)
section
variable {ref : AsideRef}
theorem aside_mk (a b c d e f g h i j k l) : Aside ref (State.mk a b c d e f g h i j k l) ↔ ((a.phase, a.abacus, a.carry, a.reck, a.commons, a.fbus, a.cfp, a.valve, a.fan, a.vent, a.sense, a.panel, a.clock, a.cfg.slotA, a.cfg.slotB, a.cfg.active, a.cfg.base, a.cfg.stack, a.cfg.loaded, a.cfg.staged, a.cfg.validating, a.cfg.nextBase, a.cfg.borrowed, a.cfg.report, a.cfg.triggers, a.engine.running, a.engine.loops, a.engine.queue, a.engine.recomputes, a.engine.processors, a.engine.thirds, a.engine.spareServes, a.engine.checkTurn, a.engine.checkedRod, a.engine.peakWaiting, a.engine.checks, a.engine.mismatches, a.engine.noMajority, a.engine.givenUp, f.state, f.single, f.cores, f.pauseRods, f.fwVerifying, f.fwCounters, f.fwStaged, f.fwChange, f.swapEnd, f.transients, f.watchdog, f.mismatchTicks, f.testing, f.retiring, a.ring.duplicates, a.ring.replacements, a.ring.evictRaised, a.ring.nodes, a.ring.proxies, a.ring.proxyRefused, a.ring.opened, a.ring.openedTicks, a.ring.supSeq, a.ring.supEast, a.ring.supWest, a.ring.supMissed, a.ring.supCounted, a.ring.delivered, a.ring.ptp, a.recorder.seq, a.recorder.armed, a.recorder.torn, b.mode, b.supPause, b.lost, b.cause, b.irqMask, b.copying, b.claim, b.nextOffset, b.sent, c.bound, c.requesters, c.refusedSources, c.sessions, c.handles, c.subscriptions, c.challenges, c.tokens, c.years, c.outage, c.rings, c.jobs, c.heldResponses, d.schedule, d.taken, e, g, h, i, l) = asideOf ref.state ∧ (ref.messages → (c.kept, c.deferred, c.finished, b.reqFree, f.warmAt, a.cfg.restartAt, a.cfg.restartJob) = messagesOf ref.state) ∧ (ref.queues → (c.queues, c.stats) = queuesOf ref.state)) := Iff.rfl
theorem aside_fold (s : State) : ((s.phase, s.abacus, s.carry, s.reck, s.commons, s.fbus, s.cfp, s.valve, s.fan, s.vent, s.sense, s.panel, s.clock, s.cfg.slotA, s.cfg.slotB, s.cfg.active, s.cfg.base, s.cfg.stack, s.cfg.loaded, s.cfg.staged, s.cfg.validating, s.cfg.nextBase, s.cfg.borrowed, s.cfg.report, s.cfg.triggers, s.engine.running, s.engine.loops, s.engine.queue, s.engine.recomputes, s.engine.processors, s.engine.thirds, s.engine.spareServes, s.engine.checkTurn, s.engine.checkedRod, s.engine.peakWaiting, s.engine.checks, s.engine.mismatches, s.engine.noMajority, s.engine.givenUp, s.super.state, s.super.single, s.super.cores, s.super.pauseRods, s.super.fwVerifying, s.super.fwCounters, s.super.fwStaged, s.super.fwChange, s.super.swapEnd, s.super.transients, s.super.watchdog, s.super.mismatchTicks, s.super.testing, s.super.retiring, s.ring.duplicates, s.ring.replacements, s.ring.evictRaised, s.ring.nodes, s.ring.proxies, s.ring.proxyRefused, s.ring.opened, s.ring.openedTicks, s.ring.supSeq, s.ring.supEast, s.ring.supWest, s.ring.supMissed, s.ring.supCounted, s.ring.delivered, s.ring.ptp, s.recorder.seq, s.recorder.armed, s.recorder.torn, s.hif.mode, s.hif.supPause, s.hif.lost, s.hif.cause, s.hif.irqMask, s.hif.copying, s.hif.claim, s.hif.nextOffset, s.hif.sent, s.mail.bound, s.mail.requesters, s.mail.refusedSources, s.mail.sessions, s.mail.handles, s.mail.subscriptions, s.mail.challenges, s.mail.tokens, s.mail.years, s.mail.outage, s.mail.rings, s.mail.jobs, s.mail.heldResponses, s.snap.schedule, s.snap.taken, s.start, s.spare, s.sec, s.pins, s.pending) = asideOf ref.state ∧ (ref.messages → (s.mail.kept, s.mail.deferred, s.mail.finished, s.hif.reqFree, s.super.warmAt, s.cfg.restartAt, s.cfg.restartJob) = messagesOf ref.state) ∧ (ref.queues → (s.mail.queues, s.mail.stats) = queuesOf ref.state)) ↔ Aside ref s := Iff.rfl
theorem aside_raiser (rz : Raiser) (c ps) (s : State) (hrz : AsideRaiser ref rz) (hh : Aside ref s) : Aside ref (rz c ps s) := hrz c ps s hh
theorem aside_foldl {α} (f : State → α → State) (l : List α) (s : State) (h : Aside ref s) (hf : ∀ s a, Aside ref s → Aside ref (f s a)) : Aside ref (l.foldl f s) := by
  induction l generalizing s with
  | nil => exact h
  | cons a l ih => exact ih _ (hf _ _ h)
theorem State_takeByte_aside (s : State) (hh : Aside ref s) : Aside ref (State.takeByte s).2 := by
  unfold State.takeByte; dsimp only; simp only [aside_mk, aside_fold]; exact hh
theorem State_takeByte_aside_eq (s : State) {rq tq} (he : State.takeByte s = (rq, tq)) (hh : Aside ref s) : Aside ref tq := by
  have := State_takeByte_aside s hh
  rw [he] at this; exact this

theorem State_setPort_aside (s : State) (p : Nat) (x : Port) (hh : Aside ref s) : Aside ref (State.setPort s p x) := by
  unfold State.setPort; dsimp only; simp only [aside_mk, aside_fold]; exact hh

theorem State_countPort_aside (s : State) (p : Nat) (i : Nat) (hh : Aside ref s) : Aside ref (State.countPort s p i) := by
  unfold State.countPort; (try dsimp only); repeat' (first | with_reducible assumption | with_reducible apply State_setPort_aside | dsimp only)

theorem enqueueFrame_aside (rz : Raiser) (p : Nat) (cls : Nat) (f : EthFrame) (s : State) (hrz : AsideRaiser ref rz) (hh : Aside ref s) : Aside ref (enqueueFrame rz p cls f s) := by
  unfold enqueueFrame; (try dsimp only); repeat' (first | with_reducible assumption | with_reducible apply State_setPort_aside | with_reducible apply aside_raiser | split | dsimp only)

theorem sendRing_aside (rz : Raiser) (pcp : Nat) (f : EthFrame) (s : State) (hrz : AsideRaiser ref rz) (hh : Aside ref s) : Aside ref (sendRing rz pcp f s) := by
  unfold sendRing; (try dsimp only); repeat' (first | with_reducible assumption | with_reducible exact aside_raise | with_reducible apply enqueueFrame_aside | with_reducible apply aside_raiser | simp only [aside_mk, aside_fold] | split | dsimp only)

theorem sendHost_aside (rz : Raiser) (pcp : Nat) (f : EthFrame) (s : State) (hrz : AsideRaiser ref rz) (hh : Aside ref s) : Aside ref (sendHost rz pcp f s) := by
  unfold sendHost; (try dsimp only); repeat' (first | with_reducible assumption | with_reducible exact aside_raise | with_reducible apply enqueueFrame_aside | with_reducible apply aside_raiser | split | dsimp only)

theorem sendGroup_aside (rz : Raiser) (dst : Nat) (pcp : Nat) (subtype : Nat) (body : List Byte) (s : State) (hrz : AsideRaiser ref rz) (hh : Aside ref s) : Aside ref (sendGroup rz dst pcp subtype body s) := by
  unfold sendGroup; (try dsimp only); repeat' (first | with_reducible assumption | with_reducible exact aside_raise | with_reducible apply sendHost_aside | with_reducible apply sendRing_aside | with_reducible apply aside_raiser | split | dsimp only)

theorem sendLease_aside (rz : Raiser) (dst : Nat) (body : List Byte) (s : State) (hrz : AsideRaiser ref rz) (hh : Aside ref s) : Aside ref (sendLease rz dst body s) := by
  unfold sendLease; (try dsimp only); repeat' (first | with_reducible assumption | with_reducible exact aside_raise | with_reducible apply sendRing_aside | with_reducible apply aside_raiser | split | dsimp only)

theorem sendMailbox_aside (rz : Raiser) (mac : Nat) (vid : Nat) (pcp : Nat) (subtype : Nat) (body : List Byte) (s : State) (hrz : AsideRaiser ref rz) (hh : Aside ref s) : Aside ref (sendMailbox rz mac vid pcp subtype body s) := by
  unfold sendMailbox; (try dsimp only); repeat' (first | with_reducible assumption | with_reducible exact aside_raise | with_reducible apply sendHost_aside | with_reducible apply sendRing_aside | with_reducible apply aside_raiser | split | dsimp only)

theorem State_setBank_aside (s : State) (b : Nat) (x : SnapBank) (hh : Aside ref s) : Aside ref (State.setBank s b x) := by
  unfold State.setBank; dsimp only; simp only [aside_mk, aside_fold]; exact hh

theorem sendTrigger_aside (rz : Raiser) (i : Instant) (bank : Nat) (s : State) (hrz : AsideRaiser ref rz) (hh : Aside ref s) : Aside ref (sendTrigger rz i bank s) := by
  unfold sendTrigger; (try dsimp only); repeat' (first | with_reducible assumption | with_reducible exact aside_raise | with_reducible apply sendGroup_aside | with_reducible apply aside_raiser | dsimp only)

theorem State_setTrace_aside (s : State) (c : Nat) (x : Trace) (hh : Aside ref s) : Aside ref (State.setTrace s c x) := hh

theorem fireTrace_aside (c : Nat) (s : State) (hh : Aside ref s) : Aside ref (fireTrace c s) := by
  unfold fireTrace; (try dsimp only); repeat' (first | with_reducible assumption | with_reducible apply State_setTrace_aside | split | dsimp only)

theorem fireTraces_aside (trigger : Nat) (p : Trace → Bool) (s : State) (hh : Aside ref s) : Aside ref (fireTraces trigger p s) := by
  unfold fireTraces; (try dsimp only); repeat' (first | with_reducible assumption | with_reducible apply fireTrace_aside | with_reducible refine aside_foldl _ _ _ ?_ (fun _ _ _ => ?_) | with_reducible refine holds_foldl2 _ _ _ ?_ (fun _ _ _ => ?_) | split | dsimp only)

theorem strobe_aside (rz : Raiser) (b : Nat) (source : Nat) (late : Bool) (remote : Bool) (sender : Nat) (seq : Nat) (s : State) (hrz : AsideRaiser ref rz) (hh : Aside ref s) : Aside ref (strobe rz b source late remote sender seq s) := by
  unfold strobe; (try dsimp only); repeat' (first | with_reducible assumption | with_reducible apply State_setBank_aside | with_reducible apply fireTraces_aside | with_reducible apply aside_raiser | simp only [aside_mk, aside_fold] | split | dsimp only)

theorem ownStrobe_aside (rz : Raiser) (b : Nat) (source : Nat) (seq : Nat) (s : State) (hrz : AsideRaiser ref rz) (hh : Aside ref s) : Aside ref (ownStrobe rz b source seq s) := by
  unfold ownStrobe; (try dsimp only); repeat' (first | with_reducible assumption | with_reducible exact aside_raise | with_reducible apply strobe_aside | with_reducible apply sendTrigger_aside | with_reducible apply aside_raiser | split | dsimp only)

theorem placeNotice_aside (s : State) (hh : Aside ref s) : Aside ref (placeNotice s) := by
  unfold placeNotice; (try dsimp only); repeat' (first | with_reducible assumption | simp only [aside_mk, aside_fold] | with_reducible apply core_writeBytes | split | dsimp only)

theorem pushNotice_aside (n : Notice) (s : State) (hh : Aside ref s) : Aside ref (pushNotice n s) := by
  unfold pushNotice; (try dsimp only); repeat' (first | with_reducible assumption | with_reducible apply placeNotice_aside | simp only [aside_mk, aside_fold] | dsimp only)

theorem sendNotice_aside (rz : Raiser) (mac : Nat) (vid : Nat) (n : Notice) (s : State) (hrz : AsideRaiser ref rz) (hh : Aside ref s) : Aside ref (sendNotice rz mac vid n s) := by
  unfold sendNotice; (try dsimp only); repeat' (first | with_reducible assumption | with_reducible exact aside_raise | with_reducible apply State_takeByte_aside | with_reducible apply sendMailbox_aside | with_reducible apply aside_raiser | simp only [aside_mk, aside_fold] | split | refine State_takeByte_aside_eq _ (by with_reducible assumption) ?_ | dsimp only)

theorem countLost_aside (h : Nat) (code : Nat) (s : State) (hh : Aside ref s) : Aside ref (countLost h code s) := by
  unfold countLost; (try dsimp only); repeat' (first | with_reducible assumption | simp only [aside_mk, aside_fold] | split | dsimp only)

theorem notifyOne_aside (rz : Raiser) (r : EventRecord) (h : Nat) (s : State) (hrz : AsideRaiser ref rz) (hh : Aside ref s) : Aside ref (notifyOne rz r h s) := by
  unfold notifyOne; (try dsimp only); repeat' (first | with_reducible assumption | with_reducible exact aside_raise | with_reducible apply sendNotice_aside | with_reducible apply pushNotice_aside | with_reducible apply countLost_aside | with_reducible apply aside_raiser | split | dsimp only)

theorem notifyAll_aside (rz : Raiser) (r : EventRecord) (s : State) (hrz : AsideRaiser ref rz) (hh : Aside ref s) : Aside ref (notifyAll rz r s) := by
  unfold notifyAll; (try dsimp only); repeat' (first | with_reducible assumption | with_reducible exact aside_raise | with_reducible apply notifyOne_aside | with_reducible apply aside_raiser | with_reducible refine aside_foldl _ _ _ ?_ (fun _ _ _ => ?_) | with_reducible refine holds_foldl2 _ _ _ ?_ (fun _ _ _ => ?_) | dsimp only)

theorem intakeTake_writer (r : Recorder) (e : EventRecord) : (intakeTake r e).seq = r.seq ∧ (intakeTake r e).armed = r.armed ∧ (intakeTake r e).torn = r.torn := by
  unfold intakeTake
  split
  · split <;> exact ⟨rfl, rfl, rfl⟩
  · exact ⟨rfl, rfl, rfl⟩
  · exact ⟨rfl, rfl, rfl⟩
theorem takeReport_writer (r : Recorder) (e : EventRecord) : (takeReport r e).seq = r.seq ∧ (takeReport r e).armed = r.armed ∧ (takeReport r e).torn = r.torn := by
  unfold takeReport
  split
  · exact ⟨rfl, rfl, rfl⟩
  · exact intakeTake_writer (intakeBefore r e) e
theorem take_aside (s : State) (e : EventRecord) (hh : Aside ref s) : Aside ref { s with recorder := takeReport s.recorder e } := by
  rw [aside_mk]
  obtain ⟨h1, h2, h3⟩ := takeReport_writer s.recorder e
  rw [h1, h2, h3]
  exact hh
theorem reportWith_aside (rz : Raiser) (r : EventRecord) (s : State) (hrz : AsideRaiser ref rz) (hh : Aside ref s) : Aside ref (reportWith rz r s) := by
  unfold reportWith
  exact aside_foldl _ _ _ (take_aside _ _ hh) (fun t a h => ownStrobe_aside _ _ _ _ _ hrz h)

theorem raiseWith_aside (n code : Nat) (ps : List Nat) (s : State) (hh : Aside ref s) : Aside ref (raiseWith n code ps s) := by
  induction n generalizing code ps s with
  | zero => exact take_aside _ _ hh
  | succ n ih =>
    unfold raiseWith; dsimp only
    have h2 := reportWith_aside (raiseWith n) (recordOf s code ps) s (fun c ps s => ih c ps s) hh
    split
    · exact h2
    · exact notifyAll_aside _ _ _ (fun c ps s => ih c ps s) h2

theorem raise_aside (code : Nat) (ps : List Nat) (s : State) (hh : Aside ref s) : Aside ref (raise code ps s) := by
  unfold raise; exact raiseWith_aside 6 code ps s hh
theorem aside_raise : AsideRaiser ref raise := fun c ps s h => raise_aside c ps s h

theorem raiseAll_aside (l : List (Nat × List Nat)) (s : State) (hh : Aside ref s) : Aside ref (raiseAll l s) := by
  induction l generalizing s with
  | nil => exact hh
  | cons e es ih => exact ih _ (raise_aside _ _ _ hh)

theorem free_messages {s t : State} (hf : ¬ref.messages) (hh : Aside ref s) (h : asideOf t = asideOf s) (hq : queuesOf t = queuesOf s) : Aside ref t :=
  ⟨h.trans hh.1, fun hm => absurd hm hf, fun hx => hq.trans (hh.2.2 hx)⟩
theorem free_queues {s t : State} (hc : ¬ref.queues) (hh : Aside ref s) (h : asideOf t = asideOf s) (hq : messagesOf t = messagesOf s) : Aside ref t :=
  ⟨h.trans hh.1, fun hx => hq.trans (hh.2.1 hx), fun hm => absurd hm hc⟩
theorem notifyCompletion_aside (d : Deferred) (a : Answer) (s : State) (hf : ¬ref.messages) (hh : Aside ref s) : Aside ref (notifyCompletion d a s) := by
  unfold notifyCompletion; dsimp only
  split
  · exact free_messages hf (sendNotice_aside _ _ _ _ _ aside_raise hh) rfl rfl
  · split
    · exact free_messages hf (pushNotice_aside _ _ hh) rfl rfl
    · exact hh

theorem noteRestart_aside (d : Deferred) (s : State) (hf : ¬ref.messages) (hh : Aside ref s) : Aside ref (noteRestart d s) := by
  unfold noteRestart
  split
  · exact free_messages hf hh rfl rfl
  · exact hh

theorem deliverOne_aside (s : State) (d : Deferred) (hf : ¬ref.messages) (hh : Aside ref s) : Aside ref (deliverOne s d) := by
  unfold deliverOne; (try dsimp only); repeat' (first | with_reducible assumption | with_reducible apply noteRestart_aside | with_reducible apply notifyCompletion_aside | dsimp only)

theorem deliverCompletions_aside (s : State) (hf : ¬ref.messages) (hh : Aside ref s) : Aside ref (deliverCompletions s) := by
  unfold deliverCompletions; (try dsimp only); repeat' (first | with_reducible assumption | with_reducible apply deliverOne_aside | with_reducible refine aside_foldl _ _ _ ?_ (fun _ _ _ => ?_) | with_reducible refine holds_foldl2 _ _ _ ?_ (fun _ _ _ => ?_) | split | dsimp only)

theorem State_setEntries_aside (s : State) (m : Nat) (es : List Entry) (hc : ¬ref.queues) (hh : Aside ref s) : Aside ref (State.setEntries s m es) := free_queues hc hh rfl rfl

theorem State_setMbxStats_aside (s : State) (m : Nat) (x : MbxStats) (hc : ¬ref.queues) (hh : Aside ref s) : Aside ref (State.setMbxStats s m x) := free_queues hc hh rfl rfl

theorem releaseAccepted_aside (a : Answer) (s : State) (hf : ¬ref.messages) (hh : Aside ref s) : Aside ref (releaseAccepted a s) := by
  unfold releaseAccepted
  split
  · exact hh
  · exact deliverCompletions_aside _ hf (free_messages hf hh rfl rfl)

theorem noteWarm_aside (r : Request) (a : Answer) (s : State) (hf : ¬ref.messages) (hh : Aside ref s) : Aside ref (noteWarm r a s) := by
  unfold noteWarm
  split
  · exact free_messages hf hh rfl rfl
  · exact hh

theorem freeBusy_aside (m : Nat) (e : Entry) (s : State) (hf : ¬ref.messages) (hh : Aside ref s) : Aside ref (freeBusy m e s) := by
  unfold freeBusy
  split
  · exact free_messages hf hh rfl rfl
  · exact hh

theorem sendResponse_aside (m : Nat) (r : Request) (a : Answer) (mac : Nat) (s : State) (hf : ¬ref.messages) (hh : Aside ref s) : Aside ref (sendResponse m r a mac s) := by
  unfold sendResponse; dsimp only
  exact noteWarm_aside _ _ _ hf (releaseAccepted_aside _ _ hf (free_messages hf (sendMailbox_aside _ _ _ _ _ _ _ aside_raise hh) rfl rfl))

theorem flushEntries_aside (m : Nat) (x1 : List Entry) (x2 : State) (hf : ¬ref.messages) (hh : Aside ref x2) : Aside ref (flushEntries m x1 x2).2 := by
  induction x1 generalizing x2 with
  | nil => unfold flushEntries; exact hh
  | cons e es ih => unfold flushEntries; (try dsimp only); repeat' (first | with_reducible assumption | with_reducible apply ih | with_reducible apply freeBusy_aside | with_reducible apply noteWarm_aside | with_reducible apply sendResponse_aside | (simp only [aside_mk, aside_fold]) | split | (dsimp only))

theorem flush_aside (m : Nat) (s : State) (hf : ¬ref.messages) (hc : ¬ref.queues) (hh : Aside ref s) : Aside ref (flush m s) := by
  unfold flush; (try dsimp only); repeat' (first | with_reducible assumption | with_reducible apply flushEntries_aside | with_reducible apply State_setEntries_aside | split | refine flushEntries_aside_eq _ _ _ _ (by with_reducible assumption) ?_ | dsimp only)

theorem answer_aside (m : Nat) (a : Answer) (s : State) (hf : ¬ref.messages) (hc : ¬ref.queues) (hh : Aside ref s) : Aside ref (answer m a s) := by
  unfold answer; (try dsimp only); repeat' (first | with_reducible assumption | with_reducible apply State_setMbxStats_aside | with_reducible apply State_setEntries_aside | with_reducible apply flush_aside | split | dsimp only)

end

end Sys2Proof.Machine
end

