-- ==== Sys2Proof/Laws/Memory.lean ====
section
/-! SUPPORT. Laws of sparse tables and of the host window: what a read after a write gives, and that every write keeps the canonical form. -/

namespace Sys2Proof.Machine

/-! ## Sparse tables -/

@[simp] theorem fget_nil {α : Type} (d : α) (k : Nat) : fget d [] k = d := rfl

section Tables

variable {α : Type} [DecidableEq α]

/-- A lower bound may be lowered. -/
theorem fwfFrom_mono {d : α} {m : FMap α} {lo lo' : Nat} (h : fwfFrom d lo m = true) (hl : lo' ≤ lo) : fwfFrom d lo' m = true := by
  cases m with
  | nil => rfl
  | cons e m =>
    simp only [fwfFrom, Bool.and_eq_true, decide_eq_true_eq] at h ⊢
    exact ⟨⟨Nat.le_trans hl h.1.1, h.1.2⟩, h.2⟩

/-- Below the lower bound a table has no entry. -/
theorem fget_of_lt {d : α} {m : FMap α} {lo k : Nat} (h : fwfFrom d lo m = true) (hk : k < lo) : fget d m k = d := by
  induction m generalizing lo with
  | nil => rfl
  | cons e m ih =>
    simp only [fwfFrom, Bool.and_eq_true, decide_eq_true_eq] at h
    unfold fget
    rw [if_neg (by omega)]
    exact ih h.2 (by omega)

/-- Setting a key keeps the canonical form. -/
theorem fwfFrom_fput {d : α} {m : FMap α} {lo k : Nat} (v : α) (h : fwfFrom d lo m = true) (hk : lo ≤ k) :
    fwfFrom d lo (fput d m k v) = true := by
  induction m generalizing lo with
  | nil =>
    unfold fput
    split <;> simp_all [fwfFrom]
  | cons e m ih =>
    simp only [fwfFrom, Bool.and_eq_true, decide_eq_true_eq] at h
    obtain ⟨⟨h1, h2⟩, h3⟩ := h
    unfold fput
    split
    · split
      · simp [fwfFrom, h1, h2, h3]
      · rename_i hv
        simp only [fwfFrom, Bool.and_eq_true, decide_eq_true_eq]
        exact ⟨⟨hk, hv⟩, ⟨⟨by omega, h2⟩, h3⟩⟩
    · split
      · split
        · exact fwfFrom_mono h3 (by omega)
        · rename_i hv
          simp only [fwfFrom, Bool.and_eq_true, decide_eq_true_eq]
          refine ⟨⟨hk, hv⟩, ?_⟩
          rw [‹k = e.1›]; exact h3
      · simp only [fwfFrom, Bool.and_eq_true, decide_eq_true_eq]
        exact ⟨⟨h1, h2⟩, ih h3 (by omega)⟩

theorem fwf_fput {d : α} {m : FMap α} (k : Nat) (v : α) (h : fwf d m = true) : fwf d (fput d m k v) = true :=
  fwfFrom_fput v h (Nat.zero_le k)

/-- A key that is set reads as its value. -/
theorem fget_fput_from {d : α} {m : FMap α} {lo k : Nat} (v : α) (h : fwfFrom d lo m = true) : fget d (fput d m k v) k = v := by
  induction m generalizing lo with
  | nil => unfold fput; split <;> simp_all [fget]
  | cons e m ih =>
    simp only [fwfFrom, Bool.and_eq_true, decide_eq_true_eq] at h
    obtain ⟨⟨h1, h2⟩, h3⟩ := h
    unfold fput
    split
    · split
      · unfold fget
        rw [if_neg (by omega), ‹v = d›]
        exact fget_of_lt h3 (by omega)
      · simp [fget]
    · split
      · split
        · rw [‹v = d›, ‹k = e.1›]; exact fget_of_lt h3 (by omega)
        · simp [fget]
      · unfold fget
        rw [if_neg (fun h => by omega)]
        exact ih h3

@[simp] theorem fget_fput_same {d : α} {m : FMap α} (k : Nat) (v : α) (h : fwf d m = true) : fget d (fput d m k v) k = v :=
  fget_fput_from v h

/-- A key that is set to another value than the default reads as that value, whatever the table. -/
theorem fget_fput_ne {d : α} {m : FMap α} (k : Nat) {v : α} (hv : v ≠ d) : fget d (fput d m k v) k = v := by
  induction m with
  | nil => simp [fput, hv, fget]
  | cons e m ih =>
    unfold fput
    split
    · simp [hv, fget]
    · split
      · simp [hv, fget]
      · rw [fget, if_neg (fun h => by omega), ih]

/-- Any other key reads as before. -/
theorem fget_fput_other {d : α} {m : FMap α} {k j : Nat} (v : α) (hj : j ≠ k) : fget d (fput d m k v) j = fget d m j := by
  induction m with
  | nil =>
    unfold fput
    split
    · rfl
    · simp [fget, Ne.symm hj]
  | cons e m ih =>
    unfold fput
    split
    · split
      · rfl
      · rw [fget, if_neg (Ne.symm hj)]
    · split
      · have he : ¬ e.1 = j := by rw [← ‹k = e.1›]; exact Ne.symm hj
        split
        · rw [fget, if_neg he]
        · rw [fget, if_neg (Ne.symm hj), fget, if_neg he]
      · rw [fget, fget, ih]

end Tables

/-! ## The host window -/

/-- A byte write keeps the window canonical. -/
theorem wf_writeByte {m : List Host.Cell} (a : Nat) (b : Byte) (h : Memory.wf m = true) : Memory.wf (writeByte m a b) = true :=
  fwf_fput a b h

/-- A write of bytes keeps the window canonical. -/
theorem wf_writeBytes {m : List Host.Cell} (a : Nat) (bs : List Byte) (h : Memory.wf m = true) :
    Memory.wf (writeBytes m a bs) = true := by
  induction bs generalizing m a with
  | nil => exact h
  | cons b bs ih => exact ih (a + 1) (wf_writeByte a b h)

@[simp] theorem readByte_writeByte_same {m : List Host.Cell} (a : Nat) (b : Byte) (h : Memory.wf m = true) :
    readByte (writeByte m a b) a = b := fget_fput_same a b h

theorem readByte_writeByte_other {m : List Host.Cell} {a x : Nat} (b : Byte) (hx : x ≠ a) :
    readByte (writeByte m a b) x = readByte m x := fget_fput_other b hx

/-- Outside the bytes written every address reads as before. -/
theorem readByte_writeBytes_outside {m : List Host.Cell} {a x : Nat} (bs : List Byte) (hx : x < a ∨ a + bs.length ≤ x) :
    readByte (writeBytes m a bs) x = readByte m x := by
  induction bs generalizing m a with
  | nil => rfl
  | cons b bs ih =>
    simp only [List.length_cons] at hx
    unfold writeBytes
    rw [ih (by omega), readByte_writeByte_other b (by omega)]

/-- Inside them it reads as the byte written there. -/
theorem readByte_writeBytes_inside {m : List Host.Cell} {a : Nat} (bs : List Byte) (i : Nat) (hi : i < bs.length)
    (h : Memory.wf m = true) : readByte (writeBytes m a bs) (a + i) = bs[i] := by
  induction bs generalizing m a i with
  | nil => simp at hi
  | cons b bs ih =>
    unfold writeBytes
    cases i with
    | zero =>
      rw [readByte_writeBytes_outside bs (by omega)]
      simpa using readByte_writeByte_same a b h
    | succ i =>
      have := ih (m := writeByte m a b) (a := a + 1) i (by simpa using hi) (wf_writeByte a b h)
      simpa [Nat.add_assoc, Nat.add_comm 1 i] using this

end Sys2Proof.Machine
end

