-- ==== Sys2Proof/Laws/Keeps.lean ====
section
/-! SUPPORT. What every operation keeps, once for each: the queue of commands, rollback counters that never fall (and rise only where R669 and R670 say), the window's canonical form, and the sizes of the queues. -/

namespace Sys2Proof.Machine

open Sys2Proof
/-- What a state is compared with: a queue, three counters, and whether the firmware side and the configuration counter must stand still. -/
structure KeepsRef where
  queue : List Instr
  fw : Nat
  cfg : Nat
  key : Nat
  fwFixed : Prop
  cfgFixed : Prop
  canonical : Prop
  sized : Prop
/-- A counter is no lower than before, and the same where it must stand still. -/
def KeepsCounter (fixed : Prop) (a f : Nat) : Prop := a ≤ f ∧ (fixed → f = a)
theorem keepsCounter_max {fixed : Prop} {a f : Nat} (x : Nat) (h : KeepsCounter fixed a f) (hf : ¬fixed) : KeepsCounter fixed a (max f x) :=
  ⟨Nat.le_trans h.1 (Nat.le_max_left _ _), fun hx => absurd hx hf⟩
/-- The bounds of R52, R54, R65, R347, R350, R366, R595, R602 and R680. -/
structure KeepsSizes (df : List Deferred) (ss : List Session) (rq : List NetRequester) (nt : List Notice) (ik : List EventRecord)
    (tk : List TokenBuffer) (kp : List (Nat × EventRecord)) (du : List Duplicate) (px : List Proxy) : Prop where
  deferred : df.length ≤ 16
  sessions : ss.length ≤ 16
  requesters : rq.length ≤ 16
  events : (nt.filter fun x => !x.completion).length ≤ 48
  completions : (nt.filter Notice.completion).length ≤ 16
  intake : ik.length ≤ 64
  tokens : tk.length ≤ 4
  kept : kp.length ≤ 1024
  duplicates : du.length ≤ 4096
  proxies : px.length ≤ 16
/-- What is kept, as a fact about the fields alone. -/
def KeepsCore (ref : KeepsRef) (q : List Instr) (f g k : Nat) (w : List Host.Cell) (df : List Deferred) (ss : List Session) (rq : List NetRequester) (nt : List Notice) (ik : List EventRecord) (tk : List TokenBuffer) (kp : List (Nat × EventRecord)) (du : List Duplicate) (px : List Proxy) : Prop :=
  (q = ref.queue ∧ KeepsCounter ref.fwFixed ref.fw f ∧ KeepsCounter ref.cfgFixed ref.cfg g ∧ KeepsCounter ref.fwFixed ref.key k) ∧ (ref.canonical → Memory.wf w = true) ∧ (ref.sized → KeepsSizes df ss rq nt ik tk kp du px)
/-- What is kept, of a state. -/
def Keeps (ref : KeepsRef) (s : State) : Prop :=
  KeepsCore ref s.pending s.sec.fwCounter s.sec.cfgCounter s.sec.keyCounter s.window s.mail.deferred s.mail.sessions s.mail.requesters s.mail.notices s.recorder.intake s.mail.tokens s.recorder.kept s.ring.duplicates s.ring.proxies
/-- An operation that raises events keeps it. -/
def KeepsRaiser (ref : KeepsRef) (rz : Raiser) : Prop := ∀ c ps s, Keeps ref s → Keeps ref (rz c ps s)
/-- The body of a verb keeps it. -/
def KeepsBody {α : Type} (ref : KeepsRef) (body : Call → State → State × α) : Prop := ∀ c s, Keeps ref s → Keeps ref (body c s).1
section
variable {ref : KeepsRef}
theorem keeps_mk (a b c d e f g h i j k l) : Keeps ref (State.mk a b c d e f g h i j k l) ↔ KeepsCore ref l h.fwCounter h.cfgCounter h.keyCounter j c.deferred c.sessions c.requesters c.notices a.recorder.intake c.tokens a.recorder.kept a.ring.duplicates a.ring.proxies := Iff.rfl
theorem keeps_fold (s : State) : KeepsCore ref s.pending s.sec.fwCounter s.sec.cfgCounter s.sec.keyCounter s.window s.mail.deferred s.mail.sessions s.mail.requesters s.mail.notices s.recorder.intake s.mail.tokens s.recorder.kept s.ring.duplicates s.ring.proxies ↔ Keeps ref s := Iff.rfl
theorem keepsCore_writeBytes {q f g k w df ss rq nt ik tk kp du px} (x : Nat) (bs : List Byte) (h : KeepsCore ref q f g k w df ss rq nt ik tk kp du px) : KeepsCore ref q f g k (writeBytes w x bs) df ss rq nt ik tk kp du px :=
  ⟨h.1, fun z => wf_writeBytes x bs (h.2.1 z), h.2.2⟩
theorem keeps_raiser (rz : Raiser) (c ps) (s : State) (hrz : KeepsRaiser ref rz) (hh : Keeps ref s) : Keeps ref (rz c ps s) := hrz c ps s hh
theorem keeps_body {α : Type} (body : Call → State → State × α) (c) (s : State) (hb : KeepsBody ref body) (hh : Keeps ref s) : Keeps ref (body c s).1 := hb c s hh
theorem keeps_body_intro {α : Type} {body : Call → State → State × α} (h : ∀ c s, Keeps ref s → Keeps ref (body c s).1) : KeepsBody ref body := h
/-- Every next state of an outcome keeps it. -/
def KeepsOut (ref : KeepsRef) (o : Host.Outcome State Fault Refusal) : Prop := ∀ t, o = .next t → Keeps ref t
theorem keepsOut_next {t : State} (h : Keeps ref t) : KeepsOut ref (.next t) := fun _ e => by cases e; exact h
theorem keepsOut_fault {r : Fault} : KeepsOut ref (.fault r) := fun _ e => by cases e
theorem keeps_foldl2 {α β} (f : β × State → α → β × State) (l : List α) (x : β × State) (h : Keeps ref x.2) (hf : ∀ x a, Keeps ref x.2 → Keeps ref (f x a).2) : Keeps ref (l.foldl f x).2 := by
  induction l generalizing x with
  | nil => exact h
  | cons a l ih => exact ih _ (hf _ _ h)
theorem keepsCore_resize {q f g k w df ss rq nt ik tk kp du px df' ss' rq' nt' ik' tk' kp' du' px'} (h : KeepsCore ref q f g k w df ss rq nt ik tk kp du px) (hs : KeepsSizes df ss rq nt ik tk kp du px → KeepsSizes df' ss' rq' nt' ik' tk' kp' du' px') : KeepsCore ref q f g k w df' ss' rq' nt' ik' tk' kp' du' px' := ⟨h.1, h.2.1, fun z => hs (h.2.2 z)⟩
theorem intakeTake_length (r : Recorder) (e : EventRecord) (h : r.intake.length ≤ 64) : (intakeTake r e).intake.length ≤ 64 := by
  unfold intakeTake
  split
  · split
    · exact h
    · unfold mergeIntake
      cases hl : r.intake.getLast? with
      | none => simp; omega
      | some x =>
        have : r.intake ≠ [] := by intro h0; simp [h0] at hl
        have := List.length_pos_iff.mpr this
        simp; omega
  · exact h
  · rename_i hr
    have : r.intake.length < 64 := by
      apply Nat.lt_of_not_le; intro hl
      have hl : r.intake.length ≥ 64 := hl
      unfold intakeResult at hr
      simp only [hl, if_true] at hr
      (repeat' split at hr) <;> contradiction
    simp; omega
theorem intakeTake_kept (r : Recorder) (e : EventRecord) (h : r.kept.length ≤ 1024) : (intakeTake r e).kept.length ≤ 1024 := by
  unfold intakeTake
  split
  · split
    · unfold mergeWritten; simpa using h
    · exact h
  · exact h
  · exact h
theorem keepsSizes_take {df ss rq nt tk du px} {r : Recorder} (e : EventRecord) (h : KeepsSizes df ss rq nt r.intake tk r.kept du px) :
    KeepsSizes df ss rq nt (intakeTake r e).intake tk (intakeTake r e).kept du px :=
  { h with intake := intakeTake_length r e h.intake, kept := intakeTake_kept r e h.kept }
theorem laterEntries_length (r : Recorder) (e : EventRecord) : (laterEntries r e).length ≤ r.intake.length := by
  unfold laterEntries
  split
  · exact Nat.zero_le _
  · have := (List.takeWhile_prefix (fun x : EventRecord => !x.single && sameTick x e && entersAfter x e) (l := r.intake.reverse)).length_le
    simpa using this
theorem sizes_report {df ss rq nt tk du px} {r : Recorder} (e : EventRecord) (h : KeepsSizes df ss rq nt r.intake tk r.kept du px) :
    KeepsSizes df ss rq nt (takeReport r e).intake tk (takeReport r e).kept du px := by
  have hl := laterEntries_length r e
  have hb : (intakeBefore r e).intake.length = r.intake.length - (laterEntries r e).length := by simp [intakeBefore]
  have hk : (intakeTake (intakeBefore r e) e).kept.length ≤ 1024 := intakeTake_kept _ _ (by simpa [intakeBefore] using h.kept)
  have hi : (intakeTake (intakeBefore r e) e).intake.length ≤ (intakeBefore r e).intake.length + 1 := by
    unfold intakeTake
    split
    · split
      · exact Nat.le_succ _
      · unfold mergeIntake
        cases hl : (intakeBefore r e).intake.getLast? with
        | none => simp; omega
        | some x => simp
    · simp
    · simp
  have hm : intakeResult (intakeBefore r e) e = .merged → (intakeTake (intakeBefore r e) e).intake.length ≤ (intakeBefore r e).intake.length := by
    intro hr
    unfold intakeTake; rw [hr]; dsimp only
    split
    · exact Nat.le_refl _
    · rename_i hne
      unfold mergeIntake
      cases hl : (intakeBefore r e).intake.getLast? with
      | none => simp
      | some x =>
        have : (intakeBefore r e).intake ≠ [] := by intro h0; simp [h0] at hl
        have := List.length_pos_iff.mpr this
        simp; omega
  have h64 := h.intake
  unfold takeReport
  split
  · exact h
  · rename_i hr
    refine { h with intake := ?_, kept := hk }
    dsimp only
    rw [List.length_append]
    unfold reportResult at hr
    cases hq : intakeResult (intakeBefore r e) e with
    | merged => have := hm hq; omega
    | entered => rw [hq] at hr; dsimp only at hr; split at hr; contradiction; omega
    | lost => rw [hq] at hr; dsimp only at hr; split at hr; contradiction; omega
theorem insertAhead_counts (n : Notice) (l : List Notice) (hn : n.completion = false) :
    ((insertAhead n l).filter fun x => !x.completion).length = (l.filter fun x => !x.completion).length + 1 ∧
    ((insertAhead n l).filter Notice.completion).length = (l.filter Notice.completion).length := by
  induction l with
  | nil => simp [insertAhead, hn]
  | cons x xs ih =>
    unfold insertAhead
    split
    · rename_i hx
      simp [hx, ih]
    · rename_i hx
      simp [hx, hn]
theorem wf_foldl {α} (u : List Host.Cell → α → List Host.Cell) (l : List α) (w : List Host.Cell) (hu : ∀ w a, Memory.wf w = true → Memory.wf (u w a) = true) (h : Memory.wf w = true) : Memory.wf (l.foldl u w) = true := by
  induction l generalizing w with
  | nil => exact h
  | cons a l ih => exact ih _ (hu _ _ h)
theorem keeps_foldl {α} (f : State → α → State) (l : List α) (s : State) (h : Keeps ref s) (hf : ∀ s a, Keeps ref s → Keeps ref (f s a)) : Keeps ref (l.foldl f s) := by
  induction l generalizing s with
  | nil => exact h
  | cons a l ih => exact ih _ (hf _ _ h)
theorem State_atAngle_kept (s : State) (a : Nat) (hh : Keeps ref s) : Keeps ref (State.atAngle s a) := by
  unfold State.atAngle; dsimp only; simp only [keeps_mk, keeps_fold]; exact hh

theorem State_takeByte_kept (s : State) (hh : Keeps ref s) : Keeps ref (State.takeByte s).2 := by
  unfold State.takeByte; dsimp only; simp only [keeps_mk, keeps_fold]; exact hh
theorem State_takeByte_eq (s : State) {rq tq} (he : State.takeByte s = (rq, tq)) (hh : Keeps ref s) : Keeps ref tq := by
  have := State_takeByte_kept s hh
  rw [he] at this; exact this

theorem State_takeBool_kept (s : State) (hh : Keeps ref s) : Keeps ref (State.takeBool s).2 := by
  unfold State.takeBool; dsimp only; simp only [keeps_mk, keeps_fold]; exact hh
theorem State_takeBool_eq (s : State) {rq tq} (he : State.takeBool s = (rq, tq)) (hh : Keeps ref s) : Keeps ref tq := by
  have := State_takeBool_kept s hh
  rw [he] at this; exact this

theorem State_takeWord_kept (s : State) (hh : Keeps ref s) : Keeps ref (State.takeWord s).2 := by
  unfold State.takeWord; dsimp only; simp only [keeps_mk, keeps_fold]; exact hh
theorem State_takeWord_eq (s : State) {rq tq} (he : State.takeWord s = (rq, tq)) (hh : Keeps ref s) : Keeps ref tq := by
  have := State_takeWord_kept s hh
  rw [he] at this; exact this

theorem State_setPort_kept (s : State) (p : Nat) (x : Port) (hh : Keeps ref s) : Keeps ref (State.setPort s p x) := by
  unfold State.setPort; dsimp only; simp only [keeps_mk, keeps_fold]; exact hh

theorem State_countPort_kept (s : State) (p : Nat) (i : Nat) (hh : Keeps ref s) : Keeps ref (State.countPort s p i) := by
  unfold State.countPort; (try dsimp only); repeat' (first | with_reducible assumption | with_reducible apply State_setPort_kept | dsimp only)

theorem enqueueFrame_kept (rz : Raiser) (p : Nat) (cls : Nat) (f : EthFrame) (s : State) (hrz : KeepsRaiser ref rz) (hh : Keeps ref s) : Keeps ref (enqueueFrame rz p cls f s) := by
  unfold enqueueFrame; (try dsimp only); repeat' (first | with_reducible assumption | with_reducible apply State_setPort_kept | with_reducible apply keeps_raiser | split | dsimp only)

theorem sendRing_kept (rz : Raiser) (pcp : Nat) (f : EthFrame) (s : State) (hrz : KeepsRaiser ref rz) (hh : Keeps ref s) : Keeps ref (sendRing rz pcp f s) := by
  unfold sendRing; (try dsimp only); repeat' (first | with_reducible assumption | with_reducible exact keeps_raise | with_reducible apply enqueueFrame_kept | with_reducible apply keeps_raiser | simp only [keeps_mk, keeps_fold] | split | dsimp only)

theorem sendHost_kept (rz : Raiser) (pcp : Nat) (f : EthFrame) (s : State) (hrz : KeepsRaiser ref rz) (hh : Keeps ref s) : Keeps ref (sendHost rz pcp f s) := by
  unfold sendHost; (try dsimp only); repeat' (first | with_reducible assumption | with_reducible exact keeps_raise | with_reducible apply enqueueFrame_kept | with_reducible apply keeps_raiser | split | dsimp only)

theorem sendGroup_kept (rz : Raiser) (dst : Nat) (pcp : Nat) (subtype : Nat) (body : List Byte) (s : State) (hrz : KeepsRaiser ref rz) (hh : Keeps ref s) : Keeps ref (sendGroup rz dst pcp subtype body s) := by
  unfold sendGroup; (try dsimp only); repeat' (first | with_reducible assumption | with_reducible exact keeps_raise | with_reducible apply sendHost_kept | with_reducible apply sendRing_kept | with_reducible apply keeps_raiser | split | dsimp only)

theorem sendLease_kept (rz : Raiser) (dst : Nat) (body : List Byte) (s : State) (hrz : KeepsRaiser ref rz) (hh : Keeps ref s) : Keeps ref (sendLease rz dst body s) := by
  unfold sendLease; (try dsimp only); repeat' (first | with_reducible assumption | with_reducible exact keeps_raise | with_reducible apply sendRing_kept | with_reducible apply keeps_raiser | split | dsimp only)

theorem sendMailbox_kept (rz : Raiser) (mac : Nat) (vid : Nat) (pcp : Nat) (subtype : Nat) (body : List Byte) (s : State) (hrz : KeepsRaiser ref rz) (hh : Keeps ref s) : Keeps ref (sendMailbox rz mac vid pcp subtype body s) := by
  unfold sendMailbox; (try dsimp only); repeat' (first | with_reducible assumption | with_reducible exact keeps_raise | with_reducible apply sendHost_kept | with_reducible apply sendRing_kept | with_reducible apply keeps_raiser | split | dsimp only)

theorem State_setBank_kept (s : State) (b : Nat) (x : SnapBank) (hh : Keeps ref s) : Keeps ref (State.setBank s b x) := by
  unfold State.setBank; dsimp only; simp only [keeps_mk, keeps_fold]; exact hh

theorem sendTrigger_kept (rz : Raiser) (i : Instant) (bank : Nat) (s : State) (hrz : KeepsRaiser ref rz) (hh : Keeps ref s) : Keeps ref (sendTrigger rz i bank s) := by
  unfold sendTrigger; (try dsimp only); repeat' (first | with_reducible assumption | with_reducible exact keeps_raise | with_reducible apply sendGroup_kept | with_reducible apply keeps_raiser | dsimp only)

theorem State_setTrace_kept (s : State) (c : Nat) (x : Trace) (hh : Keeps ref s) : Keeps ref (State.setTrace s c x) := by
  unfold State.setTrace; dsimp only; simp only [keeps_mk, keeps_fold]; exact hh

theorem fireTrace_kept (c : Nat) (s : State) (hh : Keeps ref s) : Keeps ref (fireTrace c s) := by
  unfold fireTrace; (try dsimp only); repeat' (first | with_reducible assumption | with_reducible apply State_setTrace_kept | split | dsimp only)

theorem fireTraces_kept (trigger : Nat) (p : Trace → Bool) (s : State) (hh : Keeps ref s) : Keeps ref (fireTraces trigger p s) := by
  unfold fireTraces; (try dsimp only); repeat' (first | with_reducible assumption | with_reducible apply fireTrace_kept | with_reducible refine keeps_foldl _ _ _ ?_ (fun _ _ _ => ?_) | with_reducible refine keeps_foldl2 _ _ _ ?_ (fun _ _ _ => ?_) | split | dsimp only)

theorem strobe_kept (rz : Raiser) (b : Nat) (source : Nat) (late : Bool) (remote : Bool) (sender : Nat) (seq : Nat) (s : State) (hrz : KeepsRaiser ref rz) (hh : Keeps ref s) : Keeps ref (strobe rz b source late remote sender seq s) := by
  unfold strobe; (try dsimp only); repeat' (first | with_reducible assumption | with_reducible apply State_setBank_kept | with_reducible apply fireTraces_kept | with_reducible apply keeps_raiser | simp only [keeps_mk, keeps_fold] | split | dsimp only)

theorem ownStrobe_kept (rz : Raiser) (b : Nat) (source : Nat) (seq : Nat) (s : State) (hrz : KeepsRaiser ref rz) (hh : Keeps ref s) : Keeps ref (ownStrobe rz b source seq s) := by
  unfold ownStrobe; (try dsimp only); repeat' (first | with_reducible assumption | with_reducible exact keeps_raise | with_reducible apply strobe_kept | with_reducible apply sendTrigger_kept | with_reducible apply keeps_raiser | split | dsimp only)

theorem placeNotice_kept (s : State) (hh : Keeps ref s) : Keeps ref (placeNotice s) := by
  unfold placeNotice; (try dsimp only); repeat' (first | with_reducible assumption | simp only [keeps_mk, keeps_fold] | with_reducible apply keepsCore_writeBytes | split | dsimp only)

theorem pushNotice_kept (n : Notice) (s : State) (hn : if n.completion = true then (s.mail.notices.filter Notice.completion).length < 16 else (s.mail.notices.filter fun x => !x.completion).length < 48) (hh : Keeps ref s) : Keeps ref (pushNotice n s) := by
  unfold pushNotice
  apply placeNotice_kept
  rw [keeps_mk]
  refine keepsCore_resize hh (fun hs => ?_)
  have h0 := hs.events
  have h1 := hs.completions
  cases hc : n.completion <;> simp [hc] at hn
  · exact { hs with events := by simp [hc]; omega, completions := by simp [hc]; omega }
  · exact { hs with events := by simp [hc]; omega, completions := by simp [hc]; omega }

theorem sendNotice_kept (rz : Raiser) (mac : Nat) (vid : Nat) (n : Notice) (s : State) (hrz : KeepsRaiser ref rz) (hh : Keeps ref s) : Keeps ref (sendNotice rz mac vid n s) := by
  unfold sendNotice; (try dsimp only); repeat' (first | with_reducible assumption | with_reducible exact keeps_raise | with_reducible apply State_takeByte_kept | with_reducible apply sendMailbox_kept | with_reducible apply keeps_raiser | simp only [keeps_mk, keeps_fold] | split | refine State_takeByte_eq _ (by with_reducible assumption) ?_ | dsimp only)

theorem countLost_kept (h : Nat) (code : Nat) (s : State) (hh : Keeps ref s) : Keeps ref (countLost h code s) := by
  unfold countLost; (try dsimp only); repeat' (first | with_reducible assumption | simp only [keeps_mk, keeps_fold] | split | dsimp only)

theorem notifyOne_kept (rz : Raiser) (r : EventRecord) (h : Nat) (s : State) (hrz : KeepsRaiser ref rz) (hh : Keeps ref s) : Keeps ref (notifyOne rz r h s) := by
  unfold notifyOne; (try dsimp only); repeat' (first | (with_reducible apply pushNotice_kept; · simpa using ‹_›) | first | with_reducible assumption | with_reducible exact keeps_raise | with_reducible apply sendNotice_kept | with_reducible apply pushNotice_kept | with_reducible apply countLost_kept | with_reducible apply keeps_raiser | split | dsimp only)

theorem notifyAll_kept (rz : Raiser) (r : EventRecord) (s : State) (hrz : KeepsRaiser ref rz) (hh : Keeps ref s) : Keeps ref (notifyAll rz r s) := by
  unfold notifyAll; (try dsimp only); repeat' (first | with_reducible assumption | with_reducible exact keeps_raise | with_reducible apply notifyOne_kept | with_reducible apply keeps_raiser | with_reducible refine keeps_foldl _ _ _ ?_ (fun _ _ _ => ?_) | with_reducible refine keeps_foldl2 _ _ _ ?_ (fun _ _ _ => ?_) | dsimp only)

theorem reportWith_kept (rz : Raiser) (r : EventRecord) (s : State) (hrz : KeepsRaiser ref rz) (hh : Keeps ref s) : Keeps ref (reportWith rz r s) := by
  unfold reportWith
  refine keeps_foldl _ _ _ ?_ (fun t a h => ownStrobe_kept _ _ _ _ _ hrz h)
  exact keepsCore_resize hh (fun hs => sizes_report _ hs)

theorem raiseWith_kept (n code : Nat) (ps : List Nat) (s : State) (h : Keeps ref s) : Keeps ref (raiseWith n code ps s) := by
  induction n generalizing code ps s with
  | zero => unfold raiseWith; exact keepsCore_resize h (fun hs => sizes_report _ hs)
  | succ n ih =>
    unfold raiseWith; dsimp only
    have h2 := reportWith_kept (raiseWith n) (recordOf s code ps) s (fun c ps s => ih c ps s) h
    split
    · exact h2
    · exact notifyAll_kept _ _ _ (fun c ps s => ih c ps s) h2

@[simp] theorem raise_kept (code : Nat) (ps : List Nat) (s : State) (h : Keeps ref s) : Keeps ref (raise code ps s) := by
  unfold raise; exact raiseWith_kept 6 code ps s h
theorem keeps_raise : KeepsRaiser ref raise := fun c ps s h => raise_kept c ps s h

@[simp] theorem raiseAll_kept (l : List (Nat × List Nat)) (s : State) (h : Keeps ref s) : Keeps ref (raiseAll l s) := by
  induction l generalizing s with
  | nil => exact h
  | cons e es ih => exact ih _ (raise_kept _ _ _ h)

theorem noteRaise_kept (counter : Nat) (old : Nat) (new : Nat) (s : State) (hh : Keeps ref s) : Keeps ref (noteRaise counter old new s) := by
  unfold noteRaise; (try dsimp only); repeat' (first | with_reducible assumption | with_reducible exact keeps_raise | with_reducible apply raise_kept | split | dsimp only)

theorem notifyCompletion_kept (d : Deferred) (a : Answer) (s : State) (hh : Keeps ref s) : Keeps ref (notifyCompletion d a s) := by
  have keep : ∀ t : State, Keeps ref t → Keeps ref { t with mail := { t.mail with
      deferred := t.mail.deferred.filter fun x => x.job != d.job
      finished := { session := d.session, tag := d.tag, status := a.status } :: t.mail.finished } } := fun t ht =>
    keepsCore_resize ht (fun hs => { hs with deferred := Nat.le_trans (List.length_filter_le _ _) hs.deferred })
  unfold notifyCompletion
  dsimp only
  split
  · exact keep _ (sendNotice_kept _ _ _ _ _ keeps_raise hh)
  · split
    · rename_i hw
      exact keep _ (pushNotice_kept _ _ (by simpa [completionsWaiting] using hw) hh)
    · exact hh

theorem noteRestart_kept (d : Deferred) (s : State) (hh : Keeps ref s) : Keeps ref (noteRestart d s) := by
  unfold noteRestart; (try dsimp only); repeat' (first | with_reducible assumption | simp only [keeps_mk, keeps_fold] | split | dsimp only)

theorem deliverOne_kept (s : State) (d : Deferred) (hh : Keeps ref s) : Keeps ref (deliverOne s d) := by
  unfold deliverOne; (try dsimp only); repeat' (first | with_reducible assumption | with_reducible apply noteRestart_kept | with_reducible apply notifyCompletion_kept | dsimp only)

theorem deliverCompletions_kept (s : State) (hh : Keeps ref s) : Keeps ref (deliverCompletions s) := by
  unfold deliverCompletions; (try dsimp only); repeat' (first | with_reducible assumption | with_reducible apply deliverOne_kept | with_reducible refine keeps_foldl _ _ _ ?_ (fun _ _ _ => ?_) | with_reducible refine keeps_foldl2 _ _ _ ?_ (fun _ _ _ => ?_) | split | dsimp only)

theorem complete_kept (job : Nat) (a : Answer) (s : State) (hh : Keeps ref s) : Keeps ref (complete job a s) := by
  unfold complete
  apply deliverCompletions_kept
  exact keepsCore_resize hh (fun hs => { hs with deferred := by simpa using hs.deferred })

theorem State_setEntries_kept (s : State) (m : Nat) (es : List Entry) (hh : Keeps ref s) : Keeps ref (State.setEntries s m es) := by
  unfold State.setEntries; dsimp only; simp only [keeps_mk, keeps_fold]; exact hh

theorem State_setMbxStats_kept (s : State) (m : Nat) (x : MbxStats) (hh : Keeps ref s) : Keeps ref (State.setMbxStats s m x) := by
  unfold State.setMbxStats; dsimp only; simp only [keeps_mk, keeps_fold]; exact hh

theorem releaseAccepted_kept (a : Answer) (s : State) (hh : Keeps ref s) : Keeps ref (releaseAccepted a s) := by
  unfold releaseAccepted
  split
  · exact hh
  · apply deliverCompletions_kept
    exact keepsCore_resize hh (fun hs => { hs with deferred := by simpa using hs.deferred })

theorem noteWarm_kept (r : Request) (a : Answer) (s : State) (hh : Keeps ref s) : Keeps ref (noteWarm r a s) := by
  unfold noteWarm; (try dsimp only); repeat' (first | with_reducible assumption | simp only [keeps_mk, keeps_fold] | split | dsimp only)

theorem freeBusy_kept (m : Nat) (e : Entry) (s : State) (hh : Keeps ref s) : Keeps ref (freeBusy m e s) := by
  unfold freeBusy; (try dsimp only); repeat' (first | with_reducible assumption | simp only [keeps_mk, keeps_fold] | split | dsimp only)

theorem sendResponse_kept (m : Nat) (r : Request) (a : Answer) (mac : Nat) (s : State) (hh : Keeps ref s) : Keeps ref (sendResponse m r a mac s) := by
  unfold sendResponse; (try dsimp only); repeat' (first | with_reducible assumption | with_reducible exact keeps_raise | with_reducible apply sendMailbox_kept | with_reducible apply raise_kept | with_reducible apply noteWarm_kept | with_reducible apply releaseAccepted_kept | simp only [keeps_mk, keeps_fold] | split | dsimp only)

theorem flushEntries_kept (m : Nat) (x1 : List Entry) (x2 : State) (hh : Keeps ref x2) : Keeps ref (flushEntries m x1 x2).2 := by
  induction x1 generalizing x2 with
  | nil => unfold flushEntries; exact hh
  | cons e es ih => unfold flushEntries; (try dsimp only); repeat' (first | with_reducible assumption | with_reducible apply ih | with_reducible apply freeBusy_kept | with_reducible apply noteWarm_kept | with_reducible apply sendResponse_kept | (simp only [keeps_mk, keeps_fold]) | with_reducible apply keepsCore_writeBytes | split | (dsimp only))

theorem flush_kept (m : Nat) (s : State) (hh : Keeps ref s) : Keeps ref (flush m s) := by
  unfold flush; (try dsimp only); repeat' (first | with_reducible assumption | with_reducible apply flushEntries_kept | with_reducible apply State_setEntries_kept | split | refine flushEntries_eq _ _ _ (by with_reducible assumption) ?_ | dsimp only)

theorem addYear_kept (y : Nat) (excluded : Nat) (ms : Nat) (n : Nat) (s : State) (hh : Keeps ref s) : Keeps ref (addYear y excluded ms n s) := by
  unfold addYear; (try dsimp only); repeat' (first | with_reducible assumption | simp only [keeps_mk, keeps_fold] | split | dsimp only)

theorem creditYears_kept (x0 : Nat) (x1 : Nat) (x2 : Nat) (x3 : Nat) (x4 : Nat) (x5 : State) (hh : Keeps ref x5) : Keeps ref (creditYears x0 x1 x2 x3 x4 x5) := by
  induction x0 generalizing x1 x3 x4 x5 with
  | zero => unfold creditYears; exact addYear_kept _ _ _ _ _ hh
  | succ _ ih => unfold creditYears; split; exact addYear_kept _ _ _ _ _ hh; exact ih _ _ _ _ (addYear_kept _ _ _ _ _ hh)

theorem countInterval_kept (excluded : Nat) (ms : Nat) (s : State) (hh : Keeps ref s) : Keeps ref (countInterval excluded ms s) := by
  unfold countInterval; (try dsimp only); repeat' (first | with_reducible assumption | with_reducible apply addYear_kept | with_reducible apply creditYears_kept | dsimp only)

theorem beginOutage_kept (cause : Nat) (excluded : Nat) (s : State) (hh : Keeps ref s) : Keeps ref (beginOutage cause excluded s) := by
  unfold beginOutage; (try dsimp only); repeat' (first | with_reducible assumption | simp only [keeps_mk, keeps_fold] | split | dsimp only)

theorem endOutage_kept (s : State) (hh : Keeps ref s) : Keeps ref (endOutage s) := by
  unfold endOutage; (try dsimp only); repeat' (first | with_reducible assumption | with_reducible exact keeps_raise | with_reducible apply raise_kept | with_reducible apply countInterval_kept | simp only [keeps_mk, keeps_fold] | split | dsimp only)

theorem endCauses_kept (ended : Nat → Bool) (s : State) (hh : Keeps ref s) : Keeps ref (endCauses ended s) := by
  unfold endCauses; (try dsimp only); repeat' (first | with_reducible assumption | with_reducible apply endOutage_kept | simp only [keeps_mk, keeps_fold] | split | dsimp only)

theorem changeOutage_kept (cause : Nat) (excluded : Nat) (s : State) (hh : Keeps ref s) : Keeps ref (changeOutage cause excluded s) := by
  unfold changeOutage; (try dsimp only); repeat' (first | with_reducible assumption | with_reducible apply beginOutage_kept | with_reducible apply endOutage_kept | simp only [keeps_mk, keeps_fold] | split | dsimp only)

theorem briefOutage_kept (cause : Nat) (ms : Nat) (s : State) (hh : Keeps ref s) : Keeps ref (briefOutage cause ms s) := by
  unfold briefOutage; (try dsimp only); repeat' (first | with_reducible assumption | with_reducible exact keeps_raise | with_reducible apply raise_kept | with_reducible apply countInterval_kept | simp only [keeps_mk, keeps_fold] | split | dsimp only)

theorem checkLate_kept (s : State) (hh : Keeps ref s) : Keeps ref (checkLate s) := by
  unfold checkLate; (try dsimp only); repeat' (first | with_reducible assumption | with_reducible apply beginOutage_kept | simp only [keeps_mk, keeps_fold] | split | dsimp only)

theorem endLate_kept (s : State) (hh : Keeps ref s) : Keeps ref (endLate s) := by
  unfold endLate; (try dsimp only); repeat' (first | with_reducible assumption | with_reducible apply endCauses_kept | split | dsimp only)

theorem answer_kept (m : Nat) (a : Answer) (s : State) (hh : Keeps ref s) : Keeps ref (answer m a s) := by
  unfold answer; (try dsimp only); repeat' (first | with_reducible assumption | with_reducible apply State_setMbxStats_kept | with_reducible apply State_setEntries_kept | with_reducible apply flush_kept | split | dsimp only)

theorem serveLater_kept (code : Nat) (role : Nat) (lenOk : Nat → Bool) (body : Call → State → State × Option Answer) (m : Nat) (s : State) (hbody : KeepsBody ref body) (hh : Keeps ref s) : Keeps ref (serveLater code role lenOk body m s) := by
  unfold serveLater; (try dsimp only); repeat' (first | with_reducible assumption | with_reducible apply answer_kept | with_reducible apply State_setEntries_kept | with_reducible apply keeps_body | split | dsimp only)

@[simp] theorem serve_kept (code : Nat) (role : Nat) (lenOk : Nat → Bool) (body : Call → State → State × Answer) (m : Nat) (s : State) (hbody : KeepsBody ref body) (hh : Keeps ref s) : Keeps ref (serve code role lenOk body m s) := by
  unfold serve; exact serveLater_kept _ _ _ _ _ _ (fun c s h => hbody c s h) hh

@[simp] theorem serveRead_kept (code : Nat) (role : Nat) (lenOk : Nat → Bool) (body : Call → State → Answer) (m : Nat) (s : State) (hh : Keeps ref s) : Keeps ref (serveRead code role lenOk body m s) := by
  unfold serveRead; exact serve_kept _ _ _ _ _ _ (fun c s h => h) hh

theorem answerStarted_kept (m : Nat) (a : Answer) (s : State) (hh : Keeps ref s) : Keeps ref (answerStarted m a s) := by
  unfold answerStarted; (try dsimp only); repeat' (first | with_reducible assumption | with_reducible apply answer_kept | split | dsimp only)

theorem defer_kept (c : Call) (object : Nat) (s : State) (hh : Keeps ref s) : Keeps ref (defer c object s).1 := by
  unfold defer
  split
  · exact hh
  · exact keepsCore_resize hh (fun hs => { hs with deferred := by simp; omega })

theorem State_setCfgSlot_kept (s : State) (i : Nat) (x : ImageSlot) (hh : Keeps ref s) : Keeps ref (State.setCfgSlot s i x) := by
  unfold State.setCfgSlot; (try dsimp only); repeat' (first | with_reducible assumption | simp only [keeps_mk, keeps_fold] | split | dsimp only)

theorem State_setFwSlot_kept (s : State) (i : Nat) (x : ImageSlot) (hh : Keeps ref s) : Keeps ref (State.setFwSlot s i x) := by
  unfold State.setFwSlot; (try dsimp only); repeat' (first | with_reducible assumption | simp only [keeps_mk, keeps_fold] | split | dsimp only)

theorem lapseClaim_kept (s : State) (hh : Keeps ref s) : Keeps ref (lapseClaim s) := by
  unfold lapseClaim; (try dsimp only); repeat' (first | with_reducible assumption | with_reducible apply State_setFwSlot_kept | with_reducible apply State_setCfgSlot_kept | simp only [keeps_mk, keeps_fold] | split | dsimp only)

theorem closeSession_kept (h : Nat) (cause : Nat) (s : State) (hh : Keeps ref s) : Keeps ref (closeSession h cause s) := by
  unfold closeSession
  split
  · exact hh
  · have h1 : Keeps ref { s with mail := { s.mail with
        sessions := s.mail.sessions.filter fun x => x.handle != h
        subscriptions := s.mail.subscriptions.filter fun x => x.session != h
        lostNotices := s.mail.lostNotices.filter fun x => x.session != h
        finished := s.mail.finished.filter fun x => x.session != h } } :=
      keepsCore_resize hh (fun hs => { hs with sessions := Nat.le_trans (List.length_filter_le _ _) hs.sessions })
    revert h1
    generalize ({ s with mail := { s.mail with
        sessions := s.mail.sessions.filter fun x => x.handle != h
        subscriptions := s.mail.subscriptions.filter fun x => x.session != h
        lostNotices := s.mail.lostNotices.filter fun x => x.session != h
        finished := s.mail.finished.filter fun x => x.session != h } } : State) = s1
    intro h1
    dsimp only
    repeat' (first | with_reducible assumption | with_reducible exact keeps_raise | with_reducible apply lapseClaim_kept | with_reducible apply raise_kept | simp only [keeps_mk, keeps_fold] | split | dsimp only)

theorem closeAll_kept (cause : Nat) (s : State) (hh : Keeps ref s) : Keeps ref (closeAll cause s) := by
  unfold closeAll; (try dsimp only); repeat' (first | with_reducible assumption | with_reducible apply closeSession_kept | with_reducible refine keeps_foldl _ _ _ ?_ (fun _ _ _ => ?_) | with_reducible refine keeps_foldl2 _ _ _ ?_ (fun _ _ _ => ?_) | dsimp only)

theorem abandon_kept (cause : Nat) (s : State) (hh : Keeps ref s) : Keeps ref (abandon cause s) := by
  unfold abandon; (try dsimp only)
  have h1 : Keeps ref (if cause = 0 then s else closeAll cause s) := by repeat' (first | with_reducible assumption | with_reducible apply closeAll_kept | with_reducible apply lapseClaim_kept | with_reducible refine keeps_foldl _ _ _ ?_ (fun _ _ _ => ?_) | with_reducible refine keeps_foldl2 _ _ _ ?_ (fun _ _ _ => ?_) | simp only [keeps_mk, keeps_fold] | with_reducible apply keepsCore_writeBytes | split | dsimp only)
  have h2 := lapseClaim_kept _ h1
  rw [keeps_mk]
  refine ⟨⟨h2.1.1, h1.1.2⟩, fun z => ?_, fun z => ?_⟩
  · with_reducible refine wf_foldl _ _ _ ?_ ?_
    · intro w a hw; with_reducible exact wf_writeBytes _ _ hw
    · exact (h1.2.1 z)
  · have ht : (if cause = 0 then [] else (if cause = 0 then s else closeAll cause s).mail.tokens).length ≤ 4 := by
      split
      · exact Nat.zero_le _
      · rename_i hc; have := (h1.2.2 z).tokens; rw [if_neg hc] at this; exact this
    exact { (h2.2.2 z) with deferred := Nat.zero_le _, sessions := Nat.zero_le _, requesters := (h1.2.2 z).requesters, events := Nat.zero_le _, completions := Nat.zero_le _, tokens := ht }

theorem setMode_kept (m : Mode) (s : State) (hh : Keeps ref s) : Keeps ref (setMode m s) := by
  unfold setMode; (try dsimp only); repeat' (first | with_reducible assumption | simp only [keeps_mk, keeps_fold] | split | dsimp only)

theorem beginPause_kept (state : Nat) (s : State) (hh : Keeps ref s) : Keeps ref (beginPause state s) := by
  unfold beginPause; dsimp only; simp only [keeps_mk, keeps_fold]; exact hh

theorem endPause_kept (s : State) (hh : Keeps ref s) : Keeps ref (endPause s) := by
  unfold endPause; (try dsimp only); repeat' (first | with_reducible assumption | with_reducible exact keeps_raise | with_reducible apply sendMailbox_kept | with_reducible apply raise_kept | with_reducible apply placeNotice_kept | with_reducible apply deliverCompletions_kept | with_reducible apply flush_kept | with_reducible refine keeps_foldl _ _ _ ?_ (fun _ _ _ => ?_) | with_reducible refine keeps_foldl2 _ _ _ ?_ (fun _ _ _ => ?_) | simp only [keeps_mk, keeps_fold] | split | dsimp only)

theorem stageSwath_kept (level : Nat) (swath : Option Nat) (source : Nat) (number : Nat) (s : State) (hh : Keeps ref s) : Keeps ref (stageSwath level swath source number s) := by
  unfold stageSwath; (try dsimp only); repeat' (first | with_reducible assumption | simp only [keeps_mk, keeps_fold] | split | dsimp only)

theorem stageSet_kept (n : Nat) (source : Nat) (number : Nat) (s : State) (hh : Keeps ref s) : Keeps ref (stageSet n source number s) := by
  unfold stageSet; (try dsimp only); repeat' (first | with_reducible assumption | with_reducible apply stageSwath_kept | split | dsimp only)

theorem takeDelivered_eq (n : Nat) (s : State) {r t} (he : takeDelivered n s = some (r, t)) (hh : Keeps ref s) : Keeps ref t := by
  unfold takeDelivered at he; split at he
  · cases he
  · cases he; exact hh

theorem noteRequest_kept (s : State) (hh : Keeps ref s) : Keeps ref (noteRequest s) := by
  unfold noteRequest; (try dsimp only); repeat' (first | with_reducible assumption | with_reducible exact keeps_raise | with_reducible apply raise_kept | simp only [keeps_mk, keeps_fold] | split | dsimp only)

theorem acquireTurn_kept (s : State) (hh : Keeps ref s) : Keeps ref (acquireTurn s) := by
  unfold acquireTurn; dsimp only; simp only [keeps_mk, keeps_fold]; exact hh

theorem phaseTick_kept (s : State) (hh : Keeps ref s) : Keeps ref (phaseTick s) := by
  unfold phaseTick; (try dsimp only); repeat' (first | with_reducible assumption | with_reducible apply State_atAngle_kept | with_reducible apply acquireTurn_kept | split | dsimp only)

theorem bindMailbox_kept (m : Nat) (who : Requester) (s : State) (hh : Keeps ref s) : Keeps ref (bindMailbox m who s) := by
  unfold bindMailbox; (try dsimp only); repeat' (first | with_reducible assumption | simp only [keeps_mk, keeps_fold] | split | dsimp only)

theorem submit_kept (m : Nat) (r : Request) (s : State) (hh : Keeps ref s) : Keeps ref (submit m r s) := by
  unfold submit; (try dsimp only); repeat' (first | with_reducible assumption | with_reducible apply noteRequest_kept | with_reducible apply State_setMbxStats_kept | with_reducible apply State_setEntries_kept | with_reducible apply flush_kept | with_reducible apply bindMailbox_kept | simp only [keeps_mk, keeps_fold] | split | dsimp only)

theorem loseDoorbell_kept (m : Nat) (s : State) (hh : Keeps ref s) : Keeps ref (loseDoorbell m s) := by
  unfold loseDoorbell; (try dsimp only); repeat' (first | with_reducible assumption | with_reducible exact keeps_raise | with_reducible apply State_setMbxStats_kept | with_reducible apply raise_kept | simp only [keeps_mk, keeps_fold] | split | dsimp only)

theorem ringMailbox_kept (m : Nat) (s : State) (hh : Keeps ref s) : Keeps ref (ringMailbox m s) := by
  unfold ringMailbox; (try dsimp only); repeat' (first | with_reducible assumption | with_reducible apply submit_kept | with_reducible apply loseDoorbell_kept | split | dsimp only)

theorem ringDoorbells_kept (bits : Word) (s : State) (hh : Keeps ref s) : Keeps ref (ringDoorbells bits s) := by
  unfold ringDoorbells; (try dsimp only); repeat' (first | with_reducible assumption | with_reducible apply ringMailbox_kept | with_reducible refine keeps_foldl _ _ _ ?_ (fun _ _ _ => ?_) | with_reducible refine keeps_foldl2 _ _ _ ?_ (fun _ _ _ => ?_) | split | dsimp only)

theorem serveLost_kept (s : State) (hn : (s.mail.notices.filter fun x => !x.completion).length < 48) (hh : Keeps ref s) : Keeps ref (serveLost s) := by
  unfold serveLost
  split
  · exact hh
  · dsimp only
    refine reportWith_kept _ _ _ keeps_raise (keepsCore_resize hh (fun hs => { hs with events := ?_, completions := ?_ }))
    · rw [(insertAhead_counts _ _ rfl).1]; omega
    · rw [(insertAhead_counts _ _ rfl).2]; exact hs.completions

theorem releaseNotice_kept (s : State) (hh : Keeps ref s) : Keeps ref (releaseNotice s) := by
  unfold releaseNotice
  apply placeNotice_kept
  apply deliverCompletions_kept
  have h1 : Keeps ref { s with
      hif := { s.hif with respReady := s.hif.respReady &&& 0x7FFF#16 }
      mail := { s.mail with notices := s.mail.notices.drop 1, noticePlaced := false } } :=
    keepsCore_resize hh (fun hs => { hs with
      events := Nat.le_trans ((List.drop_sublist 1 s.mail.notices).filter _).length_le hs.events
      completions := Nat.le_trans ((List.drop_sublist 1 s.mail.notices).filter _).length_le hs.completions })
  dsimp only
  split
  · rename_i hc
    exact serveLost_kept _ hc.2 h1
  · exact h1

theorem releaseResponse_kept (m : Nat) (s : State) (hh : Keeps ref s) : Keeps ref (releaseResponse m s) := by
  unfold releaseResponse; (try dsimp only); repeat' (first | with_reducible assumption | with_reducible apply flush_kept | with_reducible apply State_setEntries_kept | with_reducible apply releaseAccepted_kept | with_reducible apply freeBusy_kept | simp only [keeps_mk, keeps_fold] | split | dsimp only)

theorem releaseOne_kept (m : Nat) (s : State) (hh : Keeps ref s) : Keeps ref (releaseOne m s) := by
  unfold releaseOne; (try dsimp only); repeat' (first | with_reducible assumption | with_reducible apply releaseNotice_kept | with_reducible apply releaseResponse_kept | split | dsimp only)

theorem releaseReady_kept (bits : Word) (s : State) (hh : Keeps ref s) : Keeps ref (releaseReady bits s) := by
  unfold releaseReady; (try dsimp only); repeat' (first | with_reducible assumption | with_reducible apply releaseOne_kept | with_reducible refine keeps_foldl _ _ _ ?_ (fun _ _ _ => ?_) | with_reducible refine keeps_foldl2 _ _ _ ?_ (fun _ _ _ => ?_) | split | dsimp only)

theorem clearLost_kept (bits : Word) (s : State) (hh : Keeps ref s) : Keeps ref (clearLost bits s) := by
  unfold clearLost; dsimp only; simp only [keeps_mk, keeps_fold]; exact hh

theorem clearCause_kept (bits : Word) (s : State) (hh : Keeps ref s) : Keeps ref (clearCause bits s) := by
  unfold clearCause; dsimp only; simp only [keeps_mk, keeps_fold]; exact hh

theorem writeWord_kept (a : Nat) (w : Word) (s : State) (hh : Keeps ref s) : Keeps ref (writeWord a w s) := by
  unfold writeWord; (try dsimp only); repeat' (first | with_reducible assumption | with_reducible apply ringDoorbells_kept | with_reducible apply releaseReady_kept | with_reducible apply clearLost_kept | with_reducible apply clearCause_kept | simp only [keeps_mk, keeps_fold] | with_reducible apply keepsCore_writeBytes | split | dsimp only)

theorem writeWords_kept (x0 : List Byte) (x1 : Nat) (x2 : State) (hh : Keeps ref x2) : Keeps ref (writeWords x0 x1 x2) := by
  fun_induction writeWords x0 x1 x2 with
  | case1 b0 b1 b2 b3 bs a s ih => exact ih (writeWord_kept _ _ _ hh)
  | case2 => exact hh

theorem execHostWindowWrite_kept (head : HostHead) (bytes : List Byte) (s : State) (hh : Keeps ref s) : KeepsOut ref (execHostWindowWrite head bytes s) := by
  unfold execHostWindowWrite; (try dsimp only); repeat' (first | with_reducible refine keepsOut_next ?_ | with_reducible assumption | with_reducible apply writeWords_kept | simp only [keeps_mk, keeps_fold] | split | dsimp only | with_reducible exact keepsOut_fault)

theorem execDoorbellRing_kept (bits : Word) (s : State) (hh : Keeps ref s) : KeepsOut ref (execDoorbellRing bits s) := by
  unfold execDoorbellRing; (try dsimp only); repeat' (first | with_reducible refine keepsOut_next ?_ | with_reducible assumption | with_reducible apply ringDoorbells_kept | dsimp only | with_reducible exact keepsOut_fault)

theorem execResponseRelease_kept (bits : Word) (s : State) (hh : Keeps ref s) : KeepsOut ref (execResponseRelease bits s) := by
  unfold execResponseRelease; (try dsimp only); repeat' (first | with_reducible refine keepsOut_next ?_ | with_reducible assumption | with_reducible apply releaseReady_kept | dsimp only | with_reducible exact keepsOut_fault)

theorem execDoorbellLostClear_kept (bits : Word) (s : State) (hh : Keeps ref s) : KeepsOut ref (execDoorbellLostClear bits s) := by
  unfold execDoorbellLostClear; (try dsimp only); repeat' (first | with_reducible refine keepsOut_next ?_ | with_reducible assumption | with_reducible apply clearLost_kept | dsimp only | with_reducible exact keepsOut_fault)

theorem execIrqCauseClear_kept (bits : Word) (s : State) (hh : Keeps ref s) : KeepsOut ref (execIrqCauseClear bits s) := by
  unfold execIrqCauseClear; (try dsimp only); repeat' (first | with_reducible refine keepsOut_next ?_ | with_reducible assumption | with_reducible apply clearCause_kept | dsimp only | with_reducible exact keepsOut_fault)

theorem refuseRequester_kept (mac : Nat) (m : Nat) (s : State) (hh : Keeps ref s) : Keeps ref (refuseRequester mac m s) := by
  unfold refuseRequester; (try dsimp only); repeat' (first | with_reducible assumption | with_reducible exact keeps_raise | with_reducible apply raise_kept | simp only [keeps_mk, keeps_fold] | split | dsimp only)

theorem sendOrHold_kept (mac : Nat) (vid : Nat) (pcp : Nat) (body : List Byte) (s : State) (hh : Keeps ref s) : Keeps ref (sendOrHold mac vid pcp body s) := by
  unfold sendOrHold; (try dsimp only); repeat' (first | with_reducible assumption | with_reducible exact keeps_raise | with_reducible apply sendMailbox_kept | with_reducible apply raise_kept | simp only [keeps_mk, keeps_fold] | split | dsimp only)

theorem answerStranger_kept (m : Nat) (r : Request) (mac : Nat) (s : State) (hh : Keeps ref s) : Keeps ref (answerStranger m r mac s) := by
  unfold answerStranger; (try dsimp only); repeat' (first | with_reducible assumption | with_reducible apply State_setMbxStats_kept | with_reducible apply sendOrHold_kept | dsimp only)

theorem networkRequest_kept (m : Nat) (seq : Nat) (msg : List Byte) (r : Request) (mac : Nat) (s : State) (hh : Keeps ref s) : Keeps ref (networkRequest m seq msg r mac s) := by
  unfold networkRequest; (try dsimp only); repeat' (first | with_reducible assumption | with_reducible apply noteRequest_kept | with_reducible apply sendOrHold_kept | with_reducible apply submit_kept | simp only [keeps_mk, keeps_fold] | split | dsimp only)

theorem core_requesters {t : State} (x : NetRequester) (hn : t.mail.requesters.length < 16) (h : Keeps ref t) : Keeps ref { t with mail := { t.mail with requesters := t.mail.requesters ++ [x] } } :=
  keepsCore_resize h (fun hs => { hs with requesters := by simp; omega })
theorem execMailboxRequestFrame_kept (s : State) (hh : Keeps ref s) : KeepsOut ref (execMailboxRequestFrame s) := by
  unfold execMailboxRequestFrame; (try dsimp only); repeat' (first | (refine core_requesters _ (by with_reducible assumption) ?_) | first | with_reducible refine keepsOut_next ?_ | with_reducible assumption | with_reducible apply takeDelivered_kept | with_reducible apply State_countPort_kept | with_reducible apply networkRequest_kept | with_reducible apply submit_kept | with_reducible apply refuseRequester_kept | with_reducible apply answerStranger_kept | with_reducible apply noteRequest_kept | simp only [keeps_mk, keeps_fold] | split | refine takeDelivered_eq _ _ (by with_reducible assumption) ?_ | dsimp only | with_reducible exact keepsOut_fault)

theorem execMailboxBindingExpiry_kept (mbx : Nat) (s : State) (hh : Keeps ref s) : KeepsOut ref (execMailboxBindingExpiry mbx s) := by
  unfold execMailboxBindingExpiry; (try dsimp only); repeat' (first | with_reducible refine keepsOut_next ?_ | with_reducible assumption | simp only [keeps_mk, keeps_fold] | split | dsimp only | with_reducible exact keepsOut_fault)

theorem execRequesterExpiry_kept (mac : Nat) (s : State) (hh : Keeps ref s) : KeepsOut ref (execRequesterExpiry mac s) := by
  unfold execRequesterExpiry
  split
  · exact keepsOut_next hh
  · exact keepsOut_next (keepsCore_resize hh (fun hs => { hs with requesters := Nat.le_trans (List.length_filter_le _ _) hs.requesters }))

theorem execSessionIdleTimeout_kept (handle : Nat) (s : State) (hh : Keeps ref s) : KeepsOut ref (execSessionIdleTimeout handle s) := by
  unfold execSessionIdleTimeout; (try dsimp only); repeat' (first | with_reducible refine keepsOut_next ?_ | with_reducible assumption | with_reducible apply closeSession_kept | dsimp only | with_reducible exact keepsOut_fault)

theorem execSessionExpiry_kept (handle : Nat) (s : State) (hh : Keeps ref s) : KeepsOut ref (execSessionExpiry handle s) := by
  unfold execSessionExpiry; (try dsimp only); repeat' (first | with_reducible refine keepsOut_next ?_ | with_reducible assumption | with_reducible apply closeSession_kept | split | dsimp only | with_reducible exact keepsOut_fault)

theorem execBulkClaimLapse_kept (s : State) (hh : Keeps ref s) : KeepsOut ref (execBulkClaimLapse s) := by
  unfold execBulkClaimLapse; (try dsimp only); repeat' (first | with_reducible refine keepsOut_next ?_ | with_reducible assumption | with_reducible apply lapseClaim_kept | dsimp only | with_reducible exact keepsOut_fault)

theorem execBulkCopyComplete_kept (s : State) (hh : Keeps ref s) : KeepsOut ref (execBulkCopyComplete s) := by
  unfold execBulkCopyComplete; (try dsimp only); repeat' (first | with_reducible refine keepsOut_next ?_ | with_reducible assumption | with_reducible apply State_setFwSlot_kept | with_reducible apply State_setCfgSlot_kept | simp only [keeps_mk, keeps_fold] | split | dsimp only | with_reducible exact keepsOut_fault)

theorem execTokenBufferTimeout_kept (buffer : Nat) (s : State) (hh : Keeps ref s) : KeepsOut ref (execTokenBufferTimeout buffer s) := keepsOut_next (keepsCore_resize hh (fun hs => { hs with tokens := Nat.le_trans (List.eraseIdx_sublist _ _).length_le hs.tokens }))

theorem execSysIdentify_kept (mbx : Nat) (s : State) (hh : Keeps ref s) : KeepsOut ref (execSysIdentify mbx s) := by
  unfold execSysIdentify; (try dsimp only); repeat' (first | with_reducible refine keepsOut_next ?_ | with_reducible assumption | with_reducible apply serveRead_kept | dsimp only | with_reducible exact keepsOut_fault)

theorem execSysPing_kept (mbx : Nat) (s : State) (hh : Keeps ref s) : KeepsOut ref (execSysPing mbx s) := by
  unfold execSysPing; (try dsimp only); repeat' (first | with_reducible refine keepsOut_next ?_ | with_reducible assumption | with_reducible apply serveRead_kept | dsimp only | with_reducible exact keepsOut_fault)

theorem execSysStatus_kept (mbx : Nat) (s : State) (hh : Keeps ref s) : KeepsOut ref (execSysStatus mbx s) := by
  unfold execSysStatus; (try dsimp only); repeat' (first | with_reducible refine keepsOut_next ?_ | with_reducible assumption | with_reducible apply serveRead_kept | dsimp only | with_reducible exact keepsOut_fault)

theorem execSysOutageRead_kept (mbx : Nat) (s : State) (hh : Keeps ref s) : KeepsOut ref (execSysOutageRead mbx s) := by
  unfold execSysOutageRead; (try dsimp only); repeat' (first | with_reducible refine keepsOut_next ?_ | with_reducible assumption | with_reducible apply serveRead_kept | split | dsimp only | with_reducible exact keepsOut_fault)

theorem execSysSubscribe_kept (mbx : Nat) (s : State) (hh : Keeps ref s) : KeepsOut ref (execSysSubscribe mbx s) := by
  unfold execSysSubscribe; (try dsimp only); repeat' (first | with_reducible refine keepsOut_next ?_ | with_reducible assumption | with_reducible apply serve_kept | with_reducible refine keeps_body_intro (fun _ _ _ => ?_) | simp only [keeps_mk, keeps_fold] | split | dsimp only | with_reducible exact keepsOut_fault)

theorem execSysBulkClaim_kept (mbx : Nat) (s : State) (hh : Keeps ref s) : KeepsOut ref (execSysBulkClaim mbx s) := by
  unfold execSysBulkClaim; (try dsimp only); repeat' (first | with_reducible refine keepsOut_next ?_ | with_reducible assumption | with_reducible apply serve_kept | with_reducible refine keeps_body_intro (fun _ _ _ => ?_) | simp only [keeps_mk, keeps_fold] | split | dsimp only | with_reducible exact keepsOut_fault)

theorem execSysBulkRelease_kept (mbx : Nat) (s : State) (hh : Keeps ref s) : KeepsOut ref (execSysBulkRelease mbx s) := by
  unfold execSysBulkRelease; (try dsimp only); repeat' (first | with_reducible refine keepsOut_next ?_ | with_reducible assumption | with_reducible apply serve_kept | with_reducible apply lapseClaim_kept | with_reducible refine keeps_body_intro (fun _ _ _ => ?_) | split | dsimp only | with_reducible exact keepsOut_fault)

theorem execSysBulkWrite_kept (mbx : Nat) (s : State) (hh : Keeps ref s) : KeepsOut ref (execSysBulkWrite mbx s) := by
  unfold execSysBulkWrite; (try dsimp only); repeat' (first | with_reducible refine keepsOut_next ?_ | with_reducible assumption | with_reducible apply serve_kept | with_reducible refine keeps_body_intro (fun _ _ _ => ?_) | simp only [keeps_mk, keeps_fold] | with_reducible apply keepsCore_writeBytes | split | dsimp only | with_reducible exact keepsOut_fault)

theorem execSysBulkCommit_kept (mbx : Nat) (s : State) (hh : Keeps ref s) : KeepsOut ref (execSysBulkCommit mbx s) := by
  unfold execSysBulkCommit; (try dsimp only); repeat' (first | with_reducible refine keepsOut_next ?_ | with_reducible assumption | with_reducible apply serve_kept | with_reducible refine keeps_body_intro (fun _ _ _ => ?_) | simp only [keeps_mk, keeps_fold] | split | dsimp only | with_reducible exact keepsOut_fault)

theorem execSysFwActivate_kept (mbx : Nat) (s : State) (hh : Keeps ref s) : KeepsOut ref (execSysFwActivate mbx s) := by
  unfold execSysFwActivate; (try dsimp only); repeat' (first | with_reducible refine keepsOut_next ?_ | with_reducible assumption | with_reducible apply serve_kept | with_reducible apply defer_kept | with_reducible refine keeps_body_intro (fun _ _ _ => ?_) | simp only [keeps_mk, keeps_fold] | split | refine defer_eq _ _ _ (by with_reducible assumption) ?_ | dsimp only | with_reducible exact keepsOut_fault)

theorem execSysWarmRestart_kept (mbx : Nat) (s : State) (hh : Keeps ref s) : KeepsOut ref (execSysWarmRestart mbx s) := by
  unfold execSysWarmRestart; (try dsimp only); repeat' (first | with_reducible refine keepsOut_next ?_ | with_reducible assumption | with_reducible apply serve_kept | with_reducible refine keeps_body_intro (fun _ _ _ => ?_) | dsimp only | with_reducible exact keepsOut_fault)

theorem execSysDeferredStatus_kept (mbx : Nat) (s : State) (hh : Keeps ref s) : KeepsOut ref (execSysDeferredStatus mbx s) := by
  unfold execSysDeferredStatus; (try dsimp only); repeat' (first | with_reducible refine keepsOut_next ?_ | with_reducible assumption | with_reducible apply serveRead_kept | split | dsimp only | with_reducible exact keepsOut_fault)

theorem execSysMbxStats_kept (mbx : Nat) (s : State) (hh : Keeps ref s) : KeepsOut ref (execSysMbxStats mbx s) := by
  unfold execSysMbxStats; (try dsimp only); repeat' (first | with_reducible refine keepsOut_next ?_ | with_reducible assumption | with_reducible apply serveRead_kept | dsimp only | with_reducible exact keepsOut_fault)

theorem completeFw_kept (a : Answer) (s : State) (hh : Keeps ref s) : Keeps ref (completeFw a s) := by
  unfold completeFw; (try dsimp only); repeat' (first | with_reducible assumption | with_reducible apply complete_kept | split | dsimp only)

theorem execFwVerificationComplete_kept (s : State) (hh : Keeps ref s) : KeepsOut ref (execFwVerificationComplete s) := by
  unfold execFwVerificationComplete; (try dsimp only); repeat' (first | with_reducible refine keepsOut_next ?_ | with_reducible assumption | with_reducible apply completeFw_kept | simp only [keeps_mk, keeps_fold] | split | dsimp only | with_reducible exact keepsOut_fault)

theorem applyFirmware_kept (s : State) (hh : Keeps ref s) : Keeps ref (applyFirmware s) := by
  unfold applyFirmware; (try dsimp only); repeat' (first | with_reducible assumption | with_reducible apply beginPause_kept | simp only [keeps_mk, keeps_fold] | split | dsimp only)

theorem execFirmwarePauseEnd_kept (s : State) (hh : Keeps ref s) : KeepsOut ref (execFirmwarePauseEnd s) := by
  unfold execFirmwarePauseEnd; (try dsimp only); repeat' (first | with_reducible refine keepsOut_next ?_ | with_reducible assumption | with_reducible exact keeps_raise | with_reducible apply raise_kept | with_reducible apply endPause_kept | with_reducible apply complete_kept | simp only [keeps_mk, keeps_fold] | split | dsimp only | with_reducible exact keepsOut_fault)

theorem execWarmRestartEnd_kept (s : State) (hh : Keeps ref s) : KeepsOut ref (execWarmRestartEnd s) := by
  unfold execWarmRestartEnd; (try dsimp only); repeat' (first | with_reducible refine keepsOut_next ?_ | with_reducible assumption | with_reducible apply endLate_kept | with_reducible apply endPause_kept | simp only [keeps_mk, keeps_fold] | split | dsimp only | with_reducible exact keepsOut_fault)

theorem execCfgInfo_kept (mbx : Nat) (s : State) (hh : Keeps ref s) : KeepsOut ref (execCfgInfo mbx s) := by
  unfold execCfgInfo; (try dsimp only); repeat' (first | with_reducible refine keepsOut_next ?_ | with_reducible assumption | with_reducible apply serveRead_kept | dsimp only | with_reducible exact keepsOut_fault)

theorem startValidation_kept (c : Call) (activate : Bool) (s : State) (hh : Keeps ref s) : Keeps ref (startValidation c activate s).1 := by
  unfold startValidation; (try dsimp only); repeat' (first | with_reducible assumption | with_reducible apply defer_kept | simp only [keeps_mk, keeps_fold] | split | refine defer_eq _ _ _ (by with_reducible assumption) ?_ | dsimp only)
theorem startValidation_eq (c : Call) (activate : Bool) (s : State) {rq tq} (he : startValidation c activate s = (tq, rq)) (hh : Keeps ref s) : Keeps ref tq := by
  have := startValidation_kept c activate s hh
  rw [he] at this; exact this

theorem execCfgValidate_kept (mbx : Nat) (s : State) (hh : Keeps ref s) : KeepsOut ref (execCfgValidate mbx s) := by
  unfold execCfgValidate; (try dsimp only); repeat' (first | with_reducible refine keepsOut_next ?_ | with_reducible assumption | with_reducible apply serve_kept | with_reducible apply startValidation_kept | with_reducible refine keeps_body_intro (fun _ _ _ => ?_) | refine startValidation_eq _ _ _ (by with_reducible assumption) ?_ | dsimp only | with_reducible exact keepsOut_fault)

theorem execCfgActivate_kept (mbx : Nat) (s : State) (hh : Keeps ref s) : KeepsOut ref (execCfgActivate mbx s) := by
  unfold execCfgActivate; (try dsimp only); repeat' (first | with_reducible refine keepsOut_next ?_ | with_reducible assumption | with_reducible apply serve_kept | with_reducible apply startValidation_kept | with_reducible refine keeps_body_intro (fun _ _ _ => ?_) | refine startValidation_eq _ _ _ (by with_reducible assumption) ?_ | dsimp only | with_reducible exact keepsOut_fault)

theorem stageActivation_kept (im : BaseImage) (v : Validation) (s : State) (hh : Keeps ref s) : Keeps ref (stageActivation im v s) := by
  unfold stageActivation; (try dsimp only); repeat' (first | with_reducible assumption | with_reducible apply complete_kept | simp only [keeps_mk, keeps_fold] | split | dsimp only)

theorem execConfigValidationComplete_kept (s : State) (hh : Keeps ref s) : KeepsOut ref (execConfigValidationComplete s) := by
  unfold execConfigValidationComplete; (try dsimp only); repeat' (first | with_reducible refine keepsOut_next ?_ | with_reducible assumption | with_reducible exact keeps_raise | with_reducible apply complete_kept | with_reducible apply State_setCfgSlot_kept | with_reducible apply stageActivation_kept | with_reducible apply raise_kept | simp only [keeps_mk, keeps_fold] | split | dsimp only | with_reducible exact keepsOut_fault)

theorem execCfgReport_kept (mbx : Nat) (s : State) (hh : Keeps ref s) : KeepsOut ref (execCfgReport mbx s) := by
  unfold execCfgReport; (try dsimp only); repeat' (first | with_reducible refine keepsOut_next ?_ | with_reducible assumption | with_reducible apply serveRead_kept | split | dsimp only | with_reducible exact keepsOut_fault)

theorem execCfgRead_kept (mbx : Nat) (s : State) (hh : Keeps ref s) : KeepsOut ref (execCfgRead mbx s) := by
  unfold execCfgRead; (try dsimp only); repeat' (first | with_reducible refine keepsOut_next ?_ | with_reducible assumption | with_reducible apply serveRead_kept | split | dsimp only | with_reducible exact keepsOut_fault)

theorem loadSwath_kept (c : Call) (b : BaseImage) (k : Claim) (s : State) (hh : Keeps ref s) : Keeps ref (loadSwath c b k s).1 := by
  unfold loadSwath; (try dsimp only); repeat' (first | with_reducible assumption | with_reducible exact keeps_raise | with_reducible apply raise_kept | simp only [keeps_mk, keeps_fold] | split | dsimp only)
theorem loadSwath_eq (c : Call) (b : BaseImage) (k : Claim) (s : State) {rq tq} (he : loadSwath c b k s = (tq, rq)) (hh : Keeps ref s) : Keeps ref tq := by
  have := loadSwath_kept c b k s hh
  rw [he] at this; exact this

theorem execCfgSwathLoad_kept (mbx : Nat) (s : State) (hh : Keeps ref s) : KeepsOut ref (execCfgSwathLoad mbx s) := by
  unfold execCfgSwathLoad; (try dsimp only); repeat' (first | with_reducible refine keepsOut_next ?_ | with_reducible assumption | with_reducible apply serve_kept | with_reducible apply loadSwath_kept | with_reducible refine keeps_body_intro (fun _ _ _ => ?_) | split | refine loadSwath_eq _ _ _ _ (by with_reducible assumption) ?_ | dsimp only | with_reducible exact keepsOut_fault)

theorem execCfgSwathSet_kept (mbx : Nat) (s : State) (hh : Keeps ref s) : KeepsOut ref (execCfgSwathSet mbx s) := by
  unfold execCfgSwathSet; (try dsimp only); repeat' (first | with_reducible refine keepsOut_next ?_ | with_reducible assumption | with_reducible apply serve_kept | with_reducible apply stageSet_kept | with_reducible refine keeps_body_intro (fun _ _ _ => ?_) | split | dsimp only | with_reducible exact keepsOut_fault)

theorem execCfgSwathClear_kept (mbx : Nat) (s : State) (hh : Keeps ref s) : KeepsOut ref (execCfgSwathClear mbx s) := by
  unfold execCfgSwathClear; (try dsimp only); repeat' (first | with_reducible refine keepsOut_next ?_ | with_reducible assumption | with_reducible apply serve_kept | with_reducible apply stageSwath_kept | with_reducible refine keeps_body_intro (fun _ _ _ => ?_) | split | dsimp only | with_reducible exact keepsOut_fault)

theorem execCfgSwathRead_kept (mbx : Nat) (s : State) (hh : Keeps ref s) : KeepsOut ref (execCfgSwathRead mbx s) := by
  unfold execCfgSwathRead; (try dsimp only); repeat' (first | with_reducible refine keepsOut_next ?_ | with_reducible assumption | with_reducible apply serveRead_kept | split | dsimp only | with_reducible exact keepsOut_fault)

theorem execCfgSwathDelete_kept (mbx : Nat) (s : State) (hh : Keeps ref s) : KeepsOut ref (execCfgSwathDelete mbx s) := by
  unfold execCfgSwathDelete; (try dsimp only); repeat' (first | with_reducible refine keepsOut_next ?_ | with_reducible assumption | with_reducible apply serve_kept | with_reducible refine keeps_body_intro (fun _ _ _ => ?_) | simp only [keeps_mk, keeps_fold] | split | dsimp only | with_reducible exact keepsOut_fault)

theorem applyOne_kept (x : Staged) (s : State) (hh : Keeps ref s) : Keeps ref (applyOne x s) := by
  unfold applyOne; (try dsimp only); repeat' (first | with_reducible assumption | with_reducible exact keeps_raise | with_reducible apply raise_kept | simp only [keeps_mk, keeps_fold] | split | dsimp only)

theorem applyStagedFrom_kept (x0 : List Staged) (x1 : State) (hh : Keeps ref x1) : Keeps ref (applyStagedFrom x0 x1) := by
  induction x0 generalizing x1 with
  | nil => unfold applyStagedFrom; exact hh
  | cons _ _ ih => unfold applyStagedFrom; (try dsimp only); (repeat' (first | with_reducible apply ih | first | with_reducible assumption | with_reducible exact keeps_raise | with_reducible apply raise_kept | with_reducible apply applyOne_kept | with_reducible apply keeps_raiser | with_reducible apply keeps_body | with_reducible refine keeps_foldl _ _ _ ?_ (fun _ _ _ => ?_) | with_reducible refine keeps_foldl2 _ _ _ ?_ (fun _ _ _ => ?_) | with_reducible refine keeps_body_intro (fun _ _ _ => ?_) | simp only [keeps_mk, keeps_fold] | with_reducible apply keepsCore_writeBytes | split | dsimp only))

theorem applyStaged_kept (s : State) (hh : Keeps ref s) : Keeps ref (applyStaged s) := by
  unfold applyStaged; (try dsimp only); repeat' (first | with_reducible assumption | with_reducible apply applyStagedFrom_kept | simp only [keeps_mk, keeps_fold] | split | dsimp only)

theorem recheckLevel_kept (l : Nat) (s : State) (hh : Keeps ref s) : Keeps ref (recheckLevel l s) := by
  unfold recheckLevel; (try dsimp only); repeat' (first | with_reducible assumption | with_reducible exact keeps_raise | with_reducible apply raise_kept | simp only [keeps_mk, keeps_fold] | split | dsimp only)

theorem settleTrim_kept (s : State) (hh : Keeps ref s) : Keeps ref (settleTrim s) := by
  unfold settleTrim; (try dsimp only); repeat' (first | with_reducible assumption | simp only [keeps_mk, keeps_fold] | split | dsimp only)

theorem becomeActive_kept (im : BaseImage) (slot : Nat) (preserving : Bool) (s : State) (hc : ¬ref.cfgFixed) (hh : Keeps ref s) : Keeps ref (becomeActive im slot preserving s) := by
  unfold becomeActive; (try dsimp only)
  repeat' (first | exact ⟨⟨hh.1.1, hh.1.2.1, keepsCounter_max _ hh.1.2.2.1 hc, hh.1.2.2.2⟩, hh.2⟩ | first | with_reducible assumption | with_reducible exact keeps_raise | with_reducible apply noteRaise_kept | with_reducible apply raise_kept | with_reducible apply settleTrim_kept | with_reducible apply recheckLevel_kept | simp only [keeps_mk, keeps_fold] | dsimp only)

theorem applyNextBase_kept (s : State) (hc : ¬ref.cfgFixed) (hh : Keeps ref s) : Keeps ref (applyNextBase s) := by
  unfold applyNextBase; (try dsimp only); repeat' (first | with_reducible assumption | with_reducible apply becomeActive_kept | simp only [keeps_mk, keeps_fold] | split | dsimp only)

theorem State_setInput_kept (s : State) (p : Nat) (x : PhaseInput) (hh : Keeps ref s) : Keeps ref (State.setInput s p x) := by
  unfold State.setInput; dsimp only; simp only [keeps_mk, keeps_fold]; exact hh

theorem refollow_kept (s : State) (hh : Keeps ref s) : Keeps ref (refollow s) := by
  unfold refollow; (try dsimp only); repeat' (first | with_reducible assumption | with_reducible exact keeps_raise | with_reducible apply raise_kept | simp only [keeps_mk, keeps_fold] | split | dsimp only)

theorem dropMaster_kept (s : State) (hh : Keeps ref s) : Keeps ref (dropMaster s) := by
  unfold dropMaster; (try dsimp only); repeat' (first | with_reducible assumption | with_reducible apply refollow_kept | simp only [keeps_mk, keeps_fold] | split | dsimp only)

theorem enterState_kept (st : TbState) (s : State) (hh : Keeps ref s) : Keeps ref (enterState st s) := by
  unfold enterState; (try dsimp only); repeat' (first | with_reducible assumption | with_reducible apply dropMaster_kept | simp only [keeps_mk, keeps_fold] | dsimp only)

theorem enterLocked_kept (e : Int) (s : State) (hh : Keeps ref s) : Keeps ref (enterLocked e s) := by
  unfold enterLocked; (try dsimp only); repeat' (first | with_reducible assumption | with_reducible exact keeps_raise | with_reducible apply raise_kept | with_reducible apply enterState_kept | dsimp only)

theorem raiseSlew_kept (e : Int) (s : State) (hh : Keeps ref s) : Keeps ref (raiseSlew e s) := by
  unfold raiseSlew; (try dsimp only); repeat' (first | with_reducible assumption | with_reducible exact keeps_raise | with_reducible apply raise_kept | dsimp only)

theorem enterSlew_kept (e : Int) (s : State) (hh : Keeps ref s) : Keeps ref (enterSlew e s) := by
  unfold enterSlew; (try dsimp only); repeat' (first | with_reducible assumption | with_reducible apply enterState_kept | with_reducible apply raiseSlew_kept | simp only [keeps_mk, keeps_fold] | dsimp only)

theorem enterFlywheel_kept (s : State) (hh : Keeps ref s) : Keeps ref (enterFlywheel s) := by
  unfold enterFlywheel; (try dsimp only); repeat' (first | with_reducible assumption | with_reducible exact keeps_raise | with_reducible apply enterState_kept | with_reducible apply raise_kept | simp only [keeps_mk, keeps_fold] | dsimp only)

theorem enterNominal_kept (s : State) (hh : Keeps ref s) : Keeps ref (enterNominal s) := by
  unfold enterNominal; (try dsimp only); repeat' (first | with_reducible assumption | with_reducible exact keeps_raise | with_reducible apply enterState_kept | with_reducible apply raise_kept | simp only [keeps_mk, keeps_fold] | dsimp only)

theorem slewCrossing_kept (e : Int) (s : State) (hh : Keeps ref s) : Keeps ref (slewCrossing e s) := by
  unfold slewCrossing; (try dsimp only); repeat' (first | with_reducible assumption | with_reducible apply enterLocked_kept | with_reducible apply raiseSlew_kept | simp only [keeps_mk, keeps_fold] | split | dsimp only)

theorem lockedCrossing_kept (e : Int) (s : State) (hh : Keeps ref s) : Keeps ref (lockedCrossing e s) := by
  unfold lockedCrossing; (try dsimp only); repeat' (first | with_reducible assumption | with_reducible apply enterSlew_kept | simp only [keeps_mk, keeps_fold] | split | dsimp only)

theorem acquireLock_kept (e : Int) (s : State) (hh : Keeps ref s) : Keeps ref (acquireLock e s) := by
  unfold acquireLock; (try dsimp only); repeat' (first | with_reducible assumption | with_reducible apply enterLocked_kept | simp only [keeps_mk, keeps_fold] | dsimp only)

theorem referenceCrossing_kept (e16 : Int) (s : State) (hh : Keeps ref s) : Keeps ref (referenceCrossing e16 s) := by
  unfold referenceCrossing; (try dsimp only); repeat' (first | with_reducible assumption | with_reducible apply acquireLock_kept | with_reducible apply lockedCrossing_kept | with_reducible apply slewCrossing_kept | with_reducible apply enterLocked_kept | with_reducible apply enterSlew_kept | simp only [keeps_mk, keeps_fold] | split | dsimp only)

theorem checkRotation_kept (s : State) (hh : Keeps ref s) : Keeps ref (checkRotation s) := by
  unfold checkRotation; (try dsimp only); repeat' (first | with_reducible assumption | with_reducible exact keeps_raise | with_reducible apply raise_kept | simp only [keeps_mk, keeps_fold] | split | dsimp only)

theorem takeCrossing_kept (p : Nat) (angle : Nat) (interval : Nat) (s : State) (hh : Keeps ref s) : Keeps ref (takeCrossing p angle interval s) := by
  unfold takeCrossing; (try dsimp only); repeat' (first | with_reducible assumption | with_reducible apply State_setInput_kept | split | dsimp only)

theorem takeBack_kept (p : Nat) (s : State) (hh : Keeps ref s) : Keeps ref (takeBack p s) := by
  unfold takeBack; (try dsimp only); repeat' (first | with_reducible assumption | with_reducible exact keeps_raise | with_reducible apply raise_kept | simp only [keeps_mk, keeps_fold] | split | dsimp only)

theorem execZeroCrossing_kept (phase : Nat) (stamp16 : Nat) (intervalNs : Nat) (peakMv : Nat) (s : State) (hh : Keeps ref s) : KeepsOut ref (execZeroCrossing phase stamp16 intervalNs peakMv s) := by
  unfold execZeroCrossing; (try dsimp only); repeat' (first | with_reducible refine keepsOut_next ?_ | with_reducible assumption | with_reducible apply State_setInput_kept | with_reducible apply takeBack_kept | with_reducible apply takeCrossing_kept | with_reducible apply referenceCrossing_kept | with_reducible apply checkRotation_kept | simp only [keeps_mk, keeps_fold] | split | dsimp only | with_reducible exact keepsOut_fault)

theorem referenceMissing_kept (s : State) (hh : Keeps ref s) : Keeps ref (referenceMissing s) := by
  unfold referenceMissing; (try dsimp only); repeat' (first | with_reducible assumption | with_reducible exact keeps_raise | with_reducible apply enterFlywheel_kept | with_reducible apply raise_kept | simp only [keeps_mk, keeps_fold] | split | dsimp only)

theorem execReferenceCrossingMissing_kept (s : State) (hh : Keeps ref s) : KeepsOut ref (execReferenceCrossingMissing s) := by
  unfold execReferenceCrossingMissing; (try dsimp only); repeat' (first | with_reducible refine keepsOut_next ?_ | with_reducible assumption | with_reducible exact keeps_raise | with_reducible apply State_setInput_kept | with_reducible apply raise_kept | with_reducible apply referenceMissing_kept | simp only [keeps_mk, keeps_fold] | split | dsimp only | with_reducible exact keepsOut_fault)

theorem execFlywheelTimeout_kept (s : State) (hh : Keeps ref s) : KeepsOut ref (execFlywheelTimeout s) := by
  unfold execFlywheelTimeout; (try dsimp only); repeat' (first | with_reducible refine keepsOut_next ?_ | with_reducible assumption | with_reducible apply enterNominal_kept | split | dsimp only | with_reducible exact keepsOut_fault)

theorem execAcquireTimeout_kept (s : State) (hh : Keeps ref s) : KeepsOut ref (execAcquireTimeout s) := by
  unfold execAcquireTimeout; (try dsimp only); repeat' (first | with_reducible refine keepsOut_next ?_ | with_reducible assumption | with_reducible apply enterNominal_kept | split | dsimp only | with_reducible exact keepsOut_fault)

theorem planStep_kept (ahead : Int) (c : Nat) (s : State) (hh : Keeps ref s) : Keeps ref (planStep ahead c s) := by
  unfold planStep; dsimp only; simp only [keeps_mk, keeps_fold]; exact hh

theorem noteBehind_kept (s : State) (hh : Keeps ref s) : Keeps ref (noteBehind s) := by
  unfold noteBehind; dsimp only; simp only [keeps_mk, keeps_fold]; exact hh

theorem hearMark_kept (m : Mark) (s : State) (hh : Keeps ref s) : Keeps ref (hearMark m s) := by
  unfold hearMark; (try dsimp only); repeat' (first | with_reducible assumption | with_reducible apply refollow_kept | simp only [keeps_mk, keeps_fold] | split | dsimp only)

theorem compareMaster_kept (m : Mark) (s : State) (hh : Keeps ref s) : Keeps ref (compareMaster m s) := by
  unfold compareMaster; (try dsimp only); repeat' (first | with_reducible assumption | with_reducible apply planStep_kept | with_reducible apply noteBehind_kept | with_reducible apply dropMaster_kept | simp only [keeps_mk, keeps_fold] | split | dsimp only)

theorem compareAngle_kept (m : Mark) (s : State) (hh : Keeps ref s) : Keeps ref (compareAngle m s) := by
  unfold compareAngle; (try dsimp only); repeat' (first | with_reducible assumption | with_reducible exact keeps_raise | with_reducible apply raise_kept | simp only [keeps_mk, keeps_fold] | split | dsimp only)

theorem compareAsMaster_kept (m : Mark) (s : State) (hh : Keeps ref s) : Keeps ref (compareAsMaster m s) := by
  unfold compareAsMaster; (try dsimp only); repeat' (first | with_reducible assumption | with_reducible apply planStep_kept | split | dsimp only)

theorem execCycleMark_kept (s : State) (hh : Keeps ref s) : KeepsOut ref (execCycleMark s) := by
  unfold execCycleMark; (try dsimp only); repeat' (first | with_reducible refine keepsOut_next ?_ | with_reducible assumption | with_reducible apply takeDelivered_kept | with_reducible apply hearMark_kept | with_reducible apply compareAsMaster_kept | with_reducible apply compareMaster_kept | with_reducible apply compareAngle_kept | simp only [keeps_mk, keeps_fold] | split | refine takeDelivered_eq _ _ (by with_reducible assumption) ?_ | dsimp only | with_reducible exact keepsOut_fault)

theorem execMasterElection_kept (s : State) (hh : Keeps ref s) : KeepsOut ref (execMasterElection s) := by
  unfold execMasterElection; (try dsimp only); repeat' (first | with_reducible refine keepsOut_next ?_ | with_reducible assumption | with_reducible apply refollow_kept | simp only [keeps_mk, keeps_fold] | split | dsimp only | with_reducible exact keepsOut_fault)

theorem execMasterMarkTimeout_kept (s : State) (hh : Keeps ref s) : KeepsOut ref (execMasterMarkTimeout s) := by
  unfold execMasterMarkTimeout; (try dsimp only); repeat' (first | with_reducible refine keepsOut_next ?_ | with_reducible assumption | with_reducible apply refollow_kept | dsimp only | with_reducible exact keepsOut_fault)

theorem execCountSeed_kept (s : State) (hh : Keeps ref s) : KeepsOut ref (execCountSeed s) := by
  unfold execCountSeed; (try dsimp only); repeat' (first | with_reducible refine keepsOut_next ?_ | with_reducible assumption | simp only [keeps_mk, keeps_fold] | split | dsimp only | with_reducible exact keepsOut_fault)

theorem settleReference_kept (s : State) (hh : Keeps ref s) : Keeps ref (settleReference s) := by
  unfold settleReference; (try dsimp only); repeat' (first | with_reducible assumption | simp only [keeps_mk, keeps_fold] | split | dsimp only)

theorem settleTimebase_kept (old : Cfg) (s : State) (hh : Keeps ref s) : Keeps ref (settleTimebase old s) := by
  unfold settleTimebase; (try dsimp only); repeat' (first | with_reducible assumption | with_reducible apply dropMaster_kept | with_reducible apply settleReference_kept | split | dsimp only)

theorem boundaryInput_kept (p : Nat) (s : State) (hh : Keeps ref s) : Keeps ref (boundaryInput p s) := by
  unfold boundaryInput; (try dsimp only); repeat' (first | with_reducible assumption | with_reducible exact keeps_raise | with_reducible apply State_setInput_kept | with_reducible apply raise_kept | split | dsimp only)

theorem boundaryRotation_kept (s : State) (hh : Keeps ref s) : Keeps ref (boundaryRotation s) := by
  unfold boundaryRotation; (try dsimp only); repeat' (first | with_reducible assumption | simp only [keeps_mk, keeps_fold] | split | dsimp only)

theorem boundaryCycle_kept (s : State) (hh : Keeps ref s) : Keeps ref (boundaryCycle s) := by
  unfold boundaryCycle; (try dsimp only); repeat' (first | with_reducible assumption | with_reducible exact keeps_raise | with_reducible apply raise_kept | simp only [keeps_mk, keeps_fold] | split | dsimp only)

theorem boundaryCounters_kept (s : State) (hh : Keeps ref s) : Keeps ref (boundaryCounters s) := by
  unfold boundaryCounters; (try dsimp only); repeat' (first | with_reducible assumption | simp only [keeps_mk, keeps_fold] | split | dsimp only)

theorem phaseBoundary_kept (s0 : State) (hh : Keeps ref s0) : Keeps ref (phaseBoundary s0) := by
  unfold phaseBoundary; (try dsimp only); repeat' (first | with_reducible assumption | with_reducible apply boundaryCounters_kept | with_reducible apply boundaryRotation_kept | with_reducible apply boundaryInput_kept | with_reducible apply boundaryCycle_kept | simp only [keeps_mk, keeps_fold] | split | dsimp only)

theorem execPhaseRead_kept (mbx : Nat) (s : State) (hh : Keeps ref s) : KeepsOut ref (execPhaseRead mbx s) := by
  unfold execPhaseRead; (try dsimp only); repeat' (first | with_reducible refine keepsOut_next ?_ | with_reducible assumption | with_reducible apply serveRead_kept | dsimp only | with_reducible exact keepsOut_fault)

theorem execPhaseInputs_kept (mbx : Nat) (s : State) (hh : Keeps ref s) : KeepsOut ref (execPhaseInputs mbx s) := by
  unfold execPhaseInputs; (try dsimp only); repeat' (first | with_reducible refine keepsOut_next ?_ | with_reducible assumption | with_reducible apply serveRead_kept | split | dsimp only | with_reducible exact keepsOut_fault)

theorem execPhaseSite_kept (mbx : Nat) (s : State) (hh : Keeps ref s) : KeepsOut ref (execPhaseSite mbx s) := by
  unfold execPhaseSite; (try dsimp only); repeat' (first | with_reducible refine keepsOut_next ?_ | with_reducible assumption | with_reducible apply serveRead_kept | split | dsimp only | with_reducible exact keepsOut_fault)

theorem execPhaseMeasureOffset_kept (mbx : Nat) (s : State) (hh : Keeps ref s) : KeepsOut ref (execPhaseMeasureOffset mbx s) := by
  unfold execPhaseMeasureOffset; (try dsimp only); repeat' (first | with_reducible refine keepsOut_next ?_ | with_reducible assumption | with_reducible apply serve_kept | with_reducible apply defer_kept | with_reducible refine keeps_body_intro (fun _ _ _ => ?_) | simp only [keeps_mk, keeps_fold] | split | refine defer_eq _ _ _ (by with_reducible assumption) ?_ | dsimp only | with_reducible exact keepsOut_fault)

theorem execMeasureOffsetComplete_kept (s : State) (hh : Keeps ref s) : KeepsOut ref (execMeasureOffsetComplete s) := by
  unfold execMeasureOffsetComplete; (try dsimp only); repeat' (first | with_reducible refine keepsOut_next ?_ | with_reducible assumption | with_reducible apply complete_kept | simp only [keeps_mk, keeps_fold] | split | dsimp only | with_reducible exact keepsOut_fault)

theorem State_setLoop_kept (s : State) (l : Nat) (x : Loop) (hh : Keeps ref s) : Keeps ref (State.setLoop s l x) := by
  unfold State.setLoop; dsimp only; simp only [keeps_mk, keeps_fold]; exact hh

theorem accept_kept (l : Nat) (i : Nat) (v : Word) (s : State) (hh : Keeps ref s) : Keeps ref (accept l i v s) := by
  unfold accept; (try dsimp only); repeat' (first | with_reducible assumption | with_reducible apply State_setLoop_kept | dsimp only)

theorem startBias_kept (l : Nat) (inputs : List Word) (s : State) (hh : Keeps ref s) : Keeps ref (startBias l inputs s) := by
  unfold startBias; (try dsimp only); repeat' (first | with_reducible assumption | with_reducible apply State_setLoop_kept | split | dsimp only)

theorem updateModel_kept (l : Nat) (inputs : List Word) (predicted : Word) (s : State) (hh : Keeps ref s) : Keeps ref (updateModel l inputs predicted s) := by
  unfold updateModel; (try dsimp only); repeat' (first | with_reducible assumption | with_reducible apply State_setLoop_kept | split | dsimp only)

theorem State_setBead_kept (s : State) (b : Nat) (x : Bead) (hh : Keeps ref s) : Keeps ref (State.setBead s b x) := by
  unfold State.setBead; dsimp only; simp only [keeps_mk, keeps_fold]; exact hh

theorem spend_kept (o : Occ) (s : State) (hh : Keeps ref s) : Keeps ref (spend o s) := by
  unfold spend; (try dsimp only); repeat' (first | with_reducible assumption | with_reducible apply State_setBead_kept | split | dsimp only)

theorem release_kept (o : Occ) (s : State) (hh : Keeps ref s) : Keeps ref (release o s) := by
  unfold release; (try dsimp only); repeat' (first | with_reducible assumption | simp only [keeps_mk, keeps_fold] | split | dsimp only)

theorem markOccs_kept (p : Occ → Bool) (st : Nat) (s : State) (hh : Keeps ref s) : Keeps ref (markOccs p st s) := by
  unfold markOccs; (try dsimp only); repeat' (first | with_reducible assumption | simp only [keeps_mk, keeps_fold] | split | dsimp only)

theorem raiseSkipped_kept (o : Occ) (cause : Nat) (s : State) (hh : Keeps ref s) : Keeps ref (raiseSkipped o cause s) := by
  unfold raiseSkipped; (try dsimp only); repeat' (first | with_reducible assumption | with_reducible exact keeps_raise | with_reducible apply raise_kept | with_reducible apply spend_kept | simp only [keeps_mk, keeps_fold] | dsimp only)

theorem skipOccs_kept (p : Occ → Bool) (cause : Nat) (s : State) (hh : Keeps ref s) : Keeps ref (skipOccs p cause s) := by
  unfold skipOccs; (try dsimp only); repeat' (first | with_reducible assumption | with_reducible apply release_kept | with_reducible apply markOccs_kept | with_reducible apply raiseSkipped_kept | with_reducible refine keeps_foldl _ _ _ ?_ (fun _ _ _ => ?_) | with_reducible refine keeps_foldl2 _ _ _ ?_ (fun _ _ _ => ?_) | dsimp only)

theorem State_setEntry_kept (s : State) (e : Nat) (x : CarryEntry) (hh : Keeps ref s) : Keeps ref (State.setEntry s e x) := by
  unfold State.setEntry; dsimp only; simp only [keeps_mk, keeps_fold]; exact hh

theorem countRefused_kept (s : State) (hh : Keeps ref s) : Keeps ref (countRefused s) := by
  unfold countRefused; (try dsimp only); repeat' (first | with_reducible assumption | simp only [keeps_mk, keeps_fold] | split | dsimp only)

theorem noteFull_kept (s : State) (hh : Keeps ref s) : Keeps ref (noteFull s) := by
  unfold noteFull; (try dsimp only); repeat' (first | with_reducible assumption | with_reducible exact keeps_raise | with_reducible apply raise_kept | simp only [keeps_mk, keeps_fold] | split | dsimp only)

theorem openEntry_kept (x : CarryEntry) (chains : List Nat) (s : State) (hh : Keeps ref s) : Keeps ref (openEntry x chains s).2 := by
  unfold openEntry; (try dsimp only); repeat' (first | with_reducible assumption | with_reducible apply countRefused_kept | with_reducible apply noteFull_kept | with_reducible refine keeps_foldl _ _ _ ?_ (fun _ _ _ => ?_) | with_reducible refine keeps_foldl2 _ _ _ ?_ (fun _ _ _ => ?_) | simp only [keeps_mk, keeps_fold] | split | dsimp only)
theorem openEntry_eq (x : CarryEntry) (chains : List Nat) (s : State) {rq tq} (he : openEntry x chains s = (rq, tq)) (hh : Keeps ref s) : Keeps ref tq := by
  have := openEntry_kept x chains s hh
  rw [he] at this; exact this

theorem sendLeaseBody_kept (uid : Nat) (b : LeaseBody) (s : State) (hh : Keeps ref s) : Keeps ref (sendLeaseBody uid b s) := by
  unfold sendLeaseBody; (try dsimp only); repeat' (first | with_reducible assumption | with_reducible exact keeps_raise | with_reducible apply sendLease_kept | with_reducible apply raise_kept | dsimp only)

theorem raiseLoan_kept (loan : Nat) (role : Nat) (outcome : Nat) (phase : Nat) (kw : Nat) (s : State) (hh : Keeps ref s) : Keeps ref (raiseLoan loan role outcome phase kw s) := by
  unfold raiseLoan; (try dsimp only); repeat' (first | with_reducible assumption | with_reducible exact keeps_raise | with_reducible apply raise_kept | dsimp only)

theorem sendBorrow_kept (p : Nat) (kw : Nat) (start : Nat) (s : State) (hh : Keeps ref s) : Keeps ref (sendBorrow p kw start s) := by
  unfold sendBorrow; (try dsimp only); repeat' (first | with_reducible assumption | with_reducible apply sendLeaseBody_kept | simp only [keeps_mk, keeps_fold] | split | dsimp only)

theorem charge_kept (r : Nat) (b : BeadRec) (s : State) (hh : Keeps ref s) : Keeps ref (charge r b s) := by
  unfold charge; (try dsimp only); repeat' (first | with_reducible assumption | simp only [keeps_mk, keeps_fold] | split | dsimp only)

theorem notePeaks_kept (list : List Occ) (o : Occ) (s : State) (hh : Keeps ref s) : Keeps ref (notePeaks list o s) := by
  unfold notePeaks; dsimp only; simp only [keeps_mk, keeps_fold]; exact hh

theorem enlist_kept (o : Occ) (s : State) (hh : Keeps ref s) : Keeps ref (enlist o s) := by
  unfold enlist; (try dsimp only); repeat' (first | with_reducible assumption | with_reducible apply notePeaks_kept | simp only [keeps_mk, keeps_fold] | split | dsimp only)

theorem bumpReck_kept (f : ReckStats → ReckStats) (s : State) (hh : Keeps ref s) : Keeps ref (bumpReck f s) := by
  unfold bumpReck; dsimp only; simp only [keeps_mk, keeps_fold]; exact hh

theorem admitOcc_kept (c : Occ) (entry : Option Nat) (s : State) (hh : Keeps ref s) : Keeps ref (admitOcc c entry s) := by
  unfold admitOcc; (try dsimp only); repeat' (first | with_reducible assumption | with_reducible apply charge_kept | with_reducible apply enlist_kept | with_reducible apply bumpReck_kept | simp only [keeps_mk, keeps_fold] | split | dsimp only)

theorem refuseOcc_kept (c : Occ) (account : Nat) (s : State) (hh : Keeps ref s) : Keeps ref (refuseOcc c account s) := by
  unfold refuseOcc; (try dsimp only); repeat' (first | with_reducible assumption | with_reducible exact keeps_raise | with_reducible apply bumpReck_kept | with_reducible apply raise_kept | with_reducible apply spend_kept | simp only [keeps_mk, keeps_fold] | split | dsimp only)

theorem overflow_kept (c : Occ) (account : Nat) (phase : Nat) (excess : Int) (s : State) (hh : Keeps ref s) : Keeps ref (overflow c account phase excess s) := by
  unfold overflow; (try dsimp only); repeat' (first | with_reducible assumption | with_reducible exact keeps_raise | with_reducible apply raise_kept | with_reducible apply bumpReck_kept | simp only [keeps_mk, keeps_fold] | split | dsimp only)

theorem admitSafety_kept (c : Occ) (s : State) (hh : Keeps ref s) : Keeps ref (admitSafety c s) := by
  unfold admitSafety; (try dsimp only); repeat' (first | with_reducible assumption | with_reducible apply admitOcc_kept | with_reducible apply overflow_kept | split | dsimp only)

theorem admitProvisional_kept (c : Occ) (needRoot : Bool) (s : State) (hh : Keeps ref s) : Keeps ref (admitProvisional c needRoot s) := by
  unfold admitProvisional; (try dsimp only); repeat' (first | with_reducible assumption | with_reducible apply openEntry_kept | with_reducible apply refuseOcc_kept | with_reducible apply admitOcc_kept | split | refine openEntry_eq _ _ _ (by with_reducible assumption) ?_ | dsimp only)

theorem decide__kept (c : Occ) (s : State) (hh : Keeps ref s) : Keeps ref (decide_ c s) := by
  unfold decide_; (try dsimp only); repeat' (first | with_reducible assumption | with_reducible apply admitSafety_kept | with_reducible apply refuseOcc_kept | with_reducible apply admitProvisional_kept | with_reducible apply admitOcc_kept | split | dsimp only)

theorem maybeBorrow_kept (c : Occ) (asked : List Nat) (s : State) (hh : Keeps ref s) : Keeps ref (maybeBorrow c asked s).1 := by
  unfold maybeBorrow; (try dsimp only); repeat' (first | with_reducible assumption | with_reducible apply sendBorrow_kept | split | dsimp only)
theorem maybeBorrow_eq (c : Occ) (asked : List Nat) (s : State) {rq tq} (he : maybeBorrow c asked s = (tq, rq)) (hh : Keeps ref s) : Keeps ref tq := by
  have := maybeBorrow_kept c asked s hh
  rw [he] at this; exact this

theorem freeEntries_kept (es : List (Nat × CarryEntry)) (s : State) (hh : Keeps ref s) : Keeps ref (freeEntries es s) := by
  unfold freeEntries; dsimp only; simp only [keeps_mk, keeps_fold]; exact hh

theorem countDropped_kept (cause : Nat) (s : State) (hh : Keeps ref s) : Keeps ref (countDropped cause s) := by
  unfold countDropped; dsimp only; simp only [keeps_mk, keeps_fold]; exact hh

theorem dropEntry_kept (e : Nat) (cause : Nat) (skip : Nat) (s : State) (hh : Keeps ref s) : Keeps ref (dropEntry e cause skip s) := by
  unfold dropEntry; (try dsimp only); repeat' (first | with_reducible assumption | with_reducible exact keeps_raise | with_reducible apply raise_kept | with_reducible apply countDropped_kept | with_reducible apply freeEntries_kept | with_reducible apply skipOccs_kept | dsimp only)

theorem supersede_kept (o : Occ) (s : State) (hh : Keeps ref s) : Keeps ref (supersede o s) := by
  unfold supersede; (try dsimp only); repeat' (first | with_reducible assumption | with_reducible apply dropEntry_kept | with_reducible apply skipOccs_kept | split | dsimp only)

theorem testSingly_kept (o : Occ) (s : State) (hh : Keeps ref s) : Keeps ref (testSingly o s) := by
  unfold testSingly; (try dsimp only); repeat' (first | with_reducible assumption | with_reducible apply refuseOcc_kept | with_reducible apply decide__kept | split | dsimp only)

theorem admitSingly_kept (follow : Bool) (o : Occ) (s : State) (hh : Keeps ref s) : Keeps ref (admitSingly follow o s) := by
  unfold admitSingly; (try dsimp only); repeat' (first | with_reducible assumption | with_reducible exact keeps_raise | with_reducible apply refuseOcc_kept | with_reducible apply decide__kept | with_reducible apply testSingly_kept | with_reducible apply keeps_raiser | with_reducible apply keeps_body | with_reducible refine keeps_foldl _ _ _ ?_ (fun _ _ _ => ?_) | with_reducible refine keeps_foldl2 _ _ _ ?_ (fun _ _ _ => ?_) | with_reducible refine keeps_body_intro (fun _ _ _ => ?_) | simp only [keeps_mk, keeps_fold] | with_reducible apply keepsCore_writeBytes | split | dsimp only)

theorem slideLate_kept (follow : Bool) (o : Occ) (s : State) (hh : Keeps ref s) : Keeps ref (slideLate follow o s) := by
  unfold slideLate; (try dsimp only); repeat' (first | with_reducible assumption | with_reducible apply testSingly_kept | simp only [keeps_mk, keeps_fold] | split | dsimp only)

theorem considerRod_kept (follow : Bool) (bead : Nat) (r : Nat) (x : Bead) (s : State) (hh : Keeps ref s) : Keeps ref (considerRod follow bead r x s) := by
  unfold considerRod; (try dsimp only); repeat' (first | with_reducible assumption | with_reducible apply raiseSkipped_kept | with_reducible apply supersede_kept | with_reducible apply admitSingly_kept | with_reducible apply slideLate_kept | split | dsimp only)

theorem singleAdmit_kept (bead : Nat) (s : State) (hh : Keeps ref s) : Keeps ref (singleAdmit bead s) := by
  unfold singleAdmit; (try dsimp only); repeat' (first | with_reducible assumption | with_reducible apply considerRod_kept | split | dsimp only)

theorem traceEntry_kept (c : Nat) (v : Word) (tag : Nat) (s : State) (hh : Keeps ref s) : Keeps ref (traceEntry c v tag s) := by
  unfold traceEntry; (try dsimp only); repeat' (first | with_reducible assumption | with_reducible exact keeps_raise | with_reducible apply State_setTrace_kept | with_reducible apply raise_kept | split | dsimp only)

theorem traceKind_kept (l : Nat) (kind : Nat) (count : Nat) (file : List Word) (s : State) (hh : Keeps ref s) : Keeps ref (traceKind l kind count file s) := by
  unfold traceKind; (try dsimp only); repeat' (first | with_reducible assumption | with_reducible apply traceEntry_kept | with_reducible refine keeps_foldl _ _ _ ?_ (fun _ _ _ => ?_) | with_reducible refine keeps_foldl2 _ _ _ ?_ (fun _ _ _ => ?_) | split | dsimp only)

theorem setFlags_kept (l : Nat) (w : BitVec 16) (s : State) (hh : Keeps ref s) : Keeps ref (setFlags l w s) := by
  unfold setFlags; (try dsimp only); repeat' (first | with_reducible assumption | with_reducible exact keeps_raise | with_reducible apply State_setLoop_kept | with_reducible apply raise_kept | with_reducible apply fireTraces_kept | split | dsimp only)

theorem orFlags_kept (l : Nat) (bits : Nat) (s : State) (hh : Keeps ref s) : Keeps ref (orFlags l bits s) := by
  unfold orFlags; (try dsimp only); repeat' (first | with_reducible assumption | with_reducible apply setFlags_kept | dsimp only)

theorem missSample_kept (l : Nat) (s : State) (hh : Keeps ref s) : Keeps ref (missSample l s) := by
  unfold missSample; (try dsimp only); repeat' (first | with_reducible assumption | with_reducible apply orFlags_kept | with_reducible apply State_setLoop_kept | dsimp only)

theorem releasePins_kept (l : Nat) (s : State) (hh : Keeps ref s) : Keeps ref (releasePins l s) := by
  unfold releasePins; (try dsimp only); repeat' (first | with_reducible assumption | with_reducible refine keeps_foldl _ _ _ ?_ (fun _ _ _ => ?_) | with_reducible refine keeps_foldl2 _ _ _ ?_ (fun _ _ _ => ?_) | simp only [keeps_mk, keeps_fold] | split | dsimp only)

theorem setLoopMode_kept (l : Nat) (m : LoopMode) (s : State) (hh : Keeps ref s) : Keeps ref (setLoopMode l m s) := by
  unfold setLoopMode; (try dsimp only); repeat' (first | with_reducible assumption | with_reducible exact keeps_raise | with_reducible apply raise_kept | with_reducible apply State_setLoop_kept | with_reducible apply fireTraces_kept | with_reducible apply releasePins_kept | split | dsimp only)

theorem setPeriod_kept (l : Nat) (p : Bool) (s : State) (hh : Keeps ref s) : Keeps ref (setPeriod l p s) := by
  unfold setPeriod; (try dsimp only); repeat' (first | with_reducible assumption | with_reducible apply fireTraces_kept | with_reducible apply State_setLoop_kept | split | dsimp only)

theorem overrun_kept (l : Nat) (cause : Nat) (lateness : Nat) (s : State) (hh : Keeps ref s) : Keeps ref (overrun l cause lateness s) := by
  unfold overrun; (try dsimp only); repeat' (first | with_reducible assumption | with_reducible exact keeps_raise | with_reducible apply State_setLoop_kept | with_reducible apply raise_kept | with_reducible apply setPeriod_kept | split | dsimp only)

theorem admitGate_kept (l : Nat) (r : Route) (before : Option Word) (after : Word) (s : State) (hh : Keeps ref s) : Keeps ref (admitGate l r before after s) := by
  unfold admitGate; (try dsimp only); repeat' (first | with_reducible assumption | with_reducible apply singleAdmit_kept | with_reducible refine keeps_foldl _ _ _ ?_ (fun _ _ _ => ?_) | with_reducible refine keeps_foldl2 _ _ _ ?_ (fun _ _ _ => ?_) | split | dsimp only)

theorem applyRoute_kept (l : Nat) (o : Nat) (v : Word) (s : State) (hh : Keeps ref s) : Keeps ref (applyRoute l o v s) := by
  unfold applyRoute; (try dsimp only); repeat' (first | with_reducible assumption | with_reducible apply State_setLoop_kept | with_reducible apply orFlags_kept | with_reducible apply admitGate_kept | simp only [keeps_mk, keeps_fold] | split | dsimp only)

theorem applyOut_kept (l : Nat) (out : List Word) (s : State) (hh : Keeps ref s) : Keeps ref (applyOut l out s) := by
  unfold applyOut; (try dsimp only); repeat' (first | with_reducible assumption | with_reducible apply applyRoute_kept | with_reducible refine keeps_foldl _ _ _ ?_ (fun _ _ _ => ?_) | with_reducible refine keeps_foldl2 _ _ _ ?_ (fun _ _ _ => ?_) | split | dsimp only)

theorem applyNamed_kept (l : Nat) (mask : Nat) (out : List Word) (s : State) (hh : Keeps ref s) : Keeps ref (applyNamed l mask out s) := by
  unfold applyNamed; (try dsimp only); repeat' (first | with_reducible assumption | with_reducible apply applyRoute_kept | with_reducible refine keeps_foldl _ _ _ ?_ (fun _ _ _ => ?_) | with_reducible refine keeps_foldl2 _ _ _ ?_ (fun _ _ _ => ?_) | dsimp only)

theorem applyDue_kept (l : Nat) (s : State) (hh : Keeps ref s) : Keeps ref (applyDue l s) := by
  unfold applyDue; (try dsimp only); repeat' (first | with_reducible assumption | with_reducible apply applyOut_kept | with_reducible apply State_setLoop_kept | with_reducible refine keeps_foldl _ _ _ ?_ (fun _ _ _ => ?_) | with_reducible refine keeps_foldl2 _ _ _ ?_ (fun _ _ _ => ?_) | dsimp only)

theorem applyAllDue_kept (s : State) (hh : Keeps ref s) : Keeps ref (applyAllDue s) := by
  unfold applyAllDue; (try dsimp only); repeat' (first | with_reducible assumption | with_reducible apply applyDue_kept | with_reducible refine keeps_foldl _ _ _ ?_ (fun _ _ _ => ?_) | with_reducible refine keeps_foldl2 _ _ _ ?_ (fun _ _ _ => ?_) | dsimp only)

theorem trigger_kept (i : Nat) (v : List Byte) (x : Word) (s : State) (hh : Keeps ref s) : Keeps ref (trigger i v x s) := by
  unfold trigger; (try dsimp only); repeat' (first | with_reducible assumption | with_reducible apply stageSet_kept | with_reducible apply stageSwath_kept | simp only [keeps_mk, keeps_fold] | split | dsimp only)

theorem runTriggers_kept (l : Nat) (out : List Word) (s : State) (hh : Keeps ref s) : Keeps ref (runTriggers l out s) := by
  unfold runTriggers; (try dsimp only); repeat' (first | with_reducible assumption | with_reducible apply trigger_kept | with_reducible refine keeps_foldl _ _ _ ?_ (fun _ _ _ => ?_) | with_reducible refine keeps_foldl2 _ _ _ ?_ (fun _ _ _ => ?_) | dsimp only)

theorem countClean_kept (l : Nat) (s : State) (hh : Keeps ref s) : Keeps ref (countClean l s) := by
  unfold countClean; (try dsimp only); repeat' (first | with_reducible assumption | with_reducible exact keeps_raise | with_reducible apply raise_kept | with_reducible apply setPeriod_kept | with_reducible apply State_setLoop_kept | split | dsimp only)

theorem unclean_kept (l : Nat) (s : State) (hh : Keeps ref s) : Keeps ref (unclean l s) := by
  unfold unclean; (try dsimp only); repeat' (first | with_reducible assumption | with_reducible apply State_setLoop_kept | dsimp only)

theorem timing_kept (l : Nat) (instant : Instant) (period : Bool) (s : State) (hh : Keeps ref s) : Keeps ref (timing l instant period s) := by
  unfold timing; (try dsimp only); repeat' (first | with_reducible assumption | with_reducible apply overrun_kept | with_reducible apply orFlags_kept | with_reducible apply countClean_kept | with_reducible apply unclean_kept | split | dsimp only)

theorem commit_kept (l : Nat) (r : Result) (instant : Instant) (kind : Nat) (s : State) (hh : Keeps ref s) : Keeps ref (commit l r instant kind s) := by
  unfold commit; (try dsimp only); repeat' (first | with_reducible assumption | with_reducible apply updateModel_kept | with_reducible apply State_setLoop_kept | with_reducible apply setFlags_kept | with_reducible apply setLoopMode_kept | with_reducible apply traceKind_kept | with_reducible apply runTriggers_kept | with_reducible apply applyOut_kept | with_reducible apply timing_kept | with_reducible refine keeps_foldl _ _ _ ?_ (fun _ _ _ => ?_) | with_reducible refine keeps_foldl2 _ _ _ ?_ (fun _ _ _ => ?_) | split | dsimp only)

theorem mapSamples_kept (f : Sample → Sample) (s : State) (hh : Keeps ref s) : Keeps ref (mapSamples f s) := by
  unfold mapSamples; (try dsimp only); repeat' (first | with_reducible assumption | with_reducible refine keeps_foldl _ _ _ ?_ (fun _ _ _ => ?_) | with_reducible refine keeps_foldl2 _ _ _ ?_ (fun _ _ _ => ?_) | simp only [keeps_mk, keeps_fold] | dsimp only)

theorem dropSample_kept (entry : Nat) (s : State) (hh : Keeps ref s) : Keeps ref (dropSample entry s) := by
  unfold dropSample; (try dsimp only); repeat' (first | with_reducible assumption | with_reducible apply mapSamples_kept | simp only [keeps_mk, keeps_fold] | split | dsimp only)

theorem noteLatency_kept (es : List (Nat × CarryEntry)) (s : State) (hh : Keeps ref s) : Keeps ref (noteLatency es s) := by
  unfold noteLatency; (try dsimp only); repeat' (first | with_reducible assumption | simp only [keeps_mk, keeps_fold] | split | dsimp only)

theorem settleEntry_kept (recomputed : Bool) (e : Nat × CarryEntry) (s : State) (hh : Keeps ref s) : Keeps ref (settleEntry recomputed e s) := by
  unfold settleEntry; (try dsimp only); repeat' (first | with_reducible assumption | with_reducible apply commit_kept | with_reducible apply mapSamples_kept | simp only [keeps_mk, keeps_fold] | split | dsimp only)

theorem settleChain_kept (chain : Nat) (s : State) (hh : Keeps ref s) : Keeps ref (settleChain chain s) := by
  unfold settleChain; (try dsimp only); repeat' (first | with_reducible assumption | with_reducible apply noteLatency_kept | with_reducible apply freeEntries_kept | with_reducible apply settleEntry_kept | with_reducible refine keeps_foldl _ _ _ ?_ (fun _ _ _ => ?_) | with_reducible refine keeps_foldl2 _ _ _ ?_ (fun _ _ _ => ?_) | simp only [keeps_mk, keeps_fold] | split | dsimp only)

theorem trySettle_kept (chain : Nat) (s : State) (hh : Keeps ref s) : Keeps ref (trySettle chain s) := by
  unfold trySettle; (try dsimp only); repeat' (first | with_reducible assumption | with_reducible apply settleChain_kept | split | dsimp only)

theorem dropOne_kept (e : Nat × CarryEntry) (s : State) (hh : Keeps ref s) : Keeps ref (dropOne e s) := by
  unfold dropOne; (try dsimp only); repeat' (first | with_reducible assumption | with_reducible apply unclean_kept | with_reducible apply missSample_kept | with_reducible apply dropSample_kept | with_reducible apply traceKind_kept | with_reducible apply skipOccs_kept | simp only [keeps_mk, keeps_fold] | split | dsimp only)

theorem dropChain_kept (chain : Nat) (cause : Nat) (s : State) (hh : Keeps ref s) : Keeps ref (dropChain chain cause s) := by
  unfold dropChain; (try dsimp only); repeat' (first | with_reducible assumption | with_reducible exact keeps_raise | with_reducible apply dropOne_kept | with_reducible apply raise_kept | with_reducible apply countDropped_kept | with_reducible apply noteLatency_kept | with_reducible apply freeEntries_kept | with_reducible refine keeps_foldl _ _ _ ?_ (fun _ _ _ => ?_) | with_reducible refine keeps_foldl2 _ _ _ ?_ (fun _ _ _ => ?_) | split | dsimp only)

theorem holdRoot_kept (e : Nat) (s : State) (hh : Keeps ref s) : Keeps ref (holdRoot e s) := by
  unfold holdRoot; (try dsimp only); repeat' (first | with_reducible assumption | with_reducible apply State_setEntry_kept | dsimp only)

theorem dropRoots_kept (p : CarryEntry → Bool) (cause : Nat) (s : State) (hh : Keeps ref s) : Keeps ref (dropRoots p cause s) := by
  unfold dropRoots; (try dsimp only); repeat' (first | with_reducible assumption | with_reducible apply dropChain_kept | with_reducible refine keeps_foldl _ _ _ ?_ (fun _ _ _ => ?_) | with_reducible refine keeps_foldl2 _ _ _ ?_ (fun _ _ _ => ?_) | split | dsimp only)

theorem confirmRoots_kept (number : Nat) (s : State) (hh : Keeps ref s) : Keeps ref (confirmRoots number s) := by
  unfold confirmRoots; (try dsimp only); repeat' (first | with_reducible assumption | with_reducible apply holdRoot_kept | with_reducible apply trySettle_kept | with_reducible refine keeps_foldl _ _ _ ?_ (fun _ _ _ => ?_) | with_reducible refine keeps_foldl2 _ _ _ ?_ (fun _ _ _ => ?_) | split | dsimp only)

theorem admitProvGates_kept (l : Nat) (r : Result) (s : State) (hh : Keeps ref s) : Keeps ref (admitProvGates l r s) := by
  unfold admitProvGates; (try dsimp only); repeat' (first | with_reducible assumption | with_reducible apply singleAdmit_kept | with_reducible refine keeps_foldl _ _ _ ?_ (fun _ _ _ => ?_) | with_reducible refine keeps_foldl2 _ _ _ ?_ (fun _ _ _ => ?_) | split | dsimp only)

theorem rerun_kept (e : Nat) (root : Bool) (s : State) (hh : Keeps ref s) : Keeps ref (rerun e root s) := by
  unfold rerun; (try dsimp only); repeat' (first | with_reducible assumption | with_reducible apply State_setEntry_kept | with_reducible apply mapSamples_kept | split | dsimp only)

theorem recheckDep_kept (e : Nat) (s : State) (hh : Keeps ref s) : Keeps ref (recheckDep e s) := by
  unfold recheckDep; (try dsimp only); repeat' (first | with_reducible assumption | with_reducible apply dropEntry_kept | split | dsimp only)

theorem recompute_kept (e : Nat) (s : State) (hh : Keeps ref s) : Keeps ref (recompute e s) := by
  unfold recompute; (try dsimp only); repeat' (first | with_reducible assumption | with_reducible exact keeps_raise | with_reducible apply rerun_kept | with_reducible apply State_setEntry_kept | with_reducible apply raise_kept | with_reducible apply recheckDep_kept | with_reducible apply trySettle_kept | with_reducible refine keeps_foldl _ _ _ ?_ (fun _ _ _ => ?_) | with_reducible refine keeps_foldl2 _ _ _ ?_ (fun _ _ _ => ?_) | simp only [keeps_mk, keeps_fold] | dsimp only)

theorem arriveRoot_kept (v : ReadValue) (stamp : Instant) (e : Nat) (s : State) (hh : Keeps ref s) : Keeps ref (arriveRoot v stamp e s) := by
  unfold arriveRoot; (try dsimp only); repeat' (first | with_reducible assumption | with_reducible apply dropChain_kept | with_reducible apply accept_kept | with_reducible apply State_setEntry_kept | simp only [keeps_mk, keeps_fold] | split | dsimp only)

theorem settleAll_kept (s : State) (hh : Keeps ref s) : Keeps ref (settleAll s) := by
  unfold settleAll; (try dsimp only); repeat' (first | with_reducible assumption | with_reducible apply trySettle_kept | with_reducible refine keeps_foldl _ _ _ ?_ (fun _ _ _ => ?_) | with_reducible refine keeps_foldl2 _ _ _ ?_ (fun _ _ _ => ?_) | dsimp only)

theorem enqueue_kept (x : Sample) (s : State) (hh : Keeps ref s) : Keeps ref (enqueue x s) := by
  unfold enqueue; dsimp only; simp only [keeps_mk, keeps_fold]; exact hh

theorem countInputs_kept (l : Nat) (bad : Bool) (s : State) (hh : Keeps ref s) : Keeps ref (countInputs l bad s) := by
  unfold countInputs; (try dsimp only); repeat' (first | with_reducible assumption | with_reducible apply State_setLoop_kept | split | dsimp only)

theorem heldSample_kept (l : Nat) (inputs : List Word) (predicted : Word) (bad : Bool) (s : State) (hh : Keeps ref s) : Keeps ref (heldSample l inputs predicted bad s) := by
  unfold heldSample; (try dsimp only); repeat' (first | with_reducible assumption | with_reducible apply updateModel_kept | with_reducible apply State_setLoop_kept | with_reducible apply orFlags_kept | with_reducible apply traceKind_kept | split | dsimp only)

theorem enterHold_kept (l : Nat) (cause : Nat) (detail : Nat) (value : Word) (s : State) (hh : Keeps ref s) : Keeps ref (enterHold l cause detail value s) := by
  unfold enterHold; (try dsimp only); repeat' (first | with_reducible assumption | with_reducible exact keeps_raise | with_reducible apply setLoopMode_kept | with_reducible apply raise_kept | with_reducible apply State_setLoop_kept | dsimp only)

theorem feedWaiting_kept (l : Nat) (p : Binding → Bool) (v : ReadValue) (s : State) (hh : Keeps ref s) : Keeps ref (feedWaiting l p v s) := by
  unfold feedWaiting; (try dsimp only); repeat' (first | with_reducible assumption | with_reducible apply accept_kept | with_reducible apply orFlags_kept | with_reducible apply countInputs_kept | with_reducible apply enterHold_kept | with_reducible apply State_setLoop_kept | with_reducible apply heldSample_kept | with_reducible apply enqueue_kept | with_reducible refine keeps_foldl _ _ _ ?_ (fun _ _ _ => ?_) | with_reducible refine keeps_foldl2 _ _ _ ?_ (fun _ _ _ => ?_) | split | dsimp only)

theorem feedLoose_kept (p : Binding → Bool) (v : ReadValue) (s : State) (hh : Keeps ref s) : Keeps ref (feedLoose p v s) := by
  unfold feedLoose; (try dsimp only); repeat' (first | with_reducible assumption | with_reducible refine keeps_foldl _ _ _ ?_ (fun _ _ _ => ?_) | with_reducible refine keeps_foldl2 _ _ _ ?_ (fun _ _ _ => ?_) | simp only [keeps_mk, keeps_fold] | split | dsimp only)

theorem arrive_kept (p : Binding → Bool) (v : ReadValue) (stamp : Instant) (s : State) (hh : Keeps ref s) : Keeps ref (arrive p v stamp s) := by
  unfold arrive; (try dsimp only); repeat' (first | with_reducible assumption | with_reducible apply arriveRoot_kept | with_reducible apply feedLoose_kept | with_reducible apply settleAll_kept | with_reducible apply feedWaiting_kept | with_reducible refine keeps_foldl _ _ _ ?_ (fun _ _ _ => ?_) | with_reducible refine keeps_foldl2 _ _ _ ?_ (fun _ _ _ => ?_) | split | dsimp only)

theorem failInputs_kept (tx : Nat) (cause : Nat) (s : State) (hh : Keeps ref s) : Keeps ref (failInputs tx cause s) := by
  unfold failInputs; (try dsimp only); repeat' (first | with_reducible assumption | with_reducible apply dropChain_kept | with_reducible refine keeps_foldl _ _ _ ?_ (fun _ _ _ => ?_) | with_reducible refine keeps_foldl2 _ _ _ ?_ (fun _ _ _ => ?_) | split | dsimp only)

theorem execChainHorizon_kept (chain : Nat) (s : State) (hh : Keeps ref s) : KeepsOut ref (execChainHorizon chain s) := by
  unfold execChainHorizon; (try dsimp only); repeat' (first | with_reducible refine keepsOut_next ?_ | with_reducible assumption | with_reducible apply dropChain_kept | with_reducible apply State_atAngle_kept | split | dsimp only | with_reducible exact keepsOut_fault)

theorem execCarryInfo_kept (mbx : Nat) (s : State) (hh : Keeps ref s) : KeepsOut ref (execCarryInfo mbx s) := by
  unfold execCarryInfo; (try dsimp only); repeat' (first | with_reducible refine keepsOut_next ?_ | with_reducible assumption | with_reducible apply serveRead_kept | dsimp only | with_reducible exact keepsOut_fault)

theorem execCarryList_kept (mbx : Nat) (s : State) (hh : Keeps ref s) : KeepsOut ref (execCarryList mbx s) := by
  unfold execCarryList; (try dsimp only); repeat' (first | with_reducible refine keepsOut_next ?_ | with_reducible assumption | with_reducible apply serveRead_kept | dsimp only | with_reducible exact keepsOut_fault)

theorem execCarryRead_kept (mbx : Nat) (s : State) (hh : Keeps ref s) : KeepsOut ref (execCarryRead mbx s) := by
  unfold execCarryRead; (try dsimp only); repeat' (first | with_reducible refine keepsOut_next ?_ | with_reducible assumption | with_reducible apply serveRead_kept | split | dsimp only | with_reducible exact keepsOut_fault)

theorem execCarryChain_kept (mbx : Nat) (s : State) (hh : Keeps ref s) : KeepsOut ref (execCarryChain mbx s) := by
  unfold execCarryChain; (try dsimp only); repeat' (first | with_reducible refine keepsOut_next ?_ | with_reducible assumption | with_reducible apply serveRead_kept | split | dsimp only | with_reducible exact keepsOut_fault)

theorem execCarryStats_kept (mbx : Nat) (s : State) (hh : Keeps ref s) : KeepsOut ref (execCarryStats mbx s) := by
  unfold execCarryStats; (try dsimp only); repeat' (first | with_reducible refine keepsOut_next ?_ | with_reducible assumption | with_reducible apply serveRead_kept | dsimp only | with_reducible exact keepsOut_fault)

theorem execCarryStatsClear_kept (mbx : Nat) (s : State) (hh : Keeps ref s) : KeepsOut ref (execCarryStatsClear mbx s) := by
  unfold execCarryStatsClear; (try dsimp only); repeat' (first | with_reducible refine keepsOut_next ?_ | with_reducible assumption | with_reducible apply serve_kept | with_reducible refine keeps_body_intro (fun _ _ _ => ?_) | simp only [keeps_mk, keeps_fold] | dsimp only | with_reducible exact keepsOut_fault)

theorem execCarryDrop_kept (mbx : Nat) (s : State) (hh : Keeps ref s) : KeepsOut ref (execCarryDrop mbx s) := by
  unfold execCarryDrop; (try dsimp only); repeat' (first | with_reducible refine keepsOut_next ?_ | with_reducible assumption | with_reducible apply serve_kept | with_reducible apply dropChain_kept | with_reducible refine keeps_body_intro (fun _ _ _ => ?_) | split | dsimp only | with_reducible exact keepsOut_fault)

theorem moveEntry_kept (o : Occ) (s : State) (hh : Keeps ref s) : Keeps ref (moveEntry o s) := by
  unfold moveEntry; (try dsimp only); repeat' (first | with_reducible assumption | with_reducible apply State_setEntry_kept | split | dsimp only)

theorem slideHeld_kept (c : Occ) (e : Nat) (s : State) (hh : Keeps ref s) : Keeps ref (slideHeld c e s) := by
  unfold slideHeld; (try dsimp only); repeat' (first | with_reducible assumption | with_reducible apply moveEntry_kept | with_reducible apply dropChain_kept | with_reducible apply dropEntry_kept | simp only [keeps_mk, keeps_fold] | split | dsimp only)

theorem leaseRoot_kept (c : Occ) (e : Nat) (s : State) (hh : Keeps ref s) : Keeps ref (leaseRoot c e s) := by
  unfold leaseRoot; (try dsimp only); repeat' (first | with_reducible assumption | with_reducible apply State_setEntry_kept | dsimp only)

theorem decideHeld_kept (list : List Occ) (rest : List Occ) (c : Occ) (e : Nat) (s : State) (hh : Keeps ref s) : Keeps ref (decideHeld list rest c e s) := by
  unfold decideHeld; (try dsimp only); repeat' (first | with_reducible assumption | with_reducible apply slideHeld_kept | with_reducible apply moveEntry_kept | with_reducible apply admitOcc_kept | with_reducible apply leaseRoot_kept | split | dsimp only)

theorem passFrom_kept (x0 : List Occ) (x1 : List Nat) (x2 : State) (hh : Keeps ref x2) : Keeps ref (passFrom x0 x1 x2) := by
  induction x0 generalizing x1 x2 with
  | nil => unfold passFrom; exact hh
  | cons _ _ ih => unfold passFrom; (try dsimp only); (repeat' (first | with_reducible apply ih | first | with_reducible assumption | with_reducible exact keeps_raise | with_reducible apply decideHeld_kept | with_reducible apply refuseOcc_kept | with_reducible apply maybeBorrow_kept | with_reducible apply decide__kept | with_reducible apply keeps_raiser | with_reducible apply keeps_body | with_reducible refine keeps_foldl _ _ _ ?_ (fun _ _ _ => ?_) | with_reducible refine keeps_foldl2 _ _ _ ?_ (fun _ _ _ => ?_) | with_reducible refine keeps_body_intro (fun _ _ _ => ?_) | simp only [keeps_mk, keeps_fold] | with_reducible apply keepsCore_writeBytes | split | refine maybeBorrow_eq _ _ _ (by with_reducible assumption) ?_ | dsimp only))

theorem noteMeter_kept (r : Nat) (p : Nat) (s : State) (hh : Keeps ref s) : Keeps ref (noteMeter r p s) := by
  unfold noteMeter; (try dsimp only); repeat' (first | with_reducible assumption | with_reducible exact keeps_raise | with_reducible apply raise_kept | simp only [keeps_mk, keeps_fold] | split | dsimp only)

theorem closePass_kept (r : Nat) (forecast : List Int) (shown : List Int) (heat : Int) (s : State) (hh : Keeps ref s) : Keeps ref (closePass r forecast shown heat s) := by
  unfold closePass; (try dsimp only); repeat' (first | with_reducible assumption | simp only [keeps_mk, keeps_fold] | split | dsimp only)

theorem freePhases_kept (r : Nat) (forecast : List Int) (s : State) (hh : Keeps ref s) : Keeps ref (freePhases r forecast s) := by
  unfold freePhases; dsimp only; simp only [keeps_mk, keeps_fold]; exact hh

theorem latchHeat_kept (s : State) (hh : Keeps ref s) : Keeps ref (latchHeat s) := by
  unfold latchHeat; (try dsimp only); repeat' (first | with_reducible assumption | simp only [keeps_mk, keeps_fold] | split | dsimp only)

theorem selectBead_kept (r : Nat) (e : Nat × Bead) (acc : List Occ × State) (hh : Keeps ref acc.2) : Keeps ref (selectBead r e acc).2 := by
  unfold selectBead; (try dsimp only); repeat' (first | with_reducible assumption | with_reducible apply raiseSkipped_kept | split | (dsimp only))
theorem runMainPass_kept (s : State) (hh : Keeps ref s) : Keeps ref (runMainPass s) := by
  unfold runMainPass; (try dsimp only); repeat' (first | with_reducible apply selectBead_kept | first | with_reducible assumption | with_reducible apply noteMeter_kept | with_reducible apply latchHeat_kept | with_reducible apply freePhases_kept | with_reducible apply supersede_kept | with_reducible apply closePass_kept | with_reducible apply passFrom_kept | with_reducible refine keeps_foldl _ _ _ ?_ (fun _ _ _ => ?_) | with_reducible refine keeps_foldl2 _ _ _ ?_ (fun _ _ _ => ?_) | simp only [keeps_mk, keeps_fold] | split | dsimp only)

theorem execMainPass_kept (s : State) (hh : Keeps ref s) : KeepsOut ref (execMainPass s) := by
  unfold execMainPass; (try dsimp only); repeat' (first | with_reducible refine keepsOut_next ?_ | with_reducible assumption | with_reducible apply settleAll_kept | with_reducible apply runMainPass_kept | with_reducible apply State_atAngle_kept | split | dsimp only | with_reducible exact keepsOut_fault)

theorem slideOut_kept (o : Occ) (e : Nat) (s : State) (hh : Keeps ref s) : Keeps ref (slideOut o e s) := by
  unfold slideOut; (try dsimp only); repeat' (first | with_reducible assumption | with_reducible apply release_kept | with_reducible apply markOccs_kept | with_reducible apply dropEntry_kept | with_reducible apply decideHeld_kept | with_reducible apply slideHeld_kept | simp only [keeps_mk, keeps_fold] | split | dsimp only)

theorem slideSettled_kept (o : Occ) (s : State) (hh : Keeps ref s) : Keeps ref (slideSettled o s) := by
  unfold slideSettled; (try dsimp only); repeat' (first | with_reducible assumption | with_reducible apply release_kept | with_reducible apply raiseSkipped_kept | with_reducible apply testSingly_kept | simp only [keeps_mk, keeps_fold] | split | dsimp only)

theorem execProvisionalCheck_kept (bead : Nat) (s : State) (hh : Keeps ref s) : KeepsOut ref (execProvisionalCheck bead s) := by
  unfold execProvisionalCheck; (try dsimp only); repeat' (first | with_reducible refine keepsOut_next ?_ | with_reducible assumption | with_reducible apply State_atAngle_kept | with_reducible apply settleAll_kept | with_reducible apply slideOut_kept | with_reducible apply slideSettled_kept | split | dsimp only | with_reducible exact keepsOut_fault)

theorem execPulseReturn_kept (output : Nat) (s : State) (hh : Keeps ref s) : KeepsOut ref (execPulseReturn output s) := by
  unfold execPulseReturn; (try dsimp only); repeat' (first | with_reducible refine keepsOut_next ?_ | with_reducible assumption | with_reducible apply State_atAngle_kept | simp only [keeps_mk, keeps_fold] | split | dsimp only | with_reducible exact keepsOut_fault)

theorem State_setCalendar_kept (s : State) (bead : Nat) (c : Calendar) (hh : Keeps ref s) : Keeps ref (State.setCalendar s bead c) := by
  unfold State.setCalendar; dsimp only; simp only [keeps_mk, keeps_fold]; exact hh

theorem enterCalendar_kept (s : State) (e : Nat × Bead) (hh : Keeps ref s) : Keeps ref (enterCalendar s e) := by
  unfold enterCalendar; (try dsimp only); repeat' (first | with_reducible assumption | with_reducible apply State_setCalendar_kept | split | dsimp only)

theorem skipPassed_kept (cause : Nat) (bead : Nat) (x : Bead) (s : State) (hh : Keeps ref s) : Keeps ref (skipPassed cause bead x s) := by
  unfold skipPassed; (try dsimp only); repeat' (first | with_reducible assumption | with_reducible apply raiseSkipped_kept | with_reducible apply State_setCalendar_kept | with_reducible refine keeps_foldl _ _ _ ?_ (fun _ _ _ => ?_) | with_reducible refine keeps_foldl2 _ _ _ ?_ (fun _ _ _ => ?_) | dsimp only)

theorem armIndex_kept (bead : Nat) (k : Nat) (x : Bead) (rod : Nat) (s : State) (hh : Keeps ref s) : Keeps ref (armIndex bead k x rod s) := by
  unfold armIndex; (try dsimp only); repeat' (first | with_reducible assumption | with_reducible exact keeps_raise | with_reducible apply State_setCalendar_kept | with_reducible apply raiseSkipped_kept | with_reducible apply raise_kept | split | dsimp only)

theorem execCalendarArm_kept (bead : Nat) (s : State) (hh : Keeps ref s) : KeepsOut ref (execCalendarArm bead s) := by
  unfold execCalendarArm; (try dsimp only); repeat' (first | with_reducible refine keepsOut_next ?_ | with_reducible assumption | with_reducible apply skipPassed_kept | with_reducible apply armIndex_kept | split | dsimp only | with_reducible exact keepsOut_fault)

theorem addChange_kept (x : BeadChange) (s : State) (hh : Keeps ref s) : Keeps ref (addChange x s) := by
  unfold addChange; dsimp only; simp only [keeps_mk, keeps_fold]; exact hh

theorem place_kept (pointRefused : State → Nat → Nat → Option (List Byte)) (given : Nat) (v : List Byte) (s : State) (hh : Keeps ref s) : Keeps ref (place pointRefused given v s).1 := by
  unfold place; (try dsimp only); repeat' (first | with_reducible assumption | with_reducible apply addChange_kept | with_reducible apply keeps_body | split | dsimp only)
theorem place_eq (pointRefused : State → Nat → Nat → Option (List Byte)) (given : Nat) (v : List Byte) (s : State) {rq tq} (he : place pointRefused given v s = (tq, rq)) (hh : Keeps ref s) : Keeps ref tq := by
  have := place_kept pointRefused given v s hh
  rw [he] at this; exact this

theorem execBeadRemove_kept (mbx : Nat) (s : State) (hh : Keeps ref s) : KeepsOut ref (execBeadRemove mbx s) := by
  unfold execBeadRemove; (try dsimp only); repeat' (first | with_reducible refine keepsOut_next ?_ | with_reducible assumption | with_reducible apply serve_kept | with_reducible apply addChange_kept | with_reducible refine keeps_body_intro (fun _ _ _ => ?_) | split | dsimp only | with_reducible exact keepsOut_fault)

theorem execBeadEnable_kept (mbx : Nat) (s : State) (hh : Keeps ref s) : KeepsOut ref (execBeadEnable mbx s) := by
  unfold execBeadEnable; (try dsimp only); repeat' (first | with_reducible refine keepsOut_next ?_ | with_reducible assumption | with_reducible apply serve_kept | with_reducible apply addChange_kept | with_reducible refine keeps_body_intro (fun _ _ _ => ?_) | split | dsimp only | with_reducible exact keepsOut_fault)

theorem execBeadRead_kept (mbx : Nat) (s : State) (hh : Keeps ref s) : KeepsOut ref (execBeadRead mbx s) := by
  unfold execBeadRead; (try dsimp only); repeat' (first | with_reducible refine keepsOut_next ?_ | with_reducible assumption | with_reducible apply serveRead_kept | split | dsimp only | with_reducible exact keepsOut_fault)

theorem execBeadRod_kept (mbx : Nat) (s : State) (hh : Keeps ref s) : KeepsOut ref (execBeadRod mbx s) := by
  unfold execBeadRod; (try dsimp only); repeat' (first | with_reducible refine keepsOut_next ?_ | with_reducible assumption | with_reducible apply serveRead_kept | split | dsimp only | with_reducible exact keepsOut_fault)

theorem execBeadStats_kept (mbx : Nat) (s : State) (hh : Keeps ref s) : KeepsOut ref (execBeadStats mbx s) := by
  unfold execBeadStats; (try dsimp only); repeat' (first | with_reducible refine keepsOut_next ?_ | with_reducible assumption | with_reducible apply serveRead_kept | dsimp only | with_reducible exact keepsOut_fault)

theorem execBeadCapacity_kept (mbx : Nat) (s : State) (hh : Keeps ref s) : KeepsOut ref (execBeadCapacity mbx s) := by
  unfold execBeadCapacity; (try dsimp only); repeat' (first | with_reducible refine keepsOut_next ?_ | with_reducible assumption | with_reducible apply serveRead_kept | with_reducible refine keeps_foldl _ _ _ ?_ (fun _ _ _ => ?_) | with_reducible refine keeps_foldl2 _ _ _ ?_ (fun _ _ _ => ?_) | dsimp only | with_reducible exact keepsOut_fault)

theorem State_setUnit_kept (s : State) (kind : Nat) (unit : Nat) (x : WearUnit) (hh : Keeps ref s) : Keeps ref (State.setUnit s kind unit x) := by
  unfold State.setUnit; dsimp only; simp only [keeps_mk, keeps_fold]; exact hh

theorem writeLedger_kept (kind : Nat) (cause : Nat) (retired : Nat) (joined : Option Nat) (s : State) (hh : Keeps ref s) : Keeps ref (writeLedger kind cause retired joined s) := by
  unfold writeLedger; (try dsimp only); repeat' (first | with_reducible assumption | with_reducible exact keeps_raise | with_reducible apply State_setUnit_kept | with_reducible apply raise_kept | simp only [keeps_mk, keeps_fold] | split | dsimp only)

theorem State_setTokenSlot_kept (s : State) (i : Nat) (k : KeySlot) (hh : Keeps ref s) : Keeps ref (State.setTokenSlot s i k) := by
  unfold State.setTokenSlot; dsimp only; simp only [keeps_mk, keeps_fold]; exact hh

theorem State_setConfigSlot_kept (s : State) (i : Nat) (k : KeySlot) (hh : Keeps ref s) : Keeps ref (State.setConfigSlot s i k) := by
  unfold State.setConfigSlot; dsimp only; simp only [keeps_mk, keeps_fold]; exact hh

theorem claimPart_kept (serial : Nat) (issuer : List Byte) (config : List Byte) (s : State) (hh : Keeps ref s) : Keeps ref (claimPart serial issuer config s) := by
  unfold claimPart; (try dsimp only); repeat' (first | with_reducible assumption | with_reducible exact keeps_raise | with_reducible apply State_setConfigSlot_kept | with_reducible apply State_setTokenSlot_kept | with_reducible apply raise_kept | simp only [keeps_mk, keeps_fold] | dsimp only)

theorem raiseCounters_kept (s : State) (hf : ¬ref.fwFixed) (hh : Keeps ref s) : Keeps ref (raiseCounters s) := by
  unfold raiseCounters; (try dsimp only)
  repeat' (first | exact ⟨⟨hh.1.1, keepsCounter_max _ hh.1.2.1 hf, hh.1.2.2.1, keepsCounter_max _ hh.1.2.2.2 hf⟩, hh.2⟩ | first | with_reducible assumption | with_reducible apply noteRaise_kept | simp only [keeps_mk, keeps_fold] | split | dsimp only)

theorem openSession_kept (r : Request) (t : List Byte) (s : State) (hn : s.mail.sessions.length < 16) (hh : Keeps ref s) : Keeps ref (openSession r t s).1 := by
  unfold openSession; dsimp only
  have h1 : ∀ x h, Keeps ref { s with
    free := s.free + 1
    mail := { s.mail with sessions := s.mail.sessions ++ [x], handles := (h :: s.mail.handles).take 256 } } := fun x h =>
      keepsCore_resize hh (fun hs => { hs with sessions := by simp; omega })
  split
  · exact claimPart_kept _ _ _ _ (h1 _ _)
  · exact h1 _ _

theorem checkToken_sessions (s : State) (r : Request) (t : List Byte) (h : checkToken s r t = 0) : s.mail.sessions.length < 16 := by
  apply Nat.lt_of_not_le; intro this
  unfold checkToken at h
  simp only [this, true_or, if_true] at h
  (repeat' split at h) <;> contradiction
theorem finishToken_kept (r : Request) (t : List Byte) (s : State) (hh : Keeps ref s) : Keeps ref (finishToken r t s).1 := by
  unfold finishToken; (try dsimp only)
  have h1 : Keeps ref { s with mail := { s.mail with challenges := s.mail.challenges.filter fun c => decide (c.who ≠ r.who) } } := hh
  split
  · exact openSession_kept _ _ _ (checkToken_sessions s r t ‹_›) h1
  · exact raise_kept _ _ _ h1

theorem freeToken_kept (who : Requester) (s : State) (hh : Keeps ref s) : Keeps ref (freeToken who s) := keepsCore_resize hh (fun hs => { hs with tokens := Nat.le_trans (List.length_filter_le _ _) hs.tokens })

theorem length_filter_lt {α} (l : List α) (f : α → Bool) (h : ∃ x ∈ l, f x = false) : (l.filter f).length < l.length := by
  obtain ⟨x, hx, hf⟩ := h
  refine Nat.lt_of_le_of_ne (List.length_filter_le _ _) (fun he => ?_)
  have := List.length_filter_eq_length_iff.mp he x hx
  simp [hf] at this
theorem takePart_kept (r : Request) (p : Nat) (data : List Byte) (s : State) (hp : p ≤ 17) (hh : Keeps ref s) : Keeps ref (takePart r p data s).1 := by
  unfold takePart; dsimp only
  have h1 := freeToken_kept r.who s hh
  split
  · exact hh
  · rename_i hfull
    have hb : ref.sized → (if p = 0 then ({ who := r.who } : TokenBuffer) else (s.mail.tokens.find? fun b => decide (b.who = r.who)).getD { who := r.who, parts := 99 }).parts = p →
        (s.mail.tokens.filter fun b => decide (b.who ≠ r.who)).length < 4 := by
      intro z hb
      cases hf : s.mail.tokens.find? (fun b => decide (b.who = r.who)) with
      | none =>
        simp only [hf, true_and] at hfull
        refine Nat.lt_of_le_of_lt (List.length_filter_le _ _) ?_
        apply Nat.lt_of_not_le; intro h5
        by_cases hp0 : p = 0
        · exact hfull ⟨hp0, h5⟩
        · rw [if_neg hp0, hf] at hb
          simp at hb; omega
      | some b =>
        refine Nat.lt_of_lt_of_le (length_filter_lt _ _ ⟨b, List.mem_of_find?_eq_some hf, ?_⟩) (hh.2.2 z).tokens
        have := List.find?_some hf
        simpa using this
    revert hb
    generalize (if p = 0 then ({ who := r.who } : TokenBuffer) else (s.mail.tokens.find? fun b => decide (b.who = r.who)).getD { who := r.who, parts := 99 }) = b
    intro hb
    split
    · exact h1
    · rename_i hc
      split
      · exact finishToken_kept _ _ _ h1
      · refine ⟨h1.1, h1.2.1, fun z => { (h1.2.2 z) with tokens := ?_ }⟩
        have hlt := hb z (by omega)
        show (s.mail.tokens.filter _ ++ [_]).length ≤ 4
        rw [List.length_append]; exact hlt

theorem sessionOpen_kept (c : Call) (s : State) (hh : Keeps ref s) : Keeps ref (sessionOpen c s).1 := by
  unfold sessionOpen; dsimp only
  split
  · exact hh
  · split
    · exact takePart_kept _ _ _ _ (by omega) hh
    · exact hh

theorem execSecSessionOpen_kept (mbx : Nat) (s : State) (hh : Keeps ref s) : KeepsOut ref (execSecSessionOpen mbx s) := by
  unfold execSecSessionOpen; (try dsimp only); repeat' (first | with_reducible refine keepsOut_next ?_ | with_reducible assumption | with_reducible apply serve_kept | with_reducible apply sessionOpen_kept | with_reducible refine keeps_body_intro (fun _ _ _ => ?_) | refine sessionOpen_eq _ _ (by with_reducible assumption) ?_ | dsimp only | with_reducible exact keepsOut_fault)

theorem execSecSessionClose_kept (mbx : Nat) (s : State) (hh : Keeps ref s) : KeepsOut ref (execSecSessionClose mbx s) := by
  unfold execSecSessionClose; (try dsimp only); repeat' (first | with_reducible refine keepsOut_next ?_ | with_reducible assumption | with_reducible apply serve_kept | with_reducible apply closeSession_kept | with_reducible refine keeps_body_intro (fun _ _ _ => ?_) | dsimp only | with_reducible exact keepsOut_fault)

theorem execSecIdentity_kept (mbx : Nat) (s : State) (hh : Keeps ref s) : KeepsOut ref (execSecIdentity mbx s) := by
  unfold execSecIdentity; (try dsimp only); repeat' (first | with_reducible refine keepsOut_next ?_ | with_reducible assumption | with_reducible apply serveRead_kept | dsimp only | with_reducible exact keepsOut_fault)

theorem execSecAttest_kept (mbx : Nat) (s : State) (hh : Keeps ref s) : KeepsOut ref (execSecAttest mbx s) := by
  unfold execSecAttest; (try dsimp only); repeat' (first | with_reducible refine keepsOut_next ?_ | with_reducible assumption | with_reducible apply serve_kept | with_reducible apply defer_kept | with_reducible refine keeps_body_intro (fun _ _ _ => ?_) | simp only [keeps_mk, keeps_fold] | split | refine defer_eq _ _ _ (by with_reducible assumption) ?_ | dsimp only | with_reducible exact keepsOut_fault)

theorem execAttestationComplete_kept (s : State) (hh : Keeps ref s) : KeepsOut ref (execAttestationComplete s) := by
  unfold execAttestationComplete; (try dsimp only); repeat' (first | with_reducible refine keepsOut_next ?_ | with_reducible assumption | with_reducible apply complete_kept | simp only [keeps_mk, keeps_fold] | split | dsimp only | with_reducible exact keepsOut_fault)

theorem execSecObjectRead_kept (mbx : Nat) (s : State) (hh : Keeps ref s) : KeepsOut ref (execSecObjectRead mbx s) := by
  unfold execSecObjectRead; (try dsimp only); repeat' (first | with_reducible refine keepsOut_next ?_ | with_reducible assumption | with_reducible apply serveRead_kept | split | dsimp only | with_reducible exact keepsOut_fault)

theorem execSecKeys_kept (mbx : Nat) (s : State) (hh : Keeps ref s) : KeepsOut ref (execSecKeys mbx s) := by
  unfold execSecKeys; (try dsimp only); repeat' (first | with_reducible refine keepsOut_next ?_ | with_reducible assumption | with_reducible apply serveRead_kept | split | dsimp only | with_reducible exact keepsOut_fault)

theorem execSecKeySet_kept (mbx : Nat) (s : State) (hh : Keeps ref s) : KeepsOut ref (execSecKeySet mbx s) := by
  unfold execSecKeySet; (try dsimp only); repeat' (first | with_reducible refine keepsOut_next ?_ | with_reducible assumption | with_reducible exact keeps_raise | with_reducible apply serve_kept | with_reducible apply State_setTokenSlot_kept | with_reducible apply State_setConfigSlot_kept | with_reducible apply raise_kept | with_reducible refine keeps_body_intro (fun _ _ _ => ?_) | split | dsimp only | with_reducible exact keepsOut_fault)

theorem execSecCounters_kept (mbx : Nat) (s : State) (hh : Keeps ref s) : KeepsOut ref (execSecCounters mbx s) := by
  unfold execSecCounters; (try dsimp only); repeat' (first | with_reducible refine keepsOut_next ?_ | with_reducible assumption | with_reducible apply serveRead_kept | dsimp only | with_reducible exact keepsOut_fault)

theorem execSecRelinquish_kept (mbx : Nat) (s : State) (hh : Keeps ref s) : KeepsOut ref (execSecRelinquish mbx s) := by
  unfold execSecRelinquish; (try dsimp only); repeat' (first | with_reducible refine keepsOut_next ?_ | with_reducible assumption | with_reducible exact keeps_raise | with_reducible apply serve_kept | with_reducible apply raise_kept | with_reducible apply closeAll_kept | with_reducible refine keeps_body_intro (fun _ _ _ => ?_) | simp only [keeps_mk, keeps_fold] | split | dsimp only | with_reducible exact keepsOut_fault)

theorem refuseNext_kept (cause : Nat) (s : State) (hh : Keeps ref s) : Keeps ref (refuseNext cause s) := by
  unfold refuseNext; (try dsimp only); repeat' (first | with_reducible assumption | with_reducible exact keeps_raise | with_reducible apply dropRoots_kept | with_reducible apply raise_kept | simp only [keeps_mk, keeps_fold] | split | dsimp only)

theorem execLeaseConfirmDeadline_kept (s : State) (hh : Keeps ref s) : KeepsOut ref (execLeaseConfirmDeadline s) := by
  unfold execLeaseConfirmDeadline; (try dsimp only); repeat' (first | with_reducible refine keepsOut_next ?_ | with_reducible assumption | with_reducible apply refuseNext_kept | simp only [keeps_mk, keeps_fold] | split | dsimp only | with_reducible exact keepsOut_fault)

theorem leaseBoundary_kept (s : State) (hh : Keeps ref s) : Keeps ref (leaseBoundary s) := by
  unfold leaseBoundary; (try dsimp only); repeat' (first | with_reducible assumption | with_reducible exact keeps_raise | with_reducible apply raise_kept | simp only [keeps_mk, keeps_fold] | split | dsimp only)

theorem takeLease_eq (n : Nat) (s : State) {r t} (he : takeLease n s = some (r, t)) (hh : Keeps ref s) : Keeps ref t := by
  unfold takeLease at he; split at he
  · cases he
  · cases he; exact hh

theorem lend_kept (b : LeaseBody) (s : State) (hh : Keeps ref s) : Keeps ref (lend b s) := by
  unfold lend; (try dsimp only); repeat' (first | with_reducible assumption | with_reducible apply bumpReck_kept | with_reducible apply raiseLoan_kept | with_reducible apply sendLeaseBody_kept | simp only [keeps_mk, keeps_fold] | split | dsimp only)

theorem execBorrowReceived_kept (s : State) (hh : Keeps ref s) : KeepsOut ref (execBorrowReceived s) := by
  unfold execBorrowReceived; (try dsimp only); repeat' (first | with_reducible refine keepsOut_next ?_ | with_reducible assumption | with_reducible exact keeps_raise | with_reducible apply takeLease_kept | with_reducible apply sendLease_kept | with_reducible apply raise_kept | with_reducible apply lend_kept | split | refine takeLease_eq _ _ (by with_reducible assumption) ?_ | dsimp only | with_reducible exact keepsOut_fault)

theorem dropBorrow_kept (n : Nat) (s : State) (hh : Keeps ref s) : Keeps ref (dropBorrow n s) := by
  unfold dropBorrow; dsimp only; simp only [keeps_mk, keeps_fold]; exact hh

theorem loanRefused_kept (b : Borrow) (s : State) (hh : Keeps ref s) : Keeps ref (loanRefused b s) := by
  unfold loanRefused; (try dsimp only); repeat' (first | with_reducible assumption | with_reducible apply dropBorrow_kept | with_reducible apply dropRoots_kept | with_reducible apply raiseLoan_kept | simp only [keeps_mk, keeps_fold] | dsimp only)

theorem execGrantReceived_kept (s : State) (hh : Keeps ref s) : KeepsOut ref (execGrantReceived s) := by
  unfold execGrantReceived; (try dsimp only); repeat' (first | with_reducible refine keepsOut_next ?_ | with_reducible assumption | with_reducible apply takeLease_kept | with_reducible apply dropBorrow_kept | with_reducible apply dropRoots_kept | with_reducible apply raiseLoan_kept | with_reducible apply confirmRoots_kept | with_reducible apply sendLeaseBody_kept | simp only [keeps_mk, keeps_fold] | split | refine takeLease_eq _ _ (by with_reducible assumption) ?_ | dsimp only | with_reducible exact keepsOut_fault)

theorem execRefuseReceived_kept (s : State) (hh : Keeps ref s) : KeepsOut ref (execRefuseReceived s) := by
  unfold execRefuseReceived; (try dsimp only); repeat' (first | with_reducible refine keepsOut_next ?_ | with_reducible assumption | with_reducible apply takeLease_kept | with_reducible apply loanRefused_kept | split | refine takeLease_eq _ _ (by with_reducible assumption) ?_ | dsimp only | with_reducible exact keepsOut_fault)

theorem execBorrowTimeout_kept (loan : Nat) (s : State) (hh : Keeps ref s) : KeepsOut ref (execBorrowTimeout loan s) := by
  unfold execBorrowTimeout; (try dsimp only); repeat' (first | with_reducible refine keepsOut_next ?_ | with_reducible assumption | with_reducible apply loanRefused_kept | split | dsimp only | with_reducible exact keepsOut_fault)

theorem endLoan_kept (l : Loan) (s : State) (hh : Keeps ref s) : Keeps ref (endLoan l s) := by
  unfold endLoan; (try dsimp only); repeat' (first | with_reducible assumption | simp only [keeps_mk, keeps_fold] | split | dsimp only)

theorem execReturnReceived_kept (s : State) (hh : Keeps ref s) : KeepsOut ref (execReturnReceived s) := by
  unfold execReturnReceived; (try dsimp only); repeat' (first | with_reducible refine keepsOut_next ?_ | with_reducible assumption | with_reducible apply takeLease_kept | with_reducible apply raiseLoan_kept | with_reducible apply endLoan_kept | simp only [keeps_mk, keeps_fold] | split | refine takeLease_eq _ _ (by with_reducible assumption) ?_ | dsimp only | with_reducible exact keepsOut_fault)

theorem execLoanRenewalCheck_kept (loan : Nat) (s : State) (hh : Keeps ref s) : KeepsOut ref (execLoanRenewalCheck loan s) := by
  unfold execLoanRenewalCheck; (try dsimp only); repeat' (first | with_reducible refine keepsOut_next ?_ | with_reducible assumption | with_reducible apply sendBorrow_kept | split | dsimp only | with_reducible exact keepsOut_fault)

theorem loanBoundary_kept (s : State) (hh : Keeps ref s) : Keeps ref (loanBoundary s) := by
  unfold loanBoundary; (try dsimp only); repeat' (first | with_reducible assumption | with_reducible apply raiseLoan_kept | with_reducible refine keeps_foldl _ _ _ ?_ (fun _ _ _ => ?_) | with_reducible refine keeps_foldl2 _ _ _ ?_ (fun _ _ _ => ?_) | simp only [keeps_mk, keeps_fold] | dsimp only)

theorem noteOver_kept (c : Closed) (p : Nat) (s : State) (hh : Keeps ref s) : Keeps ref (noteOver c p s) := by
  unfold noteOver; (try dsimp only); repeat' (first | with_reducible assumption | with_reducible exact keeps_raise | with_reducible apply raise_kept | simp only [keeps_mk, keeps_fold] | split | dsimp only)

theorem closeAccounts_kept (rod : Nat) (s : State) (hh : Keeps ref s) : Keeps ref (closeAccounts rod s) := by
  unfold closeAccounts; (try dsimp only); repeat' (first | with_reducible assumption | with_reducible apply noteOver_kept | with_reducible refine keeps_foldl _ _ _ ?_ (fun _ _ _ => ?_) | with_reducible refine keeps_foldl2 _ _ _ ?_ (fun _ _ _ => ?_) | simp only [keeps_mk, keeps_fold] | dsimp only)

theorem execHeatFallback_kept (s : State) (hh : Keeps ref s) : KeepsOut ref (execHeatFallback s) := by
  unfold execHeatFallback; (try dsimp only); repeat' (first | with_reducible refine keepsOut_next ?_ | with_reducible assumption | with_reducible exact keeps_raise | with_reducible apply raise_kept | simp only [keeps_mk, keeps_fold] | split | dsimp only | with_reducible exact keepsOut_fault)

theorem execReckAccounts_kept (mbx : Nat) (s : State) (hh : Keeps ref s) : KeepsOut ref (execReckAccounts mbx s) := by
  unfold execReckAccounts; (try dsimp only); repeat' (first | with_reducible refine keepsOut_next ?_ | with_reducible assumption | with_reducible apply serveRead_kept | dsimp only | with_reducible exact keepsOut_fault)

theorem execReckLeaseSet_kept (mbx : Nat) (s : State) (hh : Keeps ref s) : KeepsOut ref (execReckLeaseSet mbx s) := by
  unfold execReckLeaseSet; (try dsimp only); repeat' (first | with_reducible refine keepsOut_next ?_ | with_reducible assumption | with_reducible apply serve_kept | with_reducible apply refuseNext_kept | with_reducible refine keeps_body_intro (fun _ _ _ => ?_) | simp only [keeps_mk, keeps_fold] | split | dsimp only | with_reducible exact keepsOut_fault)

theorem execReckLeaseConfirm_kept (mbx : Nat) (s : State) (hh : Keeps ref s) : KeepsOut ref (execReckLeaseConfirm mbx s) := by
  unfold execReckLeaseConfirm; (try dsimp only); repeat' (first | with_reducible refine keepsOut_next ?_ | with_reducible assumption | with_reducible apply serve_kept | with_reducible apply confirmRoots_kept | with_reducible refine keeps_body_intro (fun _ _ _ => ?_) | simp only [keeps_mk, keeps_fold] | split | dsimp only | with_reducible exact keepsOut_fault)

theorem execReckLeaseRefuse_kept (mbx : Nat) (s : State) (hh : Keeps ref s) : KeepsOut ref (execReckLeaseRefuse mbx s) := by
  unfold execReckLeaseRefuse; (try dsimp only); repeat' (first | with_reducible refine keepsOut_next ?_ | with_reducible assumption | with_reducible apply serve_kept | with_reducible apply refuseNext_kept | with_reducible refine keeps_body_intro (fun _ _ _ => ?_) | split | dsimp only | with_reducible exact keepsOut_fault)

theorem execReckLeaseRead_kept (mbx : Nat) (s : State) (hh : Keeps ref s) : KeepsOut ref (execReckLeaseRead mbx s) := by
  unfold execReckLeaseRead; (try dsimp only); repeat' (first | with_reducible refine keepsOut_next ?_ | with_reducible assumption | with_reducible apply serveRead_kept | dsimp only | with_reducible exact keepsOut_fault)

theorem execReckLoans_kept (mbx : Nat) (s : State) (hh : Keeps ref s) : KeepsOut ref (execReckLoans mbx s) := by
  unfold execReckLoans; (try dsimp only); repeat' (first | with_reducible refine keepsOut_next ?_ | with_reducible assumption | with_reducible apply serveRead_kept | dsimp only | with_reducible exact keepsOut_fault)

theorem execReckLoanReturn_kept (mbx : Nat) (s : State) (hh : Keeps ref s) : KeepsOut ref (execReckLoanReturn mbx s) := by
  unfold execReckLoanReturn; (try dsimp only); repeat' (first | with_reducible refine keepsOut_next ?_ | with_reducible assumption | with_reducible apply serve_kept | with_reducible apply raiseLoan_kept | with_reducible apply sendLeaseBody_kept | with_reducible apply endLoan_kept | with_reducible refine keeps_body_intro (fun _ _ _ => ?_) | split | dsimp only | with_reducible exact keepsOut_fault)

theorem execReckStats_kept (mbx : Nat) (s : State) (hh : Keeps ref s) : KeepsOut ref (execReckStats mbx s) := by
  unfold execReckStats; (try dsimp only); repeat' (first | with_reducible refine keepsOut_next ?_ | with_reducible assumption | with_reducible apply serveRead_kept | dsimp only | with_reducible exact keepsOut_fault)

theorem execReckStatsClear_kept (mbx : Nat) (s : State) (hh : Keeps ref s) : KeepsOut ref (execReckStatsClear mbx s) := by
  unfold execReckStatsClear; (try dsimp only); repeat' (first | with_reducible refine keepsOut_next ?_ | with_reducible assumption | with_reducible apply serve_kept | with_reducible refine keeps_body_intro (fun _ _ _ => ?_) | simp only [keeps_mk, keeps_fold] | dsimp only | with_reducible exact keepsOut_fault)

theorem State_setSenseCh_kept (s : State) (n : Nat) (x : SenseChannel) (hh : Keeps ref s) : Keeps ref (State.setSenseCh s n x) := by
  unfold State.setSenseCh; dsimp only; simp only [keeps_mk, keeps_fold]; exact hh

theorem State_setMeterP_kept (s : State) (p : Nat) (x : MeterPhase) (hh : Keeps ref s) : Keeps ref (State.setMeterP s p x) := by
  unfold State.setMeterP; dsimp only; simp only [keeps_mk, keeps_fold]; exact hh

theorem countSense_kept (i : Nat) (n : Nat) (s : State) (hh : Keeps ref s) : Keeps ref (countSense i n s) := by
  unfold countSense; dsimp only; simp only [keeps_mk, keeps_fold]; exact hh

theorem shadowConversion_kept (p : Nat) (own : Int) (spares : List Int) (s : State) (hh : Keeps ref s) : Keeps ref (shadowConversion p own spares s) := by
  unfold shadowConversion; (try dsimp only); repeat' (first | with_reducible assumption | simp only [keeps_mk, keeps_fold] | split | dsimp only)

theorem suspectModulator_kept (m : Nat) (p : Nat) (n : Nat) (s : State) (hh : Keeps ref s) : Keeps ref (suspectModulator m p n s) := by
  unfold suspectModulator; (try dsimp only); repeat' (first | with_reducible assumption | with_reducible exact keeps_raise | with_reducible apply raise_kept | with_reducible apply countSense_kept | dsimp only)

theorem beginSwap_kept (p : Nat) (cause : Nat) (mailbox : Option Nat) (s : State) (hh : Keeps ref s) : Keeps ref (beginSwap p cause mailbox s) := by
  unfold beginSwap; (try dsimp only); repeat' (first | with_reducible assumption | simp only [keeps_mk, keeps_fold] | split | dsimp only)

theorem beginDwell_kept (p : Nat) (again : Bool) (s : State) (hh : Keeps ref s) : Keeps ref (beginDwell p again s) := by
  unfold beginDwell; dsimp only; simp only [keeps_mk, keeps_fold]; exact hh

theorem withdrawModulator_kept (m : Nat) (s : State) (hh : Keeps ref s) : Keeps ref (withdrawModulator m s) := by
  unfold withdrawModulator; (try dsimp only); repeat' (first | with_reducible assumption | with_reducible apply writeLedger_kept | simp only [keeps_mk, keeps_fold] | dsimp only)

theorem judgeSpare_kept (m : Nat) (odd : Nat) (p : Nat) (s : State) (hh : Keeps ref s) : Keeps ref (judgeSpare m odd p s) := by
  unfold judgeSpare; (try dsimp only); repeat' (first | with_reducible assumption | with_reducible apply suspectModulator_kept | with_reducible apply withdrawModulator_kept | simp only [keeps_mk, keeps_fold] | split | dsimp only)

theorem execDwellEnd_kept (s : State) (hh : Keeps ref s) : KeepsOut ref (execDwellEnd s) := by
  unfold execDwellEnd; (try dsimp only); repeat' (first | with_reducible refine keepsOut_next ?_ | with_reducible assumption | with_reducible apply suspectModulator_kept | with_reducible apply judgeSpare_kept | with_reducible apply State_setMeterP_kept | with_reducible apply beginSwap_kept | with_reducible apply beginDwell_kept | split | dsimp only | with_reducible exact keepsOut_fault)

theorem execModulatorReplacement_kept (s : State) (hh : Keeps ref s) : KeepsOut ref (execModulatorReplacement s) := by
  unfold execModulatorReplacement; (try dsimp only); repeat' (first | with_reducible refine keepsOut_next ?_ | with_reducible assumption | with_reducible exact keeps_raise | with_reducible apply raise_kept | with_reducible apply countSense_kept | with_reducible apply writeLedger_kept | with_reducible apply beginDwell_kept | with_reducible apply answerStarted_kept | simp only [keeps_mk, keeps_fold] | split | dsimp only | with_reducible exact keepsOut_fault)

theorem judgeConversion_kept (n : Nat) (code : Int) (s : State) (hh : Keeps ref s) : Keeps ref (judgeConversion n code s) := by
  unfold judgeConversion; (try dsimp only); repeat' (first | with_reducible assumption | with_reducible exact keeps_raise | with_reducible apply State_setSenseCh_kept | with_reducible apply raise_kept | with_reducible apply countSense_kept | with_reducible apply State_takeWord_kept | simp only [keeps_mk, keeps_fold] | split | refine State_takeWord_eq _ (by with_reducible assumption) ?_ | dsimp only)

theorem recordConversion_kept (n : Nat) (code : Int) (s : State) (hh : Keeps ref s) : Keeps ref (recordConversion n code s) := by
  unfold recordConversion; (try dsimp only); repeat' (first | with_reducible assumption | with_reducible apply countSense_kept | with_reducible apply State_setSenseCh_kept | with_reducible apply judgeConversion_kept | with_reducible refine keeps_foldl _ _ _ ?_ (fun _ _ _ => ?_) | with_reducible refine keeps_foldl2 _ _ _ ?_ (fun _ _ _ => ?_) | split | dsimp only)

theorem execConversionEnd_kept (channel : Nat) (code : Int) (spares : List Int) (s : State) (hh : Keeps ref s) : KeepsOut ref (execConversionEnd channel code spares s) := by
  unfold execConversionEnd; (try dsimp only); repeat' (first | with_reducible refine keepsOut_next ?_ | with_reducible assumption | with_reducible apply State_atAngle_kept | with_reducible apply shadowConversion_kept | with_reducible apply recordConversion_kept | split | dsimp only | with_reducible exact keepsOut_fault)

theorem invalidateChannels_kept (p : List Byte → Bool) (cause : Nat) (s : State) (hh : Keeps ref s) : Keeps ref (invalidateChannels p cause s) := by
  unfold invalidateChannels; (try dsimp only); repeat' (first | with_reducible assumption | with_reducible apply State_setSenseCh_kept | with_reducible refine keeps_foldl _ _ _ ?_ (fun _ _ _ => ?_) | with_reducible refine keeps_foldl2 _ _ _ ?_ (fun _ _ _ => ?_) | split | dsimp only)

theorem execExcitationCompliance_kept (source : Nat) (reached : Bool) (s : State) (hh : Keeps ref s) : KeepsOut ref (execExcitationCompliance source reached s) := by
  unfold execExcitationCompliance; (try dsimp only); repeat' (first | with_reducible refine keepsOut_next ?_ | with_reducible assumption | with_reducible apply invalidateChannels_kept | simp only [keeps_mk, keeps_fold] | split | dsimp only | with_reducible exact keepsOut_fault)

theorem shiftCurrent_kept (p : Nat) (code : Int) (s : State) (hh : Keeps ref s) : Keeps ref (shiftCurrent p code s).2 := by
  unfold shiftCurrent; (try dsimp only); repeat' (first | with_reducible assumption | simp only [keeps_mk, keeps_fold] | split | dsimp only)
theorem shiftCurrent_eq (p : Nat) (code : Int) (s : State) {rq tq} (he : shiftCurrent p code s = (rq, tq)) (hh : Keeps ref s) : Keeps ref tq := by
  have := shiftCurrent_kept p code s hh
  rw [he] at this; exact this

theorem takePair_kept (p : Nat) (x : MeterPair) (s0 : State) (hh : Keeps ref s0) : Keeps ref (takePair p x s0) := by
  unfold takePair; (try dsimp only); repeat' (first | with_reducible assumption | with_reducible apply shiftCurrent_kept | with_reducible apply countSense_kept | with_reducible apply State_setMeterP_kept | with_reducible apply shadowConversion_kept | split | refine shiftCurrent_eq _ _ _ (by with_reducible assumption) ?_ | dsimp only)

theorem execMeterSample_kept (l1 : MeterPair) (l2 : MeterPair) (l3 : MeterPair) (s : State) (hh : Keeps ref s) : KeepsOut ref (execMeterSample l1 l2 l3 s) := by
  unfold execMeterSample; (try dsimp only); repeat' (first | with_reducible refine keepsOut_next ?_ | with_reducible assumption | with_reducible apply State_atAngle_kept | with_reducible apply takePair_kept | split | dsimp only | with_reducible exact keepsOut_fault)

theorem closePhase_kept (ticks : Nat) (p : Nat) (s : State) (hh : Keeps ref s) : Keeps ref (closePhase ticks p s) := by
  unfold closePhase; (try dsimp only); repeat' (first | with_reducible assumption | with_reducible exact keeps_raise | with_reducible apply State_setMeterP_kept | with_reducible apply countSense_kept | with_reducible apply raise_kept | split | dsimp only)

theorem closeMeters_kept (rod : Nat) (ticks : Nat) (s : State) (hh : Keeps ref s) : Keeps ref (closeMeters rod ticks s) := by
  unfold closeMeters; (try dsimp only); repeat' (first | with_reducible assumption | with_reducible apply closePhase_kept | with_reducible refine keeps_foldl _ _ _ ?_ (fun _ _ _ => ?_) | with_reducible refine keeps_foldl2 _ _ _ ?_ (fun _ _ _ => ?_) | simp only [keeps_mk, keeps_fold] | dsimp only)

theorem checkVref_kept (vref : Nat) (bandgap : Nat) (s : State) (hh : Keeps ref s) : Keeps ref (checkVref vref bandgap s) := by
  unfold checkVref; (try dsimp only); repeat' (first | with_reducible assumption | with_reducible exact keeps_raise | with_reducible apply invalidateChannels_kept | with_reducible apply raise_kept | simp only [keeps_mk, keeps_fold] | split | dsimp only)

theorem dwellRod_kept (s : State) (hh : Keeps ref s) : Keeps ref (dwellRod s) := by
  unfold dwellRod; (try dsimp only); repeat' (first | with_reducible assumption | with_reducible apply beginDwell_kept | simp only [keeps_mk, keeps_fold] | split | dsimp only)

theorem stopSense_kept (s : State) (hh : Keeps ref s) : Keeps ref (stopSense s) := by
  unfold stopSense; dsimp only; simp only [keeps_mk, keeps_fold]; exact hh

theorem execSenseRead_kept (mbx : Nat) (s : State) (hh : Keeps ref s) : KeepsOut ref (execSenseRead mbx s) := by
  unfold execSenseRead; (try dsimp only); repeat' (first | with_reducible refine keepsOut_next ?_ | with_reducible assumption | with_reducible apply serveRead_kept | split | dsimp only | with_reducible exact keepsOut_fault)

theorem execSenseMeter_kept (mbx : Nat) (s : State) (hh : Keeps ref s) : KeepsOut ref (execSenseMeter mbx s) := by
  unfold execSenseMeter; (try dsimp only); repeat' (first | with_reducible refine keepsOut_next ?_ | with_reducible assumption | with_reducible apply serveRead_kept | split | dsimp only | with_reducible exact keepsOut_fault)

theorem execSenseWave_kept (mbx : Nat) (s : State) (hh : Keeps ref s) : KeepsOut ref (execSenseWave mbx s) := by
  unfold execSenseWave; (try dsimp only); repeat' (first | with_reducible refine keepsOut_next ?_ | with_reducible assumption | with_reducible apply serveRead_kept | split | dsimp only | with_reducible exact keepsOut_fault)

theorem execSenseModulators_kept (mbx : Nat) (s : State) (hh : Keeps ref s) : KeepsOut ref (execSenseModulators mbx s) := by
  unfold execSenseModulators; (try dsimp only); repeat' (first | with_reducible refine keepsOut_next ?_ | with_reducible assumption | with_reducible apply serveRead_kept | dsimp only | with_reducible exact keepsOut_fault)

theorem execSenseSpare_kept (mbx : Nat) (s : State) (hh : Keeps ref s) : KeepsOut ref (execSenseSpare mbx s) := by
  unfold execSenseSpare; (try dsimp only); repeat' (first | with_reducible refine keepsOut_next ?_ | with_reducible assumption | with_reducible apply serveLater_kept | with_reducible apply beginSwap_kept | with_reducible refine keeps_body_intro (fun _ _ _ => ?_) | split | dsimp only | with_reducible exact keepsOut_fault)

theorem execSenseStats_kept (mbx : Nat) (s : State) (hh : Keeps ref s) : KeepsOut ref (execSenseStats mbx s) := by
  unfold execSenseStats; (try dsimp only); repeat' (first | with_reducible refine keepsOut_next ?_ | with_reducible assumption | with_reducible apply serveRead_kept | dsimp only | with_reducible exact keepsOut_fault)

theorem execSenseStatsClear_kept (mbx : Nat) (s : State) (hh : Keeps ref s) : KeepsOut ref (execSenseStatsClear mbx s) := by
  unfold execSenseStatsClear; (try dsimp only); repeat' (first | with_reducible refine keepsOut_next ?_ | with_reducible assumption | with_reducible apply serve_kept | with_reducible refine keeps_body_intro (fun _ _ _ => ?_) | simp only [keeps_mk, keeps_fold] | dsimp only | with_reducible exact keepsOut_fault)

theorem State_setChan_kept (s : State) (n : Nat) (x : Channel) (hh : Keeps ref s) : Keeps ref (State.setChan s n x) := by
  unfold State.setChan; dsimp only; simp only [keeps_mk, keeps_fold]; exact hh

theorem countChan_kept (n : Nat) (i : Nat) (k : Nat) (s : State) (hh : Keeps ref s) : Keeps ref (countChan n i k s) := by
  unfold countChan; (try dsimp only); repeat' (first | with_reducible assumption | with_reducible apply State_setChan_kept | dsimp only)

theorem startChannel_kept (s : State) (n : Nat) (hh : Keeps ref s) : Keeps ref (startChannel s n) := by
  unfold startChannel; (try dsimp only); repeat' (first | with_reducible assumption | with_reducible apply State_setChan_kept | split | dsimp only)

theorem startChannels_kept (s : State) (hh : Keeps ref s) : Keeps ref (startChannels s) := by
  unfold startChannels; (try dsimp only); repeat' (first | with_reducible assumption | with_reducible apply startChannel_kept | with_reducible refine keeps_foldl _ _ _ ?_ (fun _ _ _ => ?_) | with_reducible refine keeps_foldl2 _ _ _ ?_ (fun _ _ _ => ?_) | dsimp only)

theorem settleErrors_kept (n : Nat) (s : State) (hh : Keeps ref s) : Keeps ref (settleErrors n s) := by
  unfold settleErrors; (try dsimp only); repeat' (first | with_reducible assumption | with_reducible exact keeps_raise | with_reducible apply State_setChan_kept | with_reducible apply raise_kept | split | dsimp only)

theorem receiveError_kept (n : Nat) (s : State) (hh : Keeps ref s) : Keeps ref (receiveError n s) := by
  unfold receiveError; (try dsimp only); repeat' (first | with_reducible assumption | with_reducible apply settleErrors_kept | with_reducible apply countChan_kept | with_reducible apply State_setChan_kept | dsimp only)

theorem receiveGood_kept (n : Nat) (s : State) (hh : Keeps ref s) : Keeps ref (receiveGood n s) := by
  unfold receiveGood; (try dsimp only); repeat' (first | with_reducible assumption | with_reducible apply State_takeByte_kept | with_reducible apply settleErrors_kept | with_reducible apply State_setChan_kept | simp only [keeps_mk, keeps_fold] | split | refine State_takeByte_eq _ (by with_reducible assumption) ?_ | dsimp only)

theorem goBusOff_kept (n : Nat) (s : State) (hh : Keeps ref s) : Keeps ref (goBusOff n s) := by
  unfold goBusOff; (try dsimp only); repeat' (first | with_reducible assumption | with_reducible exact keeps_raise | with_reducible apply raise_kept | with_reducible apply countChan_kept | with_reducible apply State_setChan_kept | dsimp only)

theorem execBusOffRecovery_kept (channel : Nat) (s : State) (hh : Keeps ref s) : KeepsOut ref (execBusOffRecovery channel s) := by
  unfold execBusOffRecovery; (try dsimp only); repeat' (first | with_reducible refine keepsOut_next ?_ | with_reducible assumption | with_reducible exact keeps_raise | with_reducible apply raise_kept | with_reducible apply State_setChan_kept | split | dsimp only | with_reducible exact keepsOut_fault)

theorem beadLate_kept (bead : Nat) (due : Instant) (s : State) (hh : Keeps ref s) : Keeps ref (beadLate bead due s) := by
  unfold beadLate; (try dsimp only); repeat' (first | with_reducible assumption | with_reducible exact keeps_raise | with_reducible apply briefOutage_kept | with_reducible apply raise_kept | simp only [keeps_mk, keeps_fold] | dsimp only)

theorem pushFifo_kept (n : Nat) (f : TxFrame) (s : State) (hh : Keeps ref s) : Keeps ref (pushFifo n f s) := by
  unfold pushFifo; (try dsimp only); repeat' (first | with_reducible assumption | with_reducible apply State_setChan_kept | dsimp only)

theorem offerBead_kept (n : Nat) (f : TxFrame) (s : State) (hh : Keeps ref s) : Keeps ref (offerBead n f s) := by
  unfold offerBead; (try dsimp only); repeat' (first | with_reducible assumption | with_reducible exact keeps_raise | with_reducible apply pushFifo_kept | with_reducible apply State_setChan_kept | with_reducible apply beadLate_kept | with_reducible apply raise_kept | with_reducible apply countChan_kept | split | dsimp only)

theorem refillHold_kept (n : Nat) (s : State) (hh : Keeps ref s) : Keeps ref (refillHold n s) := by
  unfold refillHold; (try dsimp only); repeat' (first | with_reducible assumption | with_reducible apply State_setChan_kept | with_reducible apply beadLate_kept | with_reducible apply countChan_kept | split | dsimp only)

theorem popHead_kept (n : Nat) (s : State) (hh : Keeps ref s) : Keeps ref (popHead n s) := by
  unfold popHead; (try dsimp only); repeat' (first | with_reducible assumption | with_reducible apply refillHold_kept | with_reducible apply State_setChan_kept | dsimp only)

theorem setRefState_kept (n : Nat) (st : Nat) (s : State) (hh : Keeps ref s) : Keeps ref (setRefState n st s) := by
  unfold setRefState; (try dsimp only); repeat' (first | with_reducible assumption | with_reducible exact keeps_raise | with_reducible apply raise_kept | with_reducible apply State_setChan_kept | split | dsimp only)

theorem settleReceiver_kept (n : Nat) (s : State) (hh : Keeps ref s) : Keeps ref (settleReceiver n s) := by
  unfold settleReceiver; (try dsimp only); repeat' (first | with_reducible assumption | with_reducible apply setRefState_kept | split | dsimp only)

theorem hearReference_kept (n : Nat) (f : CanFrame) (s : State) (hh : Keeps ref s) : Keeps ref (hearReference n f s) := by
  unfold hearReference; (try dsimp only); repeat' (first | with_reducible assumption | with_reducible apply countChan_kept | with_reducible apply State_setChan_kept | with_reducible apply setRefState_kept | split | dsimp only)

theorem execReferencePeriodStart_kept (channel : Nat) (s : State) (hh : Keeps ref s) : KeepsOut ref (execReferencePeriodStart channel s) := by
  unfold execReferencePeriodStart; (try dsimp only); repeat' (first | with_reducible refine keepsOut_next ?_ | with_reducible assumption | with_reducible exact keeps_raise | with_reducible apply State_setChan_kept | with_reducible apply setRefState_kept | with_reducible apply raise_kept | split | dsimp only | with_reducible exact keepsOut_fault)

theorem execReferencePending_kept (channel : Nat) (s : State) (hh : Keeps ref s) : KeepsOut ref (execReferencePending channel s) := by
  unfold execReferencePending; (try dsimp only); repeat' (first | with_reducible refine keepsOut_next ?_ | with_reducible assumption | with_reducible apply State_setChan_kept | with_reducible apply State_atAngle_kept | split | dsimp only | with_reducible exact keepsOut_fault)

theorem execReferenceCancel_kept (channel : Nat) (s : State) (hh : Keeps ref s) : KeepsOut ref (execReferenceCancel channel s) := by
  unfold execReferenceCancel; (try dsimp only); repeat' (first | with_reducible refine keepsOut_next ?_ | with_reducible assumption | with_reducible apply State_setChan_kept | with_reducible apply State_atAngle_kept | split | dsimp only | with_reducible exact keepsOut_fault)

theorem execCanIntegrated_kept (channel : Nat) (s : State) (hh : Keeps ref s) : KeepsOut ref (execCanIntegrated channel s) := by
  unfold execCanIntegrated; (try dsimp only); repeat' (first | with_reducible refine keepsOut_next ?_ | with_reducible assumption | with_reducible apply settleReceiver_kept | with_reducible apply State_setChan_kept | split | dsimp only | with_reducible exact keepsOut_fault)

theorem requestSwitch_kept (channel : Nat) (cause : Nat) (mailbox : Option Nat) (s : State) (hh : Keeps ref s) : Keeps ref (requestSwitch channel cause mailbox s) := by
  unfold requestSwitch; (try dsimp only); repeat' (first | with_reducible assumption | simp only [keeps_mk, keeps_fold] | split | dsimp only)

theorem suspectEngine_kept (n : Nat) (s : State) (hh : Keeps ref s) : Keeps ref (suspectEngine n s) := by
  unfold suspectEngine; (try dsimp only); repeat' (first | with_reducible assumption | with_reducible exact keeps_raise | with_reducible apply raise_kept | with_reducible apply State_setChan_kept | with_reducible apply requestSwitch_kept | split | dsimp only)

theorem suspectSpare_kept (n : Nat) (s : State) (hh : Keeps ref s) : Keeps ref (suspectSpare n s) := by
  unfold suspectSpare; (try dsimp only); repeat' (first | with_reducible assumption | with_reducible exact keeps_raise | with_reducible apply raise_kept | with_reducible apply writeLedger_kept | simp only [keeps_mk, keeps_fold] | split | dsimp only)

theorem execSpareEngineRotate_kept (s : State) (hh : Keeps ref s) : KeepsOut ref (execSpareEngineRotate s) := by
  unfold execSpareEngineRotate; (try dsimp only); repeat' (first | with_reducible refine keepsOut_next ?_ | with_reducible assumption | simp only [keeps_mk, keeps_fold] | split | dsimp only | with_reducible exact keepsOut_fault)

theorem execSpareSwitchOver_kept (s : State) (hh : Keeps ref s) : KeepsOut ref (execSpareSwitchOver s) := by
  unfold execSpareSwitchOver; (try dsimp only); repeat' (first | with_reducible refine keepsOut_next ?_ | with_reducible assumption | with_reducible apply State_setChan_kept | simp only [keeps_mk, keeps_fold] | split | dsimp only | with_reducible exact keepsOut_fault)

theorem execSpareIntegrated_kept (framesLost : Nat) (s : State) (hh : Keeps ref s) : KeepsOut ref (execSpareIntegrated framesLost s) := by
  unfold execSpareIntegrated; (try dsimp only); repeat' (first | with_reducible refine keepsOut_next ?_ | with_reducible assumption | with_reducible exact keeps_raise | with_reducible apply countChan_kept | with_reducible apply State_setChan_kept | with_reducible apply writeLedger_kept | with_reducible apply raise_kept | with_reducible apply answerStarted_kept | simp only [keeps_mk, keeps_fold] | split | dsimp only | with_reducible exact keepsOut_fault)

theorem rxOverflow_kept (n : Nat) (host : Bool) (s : State) (hh : Keeps ref s) : Keeps ref (rxOverflow n host s) := by
  unfold rxOverflow; (try dsimp only); repeat' (first | with_reducible assumption | with_reducible exact keeps_raise | with_reducible apply countChan_kept | with_reducible apply State_setChan_kept | with_reducible apply raise_kept | split | dsimp only)

theorem bufferFrame_kept (n : Nat) (f : CanFrame) (host : Bool) (s : State) (hh : Keeps ref s) : Keeps ref (bufferFrame n f host s) := by
  unfold bufferFrame; (try dsimp only); repeat' (first | with_reducible assumption | with_reducible apply rxOverflow_kept | with_reducible apply countChan_kept | with_reducible apply State_setChan_kept | split | dsimp only)

theorem takeFrame_kept (n : Nat) (f : CanFrame) (s : State) (hh : Keeps ref s) : Keeps ref (takeFrame n f s) := by
  unfold takeFrame; (try dsimp only); repeat' (first | with_reducible assumption | with_reducible apply receiveGood_kept | with_reducible apply countChan_kept | with_reducible apply hearReference_kept | with_reducible apply bufferFrame_kept | split | dsimp only)

theorem raiseLeak_kept (n : Nat) (level : Nat) (s : State) (hh : Keeps ref s) : Keeps ref (raiseLeak n level s) := by
  unfold raiseLeak; (try dsimp only); repeat' (first | with_reducible assumption | with_reducible exact keeps_raise | with_reducible apply raise_kept | dsimp only)

theorem judgeLeak_kept (n : Nat) (s : State) (hh : Keeps ref s) : Keeps ref (judgeLeak n s) := by
  unfold judgeLeak; (try dsimp only); repeat' (first | with_reducible assumption | with_reducible apply State_setChan_kept | with_reducible apply raiseLeak_kept | split | dsimp only)

theorem measureLeak_kept (n : Nat) (dv : Int) (s : State) (hh : Keeps ref s) : Keeps ref (measureLeak n dv s) := by
  unfold measureLeak; (try dsimp only); repeat' (first | with_reducible assumption | with_reducible exact keeps_raise | with_reducible apply State_setChan_kept | with_reducible apply raise_kept | with_reducible apply judgeLeak_kept | split | dsimp only)

theorem execLeakInjectionToggle_kept (channel : Nat) (averageMv : Nat) (s : State) (hh : Keeps ref s) : KeepsOut ref (execLeakInjectionToggle channel averageMv s) := by
  unfold execLeakInjectionToggle; (try dsimp only); repeat' (first | with_reducible refine keepsOut_next ?_ | with_reducible assumption | with_reducible apply State_setChan_kept | with_reducible apply measureLeak_kept | split | dsimp only | with_reducible exact keepsOut_fault)

theorem execFbusStatus_kept (mbx : Nat) (s : State) (hh : Keeps ref s) : KeepsOut ref (execFbusStatus mbx s) := by
  unfold execFbusStatus; (try dsimp only); repeat' (first | with_reducible refine keepsOut_next ?_ | with_reducible assumption | with_reducible apply serveRead_kept | split | dsimp only | with_reducible exact keepsOut_fault)

theorem execFbusStats_kept (mbx : Nat) (s : State) (hh : Keeps ref s) : KeepsOut ref (execFbusStats mbx s) := by
  unfold execFbusStats; (try dsimp only); repeat' (first | with_reducible refine keepsOut_next ?_ | with_reducible assumption | with_reducible apply serveRead_kept | split | dsimp only | with_reducible exact keepsOut_fault)

theorem clearChan_kept (s : State) (n : Nat) (hh : Keeps ref s) : Keeps ref (clearChan s n) := by
  unfold clearChan; (try dsimp only); repeat' (first | with_reducible assumption | with_reducible apply State_setChan_kept | dsimp only)

theorem execFbusStatsClear_kept (mbx : Nat) (s : State) (hh : Keeps ref s) : KeepsOut ref (execFbusStatsClear mbx s) := by
  unfold execFbusStatsClear; (try dsimp only); repeat' (first | with_reducible refine keepsOut_next ?_ | with_reducible assumption | with_reducible apply serve_kept | with_reducible apply clearChan_kept | with_reducible refine keeps_foldl _ _ _ ?_ (fun _ _ _ => ?_) | with_reducible refine keeps_foldl2 _ _ _ ?_ (fun _ _ _ => ?_) | with_reducible refine keeps_body_intro (fun _ _ _ => ?_) | split | dsimp only | with_reducible exact keepsOut_fault)

theorem execFbusSend_kept (mbx : Nat) (s : State) (hh : Keeps ref s) : KeepsOut ref (execFbusSend mbx s) := by
  unfold execFbusSend; (try dsimp only); repeat' (first | with_reducible refine keepsOut_next ?_ | with_reducible assumption | with_reducible apply serve_kept | with_reducible apply pushFifo_kept | with_reducible refine keeps_body_intro (fun _ _ _ => ?_) | split | dsimp only | with_reducible exact keepsOut_fault)

theorem execFbusReceive_kept (mbx : Nat) (s : State) (hh : Keeps ref s) : KeepsOut ref (execFbusReceive mbx s) := by
  unfold execFbusReceive; (try dsimp only); repeat' (first | with_reducible refine keepsOut_next ?_ | with_reducible assumption | with_reducible apply serve_kept | with_reducible apply State_setChan_kept | with_reducible refine keeps_body_intro (fun _ _ _ => ?_) | split | dsimp only | with_reducible exact keepsOut_fault)

theorem execFbusRecover_kept (mbx : Nat) (s : State) (hh : Keeps ref s) : KeepsOut ref (execFbusRecover mbx s) := by
  unfold execFbusRecover; (try dsimp only); repeat' (first | with_reducible refine keepsOut_next ?_ | with_reducible assumption | with_reducible apply serve_kept | with_reducible apply State_setChan_kept | with_reducible refine keeps_body_intro (fun _ _ _ => ?_) | split | dsimp only | with_reducible exact keepsOut_fault)

theorem execFbusSpare_kept (mbx : Nat) (s : State) (hh : Keeps ref s) : KeepsOut ref (execFbusSpare mbx s) := by
  unfold execFbusSpare; (try dsimp only); repeat' (first | with_reducible refine keepsOut_next ?_ | with_reducible assumption | with_reducible apply serveLater_kept | with_reducible apply requestSwitch_kept | with_reducible refine keeps_body_intro (fun _ _ _ => ?_) | split | dsimp only | with_reducible exact keepsOut_fault)

theorem execFbusInsulation_kept (mbx : Nat) (s : State) (hh : Keeps ref s) : KeepsOut ref (execFbusInsulation mbx s) := by
  unfold execFbusInsulation; (try dsimp only); repeat' (first | with_reducible refine keepsOut_next ?_ | with_reducible assumption | with_reducible apply serveRead_kept | split | dsimp only | with_reducible exact keepsOut_fault)

theorem execFbusTiming_kept (mbx : Nat) (s : State) (hh : Keeps ref s) : KeepsOut ref (execFbusTiming mbx s) := by
  unfold execFbusTiming; (try dsimp only); repeat' (first | with_reducible refine keepsOut_next ?_ | with_reducible assumption | with_reducible apply serveRead_kept | split | dsimp only | with_reducible exact keepsOut_fault)

theorem State_setBus_kept (s : State) (n : Nat) (x : Bus) (hh : Keeps ref s) : Keeps ref (State.setBus s n x) := by
  unfold State.setBus; dsimp only; simp only [keeps_mk, keeps_fold]; exact hh

theorem State_setRoleEntry_kept (s : State) (r : Nat) (x : RoleEntry) (hh : Keeps ref s) : Keeps ref (State.setRoleEntry s r x) := by
  unfold State.setRoleEntry; dsimp only; simp only [keeps_mk, keeps_fold]; exact hh

theorem State_setNode_kept (s : State) (n : Nat) (a : Nat) (x : CfpNode) (hh : Keeps ref s) : Keeps ref (State.setNode s n a x) := by
  unfold State.setNode; (try dsimp only); repeat' (first | with_reducible assumption | with_reducible apply State_setBus_kept | dsimp only)

theorem countBus_kept (n : Nat) (i : Nat) (s : State) (hh : Keeps ref s) : Keeps ref (countBus n i s) := by
  unfold countBus; (try dsimp only); repeat' (first | with_reducible assumption | with_reducible apply State_setBus_kept | dsimp only)

theorem submitTx_kept (n : Nat) (t : Transaction) (s : State) (hh : Keeps ref s) : Keeps ref (submitTx n t s) := by
  unfold submitTx; (try dsimp only); repeat' (first | with_reducible assumption | with_reducible apply countBus_kept | with_reducible apply State_setBus_kept | simp only [keeps_mk, keeps_fold] | dsimp only)

theorem issueRead_kept (role : Nat) (item : Nat) (s : State) (hh : Keeps ref s) : Keeps ref (issueRead role item s) := by
  unfold issueRead; (try dsimp only); repeat' (first | with_reducible assumption | with_reducible apply submitTx_kept | split | dsimp only)

theorem acceptAll_kept (x : Sample) (inputs : List Word) (s : State) (hh : Keeps ref s) : Keeps ref (acceptAll x inputs s) := by
  unfold acceptAll; (try dsimp only); repeat' (first | with_reducible assumption | with_reducible apply accept_kept | with_reducible refine keeps_foldl _ _ _ ?_ (fun _ _ _ => ?_) | with_reducible refine keeps_foldl2 _ _ _ ?_ (fun _ _ _ => ?_) | dsimp only)

theorem enterCommitted_kept (x : Sample) (s : State) (hh : Keeps ref s) : Keeps ref (enterCommitted x s) := by
  unfold enterCommitted; (try dsimp only); repeat' (first | with_reducible assumption | with_reducible apply accept_kept | with_reducible apply orFlags_kept | with_reducible apply countInputs_kept | with_reducible apply enqueue_kept | with_reducible apply State_setLoop_kept | with_reducible refine keeps_foldl _ _ _ ?_ (fun _ _ _ => ?_) | with_reducible refine keeps_foldl2 _ _ _ ?_ (fun _ _ _ => ?_) | split | dsimp only)

theorem enterSample_kept (bad : Bool) (x : Sample) (s : State) (hh : Keeps ref s) : Keeps ref (enterSample bad x s) := by
  unfold enterSample; (try dsimp only); repeat' (first | with_reducible assumption | with_reducible apply enterCommitted_kept | with_reducible apply countRefused_kept | with_reducible apply openEntry_kept | with_reducible apply enqueue_kept | with_reducible apply countInputs_kept | split | refine openEntry_eq _ _ _ (by with_reducible assumption) ?_ | dsimp only)

theorem readAwaited_kept (l : Nat) (awaited : List Nat) (s : State) (hh : Keeps ref s) : Keeps ref (readAwaited l awaited s) := by
  unfold readAwaited; (try dsimp only); repeat' (first | with_reducible assumption | with_reducible apply issueRead_kept | with_reducible refine keeps_foldl _ _ _ ?_ (fun _ _ _ => ?_) | with_reducible refine keeps_foldl2 _ _ _ ?_ (fun _ _ _ => ?_) | split | dsimp only)

theorem feedArrived_kept (l : Nat) (awaited : List Nat) (s : State) (hh : Keeps ref s) : Keeps ref (feedArrived l awaited s) := by
  unfold feedArrived; (try dsimp only); repeat' (first | with_reducible assumption | with_reducible apply arrive_kept | with_reducible refine keeps_foldl _ _ _ ?_ (fun _ _ _ => ?_) | with_reducible refine keeps_foldl2 _ _ _ ?_ (fun _ _ _ => ?_) | split | dsimp only)

theorem leaveHold_kept (l : Nat) (s : State) (hh : Keeps ref s) : Keeps ref (leaveHold l s) := by
  unfold leaveHold; (try dsimp only); repeat' (first | with_reducible assumption | with_reducible apply setLoopMode_kept | dsimp only)

theorem startSample_kept (bad : Bool) (x : Sample) (s : State) (hh : Keeps ref s) : Keeps ref (startSample bad x s) := by
  unfold startSample; (try dsimp only); repeat' (first | with_reducible assumption | with_reducible apply startBias_kept | with_reducible apply State_setLoop_kept | with_reducible apply feedArrived_kept | with_reducible apply enterSample_kept | with_reducible apply readAwaited_kept | split | dsimp only)

theorem proceed_kept (x : Sample) (s : State) (hh : Keeps ref s) : Keeps ref (proceed x s) := by
  unfold proceed; (try dsimp only); repeat' (first | with_reducible assumption | with_reducible apply startSample_kept | with_reducible apply acceptAll_kept | with_reducible apply countInputs_kept | with_reducible apply leaveHold_kept | with_reducible apply heldSample_kept | with_reducible apply enterHold_kept | split | dsimp only)

theorem manualSample_kept (l : Nat) (s : State) (hh : Keeps ref s) : Keeps ref (manualSample l s) := by
  unfold manualSample; (try dsimp only); repeat' (first | with_reducible assumption | with_reducible apply State_setLoop_kept | with_reducible apply runTriggers_kept | with_reducible apply traceKind_kept | with_reducible apply timing_kept | with_reducible apply applyNamed_kept | split | dsimp only)

theorem loseSample_kept (l : Nat) (cause : Nat) (count : Nat) (s : State) (hh : Keeps ref s) : Keeps ref (loseSample l cause count s) := by
  unfold loseSample; (try dsimp only); repeat' (first | with_reducible assumption | with_reducible apply missSample_kept | with_reducible apply traceKind_kept | with_reducible apply overrun_kept | dsimp only)

theorem discardWaiting_kept (l : Nat) (s : State) (hh : Keeps ref s) : Keeps ref (discardWaiting l s) := by
  unfold discardWaiting; (try dsimp only); repeat' (first | with_reducible assumption | with_reducible apply loseSample_kept | with_reducible apply State_setLoop_kept | simp only [keeps_mk, keeps_fold] | split | dsimp only)

theorem followInner_kept (l : Nat) (s : State) (hh : Keeps ref s) : Keeps ref (followInner l s) := by
  unfold followInner; (try dsimp only); repeat' (first | with_reducible assumption | with_reducible apply enterHold_kept | with_reducible apply leaveHold_kept | split | dsimp only)

theorem applyManual_kept (l : Nat) (s : State) (hh : Keeps ref s) : Keeps ref (applyManual l s) := by
  unfold applyManual; (try dsimp only); repeat' (first | with_reducible assumption | with_reducible apply State_setLoop_kept | with_reducible apply setLoopMode_kept | split | dsimp only)

theorem takeSample_kept (l : Nat) (s : State) (hh : Keeps ref s) : Keeps ref (takeSample l s) := by
  unfold takeSample; (try dsimp only); repeat' (first | with_reducible assumption | with_reducible apply applyManual_kept | with_reducible apply discardWaiting_kept | with_reducible apply applyAllDue_kept | with_reducible apply followInner_kept | with_reducible apply State_setLoop_kept | with_reducible apply manualSample_kept | with_reducible apply enqueue_kept | with_reducible apply proceed_kept | split | dsimp only)

theorem execLoopSample_kept (slot : Nat) (s : State) (hh : Keeps ref s) : KeepsOut ref (execLoopSample slot s) := by
  unfold execLoopSample; (try dsimp only); repeat' (first | with_reducible refine keepsOut_next ?_ | with_reducible assumption | with_reducible apply settleAll_kept | with_reducible apply takeSample_kept | with_reducible apply State_atAngle_kept | split | dsimp only | with_reducible exact keepsOut_fault)

theorem State_setProcessor_kept (s : State) (p : Nat) (x : Processor) (hh : Keeps ref s) : Keeps ref (State.setProcessor s p x) := by
  unfold State.setProcessor; dsimp only; simp only [keeps_mk, keeps_fold]; exact hh

theorem resolveLoose_kept (s : State) (hh : Keeps ref s) : Keeps ref (resolveLoose s) := by
  unfold resolveLoose; (try dsimp only); repeat' (first | with_reducible assumption | with_reducible apply proceed_kept | with_reducible refine keeps_foldl _ _ _ ?_ (fun _ _ _ => ?_) | with_reducible refine keeps_foldl2 _ _ _ ?_ (fun _ _ _ => ?_) | simp only [keeps_mk, keeps_fold] | dsimp only)

theorem startOn_kept (p : Nat) (x : Sample) (s : State) (hh : Keeps ref s) : Keeps ref (startOn p x s) := by
  unfold startOn; (try dsimp only); repeat' (first | with_reducible assumption | with_reducible apply State_setProcessor_kept | simp only [keeps_mk, keeps_fold] | split | dsimp only)

theorem execSampleStart_kept (s : State) (hh : Keeps ref s) : KeepsOut ref (execSampleStart s) := by
  unfold execSampleStart; (try dsimp only); repeat' (first | with_reducible refine keepsOut_next ?_ | with_reducible assumption | with_reducible apply resolveLoose_kept | with_reducible apply State_setProcessor_kept | with_reducible apply startOn_kept | simp only [keeps_mk, keeps_fold] | split | dsimp only | with_reducible exact keepsOut_fault)

theorem finishSample_kept (x : Sample) (s : State) (hh : Keeps ref s) : Keeps ref (finishSample x s) := by
  unfold finishSample; (try dsimp only); repeat' (first | with_reducible assumption | with_reducible apply commit_kept | with_reducible apply State_setEntry_kept | with_reducible apply trySettle_kept | with_reducible apply admitProvGates_kept | with_reducible apply traceKind_kept | split | dsimp only)

theorem retireProcessor_kept (p : Nat) (s : State) (hh : Keeps ref s) : Keeps ref (retireProcessor p s) := by
  unfold retireProcessor; (try dsimp only); repeat' (first | with_reducible assumption | with_reducible apply State_setProcessor_kept | simp only [keeps_mk, keeps_fold] | dsimp only)

theorem vote_kept (x : Sample) (s : State) (hh : Keeps ref s) : Keeps ref (vote x s) := by
  unfold vote; (try dsimp only); repeat' (first | with_reducible assumption | with_reducible apply State_takeBool_kept | with_reducible apply finishSample_kept | simp only [keeps_mk, keeps_fold] | split | refine State_takeBool_eq _ (by with_reducible assumption) ?_ | dsimp only)

theorem loseMajority_kept (x : Sample) (s : State) (hh : Keeps ref s) : Keeps ref (loseMajority x s) := by
  unfold loseMajority; (try dsimp only); repeat' (first | with_reducible assumption | with_reducible apply unclean_kept | with_reducible apply missSample_kept | with_reducible apply traceKind_kept | simp only [keeps_mk, keeps_fold] | dsimp only)

theorem decideThird_kept (x : Sample) (s : State) (hh : Keeps ref s) : Keeps ref (decideThird x s) := by
  unfold decideThird; (try dsimp only); repeat' (first | with_reducible assumption | with_reducible apply State_takeBool_kept | with_reducible apply finishSample_kept | with_reducible apply retireProcessor_kept | with_reducible apply loseMajority_kept | simp only [keeps_mk, keeps_fold] | split | refine State_takeBool_eq _ (by with_reducible assumption) ?_ | dsimp only)

theorem execSampleComplete_kept (processor : Nat) (s : State) (hh : Keeps ref s) : KeepsOut ref (execSampleComplete processor s) := by
  unfold execSampleComplete; (try dsimp only); repeat' (first | with_reducible refine keepsOut_next ?_ | with_reducible assumption | with_reducible apply State_setProcessor_kept | with_reducible apply settleAll_kept | with_reducible apply finishSample_kept | with_reducible apply decideThird_kept | with_reducible apply vote_kept | split | dsimp only | with_reducible exact keepsOut_fault)

theorem execRecomputation_kept (entry : Nat) (s : State) (hh : Keeps ref s) : KeepsOut ref (execRecomputation entry s) := by
  unfold execRecomputation; (try dsimp only); repeat' (first | with_reducible refine keepsOut_next ?_ | with_reducible assumption | with_reducible apply settleAll_kept | with_reducible apply recompute_kept | split | dsimp only | with_reducible exact keepsOut_fault)

theorem execResultApply_kept (slot : Nat) (s : State) (hh : Keeps ref s) : KeepsOut ref (execResultApply slot s) := by
  unfold execResultApply; (try dsimp only); repeat' (first | with_reducible refine keepsOut_next ?_ | with_reducible assumption | with_reducible apply settleAll_kept | with_reducible apply applyDue_kept | with_reducible apply State_atAngle_kept | split | dsimp only | with_reducible exact keepsOut_fault)

theorem execAwaitGiveUp_kept (slot : Nat) (s : State) (hh : Keeps ref s) : KeepsOut ref (execAwaitGiveUp slot s) := by
  unfold execAwaitGiveUp; (try dsimp only); repeat' (first | with_reducible refine keepsOut_next ?_ | with_reducible assumption | with_reducible apply State_setLoop_kept | with_reducible apply loseSample_kept | with_reducible apply State_atAngle_kept | simp only [keeps_mk, keeps_fold] | split | dsimp only | with_reducible exact keepsOut_fault)

theorem execLoopStatus_kept (mbx : Nat) (s : State) (hh : Keeps ref s) : KeepsOut ref (execLoopStatus mbx s) := by
  unfold execLoopStatus; (try dsimp only); repeat' (first | with_reducible refine keepsOut_next ?_ | with_reducible assumption | with_reducible apply serveRead_kept | split | dsimp only | with_reducible exact keepsOut_fault)

theorem execLoopRead_kept (mbx : Nat) (s : State) (hh : Keeps ref s) : KeepsOut ref (execLoopRead mbx s) := by
  unfold execLoopRead; (try dsimp only); repeat' (first | with_reducible refine keepsOut_next ?_ | with_reducible assumption | with_reducible apply serveRead_kept | split | dsimp only | with_reducible exact keepsOut_fault)

theorem execLoopFlagsClear_kept (mbx : Nat) (s : State) (hh : Keeps ref s) : KeepsOut ref (execLoopFlagsClear mbx s) := by
  unfold execLoopFlagsClear; (try dsimp only); repeat' (first | with_reducible refine keepsOut_next ?_ | with_reducible assumption | with_reducible apply serve_kept | with_reducible apply State_setLoop_kept | with_reducible refine keeps_body_intro (fun _ _ _ => ?_) | split | dsimp only | with_reducible exact keepsOut_fault)

theorem execLoopEnable_kept (mbx : Nat) (s : State) (hh : Keeps ref s) : KeepsOut ref (execLoopEnable mbx s) := by
  unfold execLoopEnable; (try dsimp only); repeat' (first | with_reducible refine keepsOut_next ?_ | with_reducible assumption | with_reducible apply serve_kept | with_reducible apply State_setLoop_kept | with_reducible refine keeps_body_intro (fun _ _ _ => ?_) | split | dsimp only | with_reducible exact keepsOut_fault)

theorem execLoopManual_kept (mbx : Nat) (s : State) (hh : Keeps ref s) : KeepsOut ref (execLoopManual mbx s) := by
  unfold execLoopManual; (try dsimp only); repeat' (first | with_reducible refine keepsOut_next ?_ | with_reducible assumption | with_reducible apply serve_kept | with_reducible apply State_setLoop_kept | with_reducible refine keeps_body_intro (fun _ _ _ => ?_) | split | dsimp only | with_reducible exact keepsOut_fault)

theorem execLoopModel_kept (mbx : Nat) (s : State) (hh : Keeps ref s) : KeepsOut ref (execLoopModel mbx s) := by
  unfold execLoopModel; (try dsimp only); repeat' (first | with_reducible refine keepsOut_next ?_ | with_reducible assumption | with_reducible apply serveRead_kept | split | dsimp only | with_reducible exact keepsOut_fault)

theorem execLoopTraceArm_kept (mbx : Nat) (s : State) (hh : Keeps ref s) : KeepsOut ref (execLoopTraceArm mbx s) := by
  unfold execLoopTraceArm; (try dsimp only); repeat' (first | with_reducible refine keepsOut_next ?_ | with_reducible assumption | with_reducible apply serve_kept | with_reducible apply State_setTrace_kept | with_reducible apply fireTrace_kept | with_reducible refine keeps_body_intro (fun _ _ _ => ?_) | split | dsimp only | with_reducible exact keepsOut_fault)

theorem execLoopTraceStatus_kept (mbx : Nat) (s : State) (hh : Keeps ref s) : KeepsOut ref (execLoopTraceStatus mbx s) := by
  unfold execLoopTraceStatus; (try dsimp only); repeat' (first | with_reducible refine keepsOut_next ?_ | with_reducible assumption | with_reducible apply serveRead_kept | split | dsimp only | with_reducible exact keepsOut_fault)

theorem execLoopTraceRead_kept (mbx : Nat) (s : State) (hh : Keeps ref s) : KeepsOut ref (execLoopTraceRead mbx s) := by
  unfold execLoopTraceRead; (try dsimp only); repeat' (first | with_reducible refine keepsOut_next ?_ | with_reducible assumption | with_reducible apply serveRead_kept | split | dsimp only | with_reducible exact keepsOut_fault)

theorem execLoopStats_kept (mbx : Nat) (s : State) (hh : Keeps ref s) : KeepsOut ref (execLoopStats mbx s) := by
  unfold execLoopStats; (try dsimp only); repeat' (first | with_reducible refine keepsOut_next ?_ | with_reducible assumption | with_reducible apply serveRead_kept | dsimp only | with_reducible exact keepsOut_fault)

theorem State_setVbank_kept (s : State) (b : Nat) (x : ValveBank) (hh : Keeps ref s) : Keeps ref (State.setVbank s b x) := by
  unfold State.setVbank; dsimp only; simp only [keeps_mk, keeps_fold]; exact hh

theorem State_setValveCh_kept (s : State) (n : Nat) (x : ValveChannel) (hh : Keeps ref s) : Keeps ref (State.setValveCh s n x) := by
  unfold State.setValveCh; dsimp only; simp only [keeps_mk, keeps_fold]; exact hh

theorem countValve_kept (n : Nat) (i : Nat) (s : State) (hh : Keeps ref s) : Keeps ref (countValve n i s) := by
  unfold countValve; (try dsimp only); repeat' (first | with_reducible assumption | with_reducible apply State_setValveCh_kept | dsimp only)

theorem refuseValve_kept (r : ValveReq) (cause : Nat) (holder : Option ValveReq) (s : State) (hh : Keeps ref s) : Keeps ref (refuseValve r cause holder s) := by
  unfold refuseValve; (try dsimp only); repeat' (first | with_reducible assumption | with_reducible exact keeps_raise | with_reducible apply countValve_kept | with_reducible apply State_setValveCh_kept | with_reducible apply raise_kept | with_reducible apply complete_kept | split | dsimp only)

theorem fireDone_kept (r : ValveReq) (s : State) (hh : Keeps ref s) : Keeps ref (fireDone r s) := by
  unfold fireDone; (try dsimp only); repeat' (first | with_reducible assumption | with_reducible apply complete_kept | split | dsimp only)

theorem enterDecay_kept (b : Nat) (s : State) (hh : Keeps ref s) : Keeps ref (enterDecay b s) := by
  unfold enterDecay; (try dsimp only); repeat' (first | with_reducible assumption | with_reducible apply State_setVbank_kept | split | dsimp only)

theorem waitFor_kept (r : ValveReq) (always : Bool) (s : State) (hh : Keeps ref s) : Keeps ref (waitFor r always s) := by
  unfold waitFor; (try dsimp only); repeat' (first | with_reducible assumption | with_reducible apply State_setValveCh_kept | with_reducible apply refuseValve_kept | split | dsimp only)

theorem requestValve_kept (r : ValveReq) (s : State) (hh : Keeps ref s) : Keeps ref (requestValve r s) := by
  unfold requestValve; (try dsimp only); repeat' (first | with_reducible assumption | with_reducible apply refuseValve_kept | with_reducible apply countValve_kept | with_reducible apply enterDecay_kept | with_reducible apply fireDone_kept | with_reducible apply State_setValveCh_kept | with_reducible apply waitFor_kept | split | dsimp only)

theorem fireValve_kept (bead : Nat) (cls : Nat) (action : List Byte) (s : State) (hh : Keeps ref s) : Keeps ref (fireValve bead cls action s) := by
  unfold fireValve; (try dsimp only); repeat' (first | with_reducible assumption | with_reducible apply requestValve_kept | dsimp only)

theorem startEvent_kept (r : ValveReq) (s : State) (hh : Keeps ref s) : Keeps ref (startEvent r s) := by
  unfold startEvent; (try dsimp only); repeat' (first | with_reducible assumption | with_reducible apply State_setValveCh_kept | with_reducible apply countValve_kept | with_reducible apply fireDone_kept | with_reducible apply State_setVbank_kept | with_reducible refine keeps_foldl _ _ _ ?_ (fun _ _ _ => ?_) | with_reducible refine keeps_foldl2 _ _ _ ?_ (fun _ _ _ => ?_) | split | dsimp only)

theorem execValveEventStart_kept (bank : Nat) (s : State) (hh : Keeps ref s) : KeepsOut ref (execValveEventStart bank s) := by
  unfold execValveEventStart; (try dsimp only); repeat' (first | with_reducible refine keepsOut_next ?_ | with_reducible assumption | with_reducible apply startEvent_kept | split | dsimp only | with_reducible exact keepsOut_fault)

theorem toPhase_kept (channel : Nat) (phase : Nat) (e : ValveEvent) (s : State) (hh : Keeps ref s) : Keeps ref (toPhase channel phase e s) := by
  unfold toPhase; (try dsimp only); repeat' (first | with_reducible assumption | with_reducible apply State_setVbank_kept | dsimp only)

theorem execValvePeakReached_kept (channel : Nat) (micros : Nat) (currentMa : Nat) (s : State) (hh : Keeps ref s) : KeepsOut ref (execValvePeakReached channel micros currentMa s) := by
  unfold execValvePeakReached; (try dsimp only); repeat' (first | with_reducible refine keepsOut_next ?_ | with_reducible assumption | with_reducible apply State_setValveCh_kept | with_reducible apply toPhase_kept | split | dsimp only | with_reducible exact keepsOut_fault)

theorem execValvePeakEnd_kept (channel : Nat) (s : State) (hh : Keeps ref s) : KeepsOut ref (execValvePeakEnd channel s) := by
  unfold execValvePeakEnd; (try dsimp only); repeat' (first | with_reducible refine keepsOut_next ?_ | with_reducible assumption | with_reducible apply toPhase_kept | split | dsimp only | with_reducible exact keepsOut_fault)

theorem execValveDropEnd_kept (channel : Nat) (s : State) (hh : Keeps ref s) : KeepsOut ref (execValveDropEnd channel s) := by
  unfold execValveDropEnd; (try dsimp only); repeat' (first | with_reducible refine keepsOut_next ?_ | with_reducible assumption | with_reducible apply toPhase_kept | with_reducible apply State_setValveCh_kept | split | dsimp only | with_reducible exact keepsOut_fault)

theorem execValveHoldEnd_kept (channel : Nat) (meanMa : Nat) (s : State) (hh : Keeps ref s) : KeepsOut ref (execValveHoldEnd channel meanMa s) := by
  unfold execValveHoldEnd; (try dsimp only); repeat' (first | with_reducible refine keepsOut_next ?_ | with_reducible assumption | with_reducible apply toPhase_kept | with_reducible apply State_setValveCh_kept | split | dsimp only | with_reducible exact keepsOut_fault)

theorem endEvent_kept (b : Nat) (s : State) (hh : Keeps ref s) : Keeps ref (endEvent b s) := by
  unfold endEvent; (try dsimp only); repeat' (first | with_reducible assumption | with_reducible apply State_setValveCh_kept | with_reducible apply State_setVbank_kept | with_reducible refine keeps_foldl _ _ _ ?_ (fun _ _ _ => ?_) | with_reducible refine keeps_foldl2 _ _ _ ?_ (fun _ _ _ => ?_) | split | dsimp only)

theorem execValveDecayEnd_kept (channel : Nat) (s : State) (hh : Keeps ref s) : KeepsOut ref (execValveDecayEnd channel s) := by
  unfold execValveDecayEnd; (try dsimp only); repeat' (first | with_reducible refine keepsOut_next ?_ | with_reducible assumption | with_reducible apply endEvent_kept | split | dsimp only | with_reducible exact keepsOut_fault)

theorem execValveOffTimeEnd_kept (channel : Nat) (s : State) (hh : Keeps ref s) : KeepsOut ref (execValveOffTimeEnd channel s) := by
  unfold execValveOffTimeEnd; (try dsimp only); repeat' (first | with_reducible refine keepsOut_next ?_ | with_reducible assumption | with_reducible apply State_setValveCh_kept | dsimp only | with_reducible exact keepsOut_fault)

theorem execBankRecoveryEnd_kept (bank : Nat) (s : State) (hh : Keeps ref s) : KeepsOut ref (execBankRecoveryEnd bank s) := by
  unfold execBankRecoveryEnd; (try dsimp only); repeat' (first | with_reducible refine keepsOut_next ?_ | with_reducible assumption | with_reducible apply State_setVbank_kept | dsimp only | with_reducible exact keepsOut_fault)

theorem execValveDeferExpiry_kept (channel : Nat) (s : State) (hh : Keeps ref s) : KeepsOut ref (execValveDeferExpiry channel s) := by
  unfold execValveDeferExpiry; (try dsimp only); repeat' (first | with_reducible refine keepsOut_next ?_ | with_reducible assumption | with_reducible apply State_atAngle_kept | with_reducible apply startEvent_kept | with_reducible apply State_setValveCh_kept | with_reducible apply refuseValve_kept | split | dsimp only | with_reducible exact keepsOut_fault)

theorem execDutyInstant_kept (channel : Nat) (s : State) (hh : Keeps ref s) : KeepsOut ref (execDutyInstant channel s) := by
  unfold execDutyInstant; (try dsimp only); repeat' (first | with_reducible refine keepsOut_next ?_ | with_reducible assumption | with_reducible apply State_atAngle_kept | with_reducible apply countValve_kept | with_reducible apply requestValve_kept | split | dsimp only | with_reducible exact keepsOut_fault)

theorem refuseFaulted_kept (p : ValveReq → Bool) (b : Nat) (s : State) (hh : Keeps ref s) : Keeps ref (refuseFaulted p b s) := by
  unfold refuseFaulted; (try dsimp only); repeat' (first | with_reducible assumption | with_reducible apply refuseValve_kept | with_reducible apply State_setValveCh_kept | with_reducible refine keeps_foldl _ _ _ ?_ (fun _ _ _ => ?_) | with_reducible refine keeps_foldl2 _ _ _ ?_ (fun _ _ _ => ?_) | split | dsimp only)

theorem latchChannel_kept (channel : Nat) (fault : Nat) (s : State) (hh : Keeps ref s) : Keeps ref (latchChannel channel fault s) := by
  unfold latchChannel; (try dsimp only); repeat' (first | with_reducible assumption | with_reducible apply endEvent_kept | with_reducible apply countValve_kept | with_reducible apply State_setValveCh_kept | with_reducible apply refuseFaulted_kept | split | dsimp only)

theorem latchBank_kept (b : Nat) (fault : Nat) (channel : Nat) (s : State) (hh : Keeps ref s) : Keeps ref (latchBank b fault channel s) := by
  unfold latchBank; (try dsimp only); repeat' (first | with_reducible assumption | with_reducible apply endEvent_kept | with_reducible apply refuseFaulted_kept | with_reducible apply countValve_kept | with_reducible apply State_setVbank_kept | dsimp only)

theorem execValveOpen_kept (channel : Nat) (currentMa : Nat) (s : State) (hh : Keeps ref s) : KeepsOut ref (execValveOpen channel currentMa s) := by
  unfold execValveOpen; (try dsimp only); repeat' (first | with_reducible refine keepsOut_next ?_ | with_reducible assumption | with_reducible exact keeps_raise | with_reducible apply raise_kept | with_reducible apply latchChannel_kept | split | dsimp only | with_reducible exact keepsOut_fault)

theorem execValveShort_kept (channel : Nat) (micros : Nat) (s : State) (hh : Keeps ref s) : KeepsOut ref (execValveShort channel micros s) := by
  unfold execValveShort; (try dsimp only); repeat' (first | with_reducible refine keepsOut_next ?_ | with_reducible assumption | with_reducible exact keeps_raise | with_reducible apply raise_kept | with_reducible apply latchChannel_kept | split | dsimp only | with_reducible exact keepsOut_fault)

theorem execValveOvercurrent_kept (channel : Nat) (currentMa : Nat) (s : State) (hh : Keeps ref s) : KeepsOut ref (execValveOvercurrent channel currentMa s) := by
  unfold execValveOvercurrent; (try dsimp only); repeat' (first | with_reducible refine keepsOut_next ?_ | with_reducible assumption | with_reducible exact keeps_raise | with_reducible apply raise_kept | with_reducible apply latchChannel_kept | split | dsimp only | with_reducible exact keepsOut_fault)

theorem execValveDecay_kept (bank : Nat) (currentMa : Nat) (s : State) (hh : Keeps ref s) : KeepsOut ref (execValveDecay bank currentMa s) := by
  unfold execValveDecay; (try dsimp only); repeat' (first | with_reducible refine keepsOut_next ?_ | with_reducible assumption | with_reducible exact keeps_raise | with_reducible apply raise_kept | with_reducible apply latchBank_kept | split | dsimp only | with_reducible exact keepsOut_fault)

theorem execValveStuck_kept (channel : Nat) (currentMa : Nat) (s : State) (hh : Keeps ref s) : KeepsOut ref (execValveStuck channel currentMa s) := by
  unfold execValveStuck; (try dsimp only); repeat' (first | with_reducible refine keepsOut_next ?_ | with_reducible assumption | with_reducible exact keeps_raise | with_reducible apply raise_kept | with_reducible apply latchBank_kept | split | dsimp only | with_reducible exact keepsOut_fault)

theorem execValveBankOvercurrent_kept (bank : Nat) (currentMa : Nat) (s : State) (hh : Keeps ref s) : KeepsOut ref (execValveBankOvercurrent bank currentMa s) := by
  unfold execValveBankOvercurrent; (try dsimp only); repeat' (first | with_reducible refine keepsOut_next ?_ | with_reducible assumption | with_reducible exact keeps_raise | with_reducible apply State_setVbank_kept | with_reducible apply raise_kept | with_reducible apply latchBank_kept | split | dsimp only | with_reducible exact keepsOut_fault)

theorem execValveGroundShort_kept (bank : Nat) (excessMa : Nat) (s : State) (hh : Keeps ref s) : KeepsOut ref (execValveGroundShort bank excessMa s) := by
  unfold execValveGroundShort; (try dsimp only); repeat' (first | with_reducible refine keepsOut_next ?_ | with_reducible assumption | with_reducible exact keeps_raise | with_reducible apply raise_kept | with_reducible apply latchBank_kept | split | dsimp only | with_reducible exact keepsOut_fault)

theorem stopValves_kept (faultsToo : Bool) (s : State) (hh : Keeps ref s) : Keeps ref (stopValves faultsToo s) := by
  unfold stopValves; (try dsimp only); repeat' (first | with_reducible assumption | simp only [keeps_mk, keeps_fold] | split | dsimp only)

theorem abandonFires_kept (s : State) (hh : Keeps ref s) : Keeps ref (abandonFires s) := by
  unfold abandonFires; (try dsimp only); repeat' (first | with_reducible assumption | with_reducible apply refuseValve_kept | with_reducible apply State_setValveCh_kept | with_reducible refine keeps_foldl _ _ _ ?_ (fun _ _ _ => ?_) | with_reducible refine keeps_foldl2 _ _ _ ?_ (fun _ _ _ => ?_) | split | dsimp only)

theorem execValveStatus_kept (mbx : Nat) (s : State) (hh : Keeps ref s) : KeepsOut ref (execValveStatus mbx s) := by
  unfold execValveStatus; (try dsimp only); repeat' (first | with_reducible refine keepsOut_next ?_ | with_reducible assumption | with_reducible apply serveRead_kept | split | dsimp only | with_reducible exact keepsOut_fault)

theorem execValveFire_kept (mbx : Nat) (s : State) (hh : Keeps ref s) : KeepsOut ref (execValveFire mbx s) := by
  unfold execValveFire; (try dsimp only); repeat' (first | with_reducible refine keepsOut_next ?_ | with_reducible assumption | with_reducible apply serve_kept | with_reducible apply defer_kept | with_reducible apply requestValve_kept | with_reducible refine keeps_body_intro (fun _ _ _ => ?_) | split | refine defer_eq _ _ _ (by with_reducible assumption) ?_ | dsimp only | with_reducible exact keepsOut_fault)

theorem execValveClear_kept (mbx : Nat) (s : State) (hh : Keeps ref s) : KeepsOut ref (execValveClear mbx s) := by
  unfold execValveClear; (try dsimp only); repeat' (first | with_reducible refine keepsOut_next ?_ | with_reducible assumption | with_reducible apply serve_kept | with_reducible apply State_setValveCh_kept | with_reducible apply State_setVbank_kept | with_reducible refine keeps_body_intro (fun _ _ _ => ?_) | split | dsimp only | with_reducible exact keepsOut_fault)

theorem execValveProfile_kept (mbx : Nat) (s : State) (hh : Keeps ref s) : KeepsOut ref (execValveProfile mbx s) := by
  unfold execValveProfile; (try dsimp only); repeat' (first | with_reducible refine keepsOut_next ?_ | with_reducible assumption | with_reducible apply serveRead_kept | split | dsimp only | with_reducible exact keepsOut_fault)

theorem execValveStats_kept (mbx : Nat) (s : State) (hh : Keeps ref s) : KeepsOut ref (execValveStats mbx s) := by
  unfold execValveStats; (try dsimp only); repeat' (first | with_reducible refine keepsOut_next ?_ | with_reducible assumption | with_reducible apply serveRead_kept | split | dsimp only | with_reducible exact keepsOut_fault)

theorem clearValve_kept (s : State) (n : Nat) (hh : Keeps ref s) : Keeps ref (clearValve s n) := by
  unfold clearValve; (try dsimp only); repeat' (first | with_reducible assumption | with_reducible apply State_setValveCh_kept | dsimp only)

theorem execValveStatsClear_kept (mbx : Nat) (s : State) (hh : Keeps ref s) : KeepsOut ref (execValveStatsClear mbx s) := by
  unfold execValveStatsClear; (try dsimp only); repeat' (first | with_reducible refine keepsOut_next ?_ | with_reducible assumption | with_reducible apply serve_kept | with_reducible apply clearValve_kept | with_reducible refine keeps_foldl _ _ _ ?_ (fun _ _ _ => ?_) | with_reducible refine keeps_foldl2 _ _ _ ?_ (fun _ _ _ => ?_) | with_reducible refine keeps_body_intro (fun _ _ _ => ?_) | split | dsimp only | with_reducible exact keepsOut_fault)

theorem beginWarm_kept (s : State) (hh : Keeps ref s) : Keeps ref (beginWarm s) := by
  unfold beginWarm; (try dsimp only); repeat' (first | with_reducible assumption | with_reducible apply abandonFires_kept | with_reducible apply abandon_kept | with_reducible apply beginOutage_kept | with_reducible apply beginPause_kept | simp only [keeps_mk, keeps_fold] | dsimp only)

theorem substituted_kept (w : Substitution) (joined : Option Nat) (s : State) (hh : Keeps ref s) : Keeps ref (substituted w joined s) := by
  unfold substituted; (try dsimp only); repeat' (first | with_reducible assumption | with_reducible apply writeLedger_kept | simp only [keeps_mk, keeps_fold] | split | dsimp only)

theorem swapGate_kept (w : Substitution) (s : State) (hh : Keeps ref s) : Keeps ref (swapGate w s) := by
  unfold swapGate; (try dsimp only); repeat' (first | with_reducible assumption | with_reducible apply substituted_kept | dsimp only)

theorem waitSubstitution_kept (w : Substitution) (s : State) (hh : Keeps ref s) : Keeps ref (waitSubstitution w s) := by
  unfold waitSubstitution; dsimp only; simp only [keeps_mk, keeps_fold]; exact hh

theorem callSubstitution_kept (w : Substitution) (s : State) (hh : Keeps ref s) : Keeps ref (callSubstitution w s) := by
  unfold callSubstitution; (try dsimp only); repeat' (first | with_reducible assumption | with_reducible apply beginSwap_kept | with_reducible apply waitSubstitution_kept | with_reducible apply State_setProcessor_kept | with_reducible apply requestSwitch_kept | with_reducible apply swapGate_kept | simp only [keeps_mk, keeps_fold] | split | dsimp only)

theorem raiseWorn_kept (kind : Nat) (unit : Nat) (level : Nat) (s : State) (hh : Keeps ref s) : Keeps ref (raiseWorn kind unit level s) := by
  unfold raiseWorn; (try dsimp only); repeat' (first | with_reducible assumption | with_reducible exact keeps_raise | with_reducible apply raise_kept | with_reducible apply State_setUnit_kept | split | dsimp only)

theorem replaceUnit_kept (kind : Nat) (unit : Nat) (cause : Nat) (s : State) (hh : Keeps ref s) : Keeps ref (replaceUnit kind unit cause s) := by
  unfold replaceUnit; (try dsimp only); repeat' (first | with_reducible assumption | with_reducible apply callSubstitution_kept | with_reducible apply raiseWorn_kept | simp only [keeps_mk, keeps_fold] | split | dsimp only)

theorem noteWear_kept (kind : Nat) (unit : Nat) (w : Nat) (s : State) (hh : Keeps ref s) : Keeps ref (noteWear kind unit w s) := by
  unfold noteWear; (try dsimp only); repeat' (first | with_reducible assumption | with_reducible apply State_setUnit_kept | with_reducible apply raiseWorn_kept | with_reducible apply replaceUnit_kept | split | dsimp only)

theorem execWearMeasurement_kept (kind : Nat) (unit : Nat) (wear : Nat) (s : State) (hh : Keeps ref s) : KeepsOut ref (execWearMeasurement kind unit wear s) := by
  unfold execWearMeasurement; (try dsimp only); repeat' (first | with_reducible refine keepsOut_next ?_ | with_reducible assumption | with_reducible apply noteWear_kept | with_reducible apply State_setUnit_kept | split | dsimp only | with_reducible exact keepsOut_fault)

theorem execEccCorrection_kept (kind : Nat) (unit : Nat) (s : State) (hh : Keeps ref s) : KeepsOut ref (execEccCorrection kind unit s) := by
  unfold execEccCorrection; (try dsimp only); repeat' (first | with_reducible refine keepsOut_next ?_ | with_reducible assumption | with_reducible apply noteWear_kept | with_reducible apply State_setUnit_kept | split | dsimp only | with_reducible exact keepsOut_fault)

theorem damagePoint_kept (p : Nat) (s : State) (hh : Keeps ref s) : Keeps ref (damagePoint p s) := by
  unfold damagePoint; dsimp only; simp only [keeps_mk, keeps_fold]; exact hh

theorem damageSample_kept (l : Nat) (s : State) (hh : Keeps ref s) : Keeps ref (damageSample l s) := by
  unfold damageSample; (try dsimp only); repeat' (first | with_reducible assumption | with_reducible apply mapSamples_kept | with_reducible apply unclean_kept | with_reducible apply missSample_kept | with_reducible apply traceKind_kept | split | dsimp only)

theorem damageImage_kept (place : Nat) (s : State) (hh : Keeps ref s) : Keeps ref (damageImage place s) := by
  unfold damageImage; (try dsimp only); repeat' (first | with_reducible assumption | with_reducible apply State_setFwSlot_kept | with_reducible apply State_setCfgSlot_kept | split | dsimp only)

theorem damageRegion_kept (region : Nat) (place : Nat) (s : State) (hh : Keeps ref s) : Keeps ref (damageRegion region place s) := by
  unfold damageRegion; (try dsimp only); repeat' (first | with_reducible assumption | with_reducible apply damagePoint_kept | with_reducible apply damageSample_kept | with_reducible apply damageImage_kept | simp only [keeps_mk, keeps_fold] | split | dsimp only)

theorem execUncorrectableError_kept (kind : Nat) (unit : Nat) (offset : Nat) (region : Nat) (place : Nat) (s : State) (hh : Keeps ref s) : KeepsOut ref (execUncorrectableError kind unit offset region place s) := by
  unfold execUncorrectableError; (try dsimp only); repeat' (first | with_reducible refine keepsOut_next ?_ | with_reducible assumption | with_reducible exact keeps_raise | with_reducible apply replaceUnit_kept | with_reducible apply damageRegion_kept | with_reducible apply raise_kept | split | dsimp only | with_reducible exact keepsOut_fault)

theorem execRowRemap_kept (kind : Nat) (unit : Nat) (s : State) (hh : Keeps ref s) : KeepsOut ref (execRowRemap kind unit s) := by
  unfold execRowRemap; (try dsimp only); repeat' (first | with_reducible refine keepsOut_next ?_ | with_reducible assumption | with_reducible apply substituted_kept | simp only [keeps_mk, keeps_fold] | split | dsimp only | with_reducible exact keepsOut_fault)

theorem dropCall_kept (w : Substitution) (s : State) (hh : Keeps ref s) : Keeps ref (dropCall w s) := by
  unfold dropCall; (try dsimp only); repeat' (first | with_reducible assumption | with_reducible apply complete_kept | with_reducible apply raiseWorn_kept | split | dsimp only)

theorem swapPll_kept (w : Substitution) (s : State) (hh : Keeps ref s) : Keeps ref (swapPll w s) := by
  unfold swapPll; (try dsimp only); repeat' (first | with_reducible assumption | with_reducible apply dropCall_kept | with_reducible apply substituted_kept | simp only [keeps_mk, keeps_fold] | split | dsimp only)

theorem execPllLossOfLock_kept (s : State) (hh : Keeps ref s) : KeepsOut ref (execPllLossOfLock s) := by
  unfold execPllLossOfLock; (try dsimp only); repeat' (first | with_reducible refine keepsOut_next ?_ | with_reducible assumption | with_reducible apply swapPll_kept | with_reducible apply raiseWorn_kept | simp only [keeps_mk, keeps_fold] | split | dsimp only | with_reducible exact keepsOut_fault)

theorem swapStage_kept (w : Substitution) (s : State) (hh : Keeps ref s) : Keeps ref (swapStage w s) := by
  unfold swapStage; (try dsimp only); repeat' (first | with_reducible assumption | with_reducible apply substituted_kept | simp only [keeps_mk, keeps_fold] | split | dsimp only)

theorem boundarySubstitution_kept (w : Substitution) (s : State) (hh : Keeps ref s) : Keeps ref (boundarySubstitution w s) := by
  unfold boundarySubstitution; (try dsimp only); repeat' (first | with_reducible assumption | with_reducible apply swapStage_kept | with_reducible apply swapPll_kept | with_reducible apply swapGate_kept | with_reducible apply waitSubstitution_kept | split | dsimp only)

theorem substitutionBoundary_kept (s : State) (hh : Keeps ref s) : Keeps ref (substitutionBoundary s) := by
  unfold substitutionBoundary; (try dsimp only); repeat' (first | with_reducible assumption | with_reducible apply waitSubstitution_kept | with_reducible apply boundarySubstitution_kept | with_reducible refine keeps_foldl _ _ _ ?_ (fun _ _ _ => ?_) | with_reducible refine keeps_foldl2 _ _ _ ?_ (fun _ _ _ => ?_) | simp only [keeps_mk, keeps_fold] | split | dsimp only)

theorem coreBoundary_kept (s : State) (hh : Keeps ref s) : Keeps ref (coreBoundary s) := by
  unfold coreBoundary; (try dsimp only); repeat' (first | with_reducible assumption | with_reducible apply dropCall_kept | with_reducible apply beginPause_kept | simp only [keeps_mk, keeps_fold] | split | dsimp only)

theorem beginCoreTest_kept (watchdog : Bool) (s : State) (hh : Keeps ref s) : Keeps ref (beginCoreTest watchdog s) := by
  unfold beginCoreTest; (try dsimp only); repeat' (first | with_reducible assumption | with_reducible apply beginPause_kept | simp only [keeps_mk, keeps_fold] | dsimp only)

theorem execLockstepMismatch_kept (s : State) (hh : Keeps ref s) : KeepsOut ref (execLockstepMismatch s) := by
  unfold execLockstepMismatch; (try dsimp only); repeat' (first | with_reducible refine keepsOut_next ?_ | with_reducible assumption | with_reducible apply beginCoreTest_kept | simp only [keeps_mk, keeps_fold] | split | dsimp only | with_reducible exact keepsOut_fault)

theorem runCores_kept (cores : List Nat) (cause : Nat) (s : State) (hh : Keeps ref s) : Keeps ref (runCores cores cause s) := by
  unfold runCores; (try dsimp only); repeat' (first | with_reducible assumption | with_reducible exact keeps_raise | with_reducible apply raise_kept | simp only [keeps_mk, keeps_fold] | split | dsimp only)

theorem retireCore_kept (core : Nat) (cause : Nat) (spare : Option Nat) (s : State) (hh : Keeps ref s) : Keeps ref (retireCore core cause spare s) := by
  unfold retireCore; (try dsimp only); repeat' (first | with_reducible assumption | with_reducible apply runCores_kept | with_reducible apply writeLedger_kept | dsimp only)

theorem watchdogOutcome_kept (outcome : Nat) (s : State) (hh : Keeps ref s) : Keeps ref (watchdogOutcome outcome s) := by
  unfold watchdogOutcome; (try dsimp only); repeat' (first | with_reducible assumption | with_reducible exact keeps_raise | with_reducible apply raise_kept | split | dsimp only)

theorem coresPassed_kept (spare : Option Nat) (micros : Nat) (s : State) (hh : Keeps ref s) : Keeps ref (coresPassed spare micros s) := by
  unfold coresPassed; (try dsimp only); repeat' (first | with_reducible assumption | with_reducible exact keeps_raise | with_reducible apply beginWarm_kept | with_reducible apply watchdogOutcome_kept | with_reducible apply raise_kept | with_reducible apply retireCore_kept | simp only [keeps_mk, keeps_fold] | split | dsimp only)

theorem execSelfTestComplete_kept (passed : BitVec 3) (micros : Nat) (s : State) (hh : Keeps ref s) : KeepsOut ref (execSelfTestComplete passed micros s) := by
  unfold execSelfTestComplete; (try dsimp only); repeat' (first | with_reducible refine keepsOut_next ?_ | with_reducible assumption | with_reducible apply runCores_kept | with_reducible apply watchdogOutcome_kept | with_reducible apply State_setUnit_kept | with_reducible apply coresPassed_kept | with_reducible apply retireCore_kept | simp only [keeps_mk, keeps_fold] | split | dsimp only | with_reducible exact keepsOut_fault)

theorem execSwapResume_kept (s : State) (hh : Keeps ref s) : KeepsOut ref (execSwapResume s) := by
  unfold execSwapResume; (try dsimp only); repeat' (first | with_reducible refine keepsOut_next ?_ | with_reducible assumption | with_reducible apply endPause_kept | with_reducible apply substituted_kept | with_reducible apply runCores_kept | simp only [keeps_mk, keeps_fold] | split | dsimp only | with_reducible exact keepsOut_fault)

theorem execAgeingSample_kept (temperature : Int) (s : State) (hh : Keeps ref s) : KeepsOut ref (execAgeingSample temperature s) := by
  unfold execAgeingSample; (try dsimp only); repeat' (first | with_reducible refine keepsOut_next ?_ | with_reducible assumption | simp only [keeps_mk, keeps_fold] | split | dsimp only | with_reducible exact keepsOut_fault)

theorem execSpareInfo_kept (mbx : Nat) (s : State) (hh : Keeps ref s) : KeepsOut ref (execSpareInfo mbx s) := by
  unfold execSpareInfo; (try dsimp only); repeat' (first | with_reducible refine keepsOut_next ?_ | with_reducible assumption | with_reducible apply serveRead_kept | dsimp only | with_reducible exact keepsOut_fault)

theorem execSpareLedger_kept (mbx : Nat) (s : State) (hh : Keeps ref s) : KeepsOut ref (execSpareLedger mbx s) := by
  unfold execSpareLedger; (try dsimp only); repeat' (first | with_reducible refine keepsOut_next ?_ | with_reducible assumption | with_reducible apply serveRead_kept | split | dsimp only | with_reducible exact keepsOut_fault)

theorem execSpareWear_kept (mbx : Nat) (s : State) (hh : Keeps ref s) : KeepsOut ref (execSpareWear mbx s) := by
  unfold execSpareWear; (try dsimp only); repeat' (first | with_reducible refine keepsOut_next ?_ | with_reducible assumption | with_reducible apply serveRead_kept | split | dsimp only | with_reducible exact keepsOut_fault)

theorem execSpareProfile_kept (mbx : Nat) (s : State) (hh : Keeps ref s) : KeepsOut ref (execSpareProfile mbx s) := by
  unfold execSpareProfile; (try dsimp only); repeat' (first | with_reducible refine keepsOut_next ?_ | with_reducible assumption | with_reducible apply serveRead_kept | dsimp only | with_reducible exact keepsOut_fault)

theorem execSpareSwap_kept (mbx : Nat) (s : State) (hh : Keeps ref s) : KeepsOut ref (execSpareSwap mbx s) := by
  unfold execSpareSwap; (try dsimp only); repeat' (first | with_reducible refine keepsOut_next ?_ | with_reducible assumption | with_reducible apply serve_kept | with_reducible apply defer_kept | with_reducible apply callSubstitution_kept | with_reducible refine keeps_body_intro (fun _ _ _ => ?_) | split | refine defer_eq _ _ _ (by with_reducible assumption) ?_ | dsimp only | with_reducible exact keepsOut_fault)

theorem execSubstitutionComplete_kept (s : State) (hh : Keeps ref s) : KeepsOut ref (execSubstitutionComplete s) := by
  unfold execSubstitutionComplete; (try dsimp only); repeat' (first | with_reducible refine keepsOut_next ?_ | with_reducible assumption | with_reducible apply boundarySubstitution_kept | with_reducible apply waitSubstitution_kept | with_reducible apply complete_kept | with_reducible refine keeps_foldl _ _ _ ?_ (fun _ _ _ => ?_) | with_reducible refine keeps_foldl2 _ _ _ ?_ (fun _ _ _ => ?_) | simp only [keeps_mk, keeps_fold] | split | dsimp only | with_reducible exact keepsOut_fault)

theorem startCommons_kept (s : State) (hh : Keeps ref s) : Keeps ref (startCommons s) := by
  unfold startCommons; (try dsimp only); repeat' (first | with_reducible assumption | with_reducible exact keeps_raise | with_reducible apply keeps_raiser | with_reducible apply keeps_body | with_reducible refine keeps_foldl _ _ _ ?_ (fun _ _ _ => ?_) | with_reducible refine keeps_foldl2 _ _ _ ?_ (fun _ _ _ => ?_) | with_reducible refine keeps_body_intro (fun _ _ _ => ?_) | simp only [keeps_mk, keeps_fold] | with_reducible apply keepsCore_writeBytes | split | dsimp only)

theorem countCommons_kept (i : Nat) (n : Nat) (s : State) (hh : Keeps ref s) : Keeps ref (countCommons i n s) := by
  unfold countCommons; dsimp only; simp only [keeps_mk, keeps_fold]; exact hh

theorem fillPoint_kept (p : Nat) (x : Point) (s : State) (hh : Keeps ref s) : Keeps ref (fillPoint p x s) := by
  unfold fillPoint; dsimp only; simp only [keeps_mk, keeps_fold]; exact hh

theorem arrivePoint_kept (p : Nat) (type : Nat) (value : Nat) (s : State) (hh : Keeps ref s) : Keeps ref (arrivePoint p type value s) := by
  unfold arrivePoint; (try dsimp only); repeat' (first | with_reducible assumption | with_reducible apply arrive_kept | simp only [keeps_mk, keeps_fold] | split | dsimp only)

theorem fillValue_kept (u : HeldUpdate) (late : Bool) (s : State) (hh : Keeps ref s) : Keeps ref (fillValue u late s) := by
  unfold fillValue; (try dsimp only); repeat' (first | with_reducible assumption | with_reducible apply countCommons_kept | with_reducible apply arrivePoint_kept | with_reducible apply fillPoint_kept | split | dsimp only)

theorem holdUpdate_kept (u : HeldUpdate) (s : State) (hh : Keeps ref s) : Keeps ref (holdUpdate u s) := by
  unfold holdUpdate; dsimp only; simp only [keeps_mk, keeps_fold]; exact hh

theorem countAssigned_kept (cut : Nat) (s : State) (hh : Keeps ref s) : Keeps ref (countAssigned cut s) := by
  unfold countAssigned; dsimp only; simp only [keeps_mk, keeps_fold]; exact hh

theorem pushTx_kept (e : TxEntry) (s : State) (hh : Keeps ref s) : Keeps ref (pushTx e s) := by
  unfold pushTx; dsimp only; simp only [keeps_mk, keeps_fold]; exact hh

theorem withdraw_kept (p : Nat) (s : State) (hh : Keeps ref s) : Keeps ref (withdraw p s) := by
  unfold withdraw; (try dsimp only); repeat' (first | with_reducible assumption | with_reducible refine keeps_foldl _ _ _ ?_ (fun _ _ _ => ?_) | with_reducible refine keeps_foldl2 _ _ _ ?_ (fun _ _ _ => ?_) | simp only [keeps_mk, keeps_fold] | dsimp only)

theorem queueOwn_kept (kind : Nat) (p : Nat) (type : Nat) (value : Nat) (standby : Bool) (cut : Nat) (s : State) (hh : Keeps ref s) : Keeps ref (queueOwn kind p type value standby cut s) := by
  unfold queueOwn; (try dsimp only); repeat' (first | with_reducible assumption | with_reducible apply withdraw_kept | with_reducible apply countAssigned_kept | with_reducible apply pushTx_kept | with_reducible apply fillValue_kept | with_reducible apply holdUpdate_kept | split | dsimp only)

theorem noteQueueFull_kept (p : Nat) (s : State) (hh : Keeps ref s) : Keeps ref (noteQueueFull p s) := by
  unfold noteQueueFull; (try dsimp only); repeat' (first | with_reducible assumption | with_reducible exact keeps_raise | with_reducible apply countCommons_kept | with_reducible apply raise_kept | simp only [keeps_mk, keeps_fold] | split | dsimp only)

theorem publish_kept (p : Nat) (type : Nat) (value : Nat) (s : State) (hh : Keeps ref s) : Keeps ref (publish p type value s) := by
  unfold publish; (try dsimp only); repeat' (first | with_reducible assumption | with_reducible apply noteQueueFull_kept | with_reducible apply queueOwn_kept | simp only [keeps_mk, keeps_fold] | split | dsimp only)

theorem publishBead_kept (point : Nat) (loop : Nat) (output : Nat) (s : State) (hh : Keeps ref s) : Keeps ref (publishBead point loop output s) := by
  unfold publishBead; (try dsimp only); repeat' (first | with_reducible assumption | with_reducible apply publish_kept | with_reducible apply orFlags_kept | split | dsimp only)

theorem execOfferPublish_kept (s : State) (hh : Keeps ref s) : KeepsOut ref (execOfferPublish s) := by
  unfold execOfferPublish; (try dsimp only); repeat' (first | with_reducible refine keepsOut_next ?_ | with_reducible assumption | with_reducible apply State_atAngle_kept | with_reducible apply publish_kept | split | dsimp only | with_reducible exact keepsOut_fault)

theorem State_setChip_kept (s : State) (c : Nat) (x : ChipSeen) (hh : Keeps ref s) : Keeps ref (State.setChip s c x) := by
  unfold State.setChip; dsimp only; simp only [keeps_mk, keeps_fold]; exact hh

theorem rejectUpdate_kept (u : HeldUpdate) (s : State) (hh : Keeps ref s) : Keeps ref (rejectUpdate u s) := by
  unfold rejectUpdate; (try dsimp only); repeat' (first | with_reducible assumption | with_reducible exact keeps_raise | with_reducible apply countCommons_kept | with_reducible apply raise_kept | with_reducible apply State_setChip_kept | split | dsimp only)

theorem countReceived_kept (u : HeldUpdate) (s : State) (hh : Keeps ref s) : Keeps ref (countReceived u s) := by
  unfold countReceived; (try dsimp only); repeat' (first | with_reducible assumption | with_reducible apply countCommons_kept | with_reducible apply State_setChip_kept | dsimp only)

theorem lateUpdate_kept (u : HeldUpdate) (s : State) (hh : Keeps ref s) : Keeps ref (lateUpdate u s) := by
  unfold lateUpdate; (try dsimp only); repeat' (first | with_reducible assumption | with_reducible apply fillValue_kept | with_reducible apply countCommons_kept | simp only [keeps_mk, keeps_fold] | split | dsimp only)

theorem refreshUpdate_kept (u : HeldUpdate) (s : State) (hh : Keeps ref s) : Keeps ref (refreshUpdate u s) := by
  unfold refreshUpdate; (try dsimp only); repeat' (first | with_reducible assumption | with_reducible apply rejectUpdate_kept | with_reducible apply countCommons_kept | with_reducible apply fillPoint_kept | split | dsimp only)

theorem takeUpdate_kept (u : HeldUpdate) (refresh : Bool) (s : State) (hh : Keeps ref s) : Keeps ref (takeUpdate u refresh s) := by
  unfold takeUpdate; (try dsimp only); repeat' (first | with_reducible assumption | with_reducible apply refreshUpdate_kept | with_reducible apply arrivePoint_kept | with_reducible apply countCommons_kept | with_reducible apply fillPoint_kept | with_reducible apply rejectUpdate_kept | with_reducible apply countReceived_kept | with_reducible apply holdUpdate_kept | with_reducible apply fillValue_kept | with_reducible apply lateUpdate_kept | split | dsimp only)

theorem takeUpdateFrame_kept (s : State) (hh : Keeps ref s) : Keeps ref (takeUpdateFrame s) := by
  unfold takeUpdateFrame; (try dsimp only); repeat' (first | with_reducible assumption | with_reducible apply takeDelivered_kept | with_reducible apply takeUpdate_kept | with_reducible refine keeps_foldl _ _ _ ?_ (fun _ _ _ => ?_) | with_reducible refine keeps_foldl2 _ _ _ ?_ (fun _ _ _ => ?_) | split | refine takeDelivered_eq _ _ (by with_reducible assumption) ?_ | dsimp only)

theorem execCommonsUpdateFrame_kept (s : State) (hh : Keeps ref s) : KeepsOut ref (execCommonsUpdateFrame s) := by
  unfold execCommonsUpdateFrame; (try dsimp only); repeat' (first | with_reducible refine keepsOut_next ?_ | with_reducible assumption | with_reducible apply takeUpdateFrame_kept | dsimp only | with_reducible exact keepsOut_fault)

theorem takeCutMark_kept (s : State) (hh : Keeps ref s) : Keeps ref (takeCutMark s) := by
  unfold takeCutMark; (try dsimp only); repeat' (first | with_reducible assumption | with_reducible exact keeps_raise | with_reducible apply takeDelivered_kept | with_reducible apply raise_kept | with_reducible apply State_setChip_kept | split | refine takeDelivered_eq _ _ (by with_reducible assumption) ?_ | dsimp only)

theorem execCutMark_kept (s : State) (hh : Keeps ref s) : KeepsOut ref (execCutMark s) := by
  unfold execCutMark; (try dsimp only); repeat' (first | with_reducible refine keepsOut_next ?_ | with_reducible assumption | with_reducible apply takeCutMark_kept | dsimp only | with_reducible exact keepsOut_fault)

theorem takeArrived_kept (s : State) (hh : Keeps ref s) : Keeps ref (takeArrived s) := by
  unfold takeArrived; (try dsimp only); repeat' (first | with_reducible assumption | with_reducible apply takeUpdateFrame_kept | with_reducible apply takeCutMark_kept | with_reducible refine keeps_foldl _ _ _ ?_ (fun _ _ _ => ?_) | with_reducible refine keeps_foldl2 _ _ _ ?_ (fun _ _ _ => ?_) | dsimp only)

theorem execCutMarkSend_kept (s : State) (hh : Keeps ref s) : KeepsOut ref (execCutMarkSend s) := by
  unfold execCutMarkSend; (try dsimp only); repeat' (first | with_reducible refine keepsOut_next ?_ | with_reducible assumption | with_reducible exact keeps_raise | with_reducible apply State_atAngle_kept | with_reducible apply sendGroup_kept | with_reducible apply raise_kept | with_reducible apply State_setChip_kept | split | dsimp only | with_reducible exact keepsOut_fault)

theorem execCommonsFrameSend_kept (s : State) (hh : Keeps ref s) : KeepsOut ref (execCommonsFrameSend s) := by
  unfold execCommonsFrameSend; (try dsimp only); repeat' (first | with_reducible refine keepsOut_next ?_ | with_reducible assumption | with_reducible exact keeps_raise | with_reducible apply State_atAngle_kept | with_reducible apply countCommons_kept | with_reducible apply sendGroup_kept | with_reducible apply raise_kept | with_reducible refine keeps_foldl _ _ _ ?_ (fun _ _ _ => ?_) | with_reducible refine keeps_foldl2 _ _ _ ?_ (fun _ _ _ => ?_) | simp only [keeps_mk, keeps_fold] | split | dsimp only | with_reducible exact keepsOut_fault)

theorem execRefreshQueue_kept (s : State) (hh : Keeps ref s) : KeepsOut ref (execRefreshQueue s) := by
  unfold execRefreshQueue; (try dsimp only); repeat' (first | with_reducible refine keepsOut_next ?_ | with_reducible assumption | with_reducible apply pushTx_kept | with_reducible refine keeps_foldl _ _ _ ?_ (fun _ _ _ => ?_) | with_reducible refine keeps_foldl2 _ _ _ ?_ (fun _ _ _ => ?_) | simp only [keeps_mk, keeps_fold] | split | dsimp only | with_reducible exact keepsOut_fault)

theorem republish_kept (s : State) (hh : Keeps ref s) : Keeps ref (republish s) := by
  unfold republish; (try dsimp only); repeat' (first | with_reducible assumption | with_reducible apply queueOwn_kept | with_reducible refine keeps_foldl _ _ _ ?_ (fun _ _ _ => ?_) | with_reducible refine keeps_foldl2 _ _ _ ?_ (fun _ _ _ => ?_) | simp only [keeps_mk, keeps_fold] | split | dsimp only)

theorem cutChip_kept (s : State) (chip : Nat) (hh : Keeps ref s) : Keeps ref (cutChip s chip) := by
  unfold cutChip; (try dsimp only); repeat' (first | with_reducible assumption | with_reducible exact keeps_raise | with_reducible apply State_setChip_kept | with_reducible apply raise_kept | with_reducible apply countCommons_kept | split | dsimp only)

theorem cutBlock_kept (s : State) (b : Nat) (hh : Keeps ref s) : Keeps ref (cutBlock s b) := by
  unfold cutBlock; (try dsimp only); repeat' (first | with_reducible assumption | with_reducible exact keeps_raise | with_reducible apply raise_kept | with_reducible apply countCommons_kept | simp only [keeps_mk, keeps_fold] | split | dsimp only)

theorem reportLate_kept (s : State) (hh : Keeps ref s) : Keeps ref (reportLate s) := by
  unfold reportLate; (try dsimp only); repeat' (first | with_reducible assumption | with_reducible exact keeps_raise | with_reducible apply raise_kept | with_reducible refine keeps_foldl _ _ _ ?_ (fun _ _ _ => ?_) | with_reducible refine keeps_foldl2 _ _ _ ?_ (fun _ _ _ => ?_) | simp only [keeps_mk, keeps_fold] | dsimp only)

theorem releaseHeld_kept (s : State) (hh : Keeps ref s) : Keeps ref (releaseHeld s) := by
  unfold releaseHeld; (try dsimp only); repeat' (first | with_reducible assumption | with_reducible apply fillValue_kept | with_reducible apply rejectUpdate_kept | with_reducible refine keeps_foldl _ _ _ ?_ (fun _ _ _ => ?_) | with_reducible refine keeps_foldl2 _ _ _ ?_ (fun _ _ _ => ?_) | simp only [keeps_mk, keeps_fold] | split | dsimp only)

theorem execCommonsCut_kept (s : State) (hh : Keeps ref s) : KeepsOut ref (execCommonsCut s) := by
  unfold execCommonsCut; (try dsimp only); repeat' (first | with_reducible refine keepsOut_next ?_ | with_reducible assumption | with_reducible apply takeArrived_kept | with_reducible apply State_atAngle_kept | with_reducible apply cutBlock_kept | with_reducible apply cutChip_kept | with_reducible apply reportLate_kept | with_reducible apply releaseHeld_kept | with_reducible refine keeps_foldl _ _ _ ?_ (fun _ _ _ => ?_) | with_reducible refine keeps_foldl2 _ _ _ ?_ (fun _ _ _ => ?_) | simp only [keeps_mk, keeps_fold] | split | dsimp only | with_reducible exact keepsOut_fault)

theorem viewBoundary_kept (s : State) (hh : Keeps ref s) : Keeps ref (viewBoundary s) := by
  unfold viewBoundary; (try dsimp only); repeat' (first | with_reducible assumption | simp only [keeps_mk, keeps_fold] | split | dsimp only)

theorem execCommonsInfo_kept (mbx : Nat) (s : State) (hh : Keeps ref s) : KeepsOut ref (execCommonsInfo mbx s) := by
  unfold execCommonsInfo; (try dsimp only); repeat' (first | with_reducible refine keepsOut_next ?_ | with_reducible assumption | with_reducible apply serveRead_kept | dsimp only | with_reducible exact keepsOut_fault)

theorem execCommonsRead_kept (mbx : Nat) (s : State) (hh : Keeps ref s) : KeepsOut ref (execCommonsRead mbx s) := by
  unfold execCommonsRead; (try dsimp only); repeat' (first | with_reducible refine keepsOut_next ?_ | with_reducible assumption | with_reducible apply serveRead_kept | split | dsimp only | with_reducible exact keepsOut_fault)

theorem execCommonsWrite_kept (mbx : Nat) (s : State) (hh : Keeps ref s) : KeepsOut ref (execCommonsWrite mbx s) := by
  unfold execCommonsWrite; (try dsimp only); repeat' (first | with_reducible refine keepsOut_next ?_ | with_reducible assumption | with_reducible apply serve_kept | with_reducible apply queueOwn_kept | with_reducible refine keeps_body_intro (fun _ _ _ => ?_) | split | dsimp only | with_reducible exact keepsOut_fault)

theorem execCommonsChips_kept (mbx : Nat) (s : State) (hh : Keeps ref s) : KeepsOut ref (execCommonsChips mbx s) := by
  unfold execCommonsChips; (try dsimp only); repeat' (first | with_reducible refine keepsOut_next ?_ | with_reducible assumption | with_reducible apply serveRead_kept | dsimp only | with_reducible exact keepsOut_fault)

theorem execCommonsBlocks_kept (mbx : Nat) (s : State) (hh : Keeps ref s) : KeepsOut ref (execCommonsBlocks mbx s) := by
  unfold execCommonsBlocks; (try dsimp only); repeat' (first | with_reducible refine keepsOut_next ?_ | with_reducible assumption | with_reducible apply serveRead_kept | split | dsimp only | with_reducible exact keepsOut_fault)

theorem execCommonsStats_kept (mbx : Nat) (s : State) (hh : Keeps ref s) : KeepsOut ref (execCommonsStats mbx s) := by
  unfold execCommonsStats; (try dsimp only); repeat' (first | with_reducible refine keepsOut_next ?_ | with_reducible assumption | with_reducible apply serveRead_kept | dsimp only | with_reducible exact keepsOut_fault)

theorem execCommonsStatsClear_kept (mbx : Nat) (s : State) (hh : Keeps ref s) : KeepsOut ref (execCommonsStatsClear mbx s) := by
  unfold execCommonsStatsClear; (try dsimp only); repeat' (first | with_reducible refine keepsOut_next ?_ | with_reducible assumption | with_reducible apply serve_kept | with_reducible refine keeps_body_intro (fun _ _ _ => ?_) | simp only [keeps_mk, keeps_fold] | dsimp only | with_reducible exact keepsOut_fault)

theorem execBeadPlace_kept (mbx : Nat) (s : State) (hh : Keeps ref s) : KeepsOut ref (execBeadPlace mbx s) := by
  unfold execBeadPlace; (try dsimp only); repeat' (first | with_reducible refine keepsOut_next ?_ | with_reducible assumption | with_reducible apply serve_kept | with_reducible apply place_kept | with_reducible refine keeps_body_intro (fun _ _ _ => ?_) | split | refine place_eq _ _ _ _ (by with_reducible assumption) ?_ | dsimp only | with_reducible exact keepsOut_fault)

theorem sendLayer_kept (n : Nat) (f : TxFrame) (s : State) (hh : Keeps ref s) : Keeps ref (sendLayer n f s) := by
  unfold sendLayer; (try dsimp only); repeat' (first | with_reducible assumption | with_reducible apply pushFifo_kept | with_reducible apply State_setBus_kept | split | dsimp only)

theorem setTx_kept (n : Nat) (t : Transaction) (s : State) (hh : Keeps ref s) : Keeps ref (setTx n t s) := by
  unfold setTx; (try dsimp only); repeat' (first | with_reducible assumption | with_reducible apply State_setBus_kept | split | dsimp only)

theorem feedSegments_kept (x0 : Nat) (x1 : Nat) (x2 : State) (hh : Keeps ref x2) : Keeps ref (feedSegments x0 x1 x2) := by
  induction x0 generalizing x2 with
  | zero => unfold feedSegments; exact hh
  | succ _ ih => unfold feedSegments; (try dsimp only); (repeat' (first | with_reducible apply ih | first | with_reducible assumption | with_reducible exact keeps_raise | with_reducible apply setTx_kept | with_reducible apply pushFifo_kept | with_reducible apply countBus_kept | with_reducible apply keeps_raiser | with_reducible apply keeps_body | with_reducible refine keeps_foldl _ _ _ ?_ (fun _ _ _ => ?_) | with_reducible refine keeps_foldl2 _ _ _ ?_ (fun _ _ _ => ?_) | with_reducible refine keeps_body_intro (fun _ _ _ => ?_) | simp only [keeps_mk, keeps_fold] | with_reducible apply keepsCore_writeBytes | split | dsimp only))

theorem feedFrames_kept (x0 : Nat) (x1 : Nat) (x2 : State) (hh : Keeps ref x2) : Keeps ref (feedFrames x0 x1 x2) := by
  induction x0 generalizing x2 with
  | zero => unfold feedFrames; exact hh
  | succ _ ih => unfold feedFrames; (try dsimp only); (repeat' (first | with_reducible apply ih | first | with_reducible assumption | with_reducible exact keeps_raise | with_reducible apply pushFifo_kept | with_reducible apply State_setBus_kept | with_reducible apply keeps_raiser | with_reducible apply keeps_body | with_reducible refine keeps_foldl _ _ _ ?_ (fun _ _ _ => ?_) | with_reducible refine keeps_foldl2 _ _ _ ?_ (fun _ _ _ => ?_) | with_reducible refine keeps_body_intro (fun _ _ _ => ?_) | simp only [keeps_mk, keeps_fold] | with_reducible apply keepsCore_writeBytes | split | dsimp only))

theorem feedLayer_kept (n : Nat) (s : State) (hh : Keeps ref s) : Keeps ref (feedLayer n s) := by
  unfold feedLayer; (try dsimp only); repeat' (first | with_reducible assumption | with_reducible apply feedSegments_kept | with_reducible apply feedFrames_kept | dsimp only)

theorem failRead_kept (t : Transaction) (cause : Nat) (s : State) (hh : Keeps ref s) : Keeps ref (failRead t cause s) := by
  unfold failRead; (try dsimp only); repeat' (first | with_reducible assumption | with_reducible apply failInputs_kept | dsimp only)

theorem endTx_kept (n : Nat) (t : Transaction) (outcome : Nat) (status : Nat) (result : List Byte) (stale : List Byte) (s : State) (hh : Keeps ref s) : Keeps ref (endTx n t outcome status result stale s) := by
  unfold endTx; (try dsimp only); repeat' (first | with_reducible assumption | with_reducible exact keeps_raise | with_reducible apply countBus_kept | with_reducible apply State_setBus_kept | with_reducible apply failRead_kept | with_reducible apply complete_kept | with_reducible apply raise_kept | split | dsimp only)

theorem endUnheld_kept (n : Nat) (r : Nat) (s : State) (hh : Keeps ref s) : Keeps ref (endUnheld n r s) := by
  unfold endUnheld; (try dsimp only); repeat' (first | with_reducible assumption | with_reducible apply endTx_kept | with_reducible refine keeps_foldl _ _ _ ?_ (fun _ _ _ => ?_) | with_reducible refine keeps_foldl2 _ _ _ ?_ (fun _ _ _ => ?_) | dsimp only)

theorem setRoleState_kept (r : Nat) (st : Nat) (s : State) (hh : Keeps ref s) : Keeps ref (setRoleState r st s) := by
  unfold setRoleState; (try dsimp only); repeat' (first | with_reducible assumption | with_reducible apply State_setRoleEntry_kept | dsimp only)

theorem unhold_kept (n : Nat) (r : Nat) (s : State) (hh : Keeps ref s) : Keeps ref (unhold n r s) := by
  unfold unhold; (try dsimp only); repeat' (first | with_reducible assumption | with_reducible exact keeps_raise | with_reducible apply endUnheld_kept | with_reducible apply raise_kept | with_reducible apply setRoleState_kept | split | dsimp only)

theorem sendReportSet_kept (n : Nat) (r : Nat) (s : State) (hh : Keeps ref s) : Keeps ref (sendReportSet n r s) := by
  unfold sendReportSet; (try dsimp only); repeat' (first | with_reducible assumption | with_reducible apply submitTx_kept | with_reducible apply State_setRoleEntry_kept | dsimp only)

theorem holdRole_kept (n : Nat) (r : Nat) (address : Nat) (epoch : Nat) (s : State) (hh : Keeps ref s) : Keeps ref (holdRole n r address epoch s) := by
  unfold holdRole; (try dsimp only); repeat' (first | with_reducible assumption | with_reducible apply State_setRoleEntry_kept | with_reducible apply sendReportSet_kept | with_reducible refine keeps_foldl _ _ _ ?_ (fun _ _ _ => ?_) | with_reducible refine keeps_foldl2 _ _ _ ?_ (fun _ _ _ => ?_) | simp only [keeps_mk, keeps_fold] | dsimp only)

theorem manage_kept (n : Nat) (r : Nat) (opcode : Nat) (address : Nat) (epoch : Nat) (purpose : Nat) (s : State) (hh : Keeps ref s) : Keeps ref (manage n r opcode address epoch purpose s) := by
  unfold manage; (try dsimp only); repeat' (first | with_reducible assumption | with_reducible apply submitTx_kept | dsimp only)

theorem beginMove_kept (n : Nat) (r : Nat) (target : Nat) (s : State) (hh : Keeps ref s) : Keeps ref (beginMove n r target s) := by
  unfold beginMove; (try dsimp only); repeat' (first | with_reducible assumption | with_reducible apply State_setRoleEntry_kept | with_reducible apply manage_kept | split | dsimp only)

theorem manageFailed_kept (t : Transaction) (s : State) (hh : Keeps ref s) : Keeps ref (manageFailed t s) := by
  unfold manageFailed; (try dsimp only); repeat' (first | with_reducible assumption | with_reducible apply setRoleState_kept | split | dsimp only)

theorem failTx_kept (n : Nat) (t : Transaction) (outcome : Nat) (status : Nat) (s : State) (hh : Keeps ref s) : Keeps ref (failTx n t outcome status s) := by
  unfold failTx; (try dsimp only); repeat' (first | with_reducible assumption | with_reducible apply setTx_kept | with_reducible apply manageFailed_kept | with_reducible apply endTx_kept | split | dsimp only)

theorem sendTx_kept (n : Nat) (t : Transaction) (s : State) (hh : Keeps ref s) : Keeps ref (sendTx n t s) := by
  unfold sendTx; (try dsimp only); repeat' (first | with_reducible assumption | with_reducible apply setTx_kept | with_reducible apply State_setBus_kept | with_reducible apply feedSegments_kept | with_reducible apply offerBead_kept | with_reducible apply pushFifo_kept | split | dsimp only)

theorem abandonOldest_kept (n : Nat) (s : State) (hh : Keeps ref s) : Keeps ref (abandonOldest n s) := by
  unfold abandonOldest; (try dsimp only); repeat' (first | with_reducible assumption | with_reducible apply endTx_kept | split | dsimp only)

theorem sendBead_kept (n : Nat) (due : Instant) (t : Transaction) (s : State) (hh : Keeps ref s) : Keeps ref (sendBead n due t s) := by
  unfold sendBead; (try dsimp only); repeat' (first | with_reducible assumption | with_reducible apply abandonOldest_kept | with_reducible apply sendTx_kept | with_reducible apply State_setChan_kept | with_reducible apply failTx_kept | split | dsimp only)

theorem execTransactionSend_kept (bus : Nat) (s : State) (hh : Keeps ref s) : KeepsOut ref (execTransactionSend bus s) := by
  unfold execTransactionSend; (try dsimp only); repeat' (first | with_reducible refine keepsOut_next ?_ | with_reducible assumption | with_reducible apply endTx_kept | with_reducible apply sendBead_kept | with_reducible apply sendTx_kept | split | dsimp only | with_reducible exact keepsOut_fault)

theorem supersedeSame_kept (n : Nat) (role : Nat) (opcode : Nat) (s : State) (hh : Keeps ref s) : Keeps ref (supersedeSame n role opcode s) := by
  unfold supersedeSame; (try dsimp only); repeat' (first | with_reducible assumption | with_reducible apply endTx_kept | with_reducible refine keeps_foldl _ _ _ ?_ (fun _ _ _ => ?_) | with_reducible refine keeps_foldl2 _ _ _ ?_ (fun _ _ _ => ?_) | dsimp only)

theorem originate_kept (n : Nat) (t : Transaction) (s : State) (hh : Keeps ref s) : Keeps ref (originate n t s) := by
  unfold originate; (try dsimp only); repeat' (first | with_reducible assumption | with_reducible apply supersedeSame_kept | with_reducible apply submitTx_kept | with_reducible apply endTx_kept | split | dsimp only)

theorem fireCfp_kept (bead : Nat) (cls : Nat) (due : Instant) (action : List Byte) (s : State) (hh : Keeps ref s) : Keeps ref (fireCfp bead cls due action s) := by
  unfold fireCfp; (try dsimp only); repeat' (first | with_reducible assumption | with_reducible apply originate_kept | with_reducible apply sendBead_kept | split | dsimp only)

theorem takeReading_kept (role : Nat) (item : Nat) (value : Word) (invalid : Bool) (stamp : Instant) (s : State) (hh : Keeps ref s) : Keeps ref (takeReading role item value invalid stamp s) := by
  unfold takeReading; (try dsimp only); repeat' (first | with_reducible assumption | with_reducible apply State_setLoop_kept | with_reducible apply arrive_kept | with_reducible refine keeps_foldl _ _ _ ?_ (fun _ _ _ => ?_) | with_reducible refine keeps_foldl2 _ _ _ ?_ (fun _ _ _ => ?_) | simp only [keeps_mk, keeps_fold] | split | dsimp only)

theorem takeEntries_kept (role : Nat) (stamp : Instant) (x2 : Nat) (x3 : List Byte) (x4 : State) (hh : Keeps ref x4) : Keeps ref (takeEntries role stamp x2 x3 x4) := by
  induction x2 generalizing x3 x4 with
  | zero => unfold takeEntries; exact hh
  | succ _ ih => unfold takeEntries; (try dsimp only); (repeat' (first | with_reducible apply ih | first | with_reducible assumption | with_reducible apply takeReading_kept | dsimp only))

theorem followListen_kept (n : Nat) (role : Nat) (address : Nat) (epoch : Nat) (s : State) (hh : Keeps ref s) : Keeps ref (followListen n role address epoch s) := by
  unfold followListen; (try dsimp only); repeat' (first | with_reducible assumption | with_reducible apply State_setRoleEntry_kept | split | dsimp only)

theorem takeKind_eq (n k : Nat) (s : State) {r t} (he : takeKind n k s = some (r, t)) (hh : Keeps ref s) : Keeps ref t := by
  unfold takeKind at he; split at he
  · cases he
  · cases he; exact State_setChan_kept _ _ _ hh

theorem execCfpRpt_kept (bus : Nat) (s : State) (hh : Keeps ref s) : KeepsOut ref (execCfpRpt bus s) := by
  unfold execCfpRpt; (try dsimp only); repeat' (first | with_reducible refine keepsOut_next ?_ | with_reducible assumption | with_reducible apply takeKind_kept | with_reducible apply followListen_kept | with_reducible apply countBus_kept | with_reducible apply takeEntries_kept | split | refine takeKind_eq _ _ _ (by with_reducible assumption) ?_ | dsimp only | with_reducible exact keepsOut_fault)

theorem openWindow_kept (n : Nat) (seq : Nat) (own : Bool) (s : State) (hh : Keeps ref s) : Keeps ref (openWindow n seq own s) := by
  unfold openWindow; (try dsimp only); repeat' (first | with_reducible assumption | with_reducible apply State_setBus_kept | dsimp only)

theorem execRollCall_kept (bus : Nat) (s : State) (hh : Keeps ref s) : KeepsOut ref (execRollCall bus s) := by
  unfold execRollCall; (try dsimp only); repeat' (first | with_reducible refine keepsOut_next ?_ | with_reducible assumption | with_reducible apply State_atAngle_kept | with_reducible apply sendLayer_kept | with_reducible apply openWindow_kept | split | dsimp only | with_reducible exact keepsOut_fault)

theorem hearRoll_kept (n : Nat) (f : CanFrame) (s : State) (hh : Keeps ref s) : Keeps ref (hearRoll n f s) := by
  unfold hearRoll; (try dsimp only); repeat' (first | with_reducible assumption | with_reducible apply openWindow_kept | split | dsimp only)

theorem execCfpAnnounce_kept (bus : Nat) (s : State) (hh : Keeps ref s) : KeepsOut ref (execCfpAnnounce bus s) := by
  unfold execCfpAnnounce; (try dsimp only); repeat' (first | with_reducible refine keepsOut_next ?_ | with_reducible assumption | with_reducible exact keeps_raise | with_reducible apply takeKind_kept | with_reducible apply State_setBus_kept | with_reducible apply raise_kept | with_reducible apply State_setNode_kept | with_reducible apply sendLayer_kept | split | refine takeKind_eq _ _ _ (by with_reducible assumption) ?_ | dsimp only | with_reducible exact keepsOut_fault)

theorem execCfpAssign_kept (bus : Nat) (s : State) (hh : Keeps ref s) : KeepsOut ref (execCfpAssign bus s) := by
  unfold execCfpAssign; (try dsimp only); repeat' (first | with_reducible refine keepsOut_next ?_ | with_reducible assumption | with_reducible exact keeps_raise | with_reducible apply takeKind_kept | with_reducible apply State_setBus_kept | with_reducible apply raise_kept | split | refine takeKind_eq _ _ _ (by with_reducible assumption) ?_ | dsimp only | with_reducible exact keepsOut_fault)

theorem takeClaim_kept (n : Nat) (f : RxFrame) (s : State) (hh : Keeps ref s) : Keeps ref (takeClaim n f s) := by
  unfold takeClaim; (try dsimp only); repeat' (first | with_reducible assumption | with_reducible apply followListen_kept | with_reducible apply State_setNode_kept | split | dsimp only)

theorem execCfpClaim_kept (bus : Nat) (s : State) (hh : Keeps ref s) : KeepsOut ref (execCfpClaim bus s) := by
  unfold execCfpClaim; (try dsimp only); repeat' (first | with_reducible refine keepsOut_next ?_ | with_reducible assumption | with_reducible apply takeKind_kept | with_reducible apply takeClaim_kept | split | refine takeKind_eq _ _ _ (by with_reducible assumption) ?_ | dsimp only | with_reducible exact keepsOut_fault)

theorem takeClaims_kept (n : Nat) (x1 : Nat) (x2 : State) (hh : Keeps ref x2) : Keeps ref (takeClaims n x1 x2) := by
  induction x1 generalizing x2 with
  | zero => unfold takeClaims; exact hh
  | succ _ ih =>
    unfold takeClaims; split
    · exact hh
    · rename_i he; exact ih _ (takeClaim_kept _ _ _ (takeKind_eq _ _ _ he hh))

theorem unpin_kept (uid : Nat) (s : State) (hh : Keeps ref s) : Keeps ref (unpin uid s) := by
  unfold unpin; (try dsimp only); repeat' (first | with_reducible assumption | simp only [keeps_mk, keeps_fold] | split | dsimp only)

theorem missNode_kept (n : Nat) (s : State) (a : Nat) (hh : Keeps ref s) : Keeps ref (missNode n s a) := by
  unfold missNode; (try dsimp only); repeat' (first | with_reducible assumption | with_reducible exact keeps_raise | with_reducible apply State_setNode_kept | with_reducible apply raise_kept | with_reducible apply unpin_kept | split | dsimp only)

theorem pickNode_kept (n : Nat) (r : Nat) (used : List Nat) (x3 : List Nat) (x4 : State) (hh : Keeps ref x4) : Keeps ref (pickNode n r used x3 x4).2 := by
  induction x3 generalizing x4 with
  | nil => unfold pickNode; exact hh
  | cons _ _ ih => unfold pickNode; (try dsimp only); (repeat' (first | with_reducible apply ih | first | with_reducible assumption | with_reducible exact keeps_raise | with_reducible apply keeps_raiser | with_reducible apply keeps_body | with_reducible refine keeps_foldl _ _ _ ?_ (fun _ _ _ => ?_) | with_reducible refine keeps_foldl2 _ _ _ ?_ (fun _ _ _ => ?_) | with_reducible refine keeps_body_intro (fun _ _ _ => ?_) | simp only [keeps_mk, keeps_fold] | with_reducible apply keepsCore_writeBytes | split | dsimp only))
theorem pickNode_eq (n : Nat) (r : Nat) (used : List Nat) (x3 : List Nat) (x4 : State) {q t} (he : pickNode n r used x3 x4 = (q, t)) (hh : Keeps ref x4) : Keeps ref t := by
  have := pickNode_kept n r used x3 x4 hh
  rw [he] at this; exact this

theorem clearClaim_kept (n : Nat) (s : State) (a : Nat) (hh : Keeps ref s) : Keeps ref (clearClaim n s a) := by
  unfold clearClaim; (try dsimp only); repeat' (first | with_reducible assumption | with_reducible apply manage_kept | split | dsimp only)

theorem countClash_kept (n : Nat) (s : State) (bits : Nat) (hh : Keeps ref s) : Keeps ref (countClash n s bits) := by
  unfold countClash; (try dsimp only); repeat' (first | with_reducible assumption | with_reducible exact keeps_raise | with_reducible apply raise_kept | with_reducible apply State_setBus_kept | split | dsimp only)

theorem resolveRole_kept (n : Nat) (acc : List Nat × State) (r : Nat) (hh : Keeps ref acc.2) : Keeps ref (resolveRole n acc r).2 := by
  unfold resolveRole; (try dsimp only); repeat' (first | with_reducible assumption | with_reducible apply unhold_kept | with_reducible apply beginMove_kept | with_reducible apply manage_kept | with_reducible apply sendReportSet_kept | with_reducible apply setRoleState_kept | with_reducible apply holdRole_kept | with_reducible apply State_setRoleEntry_kept | refine pickNode_eq _ _ _ _ _ (by with_reducible assumption) ?_ | split | (dsimp only))
theorem execClaimWindowEnd_kept (bus : Nat) (s : State) (hh : Keeps ref s) : KeepsOut ref (execClaimWindowEnd bus s) := by
  unfold execClaimWindowEnd; (try dsimp only); repeat' (first | with_reducible apply resolveRole_kept | first | with_reducible refine keepsOut_next ?_ | with_reducible assumption | with_reducible apply takeClaims_kept | with_reducible apply State_setBus_kept | with_reducible apply countClash_kept | with_reducible apply missNode_kept | with_reducible apply clearClaim_kept | with_reducible refine keeps_foldl _ _ _ ?_ (fun _ _ _ => ?_) | with_reducible refine keeps_foldl2 _ _ _ ?_ (fun _ _ _ => ?_) | split | dsimp only | with_reducible exact keepsOut_fault)

theorem execCfpNodes_kept (mbx : Nat) (s : State) (hh : Keeps ref s) : KeepsOut ref (execCfpNodes mbx s) := by
  unfold execCfpNodes; (try dsimp only); repeat' (first | with_reducible refine keepsOut_next ?_ | with_reducible assumption | with_reducible apply serveRead_kept | split | dsimp only | with_reducible exact keepsOut_fault)

theorem execCfpRole_kept (mbx : Nat) (s : State) (hh : Keeps ref s) : KeepsOut ref (execCfpRole mbx s) := by
  unfold execCfpRole; (try dsimp only); repeat' (first | with_reducible refine keepsOut_next ?_ | with_reducible assumption | with_reducible apply serveRead_kept | split | dsimp only | with_reducible exact keepsOut_fault)

theorem execCfpRoleMove_kept (mbx : Nat) (s : State) (hh : Keeps ref s) : KeepsOut ref (execCfpRoleMove mbx s) := by
  unfold execCfpRoleMove; (try dsimp only); repeat' (first | with_reducible refine keepsOut_next ?_ | with_reducible assumption | with_reducible apply serve_kept | with_reducible apply State_setRoleEntry_kept | with_reducible apply beginMove_kept | with_reducible refine keeps_body_intro (fun _ _ _ => ?_) | split | dsimp only | with_reducible exact keepsOut_fault)

theorem execCfpTransact_kept (mbx : Nat) (s : State) (hh : Keeps ref s) : KeepsOut ref (execCfpTransact mbx s) := by
  unfold execCfpTransact; (try dsimp only); repeat' (first | with_reducible refine keepsOut_next ?_ | with_reducible assumption | with_reducible apply serve_kept | with_reducible apply defer_kept | with_reducible apply originate_kept | with_reducible refine keeps_body_intro (fun _ _ _ => ?_) | split | refine defer_eq _ _ _ (by with_reducible assumption) ?_ | dsimp only | with_reducible exact keepsOut_fault)

theorem execCfpRollcall_kept (mbx : Nat) (s : State) (hh : Keeps ref s) : KeepsOut ref (execCfpRollcall mbx s) := by
  unfold execCfpRollcall; (try dsimp only); repeat' (first | with_reducible refine keepsOut_next ?_ | with_reducible assumption | with_reducible apply serveRead_kept | split | dsimp only | with_reducible exact keepsOut_fault)

theorem execCfpForget_kept (mbx : Nat) (s : State) (hh : Keeps ref s) : KeepsOut ref (execCfpForget mbx s) := by
  unfold execCfpForget; (try dsimp only); repeat' (first | with_reducible refine keepsOut_next ?_ | with_reducible assumption | with_reducible apply serve_kept | with_reducible apply State_setNode_kept | with_reducible refine keeps_body_intro (fun _ _ _ => ?_) | split | dsimp only | with_reducible exact keepsOut_fault)

theorem execCfpStats_kept (mbx : Nat) (s : State) (hh : Keeps ref s) : KeepsOut ref (execCfpStats mbx s) := by
  unfold execCfpStats; (try dsimp only); repeat' (first | with_reducible refine keepsOut_next ?_ | with_reducible assumption | with_reducible apply serveRead_kept | split | dsimp only | with_reducible exact keepsOut_fault)

theorem clearBus_kept (s : State) (n : Nat) (hh : Keeps ref s) : Keeps ref (clearBus s n) := by
  unfold clearBus; (try dsimp only); repeat' (first | with_reducible assumption | with_reducible apply State_setBus_kept | dsimp only)

theorem execCfpStatsClear_kept (mbx : Nat) (s : State) (hh : Keeps ref s) : KeepsOut ref (execCfpStatsClear mbx s) := by
  unfold execCfpStatsClear; (try dsimp only); repeat' (first | with_reducible refine keepsOut_next ?_ | with_reducible assumption | with_reducible apply serve_kept | with_reducible apply clearBus_kept | with_reducible refine keeps_foldl _ _ _ ?_ (fun _ _ _ => ?_) | with_reducible refine keeps_foldl2 _ _ _ ?_ (fun _ _ _ => ?_) | with_reducible refine keeps_body_intro (fun _ _ _ => ?_) | split | dsimp only | with_reducible exact keepsOut_fault)

theorem State_setFanOut_kept (s : State) (i : Nat) (x : FanOutput) (hh : Keeps ref s) : Keeps ref (State.setFanOut s i x) := by
  unfold State.setFanOut; dsimp only; simp only [keeps_mk, keeps_fold]; exact hh

theorem State_setFanGroup_kept (s : State) (g : Nat) (x : FanGroup) (hh : Keeps ref s) : Keeps ref (State.setFanGroup s g x) := by
  unfold State.setFanGroup; dsimp only; simp only [keeps_mk, keeps_fold]; exact hh

theorem countFan_kept (i : Nat) (k : Nat) (s : State) (hh : Keeps ref s) : Keeps ref (countFan i k s) := by
  unfold countFan; (try dsimp only); repeat' (first | with_reducible assumption | with_reducible apply State_setFanOut_kept | dsimp only)

theorem beginAttempt_kept (i : Nat) (n : Nat) (s : State) (hh : Keeps ref s) : Keeps ref (beginAttempt i n s) := by
  unfold beginAttempt; (try dsimp only); repeat' (first | with_reducible assumption | with_reducible apply State_setFanOut_kept | dsimp only)

theorem fanOff_kept (i : Nat) (s : State) (hh : Keeps ref s) : Keeps ref (fanOff i s) := by
  unfold fanOff; (try dsimp only); repeat' (first | with_reducible assumption | with_reducible apply State_setFanOut_kept | split | dsimp only)

theorem updateOutput_kept (s : State) (i : Nat) (hh : Keeps ref s) : Keeps ref (updateOutput s i) := by
  unfold updateOutput; (try dsimp only); repeat' (first | with_reducible assumption | with_reducible apply State_setFanOut_kept | with_reducible apply countFan_kept | with_reducible apply beginAttempt_kept | with_reducible apply fanOff_kept | split | dsimp only)

theorem updateGroup_kept (s : State) (g : Nat) (hh : Keeps ref s) : Keeps ref (updateGroup s g) := by
  unfold updateGroup; (try dsimp only); repeat' (first | with_reducible assumption | with_reducible apply State_setFanGroup_kept | split | dsimp only)

theorem execFanSlewUpdate_kept (s : State) (hh : Keeps ref s) : KeepsOut ref (execFanSlewUpdate s) := by
  unfold execFanSlewUpdate; (try dsimp only); repeat' (first | with_reducible refine keepsOut_next ?_ | with_reducible assumption | with_reducible apply updateGroup_kept | with_reducible apply updateOutput_kept | with_reducible refine keeps_foldl _ _ _ ?_ (fun _ _ _ => ?_) | with_reducible refine keeps_foldl2 _ _ _ ?_ (fun _ _ _ => ?_) | split | dsimp only | with_reducible exact keepsOut_fault)

theorem execTachPulse_kept (output : Nat) (periodUs : Nat) (s : State) (hh : Keeps ref s) : KeepsOut ref (execTachPulse output periodUs s) := by
  unfold execTachPulse; (try dsimp only); repeat' (first | with_reducible refine keepsOut_next ?_ | with_reducible assumption | with_reducible exact keeps_raise | with_reducible apply State_setFanOut_kept | with_reducible apply raise_kept | split | dsimp only | with_reducible exact keepsOut_fault)

theorem attemptSucceeds_kept (i : Nat) (s : State) (hh : Keeps ref s) : Keeps ref (attemptSucceeds i s) := by
  unfold attemptSucceeds; (try dsimp only); repeat' (first | with_reducible assumption | with_reducible exact keeps_raise | with_reducible apply State_setFanOut_kept | with_reducible apply raise_kept | split | dsimp only)

theorem attemptFails_kept (i : Nat) (s : State) (hh : Keeps ref s) : Keeps ref (attemptFails i s) := by
  unfold attemptFails; (try dsimp only); repeat' (first | with_reducible assumption | with_reducible exact keeps_raise | with_reducible apply countFan_kept | with_reducible apply State_setFanOut_kept | with_reducible apply raise_kept | split | dsimp only)

theorem execKickAttemptEnd_kept (output : Nat) (s : State) (hh : Keeps ref s) : KeepsOut ref (execKickAttemptEnd output s) := by
  unfold execKickAttemptEnd; (try dsimp only); repeat' (first | with_reducible refine keepsOut_next ?_ | with_reducible assumption | with_reducible apply attemptSucceeds_kept | with_reducible apply attemptFails_kept | split | dsimp only | with_reducible exact keepsOut_fault)

theorem execRetryWaitEnd_kept (output : Nat) (s : State) (hh : Keeps ref s) : KeepsOut ref (execRetryWaitEnd output s) := by
  unfold execRetryWaitEnd; (try dsimp only); repeat' (first | with_reducible refine keepsOut_next ?_ | with_reducible assumption | with_reducible apply beginAttempt_kept | split | dsimp only | with_reducible exact keepsOut_fault)

theorem execCoolDownEnd_kept (output : Nat) (s : State) (hh : Keeps ref s) : KeepsOut ref (execCoolDownEnd output s) := by
  unfold execCoolDownEnd; (try dsimp only); repeat' (first | with_reducible refine keepsOut_next ?_ | with_reducible assumption | with_reducible apply beginAttempt_kept | split | dsimp only | with_reducible exact keepsOut_fault)

theorem execTachLossTimeout_kept (output : Nat) (s : State) (hh : Keeps ref s) : KeepsOut ref (execTachLossTimeout output s) := by
  unfold execTachLossTimeout; (try dsimp only); repeat' (first | with_reducible refine keepsOut_next ?_ | with_reducible assumption | with_reducible exact keeps_raise | with_reducible apply raise_kept | with_reducible apply countFan_kept | with_reducible apply State_setFanOut_kept | split | dsimp only | with_reducible exact keepsOut_fault)

theorem countWatchdogs_kept (s : State) (hh : Keeps ref s) : Keeps ref (countWatchdogs s) := by
  unfold countWatchdogs; (try dsimp only); repeat' (first | with_reducible assumption | with_reducible apply State_setFanGroup_kept | with_reducible apply countFan_kept | with_reducible refine keeps_foldl _ _ _ ?_ (fun _ _ _ => ?_) | with_reducible refine keeps_foldl2 _ _ _ ?_ (fun _ _ _ => ?_) | dsimp only)

theorem execHostSilence_kept (s : State) (hh : Keeps ref s) : KeepsOut ref (execHostSilence s) := by
  unfold execHostSilence; (try dsimp only); repeat' (first | with_reducible refine keepsOut_next ?_ | with_reducible assumption | with_reducible exact keeps_raise | with_reducible apply raise_kept | with_reducible apply countWatchdogs_kept | simp only [keeps_mk, keeps_fold] | split | dsimp only | with_reducible exact keepsOut_fault)

theorem execFanGroupUpdate_kept (group : Nat) (s : State) (hh : Keeps ref s) : KeepsOut ref (execFanGroupUpdate group s) := by
  unfold execFanGroupUpdate; (try dsimp only); repeat' (first | with_reducible refine keepsOut_next ?_ | with_reducible assumption | with_reducible apply State_setFanGroup_kept | with_reducible apply submitTx_kept | split | dsimp only | with_reducible exact keepsOut_fault)

theorem takeFanState_kept (n : Nat) (role : Nat) (d : List Byte) (s : State) (hh : Keeps ref s) : Keeps ref (takeFanState n role d s) := by
  unfold takeFanState; (try dsimp only); repeat' (first | with_reducible assumption | with_reducible exact keeps_raise | with_reducible apply State_setFanGroup_kept | with_reducible apply raise_kept | with_reducible refine keeps_foldl _ _ _ ?_ (fun _ _ _ => ?_) | with_reducible refine keeps_foldl2 _ _ _ ?_ (fun _ _ _ => ?_) | split | dsimp only)

theorem execFanStatus_kept (mbx : Nat) (s : State) (hh : Keeps ref s) : KeepsOut ref (execFanStatus mbx s) := by
  unfold execFanStatus; (try dsimp only); repeat' (first | with_reducible refine keepsOut_next ?_ | with_reducible assumption | with_reducible apply serveRead_kept | split | dsimp only | with_reducible exact keepsOut_fault)

theorem execFanSet_kept (mbx : Nat) (s : State) (hh : Keeps ref s) : KeepsOut ref (execFanSet mbx s) := by
  unfold execFanSet; (try dsimp only); repeat' (first | with_reducible refine keepsOut_next ?_ | with_reducible assumption | with_reducible apply serve_kept | with_reducible apply State_setFanOut_kept | with_reducible apply State_setFanGroup_kept | with_reducible refine keeps_body_intro (fun _ _ _ => ?_) | split | dsimp only | with_reducible exact keepsOut_fault)

theorem execFanZones_kept (mbx : Nat) (s : State) (hh : Keeps ref s) : KeepsOut ref (execFanZones mbx s) := by
  unfold execFanZones; (try dsimp only); repeat' (first | with_reducible refine keepsOut_next ?_ | with_reducible assumption | with_reducible apply serveRead_kept | dsimp only | with_reducible exact keepsOut_fault)

theorem execFanRetry_kept (mbx : Nat) (s : State) (hh : Keeps ref s) : KeepsOut ref (execFanRetry mbx s) := by
  unfold execFanRetry; (try dsimp only); repeat' (first | with_reducible refine keepsOut_next ?_ | with_reducible assumption | with_reducible apply serve_kept | with_reducible apply beginAttempt_kept | with_reducible refine keeps_body_intro (fun _ _ _ => ?_) | split | dsimp only | with_reducible exact keepsOut_fault)

theorem execFanStats_kept (mbx : Nat) (s : State) (hh : Keeps ref s) : KeepsOut ref (execFanStats mbx s) := by
  unfold execFanStats; (try dsimp only); repeat' (first | with_reducible refine keepsOut_next ?_ | with_reducible assumption | with_reducible apply serveRead_kept | split | dsimp only | with_reducible exact keepsOut_fault)

theorem clearFanUnit_kept (s : State) (u : Nat) (hh : Keeps ref s) : Keeps ref (clearFanUnit s u) := by
  unfold clearFanUnit; (try dsimp only); repeat' (first | with_reducible assumption | with_reducible apply State_setFanOut_kept | with_reducible apply State_setFanGroup_kept | split | dsimp only)

theorem execFanStatsClear_kept (mbx : Nat) (s : State) (hh : Keeps ref s) : KeepsOut ref (execFanStatsClear mbx s) := by
  unfold execFanStatsClear; (try dsimp only); repeat' (first | with_reducible refine keepsOut_next ?_ | with_reducible assumption | with_reducible apply serve_kept | with_reducible apply clearFanUnit_kept | with_reducible refine keeps_foldl _ _ _ ?_ (fun _ _ _ => ?_) | with_reducible refine keeps_foldl2 _ _ _ ?_ (fun _ _ _ => ?_) | with_reducible refine keeps_body_intro (fun _ _ _ => ?_) | split | dsimp only | with_reducible exact keepsOut_fault)

theorem State_setVentCh_kept (s : State) (n : Nat) (x : VentChannel) (hh : Keeps ref s) : Keeps ref (State.setVentCh s n x) := by
  unfold State.setVentCh; dsimp only; simp only [keeps_mk, keeps_fold]; exact hh

theorem countVent_kept (n : Nat) (i : Nat) (s : State) (hh : Keeps ref s) : Keeps ref (countVent n i s) := by
  unfold countVent; (try dsimp only); repeat' (first | with_reducible assumption | with_reducible apply State_setVentCh_kept | dsimp only)

theorem stopRun_kept (n : Nat) (s : State) (hh : Keeps ref s) : Keeps ref (stopRun n s) := by
  unfold stopRun; (try dsimp only); repeat' (first | with_reducible assumption | with_reducible apply State_setVentCh_kept | split | dsimp only)

theorem enterVentFault_kept (n : Nat) (cause : Nat) (s : State) (hh : Keeps ref s) : Keeps ref (enterVentFault n cause s) := by
  unfold enterVentFault; (try dsimp only); repeat' (first | with_reducible assumption | with_reducible exact keeps_raise | with_reducible apply countVent_kept | with_reducible apply stopRun_kept | with_reducible apply State_setVentCh_kept | with_reducible apply raise_kept | split | dsimp only)

theorem fireCompare_kept (n : Nat) (i : Nat) (up : Bool) (s : State) (hh : Keeps ref s) : Keeps ref (fireCompare n i up s) := by
  unfold fireCompare; (try dsimp only); repeat' (first | with_reducible assumption | with_reducible exact keeps_raise | with_reducible apply countVent_kept | with_reducible apply State_setVentCh_kept | with_reducible apply raise_kept | with_reducible apply stopRun_kept | split | dsimp only)

theorem reviewCompares_kept (equalToo : Bool) (n : Nat) (s : State) (hh : Keeps ref s) : Keeps ref (reviewCompares equalToo n s) := by
  unfold reviewCompares; (try dsimp only); repeat' (first | with_reducible assumption | with_reducible apply State_setVentCh_kept | split | dsimp only)

theorem applyUpdate_kept (n : Nat) (d : Int) (s : State) (hh : Keeps ref s) : Keeps ref (applyUpdate n d s) := by
  unfold applyUpdate; (try dsimp only); repeat' (first | with_reducible assumption | with_reducible apply State_setVentCh_kept | with_reducible apply reviewCompares_kept | with_reducible apply fireCompare_kept | with_reducible refine keeps_foldl _ _ _ ?_ (fun _ _ _ => ?_) | with_reducible refine keeps_foldl2 _ _ _ ?_ (fun _ _ _ => ?_) | split | dsimp only)

theorem illegalTransition_kept (n : Nat) (s : State) (hh : Keeps ref s) : Keeps ref (illegalTransition n s) := by
  unfold illegalTransition; (try dsimp only); repeat' (first | with_reducible assumption | with_reducible exact keeps_raise | with_reducible apply State_setVentCh_kept | with_reducible apply raise_kept | with_reducible apply enterVentFault_kept | split | dsimp only)

theorem execEncoderUpdate_kept (channel : Nat) (lines : BitVec 3) (samples : Nat) (s : State) (hh : Keeps ref s) : KeepsOut ref (execEncoderUpdate channel lines samples s) := by
  unfold execEncoderUpdate; (try dsimp only); repeat' (first | with_reducible refine keepsOut_next ?_ | with_reducible assumption | with_reducible apply State_setVentCh_kept | with_reducible apply illegalTransition_kept | with_reducible apply applyUpdate_kept | split | dsimp only | with_reducible exact keepsOut_fault)

theorem reviewStill_kept (n : Nat) (s : State) (hh : Keeps ref s) : Keeps ref (reviewStill n s) := by
  unfold reviewStill; (try dsimp only); repeat' (first | with_reducible assumption | with_reducible apply State_setVentCh_kept | split | dsimp only)

theorem execSpeedTimeout_kept (channel : Nat) (s : State) (hh : Keeps ref s) : KeepsOut ref (execSpeedTimeout channel s) := by
  unfold execSpeedTimeout; (try dsimp only); repeat' (first | with_reducible refine keepsOut_next ?_ | with_reducible assumption | with_reducible apply reviewStill_kept | with_reducible apply State_setVentCh_kept | split | dsimp only | with_reducible exact keepsOut_fault)

theorem execIndexEvent_kept (channel : Nat) (lines : BitVec 3) (s : State) (hh : Keeps ref s) : KeepsOut ref (execIndexEvent channel lines s) := by
  unfold execIndexEvent; (try dsimp only); repeat' (first | with_reducible refine keepsOut_next ?_ | with_reducible assumption | with_reducible exact keeps_raise | with_reducible apply State_setVentCh_kept | with_reducible apply raise_kept | split | dsimp only | with_reducible exact keepsOut_fault)

theorem ssiGood_kept (n : Nat) (value : Nat) (s : State) (hh : Keeps ref s) : Keeps ref (ssiGood n value s) := by
  unfold ssiGood; (try dsimp only); repeat' (first | with_reducible assumption | with_reducible apply State_setVentCh_kept | with_reducible apply reviewStill_kept | with_reducible apply applyUpdate_kept | split | dsimp only)

theorem execSsiRead_kept (channel : Nat) (dataHigh : Bool) (bits : Nat) (parity : Bool) (s : State) (hh : Keeps ref s) : KeepsOut ref (execSsiRead channel dataHigh bits parity s) := by
  unfold execSsiRead; (try dsimp only); repeat' (first | with_reducible refine keepsOut_next ?_ | with_reducible assumption | with_reducible apply State_atAngle_kept | with_reducible apply countVent_kept | with_reducible apply State_setVentCh_kept | with_reducible apply enterVentFault_kept | with_reducible apply ssiGood_kept | split | dsimp only | with_reducible exact keepsOut_fault)

theorem execPositionerEvaluation_kept (channel : Nat) (s : State) (hh : Keeps ref s) : KeepsOut ref (execPositionerEvaluation channel s) := by
  unfold execPositionerEvaluation; (try dsimp only); repeat' (first | with_reducible refine keepsOut_next ?_ | with_reducible assumption | with_reducible apply stopRun_kept | with_reducible apply State_setVentCh_kept | split | dsimp only | with_reducible exact keepsOut_fault)

theorem execMoveTimeout_kept (channel : Nat) (s : State) (hh : Keeps ref s) : KeepsOut ref (execMoveTimeout channel s) := by
  unfold execMoveTimeout; (try dsimp only); repeat' (first | with_reducible refine keepsOut_next ?_ | with_reducible assumption | with_reducible apply enterVentFault_kept | split | dsimp only | with_reducible exact keepsOut_fault)

theorem execMaxRunTimeout_kept (channel : Nat) (s : State) (hh : Keeps ref s) : KeepsOut ref (execMaxRunTimeout channel s) := by
  unfold execMaxRunTimeout; (try dsimp only); repeat' (first | with_reducible refine keepsOut_next ?_ | with_reducible assumption | with_reducible apply enterVentFault_kept | split | dsimp only | with_reducible exact keepsOut_fault)

theorem extendVent_kept (n : Nat) (s : State) (hh : Keeps ref s) : Keeps ref (extendVent n s) := by
  unfold extendVent; (try dsimp only); repeat' (first | with_reducible assumption | with_reducible apply State_setVentCh_kept | dsimp only)

theorem execExtensionUpdate_kept (s : State) (hh : Keeps ref s) : KeepsOut ref (execExtensionUpdate s) := by
  unfold execExtensionUpdate; (try dsimp only); repeat' (first | with_reducible refine keepsOut_next ?_ | with_reducible assumption | with_reducible apply extendVent_kept | with_reducible refine keeps_foldl _ _ _ ?_ (fun _ _ _ => ?_) | with_reducible refine keeps_foldl2 _ _ _ ?_ (fun _ _ _ => ?_) | split | dsimp only | with_reducible exact keepsOut_fault)

theorem startVents_kept (s : State) (hh : Keeps ref s) : Keeps ref (startVents s) := by
  unfold startVents; (try dsimp only); repeat' (first | with_reducible assumption | simp only [keeps_mk, keeps_fold] | split | dsimp only)

theorem fallowVents_kept (s : State) (hh : Keeps ref s) : Keeps ref (fallowVents s) := by
  unfold fallowVents; (try dsimp only); repeat' (first | with_reducible assumption | with_reducible apply stopRun_kept | with_reducible refine keeps_foldl _ _ _ ?_ (fun _ _ _ => ?_) | with_reducible refine keeps_foldl2 _ _ _ ?_ (fun _ _ _ => ?_) | dsimp only)

theorem execVentRead_kept (mbx : Nat) (s : State) (hh : Keeps ref s) : KeepsOut ref (execVentRead mbx s) := by
  unfold execVentRead; (try dsimp only); repeat' (first | with_reducible refine keepsOut_next ?_ | with_reducible assumption | with_reducible apply serve_kept | with_reducible apply extendVent_kept | with_reducible refine keeps_body_intro (fun _ _ _ => ?_) | split | dsimp only | with_reducible exact keepsOut_fault)

theorem execVentCompare_kept (mbx : Nat) (s : State) (hh : Keeps ref s) : KeepsOut ref (execVentCompare mbx s) := by
  unfold execVentCompare; (try dsimp only); repeat' (first | with_reducible refine keepsOut_next ?_ | with_reducible assumption | with_reducible apply serve_kept | with_reducible apply State_setVentCh_kept | with_reducible refine keeps_body_intro (fun _ _ _ => ?_) | split | dsimp only | with_reducible exact keepsOut_fault)

theorem execVentPreset_kept (mbx : Nat) (s : State) (hh : Keeps ref s) : KeepsOut ref (execVentPreset mbx s) := by
  unfold execVentPreset; (try dsimp only); repeat' (first | with_reducible refine keepsOut_next ?_ | with_reducible assumption | with_reducible apply serve_kept | with_reducible apply reviewCompares_kept | with_reducible apply State_setVentCh_kept | with_reducible refine keeps_body_intro (fun _ _ _ => ?_) | split | dsimp only | with_reducible exact keepsOut_fault)

theorem execVentSet_kept (mbx : Nat) (s : State) (hh : Keeps ref s) : KeepsOut ref (execVentSet mbx s) := by
  unfold execVentSet; (try dsimp only); repeat' (first | with_reducible refine keepsOut_next ?_ | with_reducible assumption | with_reducible apply serve_kept | with_reducible apply State_setVentCh_kept | with_reducible refine keeps_body_intro (fun _ _ _ => ?_) | split | dsimp only | with_reducible exact keepsOut_fault)

theorem clearVent_kept (n : Nat) (mask : Nat) (s : State) (hh : Keeps ref s) : Keeps ref (clearVent n mask s) := by
  unfold clearVent; (try dsimp only); repeat' (first | with_reducible assumption | with_reducible apply State_setVentCh_kept | with_reducible apply enterVentFault_kept | split | dsimp only)

theorem execVentClear_kept (mbx : Nat) (s : State) (hh : Keeps ref s) : KeepsOut ref (execVentClear mbx s) := by
  unfold execVentClear; (try dsimp only); repeat' (first | with_reducible refine keepsOut_next ?_ | with_reducible assumption | with_reducible apply serve_kept | with_reducible apply clearVent_kept | with_reducible refine keeps_body_intro (fun _ _ _ => ?_) | split | dsimp only | with_reducible exact keepsOut_fault)

theorem execVentStats_kept (mbx : Nat) (s : State) (hh : Keeps ref s) : KeepsOut ref (execVentStats mbx s) := by
  unfold execVentStats; (try dsimp only); repeat' (first | with_reducible refine keepsOut_next ?_ | with_reducible assumption | with_reducible apply serveRead_kept | split | dsimp only | with_reducible exact keepsOut_fault)

theorem State_setPanel_kept (s : State) (x : Panel) (hh : Keeps ref s) : Keeps ref (State.setPanel s x) := by
  unfold State.setPanel; (try dsimp only); repeat' (first | with_reducible assumption | with_reducible exact keeps_raise | with_reducible apply keeps_raiser | with_reducible apply keeps_body | with_reducible refine keeps_foldl _ _ _ ?_ (fun _ _ _ => ?_) | with_reducible refine keeps_foldl2 _ _ _ ?_ (fun _ _ _ => ?_) | with_reducible refine keeps_body_intro (fun _ _ _ => ?_) | simp only [keeps_mk, keeps_fold] | with_reducible apply keepsCore_writeBytes | split | dsimp only)

theorem countPanel_kept (i : Nat) (s : State) (hh : Keeps ref s) : Keeps ref (countPanel i s) := by
  unfold countPanel; (try dsimp only); repeat' (first | with_reducible assumption | with_reducible apply State_setPanel_kept | dsimp only)

theorem pushKey_kept (kind : Nat) (index : Nat) (count : Nat) (s : State) (hh : Keeps ref s) : Keeps ref (pushKey kind index count s) := by
  unfold pushKey; (try dsimp only); repeat' (first | with_reducible assumption | with_reducible exact keeps_raise | with_reducible apply State_setPanel_kept | with_reducible apply countPanel_kept | with_reducible apply raise_kept | split | dsimp only)

theorem meetBindings_kept (key : Nat) (edge : Nat) (s : State) (hh : Keeps ref s) : Keeps ref (meetBindings key edge s) := by
  unfold meetBindings; (try dsimp only); repeat' (first | with_reducible assumption | with_reducible apply stageSet_kept | with_reducible apply stageSwath_kept | with_reducible refine keeps_foldl _ _ _ ?_ (fun _ _ _ => ?_) | with_reducible refine keeps_foldl2 _ _ _ ?_ (fun _ _ _ => ?_) | split | dsimp only)

theorem setCombination_kept (s : State) (i : Nat) (x : Combination) (hh : Keeps ref s) : Keeps ref (setCombination s i x) := by
  unfold setCombination; (try dsimp only); repeat' (first | with_reducible assumption | with_reducible apply State_setPanel_kept | dsimp only)

theorem execResetCombination_kept (record : Nat) (s : State) (hh : Keeps ref s) : KeepsOut ref (execResetCombination record s) := by
  unfold execResetCombination; (try dsimp only); repeat' (first | with_reducible refine keepsOut_next ?_ | with_reducible assumption | with_reducible exact keeps_raise | with_reducible apply setCombination_kept | with_reducible apply State_setPanel_kept | with_reducible apply raise_kept | with_reducible apply countPanel_kept | split | dsimp only | with_reducible exact keepsOut_fault)

theorem keyEdge_kept (k : Nat) (down : Bool) (s : State) (hh : Keeps ref s) : Keeps ref (keyEdge k down s) := by
  unfold keyEdge; (try dsimp only); repeat' (first | with_reducible assumption | with_reducible apply State_setPanel_kept | with_reducible apply countPanel_kept | with_reducible apply setCombination_kept | with_reducible apply meetBindings_kept | with_reducible apply pushKey_kept | with_reducible refine keeps_foldl _ _ _ ?_ (fun _ _ _ => ?_) | with_reducible refine keeps_foldl2 _ _ _ ?_ (fun _ _ _ => ?_) | split | dsimp only)

theorem debounceKey_kept (raw : BitVec 64) (s : State) (k : Nat) (hh : Keeps ref s) : Keeps ref (debounceKey raw s k) := by
  unfold debounceKey; (try dsimp only); repeat' (first | with_reducible assumption | with_reducible apply State_setPanel_kept | with_reducible apply keyEdge_kept | split | dsimp only)

theorem ambiguousScan_kept (rows : BitVec 8) (cols : BitVec 8) (s : State) (hh : Keeps ref s) : Keeps ref (ambiguousScan rows cols s) := by
  unfold ambiguousScan; (try dsimp only); repeat' (first | with_reducible assumption | with_reducible exact keeps_raise | with_reducible apply State_setPanel_kept | with_reducible apply raise_kept | with_reducible apply pushKey_kept | with_reducible apply countPanel_kept | split | dsimp only)

theorem endAmbiguity_kept (s : State) (hh : Keeps ref s) : Keeps ref (endAmbiguity s) := by
  unfold endAmbiguity; (try dsimp only); repeat' (first | with_reducible assumption | with_reducible exact keeps_raise | with_reducible apply raise_kept | with_reducible apply pushKey_kept | with_reducible apply State_setPanel_kept | split | dsimp only)

theorem execKeyScan_kept (raw : BitVec 64) (s : State) (hh : Keeps ref s) : KeepsOut ref (execKeyScan raw s) := by
  unfold execKeyScan; (try dsimp only); repeat' (first | with_reducible refine keepsOut_next ?_ | with_reducible assumption | with_reducible apply State_setPanel_kept | with_reducible apply endAmbiguity_kept | with_reducible apply ambiguousScan_kept | with_reducible apply debounceKey_kept | with_reducible refine keeps_foldl _ _ _ ?_ (fun _ _ _ => ?_) | with_reducible refine keeps_foldl2 _ _ _ ?_ (fun _ _ _ => ?_) | split | dsimp only | with_reducible exact keepsOut_fault)

theorem execLongPress_kept (key : Nat) (s : State) (hh : Keeps ref s) : KeepsOut ref (execLongPress key s) := by
  unfold execLongPress; (try dsimp only); repeat' (first | with_reducible refine keepsOut_next ?_ | with_reducible assumption | with_reducible apply meetBindings_kept | with_reducible apply pushKey_kept | with_reducible apply State_setPanel_kept | split | dsimp only | with_reducible exact keepsOut_fault)

theorem setEncoder_kept (s : State) (e : Nat) (x : PanelEncoder) (hh : Keeps ref s) : Keeps ref (setEncoder s e x) := by
  unfold setEncoder; (try dsimp only); repeat' (first | with_reducible assumption | with_reducible apply State_setPanel_kept | dsimp only)

theorem stepEncoder_kept (e : Nat) (s : State) (hh : Keeps ref s) : Keeps ref (stepEncoder e s) := by
  unfold stepEncoder; (try dsimp only); repeat' (first | with_reducible assumption | with_reducible apply pushKey_kept | with_reducible apply setEncoder_kept | split | dsimp only)

theorem acceptLines_kept (e : Nat) (lines : BitVec 2) (s : State) (hh : Keeps ref s) : Keeps ref (acceptLines e lines s) := by
  unfold acceptLines; (try dsimp only); repeat' (first | with_reducible assumption | with_reducible apply stepEncoder_kept | with_reducible apply setEncoder_kept | with_reducible apply countPanel_kept | split | dsimp only)

theorem execEncoderStep_kept (encoder : Nat) (lines : BitVec 2) (s : State) (hh : Keeps ref s) : KeepsOut ref (execEncoderStep encoder lines s) := by
  unfold execEncoderStep; (try dsimp only); repeat' (first | with_reducible refine keepsOut_next ?_ | with_reducible assumption | with_reducible apply acceptLines_kept | dsimp only | with_reducible exact keepsOut_fault)

theorem execEncoderTransition_kept (encoder : Nat) (lines : BitVec 2) (s : State) (hh : Keeps ref s) : KeepsOut ref (execEncoderTransition encoder lines s) := by
  unfold execEncoderTransition; (try dsimp only); repeat' (first | with_reducible refine keepsOut_next ?_ | with_reducible assumption | with_reducible apply acceptLines_kept | dsimp only | with_reducible exact keepsOut_fault)

theorem execPanelStatus_kept (mbx : Nat) (s : State) (hh : Keeps ref s) : KeepsOut ref (execPanelStatus mbx s) := by
  unfold execPanelStatus; (try dsimp only); repeat' (first | with_reducible refine keepsOut_next ?_ | with_reducible assumption | with_reducible apply serveRead_kept | dsimp only | with_reducible exact keepsOut_fault)

theorem execPanelKeys_kept (mbx : Nat) (s : State) (hh : Keeps ref s) : KeepsOut ref (execPanelKeys mbx s) := by
  unfold execPanelKeys; (try dsimp only); repeat' (first | with_reducible refine keepsOut_next ?_ | with_reducible assumption | with_reducible apply serveRead_kept | dsimp only | with_reducible exact keepsOut_fault)

theorem execPanelEvents_kept (mbx : Nat) (s : State) (hh : Keeps ref s) : KeepsOut ref (execPanelEvents mbx s) := by
  unfold execPanelEvents; (try dsimp only); repeat' (first | with_reducible refine keepsOut_next ?_ | with_reducible assumption | with_reducible apply serve_kept | with_reducible apply State_setPanel_kept | with_reducible refine keeps_body_intro (fun _ _ _ => ?_) | split | dsimp only | with_reducible exact keepsOut_fault)

theorem execPanelDisplay_kept (mbx : Nat) (s : State) (hh : Keeps ref s) : KeepsOut ref (execPanelDisplay mbx s) := by
  unfold execPanelDisplay; (try dsimp only); repeat' (first | with_reducible refine keepsOut_next ?_ | with_reducible assumption | with_reducible apply serve_kept | with_reducible apply State_setPanel_kept | with_reducible refine keeps_body_intro (fun _ _ _ => ?_) | split | dsimp only | with_reducible exact keepsOut_fault)

theorem execPanelStats_kept (mbx : Nat) (s : State) (hh : Keeps ref s) : KeepsOut ref (execPanelStats mbx s) := by
  unfold execPanelStats; (try dsimp only); repeat' (first | with_reducible refine keepsOut_next ?_ | with_reducible assumption | with_reducible apply serveRead_kept | dsimp only | with_reducible exact keepsOut_fault)

theorem execPanelStatsClear_kept (mbx : Nat) (s : State) (hh : Keeps ref s) : KeepsOut ref (execPanelStatsClear mbx s) := by
  unfold execPanelStatsClear; (try dsimp only); repeat' (first | with_reducible refine keepsOut_next ?_ | with_reducible assumption | with_reducible apply serve_kept | with_reducible apply State_setPanel_kept | with_reducible refine keeps_body_intro (fun _ _ _ => ?_) | dsimp only | with_reducible exact keepsOut_fault)

theorem skipStopped_kept (s : State) (hh : Keeps ref s) : Keeps ref (skipStopped s) := by
  unfold skipStopped; (try dsimp only); repeat' (first | with_reducible assumption | with_reducible apply raiseSkipped_kept | with_reducible refine keeps_foldl _ _ _ ?_ (fun _ _ _ => ?_) | with_reducible refine keeps_foldl2 _ _ _ ?_ (fun _ _ _ => ?_) | dsimp only)

theorem stopChip_kept (s0 : State) (hh : Keeps ref s0) : Keeps ref (stopChip s0) := by
  unfold stopChip; (try dsimp only); repeat' (first | with_reducible assumption | with_reducible apply skipStopped_kept | simp only [keeps_mk, keeps_fold] | dsimp only)

theorem silenceChannels_kept (beacon : Bool) (s : State) (hh : Keeps ref s) : Keeps ref (silenceChannels beacon s) := by
  unfold silenceChannels; (try dsimp only); repeat' (first | with_reducible assumption | with_reducible apply State_setChan_kept | with_reducible refine keeps_foldl _ _ _ ?_ (fun _ _ _ => ?_) | with_reducible refine keeps_foldl2 _ _ _ ?_ (fun _ _ _ => ?_) | simp only [keeps_mk, keeps_fold] | split | dsimp only)

theorem enterBoot_kept (s : State) (hh : Keeps ref s) : Keeps ref (enterBoot s) := by
  unfold enterBoot; (try dsimp only); repeat' (first | with_reducible assumption | with_reducible apply stopSense_kept | with_reducible apply startVents_kept | with_reducible apply stopValves_kept | with_reducible apply silenceChannels_kept | with_reducible apply stopChip_kept | with_reducible apply abandon_kept | with_reducible apply setMode_kept | with_reducible apply changeOutage_kept | simp only [keeps_mk, keeps_fold] | dsimp only)

theorem enterFallow_kept (reason : Nat) (s : State) (hh : Keeps ref s) : Keeps ref (enterFallow reason s) := by
  unfold enterFallow; (try dsimp only); repeat' (first | with_reducible assumption | with_reducible exact keeps_raise | with_reducible apply abandon_kept | with_reducible apply stopSense_kept | with_reducible apply fallowVents_kept | with_reducible apply stopValves_kept | with_reducible apply stopChip_kept | with_reducible apply silenceChannels_kept | with_reducible apply raise_kept | with_reducible apply setMode_kept | with_reducible apply changeOutage_kept | simp only [keeps_mk, keeps_fold] | split | dsimp only)

theorem execFallowBeacon_kept (channel : Nat) (s : State) (hh : Keeps ref s) : KeepsOut ref (execFallowBeacon channel s) := by
  unfold execFallowBeacon; (try dsimp only); repeat' (first | with_reducible refine keepsOut_next ?_ | with_reducible assumption | with_reducible apply countChan_kept | with_reducible apply State_setChan_kept | split | dsimp only | with_reducible exact keepsOut_fault)

theorem State_setLedger_kept (s : State) (l : Ledger) (hh : Keeps ref s) : Keeps ref (State.setLedger s l) := by
  unfold State.setLedger; dsimp only; simp only [keeps_mk, keeps_fold]; exact hh

theorem pushAttempt_kept (a : Attempt) (s : State) (hh : Keeps ref s) : Keeps ref (pushAttempt a s) := by
  unfold pushAttempt; (try dsimp only); repeat' (first | with_reducible assumption | with_reducible apply State_setLedger_kept | dsimp only)

theorem closeAttempt_kept (cause : Nat) (detail : Nat) (s : State) (hh : Keeps ref s) : Keeps ref (closeAttempt cause detail s) := by
  unfold closeAttempt; (try dsimp only); repeat' (first | with_reducible assumption | with_reducible apply State_setLedger_kept | split | dsimp only)

theorem closeLost_kept (s : State) (hh : Keeps ref s) : Keeps ref (closeLost s) := by
  unfold closeLost; (try dsimp only); repeat' (first | with_reducible assumption | with_reducible exact keeps_raise | with_reducible apply raise_kept | with_reducible apply closeAttempt_kept | split | dsimp only)

theorem beginAttemptEntry_kept (s : State) (hh : Keeps ref s) : Keeps ref (beginAttemptEntry s) := by
  unfold beginAttemptEntry; (try dsimp only); repeat' (first | with_reducible assumption | with_reducible exact keeps_raise | with_reducible apply closeLost_kept | with_reducible apply pushAttempt_kept | with_reducible apply raise_kept | simp only [keeps_mk, keeps_fold] | split | dsimp only)

theorem failAttempt_kept (cause : Nat) (detail : Nat) (s : State) (hh : Keeps ref s) : Keeps ref (failAttempt cause detail s) := by
  unfold failAttempt; (try dsimp only); repeat' (first | with_reducible assumption | with_reducible exact keeps_raise | with_reducible apply closeAttempt_kept | with_reducible apply raise_kept | with_reducible apply State_setLedger_kept | with_reducible apply enterFallow_kept | with_reducible apply enterBoot_kept | split | dsimp only)

theorem bootCores_kept (passed : BitVec 3) (s : State) (hh : Keeps ref s) : Keeps ref (bootCores passed s) := by
  unfold bootCores; (try dsimp only); repeat' (first | with_reducible assumption | with_reducible apply writeLedger_kept | with_reducible apply State_setUnit_kept | with_reducible apply runCores_kept | split | dsimp only)

theorem startLoops_kept (s : State) (hh : Keeps ref s) : Keeps ref (startLoops s) := by
  unfold startLoops; (try dsimp only); repeat' (first | with_reducible assumption | with_reducible apply State_setLoop_kept | with_reducible refine keeps_foldl _ _ _ ?_ (fun _ _ _ => ?_) | with_reducible refine keeps_foldl2 _ _ _ ?_ (fun _ _ _ => ?_) | split | dsimp only)

theorem startFans_kept (s : State) (hh : Keeps ref s) : Keeps ref (startFans s) := by
  unfold startFans; (try dsimp only); repeat' (first | with_reducible assumption | simp only [keeps_mk, keeps_fold] | split | dsimp only)

theorem loadCalendar_kept (s : State) (e : Nat × Bead) (hh : Keeps ref s) : Keeps ref (loadCalendar s e) := by
  unfold loadCalendar; (try dsimp only); repeat' (first | with_reducible assumption | with_reducible apply skipPassed_kept | with_reducible apply enterCalendar_kept | split | dsimp only)

theorem startBeads_kept (s : State) (hh : Keeps ref s) : Keeps ref (startBeads s) := by
  unfold startBeads; (try dsimp only); repeat' (first | with_reducible assumption | with_reducible apply loadCalendar_kept | with_reducible refine keeps_foldl _ _ _ ?_ (fun _ _ _ => ?_) | with_reducible refine keeps_foldl2 _ _ _ ?_ (fun _ _ _ => ?_) | simp only [keeps_mk, keeps_fold] | dsimp only)

theorem applyConfiguration_kept (im : BaseImage) (slot : Nat) (s : State) (hc : ¬ref.cfgFixed) (hh : Keeps ref s) : Keeps ref (applyConfiguration im slot s) := by
  unfold applyConfiguration; (try dsimp only); repeat' (first | with_reducible assumption | with_reducible apply becomeActive_kept | with_reducible apply startFans_kept | with_reducible apply startLoops_kept | with_reducible apply startChannels_kept | with_reducible apply startCommons_kept | with_reducible apply settleTimebase_kept | with_reducible apply startBeads_kept | simp only [keeps_mk, keeps_fold] | split | dsimp only)

theorem handOver_kept (fw : RunningFw) (s : State) (hh : Keeps ref s) : Keeps ref (handOver fw s) := by
  unfold handOver; (try dsimp only); repeat' (first | with_reducible assumption | with_reducible apply setMode_kept | simp only [keeps_mk, keeps_fold] | split | dsimp only)

theorem bootConfiguration_kept (fw : RunningFw) (slot : Nat) (s : State) (hc : ¬ref.cfgFixed) (hh : Keeps ref s) : Keeps ref (bootConfiguration fw slot s) := by
  unfold bootConfiguration; (try dsimp only); repeat' (first | with_reducible assumption | with_reducible exact keeps_raise | with_reducible apply failAttempt_kept | with_reducible apply raise_kept | with_reducible apply handOver_kept | with_reducible apply applyConfiguration_kept | with_reducible apply State_setCfgSlot_kept | split | dsimp only)

theorem execBootSequence_kept (passed : BitVec 3) (s : State) (hc : ¬ref.cfgFixed) (hh : Keeps ref s) : KeepsOut ref (execBootSequence passed s) := by
  unfold execBootSequence; (try dsimp only); repeat' (first | with_reducible refine keepsOut_next ?_ | with_reducible assumption | with_reducible apply bootCores_kept | with_reducible apply beginAttemptEntry_kept | with_reducible apply failAttempt_kept | with_reducible apply bootConfiguration_kept | simp only [keeps_mk, keeps_fold] | split | dsimp only | with_reducible exact keepsOut_fault)

theorem confirmStart_kept (source : Nat) (s : State) (hf : ¬ref.fwFixed) (hh : Keeps ref s) : Keeps ref (confirmStart source s).1 := by
  unfold confirmStart; (try dsimp only); repeat' (first | with_reducible assumption | with_reducible exact keeps_raise | with_reducible apply closeAttempt_kept | with_reducible apply State_setLedger_kept | with_reducible apply raiseCounters_kept | with_reducible apply raise_kept | with_reducible apply setMode_kept | with_reducible apply endCauses_kept | simp only [keeps_mk, keeps_fold] | split | dsimp only)
theorem confirmStart_eq (source : Nat) (s : State) (hf : ¬ref.fwFixed) {rq tq} (he : confirmStart source s = (tq, rq)) (hh : Keeps ref s) : Keeps ref tq := by
  have := confirmStart_kept source s hf hh
  rw [he] at this; exact this

theorem execHarloporConfirm_kept (s : State) (hf : ¬ref.fwFixed) (hh : Keeps ref s) : KeepsOut ref (execHarloporConfirm s) := by
  unfold execHarloporConfirm; (try dsimp only); repeat' (first | with_reducible refine keepsOut_next ?_ | with_reducible assumption | with_reducible apply confirmStart_kept | split | refine confirmStart_eq _ _ _ (by with_reducible assumption) ?_ | dsimp only | with_reducible exact keepsOut_fault)

theorem execConfirmDeadline_kept (s : State) (hh : Keeps ref s) : KeepsOut ref (execConfirmDeadline s) := by
  unfold execConfirmDeadline; (try dsimp only); repeat' (first | with_reducible refine keepsOut_next ?_ | with_reducible assumption | with_reducible apply failAttempt_kept | split | dsimp only | with_reducible exact keepsOut_fault)

theorem execStartWatchdogExpiry_kept (s : State) (hh : Keeps ref s) : KeepsOut ref (execStartWatchdogExpiry s) := by
  unfold execStartWatchdogExpiry; (try dsimp only); repeat' (first | with_reducible refine keepsOut_next ?_ | with_reducible assumption | with_reducible apply failAttempt_kept | with_reducible apply beginAttemptEntry_kept | with_reducible apply beginCoreTest_kept | split | dsimp only | with_reducible exact keepsOut_fault)

theorem execSupervisorRestartDeadline_kept (s : State) (hh : Keeps ref s) : KeepsOut ref (execSupervisorRestartDeadline s) := by
  unfold execSupervisorRestartDeadline; (try dsimp only); repeat' (first | with_reducible refine keepsOut_next ?_ | with_reducible assumption | with_reducible apply failAttempt_kept | with_reducible apply pushAttempt_kept | split | dsimp only | with_reducible exact keepsOut_fault)

theorem execLeaveRestart_kept (s : State) (hh : Keeps ref s) : KeepsOut ref (execLeaveRestart s) := by
  unfold execLeaveRestart; (try dsimp only); repeat' (first | with_reducible refine keepsOut_next ?_ | with_reducible assumption | with_reducible apply enterBoot_kept | simp only [keeps_mk, keeps_fold] | split | dsimp only | with_reducible exact keepsOut_fault)

theorem leaveByPower_kept (s : State) (hh : Keeps ref s) : Keeps ref (leaveByPower s) := by
  unfold leaveByPower; (try dsimp only); repeat' (first | with_reducible assumption | simp only [keeps_mk, keeps_fold] | split | dsimp only)

theorem loseSupply_kept (s : State) (hh : Keeps ref s) : Keeps ref (loseSupply s) := by
  unfold loseSupply; (try dsimp only); repeat' (first | with_reducible assumption | with_reducible apply countInterval_kept | simp only [keeps_mk, keeps_fold] | split | dsimp only)

theorem execSupplyFail_kept (s : State) (hh : Keeps ref s) : KeepsOut ref (execSupplyFail s) := by
  unfold execSupplyFail
  split
  · exact keepsOut_next hh
  · have h1 : Keeps ref (leaveByPower (loseSupply s)) := leaveByPower_kept _ (loseSupply_kept _ hh)
    exact keepsOut_next (keepsCore_resize h1 (fun hs => { hs with intake := Nat.zero_le _ }))

theorem powerOn_kept (backupKept : Bool) (s : State) (hh : Keeps ref s) : Keeps ref (powerOn backupKept s) := by
  unfold powerOn; (try dsimp only)
  exact ⟨hh.1, fun _ => rfl, fun z => ⟨Nat.zero_le _, Nat.zero_le _, Nat.zero_le _, Nat.zero_le _, Nat.zero_le _, Nat.zero_le _, Nat.zero_le _, (hh.2.2 z).kept, Nat.zero_le _, Nat.zero_le _⟩⟩

theorem execPowerOnReset_kept (backupKept : Bool) (s : State) (hh : Keeps ref s) : KeepsOut ref (execPowerOnReset backupKept s) := by
  unfold execPowerOnReset; (try dsimp only); repeat' (first | with_reducible refine keepsOut_next ?_ | with_reducible assumption | with_reducible exact keeps_raise | with_reducible apply leaveByPower_kept | with_reducible apply loseSupply_kept | with_reducible apply powerOn_kept | with_reducible apply raise_kept | with_reducible apply beginOutage_kept | with_reducible apply endOutage_kept | split | dsimp only | with_reducible exact keepsOut_fault)

theorem execStartConfirm_kept (mbx : Nat) (s : State) (hf : ¬ref.fwFixed) (hh : Keeps ref s) : KeepsOut ref (execStartConfirm mbx s) := by
  unfold execStartConfirm; (try dsimp only); repeat' (first | with_reducible refine keepsOut_next ?_ | with_reducible assumption | with_reducible apply serve_kept | with_reducible apply confirmStart_kept | with_reducible refine keeps_body_intro (fun _ _ _ => ?_) | split | refine confirmStart_eq _ _ _ (by with_reducible assumption) ?_ | dsimp only | with_reducible exact keepsOut_fault)

theorem execStartLedger_kept (mbx : Nat) (s : State) (hh : Keeps ref s) : KeepsOut ref (execStartLedger mbx s) := by
  unfold execStartLedger; (try dsimp only); repeat' (first | with_reducible refine keepsOut_next ?_ | with_reducible assumption | with_reducible apply serveRead_kept | dsimp only | with_reducible exact keepsOut_fault)

theorem execStartReason_kept (mbx : Nat) (s : State) (hh : Keeps ref s) : KeepsOut ref (execStartReason mbx s) := by
  unfold execStartReason; (try dsimp only); repeat' (first | with_reducible refine keepsOut_next ?_ | with_reducible assumption | with_reducible apply serveRead_kept | split | dsimp only | with_reducible exact keepsOut_fault)

theorem execStartSessionOpen_kept (mbx : Nat) (s : State) (hh : Keeps ref s) : KeepsOut ref (execStartSessionOpen mbx s) := by
  unfold execStartSessionOpen; (try dsimp only); repeat' (first | with_reducible refine keepsOut_next ?_ | with_reducible assumption | with_reducible apply serve_kept | with_reducible apply sessionOpen_kept | with_reducible refine keeps_body_intro (fun _ _ _ => ?_) | refine sessionOpen_eq _ _ (by with_reducible assumption) ?_ | dsimp only | with_reducible exact keepsOut_fault)

theorem execStartLeave_kept (mbx : Nat) (s : State) (hh : Keeps ref s) : KeepsOut ref (execStartLeave mbx s) := by
  unfold execStartLeave; (try dsimp only); repeat' (first | with_reducible refine keepsOut_next ?_ | with_reducible assumption | with_reducible apply serve_kept | with_reducible refine keeps_body_intro (fun _ _ _ => ?_) | simp only [keeps_mk, keeps_fold] | split | dsimp only | with_reducible exact keepsOut_fault)

theorem execStartFallow_kept (mbx : Nat) (s : State) (hh : Keeps ref s) : KeepsOut ref (execStartFallow mbx s) := by
  unfold execStartFallow; (try dsimp only); repeat' (first | with_reducible refine keepsOut_next ?_ | with_reducible assumption | with_reducible apply serve_kept | with_reducible refine keeps_body_intro (fun _ _ _ => ?_) | simp only [keeps_mk, keeps_fold] | split | dsimp only | with_reducible exact keepsOut_fault)

theorem execStartSelect_kept (mbx : Nat) (s : State) (hh : Keeps ref s) : KeepsOut ref (execStartSelect mbx s) := by
  unfold execStartSelect; (try dsimp only); repeat' (first | with_reducible refine keepsOut_next ?_ | with_reducible assumption | with_reducible apply serve_kept | with_reducible apply State_setLedger_kept | with_reducible refine keeps_body_intro (fun _ _ _ => ?_) | split | dsimp only | with_reducible exact keepsOut_fault)

theorem execStartThreshold_kept (mbx : Nat) (s : State) (hh : Keeps ref s) : KeepsOut ref (execStartThreshold mbx s) := by
  unfold execStartThreshold; (try dsimp only); repeat' (first | with_reducible refine keepsOut_next ?_ | with_reducible assumption | with_reducible apply serve_kept | with_reducible apply State_setLedger_kept | with_reducible refine keeps_body_intro (fun _ _ _ => ?_) | split | dsimp only | with_reducible exact keepsOut_fault)

theorem leaveTest_kept (s : State) (hh : Keeps ref s) : Keeps ref (leaveTest s) := by
  unfold leaveTest; (try dsimp only); repeat' (first | with_reducible assumption | with_reducible apply setMode_kept | simp only [keeps_mk, keeps_fold] | dsimp only)

theorem execStartTest_kept (mbx : Nat) (s : State) (hh : Keeps ref s) : KeepsOut ref (execStartTest mbx s) := by
  unfold execStartTest; (try dsimp only); repeat' (first | with_reducible refine keepsOut_next ?_ | with_reducible assumption | with_reducible apply serve_kept | with_reducible apply setMode_kept | with_reducible apply leaveTest_kept | with_reducible refine keeps_body_intro (fun _ _ _ => ?_) | simp only [keeps_mk, keeps_fold] | split | dsimp only | with_reducible exact keepsOut_fault)

theorem execStartFallowMap_kept (mbx : Nat) (s : State) (hh : Keeps ref s) : KeepsOut ref (execStartFallowMap mbx s) := by
  unfold execStartFallowMap; (try dsimp only); repeat' (first | with_reducible refine keepsOut_next ?_ | with_reducible assumption | with_reducible apply serve_kept | with_reducible apply State_setLedger_kept | with_reducible refine keeps_body_intro (fun _ _ _ => ?_) | simp only [keeps_mk, keeps_fold] | split | dsimp only | with_reducible exact keepsOut_fault)

theorem execCanReceiveError_kept (channel : Nat) (ident : Option Nat) (s : State) (hh : Keeps ref s) : KeepsOut ref (execCanReceiveError channel ident s) := by
  unfold execCanReceiveError; (try dsimp only); repeat' (first | with_reducible refine keepsOut_next ?_ | with_reducible assumption | with_reducible apply receiveError_kept | with_reducible apply State_setBus_kept | split | dsimp only | with_reducible exact keepsOut_fault)

theorem acceptFrame_kept (n : Nat) (f : CanFrame) (s : State) (hh : Keeps ref s) : Keeps ref (acceptFrame n f s) := by
  unfold acceptFrame; (try dsimp only); repeat' (first | with_reducible assumption | with_reducible apply receiveGood_kept | with_reducible apply countChan_kept | with_reducible apply rxOverflow_kept | with_reducible apply hearRoll_kept | with_reducible apply takeFrame_kept | split | dsimp only)

theorem execCanFrameReceived_kept (channel : Nat) (frame : CanFrame) (spare : SpareView) (s : State) (hh : Keeps ref s) : KeepsOut ref (execCanFrameReceived channel frame spare s) := by
  unfold execCanFrameReceived; (try dsimp only); repeat' (first | with_reducible refine keepsOut_next ?_ | with_reducible assumption | with_reducible apply State_setChan_kept | with_reducible apply acceptFrame_kept | with_reducible apply suspectSpare_kept | with_reducible apply suspectEngine_kept | with_reducible apply receiveError_kept | split | dsimp only | with_reducible exact keepsOut_fault)

theorem measureTdc_kept (n : Nat) (fd : Bool) (s : State) (hh : Keeps ref s) : Keeps ref (measureTdc n fd s) := by
  unfold measureTdc; (try dsimp only); repeat' (first | with_reducible assumption | with_reducible apply State_takeByte_kept | with_reducible apply State_setChan_kept | simp only [keeps_mk, keeps_fold] | split | refine State_takeByte_eq _ (by with_reducible assumption) ?_ | dsimp only)

theorem sentGood_kept (n : Nat) (s : State) (hh : Keeps ref s) : Keeps ref (sentGood n s) := by
  unfold sentGood; (try dsimp only); repeat' (first | with_reducible assumption | with_reducible apply settleErrors_kept | with_reducible apply countChan_kept | with_reducible apply State_setChan_kept | dsimp only)

theorem markSent_kept (n : Nat) (f : TxFrame) (s : State) (hh : Keeps ref s) : Keeps ref (markSent n f s) := by
  unfold markSent; (try dsimp only); repeat' (first | with_reducible assumption | with_reducible apply setTx_kept | split | dsimp only)

theorem execCanFrameSent_kept (channel : Nat) (reference : Bool) (s : State) (hh : Keeps ref s) : KeepsOut ref (execCanFrameSent channel reference s) := by
  unfold execCanFrameSent; (try dsimp only); repeat' (first | with_reducible refine keepsOut_next ?_ | with_reducible assumption | with_reducible apply countChan_kept | with_reducible apply sentGood_kept | with_reducible apply State_setChan_kept | with_reducible apply feedLayer_kept | with_reducible apply markSent_kept | with_reducible apply popHead_kept | with_reducible apply measureTdc_kept | split | dsimp only | with_reducible exact keepsOut_fault)

theorem discardHead_kept (n : Nat) (cause : Nat) (s : State) (hh : Keeps ref s) : Keeps ref (discardHead n cause s) := by
  unfold discardHead; (try dsimp only); repeat' (first | with_reducible assumption | with_reducible exact keeps_raise | with_reducible apply raise_kept | with_reducible apply countChan_kept | with_reducible apply popHead_kept | with_reducible apply failTx_kept | with_reducible apply State_setChan_kept | with_reducible apply feedLayer_kept | split | dsimp only)

theorem execCanTransmitError_kept (channel : Nat) (s : State) (hh : Keeps ref s) : KeepsOut ref (execCanTransmitError channel s) := by
  unfold execCanTransmitError; (try dsimp only); repeat' (first | with_reducible refine keepsOut_next ?_ | with_reducible assumption | with_reducible apply State_takeBool_kept | with_reducible apply countChan_kept | with_reducible apply State_setChan_kept | with_reducible apply goBusOff_kept | with_reducible apply settleErrors_kept | with_reducible apply discardHead_kept | simp only [keeps_mk, keeps_fold] | split | refine State_takeBool_eq _ (by with_reducible assumption) ?_ | dsimp only | with_reducible exact keepsOut_fault)

theorem execArbitrationLost_kept (channel : Nat) (s : State) (hh : Keeps ref s) : KeepsOut ref (execArbitrationLost channel s) := by
  unfold execArbitrationLost; (try dsimp only); repeat' (first | with_reducible refine keepsOut_next ?_ | with_reducible assumption | with_reducible apply countChan_kept | with_reducible apply State_setChan_kept | with_reducible apply discardHead_kept | split | dsimp only | with_reducible exact keepsOut_fault)

theorem moveDone_kept (n : Nat) (t : Transaction) (s : State) (hh : Keeps ref s) : Keeps ref (moveDone n t s) := by
  unfold moveDone; (try dsimp only); repeat' (first | with_reducible assumption | with_reducible exact keeps_raise | with_reducible apply raise_kept | with_reducible apply holdRole_kept | split | dsimp only)

theorem effectOfOk_kept (n : Nat) (t : Transaction) (f : RxFrame) (epoch : Nat) (result : List Byte) (s : State) (hh : Keeps ref s) : Keeps ref (effectOfOk n t f epoch result s) := by
  unfold effectOfOk; (try dsimp only); repeat' (first | with_reducible assumption | with_reducible apply manage_kept | with_reducible apply moveDone_kept | with_reducible apply takeReading_kept | with_reducible apply countBus_kept | with_reducible apply takeFanState_kept | split | dsimp only)

theorem reissue_kept (n : Nat) (t : Transaction) (after : Option Nat) (s : State) (hh : Keeps ref s) : Keeps ref (reissue n t after s) := by
  unfold reissue; (try dsimp only); repeat' (first | with_reducible assumption | with_reducible apply setTx_kept | with_reducible apply countBus_kept | dsimp only)

theorem roleStale_kept (n : Nat) (t : Transaction) (epoch : Nat) (role : Nat) (s : State) (hh : Keeps ref s) : Keeps ref (roleStale n t epoch role s) := by
  unfold roleStale; (try dsimp only); repeat' (first | with_reducible assumption | with_reducible apply failRead_kept | with_reducible apply manageFailed_kept | with_reducible apply endTx_kept | with_reducible apply reissue_kept | with_reducible apply manage_kept | with_reducible apply setRoleState_kept | split | dsimp only)

theorem finishRsp_kept (n : Nat) (t : Transaction) (f : RxFrame) (status : Nat) (epoch : Nat) (role : Nat) (result : List Byte) (s : State) (hh : Keeps ref s) : Keeps ref (finishRsp n t f status epoch role result s) := by
  unfold finishRsp; (try dsimp only); repeat' (first | with_reducible assumption | with_reducible apply effectOfOk_kept | with_reducible apply endTx_kept | with_reducible apply roleStale_kept | with_reducible apply manageFailed_kept | split | dsimp only)

theorem takeRsp_kept (n : Nat) (f : RxFrame) (s : State) (hh : Keeps ref s) : Keeps ref (takeRsp n f s) := by
  unfold takeRsp; (try dsimp only); repeat' (first | with_reducible assumption | with_reducible apply finishRsp_kept | with_reducible apply setTx_kept | split | dsimp only)

theorem execCfpRsp_kept (bus : Nat) (s : State) (hh : Keeps ref s) : KeepsOut ref (execCfpRsp bus s) := by
  unfold execCfpRsp; (try dsimp only); repeat' (first | with_reducible refine keepsOut_next ?_ | with_reducible assumption | with_reducible apply takeKind_kept | with_reducible apply takeRsp_kept | split | refine takeKind_eq _ _ _ (by with_reducible assumption) ?_ | dsimp only | with_reducible exact keepsOut_fault)

theorem endMove_kept (n : Nat) (role : Nat) (s : State) (hh : Keeps ref s) : Keeps ref (endMove n role s) := by
  unfold endMove; (try dsimp only); repeat' (first | with_reducible assumption | with_reducible apply takeRsp_kept | with_reducible apply State_setChan_kept | split | dsimp only)

theorem execCfpSegment_kept (bus : Nat) (s : State) (hh : Keeps ref s) : KeepsOut ref (execCfpSegment bus s) := by
  unfold execCfpSegment; (try dsimp only); repeat' (first | with_reducible refine keepsOut_next ?_ | with_reducible assumption | with_reducible apply takeKind_kept | with_reducible apply feedLayer_kept | with_reducible apply failTx_kept | with_reducible apply countBus_kept | with_reducible apply finishRsp_kept | with_reducible apply setTx_kept | split | refine takeKind_eq _ _ _ (by with_reducible assumption) ?_ | dsimp only | with_reducible exact keepsOut_fault)

theorem execCfpTimeout_kept (bus : Nat) (tag : Nat) (s : State) (hh : Keeps ref s) : KeepsOut ref (execCfpTimeout bus tag s) := by
  unfold execCfpTimeout; (try dsimp only); repeat' (first | with_reducible refine keepsOut_next ?_ | with_reducible assumption | with_reducible apply failTx_kept | split | dsimp only | with_reducible exact keepsOut_fault)

theorem execSegmentTimeout_kept (bus : Nat) (tag : Nat) (s : State) (hh : Keeps ref s) : KeepsOut ref (execSegmentTimeout bus tag s) := by
  unfold execSegmentTimeout; (try dsimp only); repeat' (first | with_reducible refine keepsOut_next ?_ | with_reducible assumption | with_reducible apply failTx_kept | split | dsimp only | with_reducible exact keepsOut_fault)

theorem firePin_kept (action : List Byte) (s : State) (hh : Keeps ref s) : Keeps ref (firePin action s) := by
  unfold firePin; (try dsimp only); repeat' (first | with_reducible assumption | simp only [keeps_mk, keeps_fold] | split | dsimp only)

theorem fireSwath_kept (bead : Nat) (action : List Byte) (s : State) (hh : Keeps ref s) : Keeps ref (fireSwath bead action s) := by
  unfold fireSwath; (try dsimp only); repeat' (first | with_reducible assumption | with_reducible apply stageSet_kept | with_reducible apply stageSwath_kept | split | dsimp only)

theorem fireAction_kept (bead : Nat) (b : BeadRec) (s : State) (hh : Keeps ref s) : Keeps ref (fireAction bead b s) := by
  unfold fireAction; (try dsimp only); repeat' (first | with_reducible assumption | with_reducible exact keeps_raise | with_reducible apply firePin_kept | with_reducible apply fireValve_kept | with_reducible apply fireCfp_kept | with_reducible apply endMove_kept | with_reducible apply takeSample_kept | with_reducible apply publishBead_kept | with_reducible apply ownStrobe_kept | with_reducible apply raise_kept | with_reducible apply fireSwath_kept | split | dsimp only)

theorem noteFired_kept (o : Occ) (s : State) (hh : Keeps ref s) : Keeps ref (noteFired o s) := by
  unfold noteFired; (try dsimp only); repeat' (first | with_reducible assumption | with_reducible apply spend_kept | simp only [keeps_mk, keeps_fold] | split | dsimp only)

theorem fireOcc_kept (o : Occ) (s : State) (hh : Keeps ref s) : Keeps ref (fireOcc o s) := by
  unfold fireOcc; (try dsimp only); repeat' (first | with_reducible assumption | with_reducible apply fireAction_kept | with_reducible apply noteFired_kept | with_reducible apply beadLate_kept | split | dsimp only)

theorem execBeadFire_kept (bead : Nat) (actual : Nat) (s : State) (hh : Keeps ref s) : KeepsOut ref (execBeadFire bead actual s) := by
  unfold execBeadFire; (try dsimp only); repeat' (first | with_reducible refine keepsOut_next ?_ | with_reducible assumption | with_reducible apply State_atAngle_kept | with_reducible apply skipOccs_kept | with_reducible apply fireOcc_kept | split | dsimp only | with_reducible exact keepsOut_fault)

theorem State_setClock_kept (s : State) (x : Clock) (hh : Keeps ref s) : Keeps ref (State.setClock s x) := by
  unfold State.setClock; (try dsimp only); repeat' (first | with_reducible assumption | with_reducible exact keeps_raise | with_reducible apply keeps_raiser | with_reducible apply keeps_body | with_reducible refine keeps_foldl _ _ _ ?_ (fun _ _ _ => ?_) | with_reducible refine keeps_foldl2 _ _ _ ?_ (fun _ _ _ => ?_) | with_reducible refine keeps_body_intro (fun _ _ _ => ?_) | simp only [keeps_mk, keeps_fold] | with_reducible apply keepsCore_writeBytes | split | dsimp only)

theorem tickClock_kept (s : State) (hh : Keeps ref s) : Keeps ref (tickClock s) := by
  unfold tickClock; (try dsimp only); repeat' (first | with_reducible assumption | with_reducible apply State_setClock_kept | split | dsimp only)

theorem answerWrite_kept (w : ClockWrite) (a : Answer) (s : State) (hh : Keeps ref s) : Keeps ref (answerWrite w a s) := by
  unfold answerWrite; (try dsimp only); repeat' (first | with_reducible assumption | with_reducible apply answerStarted_kept | split | dsimp only)

theorem applyWrite_kept (w : ClockWrite) (s : State) (hh : Keeps ref s) : Keeps ref (applyWrite w s) := by
  unfold applyWrite; (try dsimp only); repeat' (first | with_reducible assumption | with_reducible exact keeps_raise | with_reducible apply tickClock_kept | with_reducible apply answerWrite_kept | with_reducible apply State_setClock_kept | with_reducible apply raise_kept | split | dsimp only)

theorem clockAdvance_kept (s : State) (hh : Keeps ref s) : Keeps ref (clockAdvance s) := by
  unfold clockAdvance; (try dsimp only); repeat' (first | with_reducible assumption | with_reducible apply tickClock_kept | with_reducible apply applyWrite_kept | split | dsimp only)

theorem execClockTick_kept (s : State) (hh : Keeps ref s) : KeepsOut ref (execClockTick s) := by
  unfold execClockTick; (try dsimp only); repeat' (first | with_reducible refine keepsOut_next ?_ | with_reducible assumption | with_reducible apply checkLate_kept | with_reducible apply clockAdvance_kept | with_reducible apply endLate_kept | split | dsimp only | with_reducible exact keepsOut_fault)

theorem execClockWriteApply_kept (s : State) (hh : Keeps ref s) : KeepsOut ref (execClockWriteApply s) := by
  unfold execClockWriteApply; (try dsimp only); repeat' (first | with_reducible refine keepsOut_next ?_ | with_reducible assumption | with_reducible apply clockAdvance_kept | split | dsimp only | with_reducible exact keepsOut_fault)

theorem execVbatCheck_kept (millivolts : Nat) (s : State) (hh : Keeps ref s) : KeepsOut ref (execVbatCheck millivolts s) := by
  unfold execVbatCheck; (try dsimp only); repeat' (first | with_reducible refine keepsOut_next ?_ | with_reducible assumption | with_reducible exact keeps_raise | with_reducible apply raise_kept | with_reducible apply State_setClock_kept | split | dsimp only | with_reducible exact keepsOut_fault)

theorem execOscillatorStop_kept (s : State) (hh : Keeps ref s) : KeepsOut ref (execOscillatorStop s) := by
  unfold execOscillatorStop; (try dsimp only); repeat' (first | with_reducible refine keepsOut_next ?_ | with_reducible assumption | with_reducible exact keeps_raise | with_reducible apply raise_kept | with_reducible apply State_setClock_kept | split | dsimp only | with_reducible exact keepsOut_fault)

theorem execOscillatorRestart_kept (s : State) (hh : Keeps ref s) : KeepsOut ref (execOscillatorRestart s) := by
  unfold execOscillatorRestart; (try dsimp only); repeat' (first | with_reducible refine keepsOut_next ?_ | with_reducible assumption | with_reducible apply State_setClock_kept | with_reducible apply clockAdvance_kept | split | dsimp only | with_reducible exact keepsOut_fault)

theorem execTrimCompensation_kept (temperature : Int) (s : State) (hh : Keeps ref s) : KeepsOut ref (execTrimCompensation temperature s) := by
  unfold execTrimCompensation; (try dsimp only); repeat' (first | with_reducible refine keepsOut_next ?_ | with_reducible assumption | with_reducible exact keeps_raise | with_reducible apply State_setClock_kept | with_reducible apply raise_kept | split | dsimp only | with_reducible exact keepsOut_fault)

theorem execClockRead_kept (mbx : Nat) (s : State) (hh : Keeps ref s) : KeepsOut ref (execClockRead mbx s) := by
  unfold execClockRead; (try dsimp only); repeat' (first | with_reducible refine keepsOut_next ?_ | with_reducible assumption | with_reducible apply serveRead_kept | dsimp only | with_reducible exact keepsOut_fault)

theorem execClockSet_kept (mbx : Nat) (s : State) (hh : Keeps ref s) : KeepsOut ref (execClockSet mbx s) := by
  unfold execClockSet; (try dsimp only); repeat' (first | with_reducible refine keepsOut_next ?_ | with_reducible assumption | with_reducible apply serveLater_kept | with_reducible apply State_setClock_kept | with_reducible refine keeps_body_intro (fun _ _ _ => ?_) | split | dsimp only | with_reducible exact keepsOut_fault)

theorem execClockConvert_kept (mbx : Nat) (s : State) (hh : Keeps ref s) : KeepsOut ref (execClockConvert mbx s) := by
  unfold execClockConvert; (try dsimp only); repeat' (first | with_reducible refine keepsOut_next ?_ | with_reducible assumption | with_reducible apply serveRead_kept | split | dsimp only | with_reducible exact keepsOut_fault)

theorem execClockFlagsClear_kept (mbx : Nat) (s : State) (hh : Keeps ref s) : KeepsOut ref (execClockFlagsClear mbx s) := by
  unfold execClockFlagsClear; (try dsimp only); repeat' (first | with_reducible refine keepsOut_next ?_ | with_reducible assumption | with_reducible apply serve_kept | with_reducible apply State_setClock_kept | with_reducible refine keeps_body_intro (fun _ _ _ => ?_) | split | dsimp only | with_reducible exact keepsOut_fault)

theorem execClockTrim_kept (mbx : Nat) (s : State) (hh : Keeps ref s) : KeepsOut ref (execClockTrim mbx s) := by
  unfold execClockTrim; (try dsimp only); repeat' (first | with_reducible refine keepsOut_next ?_ | with_reducible assumption | with_reducible apply serveRead_kept | dsimp only | with_reducible exact keepsOut_fault)

theorem execGateTransition_kept (port : Nat) (s : State) (hh : Keeps ref s) : KeepsOut ref (execGateTransition port s) := by
  unfold execGateTransition; (try dsimp only); repeat' (first | with_reducible refine keepsOut_next ?_ | with_reducible assumption | with_reducible apply State_setPort_kept | with_reducible apply State_atAngle_kept | split | dsimp only | with_reducible exact keepsOut_fault)

theorem gatesBoundary_kept (s : State) (hh : Keeps ref s) : Keeps ref (gatesBoundary s) := by
  unfold gatesBoundary; (try dsimp only); repeat' (first | with_reducible assumption | with_reducible apply State_setPort_kept | with_reducible refine keeps_foldl _ _ _ ?_ (fun _ _ _ => ?_) | with_reducible refine keeps_foldl2 _ _ _ ?_ (fun _ _ _ => ?_) | dsimp only)

theorem forward_kept (fromHost : Bool) (p : Nat) (cls : Nat) (f : EthFrame) (s : State) (hh : Keeps ref s) : Keeps ref (forward fromHost p cls f s) := by
  unfold forward; (try dsimp only); repeat' (first | with_reducible assumption | with_reducible exact keeps_raise | with_reducible apply State_countPort_kept | with_reducible apply State_setPort_kept | with_reducible apply enqueueFrame_kept | with_reducible apply raise_kept | split | dsimp only)

theorem execFrameTransmit_kept (port : Nat) (s : State) (hh : Keeps ref s) : KeepsOut ref (execFrameTransmit port s) := by
  unfold execFrameTransmit; (try dsimp only); repeat' (first | with_reducible refine keepsOut_next ?_ | with_reducible assumption | with_reducible apply State_countPort_kept | with_reducible apply State_setPort_kept | split | dsimp only | with_reducible exact keepsOut_fault)

theorem openRing_kept (port : Nat) (cause : Nat) (s : State) (hh : Keeps ref s) : Keeps ref (openRing port cause s) := by
  unfold openRing; (try dsimp only); repeat' (first | with_reducible assumption | with_reducible exact keeps_raise | with_reducible apply raise_kept | simp only [keeps_mk, keeps_fold] | split | dsimp only)

theorem closeRing_kept (s : State) (hh : Keeps ref s) : Keeps ref (closeRing s) := by
  unfold closeRing; (try dsimp only); repeat' (first | with_reducible assumption | with_reducible exact keeps_raise | with_reducible apply raise_kept | simp only [keeps_mk, keeps_fold] | split | dsimp only)

theorem execLinkUp_kept (port : Nat) (s : State) (hh : Keeps ref s) : KeepsOut ref (execLinkUp port s) := by
  unfold execLinkUp; (try dsimp only); repeat' (first | with_reducible refine keepsOut_next ?_ | with_reducible assumption | with_reducible exact keeps_raise | with_reducible apply raise_kept | with_reducible apply State_setPort_kept | split | dsimp only | with_reducible exact keepsOut_fault)

theorem execLinkDown_kept (port : Nat) (cause : Nat) (s : State) (hh : Keeps ref s) : KeepsOut ref (execLinkDown port cause s) := by
  unfold execLinkDown; (try dsimp only); repeat' (first | with_reducible refine keepsOut_next ?_ | with_reducible assumption | with_reducible exact keeps_raise | with_reducible apply raise_kept | with_reducible apply State_countPort_kept | with_reducible apply State_setPort_kept | with_reducible apply openRing_kept | split | dsimp only | with_reducible exact keepsOut_fault)

theorem execSerdesIdle_kept (port : Nat) (s : State) (hh : Keeps ref s) : KeepsOut ref (execSerdesIdle port s) := by
  unfold execSerdesIdle; (try dsimp only); repeat' (first | with_reducible refine keepsOut_next ?_ | with_reducible assumption | with_reducible apply State_setPort_kept | split | dsimp only | with_reducible exact keepsOut_fault)

theorem execSerdesWake_kept (port : Nat) (s : State) (hh : Keeps ref s) : KeepsOut ref (execSerdesWake port s) := by
  unfold execSerdesWake; (try dsimp only); repeat' (first | with_reducible refine keepsOut_next ?_ | with_reducible assumption | with_reducible apply State_setPort_kept | dsimp only | with_reducible exact keepsOut_fault)

theorem setPtp_kept (st : Nat) (gm : Nat) (s : State) (hh : Keeps ref s) : Keeps ref (setPtp st gm s) := by
  unfold setPtp; (try dsimp only); repeat' (first | with_reducible assumption | with_reducible exact keeps_raise | with_reducible apply raise_kept | simp only [keeps_mk, keeps_fold] | split | dsimp only)

theorem settlePtp_kept (s : State) (hh : Keeps ref s) : Keeps ref (settlePtp s) := by
  unfold settlePtp; (try dsimp only); repeat' (first | with_reducible assumption | with_reducible apply setPtp_kept | split | dsimp only)

theorem hearAnnounce_kept (f : EthFrame) (s : State) (hh : Keeps ref s) : Keeps ref (hearAnnounce f s) := by
  unfold hearAnnounce; (try dsimp only); repeat' (first | with_reducible assumption | with_reducible apply settlePtp_kept | simp only [keeps_mk, keeps_fold] | split | dsimp only)

theorem execPtpSyncReceived_kept (offsetNs : Int) (pathDelayNs : Nat) (dPtp : Int) (s : State) (hh : Keeps ref s) : KeepsOut ref (execPtpSyncReceived offsetNs pathDelayNs dPtp s) := by
  unfold execPtpSyncReceived; (try dsimp only); repeat' (first | with_reducible refine keepsOut_next ?_ | with_reducible assumption | with_reducible apply setPtp_kept | simp only [keeps_mk, keeps_fold] | split | dsimp only | with_reducible exact keepsOut_fault)

theorem execPtpSyncTimeout_kept (s : State) (hh : Keeps ref s) : KeepsOut ref (execPtpSyncTimeout s) := by
  unfold execPtpSyncTimeout; (try dsimp only); repeat' (first | with_reducible refine keepsOut_next ?_ | with_reducible assumption | with_reducible apply setPtp_kept | simp only [keeps_mk, keeps_fold] | split | dsimp only | with_reducible exact keepsOut_fault)

theorem ptpBoundary_kept (s : State) (hh : Keeps ref s) : Keeps ref (ptpBoundary s) := by
  unfold ptpBoundary; (try dsimp only); repeat' (first | with_reducible assumption | with_reducible apply settlePtp_kept | simp only [keeps_mk, keeps_fold] | split | dsimp only)

theorem sendPtp_kept (body : List Byte) (s : State) (hh : Keeps ref s) : Keeps ref (sendPtp body s) := by
  unfold sendPtp; (try dsimp only); repeat' (first | with_reducible assumption | with_reducible exact keeps_raise | with_reducible apply sendHost_kept | with_reducible apply raise_kept | with_reducible apply sendRing_kept | dsimp only)

theorem execAnnounceSend_kept (s : State) (hh : Keeps ref s) : KeepsOut ref (execAnnounceSend s) := by
  unfold execAnnounceSend; (try dsimp only); repeat' (first | with_reducible refine keepsOut_next ?_ | with_reducible assumption | with_reducible apply settlePtp_kept | with_reducible apply sendPtp_kept | simp only [keeps_mk, keeps_fold] | split | dsimp only | with_reducible exact keepsOut_fault)

theorem execPdelaySend_kept (port : Nat) (delayNs : Nat) (s : State) (hh : Keeps ref s) : KeepsOut ref (execPdelaySend port delayNs s) := by
  unfold execPdelaySend; (try dsimp only); repeat' (first | with_reducible refine keepsOut_next ?_ | with_reducible assumption | with_reducible exact keeps_raise | with_reducible apply enqueueFrame_kept | with_reducible apply raise_kept | with_reducible apply State_setPort_kept | simp only [keeps_mk, keeps_fold] | split | dsimp only | with_reducible exact keepsOut_fault)

theorem execSupervisionSend_kept (s : State) (hh : Keeps ref s) : KeepsOut ref (execSupervisionSend s) := by
  unfold execSupervisionSend; (try dsimp only); repeat' (first | with_reducible refine keepsOut_next ?_ | with_reducible assumption | with_reducible exact keeps_raise | with_reducible apply sendRing_kept | with_reducible apply raise_kept | simp only [keeps_mk, keeps_fold] | split | dsimp only | with_reducible exact keepsOut_fault)

theorem execSupervisionReturnTimeout_kept (port : Nat) (s : State) (hh : Keeps ref s) : KeepsOut ref (execSupervisionReturnTimeout port s) := by
  unfold execSupervisionReturnTimeout; (try dsimp only); repeat' (first | with_reducible refine keepsOut_next ?_ | with_reducible assumption | with_reducible apply openRing_kept | simp only [keeps_mk, keeps_fold] | split | dsimp only | with_reducible exact keepsOut_fault)

theorem supReturned_kept (p : Nat) (f : EthFrame) (s : State) (hh : Keeps ref s) : Keeps ref (supReturned p f s) := by
  unfold supReturned; (try dsimp only); repeat' (first | with_reducible assumption | with_reducible apply closeRing_kept | simp only [keeps_mk, keeps_fold] | split | dsimp only)

theorem noteNode_kept (p : Nat) (mac : Nat) (proxy : Bool) (s : State) (hh : Keeps ref s) : Keeps ref (noteNode p mac proxy s) := by
  unfold noteNode; (try dsimp only); repeat' (first | with_reducible assumption | simp only [keeps_mk, keeps_fold] | split | dsimp only)

theorem noteTlvs_kept (p : Nat) (x1 : Nat) (x2 : List Byte) (x3 : State) (hh : Keeps ref x3) : Keeps ref (noteTlvs p x1 x2 x3) := by
  induction x1 generalizing x2 x3 with
  | zero => unfold noteTlvs; exact hh
  | succ _ ih => unfold noteTlvs; (try dsimp only); (repeat' (first | with_reducible apply ih | first | with_reducible assumption | with_reducible exact keeps_raise | with_reducible apply noteNode_kept | with_reducible apply keeps_raiser | with_reducible apply keeps_body | with_reducible refine keeps_foldl _ _ _ ?_ (fun _ _ _ => ?_) | with_reducible refine keeps_foldl2 _ _ _ ?_ (fun _ _ _ => ?_) | with_reducible refine keeps_body_intro (fun _ _ _ => ?_) | simp only [keeps_mk, keeps_fold] | with_reducible apply keepsCore_writeBytes | split | dsimp only))

theorem hearSupervision_kept (p : Nat) (f : EthFrame) (s : State) (hh : Keeps ref s) : Keeps ref (hearSupervision p f s) := by
  unfold hearSupervision; (try dsimp only); repeat' (first | with_reducible assumption | with_reducible apply noteTlvs_kept | split | dsimp only)

theorem execNodeEntryExpiry_kept (mac : Nat) (s : State) (hh : Keeps ref s) : KeepsOut ref (execNodeEntryExpiry mac s) := by
  unfold execNodeEntryExpiry; (try dsimp only); repeat' (first | with_reducible refine keepsOut_next ?_ | with_reducible assumption | with_reducible exact keeps_raise | with_reducible apply keeps_raiser | with_reducible apply keeps_body | with_reducible refine keeps_foldl _ _ _ ?_ (fun _ _ _ => ?_) | with_reducible refine keeps_foldl2 _ _ _ ?_ (fun _ _ _ => ?_) | with_reducible refine keeps_body_intro (fun _ _ _ => ?_) | simp only [keeps_mk, keeps_fold] | with_reducible apply keepsCore_writeBytes | split | dsimp only | with_reducible exact keepsOut_fault)

theorem execProxyEntryExpiry_kept (mac : Nat) (s : State) (hh : Keeps ref s) : KeepsOut ref (execProxyEntryExpiry mac s) := keepsOut_next (keepsCore_resize hh (fun hs => { hs with proxies := Nat.le_trans (List.length_filter_le _ _) hs.proxies }))

theorem freeDuplicates_kept (s : State) (hh : Keeps ref s) : Keeps ref (freeDuplicates s) := keepsCore_resize hh (fun hs => { hs with duplicates := Nat.le_trans (List.length_filter_le _ _) hs.duplicates })

theorem keepDuplicate_kept (d : Duplicate) (s : State) (hh : Keeps ref s) : Keeps ref (keepDuplicate d s) := by
  have step : ∀ r : Ring, (ref.sized → r.duplicates.length ≤ 4096) → r.proxies = s.ring.proxies → Keeps ref { s with ring := r } := fun r h1 h2 =>
    ⟨hh.1, hh.2.1, fun z => { (hh.2.2 z) with duplicates := h1 z, proxies := by rw [h2]; exact (hh.2.2 z).proxies }⟩
  unfold keepDuplicate
  dsimp only
  split
  · split
    · refine step _ (fun z => ?_) rfl; exact Nat.le_trans (List.length_filter_le _ _) (hh.2.2 z).duplicates
    · refine step _ (fun z => ?_) rfl; rw [List.length_map]; exact (hh.2.2 z).duplicates
  · split
    · refine step _ (fun z => ?_) rfl; rw [List.length_append]; simp; omega
    · have h3 : ref.sized → (s.ring.duplicates.drop 1 ++ [d]).length ≤ 4096 := fun z => by have := (hh.2.2 z).duplicates; rw [List.length_append]; simp; omega
      (repeat' split) <;> first | exact raise_kept _ _ _ (step _ h3 rfl) | exact step _ h3 rfl

theorem execDuplicateEntryExpiry_kept (src : Nat) (seq : Nat) (s : State) (hh : Keeps ref s) : KeepsOut ref (execDuplicateEntryExpiry src seq s) := keepsOut_next (keepsCore_resize hh (fun hs => { hs with duplicates := Nat.le_trans (List.length_filter_le _ _) hs.duplicates }))

theorem deliver_kept (p : Nat) (f : EthFrame) (s : State) (hh : Keeps ref s) : Keeps ref (deliver p f s) := by
  unfold deliver; (try dsimp only); repeat' (first | with_reducible assumption | with_reducible apply State_countPort_kept | with_reducible apply hearAnnounce_kept | simp only [keeps_mk, keeps_fold] | split | dsimp only)

theorem toHost_kept (f : EthFrame) (s : State) (hh : Keeps ref s) : Keeps ref (toHost f s) := by
  unfold toHost; (try dsimp only); repeat' (first | with_reducible assumption | with_reducible apply forward_kept | split | dsimp only)

theorem ringFrame_kept (p : Nat) (vid : Nat) (pcp : Nat) (seq : Nat) (f : EthFrame) (s : State) (hh : Keeps ref s) : Keeps ref (ringFrame p vid pcp seq f s) := by
  unfold ringFrame; (try dsimp only); repeat' (first | with_reducible assumption | with_reducible apply freeDuplicates_kept | with_reducible apply keepDuplicate_kept | with_reducible apply State_countPort_kept | with_reducible apply deliver_kept | with_reducible apply hearSupervision_kept | with_reducible apply forward_kept | with_reducible apply toHost_kept | split | dsimp only)

theorem fromRing_kept (p : Nat) (f : EthFrame) (s : State) (hh : Keeps ref s) : Keeps ref (fromRing p f s) := by
  unfold fromRing; (try dsimp only); repeat' (first | with_reducible assumption | with_reducible apply supReturned_kept | with_reducible apply State_countPort_kept | with_reducible apply ringFrame_kept | split | dsimp only)

theorem learnProxy_kept (mac : Nat) (vid : Nat) (s : State) (hh : Keeps ref s) : Keeps ref (learnProxy mac vid s).2 := by
  have step : ∀ r : Ring, r.duplicates = s.ring.duplicates → (ref.sized → r.proxies.length ≤ 16) → Keeps ref { s with ring := r } := fun r h1 h2 =>
    ⟨hh.1, hh.2.1, fun z => { (hh.2.2 z) with duplicates := by rw [h1]; exact (hh.2.2 z).duplicates, proxies := h2 z }⟩
  have hd := fun z => (hh.2.2 z).proxies
  unfold learnProxy
  dsimp only
  split
  · exact step _ rfl (by simpa using hd)
  · split
    · exact step _ rfl (fun _ => by simp; omega)
    · split
      · exact step _ rfl hd
      · exact raise_kept _ _ _ (step _ rfl hd)
theorem learnProxy_eq (mac vid : Nat) (s : State) {q t} (he : learnProxy mac vid s = (q, t)) (hh : Keeps ref s) : Keeps ref t := by
  have := learnProxy_kept mac vid s hh
  rw [he] at this; exact this

theorem fromHost_kept (f : EthFrame) (s : State) (hh : Keeps ref s) : Keeps ref (fromHost f s) := by
  unfold fromHost; (try dsimp only); repeat' (first | with_reducible assumption | with_reducible apply learnProxy_kept | with_reducible apply deliver_kept | with_reducible apply State_countPort_kept | with_reducible apply forward_kept | split | refine learnProxy_eq _ _ _ (by with_reducible assumption) ?_ | dsimp only)

theorem badFcs_kept (p : Nat) (f : EthFrame) (s : State) (hh : Keeps ref s) : Keeps ref (badFcs p f s) := by
  unfold badFcs; (try dsimp only); repeat' (first | with_reducible assumption | with_reducible apply State_countPort_kept | with_reducible refine keeps_foldl _ _ _ ?_ (fun _ _ _ => ?_) | with_reducible refine keeps_foldl2 _ _ _ ?_ (fun _ _ _ => ?_) | split | dsimp only)

theorem execFrameReceived_kept (port : Nat) (frame : EthFrame) (fcsOk : Bool) (s : State) (hh : Keeps ref s) : KeepsOut ref (execFrameReceived port frame fcsOk s) := by
  unfold execFrameReceived; (try dsimp only); repeat' (first | with_reducible refine keepsOut_next ?_ | with_reducible assumption | with_reducible apply State_countPort_kept | with_reducible apply badFcs_kept | with_reducible apply fromHost_kept | with_reducible apply fromRing_kept | split | dsimp only | with_reducible exact keepsOut_fault)

theorem crossCheck_kept (s : State) (hh : Keeps ref s) : Keeps ref (crossCheck s) := by
  unfold crossCheck; (try dsimp only); repeat' (first | with_reducible assumption | with_reducible exact keeps_raise | with_reducible apply raise_kept | simp only [keeps_mk, keeps_fold] | split | dsimp only)

theorem sendSync_kept (s : State) (hh : Keeps ref s) : Keeps ref (sendSync s) := by
  unfold sendSync; (try dsimp only); repeat' (first | with_reducible assumption | with_reducible apply sendPtp_kept | simp only [keeps_mk, keeps_fold] | split | dsimp only)

theorem execCycleMarkSend_kept (s : State) (hh : Keeps ref s) : KeepsOut ref (execCycleMarkSend s) := by
  unfold execCycleMarkSend; (try dsimp only); repeat' (first | with_reducible refine keepsOut_next ?_ | with_reducible assumption | with_reducible exact keeps_raise | with_reducible apply State_atAngle_kept | with_reducible apply sendGroup_kept | with_reducible apply raise_kept | with_reducible apply crossCheck_kept | with_reducible apply sendSync_kept | split | dsimp only | with_reducible exact keepsOut_fault)

theorem execRingInfo_kept (mbx : Nat) (s : State) (hh : Keeps ref s) : KeepsOut ref (execRingInfo mbx s) := by
  unfold execRingInfo; (try dsimp only); repeat' (first | with_reducible refine keepsOut_next ?_ | with_reducible assumption | with_reducible apply serveRead_kept | dsimp only | with_reducible exact keepsOut_fault)

theorem execRingPort_kept (mbx : Nat) (s : State) (hh : Keeps ref s) : KeepsOut ref (execRingPort mbx s) := by
  unfold execRingPort; (try dsimp only); repeat' (first | with_reducible refine keepsOut_next ?_ | with_reducible assumption | with_reducible apply serveRead_kept | split | dsimp only | with_reducible exact keepsOut_fault)

theorem clearPort_kept (s : State) (p : Nat) (hh : Keeps ref s) : Keeps ref (clearPort s p) := by
  unfold clearPort; (try dsimp only); repeat' (first | with_reducible assumption | with_reducible apply State_setPort_kept | dsimp only)

theorem execRingPortClear_kept (mbx : Nat) (s : State) (hh : Keeps ref s) : KeepsOut ref (execRingPortClear mbx s) := by
  unfold execRingPortClear; (try dsimp only); repeat' (first | with_reducible refine keepsOut_next ?_ | with_reducible assumption | with_reducible apply serve_kept | with_reducible apply clearPort_kept | with_reducible refine keeps_foldl _ _ _ ?_ (fun _ _ _ => ?_) | with_reducible refine keeps_foldl2 _ _ _ ?_ (fun _ _ _ => ?_) | with_reducible refine keeps_body_intro (fun _ _ _ => ?_) | split | dsimp only | with_reducible exact keepsOut_fault)

theorem execRingNodes_kept (mbx : Nat) (s : State) (hh : Keeps ref s) : KeepsOut ref (execRingNodes mbx s) := by
  unfold execRingNodes; (try dsimp only); repeat' (first | with_reducible refine keepsOut_next ?_ | with_reducible assumption | with_reducible apply serveRead_kept | split | dsimp only | with_reducible exact keepsOut_fault)

theorem execRingProxy_kept (mbx : Nat) (s : State) (hh : Keeps ref s) : KeepsOut ref (execRingProxy mbx s) := by
  unfold execRingProxy; (try dsimp only); repeat' (first | with_reducible refine keepsOut_next ?_ | with_reducible assumption | with_reducible apply serveRead_kept | dsimp only | with_reducible exact keepsOut_fault)

theorem execRingPtp_kept (mbx : Nat) (s : State) (hh : Keeps ref s) : KeepsOut ref (execRingPtp mbx s) := by
  unfold execRingPtp; (try dsimp only); repeat' (first | with_reducible refine keepsOut_next ?_ | with_reducible assumption | with_reducible apply serveRead_kept | dsimp only | with_reducible exact keepsOut_fault)

theorem execRingGates_kept (mbx : Nat) (s : State) (hh : Keeps ref s) : KeepsOut ref (execRingGates mbx s) := by
  unfold execRingGates; (try dsimp only); repeat' (first | with_reducible refine keepsOut_next ?_ | with_reducible assumption | with_reducible apply serveRead_kept | split | dsimp only | with_reducible exact keepsOut_fault)

theorem execRingRequesters_kept (mbx : Nat) (s : State) (hh : Keeps ref s) : KeepsOut ref (execRingRequesters mbx s) := by
  unfold execRingRequesters; (try dsimp only); repeat' (first | with_reducible refine keepsOut_next ?_ | with_reducible assumption | with_reducible apply serveRead_kept | dsimp only | with_reducible exact keepsOut_fault)

theorem shiftRods_kept (d : Int) (s : State) (hh : Keeps ref s) : Keeps ref (shiftRods d s) := by
  refine keepsCore_resize hh (fun hs => { hs with duplicates := ?_ })
  show (s.ring.duplicates.map _).length ≤ 4096
  rw [List.length_map]; exact hs.duplicates

theorem skipJumped_kept (first : Nat) (last : Nat) (s : State) (e : Nat × Bead) (hh : Keeps ref s) : Keeps ref (skipJumped first last s e) := by
  unfold skipJumped; (try dsimp only); repeat' (first | with_reducible assumption | with_reducible apply skipOccs_kept | with_reducible apply raiseSkipped_kept | split | dsimp only)

theorem rearmJumped_kept (expected : Nat) (last : Nat) (s : State) (e : Nat × Calendar) (hh : Keeps ref s) : Keeps ref (rearmJumped expected last s e) := by
  unfold rearmJumped; (try dsimp only); repeat' (first | with_reducible assumption | with_reducible apply State_setCalendar_kept | with_reducible apply armIndex_kept | split | dsimp only)

theorem stepRods_kept (expected : Nat) (s : State) (hh : Keeps ref s) : Keeps ref (stepRods expected s) := by
  unfold stepRods; (try dsimp only); repeat' (first | with_reducible assumption | with_reducible apply shiftRods_kept | with_reducible apply skipJumped_kept | with_reducible apply rearmJumped_kept | with_reducible refine keeps_foldl _ _ _ ?_ (fun _ _ _ => ?_) | with_reducible refine keeps_foldl2 _ _ _ ?_ (fun _ _ _ => ?_) | split | dsimp only)

theorem dropReplaced_kept (loop : Nat → Bool) (bead : Nat → Bool) (s : State) (hh : Keeps ref s) : Keeps ref (dropReplaced loop bead s) := by
  unfold dropReplaced; (try dsimp only); repeat' (first | with_reducible assumption | with_reducible apply dropChain_kept | with_reducible refine keeps_foldl _ _ _ ?_ (fun _ _ _ => ?_) | with_reducible refine keeps_foldl2 _ _ _ ?_ (fun _ _ _ => ?_) | split | dsimp only)

theorem settleLoop_kept (old : Cfg) (was : Nat → Bool) (s : State) (l : Nat) (hh : Keeps ref s) : Keeps ref (settleLoop old was s l) := by
  unfold settleLoop; (try dsimp only); repeat' (first | with_reducible assumption | with_reducible apply State_setLoop_kept | with_reducible apply setPeriod_kept | with_reducible apply setLoopMode_kept | split | dsimp only)

theorem settleChannel_kept (old : Cfg) (s : State) (n : Nat) (hh : Keeps ref s) : Keeps ref (settleChannel old s n) := by
  unfold settleChannel; (try dsimp only); repeat' (first | with_reducible assumption | with_reducible apply startChannel_kept | split | dsimp only)

theorem settleBlock_kept (old : Cfg) (fresh : FMap BlockState) (s : State) (b : Nat) (hh : Keeps ref s) : Keeps ref (settleBlock old fresh s b) := by
  unfold settleBlock; (try dsimp only); repeat' (first | with_reducible assumption | simp only [keeps_mk, keeps_fold] | split | dsimp only)

theorem configurationBoundary_kept (s : State) (hc : ¬ref.cfgFixed) (hh : Keeps ref s) : Keeps ref (configurationBoundary s) := by
  unfold configurationBoundary; (try dsimp only); repeat' (first | with_reducible assumption | with_reducible apply settleTimebase_kept | with_reducible apply applyStaged_kept | with_reducible apply applyNextBase_kept | with_reducible apply dropReplaced_kept | with_reducible apply setLoopMode_kept | with_reducible apply settleLoop_kept | with_reducible apply settleChannel_kept | with_reducible apply settleBlock_kept | with_reducible refine keeps_foldl _ _ _ ?_ (fun _ _ _ => ?_) | with_reducible refine keeps_foldl2 _ _ _ ?_ (fun _ _ _ => ?_) | simp only [keeps_mk, keeps_fold] | split | dsimp only)

theorem slideUnchecked_kept (s : State) (o : Occ) (hh : Keeps ref s) : Keeps ref (slideUnchecked s o) := by
  unfold slideUnchecked; (try dsimp only); repeat' (first | with_reducible assumption | with_reducible apply slideOut_kept | split | dsimp only)

theorem tableBoundary_kept (old : Cfg) (s : State) (hh : Keeps ref s) : Keeps ref (tableBoundary old s) := by
  unfold tableBoundary; (try dsimp only); repeat' (first | with_reducible assumption | with_reducible apply raiseSkipped_kept | with_reducible apply enterCalendar_kept | with_reducible refine keeps_foldl _ _ _ ?_ (fun _ _ _ => ?_) | with_reducible refine keeps_foldl2 _ _ _ ?_ (fun _ _ _ => ?_) | simp only [keeps_mk, keeps_fold] | dsimp only)

theorem abacusBoundary_kept (old : Cfg) (s : State) (hh : Keeps ref s) : Keeps ref (abacusBoundary old s) := by
  unfold abacusBoundary; (try dsimp only); repeat' (first | with_reducible assumption | with_reducible apply settleAll_kept | with_reducible apply slideUnchecked_kept | with_reducible apply tableBoundary_kept | with_reducible refine keeps_foldl _ _ _ ?_ (fun _ _ _ => ?_) | with_reducible refine keeps_foldl2 _ _ _ ?_ (fun _ _ _ => ?_) | simp only [keeps_mk, keeps_fold] | dsimp only)

theorem enableBoundary_kept (s : State) (l : Nat) (hh : Keeps ref s) : Keeps ref (enableBoundary s l) := by
  unfold enableBoundary; (try dsimp only); repeat' (first | with_reducible assumption | with_reducible apply State_setLoop_kept | with_reducible apply setLoopMode_kept | split | dsimp only)

theorem engineBoundary_kept (s : State) (hh : Keeps ref s) : Keeps ref (engineBoundary s) := by
  unfold engineBoundary; (try dsimp only); repeat' (first | with_reducible assumption | with_reducible apply enableBoundary_kept | with_reducible refine keeps_foldl _ _ _ ?_ (fun _ _ _ => ?_) | with_reducible refine keeps_foldl2 _ _ _ ?_ (fun _ _ _ => ?_) | simp only [keeps_mk, keeps_fold] | dsimp only)

theorem fallowBoundary_kept (reason : Nat) (s : State) (hh : Keeps ref s) : Keeps ref (fallowBoundary reason s) := by
  unfold fallowBoundary; (try dsimp only); repeat' (first | with_reducible assumption | with_reducible apply enterFallow_kept | with_reducible apply closeAttempt_kept | split | dsimp only)

theorem requestsBoundary_kept (s : State) (hh : Keeps ref s) : Keeps ref (requestsBoundary s) := by
  unfold requestsBoundary; (try dsimp only); repeat' (first | with_reducible assumption | with_reducible apply fallowBoundary_kept | with_reducible apply enterBoot_kept | with_reducible apply State_setLedger_kept | with_reducible apply beginWarm_kept | simp only [keeps_mk, keeps_fold] | split | dsimp only)

theorem boundarySequence_kept (rod : Nat) (begun : Bool) (closing : Bool) (ticks : Nat) (vref : Nat) (bandgap : Nat) (s : State) (hc : ¬ref.cfgFixed) (hh : Keeps ref s) : Keeps ref (boundarySequence rod begun closing ticks vref bandgap s) := by
  unfold boundarySequence; (try dsimp only); repeat' (first | with_reducible assumption | with_reducible apply viewBoundary_kept | with_reducible apply ptpBoundary_kept | with_reducible apply gatesBoundary_kept | with_reducible apply applyFirmware_kept | with_reducible apply configurationBoundary_kept | with_reducible apply closeMeters_kept | with_reducible apply dwellRod_kept | with_reducible apply checkVref_kept | with_reducible apply closeAccounts_kept | with_reducible apply republish_kept | with_reducible apply engineBoundary_kept | with_reducible apply abacusBoundary_kept | with_reducible apply loanBoundary_kept | with_reducible apply leaseBoundary_kept | split | dsimp only)

theorem execRodBoundary_kept (ticks : Nat) (vrefMv : Nat) (bandgapMv : Nat) (s : State) (hc : ¬ref.cfgFixed) (hh : Keeps ref s) : KeepsOut ref (execRodBoundary ticks vrefMv bandgapMv s) := by
  unfold execRodBoundary; (try dsimp only); repeat' (first | with_reducible refine keepsOut_next ?_ | with_reducible assumption | with_reducible apply acquireTurn_kept | with_reducible apply phaseBoundary_kept | with_reducible apply stepRods_kept | with_reducible apply boundarySequence_kept | with_reducible apply coreBoundary_kept | with_reducible apply requestsBoundary_kept | with_reducible apply substitutionBoundary_kept | simp only [keeps_mk, keeps_fold] | split | dsimp only | with_reducible exact keepsOut_fault)

theorem measureRail_kept (s : State) (e : Nat × Nat) (hh : Keeps ref s) : Keeps ref (measureRail s e) := by
  unfold measureRail; (try dsimp only); repeat' (first | with_reducible assumption | with_reducible exact keeps_raise | with_reducible apply raise_kept | simp only [keeps_mk, keeps_fold] | split | dsimp only)

theorem measureThermal_kept (t : Int) (s : State) (hh : Keeps ref s) : Keeps ref (measureThermal t s) := by
  unfold measureThermal; (try dsimp only); repeat' (first | with_reducible assumption | with_reducible exact keeps_raise | with_reducible apply raise_kept | simp only [keeps_mk, keeps_fold] | split | dsimp only)

theorem execRailMonitor_kept (millivolts : List Nat) (temperature : Int) (s : State) (hh : Keeps ref s) : KeepsOut ref (execRailMonitor millivolts temperature s) := by
  unfold execRailMonitor; (try dsimp only); repeat' (first | with_reducible refine keepsOut_next ?_ | with_reducible assumption | with_reducible apply measureThermal_kept | with_reducible apply measureRail_kept | with_reducible refine keeps_foldl _ _ _ ?_ (fun _ _ _ => ?_) | with_reducible refine keeps_foldl2 _ _ _ ?_ (fun _ _ _ => ?_) | split | dsimp only | with_reducible exact keepsOut_fault)

theorem checkOutput_kept (levels : BitVec 40) (s : State) (n : Nat) (hh : Keeps ref s) : Keeps ref (checkOutput levels s n) := by
  unfold checkOutput; (try dsimp only); repeat' (first | with_reducible assumption | with_reducible exact keeps_raise | with_reducible apply raise_kept | with_reducible apply beginOutage_kept | simp only [keeps_mk, keeps_fold] | split | dsimp only)

theorem endReadback_kept (s : State) (hh : Keeps ref s) : Keeps ref (endReadback s) := by
  unfold endReadback; (try dsimp only); repeat' (first | with_reducible assumption | with_reducible apply endCauses_kept | split | dsimp only)

theorem execReadbackCheck_kept (levels : BitVec 40) (s : State) (hh : Keeps ref s) : KeepsOut ref (execReadbackCheck levels s) := by
  unfold execReadbackCheck; (try dsimp only); repeat' (first | with_reducible refine keepsOut_next ?_ | with_reducible assumption | with_reducible apply endReadback_kept | with_reducible apply checkOutput_kept | with_reducible refine keeps_foldl _ _ _ ?_ (fun _ _ _ => ?_) | with_reducible refine keeps_foldl2 _ _ _ ?_ (fun _ _ _ => ?_) | split | dsimp only | with_reducible exact keepsOut_fault)

theorem execPinOutputs_kept (mbx : Nat) (s : State) (hh : Keeps ref s) : KeepsOut ref (execPinOutputs mbx s) := by
  unfold execPinOutputs; (try dsimp only); repeat' (first | with_reducible refine keepsOut_next ?_ | with_reducible assumption | with_reducible apply serveRead_kept | dsimp only | with_reducible exact keepsOut_fault)

theorem storeHost_kept (n : Nat) (op : Nat) (s : State) (hh : Keeps ref s) : Keeps ref (storeHost n op s) := by
  unfold storeHost; (try dsimp only); repeat' (first | with_reducible assumption | simp only [keeps_mk, keeps_fold] | split | dsimp only)

theorem execPinWrite_kept (mbx : Nat) (s : State) (hh : Keeps ref s) : KeepsOut ref (execPinWrite mbx s) := by
  unfold execPinWrite; (try dsimp only); repeat' (first | with_reducible refine keepsOut_next ?_ | with_reducible assumption | with_reducible apply serve_kept | with_reducible apply storeHost_kept | with_reducible refine keeps_body_intro (fun _ _ _ => ?_) | split | dsimp only | with_reducible exact keepsOut_fault)

theorem execPinClaim_kept (mbx : Nat) (s : State) (hh : Keeps ref s) : KeepsOut ref (execPinClaim mbx s) := by
  unfold execPinClaim; (try dsimp only); repeat' (first | with_reducible refine keepsOut_next ?_ | with_reducible assumption | with_reducible apply serveRead_kept | split | dsimp only | with_reducible exact keepsOut_fault)

theorem execPinBalls_kept (mbx : Nat) (s : State) (hh : Keeps ref s) : KeepsOut ref (execPinBalls mbx s) := by
  unfold execPinBalls; (try dsimp only); repeat' (first | with_reducible refine keepsOut_next ?_ | with_reducible assumption | with_reducible apply serve_kept | with_reducible refine keeps_body_intro (fun _ _ _ => ?_) | simp only [keeps_mk, keeps_fold] | split | dsimp only | with_reducible exact keepsOut_fault)

theorem execPinSupply_kept (mbx : Nat) (s : State) (hh : Keeps ref s) : KeepsOut ref (execPinSupply mbx s) := by
  unfold execPinSupply; (try dsimp only); repeat' (first | with_reducible refine keepsOut_next ?_ | with_reducible assumption | with_reducible apply serveRead_kept | dsimp only | with_reducible exact keepsOut_fault)

theorem State_setRecorder_kept (s : State) (x : Recorder) (hx : ref.sized → x.intake.length ≤ 64 ∧ x.kept.length ≤ 1024) (hh : Keeps ref s) : Keeps ref (s.setRecorder x) :=
  ⟨hh.1, hh.2.1, fun z => { (hh.2.2 z) with intake := (hx z).1, kept := (hx z).2 }⟩

theorem noteOverflow_kept (s : State) (hh : Keeps ref s) : Keeps ref (noteOverflow s) := by
  unfold noteOverflow; (try dsimp only)
  split
  · exact hh
  · refine notifyAll_kept _ _ _ keeps_raise (State_setRecorder_kept _ _ (fun z => ⟨?_, (hh.2.2 z).kept⟩) hh)
    simp; omega

theorem execRecordWrite_kept (s : State) (hh : Keeps ref s) : KeepsOut ref (execRecordWrite s) := by
  unfold execRecordWrite; (try dsimp only)
  split
  · exact keepsOut_next hh
  · rename_i e es he
    refine keepsOut_next (noteOverflow_kept _ (State_setRecorder_kept _ _ (fun z => ⟨?_, ?_⟩) hh))
    · have := (hh.2.2 z).intake
      rw [he] at this; simp at this
      unfold writeRecord; dsimp only; omega
    · have := (hh.2.2 z).kept
      unfold writeRecord; dsimp only
      have h2 : (if (decide (e.code = 0x1202)) = true then [] else s.recorder.kept).length ≤ 1024 := by
        split
        · exact Nat.zero_le _
        · exact this
      revert h2
      generalize (if (decide (e.code = 0x1202)) = true then [] else s.recorder.kept) = k
      intro h2
      split
      · rename_i hk
        rw [List.length_append]; simp; omega
      · exact h2

theorem execLogInfo_kept (mbx : Nat) (s : State) (hh : Keeps ref s) : KeepsOut ref (execLogInfo mbx s) := by
  unfold execLogInfo; (try dsimp only); repeat' (first | with_reducible refine keepsOut_next ?_ | with_reducible assumption | with_reducible apply serveRead_kept | dsimp only | with_reducible exact keepsOut_fault)

theorem execLogRead_kept (mbx : Nat) (s : State) (hh : Keeps ref s) : KeepsOut ref (execLogRead mbx s) := by
  unfold execLogRead; (try dsimp only); repeat' (first | with_reducible refine keepsOut_next ?_ | with_reducible assumption | with_reducible apply serveRead_kept | split | dsimp only | with_reducible exact keepsOut_fault)

theorem execLogReadKept_kept (mbx : Nat) (s : State) (hh : Keeps ref s) : KeepsOut ref (execLogReadKept mbx s) := by
  unfold execLogReadKept; (try dsimp only); repeat' (first | with_reducible refine keepsOut_next ?_ | with_reducible assumption | with_reducible apply serveRead_kept | split | dsimp only | with_reducible exact keepsOut_fault)

theorem execLogRearm_kept (mbx : Nat) (s : State) (hh : Keeps ref s) : KeepsOut ref (execLogRearm mbx s) := by
  unfold execLogRearm; (try dsimp only); repeat' (first | with_reducible refine keepsOut_next ?_ | with_reducible assumption | with_reducible exact keeps_raise | with_reducible apply serve_kept | with_reducible apply raise_kept | with_reducible refine keeps_body_intro (fun _ _ _ => ?_) | split | dsimp only | with_reducible exact keepsOut_fault)

theorem execLogMark_kept (mbx : Nat) (s : State) (hh : Keeps ref s) : KeepsOut ref (execLogMark mbx s) := by
  unfold execLogMark; (try dsimp only); repeat' (first | with_reducible refine keepsOut_next ?_ | with_reducible assumption | with_reducible exact keeps_raise | with_reducible apply serve_kept | with_reducible apply raise_kept | with_reducible refine keeps_body_intro (fun _ _ _ => ?_) | split | dsimp only | with_reducible exact keepsOut_fault)

theorem execLogStats_kept (mbx : Nat) (s : State) (hh : Keeps ref s) : KeepsOut ref (execLogStats mbx s) := by
  unfold execLogStats; (try dsimp only); repeat' (first | with_reducible refine keepsOut_next ?_ | with_reducible assumption | with_reducible apply serveRead_kept | dsimp only | with_reducible exact keepsOut_fault)

theorem execLogStatsClear_kept (mbx : Nat) (s : State) (hh : Keeps ref s) : KeepsOut ref (execLogStatsClear mbx s) := by
  refine keepsOut_next (serve_kept _ _ _ _ _ _ (keeps_body_intro (fun c s h => ?_)) hh)
  exact State_setRecorder_kept _ _ (fun z => ⟨(h.2.2 z).intake, (h.2.2 z).kept⟩) h

theorem execSnapInEdge_kept (s : State) (hh : Keeps ref s) : KeepsOut ref (execSnapInEdge s) := by
  unfold execSnapInEdge; (try dsimp only); repeat' (first | with_reducible refine keepsOut_next ?_ | with_reducible assumption | with_reducible exact keeps_raise | with_reducible apply ownStrobe_kept | with_reducible apply raise_kept | split | dsimp only | with_reducible exact keepsOut_fault)

theorem execScheduledStrobe_kept (s : State) (hh : Keeps ref s) : KeepsOut ref (execScheduledStrobe s) := by
  unfold execScheduledStrobe; (try dsimp only); repeat' (first | with_reducible refine keepsOut_next ?_ | with_reducible assumption | with_reducible exact keeps_raise | with_reducible apply State_atAngle_kept | with_reducible apply strobe_kept | with_reducible apply raise_kept | simp only [keeps_mk, keeps_fold] | split | dsimp only | with_reducible exact keepsOut_fault)

theorem execSnapshotTriggerFrame_kept (s : State) (hh : Keeps ref s) : KeepsOut ref (execSnapshotTriggerFrame s) := by
  unfold execSnapshotTriggerFrame; (try dsimp only); repeat' (first | with_reducible refine keepsOut_next ?_ | with_reducible assumption | with_reducible exact keeps_raise | with_reducible apply takeDelivered_kept | with_reducible apply strobe_kept | with_reducible apply raise_kept | simp only [keeps_mk, keeps_fold] | split | refine takeDelivered_eq _ _ (by with_reducible assumption) ?_ | dsimp only | with_reducible exact keepsOut_fault)

theorem execSnapshotCopyComplete_kept (bank : Nat) (s : State) (hh : Keeps ref s) : KeepsOut ref (execSnapshotCopyComplete bank s) := by
  unfold execSnapshotCopyComplete; (try dsimp only); repeat' (first | with_reducible refine keepsOut_next ?_ | with_reducible assumption | with_reducible apply State_setBank_kept | split | dsimp only | with_reducible exact keepsOut_fault)

theorem execSnapOutEnd_kept (s : State) (hh : Keeps ref s) : KeepsOut ref (execSnapOutEnd s) := by
  unfold execSnapOutEnd; (try dsimp only); repeat' (first | with_reducible refine keepsOut_next ?_ | with_reducible assumption | with_reducible exact keeps_raise | with_reducible apply keeps_raiser | with_reducible apply keeps_body | with_reducible refine keeps_foldl _ _ _ ?_ (fun _ _ _ => ?_) | with_reducible refine keeps_foldl2 _ _ _ ?_ (fun _ _ _ => ?_) | with_reducible refine keeps_body_intro (fun _ _ _ => ?_) | simp only [keeps_mk, keeps_fold] | with_reducible apply keepsCore_writeBytes | split | dsimp only | with_reducible exact keepsOut_fault)

theorem execSnapInfo_kept (mbx : Nat) (s : State) (hh : Keeps ref s) : KeepsOut ref (execSnapInfo mbx s) := by
  unfold execSnapInfo; (try dsimp only); repeat' (first | with_reducible refine keepsOut_next ?_ | with_reducible assumption | with_reducible apply serveRead_kept | dsimp only | with_reducible exact keepsOut_fault)

theorem execSnapTrigger_kept (mbx : Nat) (s : State) (hh : Keeps ref s) : KeepsOut ref (execSnapTrigger mbx s) := by
  unfold execSnapTrigger; (try dsimp only); repeat' (first | with_reducible refine keepsOut_next ?_ | with_reducible assumption | with_reducible exact keeps_raise | with_reducible apply serve_kept | with_reducible apply strobe_kept | with_reducible apply raise_kept | with_reducible apply sendTrigger_kept | with_reducible refine keeps_body_intro (fun _ _ _ => ?_) | simp only [keeps_mk, keeps_fold] | split | dsimp only | with_reducible exact keepsOut_fault)

theorem execSnapRead_kept (mbx : Nat) (s : State) (hh : Keeps ref s) : KeepsOut ref (execSnapRead mbx s) := by
  unfold execSnapRead; (try dsimp only); repeat' (first | with_reducible refine keepsOut_next ?_ | with_reducible assumption | with_reducible apply serveRead_kept | split | dsimp only | with_reducible exact keepsOut_fault)

theorem execSnapRelease_kept (mbx : Nat) (s : State) (hh : Keeps ref s) : KeepsOut ref (execSnapRelease mbx s) := by
  unfold execSnapRelease; (try dsimp only); repeat' (first | with_reducible refine keepsOut_next ?_ | with_reducible assumption | with_reducible apply serve_kept | with_reducible apply State_setBank_kept | with_reducible refine keeps_foldl _ _ _ ?_ (fun _ _ _ => ?_) | with_reducible refine keeps_foldl2 _ _ _ ?_ (fun _ _ _ => ?_) | with_reducible refine keeps_body_intro (fun _ _ _ => ?_) | split | dsimp only | with_reducible exact keepsOut_fault)

end
end Sys2Proof.Machine
end

