-- ==== Sys2Proof/WellFormed.lean ====
section
/-! DEFINITION. Well-formed commands: every operand that numbers a thing names one that exists, and a verb names a mailbox that takes requests (R39, R46). -/

namespace Sys2Proof

/-- The operands of a command lie in their ranges. -/
def Instr.wf : Instr → Bool
  | .hostWindowWrite head _ => decide (head.instruction < 256) && decide (head.addr < 16777216)
  | .doorbellRing _ => true
  | .responseRelease _ => true
  | .doorbellLostClear _ => true
  | .irqCauseClear _ => true
  | .mailboxRequestFrame => true
  | .mailboxBindingExpiry mbx => decide (1 ≤ mbx) && decide (mbx ≤ 14)
  | .requesterExpiry _ => true
  | .sessionIdleTimeout _ => true
  | .sessionExpiry _ => true
  | .bulkClaimLapse => true
  | .bulkCopyComplete => true
  | .tokenBufferTimeout buffer => decide (buffer ≤ 3)
  | .sysIdentify mbx => decide (mbx ≤ 14)
  | .sysPing mbx => decide (mbx ≤ 14)
  | .sysStatus mbx => decide (mbx ≤ 14)
  | .sysOutageRead mbx => decide (mbx ≤ 14)
  | .sysSubscribe mbx => decide (mbx ≤ 14)
  | .sysBulkClaim mbx => decide (mbx ≤ 14)
  | .sysBulkRelease mbx => decide (mbx ≤ 14)
  | .sysBulkWrite mbx => decide (mbx ≤ 14)
  | .sysBulkCommit mbx => decide (mbx ≤ 14)
  | .sysFwActivate mbx => decide (mbx ≤ 14)
  | .fwVerificationComplete => true
  | .sysWarmRestart mbx => decide (mbx ≤ 14)
  | .sysDeferredStatus mbx => decide (mbx ≤ 14)
  | .sysMbxStats mbx => decide (mbx ≤ 14)
  | .cfgInfo mbx => decide (mbx ≤ 14)
  | .cfgValidate mbx => decide (mbx ≤ 14)
  | .cfgActivate mbx => decide (mbx ≤ 14)
  | .configValidationComplete => true
  | .cfgReport mbx => decide (mbx ≤ 14)
  | .cfgRead mbx => decide (mbx ≤ 14)
  | .cfgSwathLoad mbx => decide (mbx ≤ 14)
  | .cfgSwathSet mbx => decide (mbx ≤ 14)
  | .cfgSwathClear mbx => decide (mbx ≤ 14)
  | .cfgSwathRead mbx => decide (mbx ≤ 14)
  | .cfgSwathDelete mbx => decide (mbx ≤ 14)
  | .rodBoundary _ _ _ => true
  | .firmwarePauseEnd => true
  | .warmRestartEnd => true
  | .zeroCrossing phase stamp16 _ _ => decide (1 ≤ phase) && decide (phase ≤ 3) && decide (stamp16 < 1048576)
  | .referenceCrossingMissing => true
  | .flywheelTimeout => true
  | .acquireTimeout => true
  | .cycleMarkSend => true
  | .cycleMark => true
  | .masterElection => true
  | .countSeed => true
  | .phaseRead mbx => decide (mbx ≤ 14)
  | .phaseInputs mbx => decide (mbx ≤ 14)
  | .phaseSite mbx => decide (mbx ≤ 14)
  | .phaseMeasureOffset mbx => decide (mbx ≤ 14)
  | .measureOffsetComplete => true
  | .beadFire bead actual => decide (bead ≤ 4095) && decide (actual ≤ 65535)
  | .pulseReturn output => decide (output ≤ 39)
  | .provisionalCheck bead => decide (bead ≤ 4095)
  | .calendarArm bead => decide (bead ≤ 4095)
  | .mainPass => true
  | .beadPlace mbx => decide (mbx ≤ 14)
  | .beadRemove mbx => decide (mbx ≤ 14)
  | .beadEnable mbx => decide (mbx ≤ 14)
  | .beadRead mbx => decide (mbx ≤ 14)
  | .beadRod mbx => decide (mbx ≤ 14)
  | .beadStats mbx => decide (mbx ≤ 14)
  | .beadCapacity mbx => decide (mbx ≤ 14)
  | .chainHorizon _ => true
  | .recomputation entry => decide (entry ≤ 127)
  | .carryInfo mbx => decide (mbx ≤ 14)
  | .carryList mbx => decide (mbx ≤ 14)
  | .carryRead mbx => decide (mbx ≤ 14)
  | .carryChain mbx => decide (mbx ≤ 14)
  | .carryStats mbx => decide (mbx ≤ 14)
  | .carryStatsClear mbx => decide (mbx ≤ 14)
  | .carryDrop mbx => decide (mbx ≤ 14)
  | .leaseConfirmDeadline => true
  | .offerPublish => true
  | .borrowReceived => true
  | .grantReceived => true
  | .refuseReceived => true
  | .returnReceived => true
  | .borrowTimeout _ => true
  | .loanRenewalCheck _ => true
  | .heatFallback => true
  | .reckAccounts mbx => decide (mbx ≤ 14)
  | .reckLeaseSet mbx => decide (mbx ≤ 14)
  | .reckLeaseConfirm mbx => decide (mbx ≤ 14)
  | .reckLeaseRefuse mbx => decide (mbx ≤ 14)
  | .reckLeaseRead mbx => decide (mbx ≤ 14)
  | .reckLoans mbx => decide (mbx ≤ 14)
  | .reckLoanReturn mbx => decide (mbx ≤ 14)
  | .reckStats mbx => decide (mbx ≤ 14)
  | .reckStatsClear mbx => decide (mbx ≤ 14)
  | .loopSample slot => decide (slot ≤ 511)
  | .sampleStart => true
  | .sampleComplete processor => decide (processor ≤ 8)
  | .resultApply slot => decide (slot ≤ 511)
  | .awaitGiveUp slot => decide (slot ≤ 511)
  | .loopStatus mbx => decide (mbx ≤ 14)
  | .loopRead mbx => decide (mbx ≤ 14)
  | .loopFlagsClear mbx => decide (mbx ≤ 14)
  | .loopEnable mbx => decide (mbx ≤ 14)
  | .loopManual mbx => decide (mbx ≤ 14)
  | .loopModel mbx => decide (mbx ≤ 14)
  | .loopTraceArm mbx => decide (mbx ≤ 14)
  | .loopTraceStatus mbx => decide (mbx ≤ 14)
  | .loopTraceRead mbx => decide (mbx ≤ 14)
  | .loopStats mbx => decide (mbx ≤ 14)
  | .cutMarkSend => true
  | .commonsCut => true
  | .commonsUpdateFrame => true
  | .cutMark => true
  | .commonsFrameSend => true
  | .refreshQueue => true
  | .commonsInfo mbx => decide (mbx ≤ 14)
  | .commonsRead mbx => decide (mbx ≤ 14)
  | .commonsWrite mbx => decide (mbx ≤ 14)
  | .commonsChips mbx => decide (mbx ≤ 14)
  | .commonsBlocks mbx => decide (mbx ≤ 14)
  | .commonsStats mbx => decide (mbx ≤ 14)
  | .commonsStatsClear mbx => decide (mbx ≤ 14)
  | .frameReceived port _ _ => decide (port ≤ 2)
  | .frameTransmit port => decide (port ≤ 2)
  | .gateTransition port => decide (port ≤ 2)
  | .linkUp port => decide (port ≤ 2)
  | .linkDown port cause => decide (port ≤ 2) && decide (1 ≤ cause) && decide (cause ≤ 3)
  | .serdesIdle port => decide (port ≤ 2)
  | .supervisionSend => true
  | .supervisionReturnTimeout port => decide (port ≤ 2)
  | .duplicateEntryExpiry _ seq => decide (seq ≤ 65535)
  | .nodeEntryExpiry _ => true
  | .proxyEntryExpiry _ => true
  | .pdelaySend port _ => decide (port ≤ 2)
  | .announceSend => true
  | .ptpSyncReceived _ _ _ => true
  | .ptpSyncTimeout => true
  | .ringInfo mbx => decide (mbx ≤ 14)
  | .ringPort mbx => decide (mbx ≤ 14)
  | .ringPortClear mbx => decide (mbx ≤ 14)
  | .ringNodes mbx => decide (mbx ≤ 14)
  | .ringProxy mbx => decide (mbx ≤ 14)
  | .ringPtp mbx => decide (mbx ≤ 14)
  | .ringGates mbx => decide (mbx ≤ 14)
  | .ringRequesters mbx => decide (mbx ≤ 14)
  | .canFrameReceived channel _ _ => decide (channel ≤ 7)
  | .canFrameSent channel _ => decide (channel ≤ 7)
  | .canTransmitError channel => decide (channel ≤ 7)
  | .arbitrationLost channel => decide (channel ≤ 7)
  | .busOffRecovery channel => decide (channel ≤ 7)
  | .referencePeriodStart channel => decide (channel ≤ 7)
  | .referencePending channel => decide (channel ≤ 7)
  | .referenceCancel channel => decide (channel ≤ 7)
  | .spareEngineRotate => true
  | .spareSwitchOver => true
  | .spareIntegrated _ => true
  | .leakInjectionToggle channel _ => decide (channel ≤ 7)
  | .fallowBeacon channel => decide (channel ≤ 7)
  | .fbusStatus mbx => decide (mbx ≤ 14)
  | .fbusStats mbx => decide (mbx ≤ 14)
  | .fbusStatsClear mbx => decide (mbx ≤ 14)
  | .fbusSend mbx => decide (mbx ≤ 14)
  | .fbusReceive mbx => decide (mbx ≤ 14)
  | .fbusRecover mbx => decide (mbx ≤ 14)
  | .fbusSpare mbx => decide (mbx ≤ 14)
  | .fbusInsulation mbx => decide (mbx ≤ 14)
  | .fbusTiming mbx => decide (mbx ≤ 14)
  | .rollCall bus => decide (bus ≤ 7)
  | .cfpAnnounce bus => decide (bus ≤ 7)
  | .cfpAssign bus => decide (bus ≤ 7)
  | .cfpClaim bus => decide (bus ≤ 7)
  | .claimWindowEnd bus => decide (bus ≤ 7)
  | .cfpRsp bus => decide (bus ≤ 7)
  | .cfpRpt bus => decide (bus ≤ 7)
  | .cfpSegment bus => decide (bus ≤ 7)
  | .cfpTimeout bus tag => decide (bus ≤ 7) && decide (tag ≤ 255)
  | .segmentTimeout bus tag => decide (bus ≤ 7) && decide (tag ≤ 255)
  | .transactionSend bus => decide (bus ≤ 7)
  | .cfpNodes mbx => decide (mbx ≤ 14)
  | .cfpRole mbx => decide (mbx ≤ 14)
  | .cfpRoleMove mbx => decide (mbx ≤ 14)
  | .cfpTransact mbx => decide (mbx ≤ 14)
  | .cfpRollcall mbx => decide (mbx ≤ 14)
  | .cfpForget mbx => decide (mbx ≤ 14)
  | .cfpStats mbx => decide (mbx ≤ 14)
  | .cfpStatsClear mbx => decide (mbx ≤ 14)
  | .valveEventStart bank => decide (bank ≤ 4)
  | .valvePeakReached channel _ _ => decide (channel ≤ 39)
  | .valvePeakEnd channel => decide (channel ≤ 39)
  | .valveDropEnd channel => decide (channel ≤ 39)
  | .valveHoldEnd channel _ => decide (channel ≤ 39)
  | .valveDecayEnd channel => decide (channel ≤ 39)
  | .valveOffTimeEnd channel => decide (channel ≤ 39)
  | .bankRecoveryEnd bank => decide (bank ≤ 4)
  | .valveDeferExpiry channel => decide (channel ≤ 39)
  | .dutyInstant channel => decide (channel ≤ 39)
  | .valveOpen channel _ => decide (channel ≤ 39)
  | .valveShort channel _ => decide (channel ≤ 39)
  | .valveOvercurrent channel _ => decide (channel ≤ 39)
  | .valveDecay bank _ => decide (bank ≤ 4)
  | .valveStuck channel _ => decide (channel ≤ 39)
  | .valveBankOvercurrent bank _ => decide (bank ≤ 4)
  | .valveGroundShort bank _ => decide (bank ≤ 4)
  | .valveStatus mbx => decide (mbx ≤ 14)
  | .valveFire mbx => decide (mbx ≤ 14)
  | .valveClear mbx => decide (mbx ≤ 14)
  | .valveProfile mbx => decide (mbx ≤ 14)
  | .valveStats mbx => decide (mbx ≤ 14)
  | .valveStatsClear mbx => decide (mbx ≤ 14)
  | .fanSlewUpdate => true
  | .tachPulse output _ => decide (output ≤ 11)
  | .kickAttemptEnd output => decide (output ≤ 11)
  | .retryWaitEnd output => decide (output ≤ 11)
  | .coolDownEnd output => decide (output ≤ 11)
  | .tachLossTimeout output => decide (output ≤ 11)
  | .hostSilence => true
  | .fanGroupUpdate group => decide (group ≤ 31)
  | .fanStatus mbx => decide (mbx ≤ 14)
  | .fanSet mbx => decide (mbx ≤ 14)
  | .fanZones mbx => decide (mbx ≤ 14)
  | .fanRetry mbx => decide (mbx ≤ 14)
  | .fanStats mbx => decide (mbx ≤ 14)
  | .fanStatsClear mbx => decide (mbx ≤ 14)
  | .encoderUpdate channel _ _ => decide (channel ≤ 11)
  | .indexEvent channel _ => decide (channel ≤ 11)
  | .ssiRead channel _ _ _ => decide (channel ≤ 11)
  | .speedTimeout channel => decide (channel ≤ 11)
  | .positionerEvaluation channel => decide (channel ≤ 11)
  | .moveTimeout channel => decide (channel ≤ 11)
  | .maxRunTimeout channel => decide (channel ≤ 11)
  | .extensionUpdate => true
  | .ventRead mbx => decide (mbx ≤ 14)
  | .ventCompare mbx => decide (mbx ≤ 14)
  | .ventPreset mbx => decide (mbx ≤ 14)
  | .ventSet mbx => decide (mbx ≤ 14)
  | .ventClear mbx => decide (mbx ≤ 14)
  | .ventStats mbx => decide (mbx ≤ 14)
  | .conversionEnd channel _ spares => decide (channel ≤ 23) && decide (spares.length ≤ 2)
  | .excitationCompliance source _ => decide (source ≤ 3)
  | .dwellEnd => true
  | .modulatorReplacement => true
  | .senseRead mbx => decide (mbx ≤ 14)
  | .senseMeter mbx => decide (mbx ≤ 14)
  | .senseWave mbx => decide (mbx ≤ 14)
  | .senseModulators mbx => decide (mbx ≤ 14)
  | .senseSpare mbx => decide (mbx ≤ 14)
  | .senseStats mbx => decide (mbx ≤ 14)
  | .senseStatsClear mbx => decide (mbx ≤ 14)
  | .keyScan _ => true
  | .encoderStep encoder _ => decide (encoder ≤ 3)
  | .longPress key => decide (key ≤ 63)
  | .resetCombination record => decide (record ≤ 1)
  | .panelStatus mbx => decide (mbx ≤ 14)
  | .panelKeys mbx => decide (mbx ≤ 14)
  | .panelEvents mbx => decide (mbx ≤ 14)
  | .panelDisplay mbx => decide (mbx ≤ 14)
  | .panelStats mbx => decide (mbx ≤ 14)
  | .panelStatsClear mbx => decide (mbx ≤ 14)
  | .clockWriteApply => true
  | .trimCompensation _ => true
  | .vbatCheck _ => true
  | .oscillatorStop => true
  | .clockRead mbx => decide (mbx ≤ 14)
  | .clockSet mbx => decide (mbx ≤ 14)
  | .clockConvert mbx => decide (mbx ≤ 14)
  | .clockFlagsClear mbx => decide (mbx ≤ 14)
  | .clockTrim mbx => decide (mbx ≤ 14)
  | .recordWrite => true
  | .snapInEdge => true
  | .scheduledStrobe => true
  | .snapshotTriggerFrame => true
  | .snapshotCopyComplete bank => decide (bank ≤ 3)
  | .snapOutEnd => true
  | .logInfo mbx => decide (mbx ≤ 14)
  | .logRead mbx => decide (mbx ≤ 14)
  | .logReadKept mbx => decide (mbx ≤ 14)
  | .logRearm mbx => decide (mbx ≤ 14)
  | .logMark mbx => decide (mbx ≤ 14)
  | .logStats mbx => decide (mbx ≤ 14)
  | .logStatsClear mbx => decide (mbx ≤ 14)
  | .snapInfo mbx => decide (mbx ≤ 14)
  | .snapTrigger mbx => decide (mbx ≤ 14)
  | .snapRead mbx => decide (mbx ≤ 14)
  | .snapRelease mbx => decide (mbx ≤ 14)
  | .powerOnReset _ => true
  | .supplyFail => true
  | .bootSequence _ => true
  | .harloporConfirm => true
  | .confirmDeadline => true
  | .startWatchdogExpiry => true
  | .supervisorRestartDeadline => true
  | .leaveRestart => true
  | .startConfirm mbx => decide (mbx ≤ 14)
  | .startLedger mbx => decide (mbx ≤ 14)
  | .startReason mbx => decide (mbx ≤ 14)
  | .startSessionOpen mbx => decide (mbx ≤ 14)
  | .startLeave mbx => decide (mbx ≤ 14)
  | .startFallow mbx => decide (mbx ≤ 14)
  | .startSelect mbx => decide (mbx ≤ 14)
  | .startThreshold mbx => decide (mbx ≤ 14)
  | .startTest mbx => decide (mbx ≤ 14)
  | .startFallowMap mbx => decide (mbx ≤ 14)
  | .lockstepMismatch => true
  | .selfTestComplete _ _ => true
  | .swapResume => true
  | .wearMeasurement kind _ wear => decide (1 ≤ kind) && decide (kind ≤ 8) && decide (wear ≤ 65535)
  | .eccCorrection kind _ => decide (2 ≤ kind) && decide (kind ≤ 3)
  | .uncorrectableError kind _ _ region _ => decide (1 ≤ kind) && decide (kind ≤ 8) && decide (1 ≤ region) && decide (region ≤ 7)
  | .rowRemap kind _ => decide (2 ≤ kind) && decide (kind ≤ 3)
  | .ageingSample _ => true
  | .spareInfo mbx => decide (mbx ≤ 14)
  | .spareLedger mbx => decide (mbx ≤ 14)
  | .spareWear mbx => decide (mbx ≤ 14)
  | .spareProfile mbx => decide (mbx ≤ 14)
  | .spareSwap mbx => decide (mbx ≤ 14)
  | .substitutionComplete => true
  | .secSessionOpen mbx => decide (mbx ≤ 14)
  | .secSessionClose mbx => decide (mbx ≤ 14)
  | .secIdentity mbx => decide (mbx ≤ 14)
  | .secAttest mbx => decide (mbx ≤ 14)
  | .attestationComplete => true
  | .secObjectRead mbx => decide (mbx ≤ 14)
  | .secKeys mbx => decide (mbx ≤ 14)
  | .secKeySet mbx => decide (mbx ≤ 14)
  | .secCounters mbx => decide (mbx ≤ 14)
  | .secRelinquish mbx => decide (mbx ≤ 14)
  | .railMonitor millivolts _ => decide (millivolts.length = 6)
  | .readbackCheck _ => true
  | .pinOutputs mbx => decide (mbx ≤ 14)
  | .pinWrite mbx => decide (mbx ≤ 14)
  | .pinClaim mbx => decide (mbx ≤ 14)
  | .pinBalls mbx => decide (mbx ≤ 14)
  | .pinSupply mbx => decide (mbx ≤ 14)
  | .clockTick => true
  | .oscillatorRestart => true
  | .masterMarkTimeout => true
  | .serdesWake port => decide (port ≤ 2)
  | .canIntegrated channel => decide (channel ≤ 7)
  | .canReceiveError channel _ => decide (channel ≤ 7)
  | .meterSample _ _ _ => true
  | .encoderTransition encoder _ => decide (encoder ≤ 3)
  | .pllLossOfLock => true

end Sys2Proof
end

