-- ==== Sys2Proof/Laws/PerInstr.lean ====
section
/-! SUPPORT. The family WellFormed: a well-formed command that names a mailbox names one that takes requests, 0 to 14 (R46: mailbox 15 takes none). One lemma for each command. -/

/-- The mailbox that a command names, if it names one. -/
def Sys2Proof.Laws.mailboxOf : Sys2Proof.Instr → Option Nat
  | .hostWindowWrite _ _ => none
  | .doorbellRing _ => none
  | .responseRelease _ => none
  | .doorbellLostClear _ => none
  | .irqCauseClear _ => none
  | .mailboxRequestFrame => none
  | .mailboxBindingExpiry mbx => some mbx
  | .requesterExpiry _ => none
  | .sessionIdleTimeout _ => none
  | .sessionExpiry _ => none
  | .bulkClaimLapse => none
  | .bulkCopyComplete => none
  | .tokenBufferTimeout _ => none
  | .sysIdentify mbx => some mbx
  | .sysPing mbx => some mbx
  | .sysStatus mbx => some mbx
  | .sysOutageRead mbx => some mbx
  | .sysSubscribe mbx => some mbx
  | .sysBulkClaim mbx => some mbx
  | .sysBulkRelease mbx => some mbx
  | .sysBulkWrite mbx => some mbx
  | .sysBulkCommit mbx => some mbx
  | .sysFwActivate mbx => some mbx
  | .fwVerificationComplete => none
  | .sysWarmRestart mbx => some mbx
  | .sysDeferredStatus mbx => some mbx
  | .sysMbxStats mbx => some mbx
  | .cfgInfo mbx => some mbx
  | .cfgValidate mbx => some mbx
  | .cfgActivate mbx => some mbx
  | .configValidationComplete => none
  | .cfgReport mbx => some mbx
  | .cfgRead mbx => some mbx
  | .cfgSwathLoad mbx => some mbx
  | .cfgSwathSet mbx => some mbx
  | .cfgSwathClear mbx => some mbx
  | .cfgSwathRead mbx => some mbx
  | .cfgSwathDelete mbx => some mbx
  | .rodBoundary _ _ _ => none
  | .firmwarePauseEnd => none
  | .warmRestartEnd => none
  | .zeroCrossing _ _ _ _ => none
  | .referenceCrossingMissing => none
  | .flywheelTimeout => none
  | .acquireTimeout => none
  | .cycleMarkSend => none
  | .cycleMark => none
  | .masterElection => none
  | .countSeed => none
  | .phaseRead mbx => some mbx
  | .phaseInputs mbx => some mbx
  | .phaseSite mbx => some mbx
  | .phaseMeasureOffset mbx => some mbx
  | .measureOffsetComplete => none
  | .beadFire _ _ => none
  | .pulseReturn _ => none
  | .provisionalCheck _ => none
  | .calendarArm _ => none
  | .mainPass => none
  | .beadPlace mbx => some mbx
  | .beadRemove mbx => some mbx
  | .beadEnable mbx => some mbx
  | .beadRead mbx => some mbx
  | .beadRod mbx => some mbx
  | .beadStats mbx => some mbx
  | .beadCapacity mbx => some mbx
  | .chainHorizon _ => none
  | .recomputation _ => none
  | .carryInfo mbx => some mbx
  | .carryList mbx => some mbx
  | .carryRead mbx => some mbx
  | .carryChain mbx => some mbx
  | .carryStats mbx => some mbx
  | .carryStatsClear mbx => some mbx
  | .carryDrop mbx => some mbx
  | .leaseConfirmDeadline => none
  | .offerPublish => none
  | .borrowReceived => none
  | .grantReceived => none
  | .refuseReceived => none
  | .returnReceived => none
  | .borrowTimeout _ => none
  | .loanRenewalCheck _ => none
  | .heatFallback => none
  | .reckAccounts mbx => some mbx
  | .reckLeaseSet mbx => some mbx
  | .reckLeaseConfirm mbx => some mbx
  | .reckLeaseRefuse mbx => some mbx
  | .reckLeaseRead mbx => some mbx
  | .reckLoans mbx => some mbx
  | .reckLoanReturn mbx => some mbx
  | .reckStats mbx => some mbx
  | .reckStatsClear mbx => some mbx
  | .loopSample _ => none
  | .sampleStart => none
  | .sampleComplete _ => none
  | .resultApply _ => none
  | .awaitGiveUp _ => none
  | .loopStatus mbx => some mbx
  | .loopRead mbx => some mbx
  | .loopFlagsClear mbx => some mbx
  | .loopEnable mbx => some mbx
  | .loopManual mbx => some mbx
  | .loopModel mbx => some mbx
  | .loopTraceArm mbx => some mbx
  | .loopTraceStatus mbx => some mbx
  | .loopTraceRead mbx => some mbx
  | .loopStats mbx => some mbx
  | .cutMarkSend => none
  | .commonsCut => none
  | .commonsUpdateFrame => none
  | .cutMark => none
  | .commonsFrameSend => none
  | .refreshQueue => none
  | .commonsInfo mbx => some mbx
  | .commonsRead mbx => some mbx
  | .commonsWrite mbx => some mbx
  | .commonsChips mbx => some mbx
  | .commonsBlocks mbx => some mbx
  | .commonsStats mbx => some mbx
  | .commonsStatsClear mbx => some mbx
  | .frameReceived _ _ _ => none
  | .frameTransmit _ => none
  | .gateTransition _ => none
  | .linkUp _ => none
  | .linkDown _ _ => none
  | .serdesIdle _ => none
  | .supervisionSend => none
  | .supervisionReturnTimeout _ => none
  | .duplicateEntryExpiry _ _ => none
  | .nodeEntryExpiry _ => none
  | .proxyEntryExpiry _ => none
  | .pdelaySend _ _ => none
  | .announceSend => none
  | .ptpSyncReceived _ _ _ => none
  | .ptpSyncTimeout => none
  | .ringInfo mbx => some mbx
  | .ringPort mbx => some mbx
  | .ringPortClear mbx => some mbx
  | .ringNodes mbx => some mbx
  | .ringProxy mbx => some mbx
  | .ringPtp mbx => some mbx
  | .ringGates mbx => some mbx
  | .ringRequesters mbx => some mbx
  | .canFrameReceived _ _ _ => none
  | .canFrameSent _ _ => none
  | .canTransmitError _ => none
  | .arbitrationLost _ => none
  | .busOffRecovery _ => none
  | .referencePeriodStart _ => none
  | .referencePending _ => none
  | .referenceCancel _ => none
  | .spareEngineRotate => none
  | .spareSwitchOver => none
  | .spareIntegrated _ => none
  | .leakInjectionToggle _ _ => none
  | .fallowBeacon _ => none
  | .fbusStatus mbx => some mbx
  | .fbusStats mbx => some mbx
  | .fbusStatsClear mbx => some mbx
  | .fbusSend mbx => some mbx
  | .fbusReceive mbx => some mbx
  | .fbusRecover mbx => some mbx
  | .fbusSpare mbx => some mbx
  | .fbusInsulation mbx => some mbx
  | .fbusTiming mbx => some mbx
  | .rollCall _ => none
  | .cfpAnnounce _ => none
  | .cfpAssign _ => none
  | .cfpClaim _ => none
  | .claimWindowEnd _ => none
  | .cfpRsp _ => none
  | .cfpRpt _ => none
  | .cfpSegment _ => none
  | .cfpTimeout _ _ => none
  | .segmentTimeout _ _ => none
  | .transactionSend _ => none
  | .cfpNodes mbx => some mbx
  | .cfpRole mbx => some mbx
  | .cfpRoleMove mbx => some mbx
  | .cfpTransact mbx => some mbx
  | .cfpRollcall mbx => some mbx
  | .cfpForget mbx => some mbx
  | .cfpStats mbx => some mbx
  | .cfpStatsClear mbx => some mbx
  | .valveEventStart _ => none
  | .valvePeakReached _ _ _ => none
  | .valvePeakEnd _ => none
  | .valveDropEnd _ => none
  | .valveHoldEnd _ _ => none
  | .valveDecayEnd _ => none
  | .valveOffTimeEnd _ => none
  | .bankRecoveryEnd _ => none
  | .valveDeferExpiry _ => none
  | .dutyInstant _ => none
  | .valveOpen _ _ => none
  | .valveShort _ _ => none
  | .valveOvercurrent _ _ => none
  | .valveDecay _ _ => none
  | .valveStuck _ _ => none
  | .valveBankOvercurrent _ _ => none
  | .valveGroundShort _ _ => none
  | .valveStatus mbx => some mbx
  | .valveFire mbx => some mbx
  | .valveClear mbx => some mbx
  | .valveProfile mbx => some mbx
  | .valveStats mbx => some mbx
  | .valveStatsClear mbx => some mbx
  | .fanSlewUpdate => none
  | .tachPulse _ _ => none
  | .kickAttemptEnd _ => none
  | .retryWaitEnd _ => none
  | .coolDownEnd _ => none
  | .tachLossTimeout _ => none
  | .hostSilence => none
  | .fanGroupUpdate _ => none
  | .fanStatus mbx => some mbx
  | .fanSet mbx => some mbx
  | .fanZones mbx => some mbx
  | .fanRetry mbx => some mbx
  | .fanStats mbx => some mbx
  | .fanStatsClear mbx => some mbx
  | .encoderUpdate _ _ _ => none
  | .indexEvent _ _ => none
  | .ssiRead _ _ _ _ => none
  | .speedTimeout _ => none
  | .positionerEvaluation _ => none
  | .moveTimeout _ => none
  | .maxRunTimeout _ => none
  | .extensionUpdate => none
  | .ventRead mbx => some mbx
  | .ventCompare mbx => some mbx
  | .ventPreset mbx => some mbx
  | .ventSet mbx => some mbx
  | .ventClear mbx => some mbx
  | .ventStats mbx => some mbx
  | .conversionEnd _ _ _ => none
  | .excitationCompliance _ _ => none
  | .dwellEnd => none
  | .modulatorReplacement => none
  | .senseRead mbx => some mbx
  | .senseMeter mbx => some mbx
  | .senseWave mbx => some mbx
  | .senseModulators mbx => some mbx
  | .senseSpare mbx => some mbx
  | .senseStats mbx => some mbx
  | .senseStatsClear mbx => some mbx
  | .keyScan _ => none
  | .encoderStep _ _ => none
  | .longPress _ => none
  | .resetCombination _ => none
  | .panelStatus mbx => some mbx
  | .panelKeys mbx => some mbx
  | .panelEvents mbx => some mbx
  | .panelDisplay mbx => some mbx
  | .panelStats mbx => some mbx
  | .panelStatsClear mbx => some mbx
  | .clockWriteApply => none
  | .trimCompensation _ => none
  | .vbatCheck _ => none
  | .oscillatorStop => none
  | .clockRead mbx => some mbx
  | .clockSet mbx => some mbx
  | .clockConvert mbx => some mbx
  | .clockFlagsClear mbx => some mbx
  | .clockTrim mbx => some mbx
  | .recordWrite => none
  | .snapInEdge => none
  | .scheduledStrobe => none
  | .snapshotTriggerFrame => none
  | .snapshotCopyComplete _ => none
  | .snapOutEnd => none
  | .logInfo mbx => some mbx
  | .logRead mbx => some mbx
  | .logReadKept mbx => some mbx
  | .logRearm mbx => some mbx
  | .logMark mbx => some mbx
  | .logStats mbx => some mbx
  | .logStatsClear mbx => some mbx
  | .snapInfo mbx => some mbx
  | .snapTrigger mbx => some mbx
  | .snapRead mbx => some mbx
  | .snapRelease mbx => some mbx
  | .powerOnReset _ => none
  | .supplyFail => none
  | .bootSequence _ => none
  | .harloporConfirm => none
  | .confirmDeadline => none
  | .startWatchdogExpiry => none
  | .supervisorRestartDeadline => none
  | .leaveRestart => none
  | .startConfirm mbx => some mbx
  | .startLedger mbx => some mbx
  | .startReason mbx => some mbx
  | .startSessionOpen mbx => some mbx
  | .startLeave mbx => some mbx
  | .startFallow mbx => some mbx
  | .startSelect mbx => some mbx
  | .startThreshold mbx => some mbx
  | .startTest mbx => some mbx
  | .startFallowMap mbx => some mbx
  | .lockstepMismatch => none
  | .selfTestComplete _ _ => none
  | .swapResume => none
  | .wearMeasurement _ _ _ => none
  | .eccCorrection _ _ => none
  | .uncorrectableError _ _ _ _ _ => none
  | .rowRemap _ _ => none
  | .ageingSample _ => none
  | .spareInfo mbx => some mbx
  | .spareLedger mbx => some mbx
  | .spareWear mbx => some mbx
  | .spareProfile mbx => some mbx
  | .spareSwap mbx => some mbx
  | .substitutionComplete => none
  | .secSessionOpen mbx => some mbx
  | .secSessionClose mbx => some mbx
  | .secIdentity mbx => some mbx
  | .secAttest mbx => some mbx
  | .attestationComplete => none
  | .secObjectRead mbx => some mbx
  | .secKeys mbx => some mbx
  | .secKeySet mbx => some mbx
  | .secCounters mbx => some mbx
  | .secRelinquish mbx => some mbx
  | .railMonitor _ _ => none
  | .readbackCheck _ => none
  | .pinOutputs mbx => some mbx
  | .pinWrite mbx => some mbx
  | .pinClaim mbx => some mbx
  | .pinBalls mbx => some mbx
  | .pinSupply mbx => some mbx
  | .clockTick => none
  | .oscillatorRestart => none
  | .masterMarkTimeout => none
  | .serdesWake _ => none
  | .canIntegrated _ => none
  | .canReceiveError _ _ => none
  | .meterSample _ _ _ => none
  | .encoderTransition _ _ => none
  | .pllLossOfLock => none

/-- A well-formed command names no mailbox but one that takes requests. -/
def Sys2Proof.Laws.WellFormed.Statement (i : Sys2Proof.Instr) : Prop :=
  i.wf = true → ∀ m ∈ Sys2Proof.Laws.mailboxOf i, m ≤ 14

theorem Sys2Proof.Laws.mailbox_at_most {i : Sys2Proof.Instr} {m : Nat} (e : Sys2Proof.Laws.mailboxOf i = some m) (h : i.wf = true → m ≤ 14) :
    Sys2Proof.Laws.WellFormed.Statement i := by
  intro hw k hk; rw [e] at hk; cases hk; exact h hw

theorem Sys2Proof.Laws.no_mailbox {i : Sys2Proof.Instr} (e : Sys2Proof.Laws.mailboxOf i = none) : Sys2Proof.Laws.WellFormed.Statement i := by
  intro _ k hk; rw [e] at hk; cases hk

open Sys2Proof Sys2Proof.Laws Sys2Proof.Laws.WellFormed

theorem Sys2Proof.Laws.WellFormed.hostWindowWrite (head : HostHead) (bytes : List Byte) : Statement (.hostWindowWrite head bytes) := no_mailbox rfl
theorem Sys2Proof.Laws.WellFormed.doorbellRing (bits : Word) : Statement (.doorbellRing bits) := no_mailbox rfl
theorem Sys2Proof.Laws.WellFormed.responseRelease (bits : Word) : Statement (.responseRelease bits) := no_mailbox rfl
theorem Sys2Proof.Laws.WellFormed.doorbellLostClear (bits : Word) : Statement (.doorbellLostClear bits) := no_mailbox rfl
theorem Sys2Proof.Laws.WellFormed.irqCauseClear (bits : Word) : Statement (.irqCauseClear bits) := no_mailbox rfl
theorem Sys2Proof.Laws.WellFormed.mailboxRequestFrame : Statement (.mailboxRequestFrame) := no_mailbox rfl
theorem Sys2Proof.Laws.WellFormed.mailboxBindingExpiry (mbx : Nat) : Statement (.mailboxBindingExpiry mbx) := mailbox_at_most rfl fun h => of_decide_eq_true (Bool.and_eq_true_iff.mp h).2
theorem Sys2Proof.Laws.WellFormed.requesterExpiry (mac : Nat) : Statement (.requesterExpiry mac) := no_mailbox rfl
theorem Sys2Proof.Laws.WellFormed.sessionIdleTimeout (handle : Nat) : Statement (.sessionIdleTimeout handle) := no_mailbox rfl
theorem Sys2Proof.Laws.WellFormed.sessionExpiry (handle : Nat) : Statement (.sessionExpiry handle) := no_mailbox rfl
theorem Sys2Proof.Laws.WellFormed.bulkClaimLapse : Statement (.bulkClaimLapse) := no_mailbox rfl
theorem Sys2Proof.Laws.WellFormed.bulkCopyComplete : Statement (.bulkCopyComplete) := no_mailbox rfl
theorem Sys2Proof.Laws.WellFormed.tokenBufferTimeout (buffer : Nat) : Statement (.tokenBufferTimeout buffer) := no_mailbox rfl
theorem Sys2Proof.Laws.WellFormed.sysIdentify (mbx : Nat) : Statement (.sysIdentify mbx) := mailbox_at_most rfl fun h => of_decide_eq_true h
theorem Sys2Proof.Laws.WellFormed.sysPing (mbx : Nat) : Statement (.sysPing mbx) := mailbox_at_most rfl fun h => of_decide_eq_true h
theorem Sys2Proof.Laws.WellFormed.sysStatus (mbx : Nat) : Statement (.sysStatus mbx) := mailbox_at_most rfl fun h => of_decide_eq_true h
theorem Sys2Proof.Laws.WellFormed.sysOutageRead (mbx : Nat) : Statement (.sysOutageRead mbx) := mailbox_at_most rfl fun h => of_decide_eq_true h
theorem Sys2Proof.Laws.WellFormed.sysSubscribe (mbx : Nat) : Statement (.sysSubscribe mbx) := mailbox_at_most rfl fun h => of_decide_eq_true h
theorem Sys2Proof.Laws.WellFormed.sysBulkClaim (mbx : Nat) : Statement (.sysBulkClaim mbx) := mailbox_at_most rfl fun h => of_decide_eq_true h
theorem Sys2Proof.Laws.WellFormed.sysBulkRelease (mbx : Nat) : Statement (.sysBulkRelease mbx) := mailbox_at_most rfl fun h => of_decide_eq_true h
theorem Sys2Proof.Laws.WellFormed.sysBulkWrite (mbx : Nat) : Statement (.sysBulkWrite mbx) := mailbox_at_most rfl fun h => of_decide_eq_true h
theorem Sys2Proof.Laws.WellFormed.sysBulkCommit (mbx : Nat) : Statement (.sysBulkCommit mbx) := mailbox_at_most rfl fun h => of_decide_eq_true h
theorem Sys2Proof.Laws.WellFormed.sysFwActivate (mbx : Nat) : Statement (.sysFwActivate mbx) := mailbox_at_most rfl fun h => of_decide_eq_true h
theorem Sys2Proof.Laws.WellFormed.fwVerificationComplete : Statement (.fwVerificationComplete) := no_mailbox rfl
theorem Sys2Proof.Laws.WellFormed.sysWarmRestart (mbx : Nat) : Statement (.sysWarmRestart mbx) := mailbox_at_most rfl fun h => of_decide_eq_true h
theorem Sys2Proof.Laws.WellFormed.sysDeferredStatus (mbx : Nat) : Statement (.sysDeferredStatus mbx) := mailbox_at_most rfl fun h => of_decide_eq_true h
theorem Sys2Proof.Laws.WellFormed.sysMbxStats (mbx : Nat) : Statement (.sysMbxStats mbx) := mailbox_at_most rfl fun h => of_decide_eq_true h
theorem Sys2Proof.Laws.WellFormed.cfgInfo (mbx : Nat) : Statement (.cfgInfo mbx) := mailbox_at_most rfl fun h => of_decide_eq_true h
theorem Sys2Proof.Laws.WellFormed.cfgValidate (mbx : Nat) : Statement (.cfgValidate mbx) := mailbox_at_most rfl fun h => of_decide_eq_true h
theorem Sys2Proof.Laws.WellFormed.cfgActivate (mbx : Nat) : Statement (.cfgActivate mbx) := mailbox_at_most rfl fun h => of_decide_eq_true h
theorem Sys2Proof.Laws.WellFormed.configValidationComplete : Statement (.configValidationComplete) := no_mailbox rfl
theorem Sys2Proof.Laws.WellFormed.cfgReport (mbx : Nat) : Statement (.cfgReport mbx) := mailbox_at_most rfl fun h => of_decide_eq_true h
theorem Sys2Proof.Laws.WellFormed.cfgRead (mbx : Nat) : Statement (.cfgRead mbx) := mailbox_at_most rfl fun h => of_decide_eq_true h
theorem Sys2Proof.Laws.WellFormed.cfgSwathLoad (mbx : Nat) : Statement (.cfgSwathLoad mbx) := mailbox_at_most rfl fun h => of_decide_eq_true h
theorem Sys2Proof.Laws.WellFormed.cfgSwathSet (mbx : Nat) : Statement (.cfgSwathSet mbx) := mailbox_at_most rfl fun h => of_decide_eq_true h
theorem Sys2Proof.Laws.WellFormed.cfgSwathClear (mbx : Nat) : Statement (.cfgSwathClear mbx) := mailbox_at_most rfl fun h => of_decide_eq_true h
theorem Sys2Proof.Laws.WellFormed.cfgSwathRead (mbx : Nat) : Statement (.cfgSwathRead mbx) := mailbox_at_most rfl fun h => of_decide_eq_true h
theorem Sys2Proof.Laws.WellFormed.cfgSwathDelete (mbx : Nat) : Statement (.cfgSwathDelete mbx) := mailbox_at_most rfl fun h => of_decide_eq_true h
theorem Sys2Proof.Laws.WellFormed.rodBoundary (ticks vrefMv bandgapMv : Nat) : Statement (.rodBoundary ticks vrefMv bandgapMv) := no_mailbox rfl
theorem Sys2Proof.Laws.WellFormed.firmwarePauseEnd : Statement (.firmwarePauseEnd) := no_mailbox rfl
theorem Sys2Proof.Laws.WellFormed.warmRestartEnd : Statement (.warmRestartEnd) := no_mailbox rfl
theorem Sys2Proof.Laws.WellFormed.zeroCrossing (phase stamp16 intervalNs peakMv : Nat) : Statement (.zeroCrossing phase stamp16 intervalNs peakMv) := no_mailbox rfl
theorem Sys2Proof.Laws.WellFormed.referenceCrossingMissing : Statement (.referenceCrossingMissing) := no_mailbox rfl
theorem Sys2Proof.Laws.WellFormed.flywheelTimeout : Statement (.flywheelTimeout) := no_mailbox rfl
theorem Sys2Proof.Laws.WellFormed.acquireTimeout : Statement (.acquireTimeout) := no_mailbox rfl
theorem Sys2Proof.Laws.WellFormed.cycleMarkSend : Statement (.cycleMarkSend) := no_mailbox rfl
theorem Sys2Proof.Laws.WellFormed.cycleMark : Statement (.cycleMark) := no_mailbox rfl
theorem Sys2Proof.Laws.WellFormed.masterElection : Statement (.masterElection) := no_mailbox rfl
theorem Sys2Proof.Laws.WellFormed.countSeed : Statement (.countSeed) := no_mailbox rfl
theorem Sys2Proof.Laws.WellFormed.phaseRead (mbx : Nat) : Statement (.phaseRead mbx) := mailbox_at_most rfl fun h => of_decide_eq_true h
theorem Sys2Proof.Laws.WellFormed.phaseInputs (mbx : Nat) : Statement (.phaseInputs mbx) := mailbox_at_most rfl fun h => of_decide_eq_true h
theorem Sys2Proof.Laws.WellFormed.phaseSite (mbx : Nat) : Statement (.phaseSite mbx) := mailbox_at_most rfl fun h => of_decide_eq_true h
theorem Sys2Proof.Laws.WellFormed.phaseMeasureOffset (mbx : Nat) : Statement (.phaseMeasureOffset mbx) := mailbox_at_most rfl fun h => of_decide_eq_true h
theorem Sys2Proof.Laws.WellFormed.measureOffsetComplete : Statement (.measureOffsetComplete) := no_mailbox rfl
theorem Sys2Proof.Laws.WellFormed.beadFire (bead actual : Nat) : Statement (.beadFire bead actual) := no_mailbox rfl
theorem Sys2Proof.Laws.WellFormed.pulseReturn (output : Nat) : Statement (.pulseReturn output) := no_mailbox rfl
theorem Sys2Proof.Laws.WellFormed.provisionalCheck (bead : Nat) : Statement (.provisionalCheck bead) := no_mailbox rfl
theorem Sys2Proof.Laws.WellFormed.calendarArm (bead : Nat) : Statement (.calendarArm bead) := no_mailbox rfl
theorem Sys2Proof.Laws.WellFormed.mainPass : Statement (.mainPass) := no_mailbox rfl
theorem Sys2Proof.Laws.WellFormed.beadPlace (mbx : Nat) : Statement (.beadPlace mbx) := mailbox_at_most rfl fun h => of_decide_eq_true h
theorem Sys2Proof.Laws.WellFormed.beadRemove (mbx : Nat) : Statement (.beadRemove mbx) := mailbox_at_most rfl fun h => of_decide_eq_true h
theorem Sys2Proof.Laws.WellFormed.beadEnable (mbx : Nat) : Statement (.beadEnable mbx) := mailbox_at_most rfl fun h => of_decide_eq_true h
theorem Sys2Proof.Laws.WellFormed.beadRead (mbx : Nat) : Statement (.beadRead mbx) := mailbox_at_most rfl fun h => of_decide_eq_true h
theorem Sys2Proof.Laws.WellFormed.beadRod (mbx : Nat) : Statement (.beadRod mbx) := mailbox_at_most rfl fun h => of_decide_eq_true h
theorem Sys2Proof.Laws.WellFormed.beadStats (mbx : Nat) : Statement (.beadStats mbx) := mailbox_at_most rfl fun h => of_decide_eq_true h
theorem Sys2Proof.Laws.WellFormed.beadCapacity (mbx : Nat) : Statement (.beadCapacity mbx) := mailbox_at_most rfl fun h => of_decide_eq_true h
theorem Sys2Proof.Laws.WellFormed.chainHorizon (chain : Nat) : Statement (.chainHorizon chain) := no_mailbox rfl
theorem Sys2Proof.Laws.WellFormed.recomputation (entry : Nat) : Statement (.recomputation entry) := no_mailbox rfl
theorem Sys2Proof.Laws.WellFormed.carryInfo (mbx : Nat) : Statement (.carryInfo mbx) := mailbox_at_most rfl fun h => of_decide_eq_true h
theorem Sys2Proof.Laws.WellFormed.carryList (mbx : Nat) : Statement (.carryList mbx) := mailbox_at_most rfl fun h => of_decide_eq_true h
theorem Sys2Proof.Laws.WellFormed.carryRead (mbx : Nat) : Statement (.carryRead mbx) := mailbox_at_most rfl fun h => of_decide_eq_true h
theorem Sys2Proof.Laws.WellFormed.carryChain (mbx : Nat) : Statement (.carryChain mbx) := mailbox_at_most rfl fun h => of_decide_eq_true h
theorem Sys2Proof.Laws.WellFormed.carryStats (mbx : Nat) : Statement (.carryStats mbx) := mailbox_at_most rfl fun h => of_decide_eq_true h
theorem Sys2Proof.Laws.WellFormed.carryStatsClear (mbx : Nat) : Statement (.carryStatsClear mbx) := mailbox_at_most rfl fun h => of_decide_eq_true h
theorem Sys2Proof.Laws.WellFormed.carryDrop (mbx : Nat) : Statement (.carryDrop mbx) := mailbox_at_most rfl fun h => of_decide_eq_true h
theorem Sys2Proof.Laws.WellFormed.leaseConfirmDeadline : Statement (.leaseConfirmDeadline) := no_mailbox rfl
theorem Sys2Proof.Laws.WellFormed.offerPublish : Statement (.offerPublish) := no_mailbox rfl
theorem Sys2Proof.Laws.WellFormed.borrowReceived : Statement (.borrowReceived) := no_mailbox rfl
theorem Sys2Proof.Laws.WellFormed.grantReceived : Statement (.grantReceived) := no_mailbox rfl
theorem Sys2Proof.Laws.WellFormed.refuseReceived : Statement (.refuseReceived) := no_mailbox rfl
theorem Sys2Proof.Laws.WellFormed.returnReceived : Statement (.returnReceived) := no_mailbox rfl
theorem Sys2Proof.Laws.WellFormed.borrowTimeout (loan : Nat) : Statement (.borrowTimeout loan) := no_mailbox rfl
theorem Sys2Proof.Laws.WellFormed.loanRenewalCheck (loan : Nat) : Statement (.loanRenewalCheck loan) := no_mailbox rfl
theorem Sys2Proof.Laws.WellFormed.heatFallback : Statement (.heatFallback) := no_mailbox rfl
theorem Sys2Proof.Laws.WellFormed.reckAccounts (mbx : Nat) : Statement (.reckAccounts mbx) := mailbox_at_most rfl fun h => of_decide_eq_true h
theorem Sys2Proof.Laws.WellFormed.reckLeaseSet (mbx : Nat) : Statement (.reckLeaseSet mbx) := mailbox_at_most rfl fun h => of_decide_eq_true h
theorem Sys2Proof.Laws.WellFormed.reckLeaseConfirm (mbx : Nat) : Statement (.reckLeaseConfirm mbx) := mailbox_at_most rfl fun h => of_decide_eq_true h
theorem Sys2Proof.Laws.WellFormed.reckLeaseRefuse (mbx : Nat) : Statement (.reckLeaseRefuse mbx) := mailbox_at_most rfl fun h => of_decide_eq_true h
theorem Sys2Proof.Laws.WellFormed.reckLeaseRead (mbx : Nat) : Statement (.reckLeaseRead mbx) := mailbox_at_most rfl fun h => of_decide_eq_true h
theorem Sys2Proof.Laws.WellFormed.reckLoans (mbx : Nat) : Statement (.reckLoans mbx) := mailbox_at_most rfl fun h => of_decide_eq_true h
theorem Sys2Proof.Laws.WellFormed.reckLoanReturn (mbx : Nat) : Statement (.reckLoanReturn mbx) := mailbox_at_most rfl fun h => of_decide_eq_true h
theorem Sys2Proof.Laws.WellFormed.reckStats (mbx : Nat) : Statement (.reckStats mbx) := mailbox_at_most rfl fun h => of_decide_eq_true h
theorem Sys2Proof.Laws.WellFormed.reckStatsClear (mbx : Nat) : Statement (.reckStatsClear mbx) := mailbox_at_most rfl fun h => of_decide_eq_true h
theorem Sys2Proof.Laws.WellFormed.loopSample (slot : Nat) : Statement (.loopSample slot) := no_mailbox rfl
theorem Sys2Proof.Laws.WellFormed.sampleStart : Statement (.sampleStart) := no_mailbox rfl
theorem Sys2Proof.Laws.WellFormed.sampleComplete (processor : Nat) : Statement (.sampleComplete processor) := no_mailbox rfl
theorem Sys2Proof.Laws.WellFormed.resultApply (slot : Nat) : Statement (.resultApply slot) := no_mailbox rfl
theorem Sys2Proof.Laws.WellFormed.awaitGiveUp (slot : Nat) : Statement (.awaitGiveUp slot) := no_mailbox rfl
theorem Sys2Proof.Laws.WellFormed.loopStatus (mbx : Nat) : Statement (.loopStatus mbx) := mailbox_at_most rfl fun h => of_decide_eq_true h
theorem Sys2Proof.Laws.WellFormed.loopRead (mbx : Nat) : Statement (.loopRead mbx) := mailbox_at_most rfl fun h => of_decide_eq_true h
theorem Sys2Proof.Laws.WellFormed.loopFlagsClear (mbx : Nat) : Statement (.loopFlagsClear mbx) := mailbox_at_most rfl fun h => of_decide_eq_true h
theorem Sys2Proof.Laws.WellFormed.loopEnable (mbx : Nat) : Statement (.loopEnable mbx) := mailbox_at_most rfl fun h => of_decide_eq_true h
theorem Sys2Proof.Laws.WellFormed.loopManual (mbx : Nat) : Statement (.loopManual mbx) := mailbox_at_most rfl fun h => of_decide_eq_true h
theorem Sys2Proof.Laws.WellFormed.loopModel (mbx : Nat) : Statement (.loopModel mbx) := mailbox_at_most rfl fun h => of_decide_eq_true h
theorem Sys2Proof.Laws.WellFormed.loopTraceArm (mbx : Nat) : Statement (.loopTraceArm mbx) := mailbox_at_most rfl fun h => of_decide_eq_true h
theorem Sys2Proof.Laws.WellFormed.loopTraceStatus (mbx : Nat) : Statement (.loopTraceStatus mbx) := mailbox_at_most rfl fun h => of_decide_eq_true h
theorem Sys2Proof.Laws.WellFormed.loopTraceRead (mbx : Nat) : Statement (.loopTraceRead mbx) := mailbox_at_most rfl fun h => of_decide_eq_true h
theorem Sys2Proof.Laws.WellFormed.loopStats (mbx : Nat) : Statement (.loopStats mbx) := mailbox_at_most rfl fun h => of_decide_eq_true h
theorem Sys2Proof.Laws.WellFormed.cutMarkSend : Statement (.cutMarkSend) := no_mailbox rfl
theorem Sys2Proof.Laws.WellFormed.commonsCut : Statement (.commonsCut) := no_mailbox rfl
theorem Sys2Proof.Laws.WellFormed.commonsUpdateFrame : Statement (.commonsUpdateFrame) := no_mailbox rfl
theorem Sys2Proof.Laws.WellFormed.cutMark : Statement (.cutMark) := no_mailbox rfl
theorem Sys2Proof.Laws.WellFormed.commonsFrameSend : Statement (.commonsFrameSend) := no_mailbox rfl
theorem Sys2Proof.Laws.WellFormed.refreshQueue : Statement (.refreshQueue) := no_mailbox rfl
theorem Sys2Proof.Laws.WellFormed.commonsInfo (mbx : Nat) : Statement (.commonsInfo mbx) := mailbox_at_most rfl fun h => of_decide_eq_true h
theorem Sys2Proof.Laws.WellFormed.commonsRead (mbx : Nat) : Statement (.commonsRead mbx) := mailbox_at_most rfl fun h => of_decide_eq_true h
theorem Sys2Proof.Laws.WellFormed.commonsWrite (mbx : Nat) : Statement (.commonsWrite mbx) := mailbox_at_most rfl fun h => of_decide_eq_true h
theorem Sys2Proof.Laws.WellFormed.commonsChips (mbx : Nat) : Statement (.commonsChips mbx) := mailbox_at_most rfl fun h => of_decide_eq_true h
theorem Sys2Proof.Laws.WellFormed.commonsBlocks (mbx : Nat) : Statement (.commonsBlocks mbx) := mailbox_at_most rfl fun h => of_decide_eq_true h
theorem Sys2Proof.Laws.WellFormed.commonsStats (mbx : Nat) : Statement (.commonsStats mbx) := mailbox_at_most rfl fun h => of_decide_eq_true h
theorem Sys2Proof.Laws.WellFormed.commonsStatsClear (mbx : Nat) : Statement (.commonsStatsClear mbx) := mailbox_at_most rfl fun h => of_decide_eq_true h
theorem Sys2Proof.Laws.WellFormed.frameReceived (port : Nat) (frame : EthFrame) (fcsOk : Bool) : Statement (.frameReceived port frame fcsOk) := no_mailbox rfl
theorem Sys2Proof.Laws.WellFormed.frameTransmit (port : Nat) : Statement (.frameTransmit port) := no_mailbox rfl
theorem Sys2Proof.Laws.WellFormed.gateTransition (port : Nat) : Statement (.gateTransition port) := no_mailbox rfl
theorem Sys2Proof.Laws.WellFormed.linkUp (port : Nat) : Statement (.linkUp port) := no_mailbox rfl
theorem Sys2Proof.Laws.WellFormed.linkDown (port cause : Nat) : Statement (.linkDown port cause) := no_mailbox rfl
theorem Sys2Proof.Laws.WellFormed.serdesIdle (port : Nat) : Statement (.serdesIdle port) := no_mailbox rfl
theorem Sys2Proof.Laws.WellFormed.supervisionSend : Statement (.supervisionSend) := no_mailbox rfl
theorem Sys2Proof.Laws.WellFormed.supervisionReturnTimeout (port : Nat) : Statement (.supervisionReturnTimeout port) := no_mailbox rfl
theorem Sys2Proof.Laws.WellFormed.duplicateEntryExpiry (src seq : Nat) : Statement (.duplicateEntryExpiry src seq) := no_mailbox rfl
theorem Sys2Proof.Laws.WellFormed.nodeEntryExpiry (mac : Nat) : Statement (.nodeEntryExpiry mac) := no_mailbox rfl
theorem Sys2Proof.Laws.WellFormed.proxyEntryExpiry (mac : Nat) : Statement (.proxyEntryExpiry mac) := no_mailbox rfl
theorem Sys2Proof.Laws.WellFormed.pdelaySend (port delayNs : Nat) : Statement (.pdelaySend port delayNs) := no_mailbox rfl
theorem Sys2Proof.Laws.WellFormed.announceSend : Statement (.announceSend) := no_mailbox rfl
theorem Sys2Proof.Laws.WellFormed.ptpSyncReceived (offsetNs : Int) (pathDelayNs : Nat) (dPtp : Int) : Statement (.ptpSyncReceived offsetNs pathDelayNs dPtp) := no_mailbox rfl
theorem Sys2Proof.Laws.WellFormed.ptpSyncTimeout : Statement (.ptpSyncTimeout) := no_mailbox rfl
theorem Sys2Proof.Laws.WellFormed.ringInfo (mbx : Nat) : Statement (.ringInfo mbx) := mailbox_at_most rfl fun h => of_decide_eq_true h
theorem Sys2Proof.Laws.WellFormed.ringPort (mbx : Nat) : Statement (.ringPort mbx) := mailbox_at_most rfl fun h => of_decide_eq_true h
theorem Sys2Proof.Laws.WellFormed.ringPortClear (mbx : Nat) : Statement (.ringPortClear mbx) := mailbox_at_most rfl fun h => of_decide_eq_true h
theorem Sys2Proof.Laws.WellFormed.ringNodes (mbx : Nat) : Statement (.ringNodes mbx) := mailbox_at_most rfl fun h => of_decide_eq_true h
theorem Sys2Proof.Laws.WellFormed.ringProxy (mbx : Nat) : Statement (.ringProxy mbx) := mailbox_at_most rfl fun h => of_decide_eq_true h
theorem Sys2Proof.Laws.WellFormed.ringPtp (mbx : Nat) : Statement (.ringPtp mbx) := mailbox_at_most rfl fun h => of_decide_eq_true h
theorem Sys2Proof.Laws.WellFormed.ringGates (mbx : Nat) : Statement (.ringGates mbx) := mailbox_at_most rfl fun h => of_decide_eq_true h
theorem Sys2Proof.Laws.WellFormed.ringRequesters (mbx : Nat) : Statement (.ringRequesters mbx) := mailbox_at_most rfl fun h => of_decide_eq_true h
theorem Sys2Proof.Laws.WellFormed.canFrameReceived (channel : Nat) (frame : CanFrame) (spare : SpareView) : Statement (.canFrameReceived channel frame spare) := no_mailbox rfl
theorem Sys2Proof.Laws.WellFormed.canFrameSent (channel : Nat) (reference : Bool) : Statement (.canFrameSent channel reference) := no_mailbox rfl
theorem Sys2Proof.Laws.WellFormed.canTransmitError (channel : Nat) : Statement (.canTransmitError channel) := no_mailbox rfl
theorem Sys2Proof.Laws.WellFormed.arbitrationLost (channel : Nat) : Statement (.arbitrationLost channel) := no_mailbox rfl
theorem Sys2Proof.Laws.WellFormed.busOffRecovery (channel : Nat) : Statement (.busOffRecovery channel) := no_mailbox rfl
theorem Sys2Proof.Laws.WellFormed.referencePeriodStart (channel : Nat) : Statement (.referencePeriodStart channel) := no_mailbox rfl
theorem Sys2Proof.Laws.WellFormed.referencePending (channel : Nat) : Statement (.referencePending channel) := no_mailbox rfl
theorem Sys2Proof.Laws.WellFormed.referenceCancel (channel : Nat) : Statement (.referenceCancel channel) := no_mailbox rfl
theorem Sys2Proof.Laws.WellFormed.spareEngineRotate : Statement (.spareEngineRotate) := no_mailbox rfl
theorem Sys2Proof.Laws.WellFormed.spareSwitchOver : Statement (.spareSwitchOver) := no_mailbox rfl
theorem Sys2Proof.Laws.WellFormed.spareIntegrated (framesLost : Nat) : Statement (.spareIntegrated framesLost) := no_mailbox rfl
theorem Sys2Proof.Laws.WellFormed.leakInjectionToggle (channel averageMv : Nat) : Statement (.leakInjectionToggle channel averageMv) := no_mailbox rfl
theorem Sys2Proof.Laws.WellFormed.fallowBeacon (channel : Nat) : Statement (.fallowBeacon channel) := no_mailbox rfl
theorem Sys2Proof.Laws.WellFormed.fbusStatus (mbx : Nat) : Statement (.fbusStatus mbx) := mailbox_at_most rfl fun h => of_decide_eq_true h
theorem Sys2Proof.Laws.WellFormed.fbusStats (mbx : Nat) : Statement (.fbusStats mbx) := mailbox_at_most rfl fun h => of_decide_eq_true h
theorem Sys2Proof.Laws.WellFormed.fbusStatsClear (mbx : Nat) : Statement (.fbusStatsClear mbx) := mailbox_at_most rfl fun h => of_decide_eq_true h
theorem Sys2Proof.Laws.WellFormed.fbusSend (mbx : Nat) : Statement (.fbusSend mbx) := mailbox_at_most rfl fun h => of_decide_eq_true h
theorem Sys2Proof.Laws.WellFormed.fbusReceive (mbx : Nat) : Statement (.fbusReceive mbx) := mailbox_at_most rfl fun h => of_decide_eq_true h
theorem Sys2Proof.Laws.WellFormed.fbusRecover (mbx : Nat) : Statement (.fbusRecover mbx) := mailbox_at_most rfl fun h => of_decide_eq_true h
theorem Sys2Proof.Laws.WellFormed.fbusSpare (mbx : Nat) : Statement (.fbusSpare mbx) := mailbox_at_most rfl fun h => of_decide_eq_true h
theorem Sys2Proof.Laws.WellFormed.fbusInsulation (mbx : Nat) : Statement (.fbusInsulation mbx) := mailbox_at_most rfl fun h => of_decide_eq_true h
theorem Sys2Proof.Laws.WellFormed.fbusTiming (mbx : Nat) : Statement (.fbusTiming mbx) := mailbox_at_most rfl fun h => of_decide_eq_true h
theorem Sys2Proof.Laws.WellFormed.rollCall (bus : Nat) : Statement (.rollCall bus) := no_mailbox rfl
theorem Sys2Proof.Laws.WellFormed.cfpAnnounce (bus : Nat) : Statement (.cfpAnnounce bus) := no_mailbox rfl
theorem Sys2Proof.Laws.WellFormed.cfpAssign (bus : Nat) : Statement (.cfpAssign bus) := no_mailbox rfl
theorem Sys2Proof.Laws.WellFormed.cfpClaim (bus : Nat) : Statement (.cfpClaim bus) := no_mailbox rfl
theorem Sys2Proof.Laws.WellFormed.claimWindowEnd (bus : Nat) : Statement (.claimWindowEnd bus) := no_mailbox rfl
theorem Sys2Proof.Laws.WellFormed.cfpRsp (bus : Nat) : Statement (.cfpRsp bus) := no_mailbox rfl
theorem Sys2Proof.Laws.WellFormed.cfpRpt (bus : Nat) : Statement (.cfpRpt bus) := no_mailbox rfl
theorem Sys2Proof.Laws.WellFormed.cfpSegment (bus : Nat) : Statement (.cfpSegment bus) := no_mailbox rfl
theorem Sys2Proof.Laws.WellFormed.cfpTimeout (bus tag : Nat) : Statement (.cfpTimeout bus tag) := no_mailbox rfl
theorem Sys2Proof.Laws.WellFormed.segmentTimeout (bus tag : Nat) : Statement (.segmentTimeout bus tag) := no_mailbox rfl
theorem Sys2Proof.Laws.WellFormed.transactionSend (bus : Nat) : Statement (.transactionSend bus) := no_mailbox rfl
theorem Sys2Proof.Laws.WellFormed.cfpNodes (mbx : Nat) : Statement (.cfpNodes mbx) := mailbox_at_most rfl fun h => of_decide_eq_true h
theorem Sys2Proof.Laws.WellFormed.cfpRole (mbx : Nat) : Statement (.cfpRole mbx) := mailbox_at_most rfl fun h => of_decide_eq_true h
theorem Sys2Proof.Laws.WellFormed.cfpRoleMove (mbx : Nat) : Statement (.cfpRoleMove mbx) := mailbox_at_most rfl fun h => of_decide_eq_true h
theorem Sys2Proof.Laws.WellFormed.cfpTransact (mbx : Nat) : Statement (.cfpTransact mbx) := mailbox_at_most rfl fun h => of_decide_eq_true h
theorem Sys2Proof.Laws.WellFormed.cfpRollcall (mbx : Nat) : Statement (.cfpRollcall mbx) := mailbox_at_most rfl fun h => of_decide_eq_true h
theorem Sys2Proof.Laws.WellFormed.cfpForget (mbx : Nat) : Statement (.cfpForget mbx) := mailbox_at_most rfl fun h => of_decide_eq_true h
theorem Sys2Proof.Laws.WellFormed.cfpStats (mbx : Nat) : Statement (.cfpStats mbx) := mailbox_at_most rfl fun h => of_decide_eq_true h
theorem Sys2Proof.Laws.WellFormed.cfpStatsClear (mbx : Nat) : Statement (.cfpStatsClear mbx) := mailbox_at_most rfl fun h => of_decide_eq_true h
theorem Sys2Proof.Laws.WellFormed.valveEventStart (bank : Nat) : Statement (.valveEventStart bank) := no_mailbox rfl
theorem Sys2Proof.Laws.WellFormed.valvePeakReached (channel micros currentMa : Nat) : Statement (.valvePeakReached channel micros currentMa) := no_mailbox rfl
theorem Sys2Proof.Laws.WellFormed.valvePeakEnd (channel : Nat) : Statement (.valvePeakEnd channel) := no_mailbox rfl
theorem Sys2Proof.Laws.WellFormed.valveDropEnd (channel : Nat) : Statement (.valveDropEnd channel) := no_mailbox rfl
theorem Sys2Proof.Laws.WellFormed.valveHoldEnd (channel meanMa : Nat) : Statement (.valveHoldEnd channel meanMa) := no_mailbox rfl
theorem Sys2Proof.Laws.WellFormed.valveDecayEnd (channel : Nat) : Statement (.valveDecayEnd channel) := no_mailbox rfl
theorem Sys2Proof.Laws.WellFormed.valveOffTimeEnd (channel : Nat) : Statement (.valveOffTimeEnd channel) := no_mailbox rfl
theorem Sys2Proof.Laws.WellFormed.bankRecoveryEnd (bank : Nat) : Statement (.bankRecoveryEnd bank) := no_mailbox rfl
theorem Sys2Proof.Laws.WellFormed.valveDeferExpiry (channel : Nat) : Statement (.valveDeferExpiry channel) := no_mailbox rfl
theorem Sys2Proof.Laws.WellFormed.dutyInstant (channel : Nat) : Statement (.dutyInstant channel) := no_mailbox rfl
theorem Sys2Proof.Laws.WellFormed.valveOpen (channel currentMa : Nat) : Statement (.valveOpen channel currentMa) := no_mailbox rfl
theorem Sys2Proof.Laws.WellFormed.valveShort (channel micros : Nat) : Statement (.valveShort channel micros) := no_mailbox rfl
theorem Sys2Proof.Laws.WellFormed.valveOvercurrent (channel currentMa : Nat) : Statement (.valveOvercurrent channel currentMa) := no_mailbox rfl
theorem Sys2Proof.Laws.WellFormed.valveDecay (bank currentMa : Nat) : Statement (.valveDecay bank currentMa) := no_mailbox rfl
theorem Sys2Proof.Laws.WellFormed.valveStuck (channel currentMa : Nat) : Statement (.valveStuck channel currentMa) := no_mailbox rfl
theorem Sys2Proof.Laws.WellFormed.valveBankOvercurrent (bank currentMa : Nat) : Statement (.valveBankOvercurrent bank currentMa) := no_mailbox rfl
theorem Sys2Proof.Laws.WellFormed.valveGroundShort (bank excessMa : Nat) : Statement (.valveGroundShort bank excessMa) := no_mailbox rfl
theorem Sys2Proof.Laws.WellFormed.valveStatus (mbx : Nat) : Statement (.valveStatus mbx) := mailbox_at_most rfl fun h => of_decide_eq_true h
theorem Sys2Proof.Laws.WellFormed.valveFire (mbx : Nat) : Statement (.valveFire mbx) := mailbox_at_most rfl fun h => of_decide_eq_true h
theorem Sys2Proof.Laws.WellFormed.valveClear (mbx : Nat) : Statement (.valveClear mbx) := mailbox_at_most rfl fun h => of_decide_eq_true h
theorem Sys2Proof.Laws.WellFormed.valveProfile (mbx : Nat) : Statement (.valveProfile mbx) := mailbox_at_most rfl fun h => of_decide_eq_true h
theorem Sys2Proof.Laws.WellFormed.valveStats (mbx : Nat) : Statement (.valveStats mbx) := mailbox_at_most rfl fun h => of_decide_eq_true h
theorem Sys2Proof.Laws.WellFormed.valveStatsClear (mbx : Nat) : Statement (.valveStatsClear mbx) := mailbox_at_most rfl fun h => of_decide_eq_true h
theorem Sys2Proof.Laws.WellFormed.fanSlewUpdate : Statement (.fanSlewUpdate) := no_mailbox rfl
theorem Sys2Proof.Laws.WellFormed.tachPulse (output periodUs : Nat) : Statement (.tachPulse output periodUs) := no_mailbox rfl
theorem Sys2Proof.Laws.WellFormed.kickAttemptEnd (output : Nat) : Statement (.kickAttemptEnd output) := no_mailbox rfl
theorem Sys2Proof.Laws.WellFormed.retryWaitEnd (output : Nat) : Statement (.retryWaitEnd output) := no_mailbox rfl
theorem Sys2Proof.Laws.WellFormed.coolDownEnd (output : Nat) : Statement (.coolDownEnd output) := no_mailbox rfl
theorem Sys2Proof.Laws.WellFormed.tachLossTimeout (output : Nat) : Statement (.tachLossTimeout output) := no_mailbox rfl
theorem Sys2Proof.Laws.WellFormed.hostSilence : Statement (.hostSilence) := no_mailbox rfl
theorem Sys2Proof.Laws.WellFormed.fanGroupUpdate (group : Nat) : Statement (.fanGroupUpdate group) := no_mailbox rfl
theorem Sys2Proof.Laws.WellFormed.fanStatus (mbx : Nat) : Statement (.fanStatus mbx) := mailbox_at_most rfl fun h => of_decide_eq_true h
theorem Sys2Proof.Laws.WellFormed.fanSet (mbx : Nat) : Statement (.fanSet mbx) := mailbox_at_most rfl fun h => of_decide_eq_true h
theorem Sys2Proof.Laws.WellFormed.fanZones (mbx : Nat) : Statement (.fanZones mbx) := mailbox_at_most rfl fun h => of_decide_eq_true h
theorem Sys2Proof.Laws.WellFormed.fanRetry (mbx : Nat) : Statement (.fanRetry mbx) := mailbox_at_most rfl fun h => of_decide_eq_true h
theorem Sys2Proof.Laws.WellFormed.fanStats (mbx : Nat) : Statement (.fanStats mbx) := mailbox_at_most rfl fun h => of_decide_eq_true h
theorem Sys2Proof.Laws.WellFormed.fanStatsClear (mbx : Nat) : Statement (.fanStatsClear mbx) := mailbox_at_most rfl fun h => of_decide_eq_true h
theorem Sys2Proof.Laws.WellFormed.encoderUpdate (channel : Nat) (lines : BitVec 3) (samples : Nat) : Statement (.encoderUpdate channel lines samples) := no_mailbox rfl
theorem Sys2Proof.Laws.WellFormed.indexEvent (channel : Nat) (lines : BitVec 3) : Statement (.indexEvent channel lines) := no_mailbox rfl
theorem Sys2Proof.Laws.WellFormed.ssiRead (channel : Nat) (dataHigh : Bool) (bits : Nat) (parity : Bool) : Statement (.ssiRead channel dataHigh bits parity) := no_mailbox rfl
theorem Sys2Proof.Laws.WellFormed.speedTimeout (channel : Nat) : Statement (.speedTimeout channel) := no_mailbox rfl
theorem Sys2Proof.Laws.WellFormed.positionerEvaluation (channel : Nat) : Statement (.positionerEvaluation channel) := no_mailbox rfl
theorem Sys2Proof.Laws.WellFormed.moveTimeout (channel : Nat) : Statement (.moveTimeout channel) := no_mailbox rfl
theorem Sys2Proof.Laws.WellFormed.maxRunTimeout (channel : Nat) : Statement (.maxRunTimeout channel) := no_mailbox rfl
theorem Sys2Proof.Laws.WellFormed.extensionUpdate : Statement (.extensionUpdate) := no_mailbox rfl
theorem Sys2Proof.Laws.WellFormed.ventRead (mbx : Nat) : Statement (.ventRead mbx) := mailbox_at_most rfl fun h => of_decide_eq_true h
theorem Sys2Proof.Laws.WellFormed.ventCompare (mbx : Nat) : Statement (.ventCompare mbx) := mailbox_at_most rfl fun h => of_decide_eq_true h
theorem Sys2Proof.Laws.WellFormed.ventPreset (mbx : Nat) : Statement (.ventPreset mbx) := mailbox_at_most rfl fun h => of_decide_eq_true h
theorem Sys2Proof.Laws.WellFormed.ventSet (mbx : Nat) : Statement (.ventSet mbx) := mailbox_at_most rfl fun h => of_decide_eq_true h
theorem Sys2Proof.Laws.WellFormed.ventClear (mbx : Nat) : Statement (.ventClear mbx) := mailbox_at_most rfl fun h => of_decide_eq_true h
theorem Sys2Proof.Laws.WellFormed.ventStats (mbx : Nat) : Statement (.ventStats mbx) := mailbox_at_most rfl fun h => of_decide_eq_true h
theorem Sys2Proof.Laws.WellFormed.conversionEnd (channel : Nat) (code : Int) (spares : List Int) : Statement (.conversionEnd channel code spares) := no_mailbox rfl
theorem Sys2Proof.Laws.WellFormed.excitationCompliance (source : Nat) (reached : Bool) : Statement (.excitationCompliance source reached) := no_mailbox rfl
theorem Sys2Proof.Laws.WellFormed.dwellEnd : Statement (.dwellEnd) := no_mailbox rfl
theorem Sys2Proof.Laws.WellFormed.modulatorReplacement : Statement (.modulatorReplacement) := no_mailbox rfl
theorem Sys2Proof.Laws.WellFormed.senseRead (mbx : Nat) : Statement (.senseRead mbx) := mailbox_at_most rfl fun h => of_decide_eq_true h
theorem Sys2Proof.Laws.WellFormed.senseMeter (mbx : Nat) : Statement (.senseMeter mbx) := mailbox_at_most rfl fun h => of_decide_eq_true h
theorem Sys2Proof.Laws.WellFormed.senseWave (mbx : Nat) : Statement (.senseWave mbx) := mailbox_at_most rfl fun h => of_decide_eq_true h
theorem Sys2Proof.Laws.WellFormed.senseModulators (mbx : Nat) : Statement (.senseModulators mbx) := mailbox_at_most rfl fun h => of_decide_eq_true h
theorem Sys2Proof.Laws.WellFormed.senseSpare (mbx : Nat) : Statement (.senseSpare mbx) := mailbox_at_most rfl fun h => of_decide_eq_true h
theorem Sys2Proof.Laws.WellFormed.senseStats (mbx : Nat) : Statement (.senseStats mbx) := mailbox_at_most rfl fun h => of_decide_eq_true h
theorem Sys2Proof.Laws.WellFormed.senseStatsClear (mbx : Nat) : Statement (.senseStatsClear mbx) := mailbox_at_most rfl fun h => of_decide_eq_true h
theorem Sys2Proof.Laws.WellFormed.keyScan (raw : BitVec 64) : Statement (.keyScan raw) := no_mailbox rfl
theorem Sys2Proof.Laws.WellFormed.encoderStep (encoder : Nat) (lines : BitVec 2) : Statement (.encoderStep encoder lines) := no_mailbox rfl
theorem Sys2Proof.Laws.WellFormed.longPress (key : Nat) : Statement (.longPress key) := no_mailbox rfl
theorem Sys2Proof.Laws.WellFormed.resetCombination (record : Nat) : Statement (.resetCombination record) := no_mailbox rfl
theorem Sys2Proof.Laws.WellFormed.panelStatus (mbx : Nat) : Statement (.panelStatus mbx) := mailbox_at_most rfl fun h => of_decide_eq_true h
theorem Sys2Proof.Laws.WellFormed.panelKeys (mbx : Nat) : Statement (.panelKeys mbx) := mailbox_at_most rfl fun h => of_decide_eq_true h
theorem Sys2Proof.Laws.WellFormed.panelEvents (mbx : Nat) : Statement (.panelEvents mbx) := mailbox_at_most rfl fun h => of_decide_eq_true h
theorem Sys2Proof.Laws.WellFormed.panelDisplay (mbx : Nat) : Statement (.panelDisplay mbx) := mailbox_at_most rfl fun h => of_decide_eq_true h
theorem Sys2Proof.Laws.WellFormed.panelStats (mbx : Nat) : Statement (.panelStats mbx) := mailbox_at_most rfl fun h => of_decide_eq_true h
theorem Sys2Proof.Laws.WellFormed.panelStatsClear (mbx : Nat) : Statement (.panelStatsClear mbx) := mailbox_at_most rfl fun h => of_decide_eq_true h
theorem Sys2Proof.Laws.WellFormed.clockWriteApply : Statement (.clockWriteApply) := no_mailbox rfl
theorem Sys2Proof.Laws.WellFormed.trimCompensation (temperature : Int) : Statement (.trimCompensation temperature) := no_mailbox rfl
theorem Sys2Proof.Laws.WellFormed.vbatCheck (millivolts : Nat) : Statement (.vbatCheck millivolts) := no_mailbox rfl
theorem Sys2Proof.Laws.WellFormed.oscillatorStop : Statement (.oscillatorStop) := no_mailbox rfl
theorem Sys2Proof.Laws.WellFormed.clockRead (mbx : Nat) : Statement (.clockRead mbx) := mailbox_at_most rfl fun h => of_decide_eq_true h
theorem Sys2Proof.Laws.WellFormed.clockSet (mbx : Nat) : Statement (.clockSet mbx) := mailbox_at_most rfl fun h => of_decide_eq_true h
theorem Sys2Proof.Laws.WellFormed.clockConvert (mbx : Nat) : Statement (.clockConvert mbx) := mailbox_at_most rfl fun h => of_decide_eq_true h
theorem Sys2Proof.Laws.WellFormed.clockFlagsClear (mbx : Nat) : Statement (.clockFlagsClear mbx) := mailbox_at_most rfl fun h => of_decide_eq_true h
theorem Sys2Proof.Laws.WellFormed.clockTrim (mbx : Nat) : Statement (.clockTrim mbx) := mailbox_at_most rfl fun h => of_decide_eq_true h
theorem Sys2Proof.Laws.WellFormed.recordWrite : Statement (.recordWrite) := no_mailbox rfl
theorem Sys2Proof.Laws.WellFormed.snapInEdge : Statement (.snapInEdge) := no_mailbox rfl
theorem Sys2Proof.Laws.WellFormed.scheduledStrobe : Statement (.scheduledStrobe) := no_mailbox rfl
theorem Sys2Proof.Laws.WellFormed.snapshotTriggerFrame : Statement (.snapshotTriggerFrame) := no_mailbox rfl
theorem Sys2Proof.Laws.WellFormed.snapshotCopyComplete (bank : Nat) : Statement (.snapshotCopyComplete bank) := no_mailbox rfl
theorem Sys2Proof.Laws.WellFormed.snapOutEnd : Statement (.snapOutEnd) := no_mailbox rfl
theorem Sys2Proof.Laws.WellFormed.logInfo (mbx : Nat) : Statement (.logInfo mbx) := mailbox_at_most rfl fun h => of_decide_eq_true h
theorem Sys2Proof.Laws.WellFormed.logRead (mbx : Nat) : Statement (.logRead mbx) := mailbox_at_most rfl fun h => of_decide_eq_true h
theorem Sys2Proof.Laws.WellFormed.logReadKept (mbx : Nat) : Statement (.logReadKept mbx) := mailbox_at_most rfl fun h => of_decide_eq_true h
theorem Sys2Proof.Laws.WellFormed.logRearm (mbx : Nat) : Statement (.logRearm mbx) := mailbox_at_most rfl fun h => of_decide_eq_true h
theorem Sys2Proof.Laws.WellFormed.logMark (mbx : Nat) : Statement (.logMark mbx) := mailbox_at_most rfl fun h => of_decide_eq_true h
theorem Sys2Proof.Laws.WellFormed.logStats (mbx : Nat) : Statement (.logStats mbx) := mailbox_at_most rfl fun h => of_decide_eq_true h
theorem Sys2Proof.Laws.WellFormed.logStatsClear (mbx : Nat) : Statement (.logStatsClear mbx) := mailbox_at_most rfl fun h => of_decide_eq_true h
theorem Sys2Proof.Laws.WellFormed.snapInfo (mbx : Nat) : Statement (.snapInfo mbx) := mailbox_at_most rfl fun h => of_decide_eq_true h
theorem Sys2Proof.Laws.WellFormed.snapTrigger (mbx : Nat) : Statement (.snapTrigger mbx) := mailbox_at_most rfl fun h => of_decide_eq_true h
theorem Sys2Proof.Laws.WellFormed.snapRead (mbx : Nat) : Statement (.snapRead mbx) := mailbox_at_most rfl fun h => of_decide_eq_true h
theorem Sys2Proof.Laws.WellFormed.snapRelease (mbx : Nat) : Statement (.snapRelease mbx) := mailbox_at_most rfl fun h => of_decide_eq_true h
theorem Sys2Proof.Laws.WellFormed.powerOnReset (backupKept : Bool) : Statement (.powerOnReset backupKept) := no_mailbox rfl
theorem Sys2Proof.Laws.WellFormed.supplyFail : Statement (.supplyFail) := no_mailbox rfl
theorem Sys2Proof.Laws.WellFormed.bootSequence (passed : BitVec 3) : Statement (.bootSequence passed) := no_mailbox rfl
theorem Sys2Proof.Laws.WellFormed.harloporConfirm : Statement (.harloporConfirm) := no_mailbox rfl
theorem Sys2Proof.Laws.WellFormed.confirmDeadline : Statement (.confirmDeadline) := no_mailbox rfl
theorem Sys2Proof.Laws.WellFormed.startWatchdogExpiry : Statement (.startWatchdogExpiry) := no_mailbox rfl
theorem Sys2Proof.Laws.WellFormed.supervisorRestartDeadline : Statement (.supervisorRestartDeadline) := no_mailbox rfl
theorem Sys2Proof.Laws.WellFormed.leaveRestart : Statement (.leaveRestart) := no_mailbox rfl
theorem Sys2Proof.Laws.WellFormed.startConfirm (mbx : Nat) : Statement (.startConfirm mbx) := mailbox_at_most rfl fun h => of_decide_eq_true h
theorem Sys2Proof.Laws.WellFormed.startLedger (mbx : Nat) : Statement (.startLedger mbx) := mailbox_at_most rfl fun h => of_decide_eq_true h
theorem Sys2Proof.Laws.WellFormed.startReason (mbx : Nat) : Statement (.startReason mbx) := mailbox_at_most rfl fun h => of_decide_eq_true h
theorem Sys2Proof.Laws.WellFormed.startSessionOpen (mbx : Nat) : Statement (.startSessionOpen mbx) := mailbox_at_most rfl fun h => of_decide_eq_true h
theorem Sys2Proof.Laws.WellFormed.startLeave (mbx : Nat) : Statement (.startLeave mbx) := mailbox_at_most rfl fun h => of_decide_eq_true h
theorem Sys2Proof.Laws.WellFormed.startFallow (mbx : Nat) : Statement (.startFallow mbx) := mailbox_at_most rfl fun h => of_decide_eq_true h
theorem Sys2Proof.Laws.WellFormed.startSelect (mbx : Nat) : Statement (.startSelect mbx) := mailbox_at_most rfl fun h => of_decide_eq_true h
theorem Sys2Proof.Laws.WellFormed.startThreshold (mbx : Nat) : Statement (.startThreshold mbx) := mailbox_at_most rfl fun h => of_decide_eq_true h
theorem Sys2Proof.Laws.WellFormed.startTest (mbx : Nat) : Statement (.startTest mbx) := mailbox_at_most rfl fun h => of_decide_eq_true h
theorem Sys2Proof.Laws.WellFormed.startFallowMap (mbx : Nat) : Statement (.startFallowMap mbx) := mailbox_at_most rfl fun h => of_decide_eq_true h
theorem Sys2Proof.Laws.WellFormed.lockstepMismatch : Statement (.lockstepMismatch) := no_mailbox rfl
theorem Sys2Proof.Laws.WellFormed.selfTestComplete (passed : BitVec 3) (micros : Nat) : Statement (.selfTestComplete passed micros) := no_mailbox rfl
theorem Sys2Proof.Laws.WellFormed.swapResume : Statement (.swapResume) := no_mailbox rfl
theorem Sys2Proof.Laws.WellFormed.wearMeasurement (kind unit wear : Nat) : Statement (.wearMeasurement kind unit wear) := no_mailbox rfl
theorem Sys2Proof.Laws.WellFormed.eccCorrection (kind unit : Nat) : Statement (.eccCorrection kind unit) := no_mailbox rfl
theorem Sys2Proof.Laws.WellFormed.uncorrectableError (kind unit offset region place : Nat) : Statement (.uncorrectableError kind unit offset region place) := no_mailbox rfl
theorem Sys2Proof.Laws.WellFormed.rowRemap (kind unit : Nat) : Statement (.rowRemap kind unit) := no_mailbox rfl
theorem Sys2Proof.Laws.WellFormed.ageingSample (temperature : Int) : Statement (.ageingSample temperature) := no_mailbox rfl
theorem Sys2Proof.Laws.WellFormed.spareInfo (mbx : Nat) : Statement (.spareInfo mbx) := mailbox_at_most rfl fun h => of_decide_eq_true h
theorem Sys2Proof.Laws.WellFormed.spareLedger (mbx : Nat) : Statement (.spareLedger mbx) := mailbox_at_most rfl fun h => of_decide_eq_true h
theorem Sys2Proof.Laws.WellFormed.spareWear (mbx : Nat) : Statement (.spareWear mbx) := mailbox_at_most rfl fun h => of_decide_eq_true h
theorem Sys2Proof.Laws.WellFormed.spareProfile (mbx : Nat) : Statement (.spareProfile mbx) := mailbox_at_most rfl fun h => of_decide_eq_true h
theorem Sys2Proof.Laws.WellFormed.spareSwap (mbx : Nat) : Statement (.spareSwap mbx) := mailbox_at_most rfl fun h => of_decide_eq_true h
theorem Sys2Proof.Laws.WellFormed.substitutionComplete : Statement (.substitutionComplete) := no_mailbox rfl
theorem Sys2Proof.Laws.WellFormed.secSessionOpen (mbx : Nat) : Statement (.secSessionOpen mbx) := mailbox_at_most rfl fun h => of_decide_eq_true h
theorem Sys2Proof.Laws.WellFormed.secSessionClose (mbx : Nat) : Statement (.secSessionClose mbx) := mailbox_at_most rfl fun h => of_decide_eq_true h
theorem Sys2Proof.Laws.WellFormed.secIdentity (mbx : Nat) : Statement (.secIdentity mbx) := mailbox_at_most rfl fun h => of_decide_eq_true h
theorem Sys2Proof.Laws.WellFormed.secAttest (mbx : Nat) : Statement (.secAttest mbx) := mailbox_at_most rfl fun h => of_decide_eq_true h
theorem Sys2Proof.Laws.WellFormed.attestationComplete : Statement (.attestationComplete) := no_mailbox rfl
theorem Sys2Proof.Laws.WellFormed.secObjectRead (mbx : Nat) : Statement (.secObjectRead mbx) := mailbox_at_most rfl fun h => of_decide_eq_true h
theorem Sys2Proof.Laws.WellFormed.secKeys (mbx : Nat) : Statement (.secKeys mbx) := mailbox_at_most rfl fun h => of_decide_eq_true h
theorem Sys2Proof.Laws.WellFormed.secKeySet (mbx : Nat) : Statement (.secKeySet mbx) := mailbox_at_most rfl fun h => of_decide_eq_true h
theorem Sys2Proof.Laws.WellFormed.secCounters (mbx : Nat) : Statement (.secCounters mbx) := mailbox_at_most rfl fun h => of_decide_eq_true h
theorem Sys2Proof.Laws.WellFormed.secRelinquish (mbx : Nat) : Statement (.secRelinquish mbx) := mailbox_at_most rfl fun h => of_decide_eq_true h
theorem Sys2Proof.Laws.WellFormed.railMonitor (millivolts : List Nat) (temperature : Int) : Statement (.railMonitor millivolts temperature) := no_mailbox rfl
theorem Sys2Proof.Laws.WellFormed.readbackCheck (levels : BitVec 40) : Statement (.readbackCheck levels) := no_mailbox rfl
theorem Sys2Proof.Laws.WellFormed.pinOutputs (mbx : Nat) : Statement (.pinOutputs mbx) := mailbox_at_most rfl fun h => of_decide_eq_true h
theorem Sys2Proof.Laws.WellFormed.pinWrite (mbx : Nat) : Statement (.pinWrite mbx) := mailbox_at_most rfl fun h => of_decide_eq_true h
theorem Sys2Proof.Laws.WellFormed.pinClaim (mbx : Nat) : Statement (.pinClaim mbx) := mailbox_at_most rfl fun h => of_decide_eq_true h
theorem Sys2Proof.Laws.WellFormed.pinBalls (mbx : Nat) : Statement (.pinBalls mbx) := mailbox_at_most rfl fun h => of_decide_eq_true h
theorem Sys2Proof.Laws.WellFormed.pinSupply (mbx : Nat) : Statement (.pinSupply mbx) := mailbox_at_most rfl fun h => of_decide_eq_true h
theorem Sys2Proof.Laws.WellFormed.clockTick : Statement (.clockTick) := no_mailbox rfl
theorem Sys2Proof.Laws.WellFormed.oscillatorRestart : Statement (.oscillatorRestart) := no_mailbox rfl
theorem Sys2Proof.Laws.WellFormed.masterMarkTimeout : Statement (.masterMarkTimeout) := no_mailbox rfl
theorem Sys2Proof.Laws.WellFormed.serdesWake (port : Nat) : Statement (.serdesWake port) := no_mailbox rfl
theorem Sys2Proof.Laws.WellFormed.canIntegrated (channel : Nat) : Statement (.canIntegrated channel) := no_mailbox rfl
theorem Sys2Proof.Laws.WellFormed.canReceiveError (channel : Nat) (ident : Option Nat) : Statement (.canReceiveError channel ident) := no_mailbox rfl
theorem Sys2Proof.Laws.WellFormed.meterSample (l1 l2 l3 : MeterPair) : Statement (.meterSample l1 l2 l3) := no_mailbox rfl
theorem Sys2Proof.Laws.WellFormed.encoderTransition (encoder : Nat) (lines : BitVec 2) : Statement (.encoderTransition encoder lines) := no_mailbox rfl
theorem Sys2Proof.Laws.WellFormed.pllLossOfLock : Statement (.pllLossOfLock) := no_mailbox rfl
end

