-- ==== Sys2Proof/Laws/Serve.lean ====
section
/-! SUPPORT. What serving a verb does, said once: what a request that is asked, turned away at the door, or absent leads to. -/

namespace Sys2Proof.Machine

/-- What `asked` says, taken apart. -/
theorem asked_iff {s : State} {m code role : Nat} {lenOk : Nat → Bool} {c : Call} (h : asked s m code role lenOk c = true) :
    serving s = true ∧ c.mbx = m ∧ c.req.hdr.code = code ∧
      (∃ e, waitingEntry s m = some e ∧ e.req = c.req ∧ e.started = false ∧ turn s m e = true) ∧ entryCheck s m c.req role lenOk = .ok c.role := by
  unfold asked at h
  simp only [Bool.and_eq_true, beq_iff_eq] at h
  obtain ⟨⟨⟨⟨h1, h2⟩, h3⟩, h4⟩, h5⟩ := h
  refine ⟨h1, h2, h3, ?_, ?_⟩
  · split at h4
    · cases h4
    · rename_i e he
      simp only [Bool.and_eq_true, beq_iff_eq, Bool.not_eq_true'] at h4
      exact ⟨e, he, h4.1.1, h4.1.2, h4.2⟩
  · split at h5
    · cases h5
    · rename_i r hr
      rw [hr, eq_of_beq h5]

/-- A request that is asked runs the body of its verb. -/
theorem serveLater_of_asked {s : State} {m code role : Nat} {lenOk : Nat → Bool} {c : Call}
    (body : Call → State → State × Option Answer) (h : asked s m code role lenOk c = true) :
    serveLater code role lenOk body m s =
      match (body c s).2 with
      | some a => answer m a (body c s).1
      | none => (body c s).1.setEntries m (startFirst ((body c s).1.entries m)) := by
  obtain ⟨h1, h2, h3, ⟨e, he, hr, hs, ht⟩, h5⟩ := asked_iff h
  obtain ⟨mb, rq, ro⟩ := c
  simp only at h2 hr h3 h5
  subst h2 hr
  unfold serveLater
  simp only [h1, he, h3, hs, h5, ht, if_true, and_self]
  all_goals rfl

/-- A verb that answers at once, when asked. -/
theorem serve_of_asked {s : State} {m code role : Nat} {lenOk : Nat → Bool} {c : Call} (body : Call → State → State × Answer)
    (h : asked s m code role lenOk c = true) : serve code role lenOk body m s = answer m (body c s).2 (body c s).1 := by
  unfold serve
  rw [serveLater_of_asked _ h]

/-- A verb that only reads, when asked. -/
theorem serveRead_of_asked {s : State} {m code role : Nat} {lenOk : Nat → Bool} {c : Call} (body : Call → State → Answer)
    (h : asked s m code role lenOk c = true) : serveRead code role lenOk body m s = answer m (body c s) s := by
  unfold serveRead
  rw [serve_of_asked _ h]

/-- With no supervisor to serve, a verb changes nothing. -/
theorem serveLater_of_not_serving {s : State} {m code role : Nat} {lenOk : Nat → Bool} (body : Call → State → State × Option Answer)
    (h : serving s = false) : serveLater code role lenOk body m s = s := by
  unfold serveLater
  simp [h]

/-- With no request waiting, a verb changes nothing. -/
theorem serveLater_of_idle {s : State} {m code role : Nat} {lenOk : Nat → Bool} (body : Call → State → State × Option Answer)
    (h : waitingEntry s m = none) : serveLater code role lenOk body m s = s := by
  unfold serveLater
  simp [h]

/-- The request of another verb is left waiting. -/
theorem serveLater_of_other {s : State} {m code role : Nat} {lenOk : Nat → Bool} {e : Entry}
    (body : Call → State → State × Option Answer) (he : waitingEntry s m = some e) (h : e.req.hdr.code ≠ code) :
    serveLater code role lenOk body m s = s := by
  unfold serveLater
  simp [he, h]

/-- A request that fails a check of R73 is answered with that status, and nothing of the verb happens. -/
theorem serveLater_of_refused {s : State} {m code role st : Nat} {lenOk : Nat → Bool} {e : Entry}
    (body : Call → State → State × Option Answer) (h1 : serving s = true) (he : waitingEntry s m = some e)
    (hc : e.req.hdr.code = code) (hs : e.started = false) (ht : turn s m e = true) (hr : entryCheck s m e.req role lenOk = .error st) :
    serveLater code role lenOk body m s = answer m (bad st) s := by
  unfold serveLater
  simp [h1, he, hc, hs, ht, hr, bad]

/-- A read verb completes as its body says. -/
theorem reads_of_body {i : Nat → Instr} {code role : Nat} {lenOk : Nat → Bool} {good : Call → State → Prop}
    {payload : Call → State → List Byte} (body : Call → State → Answer)
    (hi : ∀ m s, exec (i m) s = .next (serveRead code role lenOk body m s))
    (hb : ∀ c s, good c s → body c s = ok (payload c s)) : Reads i code role lenOk good payload := by
  intro m s c h g
  rw [hi, serveRead_of_asked _ h, hb c s g]

/-- A verb completes as its body says. -/
theorem completes_of_body {i : Nat → Instr} {code role : Nat} {lenOk : Nat → Bool} {good : Call → State → Prop}
    {effect : Call → State → State} {payload : Call → State → List Byte} (body : Call → State → State × Answer)
    (hi : ∀ m s, exec (i m) s = .next (serve code role lenOk body m s))
    (hb : ∀ c s, good c s → body c s = (effect c s, ok (payload c s))) : Completes i code role lenOk good effect payload := by
  intro m s c h g
  rw [hi, serve_of_asked _ h, hb c s g]

/-- A verb is turned away as its body says. -/
theorem turnsAway_of_body {i : Nat → Instr} {code role st : Nat} {lenOk : Nat → Bool} {w : Call → State → Prop}
    (body : Call → State → State × Answer) (hi : ∀ m s, exec (i m) s = .next (serve code role lenOk body m s))
    (hb : ∀ c s, w c s → body c s = (s, bad st)) : TurnsAway i code role lenOk w st := by
  intro m s c h g
  rw [hi, serve_of_asked _ h, hb c s g]

/-- A verb that answers later starts when its body gives no answer yet. -/
theorem starts_of_body {i : Nat → Instr} {code role : Nat} {lenOk : Nat → Bool} {good : Call → State → Prop}
    {effect : Call → State → State} (body : Call → State → State × Option Answer)
    (hi : ∀ m s, exec (i m) s = .next (serveLater code role lenOk body m s))
    (hb : ∀ c s, good c s → body c s = (effect c s, none)) : Starts i code role lenOk good effect := by
  intro m s c h g
  rw [hi, serveLater_of_asked _ h, hb c s g]

end Sys2Proof.Machine
end

