-- ==== Sys2Proof/Laws/State.lean ====
section
/-! SUPPORT. One lemma for each field under each update of State, true by computation: what a setter of one table or register leaves as it was, and what it writes. -/

namespace Sys2Proof.Machine

/-! ### setFanOut -/

@[simp] theorem State.setFanOut_fan (s : State) (i : Nat) (x : FanOutput) : (s.setFanOut i x).fan = { s.fan with outputs := fput {} s.fan.outputs i x } := rfl
@[simp] theorem State.setFanOut_cfg (s : State) (i : Nat) (x : FanOutput) : (s.setFanOut i x).cfg = s.cfg := rfl
@[simp] theorem State.setFanOut_phase (s : State) (i : Nat) (x : FanOutput) : (s.setFanOut i x).phase = s.phase := rfl
@[simp] theorem State.setFanOut_abacus (s : State) (i : Nat) (x : FanOutput) : (s.setFanOut i x).abacus = s.abacus := rfl
@[simp] theorem State.setFanOut_carry (s : State) (i : Nat) (x : FanOutput) : (s.setFanOut i x).carry = s.carry := rfl
@[simp] theorem State.setFanOut_reck (s : State) (i : Nat) (x : FanOutput) : (s.setFanOut i x).reck = s.reck := rfl
@[simp] theorem State.setFanOut_engine (s : State) (i : Nat) (x : FanOutput) : (s.setFanOut i x).engine = s.engine := rfl
@[simp] theorem State.setFanOut_commons (s : State) (i : Nat) (x : FanOutput) : (s.setFanOut i x).commons = s.commons := rfl
@[simp] theorem State.setFanOut_ring (s : State) (i : Nat) (x : FanOutput) : (s.setFanOut i x).ring = s.ring := rfl
@[simp] theorem State.setFanOut_fbus (s : State) (i : Nat) (x : FanOutput) : (s.setFanOut i x).fbus = s.fbus := rfl
@[simp] theorem State.setFanOut_cfp (s : State) (i : Nat) (x : FanOutput) : (s.setFanOut i x).cfp = s.cfp := rfl
@[simp] theorem State.setFanOut_valve (s : State) (i : Nat) (x : FanOutput) : (s.setFanOut i x).valve = s.valve := rfl
@[simp] theorem State.setFanOut_vent (s : State) (i : Nat) (x : FanOutput) : (s.setFanOut i x).vent = s.vent := rfl
@[simp] theorem State.setFanOut_sense (s : State) (i : Nat) (x : FanOutput) : (s.setFanOut i x).sense = s.sense := rfl
@[simp] theorem State.setFanOut_panel (s : State) (i : Nat) (x : FanOutput) : (s.setFanOut i x).panel = s.panel := rfl
@[simp] theorem State.setFanOut_clock (s : State) (i : Nat) (x : FanOutput) : (s.setFanOut i x).clock = s.clock := rfl
@[simp] theorem State.setFanOut_recorder (s : State) (i : Nat) (x : FanOutput) : (s.setFanOut i x).recorder = s.recorder := rfl
@[simp] theorem State.setFanOut_hif (s : State) (i : Nat) (x : FanOutput) : (s.setFanOut i x).hif = s.hif := rfl
@[simp] theorem State.setFanOut_mail (s : State) (i : Nat) (x : FanOutput) : (s.setFanOut i x).mail = s.mail := rfl
@[simp] theorem State.setFanOut_snap (s : State) (i : Nat) (x : FanOutput) : (s.setFanOut i x).snap = s.snap := rfl
@[simp] theorem State.setFanOut_start (s : State) (i : Nat) (x : FanOutput) : (s.setFanOut i x).start = s.start := rfl
@[simp] theorem State.setFanOut_super (s : State) (i : Nat) (x : FanOutput) : (s.setFanOut i x).super = s.super := rfl
@[simp] theorem State.setFanOut_spare (s : State) (i : Nat) (x : FanOutput) : (s.setFanOut i x).spare = s.spare := rfl
@[simp] theorem State.setFanOut_sec (s : State) (i : Nat) (x : FanOutput) : (s.setFanOut i x).sec = s.sec := rfl
@[simp] theorem State.setFanOut_pins (s : State) (i : Nat) (x : FanOutput) : (s.setFanOut i x).pins = s.pins := rfl
@[simp] theorem State.setFanOut_window (s : State) (i : Nat) (x : FanOutput) : (s.setFanOut i x).window = s.window := rfl
@[simp] theorem State.setFanOut_free (s : State) (i : Nat) (x : FanOutput) : (s.setFanOut i x).free = s.free := rfl
@[simp] theorem State.setFanOut_pending (s : State) (i : Nat) (x : FanOutput) : (s.setFanOut i x).pending = s.pending := rfl
theorem State.fanOut_setFanOut (s : State) (i : Nat) (x : FanOutput) (h : fwf {} s.fan.outputs = true) : (s.setFanOut i x).fanOut i = x := fget_fput_same _ _ h
theorem State.fanOut_setFanOut_other (s : State) (i : Nat) (x : FanOutput) {j : Nat} (h : j ≠ i) : (s.setFanOut i x).fanOut j = s.fanOut j := fget_fput_other _ h

/-! ### setFanGroup -/

@[simp] theorem State.setFanGroup_fan (s : State) (g : Nat) (x : FanGroup) : (s.setFanGroup g x).fan = { s.fan with groups := fput {} s.fan.groups g x } := rfl
@[simp] theorem State.setFanGroup_cfg (s : State) (g : Nat) (x : FanGroup) : (s.setFanGroup g x).cfg = s.cfg := rfl
@[simp] theorem State.setFanGroup_phase (s : State) (g : Nat) (x : FanGroup) : (s.setFanGroup g x).phase = s.phase := rfl
@[simp] theorem State.setFanGroup_abacus (s : State) (g : Nat) (x : FanGroup) : (s.setFanGroup g x).abacus = s.abacus := rfl
@[simp] theorem State.setFanGroup_carry (s : State) (g : Nat) (x : FanGroup) : (s.setFanGroup g x).carry = s.carry := rfl
@[simp] theorem State.setFanGroup_reck (s : State) (g : Nat) (x : FanGroup) : (s.setFanGroup g x).reck = s.reck := rfl
@[simp] theorem State.setFanGroup_engine (s : State) (g : Nat) (x : FanGroup) : (s.setFanGroup g x).engine = s.engine := rfl
@[simp] theorem State.setFanGroup_commons (s : State) (g : Nat) (x : FanGroup) : (s.setFanGroup g x).commons = s.commons := rfl
@[simp] theorem State.setFanGroup_ring (s : State) (g : Nat) (x : FanGroup) : (s.setFanGroup g x).ring = s.ring := rfl
@[simp] theorem State.setFanGroup_fbus (s : State) (g : Nat) (x : FanGroup) : (s.setFanGroup g x).fbus = s.fbus := rfl
@[simp] theorem State.setFanGroup_cfp (s : State) (g : Nat) (x : FanGroup) : (s.setFanGroup g x).cfp = s.cfp := rfl
@[simp] theorem State.setFanGroup_valve (s : State) (g : Nat) (x : FanGroup) : (s.setFanGroup g x).valve = s.valve := rfl
@[simp] theorem State.setFanGroup_vent (s : State) (g : Nat) (x : FanGroup) : (s.setFanGroup g x).vent = s.vent := rfl
@[simp] theorem State.setFanGroup_sense (s : State) (g : Nat) (x : FanGroup) : (s.setFanGroup g x).sense = s.sense := rfl
@[simp] theorem State.setFanGroup_panel (s : State) (g : Nat) (x : FanGroup) : (s.setFanGroup g x).panel = s.panel := rfl
@[simp] theorem State.setFanGroup_clock (s : State) (g : Nat) (x : FanGroup) : (s.setFanGroup g x).clock = s.clock := rfl
@[simp] theorem State.setFanGroup_recorder (s : State) (g : Nat) (x : FanGroup) : (s.setFanGroup g x).recorder = s.recorder := rfl
@[simp] theorem State.setFanGroup_hif (s : State) (g : Nat) (x : FanGroup) : (s.setFanGroup g x).hif = s.hif := rfl
@[simp] theorem State.setFanGroup_mail (s : State) (g : Nat) (x : FanGroup) : (s.setFanGroup g x).mail = s.mail := rfl
@[simp] theorem State.setFanGroup_snap (s : State) (g : Nat) (x : FanGroup) : (s.setFanGroup g x).snap = s.snap := rfl
@[simp] theorem State.setFanGroup_start (s : State) (g : Nat) (x : FanGroup) : (s.setFanGroup g x).start = s.start := rfl
@[simp] theorem State.setFanGroup_super (s : State) (g : Nat) (x : FanGroup) : (s.setFanGroup g x).super = s.super := rfl
@[simp] theorem State.setFanGroup_spare (s : State) (g : Nat) (x : FanGroup) : (s.setFanGroup g x).spare = s.spare := rfl
@[simp] theorem State.setFanGroup_sec (s : State) (g : Nat) (x : FanGroup) : (s.setFanGroup g x).sec = s.sec := rfl
@[simp] theorem State.setFanGroup_pins (s : State) (g : Nat) (x : FanGroup) : (s.setFanGroup g x).pins = s.pins := rfl
@[simp] theorem State.setFanGroup_window (s : State) (g : Nat) (x : FanGroup) : (s.setFanGroup g x).window = s.window := rfl
@[simp] theorem State.setFanGroup_free (s : State) (g : Nat) (x : FanGroup) : (s.setFanGroup g x).free = s.free := rfl
@[simp] theorem State.setFanGroup_pending (s : State) (g : Nat) (x : FanGroup) : (s.setFanGroup g x).pending = s.pending := rfl
theorem State.fanGroup_setFanGroup (s : State) (g : Nat) (x : FanGroup) (h : fwf {} s.fan.groups = true) : (s.setFanGroup g x).fanGroup g = x := fget_fput_same _ _ h
theorem State.fanGroup_setFanGroup_other (s : State) (g : Nat) (x : FanGroup) {j : Nat} (h : j ≠ g) : (s.setFanGroup g x).fanGroup j = s.fanGroup j := fget_fput_other _ h

/-! ### setRecorder -/

@[simp] theorem State.setRecorder_recorder (s : State) (x : Recorder) : (s.setRecorder x).recorder = x := rfl
@[simp] theorem State.setRecorder_cfg (s : State) (x : Recorder) : (s.setRecorder x).cfg = s.cfg := rfl
@[simp] theorem State.setRecorder_phase (s : State) (x : Recorder) : (s.setRecorder x).phase = s.phase := rfl
@[simp] theorem State.setRecorder_abacus (s : State) (x : Recorder) : (s.setRecorder x).abacus = s.abacus := rfl
@[simp] theorem State.setRecorder_carry (s : State) (x : Recorder) : (s.setRecorder x).carry = s.carry := rfl
@[simp] theorem State.setRecorder_reck (s : State) (x : Recorder) : (s.setRecorder x).reck = s.reck := rfl
@[simp] theorem State.setRecorder_engine (s : State) (x : Recorder) : (s.setRecorder x).engine = s.engine := rfl
@[simp] theorem State.setRecorder_commons (s : State) (x : Recorder) : (s.setRecorder x).commons = s.commons := rfl
@[simp] theorem State.setRecorder_ring (s : State) (x : Recorder) : (s.setRecorder x).ring = s.ring := rfl
@[simp] theorem State.setRecorder_fbus (s : State) (x : Recorder) : (s.setRecorder x).fbus = s.fbus := rfl
@[simp] theorem State.setRecorder_cfp (s : State) (x : Recorder) : (s.setRecorder x).cfp = s.cfp := rfl
@[simp] theorem State.setRecorder_valve (s : State) (x : Recorder) : (s.setRecorder x).valve = s.valve := rfl
@[simp] theorem State.setRecorder_fan (s : State) (x : Recorder) : (s.setRecorder x).fan = s.fan := rfl
@[simp] theorem State.setRecorder_vent (s : State) (x : Recorder) : (s.setRecorder x).vent = s.vent := rfl
@[simp] theorem State.setRecorder_sense (s : State) (x : Recorder) : (s.setRecorder x).sense = s.sense := rfl
@[simp] theorem State.setRecorder_panel (s : State) (x : Recorder) : (s.setRecorder x).panel = s.panel := rfl
@[simp] theorem State.setRecorder_clock (s : State) (x : Recorder) : (s.setRecorder x).clock = s.clock := rfl
@[simp] theorem State.setRecorder_hif (s : State) (x : Recorder) : (s.setRecorder x).hif = s.hif := rfl
@[simp] theorem State.setRecorder_mail (s : State) (x : Recorder) : (s.setRecorder x).mail = s.mail := rfl
@[simp] theorem State.setRecorder_snap (s : State) (x : Recorder) : (s.setRecorder x).snap = s.snap := rfl
@[simp] theorem State.setRecorder_start (s : State) (x : Recorder) : (s.setRecorder x).start = s.start := rfl
@[simp] theorem State.setRecorder_super (s : State) (x : Recorder) : (s.setRecorder x).super = s.super := rfl
@[simp] theorem State.setRecorder_spare (s : State) (x : Recorder) : (s.setRecorder x).spare = s.spare := rfl
@[simp] theorem State.setRecorder_sec (s : State) (x : Recorder) : (s.setRecorder x).sec = s.sec := rfl
@[simp] theorem State.setRecorder_pins (s : State) (x : Recorder) : (s.setRecorder x).pins = s.pins := rfl
@[simp] theorem State.setRecorder_window (s : State) (x : Recorder) : (s.setRecorder x).window = s.window := rfl
@[simp] theorem State.setRecorder_free (s : State) (x : Recorder) : (s.setRecorder x).free = s.free := rfl
@[simp] theorem State.setRecorder_pending (s : State) (x : Recorder) : (s.setRecorder x).pending = s.pending := rfl

/-! ### setPanel -/

@[simp] theorem State.setPanel_panel (s : State) (x : Panel) : (s.setPanel x).panel = x := rfl
@[simp] theorem State.setPanel_cfg (s : State) (x : Panel) : (s.setPanel x).cfg = s.cfg := rfl
@[simp] theorem State.setPanel_phase (s : State) (x : Panel) : (s.setPanel x).phase = s.phase := rfl
@[simp] theorem State.setPanel_abacus (s : State) (x : Panel) : (s.setPanel x).abacus = s.abacus := rfl
@[simp] theorem State.setPanel_carry (s : State) (x : Panel) : (s.setPanel x).carry = s.carry := rfl
@[simp] theorem State.setPanel_reck (s : State) (x : Panel) : (s.setPanel x).reck = s.reck := rfl
@[simp] theorem State.setPanel_engine (s : State) (x : Panel) : (s.setPanel x).engine = s.engine := rfl
@[simp] theorem State.setPanel_commons (s : State) (x : Panel) : (s.setPanel x).commons = s.commons := rfl
@[simp] theorem State.setPanel_ring (s : State) (x : Panel) : (s.setPanel x).ring = s.ring := rfl
@[simp] theorem State.setPanel_fbus (s : State) (x : Panel) : (s.setPanel x).fbus = s.fbus := rfl
@[simp] theorem State.setPanel_cfp (s : State) (x : Panel) : (s.setPanel x).cfp = s.cfp := rfl
@[simp] theorem State.setPanel_valve (s : State) (x : Panel) : (s.setPanel x).valve = s.valve := rfl
@[simp] theorem State.setPanel_fan (s : State) (x : Panel) : (s.setPanel x).fan = s.fan := rfl
@[simp] theorem State.setPanel_vent (s : State) (x : Panel) : (s.setPanel x).vent = s.vent := rfl
@[simp] theorem State.setPanel_sense (s : State) (x : Panel) : (s.setPanel x).sense = s.sense := rfl
@[simp] theorem State.setPanel_clock (s : State) (x : Panel) : (s.setPanel x).clock = s.clock := rfl
@[simp] theorem State.setPanel_recorder (s : State) (x : Panel) : (s.setPanel x).recorder = s.recorder := rfl
@[simp] theorem State.setPanel_hif (s : State) (x : Panel) : (s.setPanel x).hif = s.hif := rfl
@[simp] theorem State.setPanel_mail (s : State) (x : Panel) : (s.setPanel x).mail = s.mail := rfl
@[simp] theorem State.setPanel_snap (s : State) (x : Panel) : (s.setPanel x).snap = s.snap := rfl
@[simp] theorem State.setPanel_start (s : State) (x : Panel) : (s.setPanel x).start = s.start := rfl
@[simp] theorem State.setPanel_super (s : State) (x : Panel) : (s.setPanel x).super = s.super := rfl
@[simp] theorem State.setPanel_spare (s : State) (x : Panel) : (s.setPanel x).spare = s.spare := rfl
@[simp] theorem State.setPanel_sec (s : State) (x : Panel) : (s.setPanel x).sec = s.sec := rfl
@[simp] theorem State.setPanel_pins (s : State) (x : Panel) : (s.setPanel x).pins = s.pins := rfl
@[simp] theorem State.setPanel_window (s : State) (x : Panel) : (s.setPanel x).window = s.window := rfl
@[simp] theorem State.setPanel_free (s : State) (x : Panel) : (s.setPanel x).free = s.free := rfl
@[simp] theorem State.setPanel_pending (s : State) (x : Panel) : (s.setPanel x).pending = s.pending := rfl

/-! ### setVentCh -/

@[simp] theorem State.setVentCh_vent (s : State) (n : Nat) (x : VentChannel) : (s.setVentCh n x).vent = { s.vent with channels := fput {} s.vent.channels n x } := rfl
@[simp] theorem State.setVentCh_cfg (s : State) (n : Nat) (x : VentChannel) : (s.setVentCh n x).cfg = s.cfg := rfl
@[simp] theorem State.setVentCh_phase (s : State) (n : Nat) (x : VentChannel) : (s.setVentCh n x).phase = s.phase := rfl
@[simp] theorem State.setVentCh_abacus (s : State) (n : Nat) (x : VentChannel) : (s.setVentCh n x).abacus = s.abacus := rfl
@[simp] theorem State.setVentCh_carry (s : State) (n : Nat) (x : VentChannel) : (s.setVentCh n x).carry = s.carry := rfl
@[simp] theorem State.setVentCh_reck (s : State) (n : Nat) (x : VentChannel) : (s.setVentCh n x).reck = s.reck := rfl
@[simp] theorem State.setVentCh_engine (s : State) (n : Nat) (x : VentChannel) : (s.setVentCh n x).engine = s.engine := rfl
@[simp] theorem State.setVentCh_commons (s : State) (n : Nat) (x : VentChannel) : (s.setVentCh n x).commons = s.commons := rfl
@[simp] theorem State.setVentCh_ring (s : State) (n : Nat) (x : VentChannel) : (s.setVentCh n x).ring = s.ring := rfl
@[simp] theorem State.setVentCh_fbus (s : State) (n : Nat) (x : VentChannel) : (s.setVentCh n x).fbus = s.fbus := rfl
@[simp] theorem State.setVentCh_cfp (s : State) (n : Nat) (x : VentChannel) : (s.setVentCh n x).cfp = s.cfp := rfl
@[simp] theorem State.setVentCh_valve (s : State) (n : Nat) (x : VentChannel) : (s.setVentCh n x).valve = s.valve := rfl
@[simp] theorem State.setVentCh_fan (s : State) (n : Nat) (x : VentChannel) : (s.setVentCh n x).fan = s.fan := rfl
@[simp] theorem State.setVentCh_sense (s : State) (n : Nat) (x : VentChannel) : (s.setVentCh n x).sense = s.sense := rfl
@[simp] theorem State.setVentCh_panel (s : State) (n : Nat) (x : VentChannel) : (s.setVentCh n x).panel = s.panel := rfl
@[simp] theorem State.setVentCh_clock (s : State) (n : Nat) (x : VentChannel) : (s.setVentCh n x).clock = s.clock := rfl
@[simp] theorem State.setVentCh_recorder (s : State) (n : Nat) (x : VentChannel) : (s.setVentCh n x).recorder = s.recorder := rfl
@[simp] theorem State.setVentCh_hif (s : State) (n : Nat) (x : VentChannel) : (s.setVentCh n x).hif = s.hif := rfl
@[simp] theorem State.setVentCh_mail (s : State) (n : Nat) (x : VentChannel) : (s.setVentCh n x).mail = s.mail := rfl
@[simp] theorem State.setVentCh_snap (s : State) (n : Nat) (x : VentChannel) : (s.setVentCh n x).snap = s.snap := rfl
@[simp] theorem State.setVentCh_start (s : State) (n : Nat) (x : VentChannel) : (s.setVentCh n x).start = s.start := rfl
@[simp] theorem State.setVentCh_super (s : State) (n : Nat) (x : VentChannel) : (s.setVentCh n x).super = s.super := rfl
@[simp] theorem State.setVentCh_spare (s : State) (n : Nat) (x : VentChannel) : (s.setVentCh n x).spare = s.spare := rfl
@[simp] theorem State.setVentCh_sec (s : State) (n : Nat) (x : VentChannel) : (s.setVentCh n x).sec = s.sec := rfl
@[simp] theorem State.setVentCh_pins (s : State) (n : Nat) (x : VentChannel) : (s.setVentCh n x).pins = s.pins := rfl
@[simp] theorem State.setVentCh_window (s : State) (n : Nat) (x : VentChannel) : (s.setVentCh n x).window = s.window := rfl
@[simp] theorem State.setVentCh_free (s : State) (n : Nat) (x : VentChannel) : (s.setVentCh n x).free = s.free := rfl
@[simp] theorem State.setVentCh_pending (s : State) (n : Nat) (x : VentChannel) : (s.setVentCh n x).pending = s.pending := rfl
theorem State.ventCh_setVentCh (s : State) (n : Nat) (x : VentChannel) (h : fwf {} s.vent.channels = true) : (s.setVentCh n x).ventCh n = x := fget_fput_same _ _ h
theorem State.ventCh_setVentCh_other (s : State) (n : Nat) (x : VentChannel) {j : Nat} (h : j ≠ n) : (s.setVentCh n x).ventCh j = s.ventCh j := fget_fput_other _ h

/-! ### setCalendar -/

@[simp] theorem State.setCalendar_abacus (s : State) (bead : Nat) (c : Calendar) : (s.setCalendar bead c).abacus = { s.abacus with calendar := fput {} s.abacus.calendar bead c } := rfl
@[simp] theorem State.setCalendar_cfg (s : State) (bead : Nat) (c : Calendar) : (s.setCalendar bead c).cfg = s.cfg := rfl
@[simp] theorem State.setCalendar_phase (s : State) (bead : Nat) (c : Calendar) : (s.setCalendar bead c).phase = s.phase := rfl
@[simp] theorem State.setCalendar_carry (s : State) (bead : Nat) (c : Calendar) : (s.setCalendar bead c).carry = s.carry := rfl
@[simp] theorem State.setCalendar_reck (s : State) (bead : Nat) (c : Calendar) : (s.setCalendar bead c).reck = s.reck := rfl
@[simp] theorem State.setCalendar_engine (s : State) (bead : Nat) (c : Calendar) : (s.setCalendar bead c).engine = s.engine := rfl
@[simp] theorem State.setCalendar_commons (s : State) (bead : Nat) (c : Calendar) : (s.setCalendar bead c).commons = s.commons := rfl
@[simp] theorem State.setCalendar_ring (s : State) (bead : Nat) (c : Calendar) : (s.setCalendar bead c).ring = s.ring := rfl
@[simp] theorem State.setCalendar_fbus (s : State) (bead : Nat) (c : Calendar) : (s.setCalendar bead c).fbus = s.fbus := rfl
@[simp] theorem State.setCalendar_cfp (s : State) (bead : Nat) (c : Calendar) : (s.setCalendar bead c).cfp = s.cfp := rfl
@[simp] theorem State.setCalendar_valve (s : State) (bead : Nat) (c : Calendar) : (s.setCalendar bead c).valve = s.valve := rfl
@[simp] theorem State.setCalendar_fan (s : State) (bead : Nat) (c : Calendar) : (s.setCalendar bead c).fan = s.fan := rfl
@[simp] theorem State.setCalendar_vent (s : State) (bead : Nat) (c : Calendar) : (s.setCalendar bead c).vent = s.vent := rfl
@[simp] theorem State.setCalendar_sense (s : State) (bead : Nat) (c : Calendar) : (s.setCalendar bead c).sense = s.sense := rfl
@[simp] theorem State.setCalendar_panel (s : State) (bead : Nat) (c : Calendar) : (s.setCalendar bead c).panel = s.panel := rfl
@[simp] theorem State.setCalendar_clock (s : State) (bead : Nat) (c : Calendar) : (s.setCalendar bead c).clock = s.clock := rfl
@[simp] theorem State.setCalendar_recorder (s : State) (bead : Nat) (c : Calendar) : (s.setCalendar bead c).recorder = s.recorder := rfl
@[simp] theorem State.setCalendar_hif (s : State) (bead : Nat) (c : Calendar) : (s.setCalendar bead c).hif = s.hif := rfl
@[simp] theorem State.setCalendar_mail (s : State) (bead : Nat) (c : Calendar) : (s.setCalendar bead c).mail = s.mail := rfl
@[simp] theorem State.setCalendar_snap (s : State) (bead : Nat) (c : Calendar) : (s.setCalendar bead c).snap = s.snap := rfl
@[simp] theorem State.setCalendar_start (s : State) (bead : Nat) (c : Calendar) : (s.setCalendar bead c).start = s.start := rfl
@[simp] theorem State.setCalendar_super (s : State) (bead : Nat) (c : Calendar) : (s.setCalendar bead c).super = s.super := rfl
@[simp] theorem State.setCalendar_spare (s : State) (bead : Nat) (c : Calendar) : (s.setCalendar bead c).spare = s.spare := rfl
@[simp] theorem State.setCalendar_sec (s : State) (bead : Nat) (c : Calendar) : (s.setCalendar bead c).sec = s.sec := rfl
@[simp] theorem State.setCalendar_pins (s : State) (bead : Nat) (c : Calendar) : (s.setCalendar bead c).pins = s.pins := rfl
@[simp] theorem State.setCalendar_window (s : State) (bead : Nat) (c : Calendar) : (s.setCalendar bead c).window = s.window := rfl
@[simp] theorem State.setCalendar_free (s : State) (bead : Nat) (c : Calendar) : (s.setCalendar bead c).free = s.free := rfl
@[simp] theorem State.setCalendar_pending (s : State) (bead : Nat) (c : Calendar) : (s.setCalendar bead c).pending = s.pending := rfl
theorem State.calendar_setCalendar (s : State) (bead : Nat) (c : Calendar) (h : fwf {} s.abacus.calendar = true) : (s.setCalendar bead c).calendar bead = c := fget_fput_same _ _ h
theorem State.calendar_setCalendar_other (s : State) (bead : Nat) (c : Calendar) {j : Nat} (h : j ≠ bead) : (s.setCalendar bead c).calendar j = s.calendar j := fget_fput_other _ h

/-! ### setClock -/

@[simp] theorem State.setClock_clock (s : State) (x : Clock) : (s.setClock x).clock = x := rfl
@[simp] theorem State.setClock_cfg (s : State) (x : Clock) : (s.setClock x).cfg = s.cfg := rfl
@[simp] theorem State.setClock_phase (s : State) (x : Clock) : (s.setClock x).phase = s.phase := rfl
@[simp] theorem State.setClock_abacus (s : State) (x : Clock) : (s.setClock x).abacus = s.abacus := rfl
@[simp] theorem State.setClock_carry (s : State) (x : Clock) : (s.setClock x).carry = s.carry := rfl
@[simp] theorem State.setClock_reck (s : State) (x : Clock) : (s.setClock x).reck = s.reck := rfl
@[simp] theorem State.setClock_engine (s : State) (x : Clock) : (s.setClock x).engine = s.engine := rfl
@[simp] theorem State.setClock_commons (s : State) (x : Clock) : (s.setClock x).commons = s.commons := rfl
@[simp] theorem State.setClock_ring (s : State) (x : Clock) : (s.setClock x).ring = s.ring := rfl
@[simp] theorem State.setClock_fbus (s : State) (x : Clock) : (s.setClock x).fbus = s.fbus := rfl
@[simp] theorem State.setClock_cfp (s : State) (x : Clock) : (s.setClock x).cfp = s.cfp := rfl
@[simp] theorem State.setClock_valve (s : State) (x : Clock) : (s.setClock x).valve = s.valve := rfl
@[simp] theorem State.setClock_fan (s : State) (x : Clock) : (s.setClock x).fan = s.fan := rfl
@[simp] theorem State.setClock_vent (s : State) (x : Clock) : (s.setClock x).vent = s.vent := rfl
@[simp] theorem State.setClock_sense (s : State) (x : Clock) : (s.setClock x).sense = s.sense := rfl
@[simp] theorem State.setClock_panel (s : State) (x : Clock) : (s.setClock x).panel = s.panel := rfl
@[simp] theorem State.setClock_recorder (s : State) (x : Clock) : (s.setClock x).recorder = s.recorder := rfl
@[simp] theorem State.setClock_hif (s : State) (x : Clock) : (s.setClock x).hif = s.hif := rfl
@[simp] theorem State.setClock_mail (s : State) (x : Clock) : (s.setClock x).mail = s.mail := rfl
@[simp] theorem State.setClock_snap (s : State) (x : Clock) : (s.setClock x).snap = s.snap := rfl
@[simp] theorem State.setClock_start (s : State) (x : Clock) : (s.setClock x).start = s.start := rfl
@[simp] theorem State.setClock_super (s : State) (x : Clock) : (s.setClock x).super = s.super := rfl
@[simp] theorem State.setClock_spare (s : State) (x : Clock) : (s.setClock x).spare = s.spare := rfl
@[simp] theorem State.setClock_sec (s : State) (x : Clock) : (s.setClock x).sec = s.sec := rfl
@[simp] theorem State.setClock_pins (s : State) (x : Clock) : (s.setClock x).pins = s.pins := rfl
@[simp] theorem State.setClock_window (s : State) (x : Clock) : (s.setClock x).window = s.window := rfl
@[simp] theorem State.setClock_free (s : State) (x : Clock) : (s.setClock x).free = s.free := rfl
@[simp] theorem State.setClock_pending (s : State) (x : Clock) : (s.setClock x).pending = s.pending := rfl

/-! ### setBead -/

@[simp] theorem State.setBead_abacus (s : State) (b : Nat) (x : Bead) : (s.setBead b x).abacus = { s.abacus with beads := fput {} s.abacus.beads b x } := rfl
@[simp] theorem State.setBead_cfg (s : State) (b : Nat) (x : Bead) : (s.setBead b x).cfg = s.cfg := rfl
@[simp] theorem State.setBead_phase (s : State) (b : Nat) (x : Bead) : (s.setBead b x).phase = s.phase := rfl
@[simp] theorem State.setBead_carry (s : State) (b : Nat) (x : Bead) : (s.setBead b x).carry = s.carry := rfl
@[simp] theorem State.setBead_reck (s : State) (b : Nat) (x : Bead) : (s.setBead b x).reck = s.reck := rfl
@[simp] theorem State.setBead_engine (s : State) (b : Nat) (x : Bead) : (s.setBead b x).engine = s.engine := rfl
@[simp] theorem State.setBead_commons (s : State) (b : Nat) (x : Bead) : (s.setBead b x).commons = s.commons := rfl
@[simp] theorem State.setBead_ring (s : State) (b : Nat) (x : Bead) : (s.setBead b x).ring = s.ring := rfl
@[simp] theorem State.setBead_fbus (s : State) (b : Nat) (x : Bead) : (s.setBead b x).fbus = s.fbus := rfl
@[simp] theorem State.setBead_cfp (s : State) (b : Nat) (x : Bead) : (s.setBead b x).cfp = s.cfp := rfl
@[simp] theorem State.setBead_valve (s : State) (b : Nat) (x : Bead) : (s.setBead b x).valve = s.valve := rfl
@[simp] theorem State.setBead_fan (s : State) (b : Nat) (x : Bead) : (s.setBead b x).fan = s.fan := rfl
@[simp] theorem State.setBead_vent (s : State) (b : Nat) (x : Bead) : (s.setBead b x).vent = s.vent := rfl
@[simp] theorem State.setBead_sense (s : State) (b : Nat) (x : Bead) : (s.setBead b x).sense = s.sense := rfl
@[simp] theorem State.setBead_panel (s : State) (b : Nat) (x : Bead) : (s.setBead b x).panel = s.panel := rfl
@[simp] theorem State.setBead_clock (s : State) (b : Nat) (x : Bead) : (s.setBead b x).clock = s.clock := rfl
@[simp] theorem State.setBead_recorder (s : State) (b : Nat) (x : Bead) : (s.setBead b x).recorder = s.recorder := rfl
@[simp] theorem State.setBead_hif (s : State) (b : Nat) (x : Bead) : (s.setBead b x).hif = s.hif := rfl
@[simp] theorem State.setBead_mail (s : State) (b : Nat) (x : Bead) : (s.setBead b x).mail = s.mail := rfl
@[simp] theorem State.setBead_snap (s : State) (b : Nat) (x : Bead) : (s.setBead b x).snap = s.snap := rfl
@[simp] theorem State.setBead_start (s : State) (b : Nat) (x : Bead) : (s.setBead b x).start = s.start := rfl
@[simp] theorem State.setBead_super (s : State) (b : Nat) (x : Bead) : (s.setBead b x).super = s.super := rfl
@[simp] theorem State.setBead_spare (s : State) (b : Nat) (x : Bead) : (s.setBead b x).spare = s.spare := rfl
@[simp] theorem State.setBead_sec (s : State) (b : Nat) (x : Bead) : (s.setBead b x).sec = s.sec := rfl
@[simp] theorem State.setBead_pins (s : State) (b : Nat) (x : Bead) : (s.setBead b x).pins = s.pins := rfl
@[simp] theorem State.setBead_window (s : State) (b : Nat) (x : Bead) : (s.setBead b x).window = s.window := rfl
@[simp] theorem State.setBead_free (s : State) (b : Nat) (x : Bead) : (s.setBead b x).free = s.free := rfl
@[simp] theorem State.setBead_pending (s : State) (b : Nat) (x : Bead) : (s.setBead b x).pending = s.pending := rfl
theorem State.bead_setBead (s : State) (b : Nat) (x : Bead) (h : fwf {} s.abacus.beads = true) : (s.setBead b x).bead b = x := fget_fput_same _ _ h
theorem State.bead_setBead_other (s : State) (b : Nat) (x : Bead) {j : Nat} (h : j ≠ b) : (s.setBead b x).bead j = s.bead j := fget_fput_other _ h

/-! ### setEntry -/

@[simp] theorem State.setEntry_carry (s : State) (e : Nat) (x : CarryEntry) : (s.setEntry e x).carry = { s.carry with entries := fput {} s.carry.entries e x } := rfl
@[simp] theorem State.setEntry_cfg (s : State) (e : Nat) (x : CarryEntry) : (s.setEntry e x).cfg = s.cfg := rfl
@[simp] theorem State.setEntry_phase (s : State) (e : Nat) (x : CarryEntry) : (s.setEntry e x).phase = s.phase := rfl
@[simp] theorem State.setEntry_abacus (s : State) (e : Nat) (x : CarryEntry) : (s.setEntry e x).abacus = s.abacus := rfl
@[simp] theorem State.setEntry_reck (s : State) (e : Nat) (x : CarryEntry) : (s.setEntry e x).reck = s.reck := rfl
@[simp] theorem State.setEntry_engine (s : State) (e : Nat) (x : CarryEntry) : (s.setEntry e x).engine = s.engine := rfl
@[simp] theorem State.setEntry_commons (s : State) (e : Nat) (x : CarryEntry) : (s.setEntry e x).commons = s.commons := rfl
@[simp] theorem State.setEntry_ring (s : State) (e : Nat) (x : CarryEntry) : (s.setEntry e x).ring = s.ring := rfl
@[simp] theorem State.setEntry_fbus (s : State) (e : Nat) (x : CarryEntry) : (s.setEntry e x).fbus = s.fbus := rfl
@[simp] theorem State.setEntry_cfp (s : State) (e : Nat) (x : CarryEntry) : (s.setEntry e x).cfp = s.cfp := rfl
@[simp] theorem State.setEntry_valve (s : State) (e : Nat) (x : CarryEntry) : (s.setEntry e x).valve = s.valve := rfl
@[simp] theorem State.setEntry_fan (s : State) (e : Nat) (x : CarryEntry) : (s.setEntry e x).fan = s.fan := rfl
@[simp] theorem State.setEntry_vent (s : State) (e : Nat) (x : CarryEntry) : (s.setEntry e x).vent = s.vent := rfl
@[simp] theorem State.setEntry_sense (s : State) (e : Nat) (x : CarryEntry) : (s.setEntry e x).sense = s.sense := rfl
@[simp] theorem State.setEntry_panel (s : State) (e : Nat) (x : CarryEntry) : (s.setEntry e x).panel = s.panel := rfl
@[simp] theorem State.setEntry_clock (s : State) (e : Nat) (x : CarryEntry) : (s.setEntry e x).clock = s.clock := rfl
@[simp] theorem State.setEntry_recorder (s : State) (e : Nat) (x : CarryEntry) : (s.setEntry e x).recorder = s.recorder := rfl
@[simp] theorem State.setEntry_hif (s : State) (e : Nat) (x : CarryEntry) : (s.setEntry e x).hif = s.hif := rfl
@[simp] theorem State.setEntry_mail (s : State) (e : Nat) (x : CarryEntry) : (s.setEntry e x).mail = s.mail := rfl
@[simp] theorem State.setEntry_snap (s : State) (e : Nat) (x : CarryEntry) : (s.setEntry e x).snap = s.snap := rfl
@[simp] theorem State.setEntry_start (s : State) (e : Nat) (x : CarryEntry) : (s.setEntry e x).start = s.start := rfl
@[simp] theorem State.setEntry_super (s : State) (e : Nat) (x : CarryEntry) : (s.setEntry e x).super = s.super := rfl
@[simp] theorem State.setEntry_spare (s : State) (e : Nat) (x : CarryEntry) : (s.setEntry e x).spare = s.spare := rfl
@[simp] theorem State.setEntry_sec (s : State) (e : Nat) (x : CarryEntry) : (s.setEntry e x).sec = s.sec := rfl
@[simp] theorem State.setEntry_pins (s : State) (e : Nat) (x : CarryEntry) : (s.setEntry e x).pins = s.pins := rfl
@[simp] theorem State.setEntry_window (s : State) (e : Nat) (x : CarryEntry) : (s.setEntry e x).window = s.window := rfl
@[simp] theorem State.setEntry_free (s : State) (e : Nat) (x : CarryEntry) : (s.setEntry e x).free = s.free := rfl
@[simp] theorem State.setEntry_pending (s : State) (e : Nat) (x : CarryEntry) : (s.setEntry e x).pending = s.pending := rfl
theorem State.entry_setEntry (s : State) (e : Nat) (x : CarryEntry) (h : fwf {} s.carry.entries = true) : (s.setEntry e x).entry e = x := fget_fput_same _ _ h
theorem State.entry_setEntry_other (s : State) (e : Nat) (x : CarryEntry) {j : Nat} (h : j ≠ e) : (s.setEntry e x).entry j = s.entry j := fget_fput_other _ h

/-! ### setVbank -/

@[simp] theorem State.setVbank_valve (s : State) (b : Nat) (x : ValveBank) : (s.setVbank b x).valve = { s.valve with banks := fput {} s.valve.banks b x } := rfl
@[simp] theorem State.setVbank_cfg (s : State) (b : Nat) (x : ValveBank) : (s.setVbank b x).cfg = s.cfg := rfl
@[simp] theorem State.setVbank_phase (s : State) (b : Nat) (x : ValveBank) : (s.setVbank b x).phase = s.phase := rfl
@[simp] theorem State.setVbank_abacus (s : State) (b : Nat) (x : ValveBank) : (s.setVbank b x).abacus = s.abacus := rfl
@[simp] theorem State.setVbank_carry (s : State) (b : Nat) (x : ValveBank) : (s.setVbank b x).carry = s.carry := rfl
@[simp] theorem State.setVbank_reck (s : State) (b : Nat) (x : ValveBank) : (s.setVbank b x).reck = s.reck := rfl
@[simp] theorem State.setVbank_engine (s : State) (b : Nat) (x : ValveBank) : (s.setVbank b x).engine = s.engine := rfl
@[simp] theorem State.setVbank_commons (s : State) (b : Nat) (x : ValveBank) : (s.setVbank b x).commons = s.commons := rfl
@[simp] theorem State.setVbank_ring (s : State) (b : Nat) (x : ValveBank) : (s.setVbank b x).ring = s.ring := rfl
@[simp] theorem State.setVbank_fbus (s : State) (b : Nat) (x : ValveBank) : (s.setVbank b x).fbus = s.fbus := rfl
@[simp] theorem State.setVbank_cfp (s : State) (b : Nat) (x : ValveBank) : (s.setVbank b x).cfp = s.cfp := rfl
@[simp] theorem State.setVbank_fan (s : State) (b : Nat) (x : ValveBank) : (s.setVbank b x).fan = s.fan := rfl
@[simp] theorem State.setVbank_vent (s : State) (b : Nat) (x : ValveBank) : (s.setVbank b x).vent = s.vent := rfl
@[simp] theorem State.setVbank_sense (s : State) (b : Nat) (x : ValveBank) : (s.setVbank b x).sense = s.sense := rfl
@[simp] theorem State.setVbank_panel (s : State) (b : Nat) (x : ValveBank) : (s.setVbank b x).panel = s.panel := rfl
@[simp] theorem State.setVbank_clock (s : State) (b : Nat) (x : ValveBank) : (s.setVbank b x).clock = s.clock := rfl
@[simp] theorem State.setVbank_recorder (s : State) (b : Nat) (x : ValveBank) : (s.setVbank b x).recorder = s.recorder := rfl
@[simp] theorem State.setVbank_hif (s : State) (b : Nat) (x : ValveBank) : (s.setVbank b x).hif = s.hif := rfl
@[simp] theorem State.setVbank_mail (s : State) (b : Nat) (x : ValveBank) : (s.setVbank b x).mail = s.mail := rfl
@[simp] theorem State.setVbank_snap (s : State) (b : Nat) (x : ValveBank) : (s.setVbank b x).snap = s.snap := rfl
@[simp] theorem State.setVbank_start (s : State) (b : Nat) (x : ValveBank) : (s.setVbank b x).start = s.start := rfl
@[simp] theorem State.setVbank_super (s : State) (b : Nat) (x : ValveBank) : (s.setVbank b x).super = s.super := rfl
@[simp] theorem State.setVbank_spare (s : State) (b : Nat) (x : ValveBank) : (s.setVbank b x).spare = s.spare := rfl
@[simp] theorem State.setVbank_sec (s : State) (b : Nat) (x : ValveBank) : (s.setVbank b x).sec = s.sec := rfl
@[simp] theorem State.setVbank_pins (s : State) (b : Nat) (x : ValveBank) : (s.setVbank b x).pins = s.pins := rfl
@[simp] theorem State.setVbank_window (s : State) (b : Nat) (x : ValveBank) : (s.setVbank b x).window = s.window := rfl
@[simp] theorem State.setVbank_free (s : State) (b : Nat) (x : ValveBank) : (s.setVbank b x).free = s.free := rfl
@[simp] theorem State.setVbank_pending (s : State) (b : Nat) (x : ValveBank) : (s.setVbank b x).pending = s.pending := rfl
theorem State.vbank_setVbank (s : State) (b : Nat) (x : ValveBank) (h : fwf {} s.valve.banks = true) : (s.setVbank b x).vbank b = x := fget_fput_same _ _ h
theorem State.vbank_setVbank_other (s : State) (b : Nat) (x : ValveBank) {j : Nat} (h : j ≠ b) : (s.setVbank b x).vbank j = s.vbank j := fget_fput_other _ h

/-! ### setValveCh -/

@[simp] theorem State.setValveCh_valve (s : State) (n : Nat) (x : ValveChannel) : (s.setValveCh n x).valve = { s.valve with channels := fput {} s.valve.channels n x } := rfl
@[simp] theorem State.setValveCh_cfg (s : State) (n : Nat) (x : ValveChannel) : (s.setValveCh n x).cfg = s.cfg := rfl
@[simp] theorem State.setValveCh_phase (s : State) (n : Nat) (x : ValveChannel) : (s.setValveCh n x).phase = s.phase := rfl
@[simp] theorem State.setValveCh_abacus (s : State) (n : Nat) (x : ValveChannel) : (s.setValveCh n x).abacus = s.abacus := rfl
@[simp] theorem State.setValveCh_carry (s : State) (n : Nat) (x : ValveChannel) : (s.setValveCh n x).carry = s.carry := rfl
@[simp] theorem State.setValveCh_reck (s : State) (n : Nat) (x : ValveChannel) : (s.setValveCh n x).reck = s.reck := rfl
@[simp] theorem State.setValveCh_engine (s : State) (n : Nat) (x : ValveChannel) : (s.setValveCh n x).engine = s.engine := rfl
@[simp] theorem State.setValveCh_commons (s : State) (n : Nat) (x : ValveChannel) : (s.setValveCh n x).commons = s.commons := rfl
@[simp] theorem State.setValveCh_ring (s : State) (n : Nat) (x : ValveChannel) : (s.setValveCh n x).ring = s.ring := rfl
@[simp] theorem State.setValveCh_fbus (s : State) (n : Nat) (x : ValveChannel) : (s.setValveCh n x).fbus = s.fbus := rfl
@[simp] theorem State.setValveCh_cfp (s : State) (n : Nat) (x : ValveChannel) : (s.setValveCh n x).cfp = s.cfp := rfl
@[simp] theorem State.setValveCh_fan (s : State) (n : Nat) (x : ValveChannel) : (s.setValveCh n x).fan = s.fan := rfl
@[simp] theorem State.setValveCh_vent (s : State) (n : Nat) (x : ValveChannel) : (s.setValveCh n x).vent = s.vent := rfl
@[simp] theorem State.setValveCh_sense (s : State) (n : Nat) (x : ValveChannel) : (s.setValveCh n x).sense = s.sense := rfl
@[simp] theorem State.setValveCh_panel (s : State) (n : Nat) (x : ValveChannel) : (s.setValveCh n x).panel = s.panel := rfl
@[simp] theorem State.setValveCh_clock (s : State) (n : Nat) (x : ValveChannel) : (s.setValveCh n x).clock = s.clock := rfl
@[simp] theorem State.setValveCh_recorder (s : State) (n : Nat) (x : ValveChannel) : (s.setValveCh n x).recorder = s.recorder := rfl
@[simp] theorem State.setValveCh_hif (s : State) (n : Nat) (x : ValveChannel) : (s.setValveCh n x).hif = s.hif := rfl
@[simp] theorem State.setValveCh_mail (s : State) (n : Nat) (x : ValveChannel) : (s.setValveCh n x).mail = s.mail := rfl
@[simp] theorem State.setValveCh_snap (s : State) (n : Nat) (x : ValveChannel) : (s.setValveCh n x).snap = s.snap := rfl
@[simp] theorem State.setValveCh_start (s : State) (n : Nat) (x : ValveChannel) : (s.setValveCh n x).start = s.start := rfl
@[simp] theorem State.setValveCh_super (s : State) (n : Nat) (x : ValveChannel) : (s.setValveCh n x).super = s.super := rfl
@[simp] theorem State.setValveCh_spare (s : State) (n : Nat) (x : ValveChannel) : (s.setValveCh n x).spare = s.spare := rfl
@[simp] theorem State.setValveCh_sec (s : State) (n : Nat) (x : ValveChannel) : (s.setValveCh n x).sec = s.sec := rfl
@[simp] theorem State.setValveCh_pins (s : State) (n : Nat) (x : ValveChannel) : (s.setValveCh n x).pins = s.pins := rfl
@[simp] theorem State.setValveCh_window (s : State) (n : Nat) (x : ValveChannel) : (s.setValveCh n x).window = s.window := rfl
@[simp] theorem State.setValveCh_free (s : State) (n : Nat) (x : ValveChannel) : (s.setValveCh n x).free = s.free := rfl
@[simp] theorem State.setValveCh_pending (s : State) (n : Nat) (x : ValveChannel) : (s.setValveCh n x).pending = s.pending := rfl
theorem State.valveCh_setValveCh (s : State) (n : Nat) (x : ValveChannel) (h : fwf {} s.valve.channels = true) : (s.setValveCh n x).valveCh n = x := fget_fput_same _ _ h
theorem State.valveCh_setValveCh_other (s : State) (n : Nat) (x : ValveChannel) {j : Nat} (h : j ≠ n) : (s.setValveCh n x).valveCh j = s.valveCh j := fget_fput_other _ h

/-! ### setTokenSlot -/

@[simp] theorem State.setTokenSlot_sec (s : State) (i : Nat) (k : KeySlot) : (s.setTokenSlot i k).sec = { s.sec with tokens := fput {} s.sec.tokens i k } := rfl
@[simp] theorem State.setTokenSlot_cfg (s : State) (i : Nat) (k : KeySlot) : (s.setTokenSlot i k).cfg = s.cfg := rfl
@[simp] theorem State.setTokenSlot_phase (s : State) (i : Nat) (k : KeySlot) : (s.setTokenSlot i k).phase = s.phase := rfl
@[simp] theorem State.setTokenSlot_abacus (s : State) (i : Nat) (k : KeySlot) : (s.setTokenSlot i k).abacus = s.abacus := rfl
@[simp] theorem State.setTokenSlot_carry (s : State) (i : Nat) (k : KeySlot) : (s.setTokenSlot i k).carry = s.carry := rfl
@[simp] theorem State.setTokenSlot_reck (s : State) (i : Nat) (k : KeySlot) : (s.setTokenSlot i k).reck = s.reck := rfl
@[simp] theorem State.setTokenSlot_engine (s : State) (i : Nat) (k : KeySlot) : (s.setTokenSlot i k).engine = s.engine := rfl
@[simp] theorem State.setTokenSlot_commons (s : State) (i : Nat) (k : KeySlot) : (s.setTokenSlot i k).commons = s.commons := rfl
@[simp] theorem State.setTokenSlot_ring (s : State) (i : Nat) (k : KeySlot) : (s.setTokenSlot i k).ring = s.ring := rfl
@[simp] theorem State.setTokenSlot_fbus (s : State) (i : Nat) (k : KeySlot) : (s.setTokenSlot i k).fbus = s.fbus := rfl
@[simp] theorem State.setTokenSlot_cfp (s : State) (i : Nat) (k : KeySlot) : (s.setTokenSlot i k).cfp = s.cfp := rfl
@[simp] theorem State.setTokenSlot_valve (s : State) (i : Nat) (k : KeySlot) : (s.setTokenSlot i k).valve = s.valve := rfl
@[simp] theorem State.setTokenSlot_fan (s : State) (i : Nat) (k : KeySlot) : (s.setTokenSlot i k).fan = s.fan := rfl
@[simp] theorem State.setTokenSlot_vent (s : State) (i : Nat) (k : KeySlot) : (s.setTokenSlot i k).vent = s.vent := rfl
@[simp] theorem State.setTokenSlot_sense (s : State) (i : Nat) (k : KeySlot) : (s.setTokenSlot i k).sense = s.sense := rfl
@[simp] theorem State.setTokenSlot_panel (s : State) (i : Nat) (k : KeySlot) : (s.setTokenSlot i k).panel = s.panel := rfl
@[simp] theorem State.setTokenSlot_clock (s : State) (i : Nat) (k : KeySlot) : (s.setTokenSlot i k).clock = s.clock := rfl
@[simp] theorem State.setTokenSlot_recorder (s : State) (i : Nat) (k : KeySlot) : (s.setTokenSlot i k).recorder = s.recorder := rfl
@[simp] theorem State.setTokenSlot_hif (s : State) (i : Nat) (k : KeySlot) : (s.setTokenSlot i k).hif = s.hif := rfl
@[simp] theorem State.setTokenSlot_mail (s : State) (i : Nat) (k : KeySlot) : (s.setTokenSlot i k).mail = s.mail := rfl
@[simp] theorem State.setTokenSlot_snap (s : State) (i : Nat) (k : KeySlot) : (s.setTokenSlot i k).snap = s.snap := rfl
@[simp] theorem State.setTokenSlot_start (s : State) (i : Nat) (k : KeySlot) : (s.setTokenSlot i k).start = s.start := rfl
@[simp] theorem State.setTokenSlot_super (s : State) (i : Nat) (k : KeySlot) : (s.setTokenSlot i k).super = s.super := rfl
@[simp] theorem State.setTokenSlot_spare (s : State) (i : Nat) (k : KeySlot) : (s.setTokenSlot i k).spare = s.spare := rfl
@[simp] theorem State.setTokenSlot_pins (s : State) (i : Nat) (k : KeySlot) : (s.setTokenSlot i k).pins = s.pins := rfl
@[simp] theorem State.setTokenSlot_window (s : State) (i : Nat) (k : KeySlot) : (s.setTokenSlot i k).window = s.window := rfl
@[simp] theorem State.setTokenSlot_free (s : State) (i : Nat) (k : KeySlot) : (s.setTokenSlot i k).free = s.free := rfl
@[simp] theorem State.setTokenSlot_pending (s : State) (i : Nat) (k : KeySlot) : (s.setTokenSlot i k).pending = s.pending := rfl
theorem State.tokenSlot_setTokenSlot (s : State) (i : Nat) (k : KeySlot) (h : fwf {} s.sec.tokens = true) : (s.setTokenSlot i k).tokenSlot i = k := fget_fput_same _ _ h
theorem State.tokenSlot_setTokenSlot_other (s : State) (i : Nat) (k : KeySlot) {j : Nat} (h : j ≠ i) : (s.setTokenSlot i k).tokenSlot j = s.tokenSlot j := fget_fput_other _ h

/-! ### setConfigSlot -/

@[simp] theorem State.setConfigSlot_sec (s : State) (i : Nat) (k : KeySlot) : (s.setConfigSlot i k).sec = { s.sec with configs := fput {} s.sec.configs i k } := rfl
@[simp] theorem State.setConfigSlot_cfg (s : State) (i : Nat) (k : KeySlot) : (s.setConfigSlot i k).cfg = s.cfg := rfl
@[simp] theorem State.setConfigSlot_phase (s : State) (i : Nat) (k : KeySlot) : (s.setConfigSlot i k).phase = s.phase := rfl
@[simp] theorem State.setConfigSlot_abacus (s : State) (i : Nat) (k : KeySlot) : (s.setConfigSlot i k).abacus = s.abacus := rfl
@[simp] theorem State.setConfigSlot_carry (s : State) (i : Nat) (k : KeySlot) : (s.setConfigSlot i k).carry = s.carry := rfl
@[simp] theorem State.setConfigSlot_reck (s : State) (i : Nat) (k : KeySlot) : (s.setConfigSlot i k).reck = s.reck := rfl
@[simp] theorem State.setConfigSlot_engine (s : State) (i : Nat) (k : KeySlot) : (s.setConfigSlot i k).engine = s.engine := rfl
@[simp] theorem State.setConfigSlot_commons (s : State) (i : Nat) (k : KeySlot) : (s.setConfigSlot i k).commons = s.commons := rfl
@[simp] theorem State.setConfigSlot_ring (s : State) (i : Nat) (k : KeySlot) : (s.setConfigSlot i k).ring = s.ring := rfl
@[simp] theorem State.setConfigSlot_fbus (s : State) (i : Nat) (k : KeySlot) : (s.setConfigSlot i k).fbus = s.fbus := rfl
@[simp] theorem State.setConfigSlot_cfp (s : State) (i : Nat) (k : KeySlot) : (s.setConfigSlot i k).cfp = s.cfp := rfl
@[simp] theorem State.setConfigSlot_valve (s : State) (i : Nat) (k : KeySlot) : (s.setConfigSlot i k).valve = s.valve := rfl
@[simp] theorem State.setConfigSlot_fan (s : State) (i : Nat) (k : KeySlot) : (s.setConfigSlot i k).fan = s.fan := rfl
@[simp] theorem State.setConfigSlot_vent (s : State) (i : Nat) (k : KeySlot) : (s.setConfigSlot i k).vent = s.vent := rfl
@[simp] theorem State.setConfigSlot_sense (s : State) (i : Nat) (k : KeySlot) : (s.setConfigSlot i k).sense = s.sense := rfl
@[simp] theorem State.setConfigSlot_panel (s : State) (i : Nat) (k : KeySlot) : (s.setConfigSlot i k).panel = s.panel := rfl
@[simp] theorem State.setConfigSlot_clock (s : State) (i : Nat) (k : KeySlot) : (s.setConfigSlot i k).clock = s.clock := rfl
@[simp] theorem State.setConfigSlot_recorder (s : State) (i : Nat) (k : KeySlot) : (s.setConfigSlot i k).recorder = s.recorder := rfl
@[simp] theorem State.setConfigSlot_hif (s : State) (i : Nat) (k : KeySlot) : (s.setConfigSlot i k).hif = s.hif := rfl
@[simp] theorem State.setConfigSlot_mail (s : State) (i : Nat) (k : KeySlot) : (s.setConfigSlot i k).mail = s.mail := rfl
@[simp] theorem State.setConfigSlot_snap (s : State) (i : Nat) (k : KeySlot) : (s.setConfigSlot i k).snap = s.snap := rfl
@[simp] theorem State.setConfigSlot_start (s : State) (i : Nat) (k : KeySlot) : (s.setConfigSlot i k).start = s.start := rfl
@[simp] theorem State.setConfigSlot_super (s : State) (i : Nat) (k : KeySlot) : (s.setConfigSlot i k).super = s.super := rfl
@[simp] theorem State.setConfigSlot_spare (s : State) (i : Nat) (k : KeySlot) : (s.setConfigSlot i k).spare = s.spare := rfl
@[simp] theorem State.setConfigSlot_pins (s : State) (i : Nat) (k : KeySlot) : (s.setConfigSlot i k).pins = s.pins := rfl
@[simp] theorem State.setConfigSlot_window (s : State) (i : Nat) (k : KeySlot) : (s.setConfigSlot i k).window = s.window := rfl
@[simp] theorem State.setConfigSlot_free (s : State) (i : Nat) (k : KeySlot) : (s.setConfigSlot i k).free = s.free := rfl
@[simp] theorem State.setConfigSlot_pending (s : State) (i : Nat) (k : KeySlot) : (s.setConfigSlot i k).pending = s.pending := rfl
theorem State.configSlot_setConfigSlot (s : State) (i : Nat) (k : KeySlot) (h : fwf {} s.sec.configs = true) : (s.setConfigSlot i k).configSlot i = k := fget_fput_same _ _ h
theorem State.configSlot_setConfigSlot_other (s : State) (i : Nat) (k : KeySlot) {j : Nat} (h : j ≠ i) : (s.setConfigSlot i k).configSlot j = s.configSlot j := fget_fput_other _ h

/-! ### atAngle -/

@[simp] theorem State.atAngle_phase (s : State) (a : Nat) : (s.atAngle a).phase = { s.phase with now := { s.phase.now with angle := max s.phase.now.angle a } } := rfl
@[simp] theorem State.atAngle_cfg (s : State) (a : Nat) : (s.atAngle a).cfg = s.cfg := rfl
@[simp] theorem State.atAngle_abacus (s : State) (a : Nat) : (s.atAngle a).abacus = s.abacus := rfl
@[simp] theorem State.atAngle_carry (s : State) (a : Nat) : (s.atAngle a).carry = s.carry := rfl
@[simp] theorem State.atAngle_reck (s : State) (a : Nat) : (s.atAngle a).reck = s.reck := rfl
@[simp] theorem State.atAngle_engine (s : State) (a : Nat) : (s.atAngle a).engine = s.engine := rfl
@[simp] theorem State.atAngle_commons (s : State) (a : Nat) : (s.atAngle a).commons = s.commons := rfl
@[simp] theorem State.atAngle_ring (s : State) (a : Nat) : (s.atAngle a).ring = s.ring := rfl
@[simp] theorem State.atAngle_fbus (s : State) (a : Nat) : (s.atAngle a).fbus = s.fbus := rfl
@[simp] theorem State.atAngle_cfp (s : State) (a : Nat) : (s.atAngle a).cfp = s.cfp := rfl
@[simp] theorem State.atAngle_valve (s : State) (a : Nat) : (s.atAngle a).valve = s.valve := rfl
@[simp] theorem State.atAngle_fan (s : State) (a : Nat) : (s.atAngle a).fan = s.fan := rfl
@[simp] theorem State.atAngle_vent (s : State) (a : Nat) : (s.atAngle a).vent = s.vent := rfl
@[simp] theorem State.atAngle_sense (s : State) (a : Nat) : (s.atAngle a).sense = s.sense := rfl
@[simp] theorem State.atAngle_panel (s : State) (a : Nat) : (s.atAngle a).panel = s.panel := rfl
@[simp] theorem State.atAngle_clock (s : State) (a : Nat) : (s.atAngle a).clock = s.clock := rfl
@[simp] theorem State.atAngle_recorder (s : State) (a : Nat) : (s.atAngle a).recorder = s.recorder := rfl
@[simp] theorem State.atAngle_hif (s : State) (a : Nat) : (s.atAngle a).hif = s.hif := rfl
@[simp] theorem State.atAngle_mail (s : State) (a : Nat) : (s.atAngle a).mail = s.mail := rfl
@[simp] theorem State.atAngle_snap (s : State) (a : Nat) : (s.atAngle a).snap = s.snap := rfl
@[simp] theorem State.atAngle_start (s : State) (a : Nat) : (s.atAngle a).start = s.start := rfl
@[simp] theorem State.atAngle_super (s : State) (a : Nat) : (s.atAngle a).super = s.super := rfl
@[simp] theorem State.atAngle_spare (s : State) (a : Nat) : (s.atAngle a).spare = s.spare := rfl
@[simp] theorem State.atAngle_sec (s : State) (a : Nat) : (s.atAngle a).sec = s.sec := rfl
@[simp] theorem State.atAngle_pins (s : State) (a : Nat) : (s.atAngle a).pins = s.pins := rfl
@[simp] theorem State.atAngle_window (s : State) (a : Nat) : (s.atAngle a).window = s.window := rfl
@[simp] theorem State.atAngle_free (s : State) (a : Nat) : (s.atAngle a).free = s.free := rfl
@[simp] theorem State.atAngle_pending (s : State) (a : Nat) : (s.atAngle a).pending = s.pending := rfl

/-! ### setPort -/

@[simp] theorem State.setPort_ring (s : State) (p : Nat) (x : Port) : (s.setPort p x).ring = { s.ring with ports := fput {} s.ring.ports p x } := rfl
@[simp] theorem State.setPort_cfg (s : State) (p : Nat) (x : Port) : (s.setPort p x).cfg = s.cfg := rfl
@[simp] theorem State.setPort_phase (s : State) (p : Nat) (x : Port) : (s.setPort p x).phase = s.phase := rfl
@[simp] theorem State.setPort_abacus (s : State) (p : Nat) (x : Port) : (s.setPort p x).abacus = s.abacus := rfl
@[simp] theorem State.setPort_carry (s : State) (p : Nat) (x : Port) : (s.setPort p x).carry = s.carry := rfl
@[simp] theorem State.setPort_reck (s : State) (p : Nat) (x : Port) : (s.setPort p x).reck = s.reck := rfl
@[simp] theorem State.setPort_engine (s : State) (p : Nat) (x : Port) : (s.setPort p x).engine = s.engine := rfl
@[simp] theorem State.setPort_commons (s : State) (p : Nat) (x : Port) : (s.setPort p x).commons = s.commons := rfl
@[simp] theorem State.setPort_fbus (s : State) (p : Nat) (x : Port) : (s.setPort p x).fbus = s.fbus := rfl
@[simp] theorem State.setPort_cfp (s : State) (p : Nat) (x : Port) : (s.setPort p x).cfp = s.cfp := rfl
@[simp] theorem State.setPort_valve (s : State) (p : Nat) (x : Port) : (s.setPort p x).valve = s.valve := rfl
@[simp] theorem State.setPort_fan (s : State) (p : Nat) (x : Port) : (s.setPort p x).fan = s.fan := rfl
@[simp] theorem State.setPort_vent (s : State) (p : Nat) (x : Port) : (s.setPort p x).vent = s.vent := rfl
@[simp] theorem State.setPort_sense (s : State) (p : Nat) (x : Port) : (s.setPort p x).sense = s.sense := rfl
@[simp] theorem State.setPort_panel (s : State) (p : Nat) (x : Port) : (s.setPort p x).panel = s.panel := rfl
@[simp] theorem State.setPort_clock (s : State) (p : Nat) (x : Port) : (s.setPort p x).clock = s.clock := rfl
@[simp] theorem State.setPort_recorder (s : State) (p : Nat) (x : Port) : (s.setPort p x).recorder = s.recorder := rfl
@[simp] theorem State.setPort_hif (s : State) (p : Nat) (x : Port) : (s.setPort p x).hif = s.hif := rfl
@[simp] theorem State.setPort_mail (s : State) (p : Nat) (x : Port) : (s.setPort p x).mail = s.mail := rfl
@[simp] theorem State.setPort_snap (s : State) (p : Nat) (x : Port) : (s.setPort p x).snap = s.snap := rfl
@[simp] theorem State.setPort_start (s : State) (p : Nat) (x : Port) : (s.setPort p x).start = s.start := rfl
@[simp] theorem State.setPort_super (s : State) (p : Nat) (x : Port) : (s.setPort p x).super = s.super := rfl
@[simp] theorem State.setPort_spare (s : State) (p : Nat) (x : Port) : (s.setPort p x).spare = s.spare := rfl
@[simp] theorem State.setPort_sec (s : State) (p : Nat) (x : Port) : (s.setPort p x).sec = s.sec := rfl
@[simp] theorem State.setPort_pins (s : State) (p : Nat) (x : Port) : (s.setPort p x).pins = s.pins := rfl
@[simp] theorem State.setPort_window (s : State) (p : Nat) (x : Port) : (s.setPort p x).window = s.window := rfl
@[simp] theorem State.setPort_free (s : State) (p : Nat) (x : Port) : (s.setPort p x).free = s.free := rfl
@[simp] theorem State.setPort_pending (s : State) (p : Nat) (x : Port) : (s.setPort p x).pending = s.pending := rfl
theorem State.port_setPort (s : State) (p : Nat) (x : Port) (h : fwf {} s.ring.ports = true) : (s.setPort p x).port p = x := fget_fput_same _ _ h
theorem State.port_setPort_other (s : State) (p : Nat) (x : Port) {j : Nat} (h : j ≠ p) : (s.setPort p x).port j = s.port j := fget_fput_other _ h

/-! ### setBank -/

@[simp] theorem State.setBank_snap (s : State) (b : Nat) (x : SnapBank) : (s.setBank b x).snap = { s.snap with banks := fput {} s.snap.banks b x } := rfl
@[simp] theorem State.setBank_cfg (s : State) (b : Nat) (x : SnapBank) : (s.setBank b x).cfg = s.cfg := rfl
@[simp] theorem State.setBank_phase (s : State) (b : Nat) (x : SnapBank) : (s.setBank b x).phase = s.phase := rfl
@[simp] theorem State.setBank_abacus (s : State) (b : Nat) (x : SnapBank) : (s.setBank b x).abacus = s.abacus := rfl
@[simp] theorem State.setBank_carry (s : State) (b : Nat) (x : SnapBank) : (s.setBank b x).carry = s.carry := rfl
@[simp] theorem State.setBank_reck (s : State) (b : Nat) (x : SnapBank) : (s.setBank b x).reck = s.reck := rfl
@[simp] theorem State.setBank_engine (s : State) (b : Nat) (x : SnapBank) : (s.setBank b x).engine = s.engine := rfl
@[simp] theorem State.setBank_commons (s : State) (b : Nat) (x : SnapBank) : (s.setBank b x).commons = s.commons := rfl
@[simp] theorem State.setBank_ring (s : State) (b : Nat) (x : SnapBank) : (s.setBank b x).ring = s.ring := rfl
@[simp] theorem State.setBank_fbus (s : State) (b : Nat) (x : SnapBank) : (s.setBank b x).fbus = s.fbus := rfl
@[simp] theorem State.setBank_cfp (s : State) (b : Nat) (x : SnapBank) : (s.setBank b x).cfp = s.cfp := rfl
@[simp] theorem State.setBank_valve (s : State) (b : Nat) (x : SnapBank) : (s.setBank b x).valve = s.valve := rfl
@[simp] theorem State.setBank_fan (s : State) (b : Nat) (x : SnapBank) : (s.setBank b x).fan = s.fan := rfl
@[simp] theorem State.setBank_vent (s : State) (b : Nat) (x : SnapBank) : (s.setBank b x).vent = s.vent := rfl
@[simp] theorem State.setBank_sense (s : State) (b : Nat) (x : SnapBank) : (s.setBank b x).sense = s.sense := rfl
@[simp] theorem State.setBank_panel (s : State) (b : Nat) (x : SnapBank) : (s.setBank b x).panel = s.panel := rfl
@[simp] theorem State.setBank_clock (s : State) (b : Nat) (x : SnapBank) : (s.setBank b x).clock = s.clock := rfl
@[simp] theorem State.setBank_recorder (s : State) (b : Nat) (x : SnapBank) : (s.setBank b x).recorder = s.recorder := rfl
@[simp] theorem State.setBank_hif (s : State) (b : Nat) (x : SnapBank) : (s.setBank b x).hif = s.hif := rfl
@[simp] theorem State.setBank_mail (s : State) (b : Nat) (x : SnapBank) : (s.setBank b x).mail = s.mail := rfl
@[simp] theorem State.setBank_start (s : State) (b : Nat) (x : SnapBank) : (s.setBank b x).start = s.start := rfl
@[simp] theorem State.setBank_super (s : State) (b : Nat) (x : SnapBank) : (s.setBank b x).super = s.super := rfl
@[simp] theorem State.setBank_spare (s : State) (b : Nat) (x : SnapBank) : (s.setBank b x).spare = s.spare := rfl
@[simp] theorem State.setBank_sec (s : State) (b : Nat) (x : SnapBank) : (s.setBank b x).sec = s.sec := rfl
@[simp] theorem State.setBank_pins (s : State) (b : Nat) (x : SnapBank) : (s.setBank b x).pins = s.pins := rfl
@[simp] theorem State.setBank_window (s : State) (b : Nat) (x : SnapBank) : (s.setBank b x).window = s.window := rfl
@[simp] theorem State.setBank_free (s : State) (b : Nat) (x : SnapBank) : (s.setBank b x).free = s.free := rfl
@[simp] theorem State.setBank_pending (s : State) (b : Nat) (x : SnapBank) : (s.setBank b x).pending = s.pending := rfl
theorem State.bank_setBank (s : State) (b : Nat) (x : SnapBank) (h : fwf {} s.snap.banks = true) : (s.setBank b x).bank b = x := fget_fput_same _ _ h
theorem State.bank_setBank_other (s : State) (b : Nat) (x : SnapBank) {j : Nat} (h : j ≠ b) : (s.setBank b x).bank j = s.bank j := fget_fput_other _ h

/-! ### setTrace -/

@[simp] theorem State.setTrace_engine (s : State) (c : Nat) (x : Trace) : (s.setTrace c x).engine = { s.engine with traces := fput {} s.engine.traces c x } := rfl
@[simp] theorem State.setTrace_cfg (s : State) (c : Nat) (x : Trace) : (s.setTrace c x).cfg = s.cfg := rfl
@[simp] theorem State.setTrace_phase (s : State) (c : Nat) (x : Trace) : (s.setTrace c x).phase = s.phase := rfl
@[simp] theorem State.setTrace_abacus (s : State) (c : Nat) (x : Trace) : (s.setTrace c x).abacus = s.abacus := rfl
@[simp] theorem State.setTrace_carry (s : State) (c : Nat) (x : Trace) : (s.setTrace c x).carry = s.carry := rfl
@[simp] theorem State.setTrace_reck (s : State) (c : Nat) (x : Trace) : (s.setTrace c x).reck = s.reck := rfl
@[simp] theorem State.setTrace_commons (s : State) (c : Nat) (x : Trace) : (s.setTrace c x).commons = s.commons := rfl
@[simp] theorem State.setTrace_ring (s : State) (c : Nat) (x : Trace) : (s.setTrace c x).ring = s.ring := rfl
@[simp] theorem State.setTrace_fbus (s : State) (c : Nat) (x : Trace) : (s.setTrace c x).fbus = s.fbus := rfl
@[simp] theorem State.setTrace_cfp (s : State) (c : Nat) (x : Trace) : (s.setTrace c x).cfp = s.cfp := rfl
@[simp] theorem State.setTrace_valve (s : State) (c : Nat) (x : Trace) : (s.setTrace c x).valve = s.valve := rfl
@[simp] theorem State.setTrace_fan (s : State) (c : Nat) (x : Trace) : (s.setTrace c x).fan = s.fan := rfl
@[simp] theorem State.setTrace_vent (s : State) (c : Nat) (x : Trace) : (s.setTrace c x).vent = s.vent := rfl
@[simp] theorem State.setTrace_sense (s : State) (c : Nat) (x : Trace) : (s.setTrace c x).sense = s.sense := rfl
@[simp] theorem State.setTrace_panel (s : State) (c : Nat) (x : Trace) : (s.setTrace c x).panel = s.panel := rfl
@[simp] theorem State.setTrace_clock (s : State) (c : Nat) (x : Trace) : (s.setTrace c x).clock = s.clock := rfl
@[simp] theorem State.setTrace_recorder (s : State) (c : Nat) (x : Trace) : (s.setTrace c x).recorder = s.recorder := rfl
@[simp] theorem State.setTrace_hif (s : State) (c : Nat) (x : Trace) : (s.setTrace c x).hif = s.hif := rfl
@[simp] theorem State.setTrace_mail (s : State) (c : Nat) (x : Trace) : (s.setTrace c x).mail = s.mail := rfl
@[simp] theorem State.setTrace_snap (s : State) (c : Nat) (x : Trace) : (s.setTrace c x).snap = s.snap := rfl
@[simp] theorem State.setTrace_start (s : State) (c : Nat) (x : Trace) : (s.setTrace c x).start = s.start := rfl
@[simp] theorem State.setTrace_super (s : State) (c : Nat) (x : Trace) : (s.setTrace c x).super = s.super := rfl
@[simp] theorem State.setTrace_spare (s : State) (c : Nat) (x : Trace) : (s.setTrace c x).spare = s.spare := rfl
@[simp] theorem State.setTrace_sec (s : State) (c : Nat) (x : Trace) : (s.setTrace c x).sec = s.sec := rfl
@[simp] theorem State.setTrace_pins (s : State) (c : Nat) (x : Trace) : (s.setTrace c x).pins = s.pins := rfl
@[simp] theorem State.setTrace_window (s : State) (c : Nat) (x : Trace) : (s.setTrace c x).window = s.window := rfl
@[simp] theorem State.setTrace_free (s : State) (c : Nat) (x : Trace) : (s.setTrace c x).free = s.free := rfl
@[simp] theorem State.setTrace_pending (s : State) (c : Nat) (x : Trace) : (s.setTrace c x).pending = s.pending := rfl
theorem State.trace_setTrace (s : State) (c : Nat) (x : Trace) (h : fwf {} s.engine.traces = true) : (s.setTrace c x).trace c = x := fget_fput_same _ _ h
theorem State.trace_setTrace_other (s : State) (c : Nat) (x : Trace) {j : Nat} (h : j ≠ c) : (s.setTrace c x).trace j = s.trace j := fget_fput_other _ h

/-! ### setEntries -/

@[simp] theorem State.setEntries_mail (s : State) (m : Nat) (es : List Entry) : (s.setEntries m es).mail = { s.mail with queues := fput [] s.mail.queues m es } := rfl
@[simp] theorem State.setEntries_cfg (s : State) (m : Nat) (es : List Entry) : (s.setEntries m es).cfg = s.cfg := rfl
@[simp] theorem State.setEntries_phase (s : State) (m : Nat) (es : List Entry) : (s.setEntries m es).phase = s.phase := rfl
@[simp] theorem State.setEntries_abacus (s : State) (m : Nat) (es : List Entry) : (s.setEntries m es).abacus = s.abacus := rfl
@[simp] theorem State.setEntries_carry (s : State) (m : Nat) (es : List Entry) : (s.setEntries m es).carry = s.carry := rfl
@[simp] theorem State.setEntries_reck (s : State) (m : Nat) (es : List Entry) : (s.setEntries m es).reck = s.reck := rfl
@[simp] theorem State.setEntries_engine (s : State) (m : Nat) (es : List Entry) : (s.setEntries m es).engine = s.engine := rfl
@[simp] theorem State.setEntries_commons (s : State) (m : Nat) (es : List Entry) : (s.setEntries m es).commons = s.commons := rfl
@[simp] theorem State.setEntries_ring (s : State) (m : Nat) (es : List Entry) : (s.setEntries m es).ring = s.ring := rfl
@[simp] theorem State.setEntries_fbus (s : State) (m : Nat) (es : List Entry) : (s.setEntries m es).fbus = s.fbus := rfl
@[simp] theorem State.setEntries_cfp (s : State) (m : Nat) (es : List Entry) : (s.setEntries m es).cfp = s.cfp := rfl
@[simp] theorem State.setEntries_valve (s : State) (m : Nat) (es : List Entry) : (s.setEntries m es).valve = s.valve := rfl
@[simp] theorem State.setEntries_fan (s : State) (m : Nat) (es : List Entry) : (s.setEntries m es).fan = s.fan := rfl
@[simp] theorem State.setEntries_vent (s : State) (m : Nat) (es : List Entry) : (s.setEntries m es).vent = s.vent := rfl
@[simp] theorem State.setEntries_sense (s : State) (m : Nat) (es : List Entry) : (s.setEntries m es).sense = s.sense := rfl
@[simp] theorem State.setEntries_panel (s : State) (m : Nat) (es : List Entry) : (s.setEntries m es).panel = s.panel := rfl
@[simp] theorem State.setEntries_clock (s : State) (m : Nat) (es : List Entry) : (s.setEntries m es).clock = s.clock := rfl
@[simp] theorem State.setEntries_recorder (s : State) (m : Nat) (es : List Entry) : (s.setEntries m es).recorder = s.recorder := rfl
@[simp] theorem State.setEntries_hif (s : State) (m : Nat) (es : List Entry) : (s.setEntries m es).hif = s.hif := rfl
@[simp] theorem State.setEntries_snap (s : State) (m : Nat) (es : List Entry) : (s.setEntries m es).snap = s.snap := rfl
@[simp] theorem State.setEntries_start (s : State) (m : Nat) (es : List Entry) : (s.setEntries m es).start = s.start := rfl
@[simp] theorem State.setEntries_super (s : State) (m : Nat) (es : List Entry) : (s.setEntries m es).super = s.super := rfl
@[simp] theorem State.setEntries_spare (s : State) (m : Nat) (es : List Entry) : (s.setEntries m es).spare = s.spare := rfl
@[simp] theorem State.setEntries_sec (s : State) (m : Nat) (es : List Entry) : (s.setEntries m es).sec = s.sec := rfl
@[simp] theorem State.setEntries_pins (s : State) (m : Nat) (es : List Entry) : (s.setEntries m es).pins = s.pins := rfl
@[simp] theorem State.setEntries_window (s : State) (m : Nat) (es : List Entry) : (s.setEntries m es).window = s.window := rfl
@[simp] theorem State.setEntries_free (s : State) (m : Nat) (es : List Entry) : (s.setEntries m es).free = s.free := rfl
@[simp] theorem State.setEntries_pending (s : State) (m : Nat) (es : List Entry) : (s.setEntries m es).pending = s.pending := rfl
theorem State.entries_setEntries (s : State) (m : Nat) (es : List Entry) (h : fwf [] s.mail.queues = true) : (s.setEntries m es).entries m = es := fget_fput_same _ _ h
theorem State.entries_setEntries_other (s : State) (m : Nat) (es : List Entry) {j : Nat} (h : j ≠ m) : (s.setEntries m es).entries j = s.entries j := fget_fput_other _ h

/-! ### setMbxStats -/

@[simp] theorem State.setMbxStats_mail (s : State) (m : Nat) (x : MbxStats) : (s.setMbxStats m x).mail = { s.mail with stats := fput {} s.mail.stats m x } := rfl
@[simp] theorem State.setMbxStats_cfg (s : State) (m : Nat) (x : MbxStats) : (s.setMbxStats m x).cfg = s.cfg := rfl
@[simp] theorem State.setMbxStats_phase (s : State) (m : Nat) (x : MbxStats) : (s.setMbxStats m x).phase = s.phase := rfl
@[simp] theorem State.setMbxStats_abacus (s : State) (m : Nat) (x : MbxStats) : (s.setMbxStats m x).abacus = s.abacus := rfl
@[simp] theorem State.setMbxStats_carry (s : State) (m : Nat) (x : MbxStats) : (s.setMbxStats m x).carry = s.carry := rfl
@[simp] theorem State.setMbxStats_reck (s : State) (m : Nat) (x : MbxStats) : (s.setMbxStats m x).reck = s.reck := rfl
@[simp] theorem State.setMbxStats_engine (s : State) (m : Nat) (x : MbxStats) : (s.setMbxStats m x).engine = s.engine := rfl
@[simp] theorem State.setMbxStats_commons (s : State) (m : Nat) (x : MbxStats) : (s.setMbxStats m x).commons = s.commons := rfl
@[simp] theorem State.setMbxStats_ring (s : State) (m : Nat) (x : MbxStats) : (s.setMbxStats m x).ring = s.ring := rfl
@[simp] theorem State.setMbxStats_fbus (s : State) (m : Nat) (x : MbxStats) : (s.setMbxStats m x).fbus = s.fbus := rfl
@[simp] theorem State.setMbxStats_cfp (s : State) (m : Nat) (x : MbxStats) : (s.setMbxStats m x).cfp = s.cfp := rfl
@[simp] theorem State.setMbxStats_valve (s : State) (m : Nat) (x : MbxStats) : (s.setMbxStats m x).valve = s.valve := rfl
@[simp] theorem State.setMbxStats_fan (s : State) (m : Nat) (x : MbxStats) : (s.setMbxStats m x).fan = s.fan := rfl
@[simp] theorem State.setMbxStats_vent (s : State) (m : Nat) (x : MbxStats) : (s.setMbxStats m x).vent = s.vent := rfl
@[simp] theorem State.setMbxStats_sense (s : State) (m : Nat) (x : MbxStats) : (s.setMbxStats m x).sense = s.sense := rfl
@[simp] theorem State.setMbxStats_panel (s : State) (m : Nat) (x : MbxStats) : (s.setMbxStats m x).panel = s.panel := rfl
@[simp] theorem State.setMbxStats_clock (s : State) (m : Nat) (x : MbxStats) : (s.setMbxStats m x).clock = s.clock := rfl
@[simp] theorem State.setMbxStats_recorder (s : State) (m : Nat) (x : MbxStats) : (s.setMbxStats m x).recorder = s.recorder := rfl
@[simp] theorem State.setMbxStats_hif (s : State) (m : Nat) (x : MbxStats) : (s.setMbxStats m x).hif = s.hif := rfl
@[simp] theorem State.setMbxStats_snap (s : State) (m : Nat) (x : MbxStats) : (s.setMbxStats m x).snap = s.snap := rfl
@[simp] theorem State.setMbxStats_start (s : State) (m : Nat) (x : MbxStats) : (s.setMbxStats m x).start = s.start := rfl
@[simp] theorem State.setMbxStats_super (s : State) (m : Nat) (x : MbxStats) : (s.setMbxStats m x).super = s.super := rfl
@[simp] theorem State.setMbxStats_spare (s : State) (m : Nat) (x : MbxStats) : (s.setMbxStats m x).spare = s.spare := rfl
@[simp] theorem State.setMbxStats_sec (s : State) (m : Nat) (x : MbxStats) : (s.setMbxStats m x).sec = s.sec := rfl
@[simp] theorem State.setMbxStats_pins (s : State) (m : Nat) (x : MbxStats) : (s.setMbxStats m x).pins = s.pins := rfl
@[simp] theorem State.setMbxStats_window (s : State) (m : Nat) (x : MbxStats) : (s.setMbxStats m x).window = s.window := rfl
@[simp] theorem State.setMbxStats_free (s : State) (m : Nat) (x : MbxStats) : (s.setMbxStats m x).free = s.free := rfl
@[simp] theorem State.setMbxStats_pending (s : State) (m : Nat) (x : MbxStats) : (s.setMbxStats m x).pending = s.pending := rfl
theorem State.mbxStats_setMbxStats (s : State) (m : Nat) (x : MbxStats) (h : fwf {} s.mail.stats = true) : (s.setMbxStats m x).mbxStats m = x := fget_fput_same _ _ h
theorem State.mbxStats_setMbxStats_other (s : State) (m : Nat) (x : MbxStats) {j : Nat} (h : j ≠ m) : (s.setMbxStats m x).mbxStats j = s.mbxStats j := fget_fput_other _ h

/-! ### setInput -/

@[simp] theorem State.setInput_phase (s : State) (p : Nat) (x : PhaseInput) : (s.setInput p x).phase = { s.phase with inputs := fput {} s.phase.inputs p x } := rfl
@[simp] theorem State.setInput_cfg (s : State) (p : Nat) (x : PhaseInput) : (s.setInput p x).cfg = s.cfg := rfl
@[simp] theorem State.setInput_abacus (s : State) (p : Nat) (x : PhaseInput) : (s.setInput p x).abacus = s.abacus := rfl
@[simp] theorem State.setInput_carry (s : State) (p : Nat) (x : PhaseInput) : (s.setInput p x).carry = s.carry := rfl
@[simp] theorem State.setInput_reck (s : State) (p : Nat) (x : PhaseInput) : (s.setInput p x).reck = s.reck := rfl
@[simp] theorem State.setInput_engine (s : State) (p : Nat) (x : PhaseInput) : (s.setInput p x).engine = s.engine := rfl
@[simp] theorem State.setInput_commons (s : State) (p : Nat) (x : PhaseInput) : (s.setInput p x).commons = s.commons := rfl
@[simp] theorem State.setInput_ring (s : State) (p : Nat) (x : PhaseInput) : (s.setInput p x).ring = s.ring := rfl
@[simp] theorem State.setInput_fbus (s : State) (p : Nat) (x : PhaseInput) : (s.setInput p x).fbus = s.fbus := rfl
@[simp] theorem State.setInput_cfp (s : State) (p : Nat) (x : PhaseInput) : (s.setInput p x).cfp = s.cfp := rfl
@[simp] theorem State.setInput_valve (s : State) (p : Nat) (x : PhaseInput) : (s.setInput p x).valve = s.valve := rfl
@[simp] theorem State.setInput_fan (s : State) (p : Nat) (x : PhaseInput) : (s.setInput p x).fan = s.fan := rfl
@[simp] theorem State.setInput_vent (s : State) (p : Nat) (x : PhaseInput) : (s.setInput p x).vent = s.vent := rfl
@[simp] theorem State.setInput_sense (s : State) (p : Nat) (x : PhaseInput) : (s.setInput p x).sense = s.sense := rfl
@[simp] theorem State.setInput_panel (s : State) (p : Nat) (x : PhaseInput) : (s.setInput p x).panel = s.panel := rfl
@[simp] theorem State.setInput_clock (s : State) (p : Nat) (x : PhaseInput) : (s.setInput p x).clock = s.clock := rfl
@[simp] theorem State.setInput_recorder (s : State) (p : Nat) (x : PhaseInput) : (s.setInput p x).recorder = s.recorder := rfl
@[simp] theorem State.setInput_hif (s : State) (p : Nat) (x : PhaseInput) : (s.setInput p x).hif = s.hif := rfl
@[simp] theorem State.setInput_mail (s : State) (p : Nat) (x : PhaseInput) : (s.setInput p x).mail = s.mail := rfl
@[simp] theorem State.setInput_snap (s : State) (p : Nat) (x : PhaseInput) : (s.setInput p x).snap = s.snap := rfl
@[simp] theorem State.setInput_start (s : State) (p : Nat) (x : PhaseInput) : (s.setInput p x).start = s.start := rfl
@[simp] theorem State.setInput_super (s : State) (p : Nat) (x : PhaseInput) : (s.setInput p x).super = s.super := rfl
@[simp] theorem State.setInput_spare (s : State) (p : Nat) (x : PhaseInput) : (s.setInput p x).spare = s.spare := rfl
@[simp] theorem State.setInput_sec (s : State) (p : Nat) (x : PhaseInput) : (s.setInput p x).sec = s.sec := rfl
@[simp] theorem State.setInput_pins (s : State) (p : Nat) (x : PhaseInput) : (s.setInput p x).pins = s.pins := rfl
@[simp] theorem State.setInput_window (s : State) (p : Nat) (x : PhaseInput) : (s.setInput p x).window = s.window := rfl
@[simp] theorem State.setInput_free (s : State) (p : Nat) (x : PhaseInput) : (s.setInput p x).free = s.free := rfl
@[simp] theorem State.setInput_pending (s : State) (p : Nat) (x : PhaseInput) : (s.setInput p x).pending = s.pending := rfl
theorem State.input_setInput (s : State) (p : Nat) (x : PhaseInput) (h : fwf {} s.phase.inputs = true) : (s.setInput p x).input p = x := fget_fput_same _ _ h
theorem State.input_setInput_other (s : State) (p : Nat) (x : PhaseInput) {j : Nat} (h : j ≠ p) : (s.setInput p x).input j = s.input j := fget_fput_other _ h

/-! ### setChip -/

@[simp] theorem State.setChip_commons (s : State) (c : Nat) (x : ChipSeen) : (s.setChip c x).commons = { s.commons with chips := fput {} s.commons.chips c x } := rfl
@[simp] theorem State.setChip_cfg (s : State) (c : Nat) (x : ChipSeen) : (s.setChip c x).cfg = s.cfg := rfl
@[simp] theorem State.setChip_phase (s : State) (c : Nat) (x : ChipSeen) : (s.setChip c x).phase = s.phase := rfl
@[simp] theorem State.setChip_abacus (s : State) (c : Nat) (x : ChipSeen) : (s.setChip c x).abacus = s.abacus := rfl
@[simp] theorem State.setChip_carry (s : State) (c : Nat) (x : ChipSeen) : (s.setChip c x).carry = s.carry := rfl
@[simp] theorem State.setChip_reck (s : State) (c : Nat) (x : ChipSeen) : (s.setChip c x).reck = s.reck := rfl
@[simp] theorem State.setChip_engine (s : State) (c : Nat) (x : ChipSeen) : (s.setChip c x).engine = s.engine := rfl
@[simp] theorem State.setChip_ring (s : State) (c : Nat) (x : ChipSeen) : (s.setChip c x).ring = s.ring := rfl
@[simp] theorem State.setChip_fbus (s : State) (c : Nat) (x : ChipSeen) : (s.setChip c x).fbus = s.fbus := rfl
@[simp] theorem State.setChip_cfp (s : State) (c : Nat) (x : ChipSeen) : (s.setChip c x).cfp = s.cfp := rfl
@[simp] theorem State.setChip_valve (s : State) (c : Nat) (x : ChipSeen) : (s.setChip c x).valve = s.valve := rfl
@[simp] theorem State.setChip_fan (s : State) (c : Nat) (x : ChipSeen) : (s.setChip c x).fan = s.fan := rfl
@[simp] theorem State.setChip_vent (s : State) (c : Nat) (x : ChipSeen) : (s.setChip c x).vent = s.vent := rfl
@[simp] theorem State.setChip_sense (s : State) (c : Nat) (x : ChipSeen) : (s.setChip c x).sense = s.sense := rfl
@[simp] theorem State.setChip_panel (s : State) (c : Nat) (x : ChipSeen) : (s.setChip c x).panel = s.panel := rfl
@[simp] theorem State.setChip_clock (s : State) (c : Nat) (x : ChipSeen) : (s.setChip c x).clock = s.clock := rfl
@[simp] theorem State.setChip_recorder (s : State) (c : Nat) (x : ChipSeen) : (s.setChip c x).recorder = s.recorder := rfl
@[simp] theorem State.setChip_hif (s : State) (c : Nat) (x : ChipSeen) : (s.setChip c x).hif = s.hif := rfl
@[simp] theorem State.setChip_mail (s : State) (c : Nat) (x : ChipSeen) : (s.setChip c x).mail = s.mail := rfl
@[simp] theorem State.setChip_snap (s : State) (c : Nat) (x : ChipSeen) : (s.setChip c x).snap = s.snap := rfl
@[simp] theorem State.setChip_start (s : State) (c : Nat) (x : ChipSeen) : (s.setChip c x).start = s.start := rfl
@[simp] theorem State.setChip_super (s : State) (c : Nat) (x : ChipSeen) : (s.setChip c x).super = s.super := rfl
@[simp] theorem State.setChip_spare (s : State) (c : Nat) (x : ChipSeen) : (s.setChip c x).spare = s.spare := rfl
@[simp] theorem State.setChip_sec (s : State) (c : Nat) (x : ChipSeen) : (s.setChip c x).sec = s.sec := rfl
@[simp] theorem State.setChip_pins (s : State) (c : Nat) (x : ChipSeen) : (s.setChip c x).pins = s.pins := rfl
@[simp] theorem State.setChip_window (s : State) (c : Nat) (x : ChipSeen) : (s.setChip c x).window = s.window := rfl
@[simp] theorem State.setChip_free (s : State) (c : Nat) (x : ChipSeen) : (s.setChip c x).free = s.free := rfl
@[simp] theorem State.setChip_pending (s : State) (c : Nat) (x : ChipSeen) : (s.setChip c x).pending = s.pending := rfl
theorem State.chip_setChip (s : State) (c : Nat) (x : ChipSeen) (h : fwf {} s.commons.chips = true) : (s.setChip c x).chip c = x := fget_fput_same _ _ h
theorem State.chip_setChip_other (s : State) (c : Nat) (x : ChipSeen) {j : Nat} (h : j ≠ c) : (s.setChip c x).chip j = s.chip j := fget_fput_other _ h

/-! ### setProcessor -/

@[simp] theorem State.setProcessor_engine (s : State) (p : Nat) (x : Processor) : (s.setProcessor p x).engine = { s.engine with processors := fput {} s.engine.processors p x } := rfl
@[simp] theorem State.setProcessor_cfg (s : State) (p : Nat) (x : Processor) : (s.setProcessor p x).cfg = s.cfg := rfl
@[simp] theorem State.setProcessor_phase (s : State) (p : Nat) (x : Processor) : (s.setProcessor p x).phase = s.phase := rfl
@[simp] theorem State.setProcessor_abacus (s : State) (p : Nat) (x : Processor) : (s.setProcessor p x).abacus = s.abacus := rfl
@[simp] theorem State.setProcessor_carry (s : State) (p : Nat) (x : Processor) : (s.setProcessor p x).carry = s.carry := rfl
@[simp] theorem State.setProcessor_reck (s : State) (p : Nat) (x : Processor) : (s.setProcessor p x).reck = s.reck := rfl
@[simp] theorem State.setProcessor_commons (s : State) (p : Nat) (x : Processor) : (s.setProcessor p x).commons = s.commons := rfl
@[simp] theorem State.setProcessor_ring (s : State) (p : Nat) (x : Processor) : (s.setProcessor p x).ring = s.ring := rfl
@[simp] theorem State.setProcessor_fbus (s : State) (p : Nat) (x : Processor) : (s.setProcessor p x).fbus = s.fbus := rfl
@[simp] theorem State.setProcessor_cfp (s : State) (p : Nat) (x : Processor) : (s.setProcessor p x).cfp = s.cfp := rfl
@[simp] theorem State.setProcessor_valve (s : State) (p : Nat) (x : Processor) : (s.setProcessor p x).valve = s.valve := rfl
@[simp] theorem State.setProcessor_fan (s : State) (p : Nat) (x : Processor) : (s.setProcessor p x).fan = s.fan := rfl
@[simp] theorem State.setProcessor_vent (s : State) (p : Nat) (x : Processor) : (s.setProcessor p x).vent = s.vent := rfl
@[simp] theorem State.setProcessor_sense (s : State) (p : Nat) (x : Processor) : (s.setProcessor p x).sense = s.sense := rfl
@[simp] theorem State.setProcessor_panel (s : State) (p : Nat) (x : Processor) : (s.setProcessor p x).panel = s.panel := rfl
@[simp] theorem State.setProcessor_clock (s : State) (p : Nat) (x : Processor) : (s.setProcessor p x).clock = s.clock := rfl
@[simp] theorem State.setProcessor_recorder (s : State) (p : Nat) (x : Processor) : (s.setProcessor p x).recorder = s.recorder := rfl
@[simp] theorem State.setProcessor_hif (s : State) (p : Nat) (x : Processor) : (s.setProcessor p x).hif = s.hif := rfl
@[simp] theorem State.setProcessor_mail (s : State) (p : Nat) (x : Processor) : (s.setProcessor p x).mail = s.mail := rfl
@[simp] theorem State.setProcessor_snap (s : State) (p : Nat) (x : Processor) : (s.setProcessor p x).snap = s.snap := rfl
@[simp] theorem State.setProcessor_start (s : State) (p : Nat) (x : Processor) : (s.setProcessor p x).start = s.start := rfl
@[simp] theorem State.setProcessor_super (s : State) (p : Nat) (x : Processor) : (s.setProcessor p x).super = s.super := rfl
@[simp] theorem State.setProcessor_spare (s : State) (p : Nat) (x : Processor) : (s.setProcessor p x).spare = s.spare := rfl
@[simp] theorem State.setProcessor_sec (s : State) (p : Nat) (x : Processor) : (s.setProcessor p x).sec = s.sec := rfl
@[simp] theorem State.setProcessor_pins (s : State) (p : Nat) (x : Processor) : (s.setProcessor p x).pins = s.pins := rfl
@[simp] theorem State.setProcessor_window (s : State) (p : Nat) (x : Processor) : (s.setProcessor p x).window = s.window := rfl
@[simp] theorem State.setProcessor_free (s : State) (p : Nat) (x : Processor) : (s.setProcessor p x).free = s.free := rfl
@[simp] theorem State.setProcessor_pending (s : State) (p : Nat) (x : Processor) : (s.setProcessor p x).pending = s.pending := rfl
theorem State.processor_setProcessor (s : State) (p : Nat) (x : Processor) (h : fwf {} s.engine.processors = true) : (s.setProcessor p x).processor p = x := fget_fput_same _ _ h
theorem State.processor_setProcessor_other (s : State) (p : Nat) (x : Processor) {j : Nat} (h : j ≠ p) : (s.setProcessor p x).processor j = s.processor j := fget_fput_other _ h

/-! ### setSenseCh -/

@[simp] theorem State.setSenseCh_sense (s : State) (n : Nat) (x : SenseChannel) : (s.setSenseCh n x).sense = { s.sense with channels := fput {} s.sense.channels n x } := rfl
@[simp] theorem State.setSenseCh_cfg (s : State) (n : Nat) (x : SenseChannel) : (s.setSenseCh n x).cfg = s.cfg := rfl
@[simp] theorem State.setSenseCh_phase (s : State) (n : Nat) (x : SenseChannel) : (s.setSenseCh n x).phase = s.phase := rfl
@[simp] theorem State.setSenseCh_abacus (s : State) (n : Nat) (x : SenseChannel) : (s.setSenseCh n x).abacus = s.abacus := rfl
@[simp] theorem State.setSenseCh_carry (s : State) (n : Nat) (x : SenseChannel) : (s.setSenseCh n x).carry = s.carry := rfl
@[simp] theorem State.setSenseCh_reck (s : State) (n : Nat) (x : SenseChannel) : (s.setSenseCh n x).reck = s.reck := rfl
@[simp] theorem State.setSenseCh_engine (s : State) (n : Nat) (x : SenseChannel) : (s.setSenseCh n x).engine = s.engine := rfl
@[simp] theorem State.setSenseCh_commons (s : State) (n : Nat) (x : SenseChannel) : (s.setSenseCh n x).commons = s.commons := rfl
@[simp] theorem State.setSenseCh_ring (s : State) (n : Nat) (x : SenseChannel) : (s.setSenseCh n x).ring = s.ring := rfl
@[simp] theorem State.setSenseCh_fbus (s : State) (n : Nat) (x : SenseChannel) : (s.setSenseCh n x).fbus = s.fbus := rfl
@[simp] theorem State.setSenseCh_cfp (s : State) (n : Nat) (x : SenseChannel) : (s.setSenseCh n x).cfp = s.cfp := rfl
@[simp] theorem State.setSenseCh_valve (s : State) (n : Nat) (x : SenseChannel) : (s.setSenseCh n x).valve = s.valve := rfl
@[simp] theorem State.setSenseCh_fan (s : State) (n : Nat) (x : SenseChannel) : (s.setSenseCh n x).fan = s.fan := rfl
@[simp] theorem State.setSenseCh_vent (s : State) (n : Nat) (x : SenseChannel) : (s.setSenseCh n x).vent = s.vent := rfl
@[simp] theorem State.setSenseCh_panel (s : State) (n : Nat) (x : SenseChannel) : (s.setSenseCh n x).panel = s.panel := rfl
@[simp] theorem State.setSenseCh_clock (s : State) (n : Nat) (x : SenseChannel) : (s.setSenseCh n x).clock = s.clock := rfl
@[simp] theorem State.setSenseCh_recorder (s : State) (n : Nat) (x : SenseChannel) : (s.setSenseCh n x).recorder = s.recorder := rfl
@[simp] theorem State.setSenseCh_hif (s : State) (n : Nat) (x : SenseChannel) : (s.setSenseCh n x).hif = s.hif := rfl
@[simp] theorem State.setSenseCh_mail (s : State) (n : Nat) (x : SenseChannel) : (s.setSenseCh n x).mail = s.mail := rfl
@[simp] theorem State.setSenseCh_snap (s : State) (n : Nat) (x : SenseChannel) : (s.setSenseCh n x).snap = s.snap := rfl
@[simp] theorem State.setSenseCh_start (s : State) (n : Nat) (x : SenseChannel) : (s.setSenseCh n x).start = s.start := rfl
@[simp] theorem State.setSenseCh_super (s : State) (n : Nat) (x : SenseChannel) : (s.setSenseCh n x).super = s.super := rfl
@[simp] theorem State.setSenseCh_spare (s : State) (n : Nat) (x : SenseChannel) : (s.setSenseCh n x).spare = s.spare := rfl
@[simp] theorem State.setSenseCh_sec (s : State) (n : Nat) (x : SenseChannel) : (s.setSenseCh n x).sec = s.sec := rfl
@[simp] theorem State.setSenseCh_pins (s : State) (n : Nat) (x : SenseChannel) : (s.setSenseCh n x).pins = s.pins := rfl
@[simp] theorem State.setSenseCh_window (s : State) (n : Nat) (x : SenseChannel) : (s.setSenseCh n x).window = s.window := rfl
@[simp] theorem State.setSenseCh_free (s : State) (n : Nat) (x : SenseChannel) : (s.setSenseCh n x).free = s.free := rfl
@[simp] theorem State.setSenseCh_pending (s : State) (n : Nat) (x : SenseChannel) : (s.setSenseCh n x).pending = s.pending := rfl
theorem State.senseCh_setSenseCh (s : State) (n : Nat) (x : SenseChannel) (h : fwf {} s.sense.channels = true) : (s.setSenseCh n x).senseCh n = x := fget_fput_same _ _ h
theorem State.senseCh_setSenseCh_other (s : State) (n : Nat) (x : SenseChannel) {j : Nat} (h : j ≠ n) : (s.setSenseCh n x).senseCh j = s.senseCh j := fget_fput_other _ h

/-! ### setMeterP -/

@[simp] theorem State.setMeterP_sense (s : State) (p : Nat) (x : MeterPhase) : (s.setMeterP p x).sense = { s.sense with phases := fput {} s.sense.phases p x } := rfl
@[simp] theorem State.setMeterP_cfg (s : State) (p : Nat) (x : MeterPhase) : (s.setMeterP p x).cfg = s.cfg := rfl
@[simp] theorem State.setMeterP_phase (s : State) (p : Nat) (x : MeterPhase) : (s.setMeterP p x).phase = s.phase := rfl
@[simp] theorem State.setMeterP_abacus (s : State) (p : Nat) (x : MeterPhase) : (s.setMeterP p x).abacus = s.abacus := rfl
@[simp] theorem State.setMeterP_carry (s : State) (p : Nat) (x : MeterPhase) : (s.setMeterP p x).carry = s.carry := rfl
@[simp] theorem State.setMeterP_reck (s : State) (p : Nat) (x : MeterPhase) : (s.setMeterP p x).reck = s.reck := rfl
@[simp] theorem State.setMeterP_engine (s : State) (p : Nat) (x : MeterPhase) : (s.setMeterP p x).engine = s.engine := rfl
@[simp] theorem State.setMeterP_commons (s : State) (p : Nat) (x : MeterPhase) : (s.setMeterP p x).commons = s.commons := rfl
@[simp] theorem State.setMeterP_ring (s : State) (p : Nat) (x : MeterPhase) : (s.setMeterP p x).ring = s.ring := rfl
@[simp] theorem State.setMeterP_fbus (s : State) (p : Nat) (x : MeterPhase) : (s.setMeterP p x).fbus = s.fbus := rfl
@[simp] theorem State.setMeterP_cfp (s : State) (p : Nat) (x : MeterPhase) : (s.setMeterP p x).cfp = s.cfp := rfl
@[simp] theorem State.setMeterP_valve (s : State) (p : Nat) (x : MeterPhase) : (s.setMeterP p x).valve = s.valve := rfl
@[simp] theorem State.setMeterP_fan (s : State) (p : Nat) (x : MeterPhase) : (s.setMeterP p x).fan = s.fan := rfl
@[simp] theorem State.setMeterP_vent (s : State) (p : Nat) (x : MeterPhase) : (s.setMeterP p x).vent = s.vent := rfl
@[simp] theorem State.setMeterP_panel (s : State) (p : Nat) (x : MeterPhase) : (s.setMeterP p x).panel = s.panel := rfl
@[simp] theorem State.setMeterP_clock (s : State) (p : Nat) (x : MeterPhase) : (s.setMeterP p x).clock = s.clock := rfl
@[simp] theorem State.setMeterP_recorder (s : State) (p : Nat) (x : MeterPhase) : (s.setMeterP p x).recorder = s.recorder := rfl
@[simp] theorem State.setMeterP_hif (s : State) (p : Nat) (x : MeterPhase) : (s.setMeterP p x).hif = s.hif := rfl
@[simp] theorem State.setMeterP_mail (s : State) (p : Nat) (x : MeterPhase) : (s.setMeterP p x).mail = s.mail := rfl
@[simp] theorem State.setMeterP_snap (s : State) (p : Nat) (x : MeterPhase) : (s.setMeterP p x).snap = s.snap := rfl
@[simp] theorem State.setMeterP_start (s : State) (p : Nat) (x : MeterPhase) : (s.setMeterP p x).start = s.start := rfl
@[simp] theorem State.setMeterP_super (s : State) (p : Nat) (x : MeterPhase) : (s.setMeterP p x).super = s.super := rfl
@[simp] theorem State.setMeterP_spare (s : State) (p : Nat) (x : MeterPhase) : (s.setMeterP p x).spare = s.spare := rfl
@[simp] theorem State.setMeterP_sec (s : State) (p : Nat) (x : MeterPhase) : (s.setMeterP p x).sec = s.sec := rfl
@[simp] theorem State.setMeterP_pins (s : State) (p : Nat) (x : MeterPhase) : (s.setMeterP p x).pins = s.pins := rfl
@[simp] theorem State.setMeterP_window (s : State) (p : Nat) (x : MeterPhase) : (s.setMeterP p x).window = s.window := rfl
@[simp] theorem State.setMeterP_free (s : State) (p : Nat) (x : MeterPhase) : (s.setMeterP p x).free = s.free := rfl
@[simp] theorem State.setMeterP_pending (s : State) (p : Nat) (x : MeterPhase) : (s.setMeterP p x).pending = s.pending := rfl
theorem State.meterP_setMeterP (s : State) (p : Nat) (x : MeterPhase) (h : fwf {} s.sense.phases = true) : (s.setMeterP p x).meterP p = x := fget_fput_same _ _ h
theorem State.meterP_setMeterP_other (s : State) (p : Nat) (x : MeterPhase) {j : Nat} (h : j ≠ p) : (s.setMeterP p x).meterP j = s.meterP j := fget_fput_other _ h

/-! ### setChan -/

@[simp] theorem State.setChan_fbus (s : State) (n : Nat) (x : Channel) : (s.setChan n x).fbus = { s.fbus with channels := fput {} s.fbus.channels n x } := rfl
@[simp] theorem State.setChan_cfg (s : State) (n : Nat) (x : Channel) : (s.setChan n x).cfg = s.cfg := rfl
@[simp] theorem State.setChan_phase (s : State) (n : Nat) (x : Channel) : (s.setChan n x).phase = s.phase := rfl
@[simp] theorem State.setChan_abacus (s : State) (n : Nat) (x : Channel) : (s.setChan n x).abacus = s.abacus := rfl
@[simp] theorem State.setChan_carry (s : State) (n : Nat) (x : Channel) : (s.setChan n x).carry = s.carry := rfl
@[simp] theorem State.setChan_reck (s : State) (n : Nat) (x : Channel) : (s.setChan n x).reck = s.reck := rfl
@[simp] theorem State.setChan_engine (s : State) (n : Nat) (x : Channel) : (s.setChan n x).engine = s.engine := rfl
@[simp] theorem State.setChan_commons (s : State) (n : Nat) (x : Channel) : (s.setChan n x).commons = s.commons := rfl
@[simp] theorem State.setChan_ring (s : State) (n : Nat) (x : Channel) : (s.setChan n x).ring = s.ring := rfl
@[simp] theorem State.setChan_cfp (s : State) (n : Nat) (x : Channel) : (s.setChan n x).cfp = s.cfp := rfl
@[simp] theorem State.setChan_valve (s : State) (n : Nat) (x : Channel) : (s.setChan n x).valve = s.valve := rfl
@[simp] theorem State.setChan_fan (s : State) (n : Nat) (x : Channel) : (s.setChan n x).fan = s.fan := rfl
@[simp] theorem State.setChan_vent (s : State) (n : Nat) (x : Channel) : (s.setChan n x).vent = s.vent := rfl
@[simp] theorem State.setChan_sense (s : State) (n : Nat) (x : Channel) : (s.setChan n x).sense = s.sense := rfl
@[simp] theorem State.setChan_panel (s : State) (n : Nat) (x : Channel) : (s.setChan n x).panel = s.panel := rfl
@[simp] theorem State.setChan_clock (s : State) (n : Nat) (x : Channel) : (s.setChan n x).clock = s.clock := rfl
@[simp] theorem State.setChan_recorder (s : State) (n : Nat) (x : Channel) : (s.setChan n x).recorder = s.recorder := rfl
@[simp] theorem State.setChan_hif (s : State) (n : Nat) (x : Channel) : (s.setChan n x).hif = s.hif := rfl
@[simp] theorem State.setChan_mail (s : State) (n : Nat) (x : Channel) : (s.setChan n x).mail = s.mail := rfl
@[simp] theorem State.setChan_snap (s : State) (n : Nat) (x : Channel) : (s.setChan n x).snap = s.snap := rfl
@[simp] theorem State.setChan_start (s : State) (n : Nat) (x : Channel) : (s.setChan n x).start = s.start := rfl
@[simp] theorem State.setChan_super (s : State) (n : Nat) (x : Channel) : (s.setChan n x).super = s.super := rfl
@[simp] theorem State.setChan_spare (s : State) (n : Nat) (x : Channel) : (s.setChan n x).spare = s.spare := rfl
@[simp] theorem State.setChan_sec (s : State) (n : Nat) (x : Channel) : (s.setChan n x).sec = s.sec := rfl
@[simp] theorem State.setChan_pins (s : State) (n : Nat) (x : Channel) : (s.setChan n x).pins = s.pins := rfl
@[simp] theorem State.setChan_window (s : State) (n : Nat) (x : Channel) : (s.setChan n x).window = s.window := rfl
@[simp] theorem State.setChan_free (s : State) (n : Nat) (x : Channel) : (s.setChan n x).free = s.free := rfl
@[simp] theorem State.setChan_pending (s : State) (n : Nat) (x : Channel) : (s.setChan n x).pending = s.pending := rfl
theorem State.chan_setChan (s : State) (n : Nat) (x : Channel) (h : fwf {} s.fbus.channels = true) : (s.setChan n x).chan n = x := fget_fput_same _ _ h
theorem State.chan_setChan_other (s : State) (n : Nat) (x : Channel) {j : Nat} (h : j ≠ n) : (s.setChan n x).chan j = s.chan j := fget_fput_other _ h

/-! ### setLedger -/

@[simp] theorem State.setLedger_start (s : State) (l : Ledger) : (s.setLedger l).start = { s.start with ledger := l } := rfl
@[simp] theorem State.setLedger_cfg (s : State) (l : Ledger) : (s.setLedger l).cfg = s.cfg := rfl
@[simp] theorem State.setLedger_phase (s : State) (l : Ledger) : (s.setLedger l).phase = s.phase := rfl
@[simp] theorem State.setLedger_abacus (s : State) (l : Ledger) : (s.setLedger l).abacus = s.abacus := rfl
@[simp] theorem State.setLedger_carry (s : State) (l : Ledger) : (s.setLedger l).carry = s.carry := rfl
@[simp] theorem State.setLedger_reck (s : State) (l : Ledger) : (s.setLedger l).reck = s.reck := rfl
@[simp] theorem State.setLedger_engine (s : State) (l : Ledger) : (s.setLedger l).engine = s.engine := rfl
@[simp] theorem State.setLedger_commons (s : State) (l : Ledger) : (s.setLedger l).commons = s.commons := rfl
@[simp] theorem State.setLedger_ring (s : State) (l : Ledger) : (s.setLedger l).ring = s.ring := rfl
@[simp] theorem State.setLedger_fbus (s : State) (l : Ledger) : (s.setLedger l).fbus = s.fbus := rfl
@[simp] theorem State.setLedger_cfp (s : State) (l : Ledger) : (s.setLedger l).cfp = s.cfp := rfl
@[simp] theorem State.setLedger_valve (s : State) (l : Ledger) : (s.setLedger l).valve = s.valve := rfl
@[simp] theorem State.setLedger_fan (s : State) (l : Ledger) : (s.setLedger l).fan = s.fan := rfl
@[simp] theorem State.setLedger_vent (s : State) (l : Ledger) : (s.setLedger l).vent = s.vent := rfl
@[simp] theorem State.setLedger_sense (s : State) (l : Ledger) : (s.setLedger l).sense = s.sense := rfl
@[simp] theorem State.setLedger_panel (s : State) (l : Ledger) : (s.setLedger l).panel = s.panel := rfl
@[simp] theorem State.setLedger_clock (s : State) (l : Ledger) : (s.setLedger l).clock = s.clock := rfl
@[simp] theorem State.setLedger_recorder (s : State) (l : Ledger) : (s.setLedger l).recorder = s.recorder := rfl
@[simp] theorem State.setLedger_hif (s : State) (l : Ledger) : (s.setLedger l).hif = s.hif := rfl
@[simp] theorem State.setLedger_mail (s : State) (l : Ledger) : (s.setLedger l).mail = s.mail := rfl
@[simp] theorem State.setLedger_snap (s : State) (l : Ledger) : (s.setLedger l).snap = s.snap := rfl
@[simp] theorem State.setLedger_super (s : State) (l : Ledger) : (s.setLedger l).super = s.super := rfl
@[simp] theorem State.setLedger_spare (s : State) (l : Ledger) : (s.setLedger l).spare = s.spare := rfl
@[simp] theorem State.setLedger_sec (s : State) (l : Ledger) : (s.setLedger l).sec = s.sec := rfl
@[simp] theorem State.setLedger_pins (s : State) (l : Ledger) : (s.setLedger l).pins = s.pins := rfl
@[simp] theorem State.setLedger_window (s : State) (l : Ledger) : (s.setLedger l).window = s.window := rfl
@[simp] theorem State.setLedger_free (s : State) (l : Ledger) : (s.setLedger l).free = s.free := rfl
@[simp] theorem State.setLedger_pending (s : State) (l : Ledger) : (s.setLedger l).pending = s.pending := rfl

/-! ### setLoop -/

@[simp] theorem State.setLoop_engine (s : State) (l : Nat) (x : Loop) : (s.setLoop l x).engine = { s.engine with loops := fput {} s.engine.loops l x } := rfl
@[simp] theorem State.setLoop_cfg (s : State) (l : Nat) (x : Loop) : (s.setLoop l x).cfg = s.cfg := rfl
@[simp] theorem State.setLoop_phase (s : State) (l : Nat) (x : Loop) : (s.setLoop l x).phase = s.phase := rfl
@[simp] theorem State.setLoop_abacus (s : State) (l : Nat) (x : Loop) : (s.setLoop l x).abacus = s.abacus := rfl
@[simp] theorem State.setLoop_carry (s : State) (l : Nat) (x : Loop) : (s.setLoop l x).carry = s.carry := rfl
@[simp] theorem State.setLoop_reck (s : State) (l : Nat) (x : Loop) : (s.setLoop l x).reck = s.reck := rfl
@[simp] theorem State.setLoop_commons (s : State) (l : Nat) (x : Loop) : (s.setLoop l x).commons = s.commons := rfl
@[simp] theorem State.setLoop_ring (s : State) (l : Nat) (x : Loop) : (s.setLoop l x).ring = s.ring := rfl
@[simp] theorem State.setLoop_fbus (s : State) (l : Nat) (x : Loop) : (s.setLoop l x).fbus = s.fbus := rfl
@[simp] theorem State.setLoop_cfp (s : State) (l : Nat) (x : Loop) : (s.setLoop l x).cfp = s.cfp := rfl
@[simp] theorem State.setLoop_valve (s : State) (l : Nat) (x : Loop) : (s.setLoop l x).valve = s.valve := rfl
@[simp] theorem State.setLoop_fan (s : State) (l : Nat) (x : Loop) : (s.setLoop l x).fan = s.fan := rfl
@[simp] theorem State.setLoop_vent (s : State) (l : Nat) (x : Loop) : (s.setLoop l x).vent = s.vent := rfl
@[simp] theorem State.setLoop_sense (s : State) (l : Nat) (x : Loop) : (s.setLoop l x).sense = s.sense := rfl
@[simp] theorem State.setLoop_panel (s : State) (l : Nat) (x : Loop) : (s.setLoop l x).panel = s.panel := rfl
@[simp] theorem State.setLoop_clock (s : State) (l : Nat) (x : Loop) : (s.setLoop l x).clock = s.clock := rfl
@[simp] theorem State.setLoop_recorder (s : State) (l : Nat) (x : Loop) : (s.setLoop l x).recorder = s.recorder := rfl
@[simp] theorem State.setLoop_hif (s : State) (l : Nat) (x : Loop) : (s.setLoop l x).hif = s.hif := rfl
@[simp] theorem State.setLoop_mail (s : State) (l : Nat) (x : Loop) : (s.setLoop l x).mail = s.mail := rfl
@[simp] theorem State.setLoop_snap (s : State) (l : Nat) (x : Loop) : (s.setLoop l x).snap = s.snap := rfl
@[simp] theorem State.setLoop_start (s : State) (l : Nat) (x : Loop) : (s.setLoop l x).start = s.start := rfl
@[simp] theorem State.setLoop_super (s : State) (l : Nat) (x : Loop) : (s.setLoop l x).super = s.super := rfl
@[simp] theorem State.setLoop_spare (s : State) (l : Nat) (x : Loop) : (s.setLoop l x).spare = s.spare := rfl
@[simp] theorem State.setLoop_sec (s : State) (l : Nat) (x : Loop) : (s.setLoop l x).sec = s.sec := rfl
@[simp] theorem State.setLoop_pins (s : State) (l : Nat) (x : Loop) : (s.setLoop l x).pins = s.pins := rfl
@[simp] theorem State.setLoop_window (s : State) (l : Nat) (x : Loop) : (s.setLoop l x).window = s.window := rfl
@[simp] theorem State.setLoop_free (s : State) (l : Nat) (x : Loop) : (s.setLoop l x).free = s.free := rfl
@[simp] theorem State.setLoop_pending (s : State) (l : Nat) (x : Loop) : (s.setLoop l x).pending = s.pending := rfl
theorem State.loop_setLoop (s : State) (l : Nat) (x : Loop) (h : fwf {} s.engine.loops = true) : (s.setLoop l x).loop l = x := fget_fput_same _ _ h
theorem State.loop_setLoop_other (s : State) (l : Nat) (x : Loop) {j : Nat} (h : j ≠ l) : (s.setLoop l x).loop j = s.loop j := fget_fput_other _ h

/-! ### setBus -/

@[simp] theorem State.setBus_cfp (s : State) (n : Nat) (x : Bus) : (s.setBus n x).cfp = { s.cfp with buses := fput {} s.cfp.buses n x } := rfl
@[simp] theorem State.setBus_cfg (s : State) (n : Nat) (x : Bus) : (s.setBus n x).cfg = s.cfg := rfl
@[simp] theorem State.setBus_phase (s : State) (n : Nat) (x : Bus) : (s.setBus n x).phase = s.phase := rfl
@[simp] theorem State.setBus_abacus (s : State) (n : Nat) (x : Bus) : (s.setBus n x).abacus = s.abacus := rfl
@[simp] theorem State.setBus_carry (s : State) (n : Nat) (x : Bus) : (s.setBus n x).carry = s.carry := rfl
@[simp] theorem State.setBus_reck (s : State) (n : Nat) (x : Bus) : (s.setBus n x).reck = s.reck := rfl
@[simp] theorem State.setBus_engine (s : State) (n : Nat) (x : Bus) : (s.setBus n x).engine = s.engine := rfl
@[simp] theorem State.setBus_commons (s : State) (n : Nat) (x : Bus) : (s.setBus n x).commons = s.commons := rfl
@[simp] theorem State.setBus_ring (s : State) (n : Nat) (x : Bus) : (s.setBus n x).ring = s.ring := rfl
@[simp] theorem State.setBus_fbus (s : State) (n : Nat) (x : Bus) : (s.setBus n x).fbus = s.fbus := rfl
@[simp] theorem State.setBus_valve (s : State) (n : Nat) (x : Bus) : (s.setBus n x).valve = s.valve := rfl
@[simp] theorem State.setBus_fan (s : State) (n : Nat) (x : Bus) : (s.setBus n x).fan = s.fan := rfl
@[simp] theorem State.setBus_vent (s : State) (n : Nat) (x : Bus) : (s.setBus n x).vent = s.vent := rfl
@[simp] theorem State.setBus_sense (s : State) (n : Nat) (x : Bus) : (s.setBus n x).sense = s.sense := rfl
@[simp] theorem State.setBus_panel (s : State) (n : Nat) (x : Bus) : (s.setBus n x).panel = s.panel := rfl
@[simp] theorem State.setBus_clock (s : State) (n : Nat) (x : Bus) : (s.setBus n x).clock = s.clock := rfl
@[simp] theorem State.setBus_recorder (s : State) (n : Nat) (x : Bus) : (s.setBus n x).recorder = s.recorder := rfl
@[simp] theorem State.setBus_hif (s : State) (n : Nat) (x : Bus) : (s.setBus n x).hif = s.hif := rfl
@[simp] theorem State.setBus_mail (s : State) (n : Nat) (x : Bus) : (s.setBus n x).mail = s.mail := rfl
@[simp] theorem State.setBus_snap (s : State) (n : Nat) (x : Bus) : (s.setBus n x).snap = s.snap := rfl
@[simp] theorem State.setBus_start (s : State) (n : Nat) (x : Bus) : (s.setBus n x).start = s.start := rfl
@[simp] theorem State.setBus_super (s : State) (n : Nat) (x : Bus) : (s.setBus n x).super = s.super := rfl
@[simp] theorem State.setBus_spare (s : State) (n : Nat) (x : Bus) : (s.setBus n x).spare = s.spare := rfl
@[simp] theorem State.setBus_sec (s : State) (n : Nat) (x : Bus) : (s.setBus n x).sec = s.sec := rfl
@[simp] theorem State.setBus_pins (s : State) (n : Nat) (x : Bus) : (s.setBus n x).pins = s.pins := rfl
@[simp] theorem State.setBus_window (s : State) (n : Nat) (x : Bus) : (s.setBus n x).window = s.window := rfl
@[simp] theorem State.setBus_free (s : State) (n : Nat) (x : Bus) : (s.setBus n x).free = s.free := rfl
@[simp] theorem State.setBus_pending (s : State) (n : Nat) (x : Bus) : (s.setBus n x).pending = s.pending := rfl
theorem State.bus_setBus (s : State) (n : Nat) (x : Bus) (h : fwf {} s.cfp.buses = true) : (s.setBus n x).bus n = x := fget_fput_same _ _ h
theorem State.bus_setBus_other (s : State) (n : Nat) (x : Bus) {j : Nat} (h : j ≠ n) : (s.setBus n x).bus j = s.bus j := fget_fput_other _ h

/-! ### setRoleEntry -/

@[simp] theorem State.setRoleEntry_cfp (s : State) (r : Nat) (x : RoleEntry) : (s.setRoleEntry r x).cfp = { s.cfp with roles := fput {} s.cfp.roles r x } := rfl
@[simp] theorem State.setRoleEntry_cfg (s : State) (r : Nat) (x : RoleEntry) : (s.setRoleEntry r x).cfg = s.cfg := rfl
@[simp] theorem State.setRoleEntry_phase (s : State) (r : Nat) (x : RoleEntry) : (s.setRoleEntry r x).phase = s.phase := rfl
@[simp] theorem State.setRoleEntry_abacus (s : State) (r : Nat) (x : RoleEntry) : (s.setRoleEntry r x).abacus = s.abacus := rfl
@[simp] theorem State.setRoleEntry_carry (s : State) (r : Nat) (x : RoleEntry) : (s.setRoleEntry r x).carry = s.carry := rfl
@[simp] theorem State.setRoleEntry_reck (s : State) (r : Nat) (x : RoleEntry) : (s.setRoleEntry r x).reck = s.reck := rfl
@[simp] theorem State.setRoleEntry_engine (s : State) (r : Nat) (x : RoleEntry) : (s.setRoleEntry r x).engine = s.engine := rfl
@[simp] theorem State.setRoleEntry_commons (s : State) (r : Nat) (x : RoleEntry) : (s.setRoleEntry r x).commons = s.commons := rfl
@[simp] theorem State.setRoleEntry_ring (s : State) (r : Nat) (x : RoleEntry) : (s.setRoleEntry r x).ring = s.ring := rfl
@[simp] theorem State.setRoleEntry_fbus (s : State) (r : Nat) (x : RoleEntry) : (s.setRoleEntry r x).fbus = s.fbus := rfl
@[simp] theorem State.setRoleEntry_valve (s : State) (r : Nat) (x : RoleEntry) : (s.setRoleEntry r x).valve = s.valve := rfl
@[simp] theorem State.setRoleEntry_fan (s : State) (r : Nat) (x : RoleEntry) : (s.setRoleEntry r x).fan = s.fan := rfl
@[simp] theorem State.setRoleEntry_vent (s : State) (r : Nat) (x : RoleEntry) : (s.setRoleEntry r x).vent = s.vent := rfl
@[simp] theorem State.setRoleEntry_sense (s : State) (r : Nat) (x : RoleEntry) : (s.setRoleEntry r x).sense = s.sense := rfl
@[simp] theorem State.setRoleEntry_panel (s : State) (r : Nat) (x : RoleEntry) : (s.setRoleEntry r x).panel = s.panel := rfl
@[simp] theorem State.setRoleEntry_clock (s : State) (r : Nat) (x : RoleEntry) : (s.setRoleEntry r x).clock = s.clock := rfl
@[simp] theorem State.setRoleEntry_recorder (s : State) (r : Nat) (x : RoleEntry) : (s.setRoleEntry r x).recorder = s.recorder := rfl
@[simp] theorem State.setRoleEntry_hif (s : State) (r : Nat) (x : RoleEntry) : (s.setRoleEntry r x).hif = s.hif := rfl
@[simp] theorem State.setRoleEntry_mail (s : State) (r : Nat) (x : RoleEntry) : (s.setRoleEntry r x).mail = s.mail := rfl
@[simp] theorem State.setRoleEntry_snap (s : State) (r : Nat) (x : RoleEntry) : (s.setRoleEntry r x).snap = s.snap := rfl
@[simp] theorem State.setRoleEntry_start (s : State) (r : Nat) (x : RoleEntry) : (s.setRoleEntry r x).start = s.start := rfl
@[simp] theorem State.setRoleEntry_super (s : State) (r : Nat) (x : RoleEntry) : (s.setRoleEntry r x).super = s.super := rfl
@[simp] theorem State.setRoleEntry_spare (s : State) (r : Nat) (x : RoleEntry) : (s.setRoleEntry r x).spare = s.spare := rfl
@[simp] theorem State.setRoleEntry_sec (s : State) (r : Nat) (x : RoleEntry) : (s.setRoleEntry r x).sec = s.sec := rfl
@[simp] theorem State.setRoleEntry_pins (s : State) (r : Nat) (x : RoleEntry) : (s.setRoleEntry r x).pins = s.pins := rfl
@[simp] theorem State.setRoleEntry_window (s : State) (r : Nat) (x : RoleEntry) : (s.setRoleEntry r x).window = s.window := rfl
@[simp] theorem State.setRoleEntry_free (s : State) (r : Nat) (x : RoleEntry) : (s.setRoleEntry r x).free = s.free := rfl
@[simp] theorem State.setRoleEntry_pending (s : State) (r : Nat) (x : RoleEntry) : (s.setRoleEntry r x).pending = s.pending := rfl
theorem State.roleEntry_setRoleEntry (s : State) (r : Nat) (x : RoleEntry) (h : fwf {} s.cfp.roles = true) : (s.setRoleEntry r x).roleEntry r = x := fget_fput_same _ _ h
theorem State.roleEntry_setRoleEntry_other (s : State) (r : Nat) (x : RoleEntry) {j : Nat} (h : j ≠ r) : (s.setRoleEntry r x).roleEntry j = s.roleEntry j := fget_fput_other _ h

/-! ### setUnit -/

@[simp] theorem State.setUnit_spare (s : State) (kind unit : Nat) (x : WearUnit) : (s.setUnit kind unit x).spare = { s.spare with units := fput {} s.spare.units (unitKey kind unit) x } := rfl
@[simp] theorem State.setUnit_cfg (s : State) (kind unit : Nat) (x : WearUnit) : (s.setUnit kind unit x).cfg = s.cfg := rfl
@[simp] theorem State.setUnit_phase (s : State) (kind unit : Nat) (x : WearUnit) : (s.setUnit kind unit x).phase = s.phase := rfl
@[simp] theorem State.setUnit_abacus (s : State) (kind unit : Nat) (x : WearUnit) : (s.setUnit kind unit x).abacus = s.abacus := rfl
@[simp] theorem State.setUnit_carry (s : State) (kind unit : Nat) (x : WearUnit) : (s.setUnit kind unit x).carry = s.carry := rfl
@[simp] theorem State.setUnit_reck (s : State) (kind unit : Nat) (x : WearUnit) : (s.setUnit kind unit x).reck = s.reck := rfl
@[simp] theorem State.setUnit_engine (s : State) (kind unit : Nat) (x : WearUnit) : (s.setUnit kind unit x).engine = s.engine := rfl
@[simp] theorem State.setUnit_commons (s : State) (kind unit : Nat) (x : WearUnit) : (s.setUnit kind unit x).commons = s.commons := rfl
@[simp] theorem State.setUnit_ring (s : State) (kind unit : Nat) (x : WearUnit) : (s.setUnit kind unit x).ring = s.ring := rfl
@[simp] theorem State.setUnit_fbus (s : State) (kind unit : Nat) (x : WearUnit) : (s.setUnit kind unit x).fbus = s.fbus := rfl
@[simp] theorem State.setUnit_cfp (s : State) (kind unit : Nat) (x : WearUnit) : (s.setUnit kind unit x).cfp = s.cfp := rfl
@[simp] theorem State.setUnit_valve (s : State) (kind unit : Nat) (x : WearUnit) : (s.setUnit kind unit x).valve = s.valve := rfl
@[simp] theorem State.setUnit_fan (s : State) (kind unit : Nat) (x : WearUnit) : (s.setUnit kind unit x).fan = s.fan := rfl
@[simp] theorem State.setUnit_vent (s : State) (kind unit : Nat) (x : WearUnit) : (s.setUnit kind unit x).vent = s.vent := rfl
@[simp] theorem State.setUnit_sense (s : State) (kind unit : Nat) (x : WearUnit) : (s.setUnit kind unit x).sense = s.sense := rfl
@[simp] theorem State.setUnit_panel (s : State) (kind unit : Nat) (x : WearUnit) : (s.setUnit kind unit x).panel = s.panel := rfl
@[simp] theorem State.setUnit_clock (s : State) (kind unit : Nat) (x : WearUnit) : (s.setUnit kind unit x).clock = s.clock := rfl
@[simp] theorem State.setUnit_recorder (s : State) (kind unit : Nat) (x : WearUnit) : (s.setUnit kind unit x).recorder = s.recorder := rfl
@[simp] theorem State.setUnit_hif (s : State) (kind unit : Nat) (x : WearUnit) : (s.setUnit kind unit x).hif = s.hif := rfl
@[simp] theorem State.setUnit_mail (s : State) (kind unit : Nat) (x : WearUnit) : (s.setUnit kind unit x).mail = s.mail := rfl
@[simp] theorem State.setUnit_snap (s : State) (kind unit : Nat) (x : WearUnit) : (s.setUnit kind unit x).snap = s.snap := rfl
@[simp] theorem State.setUnit_start (s : State) (kind unit : Nat) (x : WearUnit) : (s.setUnit kind unit x).start = s.start := rfl
@[simp] theorem State.setUnit_super (s : State) (kind unit : Nat) (x : WearUnit) : (s.setUnit kind unit x).super = s.super := rfl
@[simp] theorem State.setUnit_sec (s : State) (kind unit : Nat) (x : WearUnit) : (s.setUnit kind unit x).sec = s.sec := rfl
@[simp] theorem State.setUnit_pins (s : State) (kind unit : Nat) (x : WearUnit) : (s.setUnit kind unit x).pins = s.pins := rfl
@[simp] theorem State.setUnit_window (s : State) (kind unit : Nat) (x : WearUnit) : (s.setUnit kind unit x).window = s.window := rfl
@[simp] theorem State.setUnit_free (s : State) (kind unit : Nat) (x : WearUnit) : (s.setUnit kind unit x).free = s.free := rfl
@[simp] theorem State.setUnit_pending (s : State) (kind unit : Nat) (x : WearUnit) : (s.setUnit kind unit x).pending = s.pending := rfl

/-! ### setCfgSlot -/

@[simp] theorem State.setCfgSlot_phase (s : State) (i : Nat) (x : ImageSlot) : (s.setCfgSlot i x).phase = s.phase := by unfold State.setCfgSlot; split <;> rfl
@[simp] theorem State.setCfgSlot_abacus (s : State) (i : Nat) (x : ImageSlot) : (s.setCfgSlot i x).abacus = s.abacus := by unfold State.setCfgSlot; split <;> rfl
@[simp] theorem State.setCfgSlot_carry (s : State) (i : Nat) (x : ImageSlot) : (s.setCfgSlot i x).carry = s.carry := by unfold State.setCfgSlot; split <;> rfl
@[simp] theorem State.setCfgSlot_reck (s : State) (i : Nat) (x : ImageSlot) : (s.setCfgSlot i x).reck = s.reck := by unfold State.setCfgSlot; split <;> rfl
@[simp] theorem State.setCfgSlot_engine (s : State) (i : Nat) (x : ImageSlot) : (s.setCfgSlot i x).engine = s.engine := by unfold State.setCfgSlot; split <;> rfl
@[simp] theorem State.setCfgSlot_commons (s : State) (i : Nat) (x : ImageSlot) : (s.setCfgSlot i x).commons = s.commons := by unfold State.setCfgSlot; split <;> rfl
@[simp] theorem State.setCfgSlot_ring (s : State) (i : Nat) (x : ImageSlot) : (s.setCfgSlot i x).ring = s.ring := by unfold State.setCfgSlot; split <;> rfl
@[simp] theorem State.setCfgSlot_fbus (s : State) (i : Nat) (x : ImageSlot) : (s.setCfgSlot i x).fbus = s.fbus := by unfold State.setCfgSlot; split <;> rfl
@[simp] theorem State.setCfgSlot_cfp (s : State) (i : Nat) (x : ImageSlot) : (s.setCfgSlot i x).cfp = s.cfp := by unfold State.setCfgSlot; split <;> rfl
@[simp] theorem State.setCfgSlot_valve (s : State) (i : Nat) (x : ImageSlot) : (s.setCfgSlot i x).valve = s.valve := by unfold State.setCfgSlot; split <;> rfl
@[simp] theorem State.setCfgSlot_fan (s : State) (i : Nat) (x : ImageSlot) : (s.setCfgSlot i x).fan = s.fan := by unfold State.setCfgSlot; split <;> rfl
@[simp] theorem State.setCfgSlot_vent (s : State) (i : Nat) (x : ImageSlot) : (s.setCfgSlot i x).vent = s.vent := by unfold State.setCfgSlot; split <;> rfl
@[simp] theorem State.setCfgSlot_sense (s : State) (i : Nat) (x : ImageSlot) : (s.setCfgSlot i x).sense = s.sense := by unfold State.setCfgSlot; split <;> rfl
@[simp] theorem State.setCfgSlot_panel (s : State) (i : Nat) (x : ImageSlot) : (s.setCfgSlot i x).panel = s.panel := by unfold State.setCfgSlot; split <;> rfl
@[simp] theorem State.setCfgSlot_clock (s : State) (i : Nat) (x : ImageSlot) : (s.setCfgSlot i x).clock = s.clock := by unfold State.setCfgSlot; split <;> rfl
@[simp] theorem State.setCfgSlot_recorder (s : State) (i : Nat) (x : ImageSlot) : (s.setCfgSlot i x).recorder = s.recorder := by unfold State.setCfgSlot; split <;> rfl
@[simp] theorem State.setCfgSlot_hif (s : State) (i : Nat) (x : ImageSlot) : (s.setCfgSlot i x).hif = s.hif := by unfold State.setCfgSlot; split <;> rfl
@[simp] theorem State.setCfgSlot_mail (s : State) (i : Nat) (x : ImageSlot) : (s.setCfgSlot i x).mail = s.mail := by unfold State.setCfgSlot; split <;> rfl
@[simp] theorem State.setCfgSlot_snap (s : State) (i : Nat) (x : ImageSlot) : (s.setCfgSlot i x).snap = s.snap := by unfold State.setCfgSlot; split <;> rfl
@[simp] theorem State.setCfgSlot_start (s : State) (i : Nat) (x : ImageSlot) : (s.setCfgSlot i x).start = s.start := by unfold State.setCfgSlot; split <;> rfl
@[simp] theorem State.setCfgSlot_super (s : State) (i : Nat) (x : ImageSlot) : (s.setCfgSlot i x).super = s.super := by unfold State.setCfgSlot; split <;> rfl
@[simp] theorem State.setCfgSlot_spare (s : State) (i : Nat) (x : ImageSlot) : (s.setCfgSlot i x).spare = s.spare := by unfold State.setCfgSlot; split <;> rfl
@[simp] theorem State.setCfgSlot_sec (s : State) (i : Nat) (x : ImageSlot) : (s.setCfgSlot i x).sec = s.sec := by unfold State.setCfgSlot; split <;> rfl
@[simp] theorem State.setCfgSlot_pins (s : State) (i : Nat) (x : ImageSlot) : (s.setCfgSlot i x).pins = s.pins := by unfold State.setCfgSlot; split <;> rfl
@[simp] theorem State.setCfgSlot_window (s : State) (i : Nat) (x : ImageSlot) : (s.setCfgSlot i x).window = s.window := by unfold State.setCfgSlot; split <;> rfl
@[simp] theorem State.setCfgSlot_free (s : State) (i : Nat) (x : ImageSlot) : (s.setCfgSlot i x).free = s.free := by unfold State.setCfgSlot; split <;> rfl
@[simp] theorem State.setCfgSlot_pending (s : State) (i : Nat) (x : ImageSlot) : (s.setCfgSlot i x).pending = s.pending := by unfold State.setCfgSlot; split <;> rfl
@[simp] theorem State.cfgSlot_setCfgSlot (s : State) (i : Nat) (x : ImageSlot) : (s.setCfgSlot i x).cfgSlot i = x := by unfold State.setCfgSlot State.cfgSlot; split <;> rfl

/-! ### setFwSlot -/

@[simp] theorem State.setFwSlot_cfg (s : State) (i : Nat) (x : ImageSlot) : (s.setFwSlot i x).cfg = s.cfg := by unfold State.setFwSlot; split <;> rfl
@[simp] theorem State.setFwSlot_phase (s : State) (i : Nat) (x : ImageSlot) : (s.setFwSlot i x).phase = s.phase := by unfold State.setFwSlot; split <;> rfl
@[simp] theorem State.setFwSlot_abacus (s : State) (i : Nat) (x : ImageSlot) : (s.setFwSlot i x).abacus = s.abacus := by unfold State.setFwSlot; split <;> rfl
@[simp] theorem State.setFwSlot_carry (s : State) (i : Nat) (x : ImageSlot) : (s.setFwSlot i x).carry = s.carry := by unfold State.setFwSlot; split <;> rfl
@[simp] theorem State.setFwSlot_reck (s : State) (i : Nat) (x : ImageSlot) : (s.setFwSlot i x).reck = s.reck := by unfold State.setFwSlot; split <;> rfl
@[simp] theorem State.setFwSlot_engine (s : State) (i : Nat) (x : ImageSlot) : (s.setFwSlot i x).engine = s.engine := by unfold State.setFwSlot; split <;> rfl
@[simp] theorem State.setFwSlot_commons (s : State) (i : Nat) (x : ImageSlot) : (s.setFwSlot i x).commons = s.commons := by unfold State.setFwSlot; split <;> rfl
@[simp] theorem State.setFwSlot_ring (s : State) (i : Nat) (x : ImageSlot) : (s.setFwSlot i x).ring = s.ring := by unfold State.setFwSlot; split <;> rfl
@[simp] theorem State.setFwSlot_fbus (s : State) (i : Nat) (x : ImageSlot) : (s.setFwSlot i x).fbus = s.fbus := by unfold State.setFwSlot; split <;> rfl
@[simp] theorem State.setFwSlot_cfp (s : State) (i : Nat) (x : ImageSlot) : (s.setFwSlot i x).cfp = s.cfp := by unfold State.setFwSlot; split <;> rfl
@[simp] theorem State.setFwSlot_valve (s : State) (i : Nat) (x : ImageSlot) : (s.setFwSlot i x).valve = s.valve := by unfold State.setFwSlot; split <;> rfl
@[simp] theorem State.setFwSlot_fan (s : State) (i : Nat) (x : ImageSlot) : (s.setFwSlot i x).fan = s.fan := by unfold State.setFwSlot; split <;> rfl
@[simp] theorem State.setFwSlot_vent (s : State) (i : Nat) (x : ImageSlot) : (s.setFwSlot i x).vent = s.vent := by unfold State.setFwSlot; split <;> rfl
@[simp] theorem State.setFwSlot_sense (s : State) (i : Nat) (x : ImageSlot) : (s.setFwSlot i x).sense = s.sense := by unfold State.setFwSlot; split <;> rfl
@[simp] theorem State.setFwSlot_panel (s : State) (i : Nat) (x : ImageSlot) : (s.setFwSlot i x).panel = s.panel := by unfold State.setFwSlot; split <;> rfl
@[simp] theorem State.setFwSlot_clock (s : State) (i : Nat) (x : ImageSlot) : (s.setFwSlot i x).clock = s.clock := by unfold State.setFwSlot; split <;> rfl
@[simp] theorem State.setFwSlot_recorder (s : State) (i : Nat) (x : ImageSlot) : (s.setFwSlot i x).recorder = s.recorder := by unfold State.setFwSlot; split <;> rfl
@[simp] theorem State.setFwSlot_hif (s : State) (i : Nat) (x : ImageSlot) : (s.setFwSlot i x).hif = s.hif := by unfold State.setFwSlot; split <;> rfl
@[simp] theorem State.setFwSlot_mail (s : State) (i : Nat) (x : ImageSlot) : (s.setFwSlot i x).mail = s.mail := by unfold State.setFwSlot; split <;> rfl
@[simp] theorem State.setFwSlot_snap (s : State) (i : Nat) (x : ImageSlot) : (s.setFwSlot i x).snap = s.snap := by unfold State.setFwSlot; split <;> rfl
@[simp] theorem State.setFwSlot_super (s : State) (i : Nat) (x : ImageSlot) : (s.setFwSlot i x).super = s.super := by unfold State.setFwSlot; split <;> rfl
@[simp] theorem State.setFwSlot_spare (s : State) (i : Nat) (x : ImageSlot) : (s.setFwSlot i x).spare = s.spare := by unfold State.setFwSlot; split <;> rfl
@[simp] theorem State.setFwSlot_sec (s : State) (i : Nat) (x : ImageSlot) : (s.setFwSlot i x).sec = s.sec := by unfold State.setFwSlot; split <;> rfl
@[simp] theorem State.setFwSlot_pins (s : State) (i : Nat) (x : ImageSlot) : (s.setFwSlot i x).pins = s.pins := by unfold State.setFwSlot; split <;> rfl
@[simp] theorem State.setFwSlot_window (s : State) (i : Nat) (x : ImageSlot) : (s.setFwSlot i x).window = s.window := by unfold State.setFwSlot; split <;> rfl
@[simp] theorem State.setFwSlot_free (s : State) (i : Nat) (x : ImageSlot) : (s.setFwSlot i x).free = s.free := by unfold State.setFwSlot; split <;> rfl
@[simp] theorem State.setFwSlot_pending (s : State) (i : Nat) (x : ImageSlot) : (s.setFwSlot i x).pending = s.pending := by unfold State.setFwSlot; split <;> rfl
@[simp] theorem State.fwSlot_setFwSlot (s : State) (i : Nat) (x : ImageSlot) : (s.setFwSlot i x).fwSlot i = x := by unfold State.setFwSlot State.fwSlot; split <;> rfl

end Sys2Proof.Machine
end

