-- ==== Sys2Proof/Tests/Slice0.lean ====
section
/-! SUPPORT. Own tests: an ill-formed command for each check of WellFormed, the witnesses of the statements' hypotheses, and small tests of one step. -/

namespace Sys2Proof.Tests

open Sys2Proof Sys2Proof.Machine

/-- A running chip that serves: an owner session 1 of the local port. -/
def serving0 : State :=
  { State.reset with
    hif := { mode := .running }
    mail := { State.reset.mail with sessions := [{ handle := 1, role := 3 }] } }

/-- A call of an owner on mailbox 2, or on mailbox 0 for the START class. -/
def call (code : Nat) (payload : List Byte) : Call :=
  { mbx := if code / 256 = 0x14 then 0 else 2, role := 3, req := { hdr := { code := code, tag := 7, length := payload.length, session := 1 }, payload := payload } }

/-- A state with the call's request waiting. -/
def ask (c : Call) (s : State) : State := s.setEntries c.mbx [{ req := c.req }]

/-- Some request is asked and meets the verb's conditions. -/
def meets (code role : Nat) (lenOk : Nat → Bool) (good : Call → State → Prop) : Prop :=
  ∃ s m c, asked s m code role lenOk c = true ∧ good c s

theorem meets_ask {code role : Nat} {lenOk : Nat → Bool} {good : Call → State → Prop} (pay : List Byte) (s : State)
    (h : asked (ask (call code pay) s) (call code pay).mbx code role lenOk (call code pay) = true)
    (g : good (call code pay) (ask (call code pay) s)) : meets code role lenOk good :=
  ⟨_, _, _, h, g⟩

theorem witness_step : (∃ s : State, s.pending = [] ∧ s.phase.now.angle < 65535) ∧
    (∃ s : State, s.pending = [] ∧ 65535 ≤ s.phase.now.angle ∧ s.phase.left = true) ∧
    (∃ s : State, s.pending = [] ∧ 65535 ≤ s.phase.now.angle ∧ s.phase.left = false) :=
  ⟨⟨State.reset, by decide⟩, ⟨{ State.reset with phase := { now := ⟨0, 65535⟩, left := true } }, by decide⟩, ⟨State.reset.atAngle 65535, by decide⟩⟩

theorem witness_invariants : ∃ s : State, Memory.wf s.window = true ∧ s.queuesFit ∧ answers (step s) = true :=
  ⟨State.reset, by decide, by unfold State.queuesFit; decide, by decide⟩

/-- Every verb refuses mailbox 15, which takes no requests. -/
theorem test_verbs_refuse_mailbox_15_a : (([
    .sysIdentify, .sysPing, .sysStatus, .sysOutageRead, .sysSubscribe, .sysBulkClaim, .sysBulkRelease, .sysBulkWrite,
    .sysBulkCommit, .sysFwActivate, .sysWarmRestart, .sysDeferredStatus, .sysMbxStats, .cfgInfo, .cfgValidate, .cfgActivate,
    .cfgReport, .cfgRead, .cfgSwathLoad, .cfgSwathSet, .cfgSwathClear, .cfgSwathRead, .cfgSwathDelete, .phaseRead,
    .phaseInputs, .phaseSite, .phaseMeasureOffset, .beadPlace, .beadRemove, .beadEnable, .beadRead, .beadRod,
    .beadStats, .beadCapacity, .carryInfo, .carryList, .carryRead, .carryChain, .carryStats, .carryStatsClear,
    .carryDrop, .reckAccounts, .reckLeaseSet, .reckLeaseConfirm, .reckLeaseRefuse, .reckLeaseRead, .reckLoans, .reckLoanReturn,
    .reckStats, .reckStatsClear, .loopStatus, .loopRead, .loopFlagsClear, .loopEnable, .loopManual, .loopModel,
    .loopTraceArm, .loopTraceStatus, .loopTraceRead, .loopStats, .commonsInfo, .commonsRead, .commonsWrite, .commonsChips,
    .commonsBlocks, .commonsStats, .commonsStatsClear, .ringInfo, .ringPort, .ringPortClear, .ringNodes, .ringProxy,
    .ringPtp, .ringGates, .ringRequesters, .fbusStatus, .fbusStats, .fbusStatsClear, .fbusSend, .fbusReceive,
    .fbusRecover, .fbusSpare, .fbusInsulation, .fbusTiming] : List (Nat → Instr)).all fun v => !(v 15).wf && (v 14).wf) = true := by decide

theorem test_verbs_refuse_mailbox_15_b : (([
    .cfpNodes, .cfpRole, .cfpRoleMove, .cfpTransact, .cfpRollcall, .cfpForget, .cfpStats, .cfpStatsClear,
    .valveStatus, .valveFire, .valveClear, .valveProfile, .valveStats, .valveStatsClear, .fanStatus, .fanSet,
    .fanZones, .fanRetry, .fanStats, .fanStatsClear, .ventRead, .ventCompare, .ventPreset, .ventSet,
    .ventClear, .ventStats, .senseRead, .senseMeter, .senseWave, .senseModulators, .senseSpare, .senseStats,
    .senseStatsClear, .panelStatus, .panelKeys, .panelEvents, .panelDisplay, .panelStats, .panelStatsClear, .clockRead,
    .clockSet, .clockConvert, .clockFlagsClear, .clockTrim, .logInfo, .logRead, .logReadKept, .logRearm,
    .logMark, .logStats, .logStatsClear, .snapInfo, .snapTrigger, .snapRead, .snapRelease, .startConfirm,
    .startLedger, .startReason, .startSessionOpen, .startLeave, .startFallow, .startSelect, .startThreshold, .startTest,
    .startFallowMap, .spareInfo, .spareLedger, .spareWear, .spareProfile, .spareSwap, .secSessionOpen, .secSessionClose,
    .secIdentity, .secAttest, .secObjectRead, .secKeys, .secKeySet, .secCounters, .secRelinquish, .pinOutputs,
    .pinWrite, .pinClaim, .pinBalls, .pinSupply] : List (Nat → Instr)).all fun v => !(v 15).wf && (v 14).wf) = true := by decide

/-- Each other check of well-formedness refuses a command that breaks it alone. -/
theorem test_ill_formed_a : (([
    .hostWindowWrite ⟨2, 16777216⟩ [], .hostWindowWrite ⟨256, 0⟩ [], .mailboxBindingExpiry 0, .mailboxBindingExpiry 15, .tokenBufferTimeout 4, .zeroCrossing 0 1 1 1, .zeroCrossing 4 1 1 1,
    .zeroCrossing 1 1048576 1 1, .beadFire 4096 1, .beadFire 1 65536, .pulseReturn 40, .provisionalCheck 4096, .calendarArm 4096,
    .recomputation 128, .loopSample 512, .sampleComplete 9, .resultApply 512, .awaitGiveUp 512, .frameReceived 3 {} false,
    .frameTransmit 3, .gateTransition 3, .linkUp 3, .linkDown 3 1, .linkDown 1 0, .linkDown 1 4,
    .serdesIdle 3, .supervisionReturnTimeout 3, .duplicateEntryExpiry 1 65536, .pdelaySend 3 1, .canFrameReceived 8 {} .agree, .canFrameSent 8 false,
    .canTransmitError 8, .arbitrationLost 8, .busOffRecovery 8, .referencePeriodStart 8, .referencePending 8, .referenceCancel 8,
    .leakInjectionToggle 8 1, .fallowBeacon 8, .rollCall 8, .cfpAnnounce 8, .cfpAssign 8, .cfpClaim 8,
    .claimWindowEnd 8, .cfpRsp 8, .cfpRpt 8, .cfpSegment 8, .cfpTimeout 8 1, .cfpTimeout 1 256,
    .segmentTimeout 8 1, .segmentTimeout 1 256, .transactionSend 8, .valveEventStart 5, .valvePeakReached 40 1 1, .valvePeakEnd 40,
    .valveDropEnd 40, .valveHoldEnd 40 1, .valveDecayEnd 40, .valveOffTimeEnd 40, .bankRecoveryEnd 5, .valveDeferExpiry 40] : List Instr).all fun i => !i.wf) = true := by decide

theorem test_ill_formed_b : (([
    .dutyInstant 40, .valveOpen 40 1, .valveShort 40 1, .valveOvercurrent 40 1, .valveDecay 5 1, .valveStuck 40 1,
    .valveBankOvercurrent 5 1, .valveGroundShort 5 1, .tachPulse 12 1, .kickAttemptEnd 12, .retryWaitEnd 12, .coolDownEnd 12,
    .tachLossTimeout 12, .fanGroupUpdate 32, .encoderUpdate 12 0 1, .indexEvent 12 0, .ssiRead 12 false 1 false, .speedTimeout 12,
    .positionerEvaluation 12, .moveTimeout 12, .maxRunTimeout 12, .conversionEnd 24 0 [], .conversionEnd 1 0 [0, 0, 0], .excitationCompliance 4 false,
    .encoderStep 4 0, .longPress 64, .resetCombination 2, .snapshotCopyComplete 4, .wearMeasurement 0 1 1, .wearMeasurement 9 1 1,
    .wearMeasurement 1 1 65536, .eccCorrection 1 1, .eccCorrection 4 1, .uncorrectableError 0 1 1 1 1, .uncorrectableError 9 1 1 1 1, .uncorrectableError 1 1 1 0 1,
    .uncorrectableError 1 1 1 8 1, .rowRemap 1 1, .rowRemap 4 1, .railMonitor [] 0, .serdesWake 3, .canIntegrated 8,
    .canReceiveError 8 none, .encoderTransition 4 0] : List Instr).all fun i => !i.wf) = true := by decide

/-- Every clause of Obligations.SysVerbsComplete is met somewhere. -/
theorem witness_sysReads :
    meets 0x0101 0 (· == 0) (fun _ _ => True) ∧ meets 0x0102 0 (· == 0) (fun _ _ => True) ∧
    meets 0x0103 1 (· == 0) (fun _ _ => True) ∧
    meets 0x0104 1 (· == 2) (fun c s => u16 c.pay 0 ≤ s.year ∧ s.year < u16 c.pay 0 + 32) ∧
    meets 0x010C 1 (· == 2) (fun _ _ => True) ∧ meets 0x010D 1 (· == 0) (fun _ _ => True) :=
  ⟨meets_ask [] serving0 (by decide) trivial, meets_ask [] serving0 (by decide) trivial,
   meets_ask [] serving0 (by decide) trivial, meets_ask (le 2 2000) serving0 (by decide) (by decide),
   meets_ask [0, 0] serving0 (by decide) trivial, meets_ask [] serving0 (by decide) trivial⟩

/-- A running chip whose bulk window mailbox 2 of the local port has claimed for target 3. -/
def claimed0 : State :=
  { serving0 with hif := { serving0.hif with claim := some { mailbox := 2, session := 1, target := 3, total := 4096 } } }

/-- Every clause of Obligations.SysVerbsComplete is met somewhere, at the ends of its ranges. -/
theorem witness_sysWrites :
    meets 0x0105 1 (· == 4) (fun c _ => u32 c.pay 0 % 2 = 0 ∧ u32 c.pay 0 < 2 ^ 24) ∧
    meets 0x0106 2 (· == 8) (fun c s => 1 ≤ u8 c.pay 0 ∧ u8 c.pay 0 ≤ 4 ∧ allZero (slice c.pay 1 3) = true ∧ 0 < u32 c.pay 4
      ∧ u32 c.pay 4 ≤ targetSize (u8 c.pay 0) ∧ (u8 c.pay 0 ≤ 2 → c.role = 3) ∧ s.hif.claim = none ∧ targetBusy s (u8 c.pay 0) = false) ∧
    meets 0x0107 2 (· == 0) (fun c s => holdsClaim s c = true) ∧
    meets 0x0108 2 (fun n => decide (4 ≤ n) && decide (n ≤ 1004) && n % 4 == 0)
      (fun c s => holdsClaim s c = true ∧ u32 c.pay 0 + (c.pay.drop 4).length ≤ 65536 ∧ s.hif.copying = none) ∧
    meets 0x0109 2 (· == 8)
      (fun c s => holdsClaim s c = true ∧ s.hif.copying = none ∧ claimBusy s = false ∧ u32 c.pay 0 = s.hif.nextOffset ∧ 0 < u32 c.pay 4
        ∧ u32 c.pay 4 ≤ 65536 ∧ u32 c.pay 0 + u32 c.pay 4 ≤ (s.hif.claim.map Claim.total).getD 0) ∧
    meets 0x010A 3 (· == 0) (fun _ s => targetBusy s 1 = false ∧ s.mail.deferred.length < 16) ∧
    meets 0x010B 2 (· == 0) (fun _ _ => True) :=
  ⟨meets_ask (le 4 0xFFFFFE) serving0 (by decide) (by decide), meets_ask (le 4 4 ++ le 4 4096) serving0 (by decide) (by decide),
   meets_ask [] claimed0 (by decide) (by decide), meets_ask (le 4 65532 ++ zeros 4) claimed0 (by decide) (by decide),
   meets_ask (le 4 0 ++ le 4 4096) claimed0 (by decide) (by decide), meets_ask [] serving0 (by decide) (by decide),
   meets_ask [] serving0 (by decide) trivial⟩

/-- The cases of Obligations.WindowWriteStoresExactlyItsBytes are met: the last word of a request area, a copy going on, storage read at the end of the bulk window. -/
theorem witness_windowWrite :
    (∃ (s : State) (addr : Nat) (bytes : List Byte), addr % 4 = 0 ∧ bytes.length % 4 = 0 ∧ bytes ≠ [] ∧ s.hif.copying = none ∧
      (∀ i < bytes.length, storedAddress (addr + i) = true) ∧ Memory.wf s.window = true) ∧
    (∃ (s : State) (addr : Nat) (bytes : List Byte), addr % 4 = 0 ∧ bytes.length % 4 = 0 ∧ s.hif.copying.isSome = true ∧ bytes ≠ [] ∧
      addr < 0x20000 ∧ 0x10000 < addr + bytes.length) ∧
    (∃ addr k n : Nat, addr % 4 = 0 ∧ k < 4 * n ∧ ∀ i < 4 * n, storedAddress (addr + i) = true) :=
  ⟨⟨State.reset, 0x83FC, [1, 2, 3, 4], by decide, by decide, by decide, by decide, by decide, by decide⟩,
   ⟨{ State.reset with hif := { copying := some ⟨0, 4⟩ } }, 0x1FFFC, [0, 0, 0, 0], by decide⟩,
   ⟨0x1FFFC, 3, 1, by decide⟩⟩

/-- The clauses of Obligations.HostRegisterWritesActBitwise are met: a lost doorbell, a free mailbox, a request that fits, a response to release, at mailboxes 14 and 0. -/
theorem witness_hostRegisters :
    (∃ (s : State) (m : Nat), m < 15 ∧ s.hif.reqFree.getLsbD m = false ∧ s.hif.lost.getLsbD m = true) ∧
    (∃ (s : State) (m : Nat), m < 15 ∧ s.hif.reqFree.getLsbD m = true) ∧
    (∃ (s : State) (m : Nat) (r : Request), outstanding s m < 4 ∧ boundElsewhere s m r.who = false ∧ knownCode r.hdr.code = true ∧
      fwf [] s.mail.queues = true) ∧
    (∃ (s : State) (m : Nat) (e : Entry) (a : Answer), m < 15 ∧ s.hif.respReady.getLsbD m = true ∧
      (s.entries m).find? Entry.placed = some e ∧ e.busy = true ∧ e.answer = some a ∧ a.job = some 3) ∧
    (∃ (s : State) (m : Nat), m < 15 ∧ s.hif.respReady.getLsbD m = false) ∧ (∃ s : State, s.hif.respReady.getLsbD 15 = true) :=
  ⟨⟨{ State.reset with hif := { lost := 0x4000#16 } }, 14, by decide⟩, ⟨{ State.reset with hif := { reqFree := 0x4000#16 } }, 14, by decide⟩,
   ⟨State.reset, 0, { hdr := { code := 0x0101 } }, by decide, by decide, by decide, by decide⟩,
   ⟨({ State.reset with hif := { respReady := 1#16 } } : State).setEntries 0 [{ answer := some { job := some 3 }, placed := true, busy := true }], 0,
    { answer := some { job := some 3 }, placed := true, busy := true }, { job := some 3 }, by decide, by decide, by decide, by decide, by decide, by decide⟩,
   ⟨State.reset, 14, by decide⟩, ⟨{ State.reset with hif := { respReady := 0x8000#16 } }, by decide⟩⟩

/-- The clauses of Obligations.MessagingTimersFreeWhatTheyName are met. -/
theorem witness_timers :
    (∃ (s : State) (m : Nat), s.entries m = []) ∧ (∃ (s : State) (mac : Nat), requesterHeld s mac = false) ∧
    (∃ (s : State) (c : Claim), s.hif.claim = some c ∧ (c.total ≤ s.hif.nextOffset ∨ 3 ≤ c.target)) ∧
    (∃ (s : State) (c : Claim), s.hif.claim = some c ∧ s.hif.nextOffset < c.total ∧ c.target = 1) ∧
    (∃ (s : State) (c : Claim), s.hif.claim = some c ∧ s.hif.nextOffset < c.total ∧ c.target = 2) ∧
    (∃ (s : State) (h : Nat) (x : Session), findSession s h = some x ∧ expiryDue s x = true ∧ (∀ c, s.hif.claim = some c → c.session ≠ h)) :=
  ⟨⟨State.reset, 14, by decide⟩, ⟨State.reset, 0, by decide⟩, ⟨claimed0, _, rfl, by decide⟩,
   ⟨{ State.reset with hif := { claim := some { target := 1, total := 4 } } }, _, rfl, by decide⟩,
   ⟨{ State.reset with hif := { claim := some { target := 2, total := 4 } } }, _, rfl, by decide⟩,
   ⟨{ State.reset with mail := { State.reset.mail with sessions := [{ handle := 5, osfOpened := true }] } }, 5, { handle := 5, osfOpened := true }, by decide, by decide, by intro c h; cases h⟩⟩

/-- A request frame of SYS.PING from a host-port device, on mailbox 1. -/
def pingFrame : EthFrame :=
  { dst := ownMac, src := 0x020000000001, vlan := none, hsr := none, etherType := 0x88B5, length := 64
    body := [5, 1, 9] ++ be 2 16 ++ le 2 0x0102 ++ zeros 14 ++ zeros 9 }

/-- A fallow chip that has received it; with k, a response to it is kept. -/
def pinged (k : List Kept) (r : List NetRequester) : State :=
  { State.reset with
    hif := { mode := .fallow }
    mail := { State.reset.mail with kept := k, requesters := r }
    ring := { State.reset.ring with delivered := [{ port := 2, frame := pingFrame }] } }

theorem pinged_allowed (s : State) (h : s.hif.mode = .fallow) :
    mailboxFrameAllowed s { port := 2, frame := pingFrame } = true := by
  unfold mailboxFrameAllowed; rw [h]; simp [pingFrame]

theorem pinged_message : frameMessage pingFrame = some (le 2 0x0102 ++ zeros 14) := by decide

theorem witness_network :
    (∀ (k : List Kept) (r : List NetRequester), ∃ (s s1 : State) (d : Delivered) (msg : List Byte), takeDelivered 0x05 s = some (d, s1) ∧ mailboxFrameAllowed s1 d = true ∧
      frameMessage d.frame = some msg ∧ u8 d.frame.body 1 % 16 < 15 ∧ mailboxOpen s1 (u8 d.frame.body 1 % 16) = true ∧ s1.mail.kept = k ∧ s1.mail.requesters = r) ∧
    (∃ (s s1 : State) (d : Delivered), takeDelivered 0x05 s = some (d, s1) ∧ mailboxOpen s1 (u8 d.frame.body 1 % 16) = false) ∧
    (∃ s : State, s.hif.supPause = true) :=
  ⟨fun k r => ⟨pinged k r, _, { port := 2, frame := pingFrame }, le 2 0x0102 ++ zeros 14, rfl, pinged_allowed _ rfl, pinged_message, by decide, rfl, rfl, rfl⟩,
   ⟨{ pinged [] [] with hif := { mode := .bootRom } }, _, { port := 2, frame := pingFrame }, rfl, by decide⟩, ⟨{ State.reset with hif := { supPause := true } }, rfl⟩⟩

/-- The replay clauses of Obligations.NetworkRequestsAreSubmitted are met: a kept response, one not yet known, another sequence number, and 16 other requesters. -/
theorem witness_replay :
    (isRequester (pinged [{ mac := 0x020000000001, mailbox := 1, seq := 9, message := le 2 0x0102 ++ zeros 14, response := some [] }] [{ mac := 0x020000000001 }]) 0x020000000001 = true) ∧
    (([{ mac := 0x020000000001, mailbox := 1, seq := 8 }] : List Kept).find? fun k => k.mac == 0x020000000001 && k.mailbox == 1).isSome = true ∧
    (isRequester (pinged [] (List.replicate 16 { mac := 2 })) 0x020000000001 = false ∧ 16 ≤ (List.replicate 16 ({ mac := 2 } : NetRequester)).length) := by decide

theorem witness_bulkfw :
    (∃ (s : State) (k : BulkCopy) (c : Claim), s.hif.copying = some k ∧ s.hif.claim = some c ∧ 3 ≤ c.target) ∧
    (∃ (s : State) (k : BulkCopy) (c : Claim), s.hif.copying = some k ∧ s.hif.claim = some c ∧ (c.target = 1 ∨ c.target = 2)) ∧
    (∃ (s : State), s.super.fwVerifying = true ∧ s.hif.mode = .running ∧ (verifyFirmware { s with
      super := { s.super with fwVerifying := false }
      sec := { s.sec with fwCounter := s.super.fwCounters.1, keyCounter := s.super.fwCounters.2 } } s.inactiveFw).step ≠ 0) ∧
    (∃ (s : State), s.super.fwVerifying = true ∧ s.hif.mode ≠ .running) ∧
    (∃ (s : State) (old job : Nat), s.super.fwChange = some (old, job)) ∧
    (∃ (s : State), s.super.state = 4) :=
  ⟨⟨{ State.reset with hif := { copying := some ⟨0, 4⟩, claim := some { target := 3, total := 4 } } }, _, _, rfl, rfl, by decide⟩,
   ⟨{ State.reset with hif := { copying := some ⟨0, 4⟩, claim := some { target := 2, total := 4 } } }, _, _, rfl, rfl, by decide⟩,
   ⟨{ serving0 with super := { serving0.super with fwVerifying := true } }, by decide⟩,
   ⟨{ State.reset with super := { State.reset.super with fwVerifying := true } }, by decide⟩,
   ⟨{ serving0 with super := { serving0.super with fwChange := some (1, 2) } }, 1, 2, rfl⟩,
   ⟨{ serving0 with super := { serving0.super with state := 4 } }, rfl⟩⟩

/-- A firmware image of 32 bytes with its trailer. -/
def image0 : List Byte := le 4 0x57464743 ++ le 2 1 ++ zeros 2 ++ le 4 32 ++ zeros 8 ++ le 2 0xD184 ++ zeros 10 ++ (le 4 0x53474743 ++ [1, 0, 0, 0] ++ le 4 7856 ++ zeros 7856)

/-- It passes R667 exactly where the signature verifies (a free value of Config), which is the only unmet premise of the third clause of Obligations.BulkAndFirmwareStepsComplete. -/
theorem witness_fwGood (h : Config.verifies 1 (firmwareKey 0) (image0.take 32) (slice (image0.drop 32) 12 7856) = true) :
    let s : State := { serving0 with
      start := { serving0.start with fwB := { state := .written, bytes := image0 } }
      super := { serving0.super with fwVerifying := true }
      mail := { serving0.mail with deferred := [{ code := 0x010A }] } }
    s.super.fwVerifying = true ∧ s.hif.mode = .running ∧ (verifyFirmware s s.inactiveFw).step = 0 ∧
      (s.mail.deferred.find? fun d => d.code == 0x010A && d.final.isNone) = some { code := 0x010A } := by
  refine ⟨rfl, rfl, ?_, by decide⟩
  have hl : image0.length = 7900 := by simp only [image0, List.length_append, zeros, List.length_replicate]; rfl
  have h0 : u32 image0 0 = 0x57464743 := by decide
  have h1 : u16 image0 4 = 1 := by decide
  have h2 : u32 image0 8 = 32 := by decide
  have h3 : u32 (image0.drop 32) 0 = 0x53474743 := by decide
  have h4 : u16 image0 20 = 0xD184 := by decide
  have h5 : u8 image0 22 = 0 := by decide
  have h6 : u8 (image0.drop 32) 4 = 1 := by decide
  have h7 : u8 (image0.drop 32) 5 = 0 := by decide
  have h8 : u32 (image0.drop 32) 8 = 7856 := by decide
  show (verifyFirmware { serving0 with start := { serving0.start with fwB := { state := .written, bytes := image0 } } } 1).step = 0
  have hs : State.fwSlot { serving0 with start := { serving0.start with fwB := { state := .written, bytes := image0 } } } 1 = { state := .written, bytes := image0 } := rfl
  unfold verifyFirmware
  simp only [hs, hl, h0, h1, h2, h3, h4, h5, h6, h7, h8]
  rw [if_neg (by decide), if_neg (by decide), if_neg (by simp [h]), if_neg (show ¬ u32 image0 12 < serving0.sec.fwCounter from Nat.not_lt.mpr (Nat.zero_le _))]

/-- A base of one typed record, with one swath it carries at level 0. -/
def base0 : BaseImage := { records := [{ type := 0x0105, inst := 0, value := [1] }, { type := 0x0201, inst := 3, value := [7] }] }

theorem witness_cfgReads :
    meets 0x0201 1 (· == 0) (fun _ _ => True) ∧
    (∃ r, meets 0x0204 1 (· == 0) (fun _ s => s.cfg.report = some r)) ∧
    (∃ v, meets 0x0205 1 (· == 8) (fun c s => u8 c.pay 0 = 0 ∧ s.cfg.baseValue (u16 c.pay 4) (u16 c.pay 6) = some v ∧ u8 c.pay 1 = 0 ∧
      (u16 c.pay 2 < v.length ∨ u16 c.pay 2 = 0 ∧ v = []))) ∧
    (∃ v, meets 0x0205 1 (· == 8) (fun c s => u8 c.pay 0 = 1 ∧ s.cfg.value (u16 c.pay 4) (u16 c.pay 6) = some v ∧ u8 c.pay 1 = 0 ∧
      (u16 c.pay 2 < v.length ∨ u16 c.pay 2 = 0 ∧ v = []))) ∧
    (∃ w, meets 0x0209 1 (· == 4) (fun c s => s.cfg.swath (u8 c.pay 0) = some w ∧ allZero (slice c.pay 1 3) = true)) :=
  ⟨meets_ask [] serving0 (by decide) trivial,
   ⟨{}, meets_ask [] { serving0 with cfg := { serving0.cfg with report := some {} } } (by decide) (by decide)⟩,
   ⟨[1], meets_ask (le 4 0 ++ le 2 0x0105 ++ le 2 0) { serving0 with cfg := { serving0.cfg with base := some base0 } } (by decide) (by decide)⟩,
   ⟨[1], meets_ask (le 4 1 ++ le 2 0x0105 ++ le 2 0) { serving0 with cfg := { serving0.cfg with base := some base0 } } (by decide) (by decide)⟩,
   ⟨{ number := 15 }, meets_ask (le 4 15) { serving0 with cfg := { serving0.cfg with base := some base0, loaded := [{ number := 15 }] } } (by decide) (by decide)⟩⟩

/-- A swath without records, number 15, level 3, for a base whose hash is 32 zero bytes. -/
def swath0 : List Byte := le 4 0x53574743 ++ [15, 3] ++ le 2 64 ++ zeros 56

/-- A base that claims what every configuration must, and that lets swaths be loaded. -/
def loadBase0 : BaseImage :=
  { flags := 2, hash := zeros 32, records := (List.range 6).map fun k => { type := 0x1701, inst := ballMeter k, value := le 4 claimSense } }

def loading0 : State :=
  { serving0 with
    cfg := { serving0.cfg with base := some loadBase0 }
    hif := { serving0.hif with nextOffset := 64, claim := some { mailbox := 2, session := 1, target := 3, total := 64, data := swath0 } } }

theorem witness_cfgLoad : ∃ b k w o, meets 0x0206 2 (· == 4)
    (fun c s => s.cfg.base = some b ∧ s.hif.claim = some k ∧ holdsClaim s c = true ∧ k.target = 3 ∧ bit b.flags 1 = true ∧
      s.cfg.carried (u8 c.pay 0) = false ∧ u8 c.pay 0 ≤ 15 ∧ allZero (slice c.pay 1 3) = true ∧ s.cfg.inStack (u8 c.pay 0) = false ∧ k.total ≤ s.hif.nextOffset ∧
      checkSwath b.placed s.cfg.defined (u8 c.pay 0) b.hash k.data none = o ∧ o.step = 0 ∧ parseSwath false k.data = some w) :=
  ⟨loadBase0, { mailbox := 2, session := 1, target := 3, total := 64, data := swath0 },
   (parseSwath false swath0).getD {}, passed, meets_ask (le 4 15) loading0 (by decide)
   ⟨by decide, by decide, by decide, by decide, by decide, by decide, by decide, by decide, by decide, by decide, by decide, by decide, by decide⟩⟩

theorem witness_cfgWrites :
    meets 0x0202 2 (· == 0) (fun _ s => targetBusy s 2 = false ∧ s.mail.deferred.length < 16) ∧
    meets 0x0203 3 (· == 0) (fun _ s => targetBusy s 2 = false ∧ s.mail.deferred.length < 16) ∧
    (∃ w, meets 0x0207 2 (· == 4) (fun c s => s.cfg.swath (u8 c.pay 0) = some w ∧ allZero (slice c.pay 1 3) = true)) ∧
    meets 0x0208 2 (· == 4) (fun c _ => u8 c.pay 0 ≤ 3 ∧ allZero (slice c.pay 1 3) = true) ∧
    meets 0x020A 2 (· == 4) (fun c s => allZero (slice c.pay 1 3) = true ∧ s.cfg.carried (u8 c.pay 0) = false ∧
      s.cfg.inStack (u8 c.pay 0) = false ∧ (s.cfg.loaded.any fun w => w.number == u8 c.pay 0) = true) :=
  ⟨meets_ask [] { serving0 with cfg := { serving0.cfg with slotB := { state := .written } } } (by decide) (by decide),
   meets_ask [] { serving0 with cfg := { serving0.cfg with slotB := { state := .validated } } } (by decide) (by decide),
   ⟨{ number := 15 }, meets_ask (le 4 15) { serving0 with cfg := { serving0.cfg with base := some base0, loaded := [{ number := 15 }] } } (by decide) (by decide)⟩,
   meets_ask (le 4 3) serving0 (by decide) (by decide),
   meets_ask (le 4 15) { serving0 with cfg := { serving0.cfg with base := some base0, loaded := [{ number := 15 }] } } (by decide) (by decide)⟩

/-- A validation under way of a slot. -/
def validating0 (a : Bool) (s : State) : State := { s with cfg := { s.cfg with validating := some { slot := 1, activate := a, job := 3 }, slotB := { state := .written } } }

/-- A slot written with nothing fails at step 1, with whatever offset; an empty one; a restart that waits for its completion. -/
theorem witness_validationFails : (∃ (s : State) (v : Validation) (o : Outcome) (im : BaseImage),
    s.cfg.validating = some v ∧ (s.cfgSlot v.slot).state.code ≠ 0 ∧ validateImage s (s.cfgSlot v.slot) = (o, im) ∧ o.step ≠ 0) ∧
    (∃ (s : State) (v : Validation), s.cfg.validating = some v ∧ (s.cfgSlot v.slot).state.code = 0) ∧
    (∃ (s : State) (d : Deferred), s.cfg.restartJob = some d.job ∧ (s.mail.deferred.any fun x => x.job == d.job) = false) :=
  ⟨⟨validating0 true serving0, { slot := 1, activate := true, job := 3 }, refused 1 6 (Config.faultOffset []).toNat,
   _, rfl, by decide, rfl, by decide⟩,
   ⟨{ serving0 with cfg := { serving0.cfg with validating := some {} } }, {}, rfl, by decide⟩,
   ⟨{ serving0 with cfg := { serving0.cfg with restartJob := some 0 } }, {}, rfl, by decide⟩⟩

/-- An image of a base that makes the required claims and nothing else, with its trailer. -/
def image1 : List Byte :=
  le 4 0x4C444743 ++ le 2 1 ++ le 2 0 ++ le 4 104 ++ zeros 16 ++ le 2 6 ++ zeros 2
    ++ ((List.range 6).flatMap fun k => le 2 0x1701 ++ le 2 (ballMeter k) ++ le 2 4 ++ zeros 2 ++ le 4 claimSense)
    ++ (le 4 0x53474743 ++ [1, 0, 0, 0] ++ le 4 7856 ++ zeros 7856)

/-- Its records where they stand. -/
def records1 : Placed := (List.range 6).map fun k => (32 + 12 * k, { type := 0x1701, inst := ballMeter k, value := le 4 claimSense })

/-- What makes the slot below pass its validation: its key is set and its signature verifies (a free value of Config). -/
def good1 (s : State) : Prop :=
  (fget {} s.sec.configs 0).set = true ∧ s.sec.cfgCounter = 0 ∧
    Config.verifies 2 (fget {} s.sec.configs 0).key (image1.take 104) (slice (image1.drop 104) 12 7856) = true

theorem witness_validationPasses (s : State) (h : good1 s) :
    (validateImage s { state := .written, bytes := image1 }).1.step = 0 := by
  obtain ⟨h1, h2, h3⟩ := h
  have hl : image1.length = 7972 := by simp only [image1, List.length_append, zeros, List.length_replicate]; rfl
  have e0 : u32 image1 0 = 0x4C444743 := by decide
  have e1 : u16 image1 4 = 1 := by decide
  have e2 : u32 image1 8 = 104 := by decide
  have e3 : u32 (image1.drop 104) 0 = 0x53474743 := by decide
  have e4 : u8 (image1.drop 104) 4 = 1 := by decide
  have e5 : u8 (image1.drop 104) 5 = 0 := by decide
  have e6 : u32 (image1.drop 104) 8 = 7856 := by decide
  have e7 : (parseRecords 32 (slice image1 32 72)) = some records1 := by decide
  have e8 : u16 image1 28 = records1.length := by decide
  have e9 : u64 image1 20 = 0 := by decide
  unfold validateImage
  simp only [e0, e1, e2, e3, e4, e5, e6, e7, e8, hl]
  rw [if_neg (by decide), if_neg (by simp [h1, h3])]
  simp only [imageOf, h2, e9]
  rw [if_neg (Nat.not_lt.mpr (Nat.zero_le _)), if_neg (by decide)]
  unfold checkRecords
  decide

theorem witness_rodBoundary : (∃ s : State, s.pins.inReset = true) ∧ (∃ s : State, s.pins.inReset = false ∧ s.phase.left = false) ∧
    (∃ s : State, s.pins.inReset = false ∧ s.phase.left = true) :=
  ⟨⟨{ State.reset with pins := { State.reset.pins with inReset := true } }, rfl⟩, ⟨{ State.reset with pins := { State.reset.pins with inReset := false } }, rfl, rfl⟩,
   ⟨{ State.reset with phase := { State.reset.phase with left := true }, pins := {} }, rfl, rfl⟩⟩

theorem witness_numbering : (∃ s : State, s.phase.started = false ∧ s.phase.step = none) ∧ (∃ s : State, s.phase.started = true ∧ s.phase.step = none) ∧
    (∃ (s : State) (n c : Nat), s.phase.step = some (n, c)) :=
  ⟨⟨State.reset, rfl, rfl⟩, ⟨{ State.reset with phase := { State.reset.phase with started := true } }, rfl, rfl⟩,
   ⟨{ State.reset with phase := { State.reset.phase with step := some (5, 1) } }, 5, 1, rfl⟩⟩

theorem witness_staged : (∃ s : State, s.inFallow = true) ∧ (∃ s : State, s.inFallow = false ∧ 3 < s.cfg.stack.length) :=
  ⟨⟨{ State.reset with hif := { mode := .fallow } }, by decide⟩, ⟨serving0, by decide⟩⟩

theorem witness_becomeActive : ∃ s : State, s.cfg.stack.length = 4 := ⟨State.reset, rfl⟩

/-- A locked chip with a crossing an instant ago on L1. -/
def crossed0 (period : Nat) : State :=
  { State.reset with phase := { State.reset.phase with state := .locked, left := true, started := true, applied := true, inputs := [(0, { lastValid := some ⟨0, 0⟩, lastPeriod := period })] } }

theorem witness_crossings :
    (∃ (s : State) (i : Nat) (a : Instant), (s.input 0).lastValid = some a ∧ 4 * i < (s.input 0).lastPeriod) ∧
    (∃ (s : State) (i k : Nat), inHoldoff (s.input 0) i = false ∧ k = 199 ∧ 66 * i ≥ 10 ^ 9) ∧
    (∃ (s : State) (i k : Nat), inHoldoff (s.input 0) i = false ∧ 200 ≤ k ∧ 10 ^ 9 ≤ 66 * i ∧ 45 * i ≤ 10 ^ 9 ∧ i = 15151516) ∧
    (∃ (s : State) (i k : Nat), inHoldoff (s.input 0) i = false ∧ 200 ≤ k ∧ 10 ^ 9 ≤ 66 * i ∧ 45 * i ≤ 10 ^ 9 ∧ i = 22222222) :=
  ⟨⟨crossed0 20000000, 4999999, ⟨0, 0⟩, by decide⟩, ⟨crossed0 20000000, 20000000, 199, by decide⟩,
   ⟨crossed0 20000000, 15151516, 200, by decide⟩, ⟨crossed0 20000000, 22222222, 200, by decide⟩⟩

theorem witness_timebaseTimers :
    (∃ s : State, s.phase.state = .slew ∧ s.phase.missing < 2) ∧ (∃ s : State, s.phase.state = .locked ∧ 2 ≤ s.phase.missing) ∧
    (∃ s : State, s.phase.state = .flywheel ∧ 250 ≤ s.phase.sinceValid) ∧ (∃ s : State, s.phase.state = .acquire ∧ s.phase.applied = true ∧ 32 ≤ s.phase.acquireTurns) ∧
    (∃ s : State, s.candidate = true ∧ s.phase.master = false ∧ 8 ≤ s.phase.quietCandidates) ∧
    (∃ s : State, s.phase.countValid = false ∧ s.cfg.eligible = true ∧ s.phase.left = true ∧ 32 ≤ s.phase.quietEligible ∧
      (s.heardNow.any fun h => bit h.flags 0) = false) ∧
    (∃ s : State, (s.hif.mode = .start ∨ s.hif.mode = .running) ∧ s.phase.started = true ∧ s.phase.now.angle ≤ 8192) :=
  ⟨⟨{ State.reset with phase := { State.reset.phase with state := .slew } }, by decide⟩,
   ⟨{ State.reset with phase := { State.reset.phase with state := .locked, missing := 2 } }, by decide⟩,
   ⟨{ State.reset with phase := { State.reset.phase with state := .flywheel, sinceValid := 250 } }, by decide⟩,
   ⟨{ State.reset with phase := { State.reset.phase with state := .acquire, applied := true, acquireTurns := 32 } }, by decide⟩,
   ⟨{ State.reset with
      cfg := { State.reset.cfg with base := some { records := [{ type := 0x0301, inst := 0, value := [50, 0, 0, 0, 0, 0, 0, 1, 2, 0, 0, 0] }] } }
      phase := { State.reset.phase with state := .locked, countValid := true, quietCandidates := 8 } }, by decide⟩,
   ⟨{ State.reset with
      cfg := { State.reset.cfg with base := some { records := [{ type := 0x0301, inst := 0, value := [50, 0, 0, 0, 0, 0, 0, 1, 2, 0, 0, 0] }] } }
      phase := { State.reset.phase with state := .locked, left := true, quietEligible := 32 } }, by decide⟩,
   ⟨{ serving0 with phase := { serving0.phase with started := true, now := ⟨0, 8192⟩ } }, by decide⟩⟩

/-- A mark of the chip with UID 1 in rod 5, delivered. -/
def markFrame : EthFrame :=
  { dst := 0x03504C440001, src := 0x020000000001, vlan := none, hsr := none, etherType := 0x88B5, length := 64
    body := [1] ++ be 8 1 ++ be 6 5 ++ be 2 8192 ++ [1, 3] ++ zeros 14 }

def marked0 (follows : Option Nat) (valid : Bool) : State :=
  { serving0 with
    phase := { serving0.phase with state := .locked, started := true, countValid := valid, follows := follows }
    ring := { serving0.ring with delivered := [{ port := 0, frame := markFrame }] } }

theorem witness_cycleMarks :
    (∃ s : State, takeDelivered 0x01 s = none) ∧
    (∃ (s s1 : State) (d : Delivered), takeDelivered 0x01 s = some (d, s1) ∧
      s1.phase.markSenders.contains ((markOf d.frame.body).uid * 2 ^ 48 + (markOf d.frame.body).at_.cycle) = true) ∧
    (∃ (s s1 : State) (d : Delivered), takeDelivered 0x01 s = some (d, s1) ∧
      s1.phase.markSenders.contains ((markOf d.frame.body).uid * 2 ^ 48 + (markOf d.frame.body).at_.cycle) = false) :=
  ⟨⟨State.reset, by decide⟩, ⟨{ marked0 none false with phase := { (marked0 none false).phase with markSenders := [2 ^ 48 + 5] } }, _, { port := 0, frame := markFrame }, rfl, by decide⟩,
   ⟨marked0 (some 1) false, _, { port := 0, frame := markFrame }, rfl, by decide⟩⟩

theorem witness_compareMaster :
    (∃ (m : Mark) (s : State), s.phase.countValid = true ∧ 1 ≤ cyclesAhead s m) ∧
    (∃ (m : Mark) (s : State), s.phase.countValid = true ∧ cyclesAhead s m = 0) ∧
    (∃ (m : Mark) (s : State), s.phase.countValid = true ∧ cyclesAhead s m ≤ -1 ∧ s.candidate = false) :=
  ⟨⟨⟨1, ⟨5, 0⟩, 1, 3⟩, marked0 none true, by decide⟩, ⟨⟨1, ⟨0, 0⟩, 1, 3⟩, marked0 none true, by decide⟩,
   ⟨⟨1, ⟨0, 0⟩, 1, 3⟩, { marked0 none true with phase := { (marked0 none true).phase with now := ⟨1, 0⟩ } }, by decide⟩⟩

theorem witness_phaseVerbs :
    meets 0x0301 1 (· == 0) (fun _ _ => True) ∧ meets 0x0302 1 (· == 0) (fun _ _ => True) ∧ meets 0x0303 1 (· == 0) (fun _ _ => True) ∧
    meets 0x0304 2 (· == 0) (fun _ s => s.mail.deferred.length < 16) ∧
    (∃ (s : State) (x : Measure), s.phase.measures.find? (measureEnds s) = some x ∧ 256 ≤ x.used) ∧
    (∃ (s : State) (x : Measure), s.phase.measures.find? (measureEnds s) = some x ∧ x.used < 256) :=
  ⟨meets_ask [] serving0 (by decide) trivial, meets_ask [] serving0 (by decide) trivial, meets_ask [] serving0 (by decide) trivial,
   meets_ask [] serving0 (by decide) (by decide),
   ⟨{ State.reset with phase := { State.reset.phase with measures := [{ used := 256 }] } }, { used := 256 }, by decide⟩,
   ⟨{ State.reset with phase := { State.reset.phase with measures := [{ used := 255 }] } }, { used := 255 }, by decide⟩⟩

/-- A periodic SWATH bead of class 7 that clears level 0, and the same as a specific-cycle bead of rod 9. -/
def swathBead : List Byte := [0x80, 0x7E, 0, 8] ++ zeros 20 ++ [1, 0] ++ zeros 6
def onceBead : List Byte := [0x90, 0x7E, 0, 8] ++ zeros 4 ++ le 8 9 ++ zeros 8 ++ [1, 0] ++ zeros 6

/-- Rod 5 at an angle, with an occurrence on its list. -/
def firing0 (angle : Nat) (o : Occ) : State :=
  { serving0 with
    phase := { serving0.phase with started := true, now := ⟨5, angle⟩ }
    abacus := { serving0.abacus with running := true, current := [o], beads := [(o.bead, { origin := 2, record := o.record })] } }

theorem witness_fires :
    (∃ (s : State) (o : Occ), (s.abacus.current.find? fun o => o.bead == 7 && o.state == 0) = some o ∧ s.abacus.running = true ∧
      (∀ x ∈ s.abacus.current, x.state = 0 → x.bead_.angle = o.bead_.angle → fireRank o ≤ fireRank x) ∧
      o.bead_.select ≠ 0 ∧ s.phase.countValid = false) ∧
    (∃ (s : State) (o : Occ), (s.abacus.current.find? fun o => o.bead == 7 && o.state == 0) = some o ∧ s.abacus.running = true ∧
      (∀ x ∈ s.abacus.current, x.state = 0 → x.bead_.angle = o.bead_.angle → fireRank o ≤ fireRank x) ∧
      o.bead_.select = 0 ∧ s.angle = o.bead_.angle + fireTolerance o.bead_.type) ∧
    (∃ (s : State) (o : Occ), (s.abacus.current.find? fun o => o.bead == 7 && o.state == 0) = some o ∧ s.abacus.running = true ∧
      (∀ x ∈ s.abacus.current, x.state = 0 → x.bead_.angle = o.bead_.angle → fireRank o ≤ fireRank x) ∧
      o.bead_.select = 0 ∧ s.angle = o.bead_.angle + fireTolerance o.bead_.type + 1) :=
  ⟨⟨firing0 2048 { bead := 7, rod := 5, home := 5, record := onceBead }, { bead := 7, rod := 5, home := 5, record := onceBead }, by decide⟩,
   ⟨firing0 2056 { bead := 7, rod := 5, home := 5, record := swathBead }, { bead := 7, rod := 5, home := 5, record := swathBead }, by decide⟩,
   ⟨firing0 2057 { bead := 7, rod := 5, home := 5, record := swathBead }, { bead := 7, rod := 5, home := 5, record := swathBead }, by decide⟩⟩

/-- A calendar bead: from second 0 of the clock on, once. -/
def calendarBead : List Byte := [0xA0, 0x7E, 0, 8] ++ zeros 20 ++ [1, 0] ++ zeros 6

/-- Rod 5, with that bead in slot 7, whose armed rod 4 is over. -/
def calendar0 : State :=
  { firing0 0 { bead := 9, rod := 5, home := 5, record := swathBead } with
    abacus := { running := true, beads := [(7, { origin := 2, record := calendarBead })], calendar := [(7, { armed := some 4 })] } }

theorem calendar0_skips : skipPassed 6 7 (calendar0.bead 7) calendar0 = calendar0 := by
  have h : firstFuture calendar0 (beadOf (calendar0.bead 7).record) (calendar0.calendar 7).next = 0 := by decide
  unfold skipPassed; dsimp only; rw [h]; rfl

theorem witness_abacusTimers :
    (∃ (s : State) (t : Instant), (fget {} s.abacus.layer 39).pulse = some (true, t) ∧ t.tu ≤ s.phase.now.tu) ∧
    (∃ (s : State) (t : Instant), (fget {} s.abacus.layer 39).pulse = some (true, t) ∧ s.phase.now.tu < t.tu ∧ t.cycle = s.cycle) ∧
    (∃ (s : State) (o : Occ), ((s.abacus.current ++ s.abacus.next.getD []).find? fun o => o.bead == 7 &&
      (o.state == 1 && o.entry.isSome || o.state == 0 && o.settled == some (checkInstant o.rod o.bead_.angle))) = some o ∧
      o.state = 1 ∧ o.entry = some 3 ∧ (checkInstant o.rod o.bead_.angle).cycle ≤ s.cycle) ∧
    (∃ (s : State) (o : Occ), ((s.abacus.current ++ s.abacus.next.getD []).find? fun o => o.bead == 7 &&
      (o.state == 1 && o.entry.isSome || o.state == 0 && o.settled == some (checkInstant o.rod o.bead_.angle))) = some o ∧
      o.state = 0 ∧ o.entry = none ∧ checkInstant o.rod o.bead_.angle = s.phase.now) ∧
    (∃ (s : State), s.abacus.running = true ∧ (fget {} s.abacus.calendar 7).armed = some s.cycle) ∧
    (∃ (s : State) (t r : Nat), (s.bead 7).record ≠ [] ∧ s.abacus.running = true ∧ (beadOf (s.bead 7).record).select = 2 ∧
      (fget {} s.abacus.calendar 7).armed = some 4 ∧ 4 < s.cycle ∧
      (fget {} (skipPassed 6 7 (s.bead 7) s).abacus.calendar 7).next = 0 ∧
      ticksTo s (calendarAt (beadOf (s.bead 7).record) 0) = some t ∧ t * s.freq / (32768 * 1000000) ≤ 512 ∧
      roomyRod (skipPassed 6 7 (s.bead 7) s)
        (max (s.cycle + t * s.freq / (32768 * 1000000)) (firstOpenRod s)) (beadOf (s.bead 7).record).angle = some r) ∧
    (∃ (s : State), s.abacus.running = true ∧ s.phase.started = true ∧ s.abacus.next = none) ∧
    (∃ (s : State) (h : Instant), chainHorizon s 5 = some h ∧ (h.add 1).tu ≤ s.phase.now.tu) ∧
    (∃ (s : State) (h : Instant), chainHorizon s 5 = some h ∧ s.phase.now.tu < (h.add 1).tu ∧ (h.add 1).cycle = s.cycle) ∧
    (∃ (s : State), 5 ∈ readyRecomputes s ∧ (∀ x ∈ readyRecomputes s, 5 ≤ x) ∧ freeProcessors s ≠ []) ∧
    (∃ (s : State), 5 ∈ readyRecomputes s ∧ (∀ x ∈ readyRecomputes s, 5 ≤ x) ∧ freeProcessors s = []) :=
  ⟨⟨{ State.reset with abacus := { layer := [(39, { pulse := some (true, ⟨0, 0⟩) })] } }, ⟨0, 0⟩, by decide⟩,
   ⟨{ State.reset with abacus := { layer := [(39, { pulse := some (true, ⟨0, 65535⟩) })] } }, ⟨0, 65535⟩, by decide⟩,
   ⟨firing0 0 { bead := 7, rod := 5, home := 5, record := swathBead, state := 1, entry := some 3 },
    { bead := 7, rod := 5, home := 5, record := swathBead, state := 1, entry := some 3 }, by decide⟩,
   ⟨firing0 1792 { bead := 7, rod := 5, home := 5, record := swathBead, state := 0, settled := some ⟨5, 1792⟩ },
    { bead := 7, rod := 5, home := 5, record := swathBead, state := 0, settled := some ⟨5, 1792⟩ }, by decide⟩,
   ⟨{ State.reset with abacus := { running := true, calendar := [(7, { armed := some 0 })] } }, by decide⟩,
   ⟨calendar0, 0, 6, by decide, by decide, by decide, by decide, by decide, by rw [calendar0_skips]; decide, by decide, by decide,
    by rw [calendar0_skips]; decide⟩,
   ⟨firing0 0 { bead := 7, rod := 5, home := 5, record := swathBead }, by decide⟩,
   ⟨{ State.reset with carry := { entries := [(5, { state := 1, kind := 1, root := true, chain := 5, horizon := some ⟨0, 0⟩ })] }, phase := { State.reset.phase with now := ⟨0, 1⟩ } }, ⟨0, 0⟩, by decide⟩,
   ⟨{ State.reset with carry := { entries := [(5, { state := 1, kind := 1, root := true, chain := 5, horizon := some ⟨0, 0⟩ })] } }, ⟨0, 0⟩, by decide⟩,
   ⟨{ State.reset with
      carry := { entries := [(5, { state := 2, kind := 1, root := true, chain := 5 })] }
      engine := { State.reset.engine with recomputes := [6, 5] } }, by decide⟩,
   ⟨{ State.reset with
      carry := { entries := [(5, { state := 2, kind := 1, root := true, chain := 5 })] }
      engine := { State.reset.engine with recomputes := [6, 5], processors := (List.range 9).map fun i => (i, { retired := true }) } }, by decide⟩⟩

theorem witness_beadVerbs :
    meets 0x0402 2 (· == 4) (fun c s => u16 c.pay 0 ≤ 4095 ∧ u16 c.pay 2 = 0 ∧ (s.bead (u16 c.pay 0)).origin ≠ 1 ∧ beadTaken s (u16 c.pay 0) = true) ∧
    meets 0x0403 2 (· == 4) (fun c s => u16 c.pay 0 ≤ 4095 ∧ u8 c.pay 2 ≤ 1 ∧ u8 c.pay 3 = 0 ∧ beadTaken s (u16 c.pay 0) = true) ∧
    meets 0x0404 1 (· == 4) (fun c s => u16 c.pay 0 ≤ 4095 ∧ u16 c.pay 2 = 0 ∧ (s.bead (u16 c.pay 0)).origin ≠ 0 ∧ pendingPlace s (u16 c.pay 0) = none) ∧
    (∃ (v : List Byte) (first : Nat), meets 0x0404 1 (· == 4) (fun c s => u16 c.pay 0 ≤ 4095 ∧ u16 c.pay 2 = 0 ∧
      pendingPlace s (u16 c.pay 0) = some (v, first))) ∧
    meets 0x0404 1 (· == 4) (fun c s => u16 c.pay 0 ≤ 4095 ∧ u16 c.pay 2 = 0 ∧ (s.bead (u16 c.pay 0)).origin = 0 ∧ pendingPlace s (u16 c.pay 0) = none) ∧
    meets 0x0405 1 (· == 4) (fun c _ => u8 c.pay 0 = 0 ∧ u8 c.pay 1 ≤ 1 ∧ u16 c.pay 2 = 0) ∧
    (∃ l, meets 0x0405 1 (· == 4) (fun c s => u8 c.pay 0 = 1 ∧ u8 c.pay 1 ≤ 1 ∧ u16 c.pay 2 = 0 ∧ s.abacus.next = some l)) ∧
    meets 0x0406 1 (· == 0) (fun _ _ => True) ∧ meets 0x0407 1 (· == 0) (fun _ _ => True) :=
  ⟨meets_ask (le 4 4095) (firing0 0 { bead := 4095, rod := 5, home := 5, record := swathBead }) (by decide) (by decide),
   meets_ask (le 4 4095) (firing0 0 { bead := 4095, rod := 5, home := 5, record := swathBead }) (by decide) (by decide),
   meets_ask (le 4 4095) (firing0 0 { bead := 4095, rod := 5, home := 5, record := swathBead }) (by decide) (by decide),
   ⟨swathBead, 6, meets_ask (le 4 8) { serving0 with abacus := { serving0.abacus with changes := [{ bead := 8, kind := 0, record := swathBead, boundary := 6 }] } } (by decide) (by decide)⟩,
   meets_ask (le 4 8) serving0 (by decide) (by decide), meets_ask (le 4 256) serving0 (by decide) (by decide),
   ⟨[], meets_ask (le 4 257) { serving0 with abacus := { serving0.abacus with next := some [] } } (by decide) (by decide)⟩,
   meets_ask [] serving0 (by decide) trivial, meets_ask [] serving0 (by decide) trivial⟩

theorem witness_beadPlace : ∃ bead, meets 0x0401 2 (· == 36)
    (fun c s => u16 c.pay 2 = 0 ∧ beadFieldsOk s bead (c.pay.drop 4) = true ∧
      (u16 c.pay 0 = bead ∧ bead ≤ 4095 ∧ (s.bead bead).origin ≠ 1 ∨ u16 c.pay 0 = 0xFFFF ∧ lowestFree s = some bead) ∧
      placeConflict s bead (c.pay.drop 4) = none ∧ (∀ p, publishPoint (beadOf (c.pay.drop 4)) = some p → pointRefused s bead p = none) ∧
      beyondBudget s (beadOf (c.pay.drop 4)) = false ∧ tooLate s (beadOf (c.pay.drop 4)) = false) :=
  ⟨4095, meets_ask (le 4 4095 ++ swathBead) serving0 (by decide)
    ⟨by decide, by decide, .inl (by decide), by decide, fun p h => absurd h (by rw [show publishPoint (beadOf (List.drop 4 (call 1025 (le 4 4095 ++ swathBead)).pay)) = none from by decide]; exact fun x => nomatch x), by decide, by decide⟩⟩

/-- Entry 127 is an INPUT root in use. -/
def carrying0 : State :=
  { serving0 with carry := { serving0.carry with entries := [(127, { state := 1, kind := 1, root := true, chain := 127, horizon := some ⟨0, 9⟩ })] } }

theorem witness_carry :
    meets 0x0501 1 (· == 0) (fun _ _ => True) ∧ meets 0x0502 1 (· == 0) (fun _ _ => True) ∧
    meets 0x0503 1 (· == 4) (fun c s => u8 c.pay 0 ≤ 127 ∧ allZero (slice c.pay 1 3) = true ∧ (s.entry (u8 c.pay 0)).state ≠ 0) ∧
    meets 0x0503 1 (· == 4) (fun c s => u8 c.pay 0 ≤ 127 ∧ allZero (slice c.pay 1 3) = true ∧ (s.entry (u8 c.pay 0)).state = 0) ∧
    meets 0x0504 1 (· == 4) (fun c s => u8 c.pay 0 ≤ 127 ∧ allZero (slice c.pay 1 3) = true ∧ (s.entry (u8 c.pay 0)).state ≠ 0) ∧
    meets 0x0505 1 (· == 0) (fun _ _ => True) ∧ meets 0x0506 2 (· == 0) (fun _ _ => True) ∧
    meets 0x0507 2 (· == 4) (fun c s => u8 c.pay 0 ≤ 127 ∧ allZero (slice c.pay 1 3) = true ∧ (s.entry (u8 c.pay 0)).state ≠ 0) ∧
    meets 0x0507 2 (· == 4) (fun c s => u8 c.pay 0 ≤ 127 ∧ allZero (slice c.pay 1 3) = true ∧ (s.entry (u8 c.pay 0)).state = 0) :=
  ⟨meets_ask [] serving0 (by decide) trivial, meets_ask [] serving0 (by decide) trivial,
   meets_ask (le 4 127) carrying0 (by decide) (by decide), meets_ask (le 4 127) serving0 (by decide) (by decide),
   meets_ask (le 4 127) carrying0 (by decide) (by decide), meets_ask [] serving0 (by decide) trivial,
   meets_ask [] serving0 (by decide) trivial, meets_ask (le 4 127) carrying0 (by decide) (by decide),
   meets_ask (le 4 0) serving0 (by decide) (by decide)⟩

def lease0 (confirmed : Bool) : Lease :=
  { number := 5, confirmed := confirmed, start := 9, expiry := 10, confirmBy := 8, power := [1, 1, 1], ramp := [1, 1, 1] }

/-- A request for a lease of rods 2 to 9, at the earliest start from rod 0. -/
def leaseRequest0 : List Byte := le 4 0x7FFFFFFF ++ le 8 2 ++ le 8 10 ++ le 8 2 ++ zeros 12 ++ le 4 1

def leasing0 (next : Option Lease) : State := { serving0 with reck := { serving0.reck with next := next } }

def borrowed0 : State :=
  { serving0 with reck := { serving0.reck with
    current := some { number := 4, confirmed := true, start := 0, expiry := 99, power := [1, 1, 1], ramp := [1, 1, 1] },
    loans := [{ phase := 3, kw := 2, number := 6, borrower := 1, lender := 2, start := 0, expiry := 50 }] } }

theorem witness_reck :
    meets 0x0601 1 (· == 0) (fun _ _ => True) ∧
    meets 0x0602 2 (· == 44) (fun c s => leaseBad s c.pay (leaseOf c.pay) = false ∧ s.cycle + 2 ≤ (leaseOf c.pay).start ∧
      leaseBelowLent s (leaseOf c.pay) = false ∧ (∀ n, s.reck.next = some n → n.confirmed = true)) ∧
    (∃ n, meets 0x0602 2 (· == 44) (fun c s => leaseBad s c.pay (leaseOf c.pay) = false ∧ s.cycle + 2 ≤ (leaseOf c.pay).start ∧
      leaseBelowLent s (leaseOf c.pay) = false ∧ s.reck.next = some n ∧ n.confirmed = false)) ∧
    (∃ l, meets 0x0603 2 (· == 4) (fun c s => s.reck.next = some l ∧ l.confirmed = false ∧ l.number = u32 c.pay 0 ∧ s.cycle < l.confirmBy)) ∧
    meets 0x0603 2 (· == 4) (fun c s => s.reck.deadlined = some (u32 c.pay 0) ∧ s.reck.next = none ∨
      ∃ l, s.reck.next = some l ∧ l.confirmed = false ∧ l.number = u32 c.pay 0 ∧ l.confirmBy ≤ s.cycle) ∧
    (∃ l, meets 0x0604 2 (· == 4) (fun c s => s.reck.next = some l ∧ l.confirmed = false ∧ l.number = u32 c.pay 0)) ∧
    meets 0x0605 1 (· == 0) (fun _ _ => True) ∧ meets 0x0606 1 (· == 0) (fun _ _ => True) ∧
    (∃ l, meets 0x0607 2 (· == 4) (fun c s => ((s.reck.loans.filter fun l => !l.returned).find? fun l => l.number == u32 c.pay 0 && !l.lent) = some l ∧
      s.reck.forecast.getD (l.phase - 1) 0 ≤ limPower s (max (firstOpenRod s) l.start) (l.phase - 1) - l.kw * 100)) ∧
    meets 0x0608 1 (· == 0) (fun _ _ => True) ∧ meets 0x0609 2 (· == 0) (fun _ _ => True) :=
  ⟨meets_ask [] serving0 (by decide) trivial,
   meets_ask leaseRequest0 (leasing0 none) (by decide) ⟨by decide, by decide, by decide, fun _ h => nomatch h⟩,
   ⟨lease0 false, meets_ask leaseRequest0 (leasing0 (some (lease0 false))) (by decide) (by decide)⟩,
   ⟨lease0 false, meets_ask (le 4 5) (leasing0 (some (lease0 false))) (by decide) (by decide)⟩,
   meets_ask (le 4 5) (leasing0 (some { lease0 false with confirmBy := 0 })) (by decide) (.inr ⟨{ lease0 false with confirmBy := 0 }, by decide⟩),
   ⟨lease0 false, meets_ask (le 4 5) (leasing0 (some (lease0 false))) (by decide) (by decide)⟩,
   meets_ask [] serving0 (by decide) trivial, meets_ask [] serving0 (by decide) trivial,
   ⟨{ phase := 3, kw := 2, number := 6, borrower := 1, lender := 2, start := 0, expiry := 50 }, meets_ask (le 4 6) borrowed0 (by decide) (by decide)⟩,
   meets_ask [] serving0 (by decide) trivial, meets_ask [] serving0 (by decide) trivial⟩

/-- A lease frame of a kind delivered to a running chip, with what is given outstanding. -/
def leaseFrame (b : LeaseBody) : EthFrame :=
  { dst := ownMac, src := 0x020000000001, vlan := none, hsr := none, etherType := 0x88B5, length := 64, body := [4] ++ b.bytes }

def leased0 (b : LeaseBody) (k : Reck) : State :=
  { serving0 with reck := k, ring := { serving0.ring with delivered := [{ port := 0, frame := leaseFrame b }] } }

theorem witness_leases :
    (∃ (s : State) (l : Lease), s.reck.next = some l ∧ l.confirmed = false ∧ l.confirmBy ≤ s.cycle) ∧
    (∃ s : State, lendOn s.cfg = true ∧ s.phase.started = true ∧ s.hif.mode = .running) ∧
    (∃ (s : State) (b : Borrow) (n : Nat), findBorrow s n = some b ∧ b.sent + 4 ≤ s.cycle) ∧
    (∃ (s : State) (n : Nat) (l : Loan), ((s.reck.loans.filter fun l => !l.returned).find? fun l => l.number == n && !l.lent) = some l ∧
      s.cycle < l.expiry ∧ l.expiry ≤ s.cycle + 256 ∧
      0 < s.reck.forecast.getD (l.phase - 1) 0 - (limPower s (max (firstOpenRod s) l.start) (l.phase - 1) - l.kw * 100)) ∧
    (∃ (s : State) (v : List Byte), s.cfg.heat = some v ∧ s.reck.fallback = false ∧ s.abacus.running = true ∧ u16 v 0 = 0xFFFF) ∧
    (∃ (s : State) (v : List Byte), s.cfg.heat = some v ∧ s.reck.fallback = false ∧ s.abacus.running = true ∧ u16 v 0 = 0 ∧
      s.cycle - s.reck.heatInstant.cycle = 16) :=
  ⟨⟨{ State.reset with phase := { State.reset.phase with now := ⟨8, 0⟩ }, reck := { State.reset.reck with next := some (lease0 false) } }, lease0 false, by decide⟩,
   ⟨{ serving0 with
      cfg := { serving0.cfg with base := some { records := [{ type := 0x0601, inst := 0, value := zeros 12 ++ [1] ++ zeros 107 }] } }
      phase := { serving0.phase with started := true } }, by decide⟩,
   ⟨{ State.reset with phase := { State.reset.phase with now := ⟨4, 0⟩ }, reck := { State.reset.reck with borrows := [{ phase := 1, kw := 1, number := 9, lender := 1, start := 5, sent := 0 }] } },
    { phase := 1, kw := 1, number := 9, lender := 1, start := 5, sent := 0 }, 9, by decide⟩,
   ⟨{ borrowed0 with reck := { borrowed0.reck with forecast := [0, 0, 101] } }, 6,
    { phase := 3, kw := 2, number := 6, borrower := 1, lender := 2, start := 0, expiry := 50 }, by decide⟩,
   ⟨{ State.reset with
      cfg := { State.reset.cfg with base := some { records := [{ type := 0x8602, inst := 0, value := [0xFF, 0xFF] ++ zeros 14 }] } }
      abacus := { State.reset.abacus with running := true } }, [0xFF, 0xFF] ++ zeros 14, by decide⟩,
   ⟨{ State.reset with
      cfg := { State.reset.cfg with base := some { records := [{ type := 0x8602, inst := 0, value := zeros 16 }] } }
      phase := { State.reset.phase with now := ⟨16, 0⟩ }
      abacus := { State.reset.abacus with running := true } }, zeros 16, by decide⟩⟩

/-- A body whose fields fit their widths comes back from its bytes. -/
theorem lease_round (b : LeaseBody) (h1 : b.kind < 256) (h2 : b.phase < 256) (h3 : b.kw < 65536) (h4 : b.loan < 4294967296)
    (h5 : b.borrower < 2 ^ 64) (h6 : b.lender < 2 ^ 64) (h7 : b.start < 2 ^ 48) (h8 : b.expiry < 2 ^ 48) (h9 : b.reason < 256) :
    leaseBodyOf ([4] ++ b.bytes) = b := by
  obtain ⟨k, p, w, n, x, y, u, v, r⟩ := b
  simp only at h1 h2 h3 h4 h5 h6 h7 h8 h9
  unfold leaseBodyOf LeaseBody.bytes
  simp only [be, le, zeros, List.reverse_cons, List.reverse_nil, List.nil_append, List.cons_append, n16, n32, n48, n64, u8,
    List.getD_eq_getElem?_getD, List.getElem?_cons_succ, List.getElem?_cons_zero, Option.getD_some, BitVec.toNat_ofNat, LeaseBody.mk.injEq]
  omega

/-- A lease frame for this chip, whatever its UID is, is taken. -/
theorem lease_taken (k : Nat) (hk : k < 5) (r : Reck) :
    ∃ b s1, takeLease k (leased0 { kind := k, phase := 1, kw := 1, loan := 7, borrower := ownUid, lender := ownUid, start := 5, expiry := 6, reason := 0 } r) =
      some (b, s1) ∧ sendsOwn s1 = true ∧ b.lender = ownUid ∧ b.borrower = ownUid ∧ b.loan = 7 ∧ s1.reck = r ∧ s1.phase = serving0.phase := by
  have h := lease_round { kind := k, phase := 1, kw := 1, loan := 7, borrower := ownUid, lender := ownUid, start := 5, expiry := 6, reason := 0 }
    (by simp only; omega) (by simp only; omega) (by simp only; omega) (by simp only; omega) (by unfold ownUid; exact BitVec.isLt _) (by unfold ownUid; exact BitVec.isLt _)
    (by simp only; omega) (by simp only; omega) (by simp only; omega)
  have hc : k = 0 ∨ k = 1 ∨ k = 2 ∨ k = 3 ∨ k = 4 := by omega
  have : ∃ s1, takeLease k (leased0 { kind := k, phase := 1, kw := 1, loan := 7, borrower := ownUid, lender := ownUid, start := 5, expiry := 6, reason := 0 } r) =
      some (leaseBodyOf ([4] ++ LeaseBody.bytes { kind := k, phase := 1, kw := 1, loan := 7, borrower := ownUid, lender := ownUid, start := 5, expiry := 6, reason := 0 }), s1) ∧
      sendsOwn s1 = true ∧ s1.reck = r ∧ s1.phase = serving0.phase := by
    rcases hc with h | h | h | h | h <;> subst h <;> exact ⟨_, rfl, rfl, rfl, rfl⟩
  obtain ⟨s1, a1, a2, a3, a4⟩ := this
  rw [h] at a1
  exact ⟨_, s1, a1, a2, rfl, rfl, rfl, a3, a4⟩

theorem witness_leaseFrames :
    (∃ (s s1 : State) (b : LeaseBody), takeLease 1 s = some (b, s1) ∧ sendsOwn s1 = true ∧ b.lender = ownUid ∧
      (s1.reck.answered.find? fun a => a.borrower == b.borrower && a.number == b.loan) = none) ∧
    (∃ (s s1 : State) (b : LeaseBody) (a : Answered), takeLease 1 s = some (b, s1) ∧ sendsOwn s1 = true ∧ b.lender = ownUid ∧
      (s1.reck.answered.find? fun a => a.borrower == b.borrower && a.number == b.loan) = some a) ∧
    (∃ (s s1 : State) (g : LeaseBody) (b : Borrow), takeLease 2 s = some (g, s1) ∧ sendsOwn s1 = true ∧ g.borrower = ownUid ∧
      findBorrow s1 g.loan = some b ∧ s1.reck.returnsSeen.contains (b.number, s1.phase.now) = false) ∧
    (∃ (s s1 : State) (g : LeaseBody) (b : Borrow), takeLease 2 s = some (g, s1) ∧ sendsOwn s1 = true ∧ g.borrower = ownUid ∧
      findBorrow s1 g.loan = some b ∧ s1.reck.returnsSeen.contains (b.number, s1.phase.now) = true) ∧
    (∃ (s s1 : State) (g : LeaseBody), takeLease 2 s = some (g, s1) ∧ sendsOwn s1 = true ∧ g.borrower = ownUid ∧
      findBorrow s1 g.loan = none ∧ s1.reck.lapsed.contains g.loan = true) ∧
    (∃ (s s1 : State) (g : LeaseBody) (b : Borrow), takeLease 3 s = some (g, s1) ∧ sendsOwn s1 = true ∧ g.borrower = ownUid ∧
      findBorrow s1 g.loan = some b) ∧
    (∃ (s s1 : State) (g : LeaseBody) (l : Loan), takeLease 4 s = some (g, s1) ∧ sendsOwn s1 = true ∧
      ((s1.reck.loans.filter fun l => !l.returned).find? fun l => l.number == g.loan && l.borrower == g.borrower && l.lender == g.lender) = some l) ∧
    (∃ (s s1 : State) (g : LeaseBody) (b : Borrow), takeLease 4 s = some (g, s1) ∧ sendsOwn s1 = true ∧
      ((s1.reck.loans.filter fun l => !l.returned).find? fun l => l.number == g.loan && l.borrower == g.borrower && l.lender == g.lender) = none ∧
      g.borrower = ownUid ∧ findBorrow s1 g.loan = some b) := by
  let lent : Borrow := { phase := 1, kw := 1, number := 7, lender := ownUid, start := 5, sent := 0 }
  refine ⟨?_, ?_, ?_, ?_, ?_, ?_, ?_, ?_⟩
  · obtain ⟨b, s1, h1, h2, h3, -, -, h4, -⟩ := lease_taken 1 (by decide) {}
    exact ⟨_, s1, b, h1, h2, h3, by rw [h4]; rfl⟩
  · obtain ⟨b, s1, h1, h2, h3, h5, h6, h4, -⟩ := lease_taken 1 (by decide) { answered := [{ borrower := ownUid, number := 7, body := [] }] }
    exact ⟨_, s1, b, { borrower := ownUid, number := 7, body := [] }, h1, h2, h3, by rw [h4, h5, h6]; simp⟩
  · obtain ⟨b, s1, h1, h2, -, h3, h6, h4, -⟩ := lease_taken 2 (by decide) { borrows := [lent] }
    exact ⟨_, s1, b, lent, h1, h2, h3, by unfold findBorrow; rw [h4, h6]; rfl, by rw [h4]; rfl⟩
  · obtain ⟨b, s1, h1, h2, -, h3, h6, h4, h5⟩ := lease_taken 2 (by decide) { borrows := [lent], returnsSeen := [(7, serving0.phase.now)] }
    exact ⟨_, s1, b, lent, h1, h2, h3, by unfold findBorrow; rw [h4, h6]; rfl, by rw [h4, h5]; rfl⟩
  · obtain ⟨b, s1, h1, h2, -, h3, h6, h4, -⟩ := lease_taken 2 (by decide) { lapsed := [7] }
    exact ⟨_, s1, b, h1, h2, h3, by unfold findBorrow; rw [h4]; rfl, by rw [h4, h6]; rfl⟩
  · obtain ⟨b, s1, h1, h2, -, h3, h6, h4, -⟩ := lease_taken 3 (by decide) { borrows := [lent] }
    exact ⟨_, s1, b, lent, h1, h2, h3, by unfold findBorrow; rw [h4, h6]; rfl⟩
  · obtain ⟨b, s1, h1, h2, h5, h3, h6, h4, -⟩ := lease_taken 4 (by decide)
      { loans := [{ phase := 1, kw := 1, number := 7, borrower := ownUid, lender := ownUid, start := 5, expiry := 6 }] }
    exact ⟨_, s1, b, { phase := 1, kw := 1, number := 7, borrower := ownUid, lender := ownUid, start := 5, expiry := 6 }, h1, h2,
      by rw [h4, h3, h5, h6]; simp⟩
  · obtain ⟨b, s1, h1, h2, -, h3, h6, h4, -⟩ := lease_taken 4 (by decide) { borrows := [lent] }
    exact ⟨_, s1, b, lent, h1, h2, by rw [h4]; rfl, h3, by unfold findBorrow; rw [h4, h6]; rfl⟩

/-- A running engine with loop 0, at rate 1 from angle 0. -/
def looping0 (l : Loop) : State :=
  { serving0 with
    cfg := { serving0.cfg with base := some { records := [{ type := 0x0701, inst := 0, value := zeros 512 }, { type := 0x0703, inst := 0, value := zeros 512 }, { type := 0x8704, inst := 0, value := [1] ++ zeros 200 }] } }
    phase := { serving0.phase with started := true }
    engine := { serving0.engine with running := true, loops := [(0, l)] } }

/-- The same with two instants in a rod and a horizon of 9. -/
def looping1 (l : Loop) : State :=
  { looping0 l with
    cfg := { serving0.cfg with base := some { records := [{ type := 0x0701, inst := 0, value := zeros 512 }, { type := 0x0703, inst := 0, value := [1] ++ zeros 9 ++ [9] ++ zeros 501 }, { type := 0x8704, inst := 0, value := zeros 201 }] } } }

theorem witness_samples :
    (∃ s : State, s.engine.running = true ∧ s.phase.started = true ∧ s.cfg.hasLoop 0 = true ∧ loopBead (s.cfg.loopRec 0) = false ∧
      (s.loop 0).mode ≠ .disabled ∧ (s.loop 0).previous ≠ some (Instant.ofTu (nextInstant (s.cfg.loopRec 0) s.phase.now.tu)) ∧
      nextInstant (s.cfg.loopRec 0) s.phase.now.tu / 65536 = s.cycle) ∧
    (∃ s : State, s.engine.running = true ∧ s.phase.started = true ∧ s.cfg.hasLoop 0 = true ∧ loopBead (s.cfg.loopRec 0) = false ∧
      (s.loop 0).mode ≠ .disabled ∧ (s.loop 0).previous = some (Instant.ofTu (nextInstant (s.cfg.loopRec 0) s.phase.now.tu)) ∧
      nextInstant (s.cfg.loopRec 0) (nextInstant (s.cfg.loopRec 0) s.phase.now.tu + 1) / 65536 = s.cycle) ∧
    (∃ (s : State) (x : Sample) (ps : List Nat), (resolveLoose s).engine.running = true ∧ readyRecomputes (resolveLoose s) = [] ∧
      (resolveLoose s).engine.thirds = [] ∧ nextSample (resolveLoose s) = some x ∧ freeProcessors (resolveLoose s) = 0 :: ps ∧
      x.entry = none ∧ checker (resolveLoose s) 0 = none) ∧
    (∃ (s : State) (x : Sample) (ps : List Nat), (resolveLoose s).engine.running = true ∧ readyRecomputes (resolveLoose s) = [] ∧
      (resolveLoose s).engine.thirds = [x] ∧ freeProcessors (resolveLoose s) = 0 :: ps) ∧
    (∃ (s : State) (x : Sample), (s.processor 8).sample = some x ∧ x.part = 0 ∧ x.entry = none ∧ x.dropped = false) ∧
    (∃ (s : State) (x : Sample), (s.processor 0).sample = some x ∧ x.part = 1 ∧
      otherRuns x (s.setProcessor 0 { s.processor 0 with sample := none }) = true) ∧
    (∃ (s : State) (x : Sample), (s.processor 0).sample = some x ∧ x.part = 1 ∧
      otherRuns x (s.setProcessor 0 { s.processor 0 with sample := none }) = false) ∧
    (∃ (s : State) (x : Sample), (s.processor 0).sample = some x ∧ x.part = 3) ∧
    (∃ (s : State) (d : Due), (s.loop 0).due = [d] ∧ d.instant.tu ≤ s.phase.now.tu) ∧
    (∃ (s : State) (d : Due), (s.loop 0).due = [d] ∧ s.phase.now.tu < d.instant.tu ∧ d.instant.cycle = s.cycle) ∧
    (∃ (s : State) (w : Sample), (s.loop 0).waiting = some w ∧ (w.instant.add (loopHorizon (s.cfg.loopRec 0))).tu ≤ s.phase.now.tu) ∧
    (∃ (s : State) (w : Sample), (s.loop 0).waiting = some w ∧ s.phase.now.tu < (w.instant.add (loopHorizon (s.cfg.loopRec 0))).tu ∧
      (w.instant.add (loopHorizon (s.cfg.loopRec 0))).cycle = s.cycle) :=
  ⟨⟨looping0 { mode := .run }, by decide⟩,
   ⟨looping1 { mode := .run, previous := some {} }, by decide⟩,
   ⟨{ looping0 { mode := .run } with engine := { (looping0 { mode := .run }).engine with checkedRod := true, queue := [{ slot := 0, instant := {}, inputs := [] }] } },
    { slot := 0, instant := {}, inputs := [] }, [1, 2, 3, 4, 5, 6, 7], by decide⟩,
   ⟨{ looping0 { mode := .run } with engine := { (looping0 { mode := .run }).engine with thirds := [{ slot := 0, instant := {}, inputs := [] }] } },
    { slot := 0, instant := {}, inputs := [] }, [1, 2, 3, 4, 5, 6, 7], by decide⟩,
   ⟨{ serving0 with engine := { serving0.engine with processors := [(8, { sample := some { slot := 0, instant := {}, inputs := [] } })] } },
    { slot := 0, instant := {}, inputs := [] }, by decide⟩,
   ⟨{ serving0 with engine := { serving0.engine with processors := [(0, { sample := some { part := 1, partner := 8 } }), (8, { sample := some { part := 2, partner := 8 } })] } },
    { part := 1, partner := 8 }, by decide⟩,
   ⟨{ serving0 with engine := { serving0.engine with processors := [(0, { sample := some { part := 1, partner := 8 } })] } },
    { part := 1, partner := 8 }, by decide⟩,
   ⟨{ serving0 with engine := { serving0.engine with processors := [(0, { sample := some { part := 3 } })] } }, { part := 3 }, by decide⟩,
   ⟨looping0 { due := [{ instant := {}, out := [] }] }, { instant := {}, out := [] }, by decide⟩,
   ⟨looping0 { due := [{ instant := ⟨0, 65535⟩, out := [] }] }, { instant := ⟨0, 65535⟩, out := [] }, by decide⟩,
   ⟨{ looping0 { waiting := some { slot := 0, instant := {}, inputs := [] } } with phase := { serving0.phase with now := ⟨1, 0⟩ } },
    { slot := 0, instant := {}, inputs := [] }, by decide⟩,
   ⟨looping1 { waiting := some { slot := 0, instant := {}, inputs := [] } }, { slot := 0, instant := {}, inputs := [] }, by decide⟩⟩

theorem witness_loopVerbs :
    meets 0x0701 1 (· == 4) (fun c _ => u16 c.pay 0 ≤ 511 ∧ u16 c.pay 2 = 0) ∧
    meets 0x0702 1 (· == 4) (fun c _ => u16 c.pay 0 ≤ 511 ∧ u8 c.pay 2 ≤ 2 ∧ u8 c.pay 3 = 0) ∧
    meets 0x0703 2 (· == 4) (fun c _ => u16 c.pay 0 ≤ 511 ∧ u16 c.pay 2 ≤ 0x7F) ∧
    meets 0x0704 2 (· == 4) (fun c s => u16 c.pay 0 ≤ 511 ∧ u8 c.pay 2 = 0 ∧ u8 c.pay 3 = 0 ∧ s.cfg.hasLoop (u16 c.pay 0) = true) ∧
    meets 0x0705 2 (· == 72) (fun c s => u16 c.pay 0 ≤ 511 ∧ u8 c.pay 2 = 1 ∧ u8 c.pay 3 = 0 ∧ u16 c.pay 6 = 0 ∧ (s.loop (u16 c.pay 0)).mode ≠ .disabled) ∧
    meets 0x0705 2 (· == 72) (fun c s => u16 c.pay 0 ≤ 511 ∧ u8 c.pay 2 = 0 ∧ u8 c.pay 3 = 0 ∧ u16 c.pay 6 = 0 ∧ (s.loop (u16 c.pay 0)).mode = .manual) ∧
    meets 0x0707 2 (· == 12) (fun c _ => u8 c.pay 0 ≤ 15 ∧ u8 c.pay 1 ≤ 3 ∧ u8 c.pay 2 ≤ 8 ∧ u8 c.pay 3 = 0 ∧ u16 c.pay 4 ≤ 511 ∧ u8 c.pay 6 ≤ 0xC2 ∧
      u8 c.pay 7 = 0 ∧ 1 ≤ u16 c.pay 8 ∧ u16 c.pay 8 ≤ 4095 ∧ u16 c.pay 10 ≤ 0x7F) ∧
    meets 0x0708 1 (· == 4) (fun c _ => u8 c.pay 0 ≤ 15 ∧ allZero (slice c.pay 1 3) = true) ∧
    meets 0x0709 1 (· == 8)
      (fun c s => u8 c.pay 0 ≤ 15 ∧ u8 c.pay 1 = 0 ∧ 1 ≤ u16 c.pay 4 ∧ u16 c.pay 4 ≤ 192 ∧ u16 c.pay 6 = 0 ∧ (s.trace (u8 c.pay 0)).state ≠ 0) ∧
    meets 0x070A 1 (· == 0) (fun _ _ => True) :=
  ⟨meets_ask (le 4 511) serving0 (by decide) (by decide), meets_ask (le 4 0x201FF) serving0 (by decide) (by decide),
   meets_ask (le 4 0x7F01FF) serving0 (by decide) (by decide), meets_ask (zeros 4) (looping0 {}) (by decide) (by decide),
   meets_ask ([0, 0, 1] ++ zeros 69) (looping0 { mode := .run }) (by decide) (by decide),
   meets_ask (zeros 72) (looping0 { mode := .manual }) (by decide) (by decide),
   meets_ask ([15, 3, 8, 0, 255, 1, 0xC2, 0, 255, 15, 0x7F, 0]) serving0 (by decide) (by decide),
   meets_ask (le 4 15) serving0 (by decide) (by decide),
   meets_ask ([15, 0, 0, 0, 192, 0, 0, 0]) { serving0 with engine := { serving0.engine with traces := [(15, { state := 1 })] } } (by decide) (by decide),
   meets_ask [] serving0 (by decide) trivial⟩

theorem witness_loopModel : meets 0x0706 1 (· == 4)
    (fun c s => u16 c.pay 0 ≤ 511 ∧ u16 c.pay 2 = 0 ∧ (supModelIn (s.cfg.sup (u16 c.pay 0))).isSome = true) :=
  meets_ask (zeros 4) (looping0 {}) (by decide) (by decide)

/-- Chip 1 owns block 0, with point 0 declared int64 and HOST. -/
def commons0 : State :=
  { serving0 with
    cfg := { serving0.cfg with base := some { records := [{ type := 0x0801, inst := 0, value := [1, 8] ++ le 2 49152 ++ zeros 4 ++ [1, 2] ++ zeros 2558 },
      { type := 0x0802, inst := 0, value := le 2 1 ++ [1, 1] ++ zeros 4 }] } }
    phase := { serving0.phase with started := true, countValid := true }
    commons := { serving0.commons with blocks := [(0, { state := 1 })] } }

theorem witness_commons :
    meets 0x0801 1 (· == 0) (fun _ _ => True) ∧
    meets 0x0802 1 (· == 4) (fun c _ => 1 ≤ u8 c.pay 2 ∧ u8 c.pay 2 ≤ 62 ∧ u8 c.pay 3 = 0 ∧ u16 c.pay 0 + u8 c.pay 2 ≤ 65536) ∧
    (∃ r, meets 0x0803 2 (· == 16) (fun c s => s.cfg.run (u16 c.pay 0) = some r ∧ allZero (slice c.pay 2 6) = true ∧ bit (u8 r.value 3) 0 = true ∧
      hostValueOk (u8 r.value 2) (u16 r.value 4) (u64 c.pay 8) = true ∧ writesBlock s (u16 c.pay 0 / 64) = true ∧
      s.phase.countValid = true ∧ s.commons.txq.length < 1024)) ∧
    meets 0x0804 1 (· == 0) (fun _ _ => True) ∧
    meets 0x0805 1 (· == 4) (fun c _ => 1 ≤ u8 c.pay 2 ∧ u8 c.pay 2 ≤ 240 ∧ u8 c.pay 3 = 0 ∧ u16 c.pay 0 + u8 c.pay 2 ≤ 1024) ∧
    meets 0x0806 1 (· == 0) (fun _ _ => True) ∧ meets 0x0807 2 (· == 0) (fun _ _ => True) :=
  ⟨meets_ask [] serving0 (by decide) trivial, meets_ask (le 2 65535 ++ [1, 0]) serving0 (by decide) (by decide),
   ⟨{ type := 0x0802, inst := 0, value := le 2 1 ++ [1, 1] ++ zeros 4 }, meets_ask (zeros 16) commons0 (by decide) (by decide)⟩,
   meets_ask [] serving0 (by decide) trivial, meets_ask (le 2 1023 ++ [1, 0]) serving0 (by decide) (by decide),
   meets_ask [] serving0 (by decide) trivial, meets_ask [] serving0 (by decide) trivial⟩

def cutFrame (sub : Byte) (b : List Byte) : EthFrame :=
  { dst := 0x03504C440002, src := 0x020000000001, vlan := none, hsr := none, etherType := 0x88B5, length := 64, body := [sub] ++ b }

theorem witness_commonsFrames :
    (∃ (s s1 : State) (d : Delivered), takeDelivered 0x02 s = some (d, s1) ∧ commonsOn s1 = true ∧ u8 d.frame.body 1 ≠ ownChip s1.cfg ∧
      bit (u8 d.frame.body 2) 0 = true) ∧
    (∃ (s s1 : State) (d : Delivered), takeDelivered 0x02 s = some (d, s1) ∧ bit (u8 d.frame.body 2) 0 = false) ∧
    (∃ (u : HeldUpdate) (s : State), s.phase.countValid = true ∧ 0 < stampDiff u.stamp (comingCut s)) ∧
    (∃ (u : HeldUpdate) (s : State), s.phase.countValid = true ∧ stampDiff u.stamp (comingCut s) = 0 ∧ writerOf s (u.point / 64) ≠ u.sender) ∧
    (∃ (u : HeldUpdate) (s : State), s.phase.countValid = true ∧ stampDiff u.stamp (comingCut s) = 0 ∧ writerOf s (u.point / 64) = u.sender) ∧
    (∃ (u : HeldUpdate) (s : State), s.phase.countValid = true ∧ stampDiff u.stamp (comingCut s) < 0 ∧ writerOf s (u.point / 64) = u.sender) ∧
    (∃ s : State, commonsOn s = true ∧ s.phase.started = true ∧ s.phase.countValid = true) ∧
    (∃ s : State, s.commons.cutDone = false ∧ s.phase.started = true ∧ sendsOwn s = true) :=
  ⟨⟨{ commons0 with ring := { commons0.ring with delivered := [{ port := 0, frame := cutFrame 2 [2, 1, 0, 0] }] } }, _, { port := 0, frame := cutFrame 2 [2, 1, 0, 0] }, rfl, by decide⟩,
   ⟨{ commons0 with ring := { commons0.ring with delivered := [{ port := 0, frame := cutFrame 2 [2, 0, 0, 0] }] } }, _, { port := 0, frame := cutFrame 2 [2, 0, 0, 0] }, rfl, by decide⟩,
   ⟨{ sender := 1, point := 0, type := 1, standby := false, stamp := 0x7FFFFFFF, value := 0 }, commons0, by decide⟩,
   ⟨{ sender := 2, point := 0, type := 1, standby := false, stamp := 0, value := 0 }, commons0, by decide⟩,
   ⟨{ sender := 1, point := 0, type := 1, standby := false, stamp := 0, value := 0 }, commons0, by decide⟩,
   ⟨{ sender := 1, point := 0, type := 1, standby := false, stamp := 0xFFFFFFFF, value := 0 }, commons0, by decide⟩,
   ⟨commons0, by decide⟩, ⟨commons0, by decide⟩⟩

/-- A queue of 90 entries leaves in one frame. -/
theorem witness_commonsSend : ∃ (s : State) (x : TxEntry) (xs : List TxEntry), s.commons.txq = x :: xs ∧ (nextEntries s.commons.txq).length = 90 :=
  ⟨{ commons0 with commons := { commons0.commons with txq := (List.range 90).map fun p => { point := p, type := 1, standby := false, stamp := 0, value := 0, kind := 0 } } }, _, _, rfl, by decide⟩

/-- One entry leaves 32 tu after it was queued. -/
theorem witness_commonsSendOne :
    (∃ (s : State) (x : TxEntry), s.commons.txq = [x] ∧ (nextEntries s.commons.txq).length < 90 ∧ (x.queued.add 32).tu ≤ s.phase.now.tu) ∧
    (∃ (s : State) (x : TxEntry), s.commons.txq = [x] ∧ (nextEntries s.commons.txq).length < 90 ∧ s.phase.now.tu < (x.queued.add 32).tu ∧
      (x.queued.add 32).tu / 65536 = s.cycle) :=
  ⟨⟨{ commons0 with
      phase := { commons0.phase with now := ⟨0, 32⟩ }
      commons := { commons0.commons with txq := [{ point := 0, type := 1, standby := false, stamp := 0, value := 0, kind := 0 }] } },
    { point := 0, type := 1, standby := false, stamp := 0, value := 0, kind := 0 }, by decide⟩,
   ⟨{ commons0 with commons := { commons0.commons with txq := [{ point := 0, type := 1, standby := false, stamp := 0, value := 0, kind := 0 }] } },
    { point := 0, type := 1, standby := false, stamp := 0, value := 0, kind := 0 }, by decide⟩⟩

/-- A mark whose hash is the map's, whatever that is. -/
theorem witness_cutMark : ∃ (s s1 : State) (d : Delivered), takeDelivered 0x03 s = some (d, s1) ∧ commonsOn s1 = true ∧
    u8 d.frame.body 1 = 250 ∧ u8 d.frame.body 1 ≠ ownChip s1.cfg ∧ n16 d.frame.body 3 = cutAngle s1.cfg :=
  ⟨{ commons0 with ring := { commons0.ring with delivered := [{ port := 0, frame := cutFrame 3 ([250, 1] ++ be 2 49152 ++ zeros 20) }] } }, _,
   { port := 0, frame := cutFrame 3 ([250, 1] ++ be 2 49152 ++ zeros 20) }, rfl, by decide⟩

theorem witness_ring :
    meets 0x0901 1 (· == 0) (fun _ _ => True) ∧
    meets 0x0902 1 (· == 4) (fun c _ => u8 c.pay 0 ≤ 2 ∧ allZero (c.pay.drop 1) = true) ∧
    meets 0x0902 1 (· == 4) (fun c _ => 2 < u8 c.pay 0) ∧
    meets 0x0903 2 (· == 4) (fun c _ => u8 c.pay 0 ≤ 2 ∧ allZero (c.pay.drop 1) = true) ∧
    meets 0x0903 2 (· == 4) (fun c _ => u8 c.pay 0 = 0xFF ∧ allZero (c.pay.drop 1) = true) ∧
    meets 0x0904 1 (· == 4) (fun c _ => 1 ≤ u8 c.pay 2 ∧ u8 c.pay 2 ≤ 120 ∧ u8 c.pay 3 = 0 ∧ u16 c.pay 0 + u8 c.pay 2 ≤ 512) ∧
    meets 0x0905 1 (· == 0) (fun _ _ => True) ∧ meets 0x0906 1 (· == 0) (fun _ _ => True) ∧
    meets 0x0907 1 (· == 4) (fun c _ => u8 c.pay 0 ≤ 2 ∧ allZero (c.pay.drop 1) = true) ∧
    meets 0x0907 1 (· == 4) (fun c _ => 2 < u8 c.pay 0) ∧
    meets 0x0908 1 (· == 0) (fun _ _ => True) :=
  ⟨meets_ask [] serving0 (by decide) trivial, meets_ask [2, 0, 0, 0] serving0 (by decide) (by decide), meets_ask [3, 0, 0, 0] serving0 (by decide) (by decide),
   meets_ask [2, 0, 0, 0] serving0 (by decide) (by decide), meets_ask [255, 0, 0, 0] serving0 (by decide) (by decide),
   meets_ask (le 2 392 ++ [120, 0]) serving0 (by decide) (by decide), meets_ask [] serving0 (by decide) trivial, meets_ask [] serving0 (by decide) trivial,
   meets_ask [2, 0, 0, 0] serving0 (by decide) (by decide), meets_ask [3, 0, 0, 0] serving0 (by decide) (by decide), meets_ask [] serving0 (by decide) trivial⟩

def linked (p : Nat) (s : State) : State := s.setPort p { s.port p with link := true }

def ownFrame (src : Nat) : EthFrame :=
  { dst := ownMac, src := src, vlan := some (1, 0), hsr := some 0, etherType := 0x88B5, length := 64, body := [9] }

theorem witness_switch :
    (∃ s : State, (s.port 0).link = false) ∧
    (∃ (f : EthFrame) (s : State), (s.port 0).link = true ∧ portOn s 0 = true ∧ 1536 < f.length) ∧
    (∃ (f : EthFrame) (s : State), (s.port 2).link = true ∧ portOn s 2 = true ∧ 64 ≤ f.length ∧ f.length ≤ 1536 ∧ f.etherType ≠ 0x8808) ∧
    (∃ (f : EthFrame) (s : State), (s.port 0).link = true ∧ portOn s 0 = true ∧ 64 ≤ f.length ∧ f.length ≤ 1536 ∧ f.etherType = 0x8808) ∧
    (∃ (f : EthFrame) (s : State), (s.port 0).link = true ∧ portOn s 0 = true ∧ 64 ≤ f.length ∧ f.length ≤ 1536 ∧ f.etherType ≠ 0x8808 ∧ linkLocal f.dst = true) ∧
    (∃ (f : EthFrame) (s : State), (s.port 0).link = true ∧ portOn s 0 = true ∧ 64 ≤ f.length ∧ f.length ≤ 1536 ∧ f.etherType ≠ 0x8808 ∧ linkLocal f.dst = false ∧ f.src = ownMac) ∧
    (∃ (s : State) (k : Nat) (f : EthFrame) (q : List EthFrame), (s.port 1).link = true ∧ portOn s 1 = true ∧ nextClass s 1 = some (k, f, q)) := by
  refine ⟨⟨State.reset, rfl⟩, ⟨{ ownFrame 1 with length := 1537 }, linked 0 serving0, by decide⟩, ⟨ownFrame 1, linked 2 serving0, by decide⟩,
    ⟨{ ownFrame 1 with etherType := 0x8808 }, linked 0 serving0, by decide⟩, ⟨{ ownFrame 1 with dst := 0x0180C200000E }, linked 0 serving0, by decide⟩,
    ⟨{ ownFrame ownMac with dst := 0x010000000000 }, linked 0 serving0, rfl, by decide, by decide, by decide, by decide, by decide, rfl⟩,
    ⟨serving0.setPort 1 { serving0.port 1 with link := true, queues := [(7, [ownFrame 1])] }, 7, ownFrame 1, [], rfl, by decide, rfl⟩⟩

theorem witness_links :
    (∃ s : State, (s.port 0).link = false ∧ portOn s 0 = true) ∧ (∃ s : State, (s.port 2).link = true) ∧
    (∃ s : State, (s.port 0).link = true) ∧
    (∃ s : State, gatesTimed s = true ∧ (gateEntry s 2).1 ≠ 0 ∧ (s.port 2).gate + 1 < (gateList s.cfg 2).length) ∧
    (∃ s : State, sendsOwn s = true ∧ s.cfg.standalone = false) ∧
    (∃ (q : Nat) (s : State), s.ring.supSeq = some q ∧ (if (1 : Nat) = 0 then s.ring.supWest else s.ring.supEast) = false ∧ fget 0 s.ring.supCounted 1 ≠ q + 1) ∧
    (∃ (q : Nat) (s : State), s.ring.supSeq = some q ∧ (if (0 : Nat) = 0 then s.ring.supWest else s.ring.supEast) = true) :=
  ⟨⟨State.reset, by decide⟩, ⟨linked 2 serving0, by decide⟩, ⟨linked 0 serving0, by decide⟩,
   ⟨{ commons0 with phase := { commons0.phase with applied := true } }, by decide⟩, ⟨commons0, by decide⟩,
   ⟨0, { commons0 with ring := { commons0.ring with supSeq := some 0 } }, by decide⟩,
   ⟨0, { commons0 with ring := { commons0.ring with supSeq := some 0, supWest := true } }, by decide⟩⟩

/-- A slave with PTP_SYNC set. -/
def slave0 : State :=
  { serving0 with ring := { serving0.ring with ptp := { serving0.ring.ptp with state := 3, sync := true, silent := 8 } } }

/-- A state with one field of the clock changed. -/
def clockState (st : Nat) : State := { serving0 with ring := { serving0.ring with ptp := { serving0.ring.ptp with state := st } } }

theorem witness_ptp :
    (∃ s : State, s.ring.ptp.state = 3 ∧ s.ring.ptp.sync = true ∧ s.ring.ptp.beyond < 3 ∧ 8 ≤ s.ring.ptp.silent) ∧
    (∃ s : State, s.ring.ptp.state = 2 ∧ s.ring.ptp.sync = false ∧ s.ring.ptp.inside < 15) ∧
    (∃ s : State, s.ring.ptp.state ≠ 2 ∧ s.ring.ptp.state ≠ 3) ∧
    (∃ s t : State, settlePtp s = t ∧ t.ring.ptp.state ≠ 4) ∧ (∃ s : State, (s.port 2).link = true ∧ sendsOwn s = true) :=
  ⟨⟨slave0, by decide⟩, ⟨clockState 2, by decide⟩, ⟨clockState 4, by decide⟩, ⟨State.reset, _, rfl, by decide⟩, ⟨linked 2 serving0, by decide⟩⟩

/-- A master of the site that is grandmaster. -/
def master0 : State :=
  { commons0 with
    cfg := { commons0.cfg with base := some { records := [{ type := 0x0901, inst := 0, value := [0, 16] ++ zeros 138 }] } }
    phase := { commons0.phase with master := true }
    ring := { commons0.ring with ptp := { commons0.ring.ptp with state := 4, grandmaster := ownUid } } }

theorem master0_choice : ptpChoice master0 = (4, ownUid) := by
  have h : ptpOn master0 = true := by decide
  have h1 : foreignMaster master0 = false := by simp [foreignMaster, master0]
  have h2 : (ownRank master0).isSome = true := rfl
  have h3 : master0.ring.ptp.state = 4 := rfl
  simp [ptpChoice, h, h1, h2, h3]

theorem witness_announce : ∃ s t : State, settlePtp s = t ∧ t.ring.ptp.state = 4 := by
  refine ⟨master0, master0, ?_, rfl⟩
  unfold settlePtp
  rw [master0_choice]
  exact if_pos ⟨rfl, rfl⟩

/-- Channel 0 enabled with HOST frames and manual recovery allowed, error active, one leakage measured. -/
def bus0 : State :=
  { serving0 with
    cfg := { serving0.cfg with base := some { records := [{ type := 0x0A01, inst := 0, value := [1, 0x18] ++ zeros 46 }] } }
    phase := { serving0.phase with started := true }
    fbus := { serving0.fbus with channels := [(0, { state := 2, leaks := [500] })] } }

/-- The same channel in another state. -/
def bus1 (c : Channel) : State := { bus0 with fbus := { bus0.fbus with channels := [(0, c)] } }

theorem witness_fbus :
    meets 0x0A01 1 (· == 4) (fun c _ => u8 c.pay 0 ≤ 7 ∧ allZero (c.pay.drop 1) = true) ∧
    meets 0x0A02 1 (· == 4) (fun c _ => u8 c.pay 0 ≤ 7 ∧ allZero (c.pay.drop 1) = true) ∧
    meets 0x0A03 2 (· == 4) (fun c _ => u8 c.pay 0 ≤ 7 ∧ allZero (c.pay.drop 1) = true) ∧
    meets 0x0A03 2 (· == 4) (fun c _ => u8 c.pay 0 = 0xFF ∧ allZero (c.pay.drop 1) = true) ∧
    meets 0x0A05 2 (· == 4) (fun r s => u8 r.pay 0 ≤ 7 ∧ 1 ≤ u8 r.pay 1 ∧ u8 r.pay 1 ≤ 12 ∧ u16 r.pay 2 = 0 ∧ chFlag (s.cfg.channel (u8 r.pay 0)) 3 = true) ∧
    meets 0x0A06 2 (· == 4) (fun r s => u8 r.pay 0 ≤ 7 ∧ allZero (r.pay.drop 1) = true ∧ (s.chan (u8 r.pay 0)).state = 4 ∧
      chFlag (s.cfg.channel (u8 r.pay 0)) 4 = true) ∧
    meets 0x0A06 2 (· == 4) (fun r s => u8 r.pay 0 ≤ 7 ∧ allZero (r.pay.drop 1) = true ∧ ((s.chan (u8 r.pay 0)).state ≠ 4 ∨
      chFlag (s.cfg.channel (u8 r.pay 0)) 4 = false)) ∧
    meets 0x0A07 3 (· == 4) (fun r s => u8 r.pay 0 ≤ 7 ∧ allZero (r.pay.drop 1) = true ∧ chEnabled (s.cfg.channel (u8 r.pay 0)) = true ∧
      (s.chan (u8 r.pay 0)).state ≠ 0 ∧ s.fbus.spareState = 0 ∧ s.fbus.switching = none) ∧
    meets 0x0A08 1 (· == 4) (fun r s => u8 r.pay 0 ≤ 7 ∧ allZero (r.pay.drop 1) = true ∧ (s.chan (u8 r.pay 0)).leaks ≠ []) ∧
    meets 0x0A08 1 (· == 4) (fun r s => u8 r.pay 0 ≤ 7 ∧ allZero (r.pay.drop 1) = true ∧ (s.chan (u8 r.pay 0)).leaks = []) ∧
    meets 0x0A09 1 (· == 8) (fun r s => u8 r.pay 0 ≤ 7 ∧ u8 r.pay 1 = 0 ∧ u16 r.pay 6 = 0 ∧ s.cfg.channel (u8 r.pay 0) ≠ []) ∧
    meets 0x0A09 1 (· == 8) (fun r s => u8 r.pay 0 ≤ 7 ∧ u8 r.pay 1 = 0 ∧ u16 r.pay 6 = 0 ∧ s.cfg.channel (u8 r.pay 0) = []) :=
  ⟨meets_ask [7, 0, 0, 0] serving0 (by decide) (by decide), meets_ask [0, 0, 0, 0] serving0 (by decide) (by decide),
   meets_ask [7, 0, 0, 0] serving0 (by decide) (by decide), meets_ask [255, 0, 0, 0] serving0 (by decide) (by decide),
   meets_ask [0, 12, 0, 0] bus0 (by decide) (by decide), meets_ask [0, 0, 0, 0] (bus1 { state := 4 }) (by decide) (by decide),
   meets_ask [0, 0, 0, 0] bus0 (by decide) (by decide), meets_ask [0, 0, 0, 0] bus0 (by decide) (by decide),
   meets_ask [0, 0, 0, 0] bus0 (by decide) (by decide), meets_ask [7, 0, 0, 0] bus0 (by decide) (by decide),
   meets_ask [0, 0, 0, 0, 0, 0, 0, 0] bus0 (by decide) (by decide), meets_ask [1, 0, 0, 0, 0, 0, 0, 0] bus0 (by decide) (by decide)⟩

/-- FBUS.SEND of an extended classic frame of eight bytes. -/
theorem witness_fbusSend : ∃ (r : Call) (s : State), asked s 2 0x0A04 2 (fun n => decide (8 ≤ n) && decide (n ≤ 72)) r = true ∧
    u8 r.pay 0 ≤ 7 ∧ u8 r.pay 1 < 8 ∧ u8 r.pay 3 = 0 ∧ dataLength (u8 r.pay 2) = true ∧ r.pay.length = 8 + u8 r.pay 2 ∧
    bit (u8 r.pay 1) 1 = false ∧ bit (u8 r.pay 1) 2 = false ∧ u8 r.pay 2 ≤ 8 ∧ bit (u8 r.pay 1) 0 = true ∧ u32 r.pay 4 < 2 ^ 29 ∧
    chFlag (s.cfg.channel (u8 r.pay 0)) 3 = true ∧ (s.chan (u8 r.pay 0)).state = 2 ∧
    admitsOther (s.cfg.channel (u8 r.pay 0)) (s.chan (u8 r.pay 0)) false = true :=
  ⟨call 0x0A04 ([0, 1, 8, 0] ++ le 4 0x1FFFFFFF ++ zeros 8), ask (call 0x0A04 ([0, 1, 8, 0] ++ le 4 0x1FFFFFFF ++ zeros 8)) bus0, by decide⟩

def canFrame0 : CanFrame := { ident := 0x100, extended := false, fd := false, brs := false, data := [] }

theorem witness_channels :
    (∃ s : State, onBus (s.chan 0) = false) ∧ (∃ s : State, onBus (s.chan 0) = true ∧ chFlag (s.cfg.channel 0) 0 = false) ∧
    (∃ s : State, onBus (s.chan 0) = true ∧ spareListens s 0 = true) ∧ (∃ s : State, onBus (s.chan 0) = true ∧ spareListens s 0 = false) ∧
    (∃ (f : CanFrame) (s : State), f.extended = false ∧ isReference (s.cfg.channel 0) f = false ∧ filterAction s.cfg 0 f ≠ 1 ∧ filterAction s.cfg 0 f ≠ 2) ∧
    (∃ s : State, onBus (s.chan 0) = true ∧ (s.chan 0).refPending = true) ∧
    (∃ (f : TxFrame) (fs : List TxFrame) (s : State), onBus (s.chan 0) = true ∧ (s.chan 0).fifo = f :: fs) ∧
    (∃ s : State, (s.chan 0).state = 2 ∧ (s.chan 0).txErr + 8 = 255 ∧ (s.chan 0).fifo = []) ∧
    (∃ s : State, (s.chan 0).state = 3 ∧ (s.chan 0).txErr + 8 = 256 ∧ (s.chan 0).refPending = true) ∧
    (∃ s : State, onBus (s.chan 0) = true ∧ (s.chan 0).refPending = false ∧ (s.chan 0).fifo ≠ [] ∧ u8 (s.cfg.channel 0) 13 ≤ (s.chan 0).errors + 1) ∧
    (∃ s : State, (s.chan 0).state = 1 ∧ chRefId (s.cfg.channel 0) ≠ 0xFFFF ∧ chPriority (s.cfg.channel 0) ≠ 0xFF) ∧
    (∃ s : State, (s.chan 0).state = 1 ∧ chRefId (s.cfg.channel 0) ≠ 0xFFFF ∧ chPriority (s.cfg.channel 0) = 0xFF ∧
      ((s.setChan 0 { s.chan 0 with state := errorState (s.chan 0) }).chan 0).state ≠ 0) ∧
    (∃ s : State, onBus (s.chan 0) = true ∧ ((receiveError 0 s).bus 0).window = true ∧ ((receiveError 0 s).bus 0).clashNow = []) ∧
    (∃ s : State, (s.chan 0).state = 4 ∧ (s.chan 0).recovering = true) :=
  ⟨⟨serving0, by decide⟩, ⟨bus0, by decide⟩, ⟨bus0, by decide⟩, ⟨{ bus0 with fbus := { bus0.fbus with spareChannel := 1 } }, by decide⟩,
   ⟨canFrame0, { bus0 with cfg := serving0.cfg }, by decide⟩, ⟨bus1 { state := 3, refPending := true }, by decide⟩,
   ⟨{ frame := canFrame0, source := 2 }, [], bus1 { state := 2, fifo := [{ frame := canFrame0, source := 2 }] }, by decide⟩,
   ⟨bus1 { state := 2, txErr := 247 }, by decide⟩, ⟨bus1 { state := 3, txErr := 248, refPending := true }, by decide⟩,
   ⟨bus1 { state := 2, fifo := [{ frame := canFrame0, source := 2 }] }, by decide⟩, ⟨bus1 { state := 1 }, by decide⟩,
   ⟨{ bus1 { state := 1 } with cfg := { bus0.cfg with base := some { records := [{ type := 0x0A01, inst := 0, value := [1, 0x18] ++ zeros 20 ++ [0xFF] ++ zeros 25 }] } } }, by decide⟩,
   ⟨{ bus1 { state := 2 } with cfp := { serving0.cfp with buses := [(0, { window := true })] } }, by decide⟩,
   ⟨bus1 { state := 4, recovering := true }, by decide⟩⟩

/-- Channel 0 a potential master of priority 0, its leakage injected. -/
def refBus (c : Channel) : State :=
  { bus0 with
    cfg := { bus0.cfg with base := some { records := [{ type := 0x0A01, inst := 0, value := [1, 0x18] ++ zeros 18 ++ le 2 0x100 ++ [0, 1] ++ zeros 4 ++ [1] ++ zeros 19 }] } }
    fbus := { bus0.fbus with channels := [(0, c)] } }

def switching0 (w : SwitchOver) : State := { bus0 with fbus := { bus0.fbus with switching := some w } }

theorem witness_refs :
    (∃ s : State, chPriority (s.cfg.channel 0) ≤ 2 ∧ chRefId (s.cfg.channel 0) ≠ 0xFFFF ∧ (s.chan 0).refPeriod.isSome = true ∧ onBus (s.chan 0) = true ∧
      (s.chan 0).refHeard = none ∧ (s.chan 0).refSent = false) ∧
    (∃ s : State, (s.chan 0).refPending = true) ∧
    (∃ s : State, chRefId (s.cfg.channel 0) ≠ 0xFFFF ∧ onBus (s.chan 0) = true ∧ s.phase.started = true ∧ s.cycle % 2 ^ u8 (s.cfg.channel 0) 23 = 0 ∧
      (s.chan 0).refPeriod = none) ∧
    (∃ s : State, chRefId (s.cfg.channel 0) ≠ 0xFFFF ∧ onBus (s.chan 0) = true ∧ s.phase.started = true ∧ s.cycle % 2 ^ u8 (s.cfg.channel 0) 23 = 0 ∧
      (s.chan 0).refPeriod = some 2 ∧ 2 ≠ s.cycle) ∧
    (∃ s : State, chRefId (s.cfg.channel 0) = 0xFFFF) ∧
    (∃ (k : Nat) (s : State), s.fbus.spareState = 0 ∧ s.fbus.switching = none ∧ s.cycle % 256 = 0 ∧
      ((List.range 8).find? fun k => chEnabled (s.cfg.channel ((s.fbus.spareChannel + 1 + k) % 8))) = some k) ∧
    (∃ (w : SwitchOver) (s : State), s.fbus.switching = some w ∧ w.passed = false) ∧
    (∃ (w : SwitchOver) (s : State), s.fbus.switching = some w ∧ w.passed = true ∧ w.mailbox = none) ∧
    (∃ (w : SwitchOver) (s : State), s.fbus.switching = some w ∧ w.passed = true ∧ w.mailbox = some 2) ∧
    (∃ s : State, u8 (s.cfg.channel 0) 28 ≠ 0 ∧ (s.chan 0).state ≠ 0 ∧ (s.chan 0).injHigh = true ∧ (s.chan 0).lowHalf = some 0) ∧
    (∃ s : State, u8 (s.cfg.channel 0) 28 ≠ 0 ∧ (s.chan 0).state ≠ 0 ∧ (s.chan 0).injHigh = false) ∧
    (∃ (s : State) (dv : Int), dv < 50 ∧ 3 ≤ (s.chan 0).leakOpen ∧ (s.chan 0).leakFault = false) ∧
    (∃ s : State, s.hif.mode = .fallow ∧ (s.chan 0).state = 5) :=
  ⟨⟨refBus { state := 2, refPeriod := some 0 }, by decide⟩, ⟨bus1 { state := 2, refPending := true }, by decide⟩,
   ⟨refBus { state := 2 }, by decide⟩, ⟨refBus { state := 2, refPeriod := some 2 }, by decide⟩, ⟨serving0, by decide⟩, ⟨7, bus0, by decide⟩,
   ⟨{ channel := 0, cause := 3, mailbox := none }, switching0 { channel := 0, cause := 3, mailbox := none }, by decide⟩,
   ⟨{ channel := 0, cause := 3, mailbox := none, passed := true }, switching0 { channel := 0, cause := 3, mailbox := none, passed := true }, by decide⟩,
   ⟨{ channel := 0, cause := 3, mailbox := some 2, passed := true }, switching0 { channel := 0, cause := 3, mailbox := some 2, passed := true }, by decide⟩,
   ⟨refBus { state := 2, injHigh := true, lowHalf := some 0 }, by decide⟩, ⟨refBus { state := 2 }, by decide⟩,
   ⟨bus1 { state := 2, leakOpen := 3 }, 49, by decide⟩, ⟨{ bus1 { state := 5 } with hif := { bus0.hif with mode := .fallow } }, by decide⟩⟩

/-- Role 0x0101 on bus 0, whose node 1 is present with the UID 5. -/
def field0 (c : Channel) (b : Bus) : State :=
  { serving0 with
    cfg := { serving0.cfg with base := some { records := [{ type := 0x0A01, inst := 0, value := [1, 0] ++ zeros 18 ++ [255, 255, 255] ++ zeros 25 },
      { type := 0x0B01, inst := 0x0101, value := zeros 8 ++ le 8 5 ++ zeros 24 }, { type := 0x0B02, inst := 0, value := [3] ++ zeros 15 }] } }
    phase := { serving0.phase with started := true, countValid := true }
    fbus := { serving0.fbus with channels := [(0, c)] }
    cfp := { serving0.cfp with buses := [(0, b)], roles := [(0x0101, { address := 2 })] } }

def field1 : State := field0 { state := 2 } { nodes := [(1, { uid := 5, state := 1, kind := 1 })], ended := true }

theorem witness_cfp :
    meets 0x0B01 1 (· == 4) (fun c _ => u8 c.pay 0 ≤ 7 ∧ 1 ≤ u8 c.pay 1 ∧ u8 c.pay 1 ≤ 126 ∧ 1 ≤ u8 c.pay 2 ∧ u8 c.pay 2 ≤ 63 ∧
      u8 c.pay 1 + u8 c.pay 2 ≤ 127 ∧ u8 c.pay 3 = 0) ∧
    meets 0x0B02 1 (· == 4) (fun c s => (s.cfg.role (u16 c.pay 0)).isSome = true ∧ u16 c.pay 2 = 0) ∧
    meets 0x0B03 2 (· == 12) (fun c s => (s.cfg.role (u16 c.pay 0)).isSome = true ∧ u16 c.pay 2 = 0 ∧ s.cfg.listens (u16 c.pay 0) = false ∧
      u64 c.pay 4 = 0 ∧ (s.roleEntry (u16 c.pay 0)).state ≠ 1) ∧
    meets 0x0B03 2 (· == 12) (fun c s => (s.cfg.role (u16 c.pay 0)).isSome = true ∧ u16 c.pay 2 = 0 ∧ s.cfg.listens (u16 c.pay 0) = false ∧
      u64 c.pay 4 ≠ 0 ∧ addressOf s (s.cfg.roleBus (u16 c.pay 0)) (u64 c.pay 4) = some 1 ∧ (s.node (s.cfg.roleBus (u16 c.pay 0)) 1).state = 1 ∧
      (s.node (s.cfg.roleBus (u16 c.pay 0)) 1).kind = u16 c.pay 0 / 256 ∧ (s.roleEntry (u16 c.pay 0)).state ≠ 1 ∧ (s.roleEntry (u16 c.pay 0)).address ≠ 1) ∧
    meets 0x0B04 2 (fun n => decide (12 ≤ n)) (fun c s => u8 c.pay 0 ≤ 7 ∧ u8 c.pay 1 < 4 ∧ u8 c.pay 7 = 0 ∧ u16 c.pay 10 = 0 ∧ u16 c.pay 8 ≤ 4096 ∧
      transactArgs s c (u16 c.pay 8) = some [] ∧ (s.cfg.role (u16 c.pay 4)).isSome = true ∧ s.cfg.roleBus (u16 c.pay 4) = u8 c.pay 0 ∧ u8 c.pay 6 ≠ 1 ∧
      u8 c.pay 6 ≠ 2 ∧ u8 c.pay 2 ≤ 7 ∧ s.cfg.busOn (u8 c.pay 0) = true ∧ roleState s (u16 c.pay 4) ≠ 3) ∧
    meets 0x0B05 1 (· == 4) (fun c s => u8 c.pay 0 ≤ 7 ∧ allZero (c.pay.drop 1) = true ∧ (s.bus (u8 c.pay 0)).ended = true) ∧
    meets 0x0B05 1 (· == 4) (fun c s => u8 c.pay 0 ≤ 7 ∧ allZero (c.pay.drop 1) = true ∧ (s.bus (u8 c.pay 0)).ended = false) ∧
    meets 0x0B06 2 (· == 4) (fun c s => u8 c.pay 0 ≤ 7 ∧ 1 ≤ u8 c.pay 1 ∧ u8 c.pay 1 ≤ 126 ∧ u16 c.pay 2 = 0 ∧
      (s.node (u8 c.pay 0) (u8 c.pay 1)).state ≠ 1 ∧ roleAt s (u8 c.pay 0) (u8 c.pay 1) = none) ∧
    meets 0x0B06 2 (· == 4) (fun c s => u8 c.pay 0 ≤ 7 ∧ 1 ≤ u8 c.pay 1 ∧ u8 c.pay 1 ≤ 126 ∧ u16 c.pay 2 = 0 ∧
      (s.node (u8 c.pay 0) (u8 c.pay 1)).state = 1 ∧ roleAt s (u8 c.pay 0) (u8 c.pay 1) = none) ∧
    meets 0x0B07 1 (· == 4) (fun c _ => u8 c.pay 0 ≤ 7 ∧ allZero (c.pay.drop 1) = true) ∧
    meets 0x0B08 2 (· == 4) (fun c _ => u8 c.pay 0 ≤ 7 ∧ allZero (c.pay.drop 1) = true) ∧
    meets 0x0B08 2 (· == 4) (fun c _ => u8 c.pay 0 = 0xFF ∧ allZero (c.pay.drop 1) = true) :=
  ⟨meets_ask [7, 64, 63, 0] serving0 (by decide) (by decide), meets_ask [1, 1, 0, 0] field1 (by decide) (by decide),
   meets_ask ([1, 1] ++ zeros 10) field1 (by decide) (by decide), meets_ask ([1, 1, 0, 0] ++ le 8 5) field1 (by decide) (by decide),
   meets_ask ([0, 0, 7, 0, 1, 1, 0x10, 0] ++ zeros 4) field1 (by decide) (by decide),
   meets_ask [0, 0, 0, 0] field1 (by decide) (by decide), meets_ask [7, 0, 0, 0] field1 (by decide) (by decide),
   meets_ask [0, 126, 0, 0] field1 (by decide) (by decide), meets_ask [0, 1, 0, 0] field1 (by decide) (by decide),
   meets_ask [7, 0, 0, 0] field1 (by decide) (by decide), meets_ask [7, 0, 0, 0] field1 (by decide) (by decide), meets_ask [255, 0, 0, 0] field1 (by decide) (by decide)⟩

def cfpFrame0 (kind src : Nat) (data : List Byte) : RxFrame :=
  { frame := { ident := cfpIdent 3 kind 3 src false 0, extended := true, data := data }, stamp := {}, host := false }

/-- The channel with one received frame. -/
def field2 (f : RxFrame) (b : Bus) : State := field0 { state := 2, rx := [f] } b

theorem witness_rolls :
    (∃ s : State, ((s.chan 0).rx.find? fun f => !f.host && f.frame.extended && identKind f.frame.ident == 6) = none) ∧
    (∃ s : State, s.cfg.busOn 0 = true ∧ sendsOwn s = true ∧ rollSender s 0 = true ∧ s.hif.supPause = false ∧ s.phase.countValid = true ∧
      s.cycle % 256 = u8 (s.cfg.bus 0) 1 ∧ (s.chan 0).state ≠ 0 ∧ ¬ ((s.bus 0).window = true ∧ (s.bus 0).lastRoll = s.cycle)) ∧
    (∃ s : State, s.cfg.busOn 0 = false) ∧
    (∃ (f : RxFrame) (s s1 t : State), takeKind 0 6 s = some (f, s1) ∧ t = s1.setBus 0 { s1.bus 0 with announced := (s1.bus 0).announced + 1 } ∧
      rollSender t 0 = true ∧ t.cfg.busOn 0 = true ∧ addressOf t 0 (n64 f.frame.data 0) = some 1) ∧
    (∃ (f : RxFrame) (s s1 t : State), takeKind 0 6 s = some (f, s1) ∧ t = s1.setBus 0 { s1.bus 0 with announced := (s1.bus 0).announced + 1 } ∧
      rollSender t 0 = true ∧ t.cfg.busOn 0 = true ∧ addressOf t 0 (n64 f.frame.data 0) = none ∧ chooseAddress t 0 (n64 f.frame.data 0) = some 1) ∧
    (∃ (f : RxFrame) (s s1 : State), takeKind 0 7 s = some (f, s1) ∧ rollSender s1 0 = true) ∧
    (∃ (f : RxFrame) (s s1 : State), takeKind 0 7 s = some (f, s1) ∧ rollSender s1 0 = false ∧ f.frame.ident / 2 ^ 16 % 128 = 3) ∧
    (∃ (f : RxFrame) (s s1 : State), takeKind 0 5 s = some (f, s1) ∧ identSrc f.frame.ident = 1 ∧
      low32 (claimedUid s1 0 1 (n32 f.frame.data 4)) = n32 f.frame.data 4) ∧
    (∃ (f : RxFrame) (s s1 : State), takeKind 0 2 s = some (f, s1)) ∧
    (∃ s : State, (s.bus 0).window = true ∧ (s.bus 0).lastRoll + 224 ≤ s.cycle) ∧
    (∃ s : State, (s.bus 0).window = false) ∧
    (∃ s : State, (s.node 0 1).claimed = false ∧ u8 (s.cfg.bus 0) 11 ≤ (s.node 0 1).missed + 1 ∧ (s.node 0 1).state = 1) :=
  ⟨⟨serving0, by decide⟩, ⟨field1, by decide⟩, ⟨serving0, by decide⟩,
   ⟨_, field2 (cfpFrame0 6 0 (be 8 5)) { nodes := [(1, { uid := 5, state := 1, kind := 1 })] }, _, _, rfl, rfl, by decide⟩,
   ⟨_, field2 (cfpFrame0 6 0 (be 8 6)) {}, _, _, rfl, rfl, by decide⟩,
   ⟨_, field2 (cfpFrame0 7 0 (be 8 6)) {}, _, rfl, by decide⟩,
   ⟨_, { field2 (cfpFrame0 7 0 (be 8 6)) {} with cfg := serving0.cfg }, _, rfl, by decide⟩,
   ⟨_, field2 (cfpFrame0 5 1 ([0, 1, 1, 1] ++ be 4 5)) { nodes := [(1, { uid := 5, state := 1, kind := 1 })] }, _, rfl, by decide⟩,
   ⟨_, field2 (cfpFrame0 2 1 [0, 0]) {}, _, rfl⟩,
   ⟨{ field0 { state := 2 } { window := true } with phase := { field1.phase with now := { cycle := 224, angle := 0 } } }, by decide⟩,
   ⟨field1, by decide⟩, ⟨field1, by decide⟩⟩

/-- A transaction of the layer's with the tag 5, awaiting its response (3) or its segments (4). -/
def tx0 (stage : Nat) : Transaction :=
  { origin := 1, role := 0x0101, opcode := 0x10, args := [0], idem := true, prio := 3, order := 9, stage := stage, tag := some 5, address := 1, total := 3, rseq := 1 }

def txBus (t : Transaction) : Bus := { nodes := [(1, { uid := 5, state := 1, kind := 1 })], transactions := [t] }

def answer0 (kind : Nat) (data : List Byte) : RxFrame :=
  { frame := { ident := cfpIdent 3 kind 0 1 true 5, extended := true, data := data }, stamp := {}, host := false }

theorem witness_transactions :
    (∃ (t : Transaction) (s : State), s.cfg.busOn 0 = true ∧ sendsOwn s = true ∧ (s.chan 0).state ≠ 0 ∧
      ((s.bus 0).transactions.find? fun t => t.purpose == 0 && decide (t.stage ≤ 1) && roleState s t.role == 3) = some t) ∧
    (∃ (t : Transaction) (a e k : Nat) (b : Bus) (s : State), s.cfg.busOn 0 = true ∧ sendsOwn s = true ∧ (s.chan 0).state ≠ 0 ∧
      ((s.bus 0).transactions.find? fun t => t.purpose == 0 && decide (t.stage ≤ 1) && roleState s t.role == 3) = none ∧
      (s.chan 0).hold.length < 16 ∧ (s.bus 0).transactions.find? (sendable s 0) = some t ∧ resolve s t = some (a, e) ∧ takeTag (s.bus 0) t = some (k, b)) ∧
    (∃ (t : Transaction) (f : RxFrame) (s s1 : State), takeKind 0 1 s = some (f, s1) ∧ answeredTx s1 0 3 f.frame = some t ∧ bit (u8 f.frame.data 0) 7 = false) ∧
    (∃ (t : Transaction) (f : RxFrame) (s s1 : State), takeKind 0 1 s = some (f, s1) ∧ answeredTx s1 0 3 f.frame = some t ∧ bit (u8 f.frame.data 0) 7 = true ∧
      (f.frame.data.drop 6).length < n16 f.frame.data 4) ∧
    (∃ (t : Transaction) (f : RxFrame) (s s1 : State), takeKind 0 3 s = some (f, s1) ∧ bit f.frame.ident 8 = true ∧ answeredTx s1 0 4 f.frame = some t ∧
      u8 f.frame.data 0 = t.rseq ∧ (t.result ++ f.frame.data.drop 1).length < t.total) ∧
    (∃ (t : Transaction) (f : RxFrame) (s s1 : State), takeKind 0 3 s = some (f, s1) ∧ bit f.frame.ident 8 = true ∧ answeredTx s1 0 4 f.frame = some t ∧
      u8 f.frame.data 0 ≠ t.rseq) ∧
    (∃ (t : Transaction) (s : State), taggedTx s 0 5 3 = some t ∧ (waitingRsp s 0 fun x => x.order == t.order) = none) ∧
    (∃ (t : Transaction) (s : State), taggedTx s 0 5 3 = some t ∧ (waitingRsp s 0 fun x => x.order == t.order).isSome = true) ∧
    (∃ (t : Transaction) (f : RxFrame) (s s1 : State), takeKind 0 1 s = some (f, s1) ∧ answeredTx s1 0 3 f.frame = some t ∧ bit (u8 f.frame.data 0) 7 = true ∧
      n16 f.frame.data 4 ≤ (f.frame.data.drop 6).length) ∧ (∃ (t : Transaction) (s : State), taggedTx s 0 5 4 = some t) ∧
    (∃ (t : Transaction) (s : State), t.idem = true ∧ t.retried < u8 (s.cfg.bus 0) 8) ∧
    (∃ s : State, takeKind 0 1 s = none) ∧ (∃ s : State, takeKind 0 3 s = none) :=
  ⟨⟨_, { field0 { state := 2 } (txBus (tx0 0)) with cfp := { buses := [(0, txBus (tx0 0))] } }, rfl, rfl, by decide, rfl⟩,
   ⟨_, _, _, _, _, field0 { state := 2 } (txBus { tx0 0 with tag := none }), rfl, rfl, by decide, rfl, by decide, rfl, rfl, rfl⟩,
   ⟨_, _, field2 (answer0 1 [0, 0, 1, 1]) (txBus (tx0 3)), _, rfl, rfl, by decide⟩,
   ⟨_, _, field2 (answer0 1 [0x80, 0, 1, 1, 0, 3]) (txBus (tx0 3)), _, rfl, rfl, by decide⟩,
   ⟨_, _, field2 (answer0 3 [1, 9]) (txBus (tx0 4)), _, rfl, rfl, rfl, by decide⟩,
   ⟨_, _, field2 (answer0 3 [2, 9]) (txBus (tx0 4)), _, rfl, rfl, rfl, by decide⟩,
   ⟨_, field0 { state := 2 } (txBus (tx0 3)), rfl, rfl⟩, ⟨_, field2 (answer0 1 [0, 0, 1, 1]) (txBus (tx0 3)), rfl, rfl⟩,
   ⟨_, _, field2 (answer0 1 [0x80, 0, 1, 1, 0, 3, 1, 2, 3]) (txBus (tx0 3)), _, rfl, rfl, by decide, by decide⟩, ⟨_, field0 { state := 2 } (txBus (tx0 4)), rfl⟩,
   ⟨tx0 3, { field0 { state := 2 } {} with cfg := { serving0.cfg with base := some { records := [{ type := 0x0B02, inst := 0, value := zeros 8 ++ [1] ++ zeros 7 }] } } }, by decide⟩,
   ⟨serving0, rfl⟩, ⟨serving0, rfl⟩⟩

/-- Channel 0 of bank 0 enabled for duty and the host, with a profile 0 that peaks for 100 µs. -/
def valve0 (b : ValveBank) (c : ValveChannel) : State :=
  { serving0 with
    cfg := { serving0.cfg with base := some { records := [{ type := 0x0C01, inst := 0, value := [1] ++ zeros 31 }, { type := 0x0C02, inst := 0, value := [7] ++ zeros 31 },
      { type := 0x8C03, inst := 0, value := zeros 4 ++ le 4 100 ++ le 4 1000 ++ zeros 20 }] } }
    phase := { serving0.phase with started := true }
    valve := { serving0.valve with banks := [(0, b)], channels := [(0, c)] } }

def valveReq0 : ValveReq := { channel := 0, profile := 0, requested := {}, hold := 1000, layer := 1, number := 5 }

def valveEv (phase : Nat) : ValveEvent :=
  { req := valveReq0, channels := [0], profile := zeros 4 ++ le 4 100 ++ le 4 1000 ++ zeros 20, phase := phase, start := {}, phaseStart := {} }

theorem witness_valveEvents :
    (∃ s : State, firstRequest (((List.range 8).filterMap fun k => (s.valveCh (8 * 0 + k)).waiting).filter (mayStart s)) = none) ∧
    (∃ (r : ValveReq) (s : State), firstRequest (((List.range 8).filterMap fun k => (s.valveCh (8 * 0 + k)).waiting).filter (mayStart s)) = some r) ∧
    (∃ s : State, eventOn s 0 = none) ∧ (∃ (e : ValveEvent) (s : State), eventOn s 0 = some e ∧ e.phase = 3 ∧ u32 e.profile 4 ≠ 0) ∧
    (∃ (e : ValveEvent) (s : State), eventOn s 0 = some e ∧ e.phase = 5) ∧ (∃ (e : ValveEvent) (s : State), eventOn s 0 = some e ∧ e.phase = 6) ∧
    (∃ (e : ValveEvent) (s : State), eventOn s 0 = some e ∧ e.phase = 7 ∧ (s.vbank (0 / 8)).event = some e) ∧
    (∃ (r : ValveReq) (s : State), (s.valveCh 0).waiting = some r ∧ s.cycle < (r.requested.add r.defer).cycle) ∧
    (∃ (r : ValveReq) (e : ValveEvent) (s : State), (s.valveCh 0).waiting = some r ∧ (r.requested.add r.defer).cycle ≤ s.cycle ∧ s.phase.now ≠ r.requested.add r.defer ∧
      (s.vbank (0 / 8)).event = some e) ∧
    (∃ (r : ValveReq) (s : State), (s.valveCh 0).waiting = some r ∧ (r.requested.add r.defer).cycle ≤ s.cycle ∧ s.phase.now = r.requested.add r.defer ∧
      firstRequest (((List.range 8).filterMap fun k => (s.valveCh (0 / 8 * 8 + k)).waiting).filter (mayStart s)) = some r) ∧
    (∃ (e : ValveEvent) (s : State), eventOn s 0 = some e ∧ e.phase ≠ 3 ∧ e.phase ≠ 4 ∧ e.phase ≠ 6) ∧
    (∃ s : State, s.cycle % 2 ^ u8 (s.cfg.valve 1) 6 ≠ u16 (s.cfg.valve 1) 10 ∨ bit (u8 (s.cfg.valve 1) 0) 2 = false) ∧
    (∃ s : State, (s.vbank (0 / 8)).event = none ∧ u8 (s.cfg.valveBank (0 / 8)) 0 = 1 ∧ (s.vbank (0 / 8)).fault = 0) :=
  ⟨⟨serving0, rfl⟩, ⟨valveReq0, valve0 {} { waiting := some valveReq0 }, rfl⟩, ⟨serving0, rfl⟩,
   ⟨valveEv 3, valve0 { event := some (valveEv 3) } {}, rfl, rfl, by decide⟩, ⟨valveEv 5, valve0 { event := some (valveEv 5) } {}, rfl, rfl⟩,
   ⟨valveEv 6, valve0 { event := some (valveEv 6) } {}, rfl, rfl⟩, ⟨valveEv 7, valve0 { event := some (valveEv 7) } {}, rfl, rfl, rfl⟩,
   ⟨{ valveReq0 with defer := 65536 }, valve0 {} { waiting := some { valveReq0 with defer := 65536 } }, rfl, by decide⟩,
   ⟨valveReq0, valveEv 3, { valve0 { event := some (valveEv 3) } { waiting := some valveReq0 } with phase := { serving0.phase with now := { cycle := 1, angle := 0 } } }, rfl, by decide, by decide, rfl⟩,
   ⟨valveReq0, valve0 {} { waiting := some valveReq0 }, rfl, by decide, rfl, rfl⟩, ⟨valveEv 5, valve0 { event := some (valveEv 5) } {}, rfl, by decide, by decide, by decide⟩,
   ⟨valve0 {} {}, .inr (by decide)⟩, ⟨valve0 {} {}, rfl, by decide, rfl⟩⟩

/-- Channel 0 driven by output 0 of loop 0, whose value last applied is 1. -/
theorem witness_duty : ∃ (s t : State) (d : Word), bit (u8 (s.cfg.valve 0) 0) 2 = true ∧ s.phase.started = true ∧
    s.cycle % 2 ^ u8 (s.cfg.valve 0) 6 = u16 (s.cfg.valve 0) 10 ∧ t = s.atAngle (max s.angle (u16 (s.cfg.valve 0) 8)) ∧
    valveRoute t.cfg 0 = some (0, 0) ∧ fget none (t.loop 0).applied 0 = some d ∧ isZeroFp d = false ∧ t.dtFreq ≠ 0 :=
  ⟨{ valve0 {} {} with
      cfg := { serving0.cfg with base := some { records := [{ type := 0x0703, inst := 0, value := zeros 144 ++ [3] ++ zeros 200 }, { type := 0x0C02, inst := 0, value := [7] ++ zeros 31 }] } }
      engine := { serving0.engine with loops := [(0, { applied := [(0, some 0x3F800000#32)] })] } }, _, 0x3F800000#32, by decide, by decide, by decide, rfl, by decide, rfl, by decide, by decide⟩

theorem witness_valve :
    meets 0x0C01 1 (· == 4) (fun c _ => u8 c.pay 0 ≤ 39 ∧ allZero (c.pay.drop 1) = true) ∧
    meets 0x0C02 2 (· == 8) (fun c s => u8 c.pay 0 ≤ 39 ∧ u8 c.pay 1 ≤ 15 ∧ u8 c.pay 2 < 2 ∧ u8 c.pay 3 = 0 ∧ u32 c.pay 4 = 0 ∧
      bit (u8 (s.cfg.valve (u8 c.pay 0)) 0) 1 = true ∧ valveEnabled s (u8 c.pay 0) = true ∧
      requestFaulted s { channel := u8 c.pay 0, profile := u8 c.pay 1, requested := s.phase.now, hold := 0, layer := 3, number := 7 } = false) ∧
    meets 0x0C02 2 (· == 8) (fun c s => u8 c.pay 0 ≤ 39 ∧ u8 c.pay 1 ≤ 15 ∧ u8 c.pay 2 < 2 ∧ u8 c.pay 3 = 0 ∧ u32 c.pay 4 = 0 ∧
      bit (u8 (s.cfg.valve (u8 c.pay 0)) 0) 1 = false) ∧
    meets 0x0C03 2 (· == 4) (fun c _ => u8 c.pay 0 ≤ 39 ∧ allZero (c.pay.drop 1) = true) ∧
    meets 0x0C03 2 (· == 4) (fun c _ => 0x80 ≤ u8 c.pay 0 ∧ u8 c.pay 0 ≤ 0x84 ∧ allZero (c.pay.drop 1) = true) ∧
    meets 0x0C04 1 (· == 4) (fun c _ => u8 c.pay 0 ≤ 15 ∧ allZero (c.pay.drop 1) = true) ∧
    meets 0x0C05 1 (· == 4) (fun c _ => u8 c.pay 0 ≤ 39 ∧ allZero (c.pay.drop 1) = true) ∧
    meets 0x0C06 2 (· == 4) (fun c _ => u8 c.pay 0 ≤ 39 ∧ allZero (c.pay.drop 1) = true) ∧
    meets 0x0C06 2 (· == 4) (fun c _ => u8 c.pay 0 = 0xFF ∧ allZero (c.pay.drop 1) = true) :=
  ⟨meets_ask [39, 0, 0, 0] serving0 (by decide) (by decide), meets_ask (zeros 8) (valve0 {} {}) (by decide) (by decide),
   meets_ask ([39, 15] ++ zeros 6) (valve0 {} {}) (by decide) (by decide), meets_ask [39, 0, 0, 0] serving0 (by decide) (by decide),
   meets_ask [0x84, 0, 0, 0] serving0 (by decide) (by decide), meets_ask [15, 0, 0, 0] serving0 (by decide) (by decide),
   meets_ask [39, 0, 0, 0] serving0 (by decide) (by decide), meets_ask [39, 0, 0, 0] serving0 (by decide) (by decide),
   meets_ask [255, 0, 0, 0] serving0 (by decide) (by decide)⟩

/-- Output 0 with a tach, group 0 on bus 0. -/
def fan0 (o : FanOutput) (g : FanGroup) : State :=
  { serving0 with
    cfg := { serving0.cfg with base := some { records := [{ type := 0x0B02, inst := 0, value := [1] ++ zeros 15 }, { type := 0x0D01, inst := 0, value := [9, 2] ++ zeros 14 },
      { type := 0x0D02, inst := 0, value := [0, 1] ++ zeros 2 ++ [3] ++ zeros 11 }] } }
    phase := { serving0.phase with started := true, applied := true, now := { cycle := 1, angle := 0 } }
    fan := { serving0.fan with outputs := [(0, o)], groups := [(0, g)] } }

theorem witness_fans :
    (∃ s : State, s.phase.applied = true ∧ s.cfg.watchdogSeconds ≠ 0 ∧ s.fan.silent = false ∧ 1000 * s.cfg.watchdogSeconds ≤ s.msSince s.fan.lastRequest) ∧
    (∃ s : State, fanEnabled (s.cfg.fan 0) = true ∧ bit (u8 (s.cfg.fan 0) 0) 3 = true ∧ (s.fanOut 0).tachLost = true ∧ (s.fanOut 0).good = 3) ∧
    (∃ s : State, (s.fanOut 0).state = 2 ∧ bit (u8 (s.cfg.fan 0) 0) 3 = true ∧ (s.fanOut 0).pulses < 2 ∧ 4 ≤ ((countFan 0 1 s).fanOut 0).attempts ∧
      ((countFan 0 1 s).fanOut 0).stalled = true) ∧ (∃ s : State, s.phase.applied = false) ∧
    (∃ s : State, fanEnabled (s.cfg.fan 0) = true ∧ outputGoverning s 0 = (4, 500) ∧ (s.fanOut 0).target = 0) ∧
    (∃ s : State, fanEnabled (s.cfg.fan 0) = true ∧ outputGoverning s 0 = (0, 0) ∧ (s.fanOut 0).state = 2) ∧
    (∃ s : State, fanEnabled (s.cfg.fan 0) = true ∧ outputGoverning s 0 = (4, 500) ∧ (s.fanOut 0).target ≠ 0 ∧ (s.fanOut 0).state = 5) ∧
    (∃ s : State, fanEnabled (s.cfg.fan 0) = true ∧ bit (u8 (s.cfg.fan 0) 0) 3 = true ∧ (s.fanOut 0).tachLost = false) ∧
    (∃ s : State, (s.fanOut 0).state = 2 ∧ 2 ≤ (s.fanOut 0).pulses) ∧
    (∃ s : State, (s.fanOut 0).state = 2 ∧ bit (u8 (s.cfg.fan 0) 0) 3 = true ∧ (s.fanOut 0).pulses < 2 ∧ ((countFan 0 1 s).fanOut 0).attempts < 4) ∧
    (∃ s : State, (s.fanOut 0).state = 2 ∧ bit (u8 (s.cfg.fan 0) 0) 3 = true ∧ (s.fanOut 0).pulses < 2 ∧ 4 ≤ ((countFan 0 1 s).fanOut 0).attempts ∧
      ((countFan 0 1 s).fanOut 0).stalled = false) ∧
    (∃ s : State, (s.fanOut 0).state = 3) ∧ (∃ s : State, (s.fanOut 0).state = 4) ∧
    (∃ s : State, (s.fanOut 0).state = 5 ∧ bit (u8 (s.cfg.fan 0) 0) 3 = true ∧ 1000 * u16 (s.cfg.fan 0) 4 < (s.fanOut 0).duty ∧ (s.fanOut 0).tachLost = false) ∧
    (∃ s : State, groupEnabled (s.cfg.fanGroup 0) = true ∧ s.cfg.busOn (u8 (s.cfg.fanGroup 0) 0) = true ∧ sendsOwn s = true ∧
      (s.fanGroup 0).sentRod ≠ some s.cycle ∧ s.cycle % 2 ^ u8 (s.cfg.fanGroup 0) 4 ≠ 2 ^ u8 (s.cfg.fanGroup 0) 4 / 2 ∧ (s.fanGroup 0).sent = none) ∧
    (∃ s : State, groupEnabled (s.cfg.fanGroup 0) = true ∧ s.cfg.busOn (u8 (s.cfg.fanGroup 0) 0) = true ∧ sendsOwn s = true ∧
      (s.fanGroup 0).sentRod ≠ some s.cycle ∧ s.cycle % 2 ^ u8 (s.cfg.fanGroup 0) 4 ≠ 0 ∧ (s.fanGroup 0).sent = some ((s.fanGroup 0).duty / 1000 + 9)) :=
  ⟨⟨{ fan0 {} {} with clock := { serving0.clock with ticksRun := 10 ^ 12 } }, by decide⟩, ⟨fan0 { tachLost := true, good := 3 } {}, by decide⟩,
   ⟨fan0 { state := 2, attempts := 4, stalled := true } {}, by decide⟩, ⟨serving0, by decide⟩, ⟨fan0 { host := some 500 } {}, by decide⟩, ⟨fan0 { state := 2 } {}, by decide⟩,
   ⟨fan0 { state := 5, target := 1, host := some 500 } {}, by decide⟩, ⟨fan0 {} {}, by decide⟩, ⟨fan0 { state := 2, pulses := 2 } {}, by decide⟩,
   ⟨fan0 { state := 2, attempts := 3 } {}, by decide⟩, ⟨fan0 { state := 2, attempts := 4 } {}, by decide⟩, ⟨fan0 { state := 3 } {}, by decide⟩,
   ⟨fan0 { state := 4 } {}, by decide⟩, ⟨fan0 { state := 5, duty := 1 } {}, by decide⟩, ⟨fan0 {} {}, by decide⟩, ⟨fan0 {} { sent := some 9 }, by decide⟩⟩

theorem witness_fanVerbs :
    meets 0x0D01 1 (· == 4) (fun c _ => fanUnit (u8 c.pay 0) = true ∧ allZero (c.pay.drop 1) = true) ∧
    meets 0x0D02 2 (· == 4) (fun c s => u8 c.pay 0 ≤ 11 ∧ u8 c.pay 1 = 0 ∧ u16 c.pay 2 ≤ 1000 ∧ unitEnabled s (u8 c.pay 0) = true) ∧
    meets 0x0D02 2 (· == 4) (fun c s => 32 ≤ u8 c.pay 0 ∧ u8 c.pay 0 ≤ 63 ∧ u8 c.pay 1 = 0 ∧ u16 c.pay 2 = 0xFFFF ∧ unitEnabled s (u8 c.pay 0) = true) ∧
    meets 0x0D03 1 (· == 0) (fun _ _ => True) ∧
    meets 0x0D04 2 (· == 4) (fun c s => u8 c.pay 0 ≤ 11 ∧ allZero (c.pay.drop 1) = true ∧ ((s.fanOut (u8 c.pay 0)).state = 3 ∨ (s.fanOut (u8 c.pay 0)).state = 4)) ∧
    meets 0x0D05 1 (· == 4) (fun c _ => u8 c.pay 0 ≤ 11 ∧ allZero (c.pay.drop 1) = true) ∧
    meets 0x0D05 1 (· == 4) (fun c _ => 32 ≤ u8 c.pay 0 ∧ u8 c.pay 0 ≤ 63 ∧ allZero (c.pay.drop 1) = true) ∧
    meets 0x0D06 2 (· == 4) (fun c _ => u8 c.pay 0 ≤ 11 ∧ allZero (c.pay.drop 1) = true) ∧
    meets 0x0D06 2 (· == 4) (fun c _ => u8 c.pay 0 = 0xFF ∧ allZero (c.pay.drop 1) = true) :=
  ⟨meets_ask [63, 0, 0, 0] serving0 (by decide) (by decide), meets_ask ([0, 0] ++ le 2 1000) (fan0 {} {}) (by decide) (by decide),
   meets_ask [32, 0, 255, 255] (fan0 {} {}) (by decide) (by decide), meets_ask [] serving0 (by decide) trivial,
   meets_ask [0, 0, 0, 0] (fan0 { state := 3 } {}) (by decide) (by decide), meets_ask [11, 0, 0, 0] serving0 (by decide) (by decide),
   meets_ask [63, 0, 0, 0] serving0 (by decide) (by decide), meets_ask [11, 0, 0, 0] serving0 (by decide) (by decide),
   meets_ask [255, 0, 0, 0] serving0 (by decide) (by decide)⟩

/-- Channel 0 of a mode, with a positioner and a homing mode. -/
def vent0 (mode home : Byte) (c : VentChannel) : State :=
  { serving0 with
    cfg := { serving0.cfg with base := some { records := [{ type := 0x0E01, inst := 0, value := [mode, 2, 0, home] ++ zeros 60 }] } }
    vent := { serving0.vent with channels := [(0, c)] } }

theorem witness_vents :
    (∃ s : State, ventMode (s.cfg.vent 0) ≠ 1 ∧ ventMode (s.cfg.vent 0) ≠ 2) ∧
    (∃ (s : State) (l : BitVec 3), ventMode (s.cfg.vent 0) = 1 ∧ quadTransition (s.ventCh 0).lines l = .count true ∧ (s.ventCh 0).holds = false) ∧
    (∃ (s : State) (l : BitVec 3), ventMode (s.cfg.vent 0) = 1 ∧ quadTransition (s.ventCh 0).lines l = .count false ∧ (s.ventCh 0).holds = true) ∧
    (∃ (s : State) (l : BitVec 3), ventMode (s.cfg.vent 0) = 1 ∧ quadTransition (s.ventCh 0).lines l = .illegal) ∧
    (∃ (s : State) (l : BitVec 3), ventMode (s.cfg.vent 0) = 2 ∧ hallTransition (s.ventCh 0).lines l = .reference) ∧
    (∃ s : State, ventsAct s = false) ∧ (∃ s : State, ventsAct s = true ∧ ventMode (s.cfg.vent 0) = 2) ∧
    (∃ (s : State) (l : BitVec 3), ventMode (s.cfg.vent 0) = 1 ∧ ventsAct s = true ∧ l.getLsbD 2 = true ∧ bit (u8 (s.cfg.vent 0) 1) 4 = false ∧ u8 (s.cfg.vent 0) 3 = 1) ∧
    (∃ (s : State) (l : BitVec 3), ventMode (s.cfg.vent 0) = 1 ∧ ventsAct s = true ∧ l.getLsbD 2 = true ∧ bit (u8 (s.cfg.vent 0) 1) 4 = false ∧ u8 (s.cfg.vent 0) 3 = 2 ∧
      (s.ventCh 0).holds = false ∧ (s.ventCh 0).homeDone = false) ∧
    (∃ s : State, ventMode (s.cfg.vent 0) = 3 ∧ ventsAct s = true ∧ ssiFails (s.cfg.vent 0) false 0 false = true ∧ (s.ventCh 0).ssiFailed < 2) ∧
    (∃ s : State, ventMode (s.cfg.vent 0) = 3 ∧ ventsAct s = true ∧ ssiFails (s.cfg.vent 0) true 0 false = false ∧ bit (u8 (s.cfg.vent 0) 1) 2 = false) ∧
    (∃ s : State, ventMode (s.cfg.vent 0) ≠ 0 ∧ hasPositioner (s.cfg.vent 0) = true ∧ ventsAct s = true ∧ (ventGoverning (s.ventCh 0)).1 = 0) ∧
    (∃ s : State, ventMode (s.cfg.vent 0) ≠ 0 ∧ hasPositioner (s.cfg.vent 0) = true ∧ ventsAct s = true ∧ (ventGoverning (s.ventCh 0)).1 ≠ 0 ∧ (s.ventCh 0).fault = 0 ∧
      feedbackInvalid s 0 = false ∧ (s.ventCh 0).stopHold = false ∧ (s.ventCh 0).starting = true) ∧
    (∃ s : State, ventMode (s.cfg.vent 0) ≠ 0 ∧ hasPositioner (s.cfg.vent 0) = true ∧ ventsAct s = true ∧ (ventGoverning (s.ventCh 0)).1 ≠ 0 ∧ (s.ventCh 0).fault = 0 ∧
      feedbackInvalid s 0 = false ∧ (s.ventCh 0).stopHold = false ∧ (s.ventCh 0).starting = false ∧ (s.ventCh 0).run = true) ∧
    (∃ s : State, ventMode (s.cfg.vent 0) ≠ 0 ∧ hasPositioner (s.cfg.vent 0) = true ∧ ventsAct s = true ∧ (ventGoverning (s.ventCh 0)).1 ≠ 0 ∧ (s.ventCh 0).fault = 0 ∧
      feedbackInvalid s 0 = false ∧ (s.ventCh 0).stopHold = false ∧ (s.ventCh 0).starting = false ∧ (s.ventCh 0).run = false ∧ (s.ventCh 0).dir = true ∧
      errorAbove s 0 1 (u16 (s.cfg.ventLimits 0) 4) = true) :=
  ⟨⟨vent0 3 0 {}, by decide⟩, ⟨vent0 1 0 { fault := 3 }, 1#3, by decide⟩, ⟨vent0 1 0 { fault := 1 }, 2#3, by decide⟩, ⟨vent0 1 0 {}, 3#3, by decide⟩, ⟨vent0 2 0 {}, 1#3, by decide⟩,
   ⟨State.reset, by decide⟩, ⟨vent0 2 0 {}, by decide⟩, ⟨vent0 1 1 {}, 4#3, by decide⟩, ⟨vent0 1 2 {}, 4#3, by decide⟩,
   ⟨vent0 3 0 { ssiFailed := 1 }, by decide⟩, ⟨vent0 3 0 {}, by decide⟩, ⟨vent0 1 0 {}, by decide⟩, ⟨vent0 1 0 { host := some 10000, homed := true, starting := true }, by decide⟩,
   ⟨vent0 1 0 { host := some 10000, homed := true, run := true }, by decide⟩, ⟨vent0 1 0 { host := some 10000, homed := true, dir := true }, by decide⟩⟩

theorem witness_ventCorners :
    (∃ (s : State) (l : BitVec 3), ventMode (s.cfg.vent 0) = 1 ∧ ventsAct s = true ∧ l.getLsbD 2 = true ∧ u8 (s.cfg.vent 0) 3 = 3 ∧ bit (u8 (s.cfg.vent 0) 1) 4 = false ∧
      (s.ventCh 0).holds = false ∧ (s.ventCh 0).counter = BitVec.ofNat 32 (u32 (s.cfg.vent 0) 20)) ∧
    (∃ (s : State) (l : BitVec 3), ventMode (s.cfg.vent 0) = 1 ∧ ventsAct s = true ∧ l.getLsbD 2 = true ∧ u8 (s.cfg.vent 0) 3 = 3 ∧ bit (u8 (s.cfg.vent 0) 1) 4 = false ∧
      (s.ventCh 0).holds = false ∧ (s.ventCh 0).counter ≠ BitVec.ofNat 32 (u32 (s.cfg.vent 0) 20)) ∧
    (∃ s : State, ventMode (s.cfg.vent 0) ≠ 0 ∧ hasPositioner (s.cfg.vent 0) = true ∧ ventsAct s = true ∧ (ventGoverning (s.ventCh 0)).1 ≠ 0 ∧ (s.ventCh 0).fault = 0 ∧
      feedbackInvalid s 0 = false ∧ (s.ventCh 0).stopHold = false ∧ (s.ventCh 0).starting = false ∧ (s.ventCh 0).run = false ∧
      errorAbove s 0 1 (u16 (s.cfg.ventLimits 0) 4) = false ∧ errorAbove s 0 (-1) (u16 (s.cfg.ventLimits 0) 4) = false) ∧
    (∃ s : State, ventsAct s = true ∧ (s.ventCh 0).run = true ∧ (s.ventCh 0).lastUpdate ≠ s.phase.now) ∧
    (∃ s : State, ventsAct s = true ∧ (s.ventCh 0).run = true ∧ (s.ventCh 0).lastUpdate = s.phase.now) ∧
    (∃ s : State, ventsAct s = true ∧ (s.ventCh 0).run = false) :=
  ⟨⟨vent0 1 3 {}, 4#3, by decide⟩, ⟨vent0 1 3 { counter := 1#32 }, 4#3, by decide⟩, ⟨vent0 1 0 { host := some 0, homed := true }, by decide⟩,
   ⟨vent0 1 0 { run := true, lastUpdate := { cycle := 0, angle := 1 } }, by decide⟩, ⟨vent0 1 0 { run := true }, by decide⟩, ⟨vent0 1 0 {}, by decide⟩⟩

theorem witness_ventVerbs :
    meets 0x0E01 1 (· == 4) (fun c _ => u8 c.pay 0 ≤ 11 ∧ allZero ((c.pay.take 4).drop 1) = true) ∧
    meets 0x0E02 2 (· == 8) (fun c s => u8 c.pay 0 ≤ 11 ∧ u8 c.pay 1 ≤ 3 ∧ u8 c.pay 2 < 4 ∧ u8 c.pay 3 = 0 ∧ bit (u8 c.pay 2) 7 = false ∧
      ventMode (s.cfg.vent (u8 c.pay 0)) ≠ 0) ∧
    meets 0x0E02 2 (· == 8) (fun c s => u8 c.pay 0 ≤ 11 ∧ u8 c.pay 1 ≤ 3 ∧ u8 c.pay 2 % 128 < 4 ∧ u8 c.pay 3 = 0 ∧ bit (u8 c.pay 2) 7 = true ∧
      ventMode (s.cfg.vent (u8 c.pay 0)) ≠ 0) ∧
    meets 0x0E03 2 (· == 8) (fun c s => u8 c.pay 0 ≤ 11 ∧ allZero ((c.pay.take 4).drop 1) = true ∧ ventMode (s.cfg.vent (u8 c.pay 0)) ≠ 0 ∧
      ventMode (s.cfg.vent (u8 c.pay 0)) ≠ 3) ∧
    meets 0x0E04 2 (· == 4) (fun c s => u8 c.pay 0 ≤ 11 ∧ u8 c.pay 1 = 0 ∧ u16 c.pay 2 ≤ 10000 ∧ ventMode (s.cfg.vent (u8 c.pay 0)) ≠ 0 ∧
      hasPositioner (s.cfg.vent (u8 c.pay 0)) = true) ∧
    meets 0x0E04 2 (· == 4) (fun c s => u8 c.pay 0 ≤ 11 ∧ u8 c.pay 1 = 0 ∧ u16 c.pay 2 = 0xFFFF ∧ ventMode (s.cfg.vent (u8 c.pay 0)) ≠ 0 ∧
      hasPositioner (s.cfg.vent (u8 c.pay 0)) = true) ∧
    meets 0x0E05 2 (· == 4) (fun c _ => u8 c.pay 0 ≤ 11 ∧ u8 c.pay 1 = 0 ∧ u16 c.pay 2 &&& 0x0FA7 = 0) ∧
    meets 0x0E06 1 (· == 4) (fun c _ => u8 c.pay 0 ≤ 11 ∧ allZero ((c.pay.take 4).drop 1) = true) :=
  ⟨meets_ask [11, 0, 0, 0] serving0 (by decide) (by decide), meets_ask ([0, 3, 3, 0] ++ zeros 4) (vent0 1 0 {}) (by decide) (by decide),
   meets_ask ([0, 3, 131, 0] ++ zeros 4) (vent0 1 0 {}) (by decide) (by decide), meets_ask (zeros 8) (vent0 1 0 {}) (by decide) (by decide),
   meets_ask ([0, 0] ++ le 2 10000) (vent0 1 0 {}) (by decide) (by decide), meets_ask [0, 0, 255, 255] (vent0 1 0 {}) (by decide) (by decide),
   meets_ask [11, 0, 0x58, 0xF0] serving0 (by decide) (by decide), meets_ask [11, 0, 0, 0] serving0 (by decide) (by decide)⟩

/-- Sensor channel 0 enabled as a voltage, source 0 on, metering L1 on, both spares free and 256 rods into the dwell. -/
def sense0 : State :=
  { serving0 with
    cfg := { serving0.cfg with base := some { records := [{ type := 0x0F01, inst := 0, value := [2, 1] ++ zeros 22 }, { type := 0x0F02, inst := 0, value := [1] ++ zeros 3 },
      { type := 0x0F03, inst := 0, value := zeros 30 ++ [9, 0] }] } }
    phase := { serving0.phase with started := true, applied := true }
    sense := { serving0.sense with closedAny := true, dwell := { position := 0, rods := 256 } } }

def swap0 (w : ModulatorSwap) : State := { sense0 with sense := { sense0.sense with swap := some w } }

theorem witness_sense :
    (∃ s : State, converts s = true ∧ u8 (s.cfg.sense 0) 0 ≠ 0) ∧ (∃ s : State, converts s = false) ∧
    (∃ (s : State) (code : Int), conversionQuantity s (s.cfg.sense 0) code = .invalid 1) ∧
    (∃ (s : State) (code : Int) (x : Exact), conversionQuantity s (s.cfg.sense 0) code = .value x) ∧
    (∃ s : State, s.cfg.excitation 0 ≠ 0 ∧ s.phase.applied = true ∧ s.inFallow = false) ∧ (∃ s : State, s.cfg.excitation 0 = 0) ∧
    (∃ s : State, (s.meterP 0).samples.length < 256) ∧ (∃ s : State, s.sense.dwell.rods < 256) ∧
    (∃ (s : State) (a b : Nat), shadowed s = some s.sense.dwell.position ∧ s.sense.swap = none ∧ 256 ≤ s.sense.dwell.rods ∧ freeModulators s = [a, b] ∧
      s.sense.dwell.oddOwn < 3) ∧
    (∃ (s : State) (a : Nat), shadowed s = some s.sense.dwell.position ∧ s.sense.swap = none ∧ 256 ≤ s.sense.dwell.rods ∧ freeModulators s = [a] ∧
      tooMany s.sense.dwell.differ s.sense.dwell.conversions = false) ∧
    (∃ (s : State) (a b : Nat), shadowed s = some s.sense.dwell.position ∧ s.sense.swap = none ∧ 256 ≤ s.sense.dwell.rods ∧ freeModulators s = [a, b] ∧
      (tooMany s.sense.dwell.oddOwn s.sense.dwell.conversions && decide (3 ≤ s.sense.dwell.oddOwn)) = true ∧ s.sense.dwell.again = false) ∧
    (∃ (s : State) (a b : Nat), shadowed s = some s.sense.dwell.position ∧ s.sense.swap = none ∧ 256 ≤ s.sense.dwell.rods ∧ freeModulators s = [a, b] ∧
      (tooMany s.sense.dwell.oddOwn s.sense.dwell.conversions && decide (3 ≤ s.sense.dwell.oddOwn)) = true ∧ s.sense.dwell.again = true) ∧
    (∃ s : State, awaitsReference s 0 = true) ∧ (∃ s : State, awaitsReference s 0 = false) ∧ (∃ s : State, s.cfg.ctShift 0 = 0) ∧ (∃ s : State, freeModulators s = []) ∧
    (∃ (w : ModulatorSwap) (s : State), s.sense.swap = some w ∧ w.shadowed < (if w.position < 24 then 3 else 1)) ∧
    (∃ (w : ModulatorSwap) (s : State), s.sense.swap = some w ∧ (if w.position < 24 then 3 else 1) ≤ w.shadowed ∧ w.mailbox = none) ∧
    (∃ (w : ModulatorSwap) (s : State), s.sense.swap = some w ∧ (if w.position < 24 then 3 else 1) ≤ w.shadowed ∧ w.mailbox = some 2) :=
  ⟨⟨sense0, by decide⟩, ⟨State.reset, by decide⟩, ⟨sense0, -8388607, by decide⟩, ⟨sense0, 1, _, rfl⟩, ⟨sense0, by decide⟩, ⟨serving0, by decide⟩,
   ⟨sense0, by decide⟩, ⟨serving0, by decide⟩, ⟨sense0, 30, 31, by decide⟩,
   ⟨{ sense0 with sense := { sense0.sense with retired := [30] } }, 31, by decide⟩,
   ⟨{ sense0 with sense := { sense0.sense with dwell := { sense0.sense.dwell with conversions := 299, oddOwn := 3 } } }, 30, 31, by decide⟩,
   ⟨{ sense0 with sense := { sense0.sense with dwell := { sense0.sense.dwell with conversions := 299, oddOwn := 3, again := true } } }, 30, 31, by decide⟩,
   ⟨{ sense0 with cfg := { serving0.cfg with base := some { records := [{ type := 0x0F01, inst := 0, value := [2, 2, 0, 0, 0, 0, 1] ++ zeros 17 }] } },
                  sense := { sense0.sense with channels := [(1, { ended := { cycle := 0, angle := 1 } })] } }, by decide⟩, ⟨sense0, by decide⟩, ⟨sense0, by decide⟩,
   ⟨{ sense0 with sense := { sense0.sense with retired := [30, 31] } }, by decide⟩,
   ⟨_, swap0 { position := 0, cause := 1, spare := 30, shadowed := 2, mailbox := none }, rfl, by decide⟩,
   ⟨_, swap0 { position := 0, cause := 1, spare := 30, shadowed := 3, mailbox := none }, rfl, by decide, rfl⟩,
   ⟨_, swap0 { position := 24, cause := 3, spare := 30, shadowed := 1, mailbox := some 2 }, rfl, by decide, rfl⟩⟩

/-- 256 samples close the rod's metering. -/
theorem witness_meterFull : ∃ s : State, 256 ≤ (s.meterP 0).samples.length := by
  refine ⟨{ sense0 with sense := { sense0.sense with phases := [(0, { samples := List.replicate 256 (0, 0) })] } }, ?_⟩
  exact Nat.le_of_eq (List.length_replicate (n := 256) (a := ((0, 0) : Int × Int))).symm

theorem witness_senseVerbs :
    meets 0x0F01 1 (· == 4) (fun c _ => u8 c.pay 0 ≤ 23 ∧ allZero (c.pay.drop 1) = true) ∧
    meets 0x0F02 1 (· == 4) (fun c s => u8 c.pay 0 = 0 ∧ allZero (c.pay.drop 1) = true ∧ s.sense.closedAny = true) ∧
    meets 0x0F02 1 (· == 4) (fun c s => 1 ≤ u8 c.pay 0 ∧ u8 c.pay 0 ≤ 3 ∧ allZero (c.pay.drop 1) = true ∧ s.sense.closedAny = true) ∧
    meets 0x0F02 1 (· == 4) (fun c s => u8 c.pay 0 ≤ 3 ∧ allZero (c.pay.drop 1) = true ∧ s.sense.closedAny = false) ∧
    meets 0x0F03 1 (· == 4) (fun c s => 1 ≤ u8 c.pay 0 ∧ u8 c.pay 0 ≤ 3 ∧ u8 c.pay 1 ≤ 1 ∧ u16 c.pay 2 = 0 ∧ s.sense.closedAny = true) ∧
    meets 0x0F04 1 (· == 0) (fun _ _ => True) ∧
    meets 0x0F05 3 (· == 4) (fun c s => u8 c.pay 0 ≤ 29 ∧ allZero (c.pay.drop 1) = true ∧ positionOn s (u8 c.pay 0) = true ∧ freeModulators s = [30, 31] ∧
      s.sense.swap = none) ∧
    meets 0x0F06 1 (· == 0) (fun _ _ => True) ∧ meets 0x0F07 2 (· == 0) (fun _ _ => True) :=
  ⟨meets_ask [23, 0, 0, 0] serving0 (by decide) (by decide), meets_ask [0, 0, 0, 0] sense0 (by decide) (by decide), meets_ask [3, 0, 0, 0] sense0 (by decide) (by decide),
   meets_ask [3, 0, 0, 0] serving0 (by decide) (by decide), meets_ask [3, 1, 0, 0] sense0 (by decide) (by decide), meets_ask [] serving0 (by decide) trivial,
   meets_ask [27, 0, 0, 0] sense0 (by decide) (by decide), meets_ask [] serving0 (by decide) trivial, meets_ask [] serving0 (by decide) trivial⟩

/-- A panel with encoder 0 enabled, keys 0 and 1 a combination. -/
def panel0 (p : Panel) : State :=
  { serving0 with
    cfg := { serving0.cfg with base := some { records := [{ type := 0x1001, inst := 0, value := [0, 5] ++ le 2 1000 ++ [4, 4, 4, 4] ++ zeros 4 },
      { type := 0x1003, inst := 0, value := [1, 2, 0, 1] ++ zeros 4 }] } }
    panel := p }

def squareKeys : BitVec 64 := 0x0303#64

theorem witness_panel :
    (∃ (raw : BitVec 64) (s : State), bit (u8 s.cfg.panel 0) 0 = false ∧ (rectangles raw).1 ≠ 0) ∧
    (∃ (raw : BitVec 64) (s : State), raw ≠ 0 ∧ ((rectangles raw).1 = 0 ∨ bit (u8 s.cfg.panel 0) 0 = true) ∧ (rectangles raw).2 = 0) ∧
    (∃ (raw : BitVec 64) (s : State), raw.getLsbD 63 ≠ s.panel.debounced.getLsbD 63 ∧ fget 0 s.panel.counts 63 + 1 < u8 s.cfg.panel 1) ∧
    (∃ (raw : BitVec 64) (s : State), raw.getLsbD 63 ≠ s.panel.debounced.getLsbD 63 ∧ u8 s.cfg.panel 1 ≤ fget 0 s.panel.counts 63 + 1) ∧
    (∃ s : State, u8 s.cfg.panel (4 + 3) ≠ 0 ∧ (encoderPlace 1#2 + 4 - encoderPlace (encoderOf s 3).lines) % 4 = 1) ∧
    (∃ s : State, u8 s.cfg.panel (4 + 0) ≠ 0 ∧ (encoderPlace 2#2 + 4 - encoderPlace (encoderOf s 0).lines) % 4 = 3) ∧
    (∃ s : State, u8 s.cfg.panel (4 + 0) ≠ 0 ∧ (encoderPlace 3#2 + 4 - encoderPlace (encoderOf s 0).lines) % 4 = 2) ∧
    (∃ s : State, s.panel.debounced.getLsbD 63 = true ∧ s.panel.long.getLsbD 63 = false ∧ s.panel.ambiguous = false) ∧
    (∃ s : State, combinationMet s 0 = true ∧ (combination s 0).acted = false ∧ s.hif.mode ≠ .bootRom ∧ s.hif.mode ≠ .fallow) ∧
    (∃ s : State, s.hif.mode = .fallow) ∧ (∃ s : State, s.pins.inReset = false) ∧ (∃ s : State, s.pins.inReset = true) :=
  ⟨⟨squareKeys, panel0 {}, by decide⟩, ⟨1#64, panel0 {}, by decide⟩, ⟨0x8000000000000000#64, panel0 {}, by decide⟩,
   ⟨0x8000000000000000#64, panel0 { counts := [(63, 4)] }, by decide⟩, ⟨panel0 {}, by decide⟩, ⟨panel0 {}, by decide⟩, ⟨panel0 {}, by decide⟩,
   ⟨panel0 { debounced := 0x8000000000000000#64 }, by decide⟩, ⟨panel0 { debounced := 3#64, combinations := [(0, { clean := true })] }, by decide⟩,
   ⟨{ serving0 with hif := { mode := .fallow } }, rfl⟩, ⟨{ serving0 with pins := { serving0.pins with inReset := false } }, rfl⟩,
   ⟨{ serving0 with pins := { serving0.pins with inReset := true } }, rfl⟩⟩

theorem witness_panelVerbs :
    meets 0x1001 1 (· == 0) (fun _ _ => True) ∧ meets 0x1002 1 (· == 0) (fun _ _ => True) ∧
    meets 0x1003 2 (· == 4) (fun c _ => 1 ≤ u8 c.pay 0 ∧ u8 c.pay 0 ≤ 64 ∧ u8 c.pay 1 ≤ 1 ∧ u16 c.pay 2 = 0) ∧
    meets 0x1004 2 (· == 8) (fun _ s => s.hif.mode = .test) ∧ meets 0x1004 2 (· == 8) (fun _ s => s.hif.mode ≠ .test) ∧
    meets 0x1005 1 (· == 0) (fun _ _ => True) ∧ meets 0x1006 2 (· == 0) (fun _ _ => True) ∧ meets 0x1701 1 (· == 0) (fun _ _ => True) ∧
    meets 0x1702 2 (· == 4) (fun c s => u8 c.pay 0 ≤ 39 ∧ u8 c.pay 1 ≤ 2 ∧ u16 c.pay 2 = 0 ∧ (s.hif.mode = .test ∨
      s.cfg.layerNamed (ballOutput (u8 c.pay 0)) 2 = true)) ∧
    meets 0x1703 1 (· == 4) (fun c _ => claimable (u32 c.pay 0) = true) ∧
    meets 0x1704 1 (· == 4) (fun c _ => 1 ≤ u8 c.pay 2 ∧ u8 c.pay 2 ≤ 240 ∧ u8 c.pay 3 = 0 ∧ u16 c.pay 0 + u8 c.pay 2 ≤ 484) ∧
    meets 0x1705 1 (· == 0) (fun _ _ => True) :=
  ⟨meets_ask [] serving0 (by decide) trivial, meets_ask [] serving0 (by decide) trivial, meets_ask [64, 1, 0, 0] serving0 (by decide) (by decide),
   meets_ask (zeros 8) { serving0 with hif := { mode := .test } } (by decide) (by decide), meets_ask (zeros 8) serving0 (by decide) (by decide),
   meets_ask [] serving0 (by decide) trivial, meets_ask [] serving0 (by decide) trivial, meets_ask [] serving0 (by decide) trivial,
   meets_ask [39, 2, 0, 0] { serving0 with hif := { mode := .test } } (by decide) (by decide), meets_ask (le 4 (ballOutput 39)) serving0 (by decide) (by decide),
   meets_ask (le 2 244 ++ [240, 0]) serving0 (by decide) (by decide), meets_ask [] serving0 (by decide) trivial⟩

theorem witness_clock :
    (∃ s : State, s.clock.stopped = true ∧ s.clock.staged = none) ∧ (∃ s : State, s.clock.stopped = false ∧ s.clock.staged = none) ∧
    (∃ (w : ClockWrite) (s : State), s.clock.stopped = false ∧ s.clock.staged = some w) ∧ (∃ (w : ClockWrite) (s : State), s.clock.stopped = true ∧ s.clock.staged = some w) ∧
    (∃ s : State, s.clock.stopped = false ∧ s.mail.outage = none ∧ ((s.entries 0).find? fun e => e.late s.clock.ticksRun) = none) ∧
    (∃ s : State, 32767 ≤ s.clock.fraction ∧ (s.clock.seconds + 1) % 4294967296 % 16 = 0) ∧
    (∃ (w : ClockWrite) (m sec frac : Nat) (s : State), writtenCount s.clock w = some (sec, frac) ∧ w.mailbox = some m) ∧ (∃ e : EventRecord, e.code = 0x1202) ∧
    (∃ s : State, s.clock.fraction = 32767) ∧ (∃ s : State, s.clock.fraction = 32766) ∧
    (∃ (w : ClockWrite) (sec frac : Nat) (s : State), writtenCount s.clock w = some (sec, frac) ∧ w.mailbox = none ∧ w.step.isSome = true) ∧
    (∃ s : State, s.clock.bvl = false) ∧ (∃ (v : List Byte) (s : State), s.cfg.trimRecord = some v ∧ serving s = true) ∧ (∃ s : State, s.cfg.trimRecord = none) ∧
    (∃ (e : EventRecord) (es : List EventRecord) (s : State), s.recorder.intake = e :: es ∧ e.code ≠ 0x1202) :=
  ⟨⟨{ serving0 with clock := { stopped := true } }, by decide⟩, ⟨{ serving0 with clock := {} }, by decide⟩,
   ⟨{ seconds := 5, fraction := 6 }, { serving0 with clock := { staged := some { seconds := 5, fraction := 6 } } }, by decide⟩,
   ⟨{ seconds := 5, fraction := 6 }, { serving0 with clock := { stopped := true, staged := some { seconds := 5, fraction := 6 } } }, by decide⟩,
   ⟨{ serving0 with clock := {}, mail := { serving0.mail with outage := none } }, by decide⟩, ⟨{ serving0 with clock := { seconds := 4294967295, fraction := 32767 } }, by decide⟩,
   ⟨{ step := some (1, 1), mailbox := some 0 }, 0, 1, 1, { serving0 with clock := {} }, by decide⟩, ⟨{ code := 0x1202 }, rfl⟩,
   ⟨{ serving0 with clock := { fraction := 32767 } }, rfl⟩, ⟨{ serving0 with clock := { fraction := 32766 } }, rfl⟩,
   ⟨{ step := some (1, 1) }, 1, 1, { serving0 with clock := {} }, by decide⟩, ⟨{ serving0 with clock := {} }, rfl⟩,
   ⟨zeros 8, { serving0 with cfg := { serving0.cfg with base := some { records := [{ type := 0x1101, inst := 0, value := zeros 8 }] } } }, by decide⟩,
   ⟨serving0, by decide⟩, ⟨{ code := 0x0101 }, [], { serving0 with recorder := { intake := [{ code := 0x0101 }] } }, by decide⟩⟩

/-- An intake of 64 different marks. -/
def fullIntake : State := { serving0 with recorder := { intake := (List.range 64).map fun k => { code := 0x1203, params := [k] } } }

theorem witness_clockVerbs :
    meets 0x1101 1 (· == 0) (fun _ _ => True) ∧
    (∃ w, meets 0x1102 2 (· == 16) (fun c s => writeOf c s = .ok w)) ∧ meets 0x1102 2 (· == 16) (fun c s => writeOf c s = .error 9) ∧
    meets 0x1103 1 (· == 16) (fun c _ => u8 c.pay 0 = 0 ∧ allZero (slice c.pay 1 3) = true ∧ bodyCount 0 (c.pay.drop 4) = .ok (0, 32767)) ∧
    (∃ n f, meets 0x1103 1 (· == 16) (fun c _ => u8 c.pay 0 = 1 ∧ allZero (slice c.pay 1 3) = true ∧ bodyCount 1 (c.pay.drop 4) = .ok (n, f))) ∧
    meets 0x1104 2 (· == 4) (fun c _ => u16 c.pay 0 ≤ 3 ∧ u16 c.pay 2 = 0 ∧ (bit (u16 c.pay 0) 1 = true → c.owner = true)) ∧
    meets 0x1105 1 (· == 0) (fun _ _ => True) ∧ meets 0x1201 1 (· == 0) (fun _ _ => True) ∧
    meets 0x1202 1 (· == 8) (fun c _ => 1 ≤ u8 c.pay 4 ∧ u8 c.pay 4 ≤ 31 ∧ allZero (c.pay.drop 5) = true) ∧
    meets 0x1203 1 (· == 4) (fun c _ => u16 c.pay 0 ≤ 1023 ∧ 1 ≤ u8 c.pay 2 ∧ u8 c.pay 2 ≤ 31 ∧ u8 c.pay 3 = 0) ∧
    meets 0x1204 3 (· == 0) (fun _ s => s.recorder.intake.length < 64) ∧ meets 0x1204 3 (· == 0) (fun _ s => 64 ≤ s.recorder.intake.length) ∧
    meets 0x1205 2 (· == 16) (fun c s => reportResult s.recorder (recordOf s 0x1203 [u32 c.pay 0, u32 c.pay 4, u32 c.pay 8, u32 c.pay 12]) ≠ .lost) ∧
    meets 0x1205 2 (· == 16) (fun c s => reportResult s.recorder (recordOf s 0x1203 [u32 c.pay 0, u32 c.pay 4, u32 c.pay 8, u32 c.pay 12]) = .lost) ∧
    meets 0x1206 1 (· == 0) (fun _ _ => True) ∧ meets 0x1207 2 (· == 0) (fun _ _ => True) :=
  ⟨meets_ask [] serving0 (by decide) trivial,
   ⟨_, meets_ask (zeros 16) serving0 (by decide) rfl⟩, meets_ask ([0, 0, 0, 0, 255, 255, 255, 255] ++ zeros 8) serving0 (by decide) rfl,
   meets_ask ([0, 0, 0, 0, 0, 0, 0, 0, 255, 127] ++ zeros 6) serving0 (by decide) (by refine ⟨by decide, by decide, rfl⟩),
   ⟨_, _, meets_ask ([1, 0, 0, 0] ++ le 2 2024 ++ [2, 29, 23, 59, 59, 0] ++ zeros 4) serving0 (by decide) (by refine ⟨by decide, by decide, rfl⟩)⟩,
   meets_ask [3, 0, 0, 0] serving0 (by decide) (by decide), meets_ask [] serving0 (by decide) trivial, meets_ask [] serving0 (by decide) trivial,
   meets_ask ([255, 255, 255, 255, 31, 0, 0, 0]) serving0 (by decide) (by decide), meets_ask (le 2 1023 ++ [31, 0]) serving0 (by decide) (by decide),
   meets_ask [] serving0 (by decide) (by decide), meets_ask [] fullIntake (by decide) (by decide), meets_ask (zeros 16) serving0 (by decide) (by decide),
   meets_ask (le 4 99 ++ zeros 12) fullIntake (by decide) (by decide), meets_ask [] serving0 (by decide) trivial, meets_ask [] serving0 (by decide) trivial⟩

/-- CLOCK.FLAGS_CLEAR of OSF by a session that is not an owner session. -/
theorem witness_flagsTurnedAway : ∃ (c : Call) (s : State), asked s 2 0x1104 2 (· == 4) c = true ∧ u16 c.pay 0 ≤ 3 ∧ u16 c.pay 2 = 0 ∧ bit (u16 c.pay 0) 1 = true ∧ c.owner = false := by
  refine ⟨{ call 0x1104 [2, 0, 0, 0] with role := 2 }, ask (call 0x1104 [2, 0, 0, 0]) { serving0 with mail := { serving0.mail with sessions := [{ handle := 1, role := 2 }] } }, ?_⟩
  decide

/-- Bank 0 in a state, SNAP_IN on bank 0, triggers taken. -/
def snap0 (x : SnapBank) : State :=
  { serving0 with
    cfg := { serving0.cfg with base := some { records := [{ type := 0x0901, inst := 0, value := [0, 24] ++ zeros 138 }, { type := 0x9301, inst := 0, value := [4, 1, 0, 0] }] } }
    phase := { serving0.phase with started := true, state := .locked }
    snap := { serving0.snap with banks := [(0, x)], schedule := [{ bank := 1 }] } }

def trigger0 (cycle : Nat) : Delivered := { port := 0, frame := { cutFrame 8 (be 8 77 ++ be 6 cycle ++ be 2 0 ++ [3] ++ zeros 3) with dst := 0x03504C440003 } }

def snap1 (cycle : Nat) : State := { snap0 {} with ring := { serving0.ring with delivered := [trigger0 cycle] } }

theorem witness_snap :
    (∃ s : State, (s.bank 0).state = 0) ∧ (∃ s : State, (s.bank 0).state = 2 ∧ bit (u8 s.cfg.snap 1) 0 = true) ∧
    (∃ s : State, (s.bank 0).state = 1 ∧ (s.bank 0).strobe ≠ s.phase.now) ∧ (∃ s : State, (s.bank 0).state = 1 ∧ (s.bank 0).strobe = s.phase.now) ∧
    (∃ s : State, u8 s.cfg.snap 2 = 0 ∧ bit (u8 s.cfg.snap 0) 2 = true) ∧ (∃ s : State, 3 < u8 s.cfg.snap 2) ∧ (∃ s : State, earliest s.snap.schedule = none) ∧
    (∃ (x : SnapSchedule) (s : State), earliest s.snap.schedule = some x ∧ s.phase.state ≠ .acquire ∧ x.at_.cycle ≤ s.cycle ∧
      (x.at_.cycle = s.cycle ∨ s.phase.now.tu ≤ x.at_.tu + 1)) ∧
    (∃ (x : SnapSchedule) (s : State), earliest s.snap.schedule = some x ∧ s.phase.state ≠ .acquire ∧ x.at_.cycle < s.cycle ∧ x.at_.tu + 1 < s.phase.now.tu) ∧
    (∃ s : State, s.snap.outSince.tu + 256 ≤ s.phase.now.tu) ∧ (∃ s : State, s.phase.now.tu < s.snap.outSince.tu + 256) ∧
    (∃ s : State, takeDelivered 8 s = none) :=
  ⟨⟨snap0 {}, rfl⟩, ⟨snap0 { state := 2 }, by decide⟩, ⟨snap0 { state := 1, strobe := { cycle := 9, angle := 0 } }, by decide⟩, ⟨snap0 { state := 1 }, by decide⟩,
   ⟨snap0 {}, by decide⟩, ⟨serving0, by decide⟩, ⟨serving0, rfl⟩, ⟨_, snap0 {}, rfl, by decide⟩,
   ⟨_, { snap0 {} with phase := { serving0.phase with state := .locked, now := { cycle := 1, angle := 0 } } }, rfl, by decide⟩,
   ⟨{ snap0 {} with phase := { serving0.phase with now := { cycle := 0, angle := 256 } } }, by decide⟩, ⟨snap0 {}, by decide⟩, ⟨serving0, rfl⟩⟩

theorem witness_trigger : (∃ (d : Delivered) (s s1 : State), takeDelivered 8 s = some (d, s1) ∧ s1.cfg.ringFlag 3 = true ∧ sendsOwn s1 = true ∧
      u8 (d.frame.body.drop 1) 16 = 3 ∧ s1.snap.taken.contains (n64 (d.frame.body.drop 1) 0, ⟨n48 (d.frame.body.drop 1) 8, n16 (d.frame.body.drop 1) 14⟩, 3) = false ∧
      (⟨n48 (d.frame.body.drop 1) 8, n16 (d.frame.body.drop 1) 14⟩ : Instant).tu ≤ s1.phase.now.tu) ∧
    (∃ (d : Delivered) (s s1 : State), takeDelivered 8 s = some (d, s1) ∧ s1.cfg.ringFlag 3 = true ∧ sendsOwn s1 = true ∧ u8 (d.frame.body.drop 1) 16 = 3 ∧
      s1.snap.taken.contains (n64 (d.frame.body.drop 1) 0, ⟨n48 (d.frame.body.drop 1) 8, n16 (d.frame.body.drop 1) 14⟩, 3) = false ∧
      s1.phase.now.tu < (⟨n48 (d.frame.body.drop 1) 8, n16 (d.frame.body.drop 1) 14⟩ : Instant).tu ∧
      (⟨n48 (d.frame.body.drop 1) 8, n16 (d.frame.body.drop 1) 14⟩ : Instant).tu ≤ s1.phase.now.tu + 2 ^ 36 ∧ s1.snap.schedule.length < 8) ∧
    (∃ (d : Delivered) (s s1 : State), takeDelivered 8 s = some (d, s1) ∧ s1.cfg.ringFlag 3 = true ∧ sendsOwn s1 = true ∧ u8 (d.frame.body.drop 1) 16 = 3 ∧
      s1.snap.taken.contains (n64 (d.frame.body.drop 1) 0, ⟨n48 (d.frame.body.drop 1) 8, n16 (d.frame.body.drop 1) 14⟩, 3) = false ∧
      s1.phase.now.tu + 2 ^ 36 < (⟨n48 (d.frame.body.drop 1) 8, n16 (d.frame.body.drop 1) 14⟩ : Instant).tu) :=
  ⟨⟨trigger0 0, snap1 0, _, rfl, by decide⟩, ⟨trigger0 (2 ^ 20), snap1 (2 ^ 20), _, rfl, by decide⟩,
   ⟨trigger0 (2 ^ 20 + 1), snap1 (2 ^ 20 + 1), _, rfl, by decide⟩⟩

theorem witness_snapVerbs :
    meets 0x1301 1 (· == 0) (fun _ _ => True) ∧
    meets 0x1302 2 (· == 20) (fun c _ => u8 c.pay 0 ≤ 3 ∧ (u8 c.pay 1 = 0 ∨ u8 c.pay 1 = 2) ∧ u16 c.pay 2 = 0 ∧ allZero (c.pay.drop 14) = true ∧ u64 c.pay 4 = 0 ∧
      u16 c.pay 12 = 0) ∧
    meets 0x1302 2 (· == 20) (fun c s => u8 c.pay 0 ≤ 3 ∧ u8 c.pay 1 = 1 ∧ u16 c.pay 2 = 0 ∧ allZero (c.pay.drop 14) = true ∧
      (⟨u64 c.pay 4, u16 c.pay 12⟩ : Instant).tu ≤ s.phase.now.tu + 2 ^ 36 ∧ s.phase.now.tu < (⟨u64 c.pay 4, u16 c.pay 12⟩ : Instant).tu ∧ 8 ≤ s.snap.schedule.length) ∧
    meets 0x1302 2 (· == 20) (fun c s => u8 c.pay 0 ≤ 3 ∧ (u8 c.pay 1 = 1 ∨ u8 c.pay 1 = 3) ∧ u16 c.pay 2 = 0 ∧ allZero (c.pay.drop 14) = true ∧
      (⟨u64 c.pay 4, u16 c.pay 12⟩ : Instant).tu ≤ s.phase.now.tu + 2 ^ 36 ∧ s.phase.now.tu < (⟨u64 c.pay 4, u16 c.pay 12⟩ : Instant).tu ∧ s.snap.schedule.length < 8) ∧
    meets 0x1302 2 (· == 20) (fun c s => u8 c.pay 0 ≤ 3 ∧ u8 c.pay 1 = 1 ∧ u16 c.pay 2 = 0 ∧ allZero (c.pay.drop 14) = true ∧
      (⟨u64 c.pay 4, u16 c.pay 12⟩ : Instant).tu ≤ s.phase.now.tu) ∧
    meets 0x1303 1 (· == 12) (fun c s => bankSize (u8 c.pay 1) = some 48 ∧ u8 c.pay 0 ≤ 3 ∧ u16 c.pay 2 = 0 ∧ u16 c.pay 10 = 0 ∧ 1 ≤ u16 c.pay 8 ∧ u16 c.pay 8 ≤ 992 ∧
      (s.bank (u8 c.pay 0)).state = 2) ∧
    meets 0x1303 1 (· == 12) (fun c s => (bankSize (u8 c.pay 1)).isSome = true ∧ u8 c.pay 0 ≤ 3 ∧ u16 c.pay 2 = 0 ∧ u16 c.pay 10 = 0 ∧ 1 ≤ u16 c.pay 8 ∧ u16 c.pay 8 ≤ 992 ∧
      (s.bank (u8 c.pay 0)).state ≠ 2) ∧
    meets 0x1304 2 (· == 4) (fun c _ => u8 c.pay 0 ≤ 15 ∧ allZero (c.pay.drop 1) = true) :=
  ⟨meets_ask [] serving0 (by decide) trivial, meets_ask ([3, 2] ++ zeros 18) serving0 (by decide) (by decide),
   meets_ask ([3, 1, 0, 0] ++ le 8 (2 ^ 20) ++ zeros 8) { serving0 with snap := { serving0.snap with schedule := List.replicate 8 {} } } (by decide) (by decide),
   meets_ask ([3, 3, 0, 0] ++ le 8 (2 ^ 20) ++ zeros 8) serving0 (by decide) (by decide), meets_ask ([3, 1] ++ zeros 18) serving0 (by decide) (by decide),
   meets_ask ([0, 16] ++ zeros 6 ++ le 2 992 ++ zeros 2) (snap0 { state := 2 }) (by decide) (by decide),
   meets_ask ([3, 1] ++ zeros 6 ++ le 2 992 ++ zeros 2) serving0 (by decide) (by decide), meets_ask [15, 0, 0, 0] serving0 (by decide) (by decide)⟩

/-- A state in a mode whose ledger has a counted failure behind it. -/
def start0 (m : Mode) : State :=
  { serving0 with
    hif := { serving0.hif with mode := m }
    abacus := { serving0.abacus with running := true }
    start := { serving0.start with ledger := { serving0.start.ledger with count := 3, attempts := [{ cause := 9 }] }, fwA := { state := .written }, leaving := m == .test, fallowReason := 1, reason := some {} } }

/-- A state in start mode whose pair has run for exactly one second since hand-over. -/
def passing0 : State :=
  let x := start0 .start
  { x with start := { x.start with rodRun := true, handTicks := 0 }, super := { x.super with single := false, mismatchTicks := 0 }, clock := { x.clock with ticksRun := 32768 } }

theorem witness_start :
    (∃ s : State, s.pins.inReset = true) ∧ (∃ s : State, s.pins.inReset = false) ∧
    (∃ (p : BitVec 3) (s : State), s.hif.mode = .bootRom ∧ s.pins.inReset = false ∧ (bootCores p { s with start := { s.start with loaded := some s.start.ledger.map } }).super.cores ≠ []) ∧
    (∃ l : Ledger, l.count % 2 = 0) ∧ (∃ l : Ledger, l.count % 2 = 1 ∧ l.confirmed = none) ∧ (∃ (l : Ledger) (q : Nat × Nat), l.count % 2 = 1 ∧ l.confirmed = some q) ∧
    (∃ (slot : Nat) (s : State), (s.cfgSlot slot).state = .empty) ∧
    (∃ (slot : Nat) (s : State) (x : ImageSlot) (o : Outcome) (im : BaseImage), x = s.cfgSlot slot ∧ x.state ≠ .empty ∧ x.state ≠ .partly ∧ validateImage s x = (o, im) ∧ (o.step = 1 ∨ 4 ≤ o.step)) ∧
    (∃ (a : Attempt) (rest : List Attempt) (s : State), s.start.ledger.attempts = a :: rest ∧ failureFallow s 3 = some 1) ∧
    (∃ (a : Attempt) (rest : List Attempt) (s : State), s.start.ledger.attempts = a :: rest ∧ failureFallow s 2 = none) ∧
    (∃ (s : State) (c : Nat), s.hif.mode = .start ∧ s.panel.request ≠ some 2 ∧ s.start.fallowAt = some (c, 2)) ∧
    (∃ s : State, s.hif.mode = .start ∧ s.cfg.hostConfirm = false ∧ checksPass s = true ∧ s.hif.supPause = false) ∧
    (∃ s : State, s.super.single = false ∧ checksPass s = true ∧ s.msSince (max s.start.handTicks s.super.mismatchTicks) = 1000) ∧
    (∃ s : State, s.super.single = true) ∧ (∃ s : State, checksPass s = false) ∧
    (∃ s : State, s.hif.mode = .start ∧ 60000 = s.msSince s.start.handTicks) ∧ (∃ s : State, s.hif.mode = .bootRom ∧ s.pins.inReset = false) ∧
    (∃ s : State, s.hif.mode = .running ∧ s.hif.supPause = false) ∧ (∃ s : State, s.hif.mode = .fallow) ∧
    (∃ s : State, s.hif.supPause = true ∧ s.super.state = 2 ∧ s.super.pauseRods = 16 ∧ attempting s = false) ∧
    (∃ s : State, s.super.pauseRods = 15) ∧ (∃ s : State, s.start.leaving = false) ∧ (∃ s : State, s.start.leaving = true ∧ s.inFallow = true ∧ (s.entries 0).any (fun e => e.req.hdr.code == 0x1405 && !e.placed) = false) :=
  ⟨⟨{ serving0 with pins := { serving0.pins with inReset := true } }, rfl⟩, ⟨serving0, rfl⟩, ⟨3#3, State.reset, by decide⟩, ⟨{}, rfl⟩, ⟨{ count := 255 }, by decide⟩, ⟨{ count := 1, confirmed := some (1, 1) }, _, rfl, rfl⟩,
   ⟨1, serving0, rfl⟩, ⟨0, serving0.setCfgSlot 0 { state := .written }, _, _, _, rfl, by decide, by decide, rfl, by decide⟩, ⟨_, _, start0 .start, rfl, by decide⟩, ⟨_, _, start0 .start, rfl, by decide⟩,
   ⟨{ start0 .start with start := { (start0 .start).start with fallowAt := some (9, 2) } }, 9, by decide⟩, ⟨passing0, by decide⟩, ⟨passing0, by decide⟩,
   ⟨{ passing0 with super := { passing0.super with single := true } }, rfl⟩, ⟨serving0, by decide⟩,
   ⟨{ start0 .start with clock := { serving0.clock with ticksRun := 60 * 32768 } }, by decide⟩, ⟨State.reset, by decide⟩, ⟨serving0, by decide⟩, ⟨start0 .fallow, rfl⟩,
   ⟨{ serving0 with hif := { serving0.hif with supPause := true }, super := { serving0.super with state := 2, pauseRods := 16 } }, by decide⟩,
   ⟨{ serving0 with super := { serving0.super with pauseRods := 15 } }, rfl⟩, ⟨serving0, rfl⟩, ⟨start0 .test, by decide⟩⟩

theorem witness_startVerbs :
    meets 0x1401 2 (· == 0) (fun _ s => s.hif.mode = .start) ∧ meets 0x1401 2 (· == 0) (fun _ s => s.hif.mode ≠ .start) ∧ meets 0x1402 0 (· == 0) (fun _ _ => True) ∧
    meets 0x1403 1 (· == 0) (fun _ s => s.start.reason = some {}) ∧ meets 0x1403 1 (· == 0) (fun _ s => s.start.reason = none) ∧
    meets 0x1404 0 openLength (fun c _ => u8 c.pay 0 = 0 ∧ u8 c.pay 1 ≤ 17 ∧ u16 c.pay 2 = 0) ∧
    meets 0x1405 3 (· == 0) (fun _ s => s.hif.mode = .fallow ∨ s.hif.mode = .test) ∧
    meets 0x1405 3 (· == 0) (fun _ s => s.hif.mode ≠ .fallow ∧ s.hif.mode ≠ .test) ∧
    meets 0x1406 3 (· == 0) (fun _ s => s.hif.mode = .start ∨ s.hif.mode = .running) ∧ meets 0x1406 3 (· == 0) (fun _ s => s.hif.mode ≠ .start ∧ s.hif.mode ≠ .running) ∧
    meets 0x1407 3 (· == 4) (fun c s => u8 c.pay 0 ≤ 1 ∧ u8 c.pay 1 ≤ 1 ∧ u16 c.pay 2 = 0 ∧ ((s.fwSlot (u8 c.pay 0)).state = .empty ∨ (s.cfgSlot (u8 c.pay 1)).state = .empty)) :=
  ⟨meets_ask [] (start0 .start) (by decide) rfl, meets_ask [] serving0 (by decide) (by decide), meets_ask [] serving0 (by decide) trivial, meets_ask [] (start0 .fallow) (by decide) rfl, meets_ask [] serving0 (by decide) rfl,
   meets_ask [0, 17, 0, 0] serving0 (by decide) (by decide), meets_ask [] (start0 .fallow) (by decide) (by decide), meets_ask [] serving0 (by decide) (by decide), meets_ask [] (start0 .start) (by decide) (by decide),
   meets_ask [] (start0 .fallow) (by decide) (by decide), meets_ask [1, 1, 0, 0] serving0 (by decide) (by decide)⟩

theorem witness_startSettings :
    meets 0x1407 3 (· == 4) (fun c s => u8 c.pay 0 ≤ 1 ∧ u8 c.pay 1 ≤ 1 ∧ u16 c.pay 2 = 0 ∧ (s.fwSlot (u8 c.pay 0)).state ≠ .empty ∧ (s.cfgSlot (u8 c.pay 1)).state ≠ .empty) ∧
    meets 0x1408 3 (· == 4) (fun c _ => 2 ≤ u8 c.pay 0 ∧ u8 c.pay 0 ≤ 7 ∧ allZero (slice c.pay 1 3) = true) ∧ meets 0x1408 3 (· == 4) (fun c _ => u8 c.pay 0 < 2 ∨ 7 < u8 c.pay 0) ∧
    meets 0x1409 3 (· == 4) (fun c s => u8 c.pay 0 = 1 ∧ allZero (slice c.pay 1 3) = true ∧ s.hif.mode = .fallow) ∧
    meets 0x1409 3 (· == 4) (fun c s => u8 c.pay 0 = 0 ∧ allZero (slice c.pay 1 3) = true ∧ s.hif.mode = .test) ∧
    meets 0x1409 3 (· == 4) (fun c s => allZero (slice c.pay 1 3) = true ∧ ((u8 c.pay 0 = 1 ∧ s.hif.mode ≠ .fallow) ∨ (u8 c.pay 0 = 0 ∧ s.hif.mode ≠ .test))) ∧
    meets 0x140A 3 (· == 12) (fun c s => u16 c.pay 10 = 0 ∧ (List.range 40).any (fun n => (u64 c.pay 0 + 2 ^ 64 * u16 c.pay 8) / 4 ^ n % 4 == 3) = false ∧
      (s.hif.mode = .start ∨ s.hif.mode = .running)) ∧
    meets 0x140A 3 (· == 12) (fun c s => u16 c.pay 10 = 0 ∧ (List.range 40).any (fun n => (u64 c.pay 0 + 2 ^ 64 * u16 c.pay 8) / 4 ^ n % 4 == 3) = false ∧
      (s.hif.mode = .fallow ∨ s.hif.mode = .test)) ∧
    meets 0x140A 3 (· == 12) (fun c _ => (List.range 40).any (fun n => (u64 c.pay 0 + 2 ^ 64 * u16 c.pay 8) / 4 ^ n % 4 == 3) = true) :=
  ⟨meets_ask [0, 1, 0, 0] ((start0 .running).setCfgSlot 1 { state := .written }) (by decide) (by decide), meets_ask [7, 0, 0, 0] serving0 (by decide) (by decide), meets_ask [8, 0, 0, 0] serving0 (by decide) (by decide),
   meets_ask [1, 0, 0, 0] (start0 .fallow) (by decide) (by decide), meets_ask [0, 0, 0, 0] (start0 .test) (by decide) (by decide), meets_ask [0, 0, 0, 0] serving0 (by decide) (by decide),
   meets_ask (zeros 9 ++ [128, 0, 0]) serving0 (by decide) (by decide), meets_ask ([2] ++ zeros 11) (start0 .fallow) (by decide) (by decide),
   meets_ask (zeros 9 ++ [0xC0, 0, 0]) serving0 (by decide) (by decide)⟩

/-- The worked example of chapter 21: reason 1, last cause 09, count 03. -/
theorem test_fallow_display : displayDigits (start0 .fallow) = [0x71, 0x06, 0x3F, 0x6F, 0, 0, 0x3F, 0x4F] := by decide

/-- A pair under test, and the supervisor paused for it. -/
def spare0 (cores : List Nat) (testing : Bool) : State :=
  { serving0 with
    hif := { serving0.hif with supPause := true }
    super := { serving0.super with state := 2, cores := cores, testing := testing } }

theorem witness_cores :
    (∃ s : State, s.super.cores.length = 1) ∧ (∃ s : State, s.super.cores.length = 2 ∧ s.hif.supPause = false ∧ s.super.state ≠ 5) ∧
    (∃ s : State, s.super.state = 2 ∧ s.super.testing = true ∧ s.super.cores = [0, 1] ∧ freeSpare s 1 = some 2) ∧
    (∃ s : State, s.super.state = 2 ∧ s.super.testing = true ∧ s.super.cores = [0, 2] ∧ freeSpare s 1 = none) ∧
    (∃ s : State, s.super.watchdog = false ∧ ((s.super.transients.filter fun r => decide (s.cycle < r + 16777216)) ++ [s.cycle]).length = 2) ∧ (∃ s : State, s.super.watchdog = true) ∧
    (∃ s : State, s.super.state = 2 ∧ s.super.testing = false ∧ s.super.cores ≠ [] ∧ s.super.retiring = none) ∧
    (∃ (w : Substitution) (s : State), s.super.state = 2 ∧ s.super.testing = false ∧ s.super.cores ≠ [] ∧ s.super.retiring = some w ∧ w.request = none) :=
  ⟨⟨spare0 [1] false, rfl⟩, ⟨{ serving0 with super := { serving0.super with state := 0 } }, by decide⟩, ⟨spare0 [0, 1] true, by decide⟩,
   ⟨(spare0 [0, 2] true).setUnit 1 2 { state := 1 }, by decide⟩, ⟨{ serving0 with super := { serving0.super with transients := [0] } }, by decide⟩,
   ⟨{ serving0 with super := { serving0.super with watchdog := true } }, rfl⟩, ⟨spare0 [0, 1] false, by decide⟩,
   ⟨{ kind := 1, unit := 1, cause := 2 }, { spare0 [0, 1] false with super := { state := 2, retiring := some { kind := 1, unit := 1, cause := 2 } } }, by decide⟩⟩

theorem witness_wear :
    (∃ s : State, monitored s 1 2 = false) ∧ (∃ s : State, monitored s 4 31 = true) ∧
    (∃ (wear : Nat) (s t : State), monitored s 1 1 = true ∧ 10000 ≤ wear ∧ t = s.setUnit 1 1 { s.unit 1 1 with w := min 65535 wear, worn := 1 } ∧ unitState (raiseWorn 1 1 1 t) 1 1 = 1) ∧
    (∃ s : State, monitored s 3 2047 = true) ∧ (∃ s : State, monitored s 2 (63 * 65536 + 1023) = true) ∧ (∃ s : State, (s.unit 8 89).worn < 1) ∧
    (∃ s : State, spareFor s 2 0 = some 1024 ∧ swapCalled s 2 0 = false) ∧ (∃ s : State, spareFor s 1 0 = none ∧ swapCalled s 1 0 = false) ∧
    (∃ s : State, (s.spare.copying.find? fun c => c.1.kind == 2 && c.1.unit == 0) = none) ∧
    (∃ (c : Substitution × Nat) (s : State), (s.spare.copying.find? fun c => c.1.kind == 2 && c.1.unit == 0) = some c ∧ c.1.request = none) ∧
    (∃ s : State, freeSpare s 7 = some 1 ∧ s.spare.waiting = []) ∧ (∃ s : State, freeSpare s 7 = none ∧ s.spare.waiting = []) ∧
    (∃ s : State, (s.spare.seconds + 1) % 86400 = 0 ∧ s.pins.inReset = false) ∧
    (∃ (w : Substitution) (s : State), s.spare.waiting = [] ∧ s.spare.finished = [(w, 8, 7)] ∧ w.request = some 5) :=
  ⟨⟨serving0, by decide⟩, ⟨serving0.setUnit 4 31 { state := 1 }, by decide⟩, ⟨65536, serving0, _, by decide, by decide, rfl, by decide⟩, ⟨serving0, by decide⟩, ⟨serving0, by decide⟩, ⟨serving0, by decide⟩,
   ⟨serving0, by decide⟩, ⟨serving0.setUnit 1 2 { state := 3 }, by decide⟩, ⟨serving0, rfl⟩,
   ⟨_, { serving0 with spare := { serving0.spare with copying := [({ kind := 2, unit := 0 }, 1024)] } }, rfl, rfl⟩, ⟨serving0, by decide⟩, ⟨serving0.setUnit 7 1 { state := 3 }, by decide⟩,
   ⟨{ serving0 with spare := { serving0.spare with seconds := 86399 } }, by decide⟩,
   ⟨{ kind := 5, unit := 0, request := some 5 }, { serving0 with spare := { serving0.spare with finished := [({ kind := 5, unit := 0, request := some 5 }, 8, 7)] } }, rfl, rfl, rfl⟩⟩

theorem witness_spareVerbs :
    meets 0x1501 1 (· == 0) (fun _ _ => True) ∧ meets 0x1502 1 (· == 4) (fun c _ => 1 ≤ u8 c.pay 2 ∧ u8 c.pay 2 ≤ 31 ∧ u8 c.pay 3 = 0) ∧
    meets 0x1503 1 (· == 8) (fun c _ => 1 ≤ u8 c.pay 0 ∧ u8 c.pay 0 ≤ 8 ∧ u8 c.pay 1 = 0 ∧ 1 ≤ u8 c.pay 2 ∧ u8 c.pay 2 ≤ 62 ∧ u8 c.pay 3 = 0 ∧ unitExists (u8 c.pay 0) (u32 c.pay 4) = true) ∧
    meets 0x1504 1 (· == 0) (fun _ _ => True) ∧
    meets 0x1505 3 (· == 8) (fun c s => (u8 c.pay 0 = 1 ∨ u8 c.pay 0 = 5 ∨ u8 c.pay 0 = 7 ∨ u8 c.pay 0 = 8) ∧ allZero (slice c.pay 1 3) = true ∧
      unitExists (u8 c.pay 0) (u32 c.pay 4) = true ∧ unitState s (u8 c.pay 0) (u32 c.pay 4) = 1 ∧ (spareFor s (u8 c.pay 0) (u32 c.pay 4)).isSome = true ∧
      kindBusy s (u8 c.pay 0) = false ∧ s.mail.deferred.length < 16) ∧
    meets 0x1505 3 (· == 8) (fun c s => (u8 c.pay 0 = 1 ∨ u8 c.pay 0 = 5 ∨ u8 c.pay 0 = 7 ∨ u8 c.pay 0 = 8) ∧ allZero (slice c.pay 1 3) = true ∧
      unitExists (u8 c.pay 0) (u32 c.pay 4) = true ∧ unitState s (u8 c.pay 0) (u32 c.pay 4) = 1 ∧ spareFor s (u8 c.pay 0) (u32 c.pay 4) = none) ∧
    meets 0x1505 3 (· == 8) (fun c _ => u8 c.pay 0 ≠ 1 ∧ u8 c.pay 0 ≠ 5 ∧ u8 c.pay 0 ≠ 7 ∧ u8 c.pay 0 ≠ 8) :=
  ⟨meets_ask [] serving0 (by decide) trivial, meets_ask [0, 0, 31, 0] serving0 (by decide) (by decide), meets_ask [8, 0, 62, 0, 89, 0, 0, 0] serving0 (by decide) (by decide), meets_ask [] serving0 (by decide) trivial,
   meets_ask [8, 0, 0, 0, 88, 0, 0, 0] serving0 (by decide) (by decide), meets_ask [1, 0, 0, 0, 1, 0, 0, 0] (serving0.setUnit 1 2 { state := 3 }) (by decide) (by decide),
   meets_ask [2, 0, 0, 0, 0, 0, 0, 0] serving0 (by decide) (by decide)⟩

/-- A claimed part that has an owner key and a report, and is attesting. -/
def sec0 : State :=
  { serving0.setTokenSlot 0 { set := true, ceiling := 3, key := [1] } with
    sec := { claimed := true, tokens := [(0, { set := true, ceiling := 3, key := [1] })], attesting := some { job := 9 }, report := some { session := 1, bytes := zeros 1001 } } }

theorem asked_of {code role : Nat} {lenOk : Nat → Bool} {c : Call} {s : State} (h1 : serving s = true) (h2 : c.req.hdr.code = code)
    (h3 : waitingEntry s c.mbx = some { req := c.req }) (h4 : entryCheck s c.mbx c.req role lenOk = .ok c.role) (h5 : turn s c.mbx { req := c.req } = true) : asked s c.mbx code role lenOk c = true := by
  unfold asked; rw [h1, h2, h3, h4]; simp [h5]
theorem relinquish_asked (pay : List Byte) (h : pay.length = 8) : asked (ask (call 0x1609 pay) serving0) 2 0x1609 3 (· == 8) (call 0x1609 pay) = true :=
  asked_of (c := call 0x1609 pay) rfl rfl rfl (by unfold entryCheck; simp [call, h, ask, roleOf, findSession, serving0, State.setEntries, modeServes, classOnMailbox, forbiddenFlags]) rfl
theorem part_asked (pay : List Byte) (h : pay.length = 1004) : asked (ask (call 0x1601 pay) serving0) 2 0x1601 0 openLength (call 0x1601 pay) = true :=
  asked_of (c := call 0x1601 pay) rfl rfl rfl (by unfold entryCheck; simp [call, h, ask, roleOf, findSession, serving0, State.setEntries, modeServes, classOnMailbox, forbiddenFlags, openLength]) rfl
theorem u64_le (n : Nat) (h : n < 2 ^ 64) : u64 (le 8 n) 0 = n := by
  simp [u64, le, u32, u16, u8]
  omega
theorem certificate_length : certificate.length = 7920 := by
  simp [certificate, le, identityKey, zeros]
theorem not_own : meets 0x1609 3 (· == 8) (fun c _ => u64 c.pay 0 ≠ ownUid) := by
  refine meets_ask (le 8 ((ownUid + 1) % 2 ^ 64)) serving0 (relinquish_asked _ rfl) ?_
  have h := u64_le _ (Nat.mod_lt (ownUid + 1) (show 0 < 2 ^ 64 by omega))
  show u64 (le 8 _) 0 ≠ ownUid
  rw [h]; omega
theorem part_length : ([1, 0, 0, 0] ++ zeros 1000).length = 1004 := by rw [List.length_append, zeros, List.length_replicate]; rfl
/-- A first part of 1,000 bytes. -/
theorem witness_part : meets 0x1601 0 openLength (fun c s => u8 c.pay 0 = 1 ∧ u8 c.pay 1 = 0 ∧ u16 c.pay 2 = 0 ∧ c.pay.length = 1004 ∧ s.mail.tokens.length < 4) :=
  meets_ask ([1, 0, 0, 0] ++ zeros 1000) serving0 (part_asked _ part_length) ⟨rfl, rfl, rfl, part_length, by decide⟩
/-- A part state: a requester whose buffer holds some parts. -/
def parts0 (n : Nat) : State := { serving0 with mail := { serving0.mail with tokens := [{ parts := n }] } }
theorem later_asked (pay : List Byte) (n : Nat) (h1 : 4 ≤ pay.length) (h2 : pay.length ≤ 1004) : asked (ask (call 0x1601 pay) (parts0 n)) 2 0x1601 0 openLength (call 0x1601 pay) = true :=
  asked_of (c := call 0x1601 pay) rfl rfl rfl (by unfold entryCheck; simp [call, h1, h2, ask, roleOf, findSession, parts0, serving0, State.setEntries, modeServes, classOnMailbox, forbiddenFlags, openLength]; omega) rfl
theorem middle_length (k : Byte) : ([1, k, 0, 0] ++ zeros 1000).length = 1004 := by rw [List.length_append, zeros, List.length_replicate]; rfl
theorem final_length : ([1, 17, 0, 0] ++ zeros 216).length = 220 := by rw [List.length_append, zeros, List.length_replicate]; rfl
/-- Part 16 after sixteen parts, part 1 after one, and the final part. -/
theorem witness_laterParts :
    (∃ b, meets 0x1601 0 openLength (fun c s => u8 c.pay 0 = 1 ∧ u8 c.pay 1 = 16 ∧ u16 c.pay 2 = 0 ∧ c.pay.length = 1004 ∧
      (s.mail.tokens.find? fun b => decide (b.who = c.req.who)) = some b ∧ b.parts = u8 c.pay 1)) ∧
    (∃ b, meets 0x1601 0 openLength (fun c s => u8 c.pay 0 = 1 ∧ u8 c.pay 1 = 1 ∧ u16 c.pay 2 = 0 ∧ c.pay.length = 1004 ∧
      (s.mail.tokens.find? fun b => decide (b.who = c.req.who)) = some b ∧ b.parts = u8 c.pay 1)) ∧
    (∃ b, meets 0x1601 0 openLength (fun c s => u8 c.pay 0 = 1 ∧ u8 c.pay 1 = 17 ∧ u16 c.pay 2 = 0 ∧ c.pay.length = 220 ∧
      (s.mail.tokens.find? fun b => decide (b.who = c.req.who)) = some b ∧ b.parts = 17)) :=
  ⟨⟨{ parts := 16 }, meets_ask ([1, 16, 0, 0] ++ zeros 1000) (parts0 16) (later_asked _ _ (by rw [middle_length] <;> omega) (by rw [middle_length] <;> omega)) ⟨rfl, rfl, rfl, middle_length 16, rfl, rfl⟩⟩,
   ⟨{ parts := 1 }, meets_ask ([1, 1, 0, 0] ++ zeros 1000) (parts0 1) (later_asked _ _ (by rw [middle_length] <;> omega) (by rw [middle_length] <;> omega)) ⟨rfl, rfl, rfl, middle_length 1, rfl, rfl⟩⟩,
   ⟨{ parts := 17 }, meets_ask ([1, 17, 0, 0] ++ zeros 216) (parts0 17) (later_asked _ _ (by rw [final_length] <;> omega) (by rw [final_length] <;> omega)) ⟨rfl, rfl, rfl, final_length, rfl, rfl⟩⟩⟩
/-- The last part of the certificate. -/
theorem witness_certificate : meets 0x1605 0 (· == 4) (fun c _ => u8 c.pay 0 = 1 ∧ u16 c.pay 2 = 0 ∧ 1000 * u8 c.pay 1 < certificate.length) :=
  meets_ask [1, 7, 0, 0] serving0 (by decide) (by rw [certificate_length]; decide)

theorem witness_secVerbs :
    meets 0x1601 0 openLength (fun c _ => u8 c.pay 0 = 0 ∧ u8 c.pay 1 ≤ 17 ∧ u16 c.pay 2 = 0) ∧
    meets 0x1601 0 openLength (fun c s => u8 c.pay 0 = 1 ∧ u8 c.pay 1 = 0 ∧ u16 c.pay 2 = 0 ∧ 4 ≤ s.mail.tokens.length ∧ (s.mail.tokens.find? fun b => decide (b.who = c.req.who)) = none) ∧
    meets 0x1601 0 openLength (fun c _ => 1 < u8 c.pay 0 ∨ 17 < u8 c.pay 1 ∨ u16 c.pay 2 ≠ 0) ∧
    meets 0x1602 1 (· == 0) (fun _ _ => True) ∧ meets 0x1603 0 (· == 0) (fun _ _ => True) ∧
    meets 0x1604 1 (· == 32) (fun _ s => s.sec.attesting = none ∧ s.mail.deferred.length < 16) ∧ meets 0x1604 1 (· == 32) (fun _ s => s.sec.attesting.isSome = true) ∧
    meets 0x1604 1 (· == 32) (fun _ s => s.sec.attesting = none ∧ 16 ≤ s.mail.deferred.length) ∧
    meets 0x1605 0 (· == 4) (fun c s => u8 c.pay 0 = 2 ∧ u16 c.pay 2 = 0 ∧ s.sec.report = none) ∧
    meets 0x1606 1 (· == 0) (fun _ _ => True) ∧ meets 0x1608 1 (· == 0) (fun _ _ => True) ∧
    meets 0x1609 3 (· == 8) (fun c _ => u64 c.pay 0 = ownUid) ∧ meets 0x1609 3 (· == 8) (fun c _ => u64 c.pay 0 ≠ ownUid) :=
  ⟨meets_ask [0, 17, 0, 0] serving0 (by decide) (by decide),
   meets_ask [1, 0, 0, 0] { serving0 with mail := { serving0.mail with tokens := [{ who := .net 1 }, { who := .net 2 }, { who := .net 3 }, { who := .net 4 }] } } (by decide) (by decide),
   meets_ask [1, 18, 0, 0] serving0 (by decide) (by decide), meets_ask [] serving0 (by decide) trivial, meets_ask [] serving0 (by decide) trivial,
   meets_ask (zeros 32) serving0 (by decide) (by decide), meets_ask (zeros 32) sec0 (by decide) rfl,
   meets_ask (zeros 32) { serving0 with mail := { serving0.mail with deferred := List.replicate 16 {} } } (by decide) (by decide),
   meets_ask [2, 0, 0, 0] serving0 (by decide) (by decide), meets_ask [] serving0 (by decide) trivial, meets_ask [] serving0 (by decide) trivial,
   meets_ask (le 8 ownUid) serving0 (relinquish_asked _ rfl) (u64_le _ Config.nodeUid.isLt), not_own⟩

theorem witness_secKeys :
    meets 0x1607 3 (· == 36) (fun c s => u8 c.pay 0 = 1 ∧ u8 c.pay 1 ≤ 7 ∧ u8 c.pay 2 = 1 ∧ 1 ≤ u8 c.pay 3 ∧ u8 c.pay 3 ≤ 3 ∧ allZero (c.pay.drop 4) = false ∧
      (lastOwnerKey s (u8 c.pay 1) = false ∨ u8 c.pay 3 = 3)) ∧
    meets 0x1607 3 (· == 36) (fun c s => u8 c.pay 0 = 1 ∧ u8 c.pay 1 ≤ 7 ∧ u8 c.pay 2 = 0 ∧ lastOwnerKey s (u8 c.pay 1) = false) ∧
    meets 0x1607 3 (· == 36) (fun c _ => u8 c.pay 0 = 2 ∧ u8 c.pay 1 ≤ 1 ∧ u8 c.pay 2 = 1 ∧ allZero (c.pay.drop 4) = false) ∧
    meets 0x1607 3 (· == 36) (fun c s => u8 c.pay 0 = 2 ∧ u8 c.pay 1 ≤ 1 ∧ u8 c.pay 2 = 0 ∧ (s.cfg.base.any fun b => b.key == u8 c.pay 1) = false) ∧
    meets 0x1607 3 (· == 36) (fun c s => u8 c.pay 0 = 1 ∧ u8 c.pay 1 ≤ 7 ∧ u8 c.pay 2 = 0 ∧ lastOwnerKey s (u8 c.pay 1) = true) :=
  ⟨meets_ask ([1, 0, 1, 3, 7] ++ zeros 31) sec0 (by decide) (by decide), meets_ask ([1, 7, 0, 0] ++ zeros 32) sec0 (by decide) (by decide),
   meets_ask ([2, 1, 1, 0, 7] ++ zeros 31) serving0 (by decide) (by decide), meets_ask ([2, 1, 0, 0] ++ zeros 32) serving0 (by decide) (by decide), meets_ask ([1, 0, 0, 0] ++ zeros 32) sec0 (by decide) (by decide)⟩

theorem witness_secStates :
    (∃ s : State, s.sec.attesting = none) ∧ (∃ (r : Request) (t : List Byte) (s : State), challengeMet s r.who (slice t 20 16) = false) ∧
    meets 0x1605 0 (· == 4) (fun c s => u8 c.pay 0 = 2 ∧ u16 c.pay 2 = 0 ∧ (∃ r, s.sec.report = some r ∧ r.session = c.session ∧ 1000 * u8 c.pay 1 < r.bytes.length)) ∧
    meets 0x1605 0 (· == 4) (fun c s => u8 c.pay 0 = 2 ∧ u16 c.pay 2 = 0 ∧ (∃ r, s.sec.report = some r ∧ r.session ≠ c.session)) ∧ (∃ (a : Attesting) (s : State), s.sec.attesting = some a) ∧ (∃ (f : RunningFw) (s : State), s.start.running = some f) :=
  ⟨⟨serving0, rfl⟩, ⟨{}, [], serving0, rfl⟩, meets_ask [2, 1, 0, 0] sec0 (by decide) ⟨rfl, rfl, { session := 1, bytes := zeros 1001 }, rfl, rfl, by show 1000 * 1 < (zeros 1001).length; rw [zeros, List.length_replicate]; omega⟩,
   meets_ask [2, 0, 0, 0] { sec0 with sec := { sec0.sec with report := some { session := 2 } } } (by decide) ⟨rfl, rfl, { session := 2 }, rfl, by decide⟩,
   ⟨_, sec0, rfl⟩, ⟨{ floor := 5 }, { serving0 with start := { serving0.start with running := some { floor := 5 } } }, rfl⟩⟩

theorem witness_lostDoorbell : (∃ s : State, s.hif.reqFree.getLsbD 14 = false ∧ s.hif.lost.getLsbD 14 = false) ∧
    (∃ s : State, s.hif.reqFree.getLsbD 0 = false ∧ s.hif.lost.getLsbD 0 = true) :=
  ⟨⟨serving0, by decide⟩, ⟨{ serving0 with hif := { serving0.hif with lost := 1#16 } }, by decide⟩⟩

theorem witness_saturated :
    (∃ (r : Recorder) (e x : EventRecord), e.repeats = 1 ∧ (if r.intake = [] then newestWritten r else r.intake.getLast?) = some x ∧ mergeable e x = true ∧ x.repeats = 65535 ∧ r.intake.length = 63) ∧
    (∃ (r : Recorder) (e x : EventRecord), e.repeats = 1 ∧ (if r.intake = [] then newestWritten r else r.intake.getLast?) = some x ∧ mergeable e x = true ∧ x.repeats = 65534 ∧ r.intake ≠ []) :=
  ⟨⟨{ intake := List.replicate 63 { repeats := 65535 } }, { repeats := 1 }, { repeats := 65535 }, rfl, by decide⟩,
   ⟨{ intake := [{ repeats := 65534 }] }, { repeats := 1 }, { repeats := 65534 }, rfl, by decide⟩⟩

/-! ## Worked examples of the spec -/

/-- Chapter 8, Bay 17's heating-demand loop: the program record's 64 bytes. -/
def heatingProgram : List Byte :=
  [5, 0, 0, 0, 0x03, 0x01, 0xA0, 0x00, 0x01, 0, 0, 0, 0, 0, 0, 0, 0x04, 0x01, 0xA1, 0xA0, 0x60, 0, 0, 0, 0, 0, 0, 0,
   0x10, 0x01, 0x20, 0xA0, 0x61, 0x62, 0, 0, 0, 0, 0, 0, 0x02, 0x01, 0xA2, 0xA1, 0x20, 0, 0, 0, 0, 0, 0, 0,
   0x0C, 0x01, 0x10, 0xA2, 0x62, 0x63, 0x01, 0x01, 0, 0, 0, 0]

/-- Its registers in a sample: set-point 21.5 °C, measurement 20.25 °C, and ST0 as given. -/
def heatingSample (st0 : Word) : List Word × Nat × Option Nat :=
  runStages (stagesOf heatingProgram) 0
    (registerFile [0x56000005, 0x51000005] [] [st0] [0x400000FF, 0x400000F7, 0x00000080, 0x40000001] 0, 0, none)

theorem test_heating_cost : sampleCost heatingProgram = 51 := by decide

theorem test_heating_first_sample :
    [0xA0, 0xA1, 0x20, 0xA2, 0x10].map (reg (heatingSample 0x40000000).1) = [0x50000001, 0x500000FF, 0x40280000, 0x68280000, 0x34140001] ∧
    (heatingSample 0x40000000).2 = (0, none) := by decide

theorem test_heating_wind :
    [0x20, 0xA2, 0x10].map (reg (heatingSample 0x7FF00000).1) = [0x40000001, 0x54000001, 0x40000001] ∧
    mergeFlags 0 (heatingSample 0x7FF00000).2.1 (heatingSample 0x7FF00000).2.2 = 0x0288 := by decide

/-- Chapter 19: 2031-03-29T02:00:00.5 is second 985,831,200, and 2031-02-29 is no date (INVALID_DATE). -/
theorem test_calendar_count : (bodyCount 1 (le 2 2031 ++ [3, 29, 2, 0, 0, 0] ++ le 2 16384 ++ [0, 0])).toOption = some (985831200, 16384) := by decide
theorem test_calendar_no_date : bodyCount 1 (le 2 2031 ++ [2, 29, 2, 0, 0, 0] ++ le 2 0 ++ [0, 0]) = .error 9 := rfl
theorem test_calendar_weekday : (calendarOf 985831200).weekday = 6 := by decide
theorem test_second_carries : tickedCount 985831200 32767 = (985831201, 0) := by decide

/-- Chapter 22: the eight stage processors in a hot cabinet, of 126,230 equivalent hours, last 10,230 days at the mission profile's rate. -/
def hotCabinet : State :=
  { ((serving0.setUnit 5 3 { w := 4800 }).setUnit 5 6 { w := 4400 }) with
    spare := { ((serving0.setUnit 5 3 { w := 4800 }).setUnit 5 6 { w := 4400 }).spare with
      eqMicros := 126230 * 3600000000 } }
theorem test_hot_cabinet : kindDays hotCabinet 5 = 10230 := by decide

/-- Chapter 24: GPO_12 is the 13th general output of R689, at ball resource 0x0146. -/
theorem test_output_resource : ballOutput 12 = 0x0146 := by decide

end Sys2Proof.Tests
end

section
/-! PROOFS. The family 00_scope: every command answers but one (R3, R41), and requests over the network (R60 to R62, R365, R366). -/

namespace Sys2Proof.Machine

/-! ## Every command answers, but a bulk write during a copy -/

theorem answers_iff {o : Host.Outcome State Fault Refusal} : answers o = true ↔ ∃ t, o = .next t := by
  cases o <;> simp [answers]

/-- A meaning that depends on a condition answers where both of its branches do. -/
theorem answers_ite {p : Prop} [Decidable p] {a b : Host.Outcome State Fault Refusal} (ha : answers a = true) (hb : answers b = true) :
    answers (if p then a else b) = true := by
  split <;> assumption

/-- Every command but HOST_WINDOW_WRITE answers. The commands are taken together by the shape of their meaning; all that no arm names have a next state outright. -/
theorem exec_answers {c : Instr} (hc : ∀ head bytes, c ≠ .hostWindowWrite head bytes) (s : State) : answers (exec c s) = true := by
  cases c with
  | hostWindowWrite head bytes => exact absurd rfl (hc head bytes)
  -- one condition
  | mailboxBindingExpiry | requesterExpiry | warmRestartEnd | flywheelTimeout | acquireTimeout | masterElection | countSeed | mainPass | clockTick
  | clockWriteApply | vbatCheck | oscillatorStop | loopSample | recomputation | offerPublish | cutMarkSend | commonsFrameSend | refreshQueue | commonsCut
  | busOffRecovery | referencePending | referenceCancel | canIntegrated | rollCall | claimWindowEnd | fanSlewUpdate | tachPulse | retryWaitEnd | coolDownEnd
  | tachLossTimeout | hostSilence | fanGroupUpdate | canTransmitError | valveStuck | gateTransition | linkUp | linkDown | serdesIdle | ptpSyncReceived
  | ptpSyncTimeout | announceSend | pdelaySend | supervisionSend | cycleMarkSend | resetCombination | longPress | conversionEnd | meterSample | eccCorrection
  | uncorrectableError | pllLossOfLock | lockstepMismatch | ageingSample | speedTimeout | moveTimeout | maxRunTimeout | extensionUpdate | fallowBeacon
  | harloporConfirm | confirmDeadline | supervisorRestartDeadline | leaveRestart | supplyFail | railMonitor | readbackCheck | snapInEdge
  | snapshotCopyComplete | snapOutEnd => exact answers_ite rfl rfl
  -- one condition after another
  | referencePeriodStart | kickAttemptEnd | arbitrationLost | excitationCompliance | wearMeasurement | bootSequence | rodBoundary =>
    exact answers_ite rfl (answers_ite rfl rfl)
  | oscillatorRestart => exact answers_ite (answers_ite rfl rfl) rfl
  | zeroCrossing => exact answers_ite rfl (answers_ite (answers_ite rfl rfl) rfl)
  | ssiRead => exact answers_ite rfl (answers_ite (answers_ite rfl rfl) rfl)
  | indexEvent => exact answers_ite rfl (answers_ite rfl (answers_ite rfl rfl))
  | frameReceived => exact answers_ite rfl (answers_ite rfl (answers_ite rfl (answers_ite rfl (answers_ite rfl rfl))))
  | positionerEvaluation =>
    exact answers_ite rfl (answers_ite rfl (answers_ite rfl (answers_ite (answers_ite rfl rfl) (answers_ite rfl rfl))))
  -- something looked for, found or not
  | bulkCopyComplete | firmwarePauseEnd | sampleComplete | cfpClaim | cfpRsp | segmentTimeout | valveEventStart | attestationComplete | rowRemap
  | recordWrite =>
    simp only [exec, execBulkCopyComplete, execFirmwarePauseEnd, execSampleComplete, execCfpClaim, execCfpRsp, execSegmentTimeout, execValveEventStart,
      execAttestationComplete, execRowRemap, execRecordWrite]
    split <;> rfl
  -- something looked for, and a condition on what is found
  | sessionExpiry | measureOffsetComplete | provisionalCheck | leaseConfirmDeadline | loanRenewalCheck | heatFallback | spareSwitchOver | cfpAssign
  | cfpTimeout | valvePeakReached | valvePeakEnd | valveDropEnd | valveHoldEnd | valveDecayEnd | valveOpen | valveShort | valveOvercurrent | valveDecay
  | valveBankOvercurrent | valveGroundShort | supervisionReturnTimeout =>
    simp only [exec, execSessionExpiry, execMeasureOffsetComplete, execProvisionalCheck, execLeaseConfirmDeadline, execLoanRenewalCheck, execHeatFallback,
      execSpareSwitchOver, execCfpAssign, execCfpTimeout, execValvePeakReached, execValvePeakEnd, execValveDropEnd, execValveHoldEnd, execValveDecayEnd,
      execValveOpen, execValveShort, execValveOvercurrent, execValveDecay, execValveBankOvercurrent, execValveGroundShort, execSupervisionReturnTimeout]
    split
    · rfl
    · exact answers_ite rfl rfl
  -- conditions and searches inside one another
  | mailboxRequestFrame | fwVerificationComplete | configValidationComplete | referenceCrossingMissing | cycleMark | chainHorizon | pulseReturn | calendarArm
  | trimCompensation | borrowReceived | grantReceived | refuseReceived | borrowTimeout | returnReceived | sampleStart | resultApply | awaitGiveUp
  | spareEngineRotate | spareIntegrated | leakInjectionToggle | transactionSend | cfpRpt | cfpAnnounce | canReceiveError | canFrameReceived | canFrameSent
  | cfpSegment | valveDeferExpiry | dutyInstant | beadFire | frameTransmit | dwellEnd | modulatorReplacement | selfTestComplete | swapResume | encoderUpdate
  | startWatchdogExpiry | scheduledStrobe | snapshotTriggerFrame =>
    simp only [exec, execMailboxRequestFrame, execFwVerificationComplete, execConfigValidationComplete, execReferenceCrossingMissing, execCycleMark,
      execChainHorizon, execPulseReturn, execCalendarArm, execTrimCompensation, execBorrowReceived, execGrantReceived, execRefuseReceived, execBorrowTimeout,
      execReturnReceived, execSampleStart, execResultApply, execAwaitGiveUp, execSpareEngineRotate, execSpareIntegrated, execLeakInjectionToggle,
      execTransactionSend, execCfpRpt, execCfpAnnounce, execCanReceiveError, execCanFrameReceived, execCanFrameSent, execCfpSegment, execValveDeferExpiry,
      execDutyInstant, execBeadFire, execFrameTransmit, execDwellEnd, execModulatorReplacement, execSelfTestComplete, execSwapResume, execEncoderUpdate,
      execStartWatchdogExpiry, execScheduledStrobe, execSnapshotTriggerFrame]
    (repeat' split) <;> rfl
  | _ => rfl

/-- HOST_WINDOW_WRITE stops the block only where it touches the bulk window during a copy (R41). -/
theorem exec_hostWindowWrite_answers_or_stops (head : HostHead) (bytes : List Byte) (s : State) :
    answers (exec (.hostWindowWrite head bytes) s) = true ∨
    (s.hif.copying.isSome = true ∧ touchesBulk head.addr bytes.length = true ∧ exec (.hostWindowWrite head bytes) s = .fault .outsideManual) := by
  simp only [exec, execHostWindowWrite]
  split
  · exact .inl rfl
  · split
    · exact .inl rfl
    · split
      · next hbulk =>
        obtain ⟨hcopy, htouch⟩ := Bool.and_eq_true_iff.1 hbulk
        exact .inr ⟨hcopy, htouch, rfl⟩
      · exact .inl rfl

/-- Settles O2, by a case split over the commands: of all their branches one stops the block, and it is HOST_WINDOW_WRITE's. -/
theorem everyCommandAnswersButOne : Obligations.EveryCommandAnswersButOne := by
  intro c s
  by_cases hc : ∃ head bytes, c = .hostWindowWrite head bytes
  · obtain ⟨head, bytes, rfl⟩ := hc
    obtain hnext | ⟨hcopy, htouch, hstop⟩ := exec_hostWindowWrite_answers_or_stops head bytes s
    · exact .inl (answers_iff.1 hnext)
    · exact .inr ⟨head, bytes, rfl, hcopy, htouch, hstop⟩
  · exact .inl (answers_iff.1 (exec_answers (fun head bytes h => hc ⟨head, bytes, h⟩) s))

/-! ## Requests over the network -/

/-- The request that an accepted mailbox frame carries (R8, R60, R61). -/
def frameRequest (s : State) (d : Delivered) (msg : List Byte) : Request :=
  let tag := d.frame.vlan.getD (u16 s.cfg.ring 4, u8 s.cfg.ring 6)
  { hdr := Header.ofBytes msg, payload := (msg.drop 16).take (min (Header.ofBytes msg).length 1008), who := .net d.frame.src
    port := d.port, vid := tag.1, pcp := tag.2, seq := u8 d.frame.body 2, message := msg, frameReserved := u8 d.frame.body 1 / 16 }

/-- A source becomes one of the requesters (R366). -/
def addRequester (x : NetRequester) (s : State) : State := { s with mail := { s.mail with requesters := s.mail.requesters ++ [x] } }

/-- What an accepted frame to an open mailbox leads to, by its source: a requester, one that becomes a requester, or a stranger beyond the sixteen. -/
theorem exec_mailboxRequestFrame_accepted {s s1 : State} {d : Delivered} {msg : List Byte} {m : Nat} (ht : takeDelivered 0x05 s = some (d, s1))
    (ha : mailboxFrameAllowed s1 d = true) (hf : frameMessage d.frame = some msg) (hm : u8 d.frame.body 1 % 16 = m) (h15 : m < 15)
    (ho : mailboxOpen s1 m = true) :
    exec .mailboxRequestFrame s = .next (
      if isRequester s1 d.frame.src = true then networkRequest m (u8 d.frame.body 2) msg (frameRequest s1 d msg) d.frame.src s1
      else if s1.mail.requesters.length < 16 then
        networkRequest m (u8 d.frame.body 2) msg (frameRequest s1 d msg) d.frame.src
          (addRequester { mac := d.frame.src, port := d.port, vid := (frameRequest s1 d msg).vid } s1)
      else if m = 0 then submit 0 (frameRequest s1 d msg) s1
      else refuseRequester d.frame.src m (answerStranger m (frameRequest s1 d msg) d.frame.src (noteRequest s1))) := by
  have hopen : ¬(m ≥ 15 ∨ mailboxOpen s1 m = false) := by simp [h15, ho]
  simp only [exec, execMailboxRequestFrame, ht, ha, hf, hm, if_neg hopen]
  (repeat' split) <;> rfl

theorem exec_mailboxRequestFrame_discarded {s s1 : State} {d : Delivered} (ht : takeDelivered 0x05 s = some (d, s1))
    (h : mailboxFrameAllowed s1 d = false ∨ frameMessage d.frame = none ∨ 15 ≤ u8 d.frame.body 1 % 16 ∨
      mailboxOpen s1 (u8 d.frame.body 1 % 16) = false) :
    exec .mailboxRequestFrame s = .next (s1.countPort d.port 8) := by
  simp only [exec, execMailboxRequestFrame, ht]
  split
  · next msg ha hf => rw [if_pos (by simpa [ha, hf] using h)]
  · rfl

section
variable {m seq : Nat} {msg x : List Byte} {r : Request} {mac : Nat} {s : State} {k : Kept}

/-- The first request of a requester on a mailbox. -/
theorem networkRequest_first (h : (s.mail.kept.find? fun k => k.mac == mac && k.mailbox == m) = none) :
    networkRequest m seq msg r mac s =
      submit m r { s with mail := { s.mail with kept := s.mail.kept ++ [{ mac := mac, mailbox := m, seq := seq, message := msg }] } } := by
  simp only [networkRequest, h]

/-- A request that is no repetition of the last one. -/
theorem networkRequest_another (h : (s.mail.kept.find? fun k => k.mac == mac && k.mailbox == m) = some k)
    (hn : k.seq ≠ seq ∨ k.message ≠ msg) :
    networkRequest m seq msg r mac s = submit m r { s with mail := { s.mail with
      kept := s.mail.kept.map fun x => if x.mac = mac ∧ x.mailbox = m then { x with seq := seq, message := msg, response := none } else x } } := by
  have hnot : ¬(k.seq = seq ∧ k.message = msg) := fun ⟨hseq, hmsg⟩ => hn.elim (fun hs => hs hseq) (fun hm => hm hmsg)
  simp only [networkRequest, h, if_neg hnot]

/-- A repetition whose response is kept (R62). -/
theorem networkRequest_answered (h : (s.mail.kept.find? fun k => k.mac == mac && k.mailbox == m) = some k) (hs : k.seq = seq)
    (hm : k.message = msg) (hr : k.response = some x) :
    networkRequest m seq msg r mac s = sendOrHold mac r.vid r.pcp (le 1 m ++ le 1 seq ++ be 2 x.length ++ x) (noteRequest s) := by
  simp only [networkRequest, h, hs, hm, hr, and_self, if_true]

/-- A repetition of a request that has no response yet (R62). -/
theorem networkRequest_unanswered (h : (s.mail.kept.find? fun k => k.mac == mac && k.mailbox == m) = some k) (hs : k.seq = seq)
    (hm : k.message = msg) (hr : k.response = none) : networkRequest m seq msg r mac s = noteRequest s := by
  simp only [networkRequest, h, hs, hm, hr, and_self, if_true]

end

theorem sendOrHold_of_pause {mac vid pcp : Nat} {body : List Byte} {s : State} (h : s.hif.supPause = true) :
    sendOrHold mac vid pcp body s =
      { s with mail := { s.mail with heldResponses := s.mail.heldResponses ++ [{ mac := mac, vid := vid, pcp := pcp, body := body }] } } :=
  if_pos h

theorem sendOrHold_of_no_pause {mac vid pcp : Nat} {body : List Byte} {s : State} (h : s.hif.supPause = false) :
    sendOrHold mac vid pcp body s = sendMailbox raise mac vid pcp 0x06 body s :=
  if_neg (by simp [h])

/-- Settles O15, by the source of the frame and, for a requester, by what is kept of its last request. -/
theorem networkRequestsAreSubmitted : Obligations.NetworkRequestsAreSubmitted := by
  refine ⟨?_, fun s s1 d ht h => exec_mailboxRequestFrame_discarded ht h,
    fun mac vid pcp body s => ⟨sendOrHold_of_pause, sendOrHold_of_no_pause⟩, fun m mac r s t ht => ⟨_, rfl, by subst ht; rfl⟩⟩
  intro s s1 d msg m ht ha hf hm h15 ho
  have accepted := exec_mailboxRequestFrame_accepted ht ha hf hm.symm h15 ho
  refine ⟨frameRequest s1 d msg, rfl, rfl, rfl, rfl, rfl, rfl, rfl, rfl, ?first, ?another, ?newcomer, ?answered, ?unanswered, ?mailbox0, ?stranger⟩
  case first =>
    intro hr hk
    rw [accepted, if_pos hr, networkRequest_first hk]
  case another =>
    intro k hr hk hn
    rw [accepted, if_pos hr, networkRequest_another hk hn]
  case newcomer =>
    intro hr hl hk
    rw [accepted, hr, if_neg Bool.false_ne_true, if_pos hl, networkRequest_first (s := addRequester _ s1) hk]
    rfl
  case answered =>
    intro k x hr hk hseq hmsg hx
    rw [accepted, if_pos hr, networkRequest_answered hk hseq hmsg hx]
  case unanswered =>
    intro k hr hk hseq hmsg hx
    rw [accepted, if_pos hr, networkRequest_unanswered hk hseq hmsg hx]
  case mailbox0 =>
    intro hr hl h0
    rw [accepted, hr, if_neg Bool.false_ne_true, if_neg (Nat.not_lt.2 hl), if_pos h0]
  case stranger =>
    intro hr hl h0
    rw [accepted, hr, if_neg Bool.false_ne_true, if_neg (Nat.not_lt.2 hl), if_neg h0]

end Sys2Proof.Machine
end

section
/-! PROOFS. The family 01_architecture: the rod boundary and its sequence (R19, R133 to R135), and the ends of a bulk copy, of a firmware change and of a warm restart (R30, R58, R80, R81). -/

namespace Sys2Proof.Machine

/-! ## The rod boundary (R19, R119) -/

section
variable {ticks vref bandgap : Nat} {s : State}

theorem exec_rodBoundary_of_inReset (h : s.pins.inReset = true) : exec (.rodBoundary ticks vref bandgap) s = .next s :=
  if_pos h

/-- Before the timebase has first left ACQUIRE only the angle turns (R118, R119). -/
theorem exec_rodBoundary_of_acquire (h : s.pins.inReset = false) (hl : s.phase.left = false) :
    exec (.rodBoundary ticks vref bandgap) s = .next (acquireTurn s) :=
  (if_neg (by simp [h])).trans (if_pos hl)

/-- A boundary once the timebase has left ACQUIRE: the sequence of R19 in the rod just numbered, a supervisor pause counted only where it stood before and after it, and then the substitutions, the requests and the cores (log 45). -/
theorem exec_rodBoundary_of_left (h : s.pins.inReset = false) (hl : s.phase.left = true) {s1 s2 s3 : State}
    (h1 : s1 = stepRods (if s.phase.started then (s.phase.now.cycle + 1) % 2 ^ 48 else 0) (phaseBoundary s))
    (h2 : s2 = boundarySequence s.phase.now.cycle s.phase.started (s.phase.started && s.abacus.running) ticks vref bandgap s1)
    (h3 : s3 = if s2.hif.supPause = true ∧ s.hif.supPause = true then { s2 with super := { s2.super with pauseRods := s2.super.pauseRods + 1 } }
      else s2) :
    exec (.rodBoundary ticks vref bandgap) s = .next (coreBoundary (requestsBoundary (substitutionBoundary s3))) := by
  simp only [exec, execRodBoundary, h, hl, Bool.false_eq_true, Bool.true_eq_false, if_false, State.cycle, ← h1, ← h2, h3]

end

/-- A boundary notes the frequency of the rod that ends, where a reference is measured (R239, log 20), and then numbers the rod. -/
theorem phaseBoundary_eq (s : State) :
    phaseBoundary s = boundaryCounters (boundaryRotation (boundaryInput 2 (boundaryInput 1 (boundaryInput 0 (boundaryCycle { s with
      phase := { s.phase with
        rodFrequency := if s.phase.state = .locked ∨ s.phase.state = .slew then some (inputFreq (s.input s.tracked)) else none } }))))) := by
  cases h : s.phase.state with
  | locked | slew => simp [phaseBoundary, State.freq, h]
  | flywheel | acquire | nominal => simp [phaseBoundary, h]

/-- The steps of R19 in their order: the network, the configuration and the firmware, the metering, the accounts, the leases and loans, the abacus and the engine. -/
theorem boundarySequence_eq {rod ticks vref bandgap : Nat} {begun closing : Bool} {s s2 s3 : State}
    (h2 : s2 = applyFirmware (configurationBoundary (viewBoundary (ptpBoundary (gatesBoundary s)))))
    (h3 : s3 = if begun then closeMeters rod ticks s2 else s2) :
    boundarySequence rod begun closing ticks vref bandgap s =
      republish (engineBoundary (abacusBoundary s.cfg (loanBoundary (leaseBoundary (dwellRod
        (checkVref vref bandgap (if closing then closeAccounts (s3.cycle - 1) s3 else s3))))))) := by
  simp only [boundarySequence, ← h2, ← h3]

/-! ## The number of a rod (R133 to R135) -/

section
variable {s : State} {n c : Nat}

/-- The number that a rod carries where no count is planned for it (log 46); PHASE.CYCLE_STEP names it as the old count (log 20). -/
def expectedCycle (s : State) : Nat := if s.phase.started then (s.phase.now.cycle + 1) % 2 ^ 48 else 0

theorem boundaryCycle_of_no_step (h : s.phase.step = none) :
    boundaryCycle s = { s with phase := { s.phase with started := true, now := ⟨expectedCycle s, 0⟩ } } := by
  simp only [boundaryCycle, h]; rfl

theorem boundaryCycle_of_step (h : s.phase.step = some (n, c)) {old new : Nat} (hold : old = expectedCycle s)
    (hnew : new = if c = 0 then countSeed s else n) :
    boundaryCycle s = raise 0x0309 [low32 old, low32 new, c] { s with phase := { s.phase with
      started := true, now := ⟨new, 0⟩, step := none, countValid := s.phase.countValid || decide (c = 0) || decide (c = 1), behindRods := 0
      heard := s.phase.heard.map fun h => { h with cycle := h.cycle + new - old } } } := by
  subst hold hnew
  simp only [boundaryCycle, h]; rfl

end

/-- Settles O19, by the branches of ROD_BOUNDARY and, for the rod's number, by whether a rod has started and a count is planned. -/
theorem rodBoundaryRunsItsSequence : Obligations.RodBoundaryRunsItsSequence := by
  refine ⟨?reset, ?acquire, ?running, ?phase, ?sequence, ?first, ?later, ?step⟩
  case reset => exact fun _ _ _ _ => exec_rodBoundary_of_inReset
  case acquire => exact fun _ _ _ _ => exec_rodBoundary_of_acquire
  case running => exact fun _ _ _ _ h hl => ⟨_, _, _, rfl, rfl, rfl, exec_rodBoundary_of_left h hl rfl rfl rfl⟩
  case phase => exact fun s => ⟨_, rfl, phaseBoundary_eq s⟩
  case sequence => exact fun _ _ _ _ _ _ _ => ⟨_, _, rfl, rfl, boundarySequence_eq rfl rfl⟩
  case first =>
    intro s hs h
    rw [boundaryCycle_of_no_step h, expectedCycle, hs, if_neg Bool.false_ne_true]
  case later =>
    intro s hs h
    rw [boundaryCycle_of_no_step h, expectedCycle, if_pos hs]
  case step => exact fun _ _ _ _ _ h => boundaryCycle_of_step h

/-! ## The end of a bulk copy (R58) -/

section
variable {s : State} {k : BulkCopy} {c : Claim}

/-- What the host interface shows when a copy has ended. -/
def endCopy (k : BulkCopy) (h : Hif) : Hif :=
  { h with copying := none, nextOffset := k.offset + k.length, cause := h.cause ||| 0x08#7 }

theorem exec_bulkCopyComplete_staging (hk : s.hif.copying = some k) (hc : s.hif.claim = some c) (ht : 3 ≤ c.target) :
    exec .bulkCopyComplete s = .next { s with hif := endCopy k { s.hif with
      claim := some { c with data := c.data.take k.offset ++ readBytes s.window bulkWindow k.length } } } := by
  have h1 : c.target ≠ 1 := by omega
  have h2 : c.target ≠ 2 := by omega
  simp only [exec, execBulkCopyComplete, hk, hc, if_neg h1, if_neg h2]; rfl

theorem exec_bulkCopyComplete_firmware (hk : s.hif.copying = some k) (hc : s.hif.claim = some c) (ht : c.target = 1) {t : State}
    (h : t = s.setFwSlot c.slot (extendSlot (s.fwSlot c.slot) k.offset c.total (readBytes s.window bulkWindow k.length))) :
    exec .bulkCopyComplete s = .next { t with hif := endCopy k s.hif } := by
  subst h
  simp only [exec, execBulkCopyComplete, hk, hc, if_pos ht, State.setFwSlot_hif, endCopy]

theorem exec_bulkCopyComplete_configuration (hk : s.hif.copying = some k) (hc : s.hif.claim = some c) (ht : c.target = 2) {t : State}
    (h : t = s.setCfgSlot c.slot (extendSlot (s.cfgSlot c.slot) k.offset c.total (readBytes s.window bulkWindow k.length))) :
    exec .bulkCopyComplete s = .next { t with hif := endCopy k s.hif } := by
  subst h
  have h1 : c.target ≠ 1 := by omega
  simp only [exec, execBulkCopyComplete, hk, hc, if_neg h1, if_pos ht, State.setCfgSlot_hif, endCopy]

end

/-- A firmware slot is written in the start block alone. -/
theorem State.setFwSlot_frame (s : State) (i : Nat) (x : ImageSlot) : s.setFwSlot i x = { s with start := (s.setFwSlot i x).start } := by
  unfold State.setFwSlot; split <;> rfl

/-- A configuration slot is written in the configuration alone. -/
theorem State.setCfgSlot_frame (s : State) (i : Nat) (x : ImageSlot) : s.setCfgSlot i x = { s with cfg := (s.setCfgSlot i x).cfg } := by
  unfold State.setCfgSlot; split <;> rfl

/-! ## The end of a firmware verification (R80, R667, R683) -/

/-- The command that a firmware verification belongs to. -/
def activation (s : State) : Option Deferred := s.mail.deferred.find? fun d => d.code == 0x010A && d.final.isNone

theorem completeFw_of_activation {a : Answer} {d : Deferred} {s : State} (h : activation s = some d) : completeFw a s = complete d.job a s := by
  unfold activation at h
  simp only [completeFw, h]

section
variable {s : State} {d : Deferred}

/-- The state that R667 judges a slot in: the rollback counters stand as they did when the verification began (R683). -/
def atVerificationStart (s : State) : State :=
  { s with super := { s.super with fwVerifying := false }, sec := { s.sec with fwCounter := s.super.fwCounters.1, keyCounter := s.super.fwCounters.2 } }

theorem exec_fwVerificationComplete_outside_running (hv : s.super.fwVerifying = true) (hm : s.hif.mode ≠ .running) :
    exec .fwVerificationComplete s = .next (completeFw (bad 8) { s with super := { s.super with fwVerifying := false } }) :=
  (if_neg (by simp [hv])).trans (if_pos hm)

theorem exec_fwVerificationComplete_bad (hv : s.super.fwVerifying = true) (hm : s.hif.mode = .running)
    (h : (verifyFirmware (atVerificationStart s) s.inactiveFw).step ≠ 0) :
    exec .fwVerificationComplete s = .next (completeFw (bad (fwStatus (verifyFirmware (atVerificationStart s) s.inactiveFw).step))
      { s with super := { s.super with fwVerifying := false } }) :=
  (if_neg (by simp [hv])).trans ((if_neg (by simp [hm])).trans (if_pos h))

theorem exec_fwVerificationComplete_good (hv : s.super.fwVerifying = true) (hm : s.hif.mode = .running)
    (h : (verifyFirmware (atVerificationStart s) s.inactiveFw).step = 0) (hd : activation s = some d) :
    exec .fwVerificationComplete s = .next { s with super := { s.super with
      fwVerifying := false, fwStaged := some ((verifyFirmware (atVerificationStart s) s.inactiveFw).fw, d.job) } } := by
  unfold activation at hd
  refine (if_neg (by simp [hv])).trans ((if_neg (by simp [hm])).trans ((if_neg fun hn => hn h).trans ?_))
  simp only [hd]; rfl

end

/-! ## The end of a supervisor pause (R30, R80, R81) -/

theorem exec_firmwarePauseEnd_of_change {s : State} {old job : Nat} (h : s.super.fwChange = some (old, job)) :
    exec .firmwarePauseEnd s = .next (endPause (complete job (ok (le 4 (runningVersion s) ++ cycle64 s.phase.now.cycle))
      (raise 0x0106 [old, runningVersion s, low32 s.phase.now.cycle] { s with super := { s.super with fwChange := none } }))) := by
  simp only [exec, execFirmwarePauseEnd, h]; rfl

theorem exec_warmRestartEnd_of_warm {s : State} (h : s.super.state = 4) :
    exec .warmRestartEnd s = .next (endLate (endPause { s with hif := { s.hif with reqFree := s.hif.reqFree ||| 0x7FFE#16 } })) :=
  if_neg fun hn => hn h

/-- The state in which serving begins again after a pause, with nothing sent yet. -/
def resumed (s : State) : State :=
  { s with
    hif := { s.hif with supPause := false }
    super := { s.super with
      state := if s.super.single then 1 else 0, pauseRods := 0
      swapEnd := if s.super.state = 2 then some s.clock.ticksRun else s.super.swapEnd }
    mail := { s.mail with heldResponses := [] } }

/-- What goes out at the end of a pause leaves aside all that answers and events leave aside. -/
theorem endPause_aside_resumed (s : State) : Aside ⟨resumed s, False, False⟩ (endPause s) := by
  have hstart : Aside ⟨resumed s, False, False⟩ (resumed s) := ⟨rfl, fun _ => rfl, fun _ => rfl⟩
  have hsent := aside_foldl (fun s (h : HeldResponse) => sendMailbox raise h.mac h.vid h.pcp 0x06 h.body s) s.mail.heldResponses _ hstart
    fun _ _ hs => sendMailbox_aside _ _ _ _ _ _ _ aside_raise hs
  have hflushed := aside_foldl (fun s m => flush m s) (List.range 15) _ hsent fun s m hs => flush_aside m s not_false not_false hs
  exact placeNotice_aside _ (deliverCompletions_aside _ not_false hflushed)

theorem Aside.supPause_eq {ref : AsideRef} {s : State} (h : Aside ref s) : s.hif.supPause = ref.state.hif.supPause := by
  have hall := h.1
  simp only [asideOf, Prod.mk.injEq] at hall
  simp only [hall]

theorem endPause_supPause (s : State) : (endPause s).hif.supPause = false := (endPause_aside_resumed s).supPause_eq

/-- Settles O16, by the target of the copy, the verdict on the slot, and the frame of the end of a pause. -/
theorem bulkAndFirmwareStepsComplete : Obligations.BulkAndFirmwareStepsComplete := by
  refine ⟨fun s k c => exec_bulkCopyComplete_staging, ?slots, ?verified, fun s => exec_fwVerificationComplete_outside_running,
    fun a d s => completeFw_of_activation, fun s old job => exec_firmwarePauseEnd_of_change, ?warm⟩
  case slots =>
    rintro s k c hk hc (ht | ht)
    · refine ⟨_, exec_bulkCopyComplete_firmware hk hc ht rfl, ?_, rfl, fun _ => ⟨State.setFwSlot_cfg .., State.fwSlot_setFwSlot ..⟩,
        fun h2 => absurd (ht.symm.trans h2) (by decide)⟩
      rw [State.setFwSlot_frame]
    · refine ⟨_, exec_bulkCopyComplete_configuration hk hc ht rfl, ?_, rfl, fun h1 => absurd (ht.symm.trans h1) (by decide),
        fun _ => ⟨State.setCfgSlot_start .., State.cfgSlot_setCfgSlot ..⟩⟩
      rw [State.setCfgSlot_frame]
  case verified =>
    rintro s b d hv hm rfl
    exact ⟨exec_fwVerificationComplete_good hv hm, exec_fwVerificationComplete_bad hv hm⟩
  case warm =>
    intro s h
    exact ⟨_, rfl, exec_warmRestartEnd_of_warm h, endPause_supPause _⟩

end Sys2Proof.Machine
end

section
/-! PROOFS. The family 02_mailboxes: the sizes of the queues and the form of the window (R34, R52, R54), the host's registers (R39, R40, R44 to R49), the timers of messaging (R59, R61, R67, R366, R680), and the SYS commands (R76 to R81). -/

namespace Sys2Proof.Machine

/-! ## What every step keeps -/

/-- Every command keeps what the operations it runs keep, by its arm: the firmware and key counters move with the two confirmations (R625), the configuration counter with the two moments of R104. -/
theorem exec_kept {ref : KeepsRef} {s : State} (hh : Keeps ref s) (c : Instr)
    (hf : (c = .harloporConfirm ∨ ∃ m, c = .startConfirm m) → ¬ref.fwFixed)
    (hc : ((∃ ticks vref bandgap, c = .rodBoundary ticks vref bandgap) ∨ ∃ passed, c = .bootSequence passed) → ¬ref.cfgFixed) :
    KeepsOut ref (exec c s) := by
  cases c with
  | hostWindowWrite => exact execHostWindowWrite_kept _ _ s hh | doorbellRing => exact execDoorbellRing_kept _ s hh
  | responseRelease => exact execResponseRelease_kept _ s hh | doorbellLostClear => exact execDoorbellLostClear_kept _ s hh
  | irqCauseClear => exact execIrqCauseClear_kept _ s hh | mailboxRequestFrame => exact execMailboxRequestFrame_kept s hh
  | mailboxBindingExpiry => exact execMailboxBindingExpiry_kept _ s hh | requesterExpiry => exact execRequesterExpiry_kept _ s hh
  | sessionIdleTimeout => exact execSessionIdleTimeout_kept _ s hh | sessionExpiry => exact execSessionExpiry_kept _ s hh
  | bulkClaimLapse => exact execBulkClaimLapse_kept s hh | bulkCopyComplete => exact execBulkCopyComplete_kept s hh
  | tokenBufferTimeout => exact execTokenBufferTimeout_kept _ s hh | sysIdentify => exact execSysIdentify_kept _ s hh
  | sysPing => exact execSysPing_kept _ s hh | sysStatus => exact execSysStatus_kept _ s hh | sysOutageRead => exact execSysOutageRead_kept _ s hh
  | sysSubscribe => exact execSysSubscribe_kept _ s hh | sysBulkClaim => exact execSysBulkClaim_kept _ s hh
  | sysBulkRelease => exact execSysBulkRelease_kept _ s hh | sysBulkWrite => exact execSysBulkWrite_kept _ s hh
  | sysBulkCommit => exact execSysBulkCommit_kept _ s hh | sysFwActivate => exact execSysFwActivate_kept _ s hh
  | fwVerificationComplete => exact execFwVerificationComplete_kept s hh | sysWarmRestart => exact execSysWarmRestart_kept _ s hh
  | sysDeferredStatus => exact execSysDeferredStatus_kept _ s hh | sysMbxStats => exact execSysMbxStats_kept _ s hh
  | cfgInfo => exact execCfgInfo_kept _ s hh | cfgValidate => exact execCfgValidate_kept _ s hh | cfgActivate => exact execCfgActivate_kept _ s hh
  | configValidationComplete => exact execConfigValidationComplete_kept s hh | cfgReport => exact execCfgReport_kept _ s hh
  | cfgRead => exact execCfgRead_kept _ s hh | cfgSwathLoad => exact execCfgSwathLoad_kept _ s hh | cfgSwathSet => exact execCfgSwathSet_kept _ s hh
  | cfgSwathClear => exact execCfgSwathClear_kept _ s hh | cfgSwathRead => exact execCfgSwathRead_kept _ s hh
  | cfgSwathDelete => exact execCfgSwathDelete_kept _ s hh | rodBoundary => exact execRodBoundary_kept _ _ _ s (hc (.inl ⟨_, _, _, rfl⟩)) hh
  | firmwarePauseEnd => exact execFirmwarePauseEnd_kept s hh | warmRestartEnd => exact execWarmRestartEnd_kept s hh
  | zeroCrossing => exact execZeroCrossing_kept _ _ _ _ s hh | referenceCrossingMissing => exact execReferenceCrossingMissing_kept s hh
  | flywheelTimeout => exact execFlywheelTimeout_kept s hh | acquireTimeout => exact execAcquireTimeout_kept s hh
  | cycleMarkSend => exact execCycleMarkSend_kept s hh | cycleMark => exact execCycleMark_kept s hh
  | masterElection => exact execMasterElection_kept s hh | countSeed => exact execCountSeed_kept s hh | phaseRead => exact execPhaseRead_kept _ s hh
  | phaseInputs => exact execPhaseInputs_kept _ s hh | phaseSite => exact execPhaseSite_kept _ s hh
  | phaseMeasureOffset => exact execPhaseMeasureOffset_kept _ s hh | measureOffsetComplete => exact execMeasureOffsetComplete_kept s hh
  | beadFire => exact execBeadFire_kept _ _ s hh | pulseReturn => exact execPulseReturn_kept _ s hh
  | provisionalCheck => exact execProvisionalCheck_kept _ s hh | calendarArm => exact execCalendarArm_kept _ s hh
  | mainPass => exact execMainPass_kept s hh | beadPlace => exact execBeadPlace_kept _ s hh | beadRemove => exact execBeadRemove_kept _ s hh
  | beadEnable => exact execBeadEnable_kept _ s hh | beadRead => exact execBeadRead_kept _ s hh | beadRod => exact execBeadRod_kept _ s hh
  | beadStats => exact execBeadStats_kept _ s hh | beadCapacity => exact execBeadCapacity_kept _ s hh
  | chainHorizon => exact execChainHorizon_kept _ s hh | recomputation => exact execRecomputation_kept _ s hh
  | carryInfo => exact execCarryInfo_kept _ s hh | carryList => exact execCarryList_kept _ s hh | carryRead => exact execCarryRead_kept _ s hh
  | carryChain => exact execCarryChain_kept _ s hh | carryStats => exact execCarryStats_kept _ s hh
  | carryStatsClear => exact execCarryStatsClear_kept _ s hh | carryDrop => exact execCarryDrop_kept _ s hh
  | leaseConfirmDeadline => exact execLeaseConfirmDeadline_kept s hh | offerPublish => exact execOfferPublish_kept s hh
  | borrowReceived => exact execBorrowReceived_kept s hh | grantReceived => exact execGrantReceived_kept s hh
  | refuseReceived => exact execRefuseReceived_kept s hh | returnReceived => exact execReturnReceived_kept s hh
  | borrowTimeout => exact execBorrowTimeout_kept _ s hh | loanRenewalCheck => exact execLoanRenewalCheck_kept _ s hh
  | heatFallback => exact execHeatFallback_kept s hh | reckAccounts => exact execReckAccounts_kept _ s hh
  | reckLeaseSet => exact execReckLeaseSet_kept _ s hh | reckLeaseConfirm => exact execReckLeaseConfirm_kept _ s hh
  | reckLeaseRefuse => exact execReckLeaseRefuse_kept _ s hh | reckLeaseRead => exact execReckLeaseRead_kept _ s hh
  | reckLoans => exact execReckLoans_kept _ s hh | reckLoanReturn => exact execReckLoanReturn_kept _ s hh
  | reckStats => exact execReckStats_kept _ s hh | reckStatsClear => exact execReckStatsClear_kept _ s hh
  | loopSample => exact execLoopSample_kept _ s hh | sampleStart => exact execSampleStart_kept s hh
  | sampleComplete => exact execSampleComplete_kept _ s hh | resultApply => exact execResultApply_kept _ s hh
  | awaitGiveUp => exact execAwaitGiveUp_kept _ s hh | loopStatus => exact execLoopStatus_kept _ s hh | loopRead => exact execLoopRead_kept _ s hh
  | loopFlagsClear => exact execLoopFlagsClear_kept _ s hh | loopEnable => exact execLoopEnable_kept _ s hh
  | loopManual => exact execLoopManual_kept _ s hh | loopModel => exact execLoopModel_kept _ s hh
  | loopTraceArm => exact execLoopTraceArm_kept _ s hh | loopTraceStatus => exact execLoopTraceStatus_kept _ s hh
  | loopTraceRead => exact execLoopTraceRead_kept _ s hh | loopStats => exact execLoopStats_kept _ s hh
  | cutMarkSend => exact execCutMarkSend_kept s hh | commonsCut => exact execCommonsCut_kept s hh
  | commonsUpdateFrame => exact execCommonsUpdateFrame_kept s hh | cutMark => exact execCutMark_kept s hh
  | commonsFrameSend => exact execCommonsFrameSend_kept s hh | refreshQueue => exact execRefreshQueue_kept s hh
  | commonsInfo => exact execCommonsInfo_kept _ s hh | commonsRead => exact execCommonsRead_kept _ s hh
  | commonsWrite => exact execCommonsWrite_kept _ s hh | commonsChips => exact execCommonsChips_kept _ s hh
  | commonsBlocks => exact execCommonsBlocks_kept _ s hh | commonsStats => exact execCommonsStats_kept _ s hh
  | commonsStatsClear => exact execCommonsStatsClear_kept _ s hh | frameReceived => exact execFrameReceived_kept _ _ _ s hh
  | frameTransmit => exact execFrameTransmit_kept _ s hh | gateTransition => exact execGateTransition_kept _ s hh
  | linkUp => exact execLinkUp_kept _ s hh | linkDown => exact execLinkDown_kept _ _ s hh | serdesIdle => exact execSerdesIdle_kept _ s hh
  | supervisionSend => exact execSupervisionSend_kept s hh | supervisionReturnTimeout => exact execSupervisionReturnTimeout_kept _ s hh
  | duplicateEntryExpiry => exact execDuplicateEntryExpiry_kept _ _ s hh | nodeEntryExpiry => exact execNodeEntryExpiry_kept _ s hh
  | proxyEntryExpiry => exact execProxyEntryExpiry_kept _ s hh | pdelaySend => exact execPdelaySend_kept _ _ s hh
  | announceSend => exact execAnnounceSend_kept s hh | ptpSyncReceived => exact execPtpSyncReceived_kept _ _ _ s hh
  | ptpSyncTimeout => exact execPtpSyncTimeout_kept s hh | ringInfo => exact execRingInfo_kept _ s hh | ringPort => exact execRingPort_kept _ s hh
  | ringPortClear => exact execRingPortClear_kept _ s hh | ringNodes => exact execRingNodes_kept _ s hh
  | ringProxy => exact execRingProxy_kept _ s hh | ringPtp => exact execRingPtp_kept _ s hh | ringGates => exact execRingGates_kept _ s hh
  | ringRequesters => exact execRingRequesters_kept _ s hh | canFrameReceived => exact execCanFrameReceived_kept _ _ _ s hh
  | canFrameSent => exact execCanFrameSent_kept _ _ s hh | canTransmitError => exact execCanTransmitError_kept _ s hh
  | arbitrationLost => exact execArbitrationLost_kept _ s hh | busOffRecovery => exact execBusOffRecovery_kept _ s hh
  | referencePeriodStart => exact execReferencePeriodStart_kept _ s hh | referencePending => exact execReferencePending_kept _ s hh
  | referenceCancel => exact execReferenceCancel_kept _ s hh | spareEngineRotate => exact execSpareEngineRotate_kept s hh
  | spareSwitchOver => exact execSpareSwitchOver_kept s hh | spareIntegrated => exact execSpareIntegrated_kept _ s hh
  | leakInjectionToggle => exact execLeakInjectionToggle_kept _ _ s hh | fallowBeacon => exact execFallowBeacon_kept _ s hh
  | fbusStatus => exact execFbusStatus_kept _ s hh | fbusStats => exact execFbusStats_kept _ s hh
  | fbusStatsClear => exact execFbusStatsClear_kept _ s hh | fbusSend => exact execFbusSend_kept _ s hh
  | fbusReceive => exact execFbusReceive_kept _ s hh | fbusRecover => exact execFbusRecover_kept _ s hh
  | fbusSpare => exact execFbusSpare_kept _ s hh | fbusInsulation => exact execFbusInsulation_kept _ s hh
  | fbusTiming => exact execFbusTiming_kept _ s hh | rollCall => exact execRollCall_kept _ s hh | cfpAnnounce => exact execCfpAnnounce_kept _ s hh
  | cfpAssign => exact execCfpAssign_kept _ s hh | cfpClaim => exact execCfpClaim_kept _ s hh
  | claimWindowEnd => exact execClaimWindowEnd_kept _ s hh | cfpRsp => exact execCfpRsp_kept _ s hh | cfpRpt => exact execCfpRpt_kept _ s hh
  | cfpSegment => exact execCfpSegment_kept _ s hh | cfpTimeout => exact execCfpTimeout_kept _ _ s hh
  | segmentTimeout => exact execSegmentTimeout_kept _ _ s hh | transactionSend => exact execTransactionSend_kept _ s hh
  | cfpNodes => exact execCfpNodes_kept _ s hh | cfpRole => exact execCfpRole_kept _ s hh | cfpRoleMove => exact execCfpRoleMove_kept _ s hh
  | cfpTransact => exact execCfpTransact_kept _ s hh | cfpRollcall => exact execCfpRollcall_kept _ s hh
  | cfpForget => exact execCfpForget_kept _ s hh | cfpStats => exact execCfpStats_kept _ s hh | cfpStatsClear => exact execCfpStatsClear_kept _ s hh
  | valveEventStart => exact execValveEventStart_kept _ s hh | valvePeakReached => exact execValvePeakReached_kept _ _ _ s hh
  | valvePeakEnd => exact execValvePeakEnd_kept _ s hh | valveDropEnd => exact execValveDropEnd_kept _ s hh
  | valveHoldEnd => exact execValveHoldEnd_kept _ _ s hh | valveDecayEnd => exact execValveDecayEnd_kept _ s hh
  | valveOffTimeEnd => exact execValveOffTimeEnd_kept _ s hh | bankRecoveryEnd => exact execBankRecoveryEnd_kept _ s hh
  | valveDeferExpiry => exact execValveDeferExpiry_kept _ s hh | dutyInstant => exact execDutyInstant_kept _ s hh
  | valveOpen => exact execValveOpen_kept _ _ s hh | valveShort => exact execValveShort_kept _ _ s hh
  | valveOvercurrent => exact execValveOvercurrent_kept _ _ s hh | valveDecay => exact execValveDecay_kept _ _ s hh
  | valveStuck => exact execValveStuck_kept _ _ s hh | valveBankOvercurrent => exact execValveBankOvercurrent_kept _ _ s hh
  | valveGroundShort => exact execValveGroundShort_kept _ _ s hh | valveStatus => exact execValveStatus_kept _ s hh
  | valveFire => exact execValveFire_kept _ s hh | valveClear => exact execValveClear_kept _ s hh
  | valveProfile => exact execValveProfile_kept _ s hh | valveStats => exact execValveStats_kept _ s hh
  | valveStatsClear => exact execValveStatsClear_kept _ s hh | fanSlewUpdate => exact execFanSlewUpdate_kept s hh
  | tachPulse => exact execTachPulse_kept _ _ s hh | kickAttemptEnd => exact execKickAttemptEnd_kept _ s hh
  | retryWaitEnd => exact execRetryWaitEnd_kept _ s hh | coolDownEnd => exact execCoolDownEnd_kept _ s hh
  | tachLossTimeout => exact execTachLossTimeout_kept _ s hh | hostSilence => exact execHostSilence_kept s hh
  | fanGroupUpdate => exact execFanGroupUpdate_kept _ s hh | fanStatus => exact execFanStatus_kept _ s hh | fanSet => exact execFanSet_kept _ s hh
  | fanZones => exact execFanZones_kept _ s hh | fanRetry => exact execFanRetry_kept _ s hh | fanStats => exact execFanStats_kept _ s hh
  | fanStatsClear => exact execFanStatsClear_kept _ s hh | encoderUpdate => exact execEncoderUpdate_kept _ _ _ s hh
  | indexEvent => exact execIndexEvent_kept _ _ s hh | ssiRead => exact execSsiRead_kept _ _ _ _ s hh
  | speedTimeout => exact execSpeedTimeout_kept _ s hh | positionerEvaluation => exact execPositionerEvaluation_kept _ s hh
  | moveTimeout => exact execMoveTimeout_kept _ s hh | maxRunTimeout => exact execMaxRunTimeout_kept _ s hh
  | extensionUpdate => exact execExtensionUpdate_kept s hh | ventRead => exact execVentRead_kept _ s hh
  | ventCompare => exact execVentCompare_kept _ s hh | ventPreset => exact execVentPreset_kept _ s hh | ventSet => exact execVentSet_kept _ s hh
  | ventClear => exact execVentClear_kept _ s hh | ventStats => exact execVentStats_kept _ s hh
  | conversionEnd => exact execConversionEnd_kept _ _ _ s hh | excitationCompliance => exact execExcitationCompliance_kept _ _ s hh
  | dwellEnd => exact execDwellEnd_kept s hh | modulatorReplacement => exact execModulatorReplacement_kept s hh
  | senseRead => exact execSenseRead_kept _ s hh | senseMeter => exact execSenseMeter_kept _ s hh | senseWave => exact execSenseWave_kept _ s hh
  | senseModulators => exact execSenseModulators_kept _ s hh | senseSpare => exact execSenseSpare_kept _ s hh
  | senseStats => exact execSenseStats_kept _ s hh | senseStatsClear => exact execSenseStatsClear_kept _ s hh
  | keyScan => exact execKeyScan_kept _ s hh | encoderStep => exact execEncoderStep_kept _ _ s hh | longPress => exact execLongPress_kept _ s hh
  | resetCombination => exact execResetCombination_kept _ s hh | panelStatus => exact execPanelStatus_kept _ s hh
  | panelKeys => exact execPanelKeys_kept _ s hh | panelEvents => exact execPanelEvents_kept _ s hh
  | panelDisplay => exact execPanelDisplay_kept _ s hh | panelStats => exact execPanelStats_kept _ s hh
  | panelStatsClear => exact execPanelStatsClear_kept _ s hh | clockWriteApply => exact execClockWriteApply_kept s hh
  | trimCompensation => exact execTrimCompensation_kept _ s hh | vbatCheck => exact execVbatCheck_kept _ s hh
  | oscillatorStop => exact execOscillatorStop_kept s hh | clockRead => exact execClockRead_kept _ s hh | clockSet => exact execClockSet_kept _ s hh
  | clockConvert => exact execClockConvert_kept _ s hh | clockFlagsClear => exact execClockFlagsClear_kept _ s hh
  | clockTrim => exact execClockTrim_kept _ s hh | recordWrite => exact execRecordWrite_kept s hh | snapInEdge => exact execSnapInEdge_kept s hh
  | scheduledStrobe => exact execScheduledStrobe_kept s hh | snapshotTriggerFrame => exact execSnapshotTriggerFrame_kept s hh
  | snapshotCopyComplete => exact execSnapshotCopyComplete_kept _ s hh | snapOutEnd => exact execSnapOutEnd_kept s hh
  | logInfo => exact execLogInfo_kept _ s hh | logRead => exact execLogRead_kept _ s hh | logReadKept => exact execLogReadKept_kept _ s hh
  | logRearm => exact execLogRearm_kept _ s hh | logMark => exact execLogMark_kept _ s hh | logStats => exact execLogStats_kept _ s hh
  | logStatsClear => exact execLogStatsClear_kept _ s hh | snapInfo => exact execSnapInfo_kept _ s hh
  | snapTrigger => exact execSnapTrigger_kept _ s hh | snapRead => exact execSnapRead_kept _ s hh | snapRelease => exact execSnapRelease_kept _ s hh
  | powerOnReset => exact execPowerOnReset_kept _ s hh | supplyFail => exact execSupplyFail_kept s hh
  | bootSequence => exact execBootSequence_kept _ s (hc (.inr ⟨_, rfl⟩)) hh | harloporConfirm => exact execHarloporConfirm_kept s (hf (.inl rfl)) hh
  | confirmDeadline => exact execConfirmDeadline_kept s hh | startWatchdogExpiry => exact execStartWatchdogExpiry_kept s hh
  | supervisorRestartDeadline => exact execSupervisorRestartDeadline_kept s hh | leaveRestart => exact execLeaveRestart_kept s hh
  | startConfirm => exact execStartConfirm_kept _ s (hf (.inr ⟨_, rfl⟩)) hh | startLedger => exact execStartLedger_kept _ s hh
  | startReason => exact execStartReason_kept _ s hh | startSessionOpen => exact execStartSessionOpen_kept _ s hh
  | startLeave => exact execStartLeave_kept _ s hh | startFallow => exact execStartFallow_kept _ s hh
  | startSelect => exact execStartSelect_kept _ s hh | startThreshold => exact execStartThreshold_kept _ s hh
  | startTest => exact execStartTest_kept _ s hh | startFallowMap => exact execStartFallowMap_kept _ s hh
  | lockstepMismatch => exact execLockstepMismatch_kept s hh | selfTestComplete => exact execSelfTestComplete_kept _ _ s hh
  | swapResume => exact execSwapResume_kept s hh | wearMeasurement => exact execWearMeasurement_kept _ _ _ s hh
  | eccCorrection => exact execEccCorrection_kept _ _ s hh | uncorrectableError => exact execUncorrectableError_kept _ _ _ _ _ s hh
  | rowRemap => exact execRowRemap_kept _ _ s hh | ageingSample => exact execAgeingSample_kept _ s hh | spareInfo => exact execSpareInfo_kept _ s hh
  | spareLedger => exact execSpareLedger_kept _ s hh | spareWear => exact execSpareWear_kept _ s hh
  | spareProfile => exact execSpareProfile_kept _ s hh | spareSwap => exact execSpareSwap_kept _ s hh
  | substitutionComplete => exact execSubstitutionComplete_kept s hh | secSessionOpen => exact execSecSessionOpen_kept _ s hh
  | secSessionClose => exact execSecSessionClose_kept _ s hh | secIdentity => exact execSecIdentity_kept _ s hh
  | secAttest => exact execSecAttest_kept _ s hh | attestationComplete => exact execAttestationComplete_kept s hh
  | secObjectRead => exact execSecObjectRead_kept _ s hh | secKeys => exact execSecKeys_kept _ s hh | secKeySet => exact execSecKeySet_kept _ s hh
  | secCounters => exact execSecCounters_kept _ s hh | secRelinquish => exact execSecRelinquish_kept _ s hh
  | railMonitor => exact execRailMonitor_kept _ _ s hh | readbackCheck => exact execReadbackCheck_kept _ s hh
  | pinOutputs => exact execPinOutputs_kept _ s hh | pinWrite => exact execPinWrite_kept _ s hh | pinClaim => exact execPinClaim_kept _ s hh
  | pinBalls => exact execPinBalls_kept _ s hh | pinSupply => exact execPinSupply_kept _ s hh | clockTick => exact execClockTick_kept s hh
  | oscillatorRestart => exact execOscillatorRestart_kept s hh | masterMarkTimeout => exact execMasterMarkTimeout_kept s hh
  | serdesWake => exact execSerdesWake_kept _ s hh | canIntegrated => exact execCanIntegrated_kept _ s hh
  | canReceiveError => exact execCanReceiveError_kept _ _ s hh | meterSample => exact execMeterSample_kept _ _ _ s hh
  | encoderTransition => exact execEncoderTransition_kept _ _ s hh | pllLossOfLock => exact execPllLossOfLock_kept s hh

/-- What a step from a state keeps: the rest of its queue, counters no lower than now, and the window's form and the sizes of the queues where they hold now. -/
def stepRef (s : State) : KeepsRef where
  queue := s.pending.tail
  fw := s.sec.fwCounter
  cfg := s.sec.cfgCounter
  key := s.sec.keyCounter
  fwFixed := False
  cfgFixed := False
  canonical := Memory.wf s.window = true
  sized := s.queuesFit

/-- The bounds on the queues, as the statement says them and as the operations keep them. -/
theorem queuesFit_iff_keepsSizes {s : State} : s.queuesFit ↔ KeepsSizes s.mail.deferred s.mail.sessions s.mail.requesters s.mail.notices
    s.recorder.intake s.mail.tokens s.recorder.kept s.ring.duplicates s.ring.proxies := by
  constructor
  · rintro ⟨hdeferred, hsessions, hrequesters, hevents, hcompletions, htokens, hintake, hkept, hduplicates, hproxies⟩
    exact ⟨hdeferred, hsessions, hrequesters, hevents, hcompletions, hintake, htokens, hkept, hduplicates, hproxies⟩
  · rintro ⟨hdeferred, hsessions, hrequesters, hevents, hcompletions, hintake, htokens, hkept, hduplicates, hproxies⟩
    exact ⟨hdeferred, hsessions, hrequesters, hevents, hcompletions, htokens, hintake, hkept, hduplicates, hproxies⟩

/-- With its front command taken, a state keeps what it is compared with. -/
theorem keeps_stepRef (s : State) : Keeps (stepRef s) { s with pending := s.pending.tail } := by
  have still : ∀ {fixed : Prop} {a : Nat}, KeepsCounter fixed a a := ⟨Nat.le_refl _, fun _ => rfl⟩
  exact ⟨⟨rfl, still, still, still⟩, id, queuesFit_iff_keepsSizes.1⟩

/-- Every step keeps what every operation keeps, whatever the command at the front of the queue. -/
theorem step_kept (s : State) : KeepsOut (stepRef s) (step s) := by
  have hstart := keeps_stepRef s
  unfold step
  split
  · next hempty =>
    rw [hempty, List.tail_nil, ← hempty] at hstart
    exact keepsOut_next (phaseTick_kept s hstart)
  · next c rest hqueue =>
    rw [hqueue] at hstart
    exact exec_kept hstart c (fun _ => not_false) fun _ => not_false

/-- Settles O6, from what every step keeps. -/
theorem queuesStayWithinTheirSizes : Obligations.QueuesStayWithinTheirSizes := by
  intro s t hfit hstep
  obtain ⟨-, -, hsized⟩ := step_kept s t hstep
  exact queuesFit_iff_keepsSizes.2 (hsized hfit)

/-- Settles O7, from what every step keeps. -/
theorem windowStaysCanonical : Obligations.WindowStaysCanonical := by
  intro s t hwf hstep
  obtain ⟨-, hcanonical, -⟩ := step_kept s t hstep
  exact hcanonical hwf

/-! ## The host's registers (R39, R40, R44 to R49) -/

/-- A register write that names one bit acts on that one alone. -/
theorem foldl_range_twoPow {σ : Type} {w n m : Nat} (hn : m < n) (hw : m < w) (f : σ → Nat → σ) (s : σ) :
    (List.range n).foldl (fun s i => if (BitVec.twoPow w m).getLsbD i then f s i else s) s = f s m := by
  have hone : (List.range n).filter (BitVec.twoPow w m).getLsbD = [m] := by
    have hbit : (BitVec.twoPow w m).getLsbD = (· == m) := by
      funext i
      simp [BitVec.getLsbD_twoPow, hw, Bool.beq_eq_decide_eq, eq_comm]
    rw [hbit, List.filter_beq, List.nodup_range.count, if_pos (List.mem_range.2 hn), List.replicate_one]
  rw [← List.foldl_filter, hone, List.foldl_cons, List.foldl_nil]

theorem setWidth_twoPow_lower {m : Nat} : (BitVec.twoPow 32 m).setWidth 16 = BitVec.twoPow 16 m := by
  ext i hi
  simp [BitVec.getElem_eq_testBit_toNat]

section
variable {s : State} {m : Nat}

theorem exec_doorbellRing_one (hm : m < 15) : exec (.doorbellRing (BitVec.twoPow 32 m)) s = .next (ringMailbox m s) := by
  simp only [exec, execDoorbellRing, ringDoorbells]
  rw [foldl_range_twoPow hm (by omega) fun s m => ringMailbox m s]

theorem exec_doorbellRing_free (hm : m < 15) (hf : s.hif.reqFree.getLsbD m = true) :
    exec (.doorbellRing (BitVec.twoPow 32 m)) s = .next (submit m (localRequest s m) s) := by
  rw [exec_doorbellRing_one hm, ringMailbox, if_neg (by omega), if_pos hf]

theorem exec_doorbellRing_busy (hm : m < 15) (hf : s.hif.reqFree.getLsbD m = false) :
    exec (.doorbellRing (BitVec.twoPow 32 m)) s = .next (loseDoorbell m s) := by
  rw [exec_doorbellRing_one hm, ringMailbox, if_neg (by omega), if_neg (by simp [hf])]

theorem clearLost_twoPow : clearLost (BitVec.twoPow 32 m) s = { s with hif := { s.hif with lost := s.hif.lost &&& ~~~(BitVec.twoPow 16 m) } } := by
  rw [clearLost, setWidth_twoPow_lower]

theorem clearLost_twoPow_bit (hm : m < 15) : (clearLost (BitVec.twoPow 32 m) s).hif.lost.getLsbD m = false := by
  rw [clearLost_twoPow]
  simp [show m < 16 by omega]

/-- A lost doorbell is counted, and its bit set (R45). -/
def countLostRing (m : Nat) (s : State) : State :=
  { s.setMbxStats m { s.mbxStats m with lost := (s.mbxStats m).lost + 1 } with hif := { s.hif with lost := s.hif.lost ||| BitVec.twoPow 16 m } }

theorem loseDoorbell_first (h : s.hif.lost.getLsbD m = false) : loseDoorbell m s = raise 0x0101 [m] (countLostRing m s) :=
  if_neg (by simp [h])

theorem loseDoorbell_again (h : s.hif.lost.getLsbD m = true) : loseDoorbell m s = countLostRing m s :=
  if_pos h

/-- Recorded or not, a lost doorbell leaves aside what its event leaves aside. -/
theorem loseDoorbell_aside : Aside ⟨countLostRing m s, True, True⟩ (loseDoorbell m s) := by
  have hstart : Aside ⟨countLostRing m s, True, True⟩ (countLostRing m s) := ⟨rfl, fun _ => rfl, fun _ => rfl⟩
  cases h : s.hif.lost.getLsbD m
  · rw [loseDoorbell_first h]; exact raise_aside _ _ _ hstart
  · rw [loseDoorbell_again h]; exact hstart

end

section
variable {ref : AsideRef} {s : State} (h : Aside ref s)
include h

theorem Aside.lost_eq : s.hif.lost = ref.state.hif.lost := by
  have hall := h.1
  simp only [asideOf, Prod.mk.injEq] at hall
  simp only [hall]

theorem Aside.bound_eq : s.mail.bound = ref.state.mail.bound := by
  have hall := h.1
  simp only [asideOf, Prod.mk.injEq] at hall
  simp only [hall]

theorem Aside.reqFree_eq (hm : ref.messages) : s.hif.reqFree = ref.state.hif.reqFree := by
  have hall := h.2.1 hm
  simp only [messagesOf, Prod.mk.injEq] at hall
  simp only [hall]

theorem Aside.queues_eq (hq : ref.queues) : s.mail.queues = ref.state.mail.queues := congrArg Prod.fst (h.2.2 hq)

end

/-- Settles O59: what a lost doorbell leaves aside holds its bit, FREE and the requests, so that after the bit is cleared the next ring is the first again. -/
theorem doorbellsOnBusyMailboxesAreIgnored : Obligations.DoorbellsOnBusyMailboxesAreIgnored := by
  intro s m hm hfree
  have hlost : (loseDoorbell m s).hif.lost = s.hif.lost ||| BitVec.twoPow 16 m := loseDoorbell_aside.lost_eq
  have hfree' : (loseDoorbell m s).hif.reqFree.getLsbD m = false := by rw [loseDoorbell_aside.reqFree_eq trivial]; exact hfree
  refine ⟨_, loseDoorbell m s, rfl, exec_doorbellRing_busy hm hfree, loseDoorbell_first, loseDoorbell_again, ?bit,
    loseDoorbell_aside.queues_eq trivial, _, _, rfl, clearLost_twoPow, clearLost_twoPow_bit hm, rfl, ?recorded⟩
  case bit =>
    rw [hlost]
    simp [show m < 16 by omega]
  case recorded =>
    rw [exec_doorbellRing_busy hm (s := clearLost _ _) hfree', loseDoorbell_first (clearLost_twoPow_bit hm)]
    rfl

/-- Placing and sending responses leaves the requests that have no answer. -/
theorem flushEntries_unanswered (m : Nat) (es : List Entry) (s : State) :
    ((flushEntries m es s).1.filter fun e => e.answer.isNone) = es.filter fun e => e.answer.isNone := by
  induction es generalizing s with
  | nil => rfl
  | cons e es ih =>
    unfold flushEntries
    split
    · rfl
    · next a ha =>
      split
      · simp [ha, ih]
      · split
        · simp [ha, ih]
        · split
          · rfl
          · simp [ha, ih]

theorem flush_unanswered {m : Nat} {s : State} (hwf : fwf [] s.mail.queues = true) :
    (((flush m s).entries m).filter fun e => e.answer.isNone) = (s.entries m).filter fun e => e.answer.isNone := by
  unfold flush
  split
  · rfl
  · have haside : Aside ⟨s, False, True⟩ (flushEntries m (s.entries m) s).2 :=
      flushEntries_aside _ _ _ not_false ⟨rfl, fun _ => rfl, fun _ => rfl⟩
    rw [State.entries_setEntries _ _ _ (by rw [haside.queues_eq trivial]; exact hwf), flushEntries_unanswered]

/-- A request is counted, and ends a silence of the host (R477), before it is judged. -/
def countRequest (m : Nat) (s : State) : State :=
  let s0 := { noteRequest s with mail := { (noteRequest s).mail with rings := (noteRequest s).mail.rings + 1 } }
  s0.setMbxStats m { s0.mbxStats m with requests := (s0.mbxStats m).requests + 1 }

/-- A silence that ends is an event, and changes the fans' watch besides. -/
theorem noteRequest_aside (s : State) :
    Aside ⟨{ s with fan := { s.fan with lastRequest := s.clock.ticksRun, silent := false } }, True, True⟩ (noteRequest s) := by
  unfold noteRequest
  dsimp only
  split
  · exact raise_aside _ _ _ ⟨rfl, fun _ => rfl, fun _ => rfl⟩
  · exact ⟨rfl, fun _ => rfl, fun _ => rfl⟩

theorem countRequest_queues (m : Nat) (s : State) : (countRequest m s).mail.queues = s.mail.queues := (noteRequest_aside s).queues_eq trivial

theorem countRequest_bound (m : Nat) (s : State) : (countRequest m s).mail.bound = s.mail.bound := (noteRequest_aside s).bound_eq

theorem bindMailbox_queues (m : Nat) (who : Requester) (s : State) : (bindMailbox m who s).mail.queues = s.mail.queues := by
  unfold bindMailbox
  split
  · rfl
  · split <;> rfl

/-- A request that fits, of a known command, joins the end of the queue without an answer (R44). -/
theorem submit_of_room {m : Nat} {r : Request} {s : State} (hroom : outstanding s m < 4) (hbound : boundElsewhere s m r.who = false)
    (hcode : knownCode r.hdr.code = true) :
    submit m r s = flush m ((bindMailbox m r.who (countRequest m s)).setEntries m (s.entries m ++ [newEntry s r none])) := by
  have hentries : (bindMailbox m r.who (countRequest m s)).entries m = s.entries m := by
    simp only [State.entries, bindMailbox_queues, countRequest_queues]
  have hroom' : ¬ outstanding (countRequest m s) m ≥ 4 := by
    simpa only [outstanding, State.entries, countRequest_queues, Nat.not_le] using hroom
  have hbound' : boundElsewhere (countRequest m s) m r.who = false := by
    simpa only [boundElsewhere, countRequest_bound] using hbound
  rw [← hentries]
  refine (if_neg hroom').trans ((if_neg (Bool.eq_false_iff.1 hbound')).trans ?_)
  simp only [hcode, if_true]; rfl

theorem submit_joins_queue {m : Nat} {r : Request} {s : State} (hroom : outstanding s m < 4) (hbound : boundElsewhere s m r.who = false)
    (hcode : knownCode r.hdr.code = true) (hwf : fwf [] s.mail.queues = true) :
    (((submit m r s).entries m).filter fun e => e.answer.isNone).map Entry.req =
      ((s.entries m).filter fun e => e.answer.isNone).map Entry.req ++ [r] := by
  have hwf' : fwf [] (bindMailbox m r.who (countRequest m s)).mail.queues = true := by
    rw [bindMailbox_queues, countRequest_queues]; exact hwf
  rw [submit_of_room hroom hbound hcode, flush_unanswered (fwf_fput _ _ hwf'), State.entries_setEntries _ _ _ hwf']
  simp [newEntry]

section
variable {s : State} {m : Nat}

theorem exec_responseRelease_one (hm : m < 16) : exec (.responseRelease (BitVec.twoPow 32 m)) s = .next (releaseOne m s) := by
  simp only [exec, execResponseRelease, releaseReady]
  rw [foldl_range_twoPow hm (by omega) fun s m => releaseOne m s]

theorem exec_responseRelease_idle (hm : m < 15) (hr : s.hif.respReady.getLsbD m = false) :
    exec (.responseRelease (BitVec.twoPow 32 m)) s = .next s := by
  rw [exec_responseRelease_one (by omega), releaseOne, if_neg (by simp [hr])]

theorem exec_responseRelease_notice (hr : s.hif.respReady.getLsbD 15 = true) :
    exec (.responseRelease (BitVec.twoPow 32 15)) s = .next (releaseNotice s) := by
  rw [exec_responseRelease_one (by omega), releaseOne, if_pos hr, if_pos rfl]

/-- The placed response leaves the queue and its mailbox's READY bit clears; what it held is then let go, and the next response placed (R46, R49, R53). -/
theorem exec_responseRelease_placed {e : Entry} {a : Answer} (hm : m < 15) (hr : s.hif.respReady.getLsbD m = true)
    (he : (s.entries m).find? Entry.placed = some e) (ha : e.answer = some a) :
    exec (.responseRelease (BitVec.twoPow 32 m)) s =
      .next (flush m (releaseAccepted a (freeBusy m e
        ({ s with hif := { s.hif with respReady := s.hif.respReady &&& ~~~(BitVec.twoPow 16 m) } }.setEntries m
          ((s.entries m).filter fun x => !x.placed))))) := by
  rw [exec_responseRelease_one (by omega), releaseOne, if_pos hr, if_neg (by omega)]
  simp only [State.entries] at he
  simp only [releaseResponse, State.entries, he, ha, Option.getD_some]

end

/-- Settles O13, by the register written and, of the bits, by what stands at the mailbox they name. -/
theorem hostRegisterWritesActBitwise : Obligations.HostRegisterWritesActBitwise := by
  refine ⟨fun _ _ => rfl, fun _ _ => rfl, ?lost, fun _ _ => exec_doorbellRing_free, fun _ _ _ => submit_joins_queue,
    fun _ _ _ _ => exec_responseRelease_placed, fun _ _ _ => ⟨fun h => if_neg (by simp [h]), fun h => if_pos h⟩, ?accepted,
    fun _ _ => exec_responseRelease_idle, fun _ => exec_responseRelease_notice⟩
  case lost =>
    intro s m hm hf hl
    rw [exec_doorbellRing_busy hm hf, loseDoorbell_again hl]; rfl
  case accepted =>
    intro a s
    constructor
    · intro h
      simp only [releaseAccepted, h]
    · intro j h
      simp only [releaseAccepted, h]

/-! ## The timers of messaging (R59, R61, R67, R366, R680) -/

/-- The bulk window without its claim (R59, log 46). -/
def withoutClaim (s : State) : State := { s with hif := { s.hif with claim := none, nextOffset := 0, copying := none } }

section
variable {s : State} {c : Claim}

theorem lapseClaim_finished (hc : s.hif.claim = some c) (h : c.total ≤ s.hif.nextOffset ∨ 3 ≤ c.target) : lapseClaim s = withoutClaim s := by
  simp only [lapseClaim, hc]
  rcases h with hdone | htarget
  · exact if_pos hdone
  · rw [if_neg (show ¬ c.target = 1 by omega), if_neg (show ¬ c.target = 2 by omega)]
    exact ite_self _

theorem lapseClaim_firmware (hc : s.hif.claim = some c) (h : s.hif.nextOffset < c.total) (ht : c.target = 1) :
    lapseClaim s = (withoutClaim s).setFwSlot c.slot {} := by
  simp only [lapseClaim, hc]
  rw [if_neg (by omega), if_pos ht]; rfl

theorem lapseClaim_configuration (hc : s.hif.claim = some c) (h : s.hif.nextOffset < c.total) (ht : c.target = 2) :
    lapseClaim s = (withoutClaim s).setCfgSlot c.slot {} := by
  simp only [lapseClaim, hc]
  rw [if_neg (by omega), if_neg (by omega), if_pos ht]; rfl

/-- A session's handle leaves every table of messaging that names it (R54, R55, R67). -/
def withoutSession (h : Nat) (s : State) : State :=
  { s with mail := { s.mail with
      sessions := s.mail.sessions.filter fun x => x.handle != h
      subscriptions := s.mail.subscriptions.filter fun x => x.session != h
      lostNotices := s.mail.lostNotices.filter fun x => x.session != h
      finished := s.mail.finished.filter fun x => x.session != h } }

theorem closeSession_unclaimed {h cause : Nat} {x : Session} (hx : findSession s h = some x) (hcause : cause ≠ 0)
    (hclaim : ∀ c, s.hif.claim = some c → c.session ≠ h) : closeSession h cause s = raise 0x0104 [h, cause] (withoutSession h s) := by
  simp only [closeSession, hx, if_neg hcause]
  split
  · next c hc => rw [if_neg (hclaim c hc)]; rfl
  · rfl

end

theorem exec_mailboxBindingExpiry_idle {s : State} {m : Nat} (h : s.entries m = []) :
    exec (.mailboxBindingExpiry m) s = .next { s with mail := { s.mail with bound := fput none s.mail.bound m none } } :=
  if_pos (by rw [h]; rfl)

theorem exec_requesterExpiry_free {s : State} {mac : Nat} (h : requesterHeld s mac = false) :
    exec (.requesterExpiry mac) s = .next { s with mail := { s.mail with
      requesters := s.mail.requesters.filter fun r => r.mac != mac
      kept := s.mail.kept.filter fun k => k.mac != mac } } :=
  if_neg (Bool.eq_false_iff.1 h)

theorem exec_sessionExpiry_due {s : State} {h : Nat} {x : Session} (hx : findSession s h = some x) (hd : expiryDue s x = true) :
    exec (.sessionExpiry h) s = .next (closeSession h 1 s) := by
  simp only [exec, execSessionExpiry, hx, hd, if_true]

/-- Settles O14, by the timer; a lapsing claim by its target and progress, and a session's end by its claim. -/
theorem messagingTimersFreeWhatTheyName : Obligations.MessagingTimersFreeWhatTheyName := by
  refine ⟨fun _ _ => exec_mailboxBindingExpiry_idle, fun _ _ => exec_requesterExpiry_free, fun _ _ => rfl, ?finished, ?firmware, ?configuration,
    ?idle, ?expired⟩
  case finished => exact fun s c hc h => congrArg Host.Outcome.next (lapseClaim_finished hc h)
  case firmware => exact fun s c hc h ht => congrArg Host.Outcome.next (lapseClaim_firmware hc h ht)
  case configuration => exact fun s c hc h ht => congrArg Host.Outcome.next (lapseClaim_configuration hc h ht)
  case idle => exact fun s h x hx hclaim => congrArg Host.Outcome.next (closeSession_unclaimed hx (by decide) hclaim)
  case expired =>
    intro s h x hx hd hclaim
    rw [exec_sessionExpiry_due hx hd, closeSession_unclaimed hx (by decide) hclaim]; rfl

/-! ## The SYS commands (R76 to R81) -/

/-- Settles O11, verb by verb: none of the body's refusals applies, so that its last branch runs; then by what the placing of a response does (R49, R81). -/
theorem sysVerbsComplete : Obligations.SysVerbsComplete := by
  refine ⟨reads_of_body _ (fun _ _ => rfl) fun _ _ _ => rfl, reads_of_body _ (fun _ _ => rfl) fun _ _ _ => rfl,
    reads_of_body _ (fun _ _ => rfl) fun _ _ _ => rfl, reads_of_body _ (fun _ _ => rfl) ?outage, reads_of_body _ (fun _ _ => rfl) ?deferred,
    reads_of_body _ (fun _ _ => rfl) fun _ _ _ => rfl, completes_of_body _ (fun _ _ => rfl) ?subscribe, completes_of_body _ (fun _ _ => rfl) ?claim,
    completes_of_body _ (fun _ _ => rfl) fun _ _ hholds => if_pos hholds, completes_of_body _ (fun _ _ => rfl) ?write,
    completes_of_body _ (fun _ _ => rfl) ?commit, ?activate, completes_of_body _ (fun _ _ => rfl) fun _ _ _ => rfl, fun _ _ _ hcode hstatus => if_pos ⟨hcode, hstatus⟩, ?placed⟩
  case outage =>
    intro c s ⟨hlast, hfirst⟩
    exact if_neg (by omega)
  case deferred =>
    intro c s _
    dsimp only
    split
    · rfl
    · cases (lastFinished s c.session).find? fun f => f.tag == u16 c.pay 0 <;> rfl
  case subscribe =>
    intro c s ⟨heven, hlow⟩
    refine (if_neg (by omega)).trans ?_
    split
    · rw [List.append_nil]
    · rfl
  case claim =>
    intro c s ⟨hlow, hhigh, hzero, hpos, hsize, howner, hclaim, hbusy⟩
    have hrole : ¬((u8 c.pay 0 = 1 ∨ u8 c.pay 0 = 2) ∧ c.owner = false) := by
      rintro ⟨htarget, hno⟩
      simp [Call.owner, howner (by omega)] at hno
    have hargs : ¬(u8 c.pay 0 = 0 ∨ u8 c.pay 0 > 4 ∨ allZero (slice c.pay 1 3) = false ∨ u32 c.pay 4 = 0 ∨ u32 c.pay 4 > targetSize (u8 c.pay 0)) := by
      simp only [hzero, Bool.true_eq_false, false_or]
      omega
    exact (if_neg hrole).trans ((if_neg hargs).trans (if_neg (by simp [hclaim, hbusy])))
  case write =>
    intro c s ⟨hholds, hfits, hcopy⟩
    exact (if_neg (by simp [hholds])).trans ((if_neg (Nat.not_lt.2 hfits)).trans (if_neg (by simp [hcopy])))
  case commit =>
    intro c s ⟨hholds, hcopy, hbusy, hnext, hpos, hwindow, htotal⟩
    have hargs : ¬(u32 c.pay 0 ≠ s.hif.nextOffset ∨ u32 c.pay 4 = 0 ∨ u32 c.pay 4 > 65536 ∨
        u32 c.pay 0 + u32 c.pay 4 > (s.hif.claim.map Claim.total).getD 0) := by omega
    exact (if_neg (by simp [hholds])).trans ((if_neg (by simp [hcopy, hbusy])).trans (if_neg hargs))
  case activate =>
    intro m s c h hbusy hroom
    obtain ⟨-, hmailbox, hcode, -, -⟩ := asked_iff h
    simp only [exec, execSysFwActivate]
    rw [serve_of_asked _ h]
    simp only [hbusy, defer, if_neg (Nat.not_le.2 hroom), hmailbox, hcode, Bool.false_eq_true, if_false, if_true]
  case placed =>
    intro m e a s ha hp hw hr
    simp only [flushEntries, ha, hp, hw, hr, Bool.false_eq_true, if_false]
    rfl

end Sys2Proof.Machine
end

section
/-! PROOFS. The family 03_configuration: where the rollback counters rise (R104, R625), the stack under staged changes and under a new base (R95 to R104), the CFG commands (R106 to R109), and the end of a validation (R89, R103, R105, R107). -/

namespace Sys2Proof.Machine

/-! ## Where the rollback counters rise (R104, R625, R669, R670) -/

/-- What one command keeps from a state: the queue, counters no lower than now, and each side's counters equal where it must stand still. -/
def commandRef (s : State) (fwFixed cfgFixed : Prop) : KeepsRef where
  queue := s.pending
  fw := s.sec.fwCounter
  cfg := s.sec.cfgCounter
  key := s.sec.keyCounter
  fwFixed := fwFixed
  cfgFixed := cfgFixed
  canonical := False
  sized := False

theorem keeps_commandRef (s : State) (fwFixed cfgFixed : Prop) : Keeps (commandRef s fwFixed cfgFixed) s := by
  have still : ∀ {fixed : Prop} {a : Nat}, KeepsCounter fixed a a := ⟨Nat.le_refl _, fun _ => rfl⟩
  exact ⟨⟨rfl, still, still, still⟩, False.elim, False.elim⟩

section
variable {c : Instr} {s t : State} (h : exec c s = .next t)
include h

/-- A command that is neither of R104's two moments leaves the configuration counter. -/
theorem exec_cfgCounter_eq (hc : ¬((∃ ticks vref bandgap, c = .rodBoundary ticks vref bandgap) ∨ ∃ p, c = .bootSequence p)) :
    t.sec.cfgCounter = s.sec.cfgCounter := by
  obtain ⟨⟨-, -, ⟨-, hfixed⟩, -⟩, -⟩ :=
    exec_kept (keeps_commandRef s False True) c (fun _ => not_false) (fun hmoment => absurd hmoment hc) t h
  exact hfixed trivial

/-- A command that is neither of R625's two confirmations leaves the firmware and the key counter. -/
theorem exec_fwCounter_keyCounter_eq (hc : ¬(c = .harloporConfirm ∨ ∃ m, c = .startConfirm m)) :
    t.sec.fwCounter = s.sec.fwCounter ∧ t.sec.keyCounter = s.sec.keyCounter := by
  obtain ⟨⟨-, ⟨-, hfw⟩, -, ⟨-, hkey⟩⟩, -⟩ :=
    exec_kept (keeps_commandRef s True False) c (fun hconfirm => absurd hconfirm hc) (fun _ => not_false) t h
  exact ⟨hfw trivial, hkey trivial⟩

end

/-- Settles O5: what every command keeps, compared once with the configuration counter fixed and once with the firmware and key counters fixed. -/
theorem rollbackCountersRiseOnlyWhere : Obligations.RollbackCountersRiseOnlyWhere := by
  intro c s t h
  constructor
  · intro hmoved
    exact Classical.byContradiction fun hc => hmoved (exec_cfgCounter_eq h hc)
  · intro hmoved
    refine Classical.byContradiction fun hc => ?_
    obtain ⟨hfw, hkey⟩ := exec_fwCounter_keyCounter_eq h hc
    exact hmoved.elim (fun hf => hf hfw) fun hk => hk hkey

/-! ## Events leave the configuration and the counters -/

theorem Aside.cfg_eq {s t : State} (h : Aside ⟨s, True, True⟩ t) : t.cfg = s.cfg := by
  obtain ⟨hall, hmessages, -⟩ := h
  replace hmessages := hmessages trivial
  simp only [asideOf, Prod.mk.injEq] at hall
  simp only [messagesOf, Prod.mk.injEq] at hmessages
  generalize t.cfg = c at hall hmessages
  generalize s.cfg = d at hall hmessages
  cases c
  cases d
  simp_all only

theorem Aside.sec_eq {ref : AsideRef} {s : State} (h : Aside ref s) : s.sec = ref.state.sec := by
  obtain ⟨hall, -⟩ := h
  simp only [asideOf, Prod.mk.injEq] at hall
  simp only [hall]

theorem raise_aside_self (code : Nat) (ps : List Nat) (s : State) : Aside ⟨s, True, True⟩ (raise code ps s) :=
  raise_aside code ps s ⟨rfl, fun _ => rfl, fun _ => rfl⟩

@[simp] theorem raise_cfg (code : Nat) (ps : List Nat) (s : State) : (raise code ps s).cfg = s.cfg := (raise_aside_self code ps s).cfg_eq

@[simp] theorem raise_sec (code : Nat) (ps : List Nat) (s : State) : (raise code ps s).sec = s.sec := (raise_aside_self code ps s).sec_eq

@[simp] theorem noteRaise_cfg (counter old new : Nat) (s : State) : (noteRaise counter old new s).cfg = s.cfg := by
  unfold noteRaise
  split
  · exact raise_cfg ..
  · rfl

@[simp] theorem noteRaise_sec (counter old new : Nat) (s : State) : (noteRaise counter old new s).sec = s.sec := by
  unfold noteRaise
  split
  · exact raise_sec ..
  · rfl

/-! ## Configurations that differ in the stack alone -/

/-- The stack holds what it may; everything else of the configuration is as it was. -/
def SameButStack (c d : Cfg) : Prop := d = { c with stack := d.stack }

theorem SameButStack.refl (c : Cfg) : SameButStack c c := rfl

theorem SameButStack.trans {c d e : Cfg} (hcd : SameButStack c d) (hde : SameButStack d e) : SameButStack c e := by
  unfold SameButStack at *
  rw [hde, hcd]

/-- Which swaths are defined does not depend on the stack (R96). -/
theorem SameButStack.swath_eq {c d : Cfg} (h : SameButStack c d) : d.swath = c.swath := by
  rw [h]; rfl

theorem set_getD_self {α : Type} (st : List α) (k : Nat) (d : α) : st.set k (st.getD k d) = st := by
  by_cases h : k < st.length
  · simp [h]
  · exact List.set_eq_of_length_le (Nat.not_lt.1 h)

/-- A level set to a value holds it, where the stack has that level. -/
theorem getD_set_eq_ite {α : Type} {st : List α} {k l : Nat} {v d : α} (hout : st.length ≤ k → v = d) :
    (st.set k v).getD l d = if l = k then v else st.getD l d := by
  simp only [List.getD_eq_getElem?_getD, List.getElem?_set]
  grind

/-! ## Staged changes at a boundary (R95, R97, R99, R102) -/

/-- A change can be made: it clears its level, or sets a swath that is defined (R96). -/
def possible (c : Cfg) (x : Staged) : Bool :=
  match x.swath with
  | none => true
  | some n => (c.swath n).isSome

/-- What a change leaves in its level. -/
def heldAfter (c : Cfg) (x : Staged) (old : Option Nat) : Option Nat := if possible c x then x.swath else old

/-- What a list of changes leaves in a level: what the last one of that level leaves (R99). -/
def levelAfter (c : Cfg) (xs : List Staged) (l : Nat) : Option Nat :=
  match (xs.filter fun x => x.level == l).getLast? with
  | none => c.stack.getD l none
  | some x => heldAfter c x (c.stack.getD l none)

section
variable {c d : Cfg} {x : Staged} {xs : List Staged} {l : Nat}

theorem levelAfter_congr (h : SameButStack c d) (hl : d.stack.getD l none = c.stack.getD l none) : levelAfter d xs l = levelAfter c xs l := by
  have hp : possible d = possible c := by
    funext x
    simp only [possible, h.swath_eq]
  simp only [levelAfter, heldAfter, hl, hp]

theorem levelAfter_cons_other (h : x.level ≠ l) : levelAfter c (x :: xs) l = levelAfter c xs l := by
  simp [levelAfter, h]

theorem supersededBy_iff : supersededBy x xs = true ↔ (xs.filter fun y => y.level == x.level) ≠ [] := by
  simp [supersededBy, List.filter_eq_nil_iff]

theorem no_later_of_not_superseded (h : supersededBy x xs = false) : (xs.filter fun y => y.level == x.level) = [] :=
  Decidable.of_not_not fun hne => Bool.eq_false_iff.1 h (supersededBy_iff.2 hne)

theorem levelAfter_cons_of_superseded (h : supersededBy x xs = true) : levelAfter c (x :: xs) l = levelAfter c xs l := by
  by_cases hl : x.level = l
  · subst hl
    have hlater := supersededBy_iff.1 h
    rw [levelAfter, levelAfter, List.filter_cons_of_pos (by simp), List.getLast?_cons, List.getLast?_eq_some_getLast hlater]
    rfl
  · exact levelAfter_cons_other hl

theorem levelAfter_of_not_superseded (h : supersededBy x xs = false) : levelAfter c xs x.level = c.stack.getD x.level none := by
  simp only [levelAfter, no_later_of_not_superseded h, List.getLast?_nil]

theorem levelAfter_cons_last (h : supersededBy x xs = false) :
    levelAfter c (x :: xs) x.level = heldAfter c x (c.stack.getD x.level none) := by
  rw [levelAfter, List.filter_cons_of_pos (by simp), no_later_of_not_superseded h, List.getLast?_singleton]

end

/-- One change that stands writes what it leaves in its level, and nothing else. -/
theorem applyOne_cfg (x : Staged) (s : State) :
    (applyOne x s).cfg = { s.cfg with stack := s.cfg.stack.set x.level (heldAfter s.cfg x (s.cfg.stack.getD x.level none)) } := by
  by_cases h : (possible s.cfg x && decide (s.cfg.stack.getD x.level none ≠ x.swath)) = true
  · have heq : applyOne x s = raise _ _ _ := if_pos h
    obtain ⟨hp, -⟩ := Bool.and_eq_true_iff.1 h
    rw [heq, raise_cfg, heldAfter, if_pos hp]
  · have heq : applyOne x s = s := if_neg h
    have hsame (hp : possible s.cfg x = true) : s.cfg.stack.getD x.level none = x.swath :=
      Decidable.of_not_not fun hne => h (Bool.and_eq_true_iff.2 ⟨hp, decide_eq_true hne⟩)
    rw [heq, heldAfter]
    split
    · next hp => rw [← hsame hp, set_getD_self]
    · rw [set_getD_self]

/-- Where one change of those that are due leaves the configuration, superseded or not. -/
theorem applyStagedFrom_cons_cfg (x : Staged) (xs : List Staged) (s : State) : ∃ t : State, applyStagedFrom (x :: xs) s = applyStagedFrom xs t ∧
    SameButStack s.cfg t.cfg ∧ t.cfg.stack.length = s.cfg.stack.length ∧
    ∀ l, l < s.cfg.stack.length → levelAfter t.cfg xs l = levelAfter s.cfg (x :: xs) l := by
  refine ⟨_, rfl, ?_⟩
  cases h : supersededBy x xs with
  | true =>
    rw [if_pos rfl, raise_cfg]
    exact ⟨.refl _, rfl, fun l _ => (levelAfter_cons_of_superseded h).symm⟩
  | false =>
    rw [if_neg Bool.false_ne_true, applyOne_cfg]
    refine ⟨rfl, List.length_set, fun l hl => ?_⟩
    by_cases hx : x.level = l
    · subst hx
      rw [levelAfter_of_not_superseded h, levelAfter_cons_last h]
      simp [hl]
    · rw [levelAfter_cons_other hx]
      exact levelAfter_congr rfl (by simp [List.getElem?_set_ne hx])

/-- Due changes leave each level with what the last one of it leaves, and change nothing else of the configuration. -/
theorem applyStagedFrom_cfg (xs : List Staged) (s : State) : SameButStack s.cfg (applyStagedFrom xs s).cfg ∧
    (applyStagedFrom xs s).cfg.stack.length = s.cfg.stack.length ∧
    ∀ l, l < s.cfg.stack.length → (applyStagedFrom xs s).cfg.stack.getD l none = levelAfter s.cfg xs l := by
  induction xs generalizing s with
  | nil => exact ⟨.refl _, rfl, fun _ _ => rfl⟩
  | cons x xs ih =>
    obtain ⟨t, heq, hsame, hlength, hlevels⟩ := applyStagedFrom_cons_cfg x xs s
    obtain ⟨hsame', hlength', hlevels'⟩ := ih t
    rw [heq]
    exact ⟨hsame.trans hsame', hlength'.trans hlength, fun l hl => (hlevels' l (hlength ▸ hl)).trans (hlevels l hl)⟩

/-- Settles O20, by induction on the changes that are due: each is superseded by a later one of its level, or is the last and writes its level. -/
theorem stagedSwathsApplyLastOfTheirLevel : Obligations.StagedSwathsApplyLastOfTheirLevel := by
  refine ⟨fun s h => if_pos h, ?applied, ?relevelled⟩
  case applied =>
    intro s h
    have heq : applyStaged s = _ := if_neg (Bool.eq_false_iff.1 h)
    rw [heq]
    obtain ⟨hsame, hlength, hlevels⟩ := applyStagedFrom_cfg ((s.cfg.staged.filter fun x => decide (x.boundary ≤ s.cycle)).map (relevel s))
      { s with cfg := { s.cfg with staged := s.cfg.staged.filter fun x => decide (s.cycle < x.boundary) } }
    refine ⟨hsame, hlength, fun l hl => (hlevels l hl).trans ?_⟩
    unfold levelAfter
    generalize List.getLast? _ = last
    cases last with
    | none => rfl
    | some x =>
      cases hx : x.swath with
      | none => simp only [heldAfter, possible, hx, if_true]
      | some n => simp only [heldAfter, possible, hx]; rfl
  case relevelled =>
    intro s x
    constructor
    · intro h
      simp only [relevel, h]
    · intro n w h hw
      simp only [relevel, h, hw]

/-! ## A base that becomes active (R88, R96, R104) -/

/-- A swath exists at a level (R104); that it must stand at the level its header names now is log 18. -/
def existsAt (c : Cfg) (l n : Nat) : Bool :=
  match c.swath n with
  | none => false
  | some w => w.level == l

/-- What a level keeps under the swaths of a configuration: its swath, if that exists there. -/
def levelKept (c : Cfg) (l : Nat) : Option Nat := (c.stack.getD l none).filter (existsAt c l)

theorem levelKept_eq_match (c : Cfg) (l : Nat) : levelKept c l =
    match c.stack.getD l none with
    | none => none
    | some n => match c.swath n with
      | some w => if w.level = l then some n else none
      | none => none := by
  unfold levelKept
  cases c.stack.getD l none with
  | none => rfl
  | some n => cases hw : c.swath n <;> simp [Option.filter_some, existsAt, hw]

theorem SameButStack.existsAt_eq {c d : Cfg} (h : SameButStack c d) : existsAt d = existsAt c := by
  funext l n
  simp only [existsAt, h.swath_eq]

theorem levelKept_of_out_of_stack {c : Cfg} {l : Nat} (h : c.stack.length ≤ l) : levelKept c l = none := by
  simp [levelKept, h]

/-- What checking a level does: the level keeps all it holds, or the swath that no longer exists there leaves it with an event. -/
theorem recheckLevel_cases (l : Nat) (s : State) :
    (recheckLevel l s = s ∧ levelKept s.cfg l = s.cfg.stack.getD l none) ∨
    (∃ n, recheckLevel l s = raise 0x0203 [l, n] { s with cfg := { s.cfg with stack := s.cfg.stack.set l none } } ∧ levelKept s.cfg l = none) := by
  cases hl : s.cfg.stack.getD l none with
  | none => exact .inl ⟨by simp only [recheckLevel, hl], by rw [levelKept, hl, Option.filter_none]⟩
  | some n =>
    have heq : recheckLevel l s = if existsAt s.cfg l n = true then s
        else raise 0x0203 [l, n] { s with cfg := { s.cfg with stack := s.cfg.stack.set l none } } := by
      simp only [recheckLevel, hl]
      rfl
    rw [heq, levelKept, hl, Option.filter_some]
    split
    · exact .inl ⟨rfl, rfl⟩
    · exact .inr ⟨n, rfl, rfl⟩

theorem recheckLevel_cfg (l : Nat) (s : State) :
    (recheckLevel l s).cfg = { s.cfg with stack := s.cfg.stack.set l (levelKept s.cfg l) } := by
  obtain ⟨heq, hkept⟩ | ⟨n, heq, hkept⟩ := recheckLevel_cases l s
  · rw [heq, hkept, set_getD_self]
  · rw [heq, hkept, raise_cfg]

@[simp] theorem recheckLevel_sec (l : Nat) (s : State) : (recheckLevel l s).sec = s.sec := by
  obtain ⟨heq, -⟩ | ⟨n, heq, -⟩ := recheckLevel_cases l s
  · rw [heq]
  · rw [heq, raise_sec]

@[simp] theorem settleTrim_cfg (s : State) : (settleTrim s).cfg = s.cfg := by
  unfold settleTrim
  split <;> rfl

@[simp] theorem settleTrim_sec (s : State) : (settleTrim s).sec = s.sec := by
  unfold settleTrim
  split <;> rfl

/-- The levels of a list are checked one after another. -/
def recheckLevels (ls : List Nat) (s : State) : State := ls.foldl (fun s l => recheckLevel l s) s

theorem recheckLevel_sameButStack (l : Nat) (s : State) : SameButStack s.cfg (recheckLevel l s).cfg := by
  rw [recheckLevel_cfg]; rfl

theorem recheckLevel_level (k l : Nat) (s : State) :
    (recheckLevel k s).cfg.stack.getD l none = if l = k then levelKept s.cfg k else s.cfg.stack.getD l none := by
  rw [recheckLevel_cfg]
  exact getD_set_eq_ite levelKept_of_out_of_stack

/-- A level keeps the same whether it, or another one, has been checked before. -/
theorem levelKept_recheckLevel (k l : Nat) (s : State) : levelKept (recheckLevel k s).cfg l = levelKept s.cfg l := by
  rw [levelKept, (recheckLevel_sameButStack k s).existsAt_eq, recheckLevel_level]
  split
  · next h => rw [h, levelKept, Option.filter_filter, ← h]; simp
  · rfl

/-- The levels checked keep what they may, the others all they hold, and nothing else changes. -/
theorem recheckLevels_cfg (ls : List Nat) (s : State) : SameButStack s.cfg (recheckLevels ls s).cfg ∧ (recheckLevels ls s).sec = s.sec ∧
    ∀ l, (recheckLevels ls s).cfg.stack.getD l none = if l ∈ ls then levelKept s.cfg l else s.cfg.stack.getD l none := by
  induction ls generalizing s with
  | nil => exact ⟨.refl _, rfl, fun _ => (if_neg List.not_mem_nil).symm⟩
  | cons k ls ih =>
    obtain ⟨hsame, hsec, hlevels⟩ := ih (recheckLevel k s)
    refine ⟨(recheckLevel_sameButStack k s).trans hsame, hsec.trans (recheckLevel_sec k s), fun l => (hlevels l).trans ?_⟩
    rw [levelKept_recheckLevel, recheckLevel_level]
    by_cases hk : l = k
    · simp [hk]
    · simp [hk]

/-- A base in force before its stack is checked: loaded swaths of other bases are gone, replaced triggers count anew, and the counter has risen to the image's floor. -/
def withBase (im : BaseImage) (slot : Nat) (s : State) : State :=
  { s with
    cfg := { s.cfg with
      base := some im, active := slot, nextBase := none, borrowed := false
      triggers := s.cfg.triggers.filter fun e => s.cfg.baseValue 0x0202 e.1 == ({ s.cfg with base := some im } : Cfg).baseValue 0x0202 e.1
      loaded := s.cfg.loaded.filter fun w => slice w.header 32 32 == im.hash }
    sec := { s.sec with cfgCounter := max s.sec.cfgCounter im.rollbackFloor } }

/-- A base becomes active: it is in force, with its events raised, and then the four levels are checked. -/
theorem becomeActive_eq (im : BaseImage) (slot : Nat) (preserving : Bool) (s : State) :
    ∃ u : State, becomeActive im slot preserving s = settleTrim (recheckLevels [0, 1, 2, 3] u) ∧
      u.cfg = (withBase im slot s).cfg ∧ u.sec = (withBase im slot s).sec :=
  ⟨noteRaise 2 s.sec.cfgCounter (withBase im slot s).sec.cfgCounter (raise 0x0204 [slot, im.version, flag preserving 0] (withBase im slot s)),
    by simp only [becomeActive, recheckLevels, List.foldl_cons, List.foldl_nil, withBase],
    (noteRaise_cfg ..).trans (raise_cfg ..), (noteRaise_sec ..).trans (raise_sec ..)⟩

/-- Settles O21: the new base is set, its events leave the configuration alone, and each of the four levels is checked once. -/
theorem becomingActiveKeepsTheCounterAndTheStack : Obligations.BecomingActiveKeepsTheCounterAndTheStack := by
  intro im slot preserving s _ t ht
  obtain ⟨u, heq, hcfg, hsec⟩ := becomeActive_eq im slot preserving s
  obtain ⟨hsame, hkeep, hlevels⟩ := recheckLevels_cfg [0, 1, 2, 3] u
  have htcfg : t.cfg = (recheckLevels [0, 1, 2, 3] u).cfg := by rw [ht, heq, settleTrim_cfg]
  have htsec : t.sec = (withBase im slot s).sec := by rw [ht, heq, settleTrim_sec, hkeep, hsec]
  rw [← htcfg, hcfg] at hsame hlevels
  refine ⟨by rw [htsec]; rfl, by rw [htsec]; rfl, by rw [htsec]; rfl, hsame, fun l hl => ?_⟩
  have hmem : l ∈ [0, 1, 2, 3] := by simp only [List.mem_cons, List.not_mem_nil, or_false]; omega
  rw [hlevels l, if_pos hmem, hsame.swath_eq]
  exact levelKept_eq_match _ l

/-! ## The CFG commands (R106 to R109) -/

/-- With the slot free and room for a deferred command, a validation starts and is accepted as a job of its own (R91, R107). -/
theorem serve_startValidation_of_asked {m code role : Nat} {lenOk : Nat → Bool} {c : Call} {activate : Bool} {s : State}
    (h : asked s m code role lenOk c = true) (hbusy : targetBusy s 2 = false) (hroom : s.mail.deferred.length < 16) :
    serve code role lenOk (fun c s => startValidation c activate s) m s = answer m { status := 1, job := some s.mail.jobs } { s with
      mail := { s.mail with
        jobs := s.mail.jobs + 1
        deferred := s.mail.deferred ++
          [{ job := s.mail.jobs, code := code, tag := c.req.hdr.tag, session := c.session, who := c.req.who, mailbox := m,
             port := c.req.port, vid := c.req.vid, owner := c.owner, object := s.inactiveCfg }] }
      cfg := { s.cfg with validating := some { slot := s.inactiveCfg, activate := activate, job := s.mail.jobs } } } := by
  obtain ⟨-, hmailbox, hcode, -, -⟩ := asked_iff h
  rw [serve_of_asked _ h]
  simp only [startValidation, hbusy, defer, if_neg (Nat.not_le.2 hroom), hmailbox, hcode, Bool.false_eq_true, if_false, if_true]

/-- A swath that the checks of R93 pass takes the place of the loaded one of its number (R96, R108). -/
theorem loadSwath_of_passed {c : Call} {b : BaseImage} {k : Claim} {s : State} {w : Swath} {o : Outcome}
    (ho : checkSwath b.placed s.cfg.defined (u8 c.pay 0) b.hash k.data none = o) (hpassed : o.step = 0) (hw : parseSwath false k.data = some w) :
    loadSwath c b k s =
      ({ s with cfg := { s.cfg with report := some o.report, loaded := (s.cfg.loaded.filter fun x => x.number != u8 c.pay 0) ++ [w] } }, ok []) := by
  simp only [loadSwath, ho, hpassed, hw, if_true]

/-- Nothing is wrong with the source, the reserved byte and the offset of a CFG.READ (R106). -/
theorem cfgRead_args {src reserved offset : Nat} {v : List Byte} (hsrc : src ≤ 1) (hreserved : reserved = 0)
    (hoff : offset < v.length ∨ offset = 0 ∧ v = []) :
    ¬(src > 1 ∨ reserved ≠ 0 ∨ (v.length ≤ offset ∧ ¬(offset = 0 ∧ v.length = 0))) := by
  rw [← List.length_eq_zero_iff] at hoff
  omega

/-- Settles O17, verb by verb: none of the body's refusals applies, so that its last branch runs. -/
theorem cfgVerbsComplete : Obligations.CfgVerbsComplete := by
  refine ⟨reads_of_body _ (fun _ _ => rfl) fun _ _ _ => rfl, fun r => reads_of_body _ (fun _ _ => rfl) ?report,
    fun v => reads_of_body _ (fun _ _ => rfl) ?readBase, fun v => reads_of_body _ (fun _ _ => rfl) ?readInForce,
    fun w => reads_of_body _ (fun _ _ => rfl) ?readSwath,
    fun _ _ _ h hbusy hroom => congrArg Host.Outcome.next (serve_startValidation_of_asked h hbusy hroom),
    fun _ _ _ h hbusy hroom => congrArg Host.Outcome.next (serve_startValidation_of_asked h hbusy hroom),
    fun b k w o => completes_of_body _ (fun _ _ => rfl) ?load,
    fun w => completes_of_body _ (fun _ _ => rfl) ?set, completes_of_body _ (fun _ _ => rfl) ?clear, completes_of_body _ (fun _ _ => rfl) ?delete⟩
  case report =>
    intro c s hr
    simp only [hr]
  case readBase =>
    intro c s ⟨hsrc, hv, hzero, hoff⟩
    simp only [if_pos hsrc, hv, if_neg (cfgRead_args (Nat.le_trans (Nat.le_of_eq hsrc) (Nat.zero_le 1)) hzero hoff)]
    rfl
  case readInForce =>
    intro c s ⟨hsrc, hv, hzero, hoff⟩
    have hforce : ¬u8 c.pay 0 = 0 := by omega
    simp only [if_neg hforce, hv, if_neg (cfgRead_args (Nat.le_of_eq hsrc) hzero hoff)]
    rfl
  case readSwath =>
    intro c s ⟨hw, hzero⟩
    simp only [hw, hzero, if_true]
  case load =>
    intro c s ⟨hbase, hclaim, hholds, htarget, hflag, hcarried, hnumber, hzero, hstack, hcomplete, ho, hpassed, hw⟩
    rw [hbase, hclaim]
    refine (if_neg ?_).trans ((if_neg ?_).trans ((if_neg ?_).trans ((if_neg ?_).trans (loadSwath_of_passed ho hpassed hw))))
    · simp [hholds, htarget, hflag, hcarried]
    · simp [hzero, hnumber]
    · simp [hstack]
    · simp [claimComplete, hcomplete]
  case set =>
    intro c s ⟨hw, hzero⟩
    simp only [hw, hzero, if_true, stageSet, stageSwath]
  case clear =>
    intro c s ⟨hlevel, hzero⟩
    exact if_neg (by simp [hzero, hlevel])
  case delete =>
    intro c s ⟨hzero, hcarried, hstack, hloaded⟩
    exact (if_neg (by simp only [hzero, hcarried, hloaded, Bool.true_eq_false, Bool.false_eq_true, or_self, not_false_eq_true])).trans
      (if_neg (by simp [hstack]))

/-! ## The end of a validation (R89, R103, R105, R107) -/

/-- The slot whose image has passed is validated, and the report says so (R107). -/
def validatedState (v : Validation) (o : Outcome) (s : State) : State :=
  { s with cfg := { s.cfg with validating := none, report := some o.report } }.setCfgSlot v.slot { s.cfgSlot v.slot with state := .validated }

section
variable {s : State} {v : Validation} {o : Outcome} {im : BaseImage} (hv : s.cfg.validating = some v)
include hv

theorem exec_configValidationComplete_empty (hempty : (s.cfgSlot v.slot).state.code = 0) :
    exec .configValidationComplete s = .next (complete v.job (bad 8) { s with cfg := { s.cfg with validating := none } }) := by
  simp only [exec, execConfigValidationComplete, hv, hempty, if_true]

variable (hcode : (s.cfgSlot v.slot).state.code ≠ 0) (himage : validateImage s (s.cfgSlot v.slot) = (o, im))
include hcode himage

theorem exec_configValidationComplete_failed (ho : o.step ≠ 0) :
    exec .configValidationComplete s = .next (complete v.job o.answer (raise 0x0205 [v.slot, o.step, o.status, o.offset]
      { s with cfg := { s.cfg with validating := none, report := some o.report } })) := by
  simp only [exec, execConfigValidationComplete, hv, himage, if_neg hcode, if_neg ho]

/-- What follows an image that passes, by the command and the mode (R103, R625). -/
theorem exec_configValidationComplete_passed (ho : o.step = 0) :
    exec .configValidationComplete s = .next (
      if v.activate = true ∧ s.hif.mode ≠ .running then complete v.job (bad 8) (validatedState v o s)
      else if v.activate = true then stageActivation im v (validatedState v o s)
      else complete v.job (ok []) (validatedState v o s)) := by
  simp only [exec, execConfigValidationComplete, hv, himage, if_neg hcode, if_pos ho, validatedState]
  split
  · rfl
  · split <;> rfl

end

theorem State.setCfgSlot_base (s : State) (i : Nat) (x : ImageSlot) : (s.setCfgSlot i x).cfg.base = s.cfg.base := by
  unfold State.setCfgSlot
  split <;> rfl

theorem validatedState_base (v : Validation) (o : Outcome) (s : State) : (validatedState v o s).cfg.base = s.cfg.base := State.setCfgSlot_base ..

theorem validatedState_cycle (v : Validation) (o : Outcome) (s : State) : (validatedState v o s).cycle = s.phase.now.cycle := by
  rw [validatedState, State.cycle, State.setCfgSlot_phase]

/-- An image whose claim records are those of the base takes effect at the next boundary (R103). -/
theorem stageActivation_of_sameClaims {s : State} {b im : BaseImage} {v : Validation} (hb : s.cfg.base = some b)
    (hsame : sameClaims b.records im.records = true) :
    stageActivation im v s = complete v.job (ok (le 4 im.version ++ [1] ++ zeros 3 ++ cycle64 (s.cycle + 1)))
      { s with cfg := { s.cfg with nextBase := some im } } := by
  simp only [stageActivation, hb, hsame, if_true]
  rfl

/-- Any other image waits for a restart, whose boundary the completion will name (R103). -/
theorem stageActivation_of_otherClaims {s : State} {im : BaseImage} {v : Validation}
    (hother : ∀ b, s.cfg.base = some b → sameClaims b.records im.records = false) :
    stageActivation im v s = complete v.job (ok (le 4 im.version ++ [0] ++ zeros 3 ++ cycle64 (s.cycle + 1)))
      { s with cfg := { s.cfg with restartJob := some v.job } } := by
  cases hb : s.cfg.base with
  | none => simp only [stageActivation, hb]; rfl
  | some b => simp only [stageActivation, hb, hother b hb]; rfl

theorem length_le (k n : Nat) : (le k n).length = k := by
  induction k generalizing n with
  | zero => rfl
  | succ k ih => exact congrArg (· + 1) (ih (n / 256))

/-- A completion that waits for a restart names the restart's boundary in its last field (R103, R106). -/
theorem restartAnswer_of_restartJob {s : State} {d : Deferred} (h : s.cfg.restartJob = some d.job) {ver : Nat} {f last : List Byte} (hf : f.length = 1) :
    restartAnswer d (ok (le 4 ver ++ f ++ zeros 3 ++ last)) s = ok (le 4 ver ++ f ++ zeros 3 ++ cycle64 (s.phase.now.cycle + 2)) := by
  have hlength : (le 4 ver ++ f ++ zeros 3).length = 8 := by
    simp only [List.length_append, length_le, hf, zeros, List.length_replicate]
  rw [restartAnswer, if_pos h, ok, ok, List.take_left' hlength, State.cycle]

/-- Settles O18, by what the slot holds, the verdict on its image, the command and the mode. -/
theorem configValidationCompletes : Obligations.ConfigValidationCompletes := by
  refine ⟨?idle, fun s v hv => exec_configValidationComplete_empty hv, ?validate, ?sameClaims, ?otherClaims, ?delivered, fun _ _ => rfl,
    ?notRunning, fun s v o im hv hcode himage => exec_configValidationComplete_failed hv hcode himage⟩
  case idle =>
    intro s h
    simp only [exec, execConfigValidationComplete, h]
  case validate =>
    intro s v o im hv hcode himage ho ha
    rw [exec_configValidationComplete_passed hv hcode himage ho, ha, if_neg (by simp), if_neg Bool.false_ne_true]
    rfl
  case sameClaims =>
    intro s v o im b hv hcode himage ho ha hmode hb hsame
    refine ⟨{ validatedState v o s with cfg := { (validatedState v o s).cfg with nextBase := some im } }, ?_, ?_⟩
    · rw [exec_configValidationComplete_passed hv hcode himage ho, if_neg (by simp [hmode]), if_pos ha,
        stageActivation_of_sameClaims ((validatedState_base v o s).trans hb) hsame, validatedState_cycle]
    · unfold validatedState State.setCfgSlot
      split <;> rfl
  case otherClaims =>
    intro s v o im hv hcode himage ho ha hmode hother
    refine ⟨{ validatedState v o s with cfg := { (validatedState v o s).cfg with restartJob := some v.job } },
      cycle64 (s.phase.now.cycle + 1), length_le .., ?_, ?_⟩
    · rw [exec_configValidationComplete_passed hv hcode himage ho, if_neg (by simp [hmode]), if_pos ha,
        stageActivation_of_otherClaims (by rwa [validatedState_base]), validatedState_cycle]
    · unfold validatedState State.setCfgSlot
      split <;> rfl
  case delivered =>
    exact fun s d h => ⟨fun ver f last hf => restartAnswer_of_restartJob h hf, fun hgone => if_pos ⟨h, hgone⟩⟩
  case notRunning =>
    intro s v o im hv hcode himage ho ha hmode
    rw [exec_configValidationComplete_passed hv hcode himage ho, if_pos ⟨ha, hmode⟩]
    rfl

end Sys2Proof.Machine
end

section
/-! PROOFS. The family 04_phase_timebase: crossings and the timebase states (R111 to R129), their timers (R118, R120, R132, R133), cycle marks (R131 to R136), and the PHASE verbs (R139 to R141). -/

namespace Sys2Proof.Machine

/-! ## What entering a state changes of the timebase (R118, R132, R716) -/

/-- Events leave the timebase alone. -/
theorem Aside.phase_eq {ref : AsideRef} {s : State} (h : Aside ref s) : s.phase = ref.state.phase := congrArg Prod.fst h.1

@[simp] theorem raise_phase (code : Nat) (ps : List Nat) (s : State) : (raise code ps s).phase = s.phase := (raise_aside_self code ps s).phase_eq

/-- Following anew changes the chip followed and the count of rods behind it. -/
theorem refollow_phase (s : State) :
    ∃ follows behind, (refollow s).phase = { s.phase with follows := follows, behindRods := behind } := by
  unfold refollow
  dsimp only
  split
  · exact ⟨_, _, rfl⟩
  · exact ⟨_, _, raise_phase ..⟩

/-- A chip that is no candidate gives up MASTER, its quiet rods and its followed chip; nothing else of the timebase changes. -/
theorem dropMaster_phase (s : State) : ∃ master quiet heard follows behind, (dropMaster s).phase = { s.phase with
    master := master, quietCandidates := quiet, candidateHeard := heard, follows := follows, behindRods := behind } := by
  unfold dropMaster
  split
  · exact ⟨_, _, _, _, _, rfl⟩
  · obtain ⟨follows, behind, h⟩ := refollow_phase { s with phase := { s.phase with master := false, quietCandidates := 0, candidateHeard := true } }
    exact ⟨_, _, _, follows, behind, h⟩

section
variable (st : TbState) (s : State)

/-- Entering a state begins its counts anew, and may end this chip's time as master. -/
theorem enterState_phase : ∃ master quiet heard follows behind, (enterState st s).phase = { s.phase with
    state := st, rodsInState := 0, bigErrors := 0, missing := 0
    master := master, quietCandidates := quiet, candidateHeard := heard, follows := follows, behindRods := behind } :=
  dropMaster_phase { s with phase := { s.phase with state := st, rodsInState := 0, bigErrors := 0, missing := 0 } }

@[simp] theorem enterState_state : (enterState st s).phase.state = st := by
  obtain ⟨_, _, _, _, _, h⟩ := enterState_phase st s
  rw [h]

@[simp] theorem enterState_rodsInState : (enterState st s).phase.rodsInState = 0 := by
  obtain ⟨_, _, _, _, _, h⟩ := enterState_phase st s
  rw [h]

@[simp] theorem enterState_now : (enterState st s).phase.now = s.phase.now := by
  obtain ⟨_, _, _, _, _, h⟩ := enterState_phase st s
  rw [h]

end

/-! ## Qualifying a crossing (R111, R129) -/

section
variable {phase stamp16 interval peak : Nat} {s : State}

theorem inHoldoff_of_lastValid {x : PhaseInput} {at_ : Instant} (hv : x.lastValid = some at_) (h : 4 * interval < x.lastPeriod) :
    inHoldoff x interval = true := by
  simp [inHoldoff, hv, h]

theorem crossingValid_iff : crossingValid interval peak = true ↔ 200 ≤ peak ∧ 10 ^ 9 ≤ 66 * interval ∧ 45 * interval ≤ 10 ^ 9 := by
  simp [crossingValid, and_assoc]

theorem exec_zeroCrossing_of_inHoldoff (h : inHoldoff (s.input (phase - 1)) interval = true) :
    exec (.zeroCrossing phase stamp16 interval peak) s = .next s :=
  if_pos h

/-- A crossing that is counted but not valid stores its peak and forgets the last valid one; on the tracked phase it breaks the run of good crossings. -/
theorem exec_zeroCrossing_of_invalid (hh : inHoldoff (s.input (phase - 1)) interval = false) (hv : crossingValid interval peak = false) {s0 : State}
    (h0 : s0 = s.setInput (phase - 1) { s.input (phase - 1) with peak := low16 peak }) {s1 : State}
    (h1 : s1 = s0.setInput (phase - 1) { s0.input (phase - 1) with lastValid := none }) :
    exec (.zeroCrossing phase stamp16 interval peak) s =
      .next { s1 with phase := { s1.phase with good := if phase - 1 = s.tracked then 0 else s.phase.good } } := by
  subst h0 h1
  refine (if_neg (Bool.eq_false_iff.1 hh)).trans ((if_neg (Bool.eq_false_iff.1 hv)).trans ?_)
  split <;> rfl

/-- A valid crossing enters its detector's history; the phase tracked after that decides what it is compared with. -/
theorem exec_zeroCrossing_of_valid (hh : inHoldoff (s.input (phase - 1)) interval = false) (hv : crossingValid interval peak = true)
    {at16 : Int} (hat : at16 = ((stamp16 : Int) - 16 * s.cfg.delayComp) % 1048576) {t : State}
    (ht : t = takeBack (phase - 1) (takeCrossing (phase - 1) (at16.toNat / 16) interval
      (s.setInput (phase - 1) { s.input (phase - 1) with peak := low16 peak }))) :
    exec (.zeroCrossing phase stamp16 interval peak) s = if phase - 1 = t.tracked then .next (referenceCrossing
      (wrap16 (at16 - 16 * s.cfg.offset - 16 * (if t.phase.refSub.isSome then t.phase.subAngle else 0))) t) else .next (checkRotation t) := by
  subst hat ht
  exact (if_neg (Bool.eq_false_iff.1 hh)).trans (if_pos hv)

end

/-- Settles O22, by whether the crossing is in the holdoff, is valid, and is of the tracked phase. -/
theorem crossingsAreQualified : Obligations.CrossingsAreQualified := by
  refine ⟨?holdoff, ?invalid, ?valid⟩
  case holdoff => exact fun _ _ _ _ _ _ hv h => exec_zeroCrossing_of_inHoldoff (inHoldoff_of_lastValid hv h)
  case invalid =>
    intro phase stamp16 interval peak s hh h
    have hv : crossingValid interval peak = false := by
      rw [Bool.eq_false_iff, Ne, crossingValid_iff]
      omega
    exact ⟨_, exec_zeroCrossing_of_invalid hh hv rfl rfl, rfl, rfl⟩
  case valid =>
    intro phase stamp16 interval peak s hh hp hlow hhigh at16 t hat ht
    have hexec := exec_zeroCrossing_of_valid (stamp16 := stamp16) hh (crossingValid_iff.2 ⟨hp, hlow, hhigh⟩) hat ht
    exact ⟨fun h => by rw [hexec, if_pos h], fun h => by rw [hexec, if_neg h]⟩

/-! ## Valid crossings of the tracked phase (R113, R118 to R122) -/

section
variable {e16 e : Int} {s s1 : State} (he : e = wrapTu (divRound e16 16))
  (h1 : s1 = { s with phase := { s.phase with good := s.phase.good + 1, missing := 0, sinceValid := 0, lastE := e } })
include he h1

theorem referenceCrossing_of_acquire (h : s.phase.state = .acquire) :
    referenceCrossing e16 s = if s.phase.applied = true ∧ 7 ≤ s.phase.good then acquireLock e s1 else s1 := by
  subst he h1
  simp only [referenceCrossing, h, ge_iff_le, Nat.succ_le_succ_iff]

theorem referenceCrossing_of_locked (h : s.phase.state = .locked) : referenceCrossing e16 s = lockedCrossing e s1 := by
  subst he h1
  simp only [referenceCrossing, h]

theorem referenceCrossing_of_slew (h : s.phase.state = .slew) : referenceCrossing e16 s = slewCrossing e s1 := by
  subst he h1
  simp only [referenceCrossing, h]

theorem referenceCrossing_of_unlocked (h : s.phase.state = .flywheel ∨ s.phase.state = .nominal) : referenceCrossing e16 s =
    if 7 ≤ s.phase.good then (if e.natAbs ≤ 64 then enterLocked e s1 else enterSlew e s1) else s1 := by
  subst he h1
  rcases h with h | h <;> simp only [referenceCrossing, h, ge_iff_le, Nat.succ_le_succ_iff]

end

section
variable {e : Int} {s : State}

theorem lockedCrossing_of_small (h : e.natAbs ≤ 2048) : lockedCrossing e s = { s with phase := { s.phase with bigErrors := 0 } } :=
  if_neg (Nat.not_lt.2 h)

theorem lockedCrossing_of_first (h : 2048 < e.natAbs) (hb : s.phase.bigErrors = 0) :
    lockedCrossing e s = { s with phase := { s.phase with bigErrors := 1 } } := by
  simp [lockedCrossing, h, hb]

theorem lockedCrossing_of_second (h : 2048 < e.natAbs) (hb : 1 ≤ s.phase.bigErrors) : lockedCrossing e s = enterSlew e s :=
  (if_pos h).trans (if_pos (Nat.succ_le_succ hb))

theorem slewCrossing_of_within (h : e.natAbs ≤ 64) : slewCrossing e s = enterLocked e s := if_pos h

theorem slewCrossing_of_expected (h : 64 < e.natAbs) (hx : (wrapTu (e - s.phase.slewExpected)).natAbs ≤ 2048) :
    slewCrossing e s = { s with phase := { s.phase with bigErrors := 0, slewExpected := slewNext e s.phase.slewFast } } := by
  simp [slewCrossing, Nat.not_le.2 h, Nat.not_lt.2 hx]

theorem slewCrossing_of_first (h : 64 < e.natAbs) (hx : 2048 < (wrapTu (e - s.phase.slewExpected)).natAbs) (hb : s.phase.bigErrors = 0) :
    slewCrossing e s =
      { s with phase := { s.phase with bigErrors := 1, slewExpected := slewNext s.phase.slewExpected s.phase.slewFast } } := by
  simp [slewCrossing, Nat.not_le.2 h, hx, hb]

theorem slewCrossing_of_second (h : 64 < e.natAbs) (hx : 2048 < (wrapTu (e - s.phase.slewExpected)).natAbs) (hb : 1 ≤ s.phase.bigErrors) :
    slewCrossing e s = raiseSlew e { s with phase := { s.phase with
      bigErrors := 0, slewFast := decide (e < 0), slewExpected := slewNext e (decide (e < 0)) } } := by
  simp [slewCrossing, Nat.not_le.2 h, hx, hb]

end

/-- SLEW is entered with its direction fixed by the sign of the error, which the event carries (R121, R138). -/
theorem enterSlew_eq (e : Int) (s : State) {t : State} (ht : t = { enterState .slew s with
      phase := { (enterState .slew s).phase with slewFast := decide (e < 0), slewExpected := slewNext e (decide (e < 0)) } }) :
    enterSlew e s = raise 0x0304 [(e % 4294967296).toNat, if e < 0 then 1 else 0, t.freq] t := by
  subst ht
  simp only [enterSlew, raiseSlew, flag, decide_eq_true_eq, Nat.pow_zero]

/-- Settles O23, by the state in which the crossing comes and its error; the event of each state entered is raised last. -/
theorem timebaseStatesFollowTheirTable : Obligations.TimebaseStatesFollowTheirTable := by
  refine ⟨fun e16 e s s1 he h1 => ?_, ?locked, ?slew⟩
  · have acquire := referenceCrossing_of_acquire he h1
    have locked := referenceCrossing_of_locked he h1
    have slew := referenceCrossing_of_slew he h1
    have unlocked := referenceCrossing_of_unlocked he h1
    refine ⟨?acquiring, ?lock, ?small, ?bigFirst, ?bigSecond, ?slewEnds, ?slewExpected, ?offFirst, ?offSecond, ?recovering, ?recovered, ?slews⟩
    case acquiring =>
      intro h hnot
      rw [acquire h, if_neg]
      rintro ⟨happlied, hgood⟩
      exact hnot.elim (fun hn => by simp [happlied] at hn) (Nat.not_lt.2 hgood)
    case lock =>
      intro h happlied hgood
      refine ⟨_, rfl, ?_⟩
      rw [acquire h, if_pos ⟨happlied, hgood⟩, h1]
      rfl
    case small => exact fun h hs => (locked h).trans (lockedCrossing_of_small hs)
    case bigFirst => exact fun h hs hb => (locked h).trans (lockedCrossing_of_first hs (by rw [h1]; exact hb))
    case bigSecond => exact fun h hs hb => (locked h).trans (lockedCrossing_of_second hs (by rw [h1]; exact hb))
    case slewEnds => exact fun h hs => (slew h).trans (slewCrossing_of_within hs)
    case slewExpected =>
      intro h hs hx
      rw [slew h, slewCrossing_of_expected hs (by rwa [h1]), h1]
    case offFirst =>
      intro h hs hx hb
      rw [slew h, slewCrossing_of_first hs (by rwa [h1]) (by rwa [h1]), h1]
    case offSecond => exact fun h hs hx hb => (slew h).trans (slewCrossing_of_second hs (by rwa [h1]) (by rwa [h1]))
    case recovering => exact fun h hg => (unlocked h).trans (if_neg (Nat.not_le.2 hg))
    case recovered => exact fun h hg hs => (unlocked h).trans ((if_pos hg).trans (if_pos hs))
    case slews => exact fun h hg hs => (unlocked h).trans ((if_pos hg).trans (if_neg (Nat.not_le.2 hs)))
  case locked =>
    exact fun e s => ⟨enterState .locked s, rfl, enterState_state .., enterState_rodsInState .., enterState_now ..⟩
  case slew =>
    exact fun e s => ⟨_, enterSlew_eq e s rfl, enterState_state .slew s, rfl, enterState_now .slew s⟩

/-! ## Cycle marks compared (R134, R136) -/

section
variable {s s1 : State} {d : Delivered}

theorem exec_cycleMark_of_none (h : takeDelivered 0x01 s = none) : exec .cycleMark s = .next s := by
  change execCycleMark s = _
  simp only [execCycleMark, h]

/-- A mark of this chip, and a second one of a sender for a rod, is taken and not compared (R348). -/
theorem exec_cycleMark_of_seen (ht : takeDelivered 0x01 s = some (d, s1)) (h : (markOf d.frame.body).uid = ownUid ∨
    s1.phase.markSenders.contains ((markOf d.frame.body).uid * 2 ^ 48 + (markOf d.frame.body).at_.cycle) = true) :
    exec .cycleMark s = .next s1 := by
  change execCycleMark s = _
  simp only [execCycleMark, ht, if_pos h]

/-- Any other mark is heard, and then compared as this chip's role asks. -/
theorem exec_cycleMark_of_new {t : State} {m : Mark} (ht : takeDelivered 0x01 s = some (d, s1)) (hm : markOf d.frame.body = m) (hown : m.uid ≠ ownUid)
    (hnew : s1.phase.markSenders.contains (m.uid * 2 ^ 48 + m.at_.cycle) = false)
    (h : t = hearMark m { s1 with phase := { s1.phase with
      markSenders := (m.uid * 2 ^ 48 + m.at_.cycle) :: s1.phase.markSenders.filter fun x => x / 2 ^ 48 != m.uid } }) :
    exec .cycleMark s = if t.phase.master = true then .next (compareAsMaster m t)
      else if t.phase.follows = some m.uid then .next (compareMaster m (compareAngle m t)) else .next t := by
  subst hm h
  have hnot : ¬((markOf d.frame.body).uid = ownUid ∨
      s1.phase.markSenders.contains ((markOf d.frame.body).uid * 2 ^ 48 + (markOf d.frame.body).at_.cycle) = true) :=
    not_or.2 ⟨hown, Bool.eq_false_iff.1 hnew⟩
  change execCycleMark s = _
  simp only [execCycleMark, ht, if_neg hnot]

end

section
variable {m : Mark} {s : State}

theorem compareMaster_of_no_count (h : s.phase.countValid = false) : compareMaster m s = planStep (cyclesAhead s m) 1 s := if_pos h

theorem compareMaster_of_behind (h : s.phase.countValid = true) (hk : 1 ≤ cyclesAhead s m) :
    compareMaster m s = planStep (cyclesAhead s m) 2 { s with phase := { s.phase with behindRods := 0 } } :=
  (if_neg (by simp [h])).trans (if_pos hk)

theorem compareMaster_of_equal (h : s.phase.countValid = true) (hk : cyclesAhead s m = 0) :
    compareMaster m s = { s with phase := { s.phase with behindRods := 0 } } :=
  (if_neg (by simp [h])).trans ((if_neg (by omega)).trans (if_pos hk))

/-- This chip is ahead: a candidate waits for its master a while, any other chip gives its count up. -/
theorem compareMaster_of_ahead (h : s.phase.countValid = true) (hk : cyclesAhead s m ≤ -1) :
    compareMaster m s = if s.candidate = true ∧ -64 ≤ cyclesAhead s m ∧ s.phase.behindRods ≤ 16 then noteBehind s
      else dropMaster (planStep (cyclesAhead s m) 5 { s with phase := { s.phase with countValid := false, behindRods := 0 } }) :=
  (if_neg (by simp [h])).trans ((if_neg (by omega)).trans (if_neg (by omega)))

end

/-- Settles O25, by whether the mark is new, by this chip's role, and by the cases of R134. -/
theorem cycleMarksAreCompared : Obligations.CycleMarksAreCompared := by
  refine ⟨fun s => exec_cycleMark_of_none, fun s s1 d => exec_cycleMark_of_seen, ?compared, fun m s => ?_, fun _ => rfl⟩
  case compared =>
    intro s s1 t d m ht hm hown hnew h
    have hexec := exec_cycleMark_of_new ht hm hown hnew h
    refine ⟨?takes, ?keeps, ?stranger, ?follower⟩
    case takes =>
      intro hmaster hcase
      rw [hexec, if_pos hmaster, compareAsMaster, if_pos hcase]
    case keeps =>
      intro hmaster hcase
      rw [hexec, if_pos hmaster, compareAsMaster, if_neg hcase]
    case stranger =>
      intro hmaster hf
      rw [hexec, if_neg (Bool.eq_false_iff.1 hmaster), if_neg hf]
    case follower =>
      intro hmaster hf
      rw [hexec, if_neg (Bool.eq_false_iff.1 hmaster), if_pos hf]
  · refine ⟨compareMaster_of_no_count, compareMaster_of_behind, compareMaster_of_equal, ?waits, ?drops⟩
    case waits =>
      intro h hc hlow hk hrods
      rw [compareMaster_of_ahead h hk, if_pos ⟨hc, hlow, hrods⟩]
      rfl
    case drops =>
      intro h hk hnot
      rw [compareMaster_of_ahead h hk, if_neg]
      rintro ⟨hc, hlow, hrods⟩
      rcases hnot with hn | hn | hn
      · simp [hc] at hn
      · omega
      · omega

/-! ## Missing crossings, timeouts and elections (R118, R120, R128, R130 to R133) -/

section
variable {s : State}

theorem exec_referenceCrossingMissing_elsewhere (hl : s.phase.state ≠ .locked) (hs : s.phase.state ≠ .slew) :
    exec .referenceCrossingMissing s = .next s := by
  change execReferenceCrossingMissing s = _
  unfold execReferenceCrossingMissing
  split
  · contradiction
  · contradiction
  all_goals rfl

/-- In LOCKED and SLEW a missing crossing is counted, and the third in a row makes the phase tracked missing. -/
theorem exec_referenceCrossingMissing_tracking (h : s.phase.state = .locked ∨ s.phase.state = .slew) {s1 : State}
    (h1 : s1 = { s with phase := { s.phase with missing := s.phase.missing + 1, good := 0, bigErrors := 0 } })
    {s2 : State} (h2 : s2 = s1.setInput s.tracked { s.input s.tracked with silentRods := 3, presentRods := 0 }) :
    exec .referenceCrossingMissing s = if 2 ≤ s.phase.missing then
      .next (referenceMissing (if (s.input s.tracked).silentRods < 3 ∧ s.tracked ≠ s.cfg.reference then raise 0x0306 [s.tracked + 1] s2 else s2))
      else .next s1 := by
  subst h1 h2
  change execReferenceCrossingMissing s = _
  rcases h with h | h <;> (simp only [execReferenceCrossingMissing, h, ge_iff_le, Nat.succ_le_succ_iff]; rfl)

/-- The mark leaves at angle 8,192, from a mode in which the chip sends frames of its own (R131, R367). -/
theorem exec_cycleMarkSend_of_started (hm : s.hif.mode = .start ∨ s.hif.mode = .running) (hs : s.phase.started = true) {s1 : State}
    (h1 : s1 = s.atAngle 8192) : exec .cycleMarkSend s =
      .next (crossCheck (sendSync (if s.cfg.eligible then sendGroup raise 0x03504C440001 7 0x01 (markBody s1) s1 else s1))) := by
  subst h1
  exact if_pos ⟨decide_eq_true hm, hs⟩

theorem exec_cycleMarkSend_of_silent (h : sendsOwn s = false ∨ s.phase.started = false) : exec .cycleMarkSend s = .next s := by
  refine if_neg ?_
  rintro ⟨hsends, hstarted⟩
  exact h.elim (Bool.eq_false_iff.1 · hsends) (Bool.eq_false_iff.1 · hstarted)

theorem State.atAngle_of_le {a : Nat} (h : s.phase.now.angle ≤ a) :
    s.atAngle a = { s with phase := { s.phase with now := { s.phase.now with angle := a } } } := by
  rw [State.atAngle, Nat.max_eq_right h]

end

/-- Settles O24, command by command, by whether its condition holds. -/
theorem timebaseTimersAndElections : Obligations.TimebaseTimersAndElections := by
  refine ⟨fun s => exec_referenceCrossingMissing_elsewhere, ?counted, ?third, fun s h hr => if_pos ⟨h, hr⟩, ?flywheelRuns,
    fun s h ha ht => if_pos ⟨h, ha, ht⟩, ?acquireRuns, ?nominal, fun s hc hm hq => if_pos ⟨hc, hm, hq⟩, ?notElected, fun _ => rfl,
    fun s hv he hl hq hn => if_pos ⟨hv, he, hl, hq, hn⟩, ?notSeeded, ?sends, fun s => exec_cycleMarkSend_of_silent⟩
  case counted =>
    intro s h hm
    rw [exec_referenceCrossingMissing_tracking h rfl rfl, if_neg (Nat.not_le.2 hm)]
  case third =>
    intro s h hm
    refine ⟨_, _, rfl, rfl, ?_⟩
    rw [exec_referenceCrossingMissing_tracking h rfl rfl, if_pos hm]
    rfl
  case flywheelRuns =>
    intro s h
    refine if_neg ?_
    rintro ⟨hs, hr⟩
    exact h.elim (fun hn => hn hs) (Nat.not_lt.2 hr)
  case acquireRuns =>
    intro s h
    refine if_neg ?_
    rintro ⟨hs, ha, ht⟩
    exact h.elim (fun hn => hn hs) (Or.elim · (Bool.eq_false_iff.1 · ha) (Nat.not_lt.2 ht))
  case nominal => exact fun s => ⟨_, rfl, enterState_state .nominal s, rfl⟩
  case notElected =>
    intro s h
    refine if_neg ?_
    rintro ⟨hc, hm, hq⟩
    simp only [hc, hm, Bool.true_eq_false, Bool.false_eq_true, false_or] at h
    exact Nat.not_lt.2 hq h
  case notSeeded =>
    intro s h
    refine if_neg ?_
    rintro ⟨hv, he, hl, hq, hn⟩
    simp only [hv, he, hl, hn, Bool.true_eq_false, Bool.false_eq_true, false_or, or_false] at h
    exact Nat.not_lt.2 hq h
  case sends => exact fun s hm hs ha => ⟨_, rfl, exec_cycleMarkSend_of_started hm hs (State.atAngle_of_le ha).symm⟩

/-! ## The PHASE verbs (R139 to R141) -/

/-- With room for a deferred command, a measurement is added and accepted as a job of its own (R51, R141). -/
theorem exec_phaseMeasureOffset_of_asked {s : State} {m : Nat} {c : Call} (h : asked s m 0x0304 2 (· == 0) c = true)
    (hroom : s.mail.deferred.length < 16) :
    exec (.phaseMeasureOffset m) s = .next (answer m { status := 1, job := some s.mail.jobs } { s with
      mail := { s.mail with
        jobs := s.mail.jobs + 1
        deferred := s.mail.deferred ++
          [{ job := s.mail.jobs, code := 0x0304, tag := c.req.hdr.tag, session := c.session, who := c.req.who, mailbox := m,
             port := c.req.port, vid := c.req.vid, owner := c.owner, object := 0 }] }
      phase := { s.phase with measures := s.phase.measures ++ [{ job := s.mail.jobs }] } }) := by
  obtain ⟨-, hmailbox, hcode, -, -⟩ := asked_iff h
  refine congrArg Host.Outcome.next ((serve_of_asked _ h).trans ?_)
  simp only [defer, if_neg (Nat.not_le.2 hroom), hmailbox, hcode, if_true]

section
variable {s : State} {x : Measure}

theorem exec_measureOffsetComplete_idle (h : s.phase.measures.find? (measureEnds s) = none) : exec .measureOffsetComplete s = .next s := by
  change execMeasureOffsetComplete s = _
  simp only [execMeasureOffsetComplete, h]

/-- The measurement that ends completes with its mean where it used 256 marks, and as not ready otherwise. -/
theorem exec_measureOffsetComplete_ends (h : s.phase.measures.find? (measureEnds s) = some x) :
    exec .measureOffsetComplete s = .next (complete x.job
      (if 256 ≤ x.used then
        ok (leInt 2 (divRound x.sum x.used) ++ le 2 (((s.cfg.offset : Int) - divRound x.sum x.used) % 65536).toNat ++ le 2 x.used ++ zeros 2)
      else bad 8) { s with phase := { s.phase with measures := s.phase.measures.erase x } }) := by
  change execMeasureOffsetComplete s = _
  simp only [execMeasureOffsetComplete, h]
  split <;> rfl

end

/-- Settles O26: the three reading verbs by their bodies, MEASURE_OFFSET by the room for it, and its completion by the marks used. -/
theorem phaseVerbsComplete : Obligations.PhaseVerbsComplete := by
  refine ⟨reads_of_body _ (fun _ _ => rfl) fun _ _ _ => rfl, reads_of_body _ (fun _ _ => rfl) fun _ _ _ => rfl,
    reads_of_body _ (fun _ _ => rfl) fun _ _ _ => rfl, fun _ _ _ => exec_phaseMeasureOffset_of_asked, ?mean, ?notReady,
    fun _ => exec_measureOffsetComplete_idle⟩
  case mean =>
    intro s x h hused
    rw [exec_measureOffsetComplete_ends h, if_pos hused]
  case notReady =>
    intro s x h hused
    rw [exec_measureOffsetComplete_ends h, if_neg (Nat.not_le.2 hused)]

end Sys2Proof.Machine
end

section
/-! PROOFS. The family 05_abacus: pulses (R161), the check of a provisional occurrence (R158), calendar beads (R153, R154), the main pass (R209), chains' horizons and recomputation (R188, R189), and the BEAD verbs (R172 to R174). -/

namespace Sys2Proof.Machine

/-! ## Pulses (R161) -/

section
variable {n : Nat} {s : State} {level : Bool} {t : Instant}

theorem exec_pulseReturn_of_none (h : (fget {} s.abacus.layer n).pulse = none) : exec (.pulseReturn n) s = .next s := by
  change execPulseReturn n s = _
  simp only [execPulseReturn, h]

theorem exec_pulseReturn_of_passed (h : (fget {} s.abacus.layer n).pulse = some (level, t)) (ht : t.tu ≤ s.phase.now.tu) :
    exec (.pulseReturn n) s = .next { s with abacus := { s.abacus with
      layer := fput {} s.abacus.layer n { fget {} s.abacus.layer n with pulse := none } } } := by
  change execPulseReturn n s = _
  simp only [execPulseReturn, h, if_pos ht]

/-- A return that comes later in this rod comes at its angle. -/
theorem exec_pulseReturn_of_this_rod (h : (fget {} s.abacus.layer n).pulse = some (level, t)) (ht : s.phase.now.tu < t.tu)
    (hc : t.cycle = s.cycle) {u : State} (hu : u = s.atAngle t.angle) :
    exec (.pulseReturn n) s = .next { u with abacus := { u.abacus with
      layer := fput {} s.abacus.layer n { fget {} s.abacus.layer n with pulse := none } } } := by
  subst hu
  change execPulseReturn n s = _
  simp only [execPulseReturn, h, if_neg (Nat.not_le.2 ht), if_pos hc]
  rfl

end

/-! ## The check of a provisional occurrence (R158, R192) -/

section
variable {bead : Nat} {s : State} {o : Occ}
  (h : ((s.abacus.current ++ s.abacus.next.getD []).find? fun o => o.bead == bead &&
    (o.state == 1 && o.entry.isSome || o.state == 0 && o.settled == some (checkInstant o.rod o.bead_.angle))) = some o)
include h

/-- An entry still open at the check takes its occurrence out of the list. -/
theorem exec_provisionalCheck_of_open {e : Nat} (hs : o.state = 1) (he : o.entry = some e)
    (hc : (checkInstant o.rod o.bead_.angle).cycle ≤ s.cycle) :
    exec (.provisionalCheck bead) s = .next (settleAll (slideOut o e
      (if s.phase.now.tu < (checkInstant o.rod o.bead_.angle).tu then s.atAngle (checkInstant o.rod o.bead_.angle).angle else s))) := by
  have hdue : ¬((checkInstant o.rod o.bead_.angle).cycle > s.cycle ∨
      (o.state == 0 && o.settled == some (checkInstant o.rod o.bead_.angle)) = true ∧ checkInstant o.rod o.bead_.angle ≠ s.phase.now) := by
    simp [hs, hc]
  change execProvisionalCheck bead s = _
  simp only [execProvisionalCheck, h, he, if_neg hdue, gt_iff_lt]

/-- An entry that settles at the tick of the check is still seen open by it. -/
theorem exec_provisionalCheck_of_settled (he : o.entry = none) (ht : checkInstant o.rod o.bead_.angle = s.phase.now) :
    exec (.provisionalCheck bead) s = .next (settleAll (slideSettled o s)) := by
  have hdue : ¬((checkInstant o.rod o.bead_.angle).cycle > s.cycle ∨
      (o.state == 0 && o.settled == some (checkInstant o.rod o.bead_.angle)) = true ∧ checkInstant o.rod o.bead_.angle ≠ s.phase.now) := by
    simp [ht, State.cycle]
  have hpast : ¬(checkInstant o.rod o.bead_.angle).tu > s.phase.now.tu := by simp [ht]
  change execProvisionalCheck bead s = _
  simp only [execProvisionalCheck, h, he, if_neg hdue, if_neg hpast]

end

/-! ## Calendar beads (R153, R154) -/

section
variable {bead k rod r : Nat} {x : Bead} {s u : State} {b : BeadRec}

theorem armIndex_of_room (hb : beadOf x.record = b) (h : roomyRod s rod b.angle = some r) :
    armIndex bead k x rod s = raise 0x0403 [bead, k, low32 r, flag s.clock.bvl 0]
      (s.setCalendar bead { rule := some (b.start, b.period), next := k + 1, armed := some r }) := by
  subst hb
  simp only [armIndex, h]

theorem armIndex_of_no_room (hb : beadOf x.record = b) (h : roomyRod s rod b.angle = none) :
    armIndex bead k x rod s = raiseSkipped { bead := bead, home := rod, rod := rod, record := x.record } 5
      (s.setCalendar bead { rule := some (b.start, b.period), next := k + 1, armed := none }) := by
  subst hb
  simp only [armIndex, h]

theorem exec_calendarArm_of_other (h : s.abacus.running = false ∨ (s.bead bead).record = [] ∨ (beadOf (s.bead bead).record).select ≠ 2) :
    exec (.calendarArm bead) s = .next s := by
  refine if_pos ?_
  rcases h with h | h | h
  · exact .inl h
  · exact .inr (.inl h)
  · exact .inr (.inr (.inl h))

/-- A bead whose armed rod is not over waits for it. -/
theorem exec_calendarArm_of_armed (h : (fget {} s.abacus.calendar bead).armed = some r) (hr : s.cycle ≤ r) :
    exec (.calendarArm bead) s = .next s := by
  refine if_pos (.inr (.inr (.inr ?_)))
  simp [State.calendar, h, hr]

/-- A bead that waits for no armed rod skips what has passed and takes the next index, where that lies at most 512 rods ahead. -/
theorem exec_calendarArm_of_near {t : Nat} (hb : beadOf (s.bead bead).record = b) (hx : (s.bead bead).record ≠ [])
    (hrun : s.abacus.running = true) (hsel : b.select = 2) (hover : ∀ r, (fget {} s.abacus.calendar bead).armed = some r → r < s.cycle)
    (hu : u = skipPassed 6 bead (s.bead bead) s) (hk : k = (fget {} u.abacus.calendar bead).next)
    (ht : ticksTo s (calendarAt b k) = some t) (hnear : t * s.freq / (32768 * 1000000) ≤ 512) (hone : b.period = 0 → k = 0) :
    exec (.calendarArm bead) s =
      .next (armIndex bead k (s.bead bead) (max (s.cycle + t * s.freq / (32768 * 1000000)) (firstOpenRod s)) u) := by
  have hopen : ¬(s.abacus.running = false ∨ (s.bead bead).record = [] ∨ (beadOf (s.bead bead).record).select ≠ 2 ∨
      ((fget {} s.abacus.calendar bead).armed.any fun r => decide (s.cycle ≤ r)) = true) := by
    cases ha : (fget {} s.abacus.calendar bead).armed with
    | none => simp [hrun, hx, hb, hsel]
    | some r => simpa [hrun, hx, hb, hsel] using hover r ha
  have hfar : ¬(t * s.freq / (32768 * 1000000) > 512 ∨ (b.period = 0 ∧ k ≠ 0)) := by
    rintro (h | ⟨hp, hk0⟩)
    · exact Nat.not_lt.2 hnear h
    · exact hk0 (hone hp)
  subst hb hu hk
  refine (if_neg hopen).trans ?_
  simp only [State.calendar, ht]
  exact if_neg hfar

end

/-! ## The main pass, chains' horizons and recomputation (R188, R189, R209) -/

section
variable {s : State}

theorem exec_mainPass_of_open (hr : s.abacus.running = true) (hs : s.phase.started = true) (hn : s.abacus.next = none) :
    exec .mainPass s = .next (settleAll (runMainPass (s.atAngle 61440))) :=
  if_neg (by simp [hr, hs, hn])

variable {chain : Nat} {i : Instant}

theorem exec_chainHorizon_of_none (h : chainHorizon s chain = none) : exec (.chainHorizon chain) s = .next s := by
  change execChainHorizon chain s = _
  simp only [execChainHorizon, h]

theorem exec_chainHorizon_of_passed (h : chainHorizon s chain = some i) (ht : (i.add 1).tu ≤ s.phase.now.tu) :
    exec (.chainHorizon chain) s = .next (dropChain chain 1 s) := by
  change execChainHorizon chain s = _
  simp only [execChainHorizon, h, if_pos ht]

/-- A horizon that passes later in this rod passes a tick after its angle. -/
theorem exec_chainHorizon_of_this_rod (h : chainHorizon s chain = some i) (ht : s.phase.now.tu < (i.add 1).tu)
    (hc : (i.add 1).cycle = s.cycle) : exec (.chainHorizon chain) s = .next (dropChain chain 1 (s.atAngle (i.add 1).angle)) := by
  change execChainHorizon chain s = _
  simp only [execChainHorizon, h, if_neg (Nat.not_le.2 ht), if_pos hc]

variable {e : Nat}

theorem exec_recomputation_of_free (he : e ∈ readyRecomputes s) (hle : ∀ x ∈ readyRecomputes s, e ≤ x) (hp : freeProcessors s ≠ []) :
    exec (.recomputation e) s = .next (settleAll (recompute e s)) :=
  if_pos (by simpa [he, hp] using hle)

theorem exec_recomputation_of_busy (hp : freeProcessors s = []) : exec (.recomputation e) s = .next s :=
  if_neg (by simp [hp])

end

/-- Settles O28, command by command, by what its table holds and whether its time has come; CALENDAR_ARM by whether a rod has room. -/
theorem abacusTimersHaveTheirEffect : Obligations.AbacusTimersHaveTheirEffect := by
  refine ⟨fun _ _ _ _ => exec_pulseReturn_of_passed, fun _ _ _ _ h ht hc => ⟨_, rfl, exec_pulseReturn_of_this_rod h ht hc rfl⟩,
    fun _ _ => exec_pulseReturn_of_none, fun _ _ _ _ h => exec_provisionalCheck_of_open h, fun _ _ _ h _ => exec_provisionalCheck_of_settled h,
    fun _ _ => exec_calendarArm_of_other, fun _ _ _ _ => exec_calendarArm_of_armed, ?calendar, fun _ => exec_mainPass_of_open,
    fun _ h => if_pos h, fun _ _ _ => exec_chainHorizon_of_passed, fun _ _ _ => exec_chainHorizon_of_this_rod,
    fun _ _ => exec_chainHorizon_of_none, fun e s he hle => ⟨exec_recomputation_of_free he hle, exec_recomputation_of_busy⟩⟩
  intro bead s u b k t hb hx hrun hsel hover hu hk ht hnear hone
  have hexec := exec_calendarArm_of_near hb hx hrun hsel hover hu hk ht hnear hone
  refine ⟨fun r hr => ?room, fun rod hrod hnone => ?noRoom⟩
  case room => rw [hexec, armIndex_of_room hb hr]
  case noRoom => rw [hexec, ← hrod, armIndex_of_no_room hb hnone]

/-! ## BEAD.PLACE (R165, R173) -/

section
variable {given bead : Nat} {s : State}

/-- The slot of a placement: the one given, or the lowest free one for 0xFFFF (log 25). -/
theorem placedSlot_eq (h : given = bead ∧ bead ≤ 4095 ∧ (s.bead bead).origin ≠ 1 ∨ given = 0xFFFF ∧ lowestFree s = some bead) :
    (if given = 0xFFFF then (lowestFree s).getD 0 else given) = bead := by
  rcases h with ⟨rfl, hle, -⟩ | ⟨rfl, hfree⟩
  · exact if_neg (by omega)
  · simp [hfree]

/-- A record that passes every check of R173 awaits the boundary at which it enters the table. -/
theorem place_of_checked {point : State → Nat → Nat → Option (List Byte)} {v : List Byte} (hfields : beadFieldsOk s bead v = true)
    (hslot : given = bead ∧ bead ≤ 4095 ∧ (s.bead bead).origin ≠ 1 ∨ given = 0xFFFF ∧ lowestFree s = some bead)
    (hconflict : placeConflict s bead v = none) (hpoint : ∀ p, publishPoint (beadOf v) = some p → point s bead p = none)
    (hbudget : beyondBudget s (beadOf v) = false) (hlate : tooLate s (beadOf v) = false) :
    place point given v s = (addChange { bead := bead, kind := 0, record := v, boundary := effectBoundary s } s, placedAnswer bead s) := by
  have hnumber : ¬((given > 4095 ∧ given ≠ 0xFFFF) ∨ beadFieldsOk s bead v = false) := by
    rintro (⟨hgt, hne⟩ | hf)
    · rcases hslot with ⟨rfl, hle, -⟩ | ⟨rfl, -⟩
      · omega
      · exact hne rfl
    · simp [hfields] at hf
  have hconfigured : ¬(given ≠ 0xFFFF ∧ (s.bead given).origin = 1) := by
    rintro ⟨hne, horigin⟩
    rcases hslot with ⟨rfl, -, hnot⟩ | ⟨rfl, -⟩
    · exact hnot horigin
    · exact hne rfl
  have hroom : ¬(given = 0xFFFF ∧ (lowestFree s).isNone = true) := by
    rintro ⟨rfl, hnone⟩
    rcases hslot with ⟨rfl, hle, -⟩ | ⟨-, hfree⟩
    · omega
    · simp [hfree] at hnone
  unfold place
  simp only [placedSlot_eq hslot]
  rw [if_neg hnumber, if_neg hconfigured, if_neg hroom, hconflict]
  cases hp : publishPoint (beadOf v) with
  | none => simp [hbudget, hlate]
  | some p => simp [hpoint p hp, hbudget, hlate]

end

/-! ## BEAD.READ of an accepted placement (R165, R172) -/

/-- Changes of other beads say nothing of this one. -/
theorem changesOf_eq_nil {changes : List BeadChange} {bead : Nat} (h : ∀ x ∈ changes, x.bead ≠ bead) :
    (changes.filter fun x => x.bead == bead) = [] := by
  simpa [List.filter_eq_nil_iff] using h

theorem pendingPlace_of_no_change {s : State} {bead : Nat} (h : ∀ x ∈ s.abacus.changes, x.bead ≠ bead) : pendingPlace s bead = none := by
  rw [pendingPlace, changesOf_eq_nil h]
  rfl

/-- The placement just accepted is the one that awaits its boundary. -/
theorem pendingPlace_of_place {s : State} {k : BeadChange} (hk : k.kind = 0) (h : ∀ x ∈ s.abacus.changes, x.bead ≠ k.bead) :
    pendingPlace { s with abacus := { s.abacus with changes := s.abacus.changes ++ [k] } } k.bead = some (k.record, k.boundary) := by
  simp [pendingPlace, List.filter_append, changesOf_eq_nil h, hk]

/-! ## The BEAD verbs (R172 to R174) -/

/-- A bead number in range, with its reserved field zero, is no bad argument. -/
theorem beadNumber_good {bead reserved : Nat} (hle : bead ≤ 4095) (hzero : reserved = 0) : ¬(bead > 4095 ∨ reserved ≠ 0) :=
  not_or.2 ⟨Nat.not_lt.2 hle, fun hne => hne hzero⟩

/-- Settles O29, verb by verb: none of the body's refusals applies, so that its last branch runs; BEAD.READ by what the slot holds. -/
theorem beadVerbsComplete : Obligations.BeadVerbsComplete := by
  refine ⟨fun bead => completes_of_body _ (fun _ _ => rfl) ?place, completes_of_body _ (fun _ _ => rfl) ?remove,
    completes_of_body _ (fun _ _ => rfl) ?enable, reads_of_body _ (fun _ _ => rfl) ?readTable,
    fun v first => reads_of_body _ (fun _ _ => rfl) ?readPlaced, ?accepted, reads_of_body _ (fun _ _ => rfl) ?readFree,
    reads_of_body _ (fun _ _ => rfl) ?rodNow, fun l => reads_of_body _ (fun _ _ => rfl) ?rodNext,
    reads_of_body _ (fun _ _ => rfl) fun _ _ _ => rfl, reads_of_body _ (fun _ _ => rfl) fun _ _ _ => rfl⟩
  case place =>
    rintro c s ⟨hzero, hfields, hslot, hconflict, hpoint, hbudget, hlate⟩
    simp only [hzero, place_of_checked hfields hslot hconflict hpoint hbudget hlate, ne_eq, not_true_eq_false, if_false]
    rfl
  case remove =>
    rintro c s ⟨hle, hzero, horigin, htaken⟩
    simp only [if_neg (beadNumber_good hle hzero), if_neg horigin, htaken, Bool.true_eq_false, if_false]
    rfl
  case enable =>
    rintro c s ⟨hle, hon, hzero, htaken⟩
    refine if_neg ?_
    simp [hle, hon, hzero, htaken]
  case readTable =>
    rintro c s ⟨hle, hzero, horigin, hpending⟩
    simp only [if_neg (beadNumber_good hle hzero), if_neg horigin, hpending]
    congr 3
    split
    · next o hdue => rw [hdue]; rfl
    · next hdue => rw [hdue]; rfl
  case readPlaced =>
    rintro c s ⟨hle, hzero, hpending⟩
    simp only [if_neg (beadNumber_good hle hzero), hpending]
  case accepted =>
    rintro s _ k rfl hk h
    exact ⟨pendingPlace_of_no_change h, pendingPlace_of_place hk h⟩
  case readFree =>
    rintro c s ⟨hle, hzero, horigin, hpending⟩
    simp only [if_neg (beadNumber_good hle hzero), hpending, if_pos horigin]
  case rodNow =>
    rintro c s ⟨hwhich, hpage, hzero⟩
    refine (if_neg ?_).trans (if_pos hwhich)
    omega
  case rodNext =>
    rintro c s ⟨hwhich, hpage, hzero, hnext⟩
    refine (if_neg ?_).trans ((if_neg ?_).trans ?_)
    · omega
    · omega
    · rw [hnext]
      rfl

end Sys2Proof.Machine
end

section
/-! PROOFS. The family 06_carry: the CARRY verbs (R197, R201, R202). -/

namespace Sys2Proof.Machine

/-! ## The CARRY verbs (R201, R202) -/

/-- The bit of a condition that is decided. -/
theorem flag_decide (p : Prop) [Decidable p] (i : Nat) : flag (decide p) i = if p then 2 ^ i else 0 := by
  by_cases h : p <;> simp [flag, h]

/-- An entry number up to 127, with its reserved bytes zero, is no bad argument (R202). -/
theorem entryNumber_good {entry : Nat} {reserved : List Byte} (hle : entry ≤ 127) (hzero : allZero reserved = true) :
    ¬(entry > 127 ∨ allZero reserved = false) :=
  not_or.2 ⟨Nat.not_lt.2 hle, by simp [hzero]⟩

/-- Settles O30, verb by verb: none of the body's refusals applies, so that its last branch runs; CARRY.READ and CARRY.DROP by whether the entry is FREE. -/
theorem carryVerbsComplete : Obligations.CarryVerbsComplete := by
  refine ⟨reads_of_body _ (fun _ _ => rfl) fun _ _ _ => rfl, reads_of_body _ (fun _ _ => rfl) ?list,
    reads_of_body _ (fun _ _ => rfl) ?read, reads_of_body _ (fun _ _ => rfl) ?readFree, reads_of_body _ (fun _ _ => rfl) ?chain,
    reads_of_body _ (fun _ _ => rfl) fun _ _ _ => rfl, completes_of_body _ (fun _ _ => rfl) fun _ _ _ => rfl,
    completes_of_body _ (fun _ _ => rfl) ?drop, completes_of_body _ (fun _ _ => rfl) ?dropFree⟩
  case list =>
    intro c s _
    simp only [flag_decide]
  case read =>
    rintro c s ⟨hle, hzero, hlive⟩
    simp only [if_neg (entryNumber_good hle hzero), if_neg hlive]
  case readFree =>
    rintro c s ⟨hle, hzero, hfree⟩
    simp only [if_neg (entryNumber_good hle hzero), if_pos hfree]
  case chain =>
    rintro c s ⟨hle, hzero, hlive⟩
    exact (if_neg (entryNumber_good hle hzero)).trans (if_neg hlive)
  case drop =>
    rintro c s ⟨hle, hzero, hlive⟩
    exact (if_neg (entryNumber_good hle hzero)).trans (if_neg hlive)
  case dropFree =>
    rintro c s ⟨hle, hzero, hfree⟩
    exact (if_neg (entryNumber_good hle hzero)).trans (if_pos hfree)

end Sys2Proof.Machine
end

section
/-! PROOFS. The family 07_reckoner: the RECK verbs (R216 to R218, R222, R233, R234). -/

namespace Sys2Proof.Machine

/-! ## The lease in NEXT (R216, R218) -/

section
variable {s : State} {l : Lease}

theorem pendingNumber_of_pending (hnext : s.reck.next = some l) (hpending : l.confirmed = false) : pendingNumber s l.number = some l := by
  simp [pendingNumber, hnext, hpending]

theorem pendingNumber_of_empty (hnext : s.reck.next = none) (n : Nat) : pendingNumber s n = none := by
  simp [pendingNumber, hnext]

/-- The lease in NEXT is refused: the slot is empty, the roots resting on it drop, and the event counts them (R218, R232). -/
theorem refuseNext_of_held (hnext : s.reck.next = some l) (cause : Nat) :
    refuseNext cause s = raise 0x0605 [l.number, cause, countRoots s fun x => x.kind == 2 && x.source == l.number]
      (dropRoots (fun x => x.kind == 2 && x.source == l.number) 4 { s with reck := { s.reck with next := none } }) := by
  simp only [refuseNext, hnext]

end

/-! ## The RECK verbs (R233, R234) -/

/-- What RECK.ACCOUNTS gives for each of the three phases, in their order. -/
theorem flatMap_three_phases (f : Nat → List Byte) : (List.range 3).flatMap f = f 0 ++ f 1 ++ f 2 := by
  simp [List.range_succ]

/-- Settles O31, verb by verb: none of the body's refusals applies, so that its last branch runs; LEASE_SET by what NEXT holds, and the late LEASE_CONFIRM by whether its deadline has emptied NEXT. -/
theorem reckVerbsComplete : Obligations.ReckVerbsComplete := by
  refine ⟨reads_of_body _ (fun _ _ => rfl) ?accounts, completes_of_body _ (fun _ _ => rfl) ?set,
    fun n => completes_of_body _ (fun _ _ => rfl) ?replace, fun l => completes_of_body _ (fun _ _ => rfl) ?confirm,
    turnsAway_of_body _ (fun _ _ => rfl) ?late, fun l => completes_of_body _ (fun _ _ => rfl) ?refuse,
    reads_of_body _ (fun _ _ => rfl) fun _ _ _ => rfl, reads_of_body _ (fun _ _ => rfl) fun _ _ _ => rfl,
    fun l => completes_of_body _ (fun _ _ => rfl) ?loanReturn, reads_of_body _ (fun _ _ => rfl) fun _ _ _ => rfl,
    completes_of_body _ (fun _ _ => rfl) fun _ _ _ => rfl⟩
  case accounts =>
    intro c s _
    simp only [flatMap_three_phases]
    rfl
  case set =>
    rintro c s ⟨hgood, hstart, hlent, hconfirmed⟩
    simp only [hgood, hlent, Bool.false_eq_true, if_false, if_neg (Nat.not_lt.2 hstart)]
    split
    · next n hnext => rw [if_pos (hconfirmed n hnext)]
    · rfl
  case replace =>
    rintro c s ⟨hgood, hstart, hlent, hnext, hpending⟩
    simp only [hgood, hlent, hnext, hpending, Bool.false_eq_true, if_false, if_neg (Nat.not_lt.2 hstart), refuseNext_of_held hnext]
  case confirm =>
    rintro c s ⟨hnext, hpending, hnumber, hintime⟩
    simp only [← hnumber, pendingNumber_of_pending hnext hpending, if_neg (Nat.not_le.2 hintime)]
  case late =>
    rintro c s (⟨hdeadlined, hnext⟩ | ⟨l, hnext, hpending, hnumber, hpassed⟩)
    · simp only [pendingNumber_of_empty hnext, if_pos hdeadlined]
    · simp only [← hnumber, pendingNumber_of_pending hnext hpending, if_pos hpassed]
  case refuse =>
    rintro c s ⟨hnext, hpending, hnumber⟩
    simp only [← hnumber, pendingNumber_of_pending hnext hpending, refuseNext_of_held hnext]
  case loanReturn =>
    rintro c s ⟨hloan, hforecast⟩
    have hrunning : ((runningLoans s).find? fun l => l.number == u32 c.pay 0 && !l.lent) = some l := hloan
    have hroom : ¬limWithout s l < s.reck.forecast.getD (l.phase - 1) 0 := Int.not_lt.2 hforecast
    simp only [hrunning, if_neg hroom]
    rfl

end Sys2Proof.Machine
end

section
/-! PROOFS. The family 08_engine_arithmetic: samples and their processors (R261 to R287), and the LOOP verbs (R305, R306). -/

namespace Sys2Proof.Machine

/-! ## The sample instant (R272 to R274) -/

/-- The instant that LOOP_SAMPLE looks at: the first from now on, or the one after it where the loop has sampled that (log 24). -/
def sampleTu (l : Nat) (s : State) : Nat :=
  let first := nextInstant (s.cfg.loopRec l) s.phase.now.tu
  if (s.loop l).previous = some (Instant.ofTu first) then nextInstant (s.cfg.loopRec l) (first + 1) else first

section
variable {l t u : Nat} {s : State}

theorem sampleTu_of_new (ht : nextInstant (s.cfg.loopRec l) s.phase.now.tu = t) (hnew : (s.loop l).previous ≠ some (Instant.ofTu t)) :
    sampleTu l s = t := by
  subst ht
  exact if_neg hnew

theorem sampleTu_of_sampled (ht : nextInstant (s.cfg.loopRec l) s.phase.now.tu = t) (hold : (s.loop l).previous = some (Instant.ofTu t))
    (hu : nextInstant (s.cfg.loopRec l) (t + 1) = u) : sampleTu l s = u := by
  subst ht hu
  exact if_pos hold

/-- A loop of the engine samples at its instant if that lies in the present rod. -/
theorem exec_loopSample_of_instant (hrun : s.engine.running = true) (hstart : s.phase.started = true) (hloop : s.cfg.hasLoop l = true)
    (hbead : loopBead (s.cfg.loopRec l) = false) (hmode : (s.loop l).mode ≠ .disabled) (ht : sampleTu l s = t) (hrod : t / 65536 = s.cycle) :
    exec (.loopSample l) s = .next (settleAll (takeSample l (s.atAngle (t % 65536)))) := by
  subst ht
  refine if_neg ?_
  rintro (h | h | h | h | h | h)
  · simp [hrun] at h
  · simp [hstart] at h
  · simp [hloop] at h
  · simp [hbead] at h
  · exact hmode h
  · exact h hrod

theorem exec_loopSample_of_idle (h : s.engine.running = false ∨ s.cfg.hasLoop l = false ∨ (s.loop l).mode = .disabled) :
    exec (.loopSample l) s = .next s := by
  refine if_pos ?_
  rcases h with h | h | h <;> simp [h]

end

/-! ## Samples start on free processors (R261 to R267) -/

section
variable {s s1 : State} {x : Sample} {xs : List Sample} {p : Nat} {ps : List Nat}

section
variable (hs : resolveLoose s = s1) (hrun : s1.engine.running = true) (hready : readyRecomputes s1 = [])
include hs hrun hready

theorem exec_sampleStart_of_first (hthirds : s1.engine.thirds = []) (hx : nextSample s1 = some x) (hp : freeProcessors s1 = p :: ps) :
    exec .sampleStart s = .next (startOn p x s1) := by
  subst hs
  refine (if_neg (by simp [hrun, hready])).trans ?_
  simp only [hthirds, hx, hp]

theorem exec_sampleStart_of_third (hthirds : s1.engine.thirds = x :: xs) (hp : freeProcessors s1 = p :: ps) :
    exec .sampleStart s = .next { s1 with engine := { s1.engine with
      thirds := xs, processors := fput {} s1.engine.processors p { s1.processor p with sample := some { x with part := 3 } } } } := by
  subst hs
  refine (if_neg (by simp [hrun, hready])).trans ?_
  simp only [hthirds, hp]
  rfl

end

theorem exec_sampleStart_of_nothing (h : (resolveLoose s).engine.running = false ∨ readyRecomputes (resolveLoose s) ≠ [] ∨
      freeProcessors (resolveLoose s) = [] ∨ (resolveLoose s).engine.thirds = [] ∧ nextSample (resolveLoose s) = none) :
    exec .sampleStart s = .next (resolveLoose s) := by
  change execSampleStart s = _
  rw [execSampleStart]
  rcases h with hoff | hready | hfull | ⟨hthirds, hqueue⟩
  · exact if_pos (.inl hoff)
  · exact if_pos (.inr hready)
  · cases (resolveLoose s).engine.thirds <;> cases nextSample (resolveLoose s) <;> simp only [hfull, ite_self]
  · simp only [hthirds, hqueue, ite_self]

/-- A sample that no processor checks starts alone. -/
theorem startOn_of_unchecked (hentry : x.entry = none) (hcheck : checker s p = none) :
    startOn p x s = { s with engine := { s.engine with
      processors := fput {} s.engine.processors p { s.processor p with
        sample := some { x with processor := p, out := (s.loop x.slot).out, st := (s.loop x.slot).st, part := 0, partner := 0 } }
      queue := s.engine.queue.erase x
      checkedRod := s.engine.checkedRod || decide (p = s.engine.checkTurn) } } := by
  simp only [startOn, hentry, hcheck]
  rfl

end

/-! ## A run ends, and a checked sample is compared (R242, R263, R266, R267) -/

section
variable {s s1 : State} {x : Sample} {p : Nat}

theorem exec_sampleComplete_of_idle (h : (s.processor p).sample = none) : exec (.sampleComplete p) s = .next s := by
  change execSampleComplete p s = _
  simp only [execSampleComplete, h]

section
variable (hx : (s.processor p).sample = some x) (h1 : s1 = s.setProcessor p { s.processor p with sample := none })
include hx h1

theorem exec_sampleComplete_of_unchecked (hpart : x.part = 0) : exec (.sampleComplete p) s = .next (settleAll (finishSample x s1)) := by
  subst h1
  change execSampleComplete p s = _
  simp only [execSampleComplete, hx, hpart]

/-- The first of the two runs of a checked sample to end waits for the other. -/
theorem exec_sampleComplete_of_other_runs (hpart : x.part = 1 ∨ x.part = 2) (hother : otherRuns x s1 = true) :
    exec (.sampleComplete p) s = .next (settleAll s1) := by
  subst h1
  change execSampleComplete p s = _
  rcases hpart with hpart | hpart <;> simp only [execSampleComplete, hx, hpart, hother, if_true]

theorem exec_sampleComplete_of_both_ended (hpart : x.part = 1 ∨ x.part = 2) (hother : otherRuns x s1 = false) :
    exec (.sampleComplete p) s = .next (settleAll (vote x s1)) := by
  subst h1
  change execSampleComplete p s = _
  rcases hpart with hpart | hpart <;> simp only [execSampleComplete, hx, hpart, hother, Bool.false_eq_true, if_false]

theorem exec_sampleComplete_of_third (hpart : x.part = 3) : exec (.sampleComplete p) s = .next (settleAll (decideThird x s1)) := by
  subst h1
  change execSampleComplete p s = _
  simp only [execSampleComplete, hx, hpart]

end

/-! Whether runs agree is each time a free value (log 23). -/

theorem vote_of_agree (h : Config.freeBool s.free = true) : vote x s =
    finishSample x { s with engine := { s.engine with checks := s.engine.checks + 1 }, free := s.free + 1 } :=
  if_pos h

theorem vote_of_differ (h : Config.freeBool s.free = false) : vote x s = { s with
    engine := { s.engine with
      checks := s.engine.checks + 1, mismatches := s.engine.mismatches + 1, thirds := s.engine.thirds ++ [x] }
    free := s.free + 1 } :=
  if_neg (Bool.eq_false_iff.1 h)

/-- A second free value says whose result the third run shares. -/
theorem decideThird_of_shared (h : Config.freeBool s.free = true) : decideThird x s = finishSample x
    (retireProcessor (if Config.freeBool (s.free + 1) = true then x.partner else x.processor) { s with free := s.free + 2 }) :=
  if_pos h

theorem decideThird_of_none_shared (h : Config.freeBool s.free = false) :
    decideThird x s = loseMajority x { s with free := s.free + 2 } :=
  if_neg (Bool.eq_false_iff.1 h)

theorem finishSample_of_unattached (hlive : x.dropped = false) (hentry : x.entry = none) :
    finishSample x s = commit x.slot (runProgram s.cfg x) x.instant 0 s := by
  simp only [finishSample, hlive, hentry, Bool.false_eq_true, if_false]

end

/-! ## Results due, and waiting samples given up (R282, R283) -/

section
variable {l : Nat} {s : State} {d : Due} {ds : List Due}

theorem exec_resultApply_of_none (h : (s.loop l).due = []) : exec (.resultApply l) s = .next s := by
  change execResultApply l s = _
  simp only [execResultApply, h]

theorem exec_resultApply_of_passed (h : (s.loop l).due = d :: ds) (ht : d.instant.tu ≤ s.phase.now.tu) :
    exec (.resultApply l) s = .next (settleAll (applyDue l s)) := by
  change execResultApply l s = _
  simp only [execResultApply, h, if_pos ht]

theorem exec_resultApply_of_this_rod (h : (s.loop l).due = d :: ds) (ht : s.phase.now.tu < d.instant.tu) (hc : d.instant.cycle = s.cycle) :
    exec (.resultApply l) s = .next (settleAll (applyDue l (s.atAngle d.instant.angle))) := by
  change execResultApply l s = _
  simp only [execResultApply, h, if_neg (Nat.not_le.2 ht), if_pos hc]

theorem exec_awaitGiveUp_of_none (h : (s.loop l).waiting = none) : exec (.awaitGiveUp l) s = .next s := by
  change execAwaitGiveUp l s = _
  simp only [execAwaitGiveUp, h]

/-- The loop waits no longer, and its sample is lost (R282). -/
def giveUp (l : Nat) (w : Sample) (s : State) : State :=
  loseSample l 3 w.count { s with engine := { s.engine with
    loops := fput {} s.engine.loops l { s.loop l with waiting := none }, givenUp := s.engine.givenUp + 1 } }

variable {w : Sample} {t : Instant} (hw : (s.loop l).waiting = some w) (ht : t = w.instant.add (loopHorizon (s.cfg.loopRec l)))
include hw ht

theorem exec_awaitGiveUp_of_passed (hp : t.tu ≤ s.phase.now.tu) : exec (.awaitGiveUp l) s = .next (giveUp l w s) := by
  subst ht
  change execAwaitGiveUp l s = _
  simp only [execAwaitGiveUp, hw, if_pos hp]
  rfl

theorem exec_awaitGiveUp_of_this_rod (hp : s.phase.now.tu < t.tu) (hc : t.cycle = s.cycle) :
    exec (.awaitGiveUp l) s = .next (giveUp l w (s.atAngle t.angle)) := by
  subst ht
  change execAwaitGiveUp l s = _
  simp only [execAwaitGiveUp, hw, if_neg (Nat.not_le.2 hp), if_pos hc]
  rfl

end

/-- Settles O33, command by command: by the instant of LOOP_SAMPLE, by what SAMPLE_START finds to start, by the part of the run that ends, and by whether a time has come. -/
theorem samplesRunThroughTheEngine : Obligations.SamplesRunThroughTheEngine := by
  refine ⟨?sampleNew, ?sampleNext, fun _ _ => exec_loopSample_of_idle, fun _ _ _ _ _ => exec_sampleStart_of_first,
    fun _ _ _ _ _ _ => exec_sampleStart_of_third, fun _ => exec_sampleStart_of_nothing, fun _ _ _ => startOn_of_unchecked,
    fun _ _ => exec_sampleComplete_of_idle, ?complete, fun _ _ => finishSample_of_unattached, fun _ _ => exec_resultApply_of_none,
    fun _ _ _ _ => exec_resultApply_of_passed, fun _ _ _ _ => exec_resultApply_of_this_rod, fun _ _ => exec_awaitGiveUp_of_none, ?giveUp⟩
  case sampleNew =>
    intro l t s hrun hstart hloop hbead hmode ht hnew hrod
    exact exec_loopSample_of_instant hrun hstart hloop hbead hmode (sampleTu_of_new ht hnew) hrod
  case sampleNext =>
    intro l t u s hrun hstart hloop hbead hmode ht hold hu hrod
    exact exec_loopSample_of_instant hrun hstart hloop hbead hmode (sampleTu_of_sampled ht hold hu) hrod
  case complete =>
    intro p s s1 x hx h1
    refine ⟨exec_sampleComplete_of_unchecked hx h1, exec_sampleComplete_of_other_runs hx h1, ?compared, ?third⟩
    case compared =>
      intro hpart hother
      have hexec := exec_sampleComplete_of_both_ended hx h1 hpart hother
      subst h1
      refine ⟨_, rfl, fun hagree => ?agree, fun hdiffer => ?differ⟩
      case agree =>
        rw [hexec, vote_of_agree]
        · rfl
        · exact hagree
      case differ =>
        rw [hexec, vote_of_differ]
        · rfl
        · exact hdiffer
    case third =>
      intro hpart
      have hexec := exec_sampleComplete_of_third hx h1 hpart
      subst h1
      refine ⟨_, rfl, fun hshared => ?shared, fun hnone => ?noneShared⟩
      case shared =>
        rw [hexec, decideThird_of_shared]
        · rfl
        · exact hshared
      case noneShared =>
        rw [hexec, decideThird_of_none_shared]
        · rfl
        · exact hnone
  case giveUp =>
    rintro l s u w t hw ht (⟨hp, rfl⟩ | ⟨hp, hc, rfl⟩)
    · exact exec_awaitGiveUp_of_passed hw ht hp
    · exact exec_awaitGiveUp_of_this_rod hw ht hp hc

/-! ## The LOOP verbs (R251, R291, R300, R305, R306) -/

/-- A LOOP.MANUAL that lays values puts the loop in MANUAL with them (R17, R306). -/
theorem applyManual_of_values {l : Nat} {s t : State} {v : Nat × List Word} (hv : (s.loop l).manualNext = some (some v))
    (ht : t = setLoopMode l .manual (s.setLoop l { s.loop l with manualNext := none })) :
    applyManual l s = t.setLoop l { t.loop l with manual := some v } := by
  subst ht
  simp only [applyManual, hv]

/-- Settles O34, verb by verb: none of the body's refusals applies, so that its last branch runs; LOOP.READ by its region and LOOP.MANUAL by its operation. -/
theorem loopVerbsComplete : Obligations.LoopVerbsComplete := by
  refine ⟨reads_of_body _ (fun _ _ => rfl) ?status, reads_of_body _ (fun _ _ => rfl) ?read,
    completes_of_body _ (fun _ _ => rfl) ?flagsClear, completes_of_body _ (fun _ _ => rfl) ?enable,
    completes_of_body _ (fun _ _ => rfl) ?manual, completes_of_body _ (fun _ _ => rfl) ?manualEnd,
    fun _ _ _ _ => applyManual_of_values, reads_of_body _ (fun _ _ => rfl) ?model, completes_of_body _ (fun _ _ => rfl) ?traceArm,
    reads_of_body _ (fun _ _ => rfl) ?traceStatus, reads_of_body _ (fun _ _ => rfl) ?traceRead,
    reads_of_body _ (fun _ _ => rfl) fun _ _ _ => rfl⟩
  case status =>
    rintro c s ⟨hle, hzero⟩
    exact if_neg (by omega)
  case read =>
    rintro c s ⟨hle, hregion, hzero⟩
    refine (if_neg (by omega)).trans ?_
    by_cases h0 : u8 c.pay 2 = 0
    · simp only [h0, if_true]
    · by_cases h1 : u8 c.pay 2 = 1
      · simp only [h1, Nat.one_ne_zero, if_false, if_true]
      · simp only [h0, h1, if_false]
  case flagsClear =>
    rintro c s ⟨hle, hmask⟩
    exact if_neg (by omega)
  case enable =>
    rintro c s ⟨hle, hon, hzero, hloop, hload⟩
    refine (if_neg ?_).trans (if_neg ?_)
    · simp [hle, hon, hzero, hloop]
    · rintro ⟨hon1, hover⟩
      rcases hload with hoff | hwithin
      · omega
      · exact Nat.not_lt.2 hwithin hover
  case manual =>
    rintro c s ⟨hle, hop, hzero, hzero', hmode⟩
    refine (if_neg (by omega)).trans ((if_neg (fun h => hmode h.2)).trans ?_)
    simp only [if_neg hmode, if_pos hop]
  case manualEnd =>
    rintro c s ⟨hle, hop, hzero, hzero', hmode⟩
    refine (if_neg (by omega)).trans ((if_neg (by omega)).trans ?_)
    simp only [hmode, hop, reduceCtorEq, Nat.zero_ne_one, if_false]
  case model =>
    rintro c s ⟨hle, hzero, hmodel⟩
    refine (if_neg (by omega)).trans (if_neg ?_)
    simpa [Option.isSome_iff_ne_none] using hmodel
  case traceArm =>
    rintro c s ⟨hch, htrigger, hj, hzero, hslot, hreg, hzero', hpost, hpost', hmask⟩
    exact if_neg (by omega)
  case traceStatus =>
    rintro c s ⟨hch, hzero⟩
    refine if_neg ?_
    simp [hch, hzero]
  case traceRead =>
    rintro c s ⟨hch, hzero, hn, hn', hzero', harmed⟩
    exact (if_neg (by omega)).trans (if_neg harmed)

end Sys2Proof.Machine
end

section
/-! PROOFS. The family 10_commons: the COMMONS verbs (R307, R313, R317, R334, R335). -/

namespace Sys2Proof.Machine

/-! ## The COMMONS verbs (R334, R335) -/

/-- A count from 1 to the most one answer holds, of items within the table, with the reserved byte zero, is no bad argument. -/
theorem itemRange_good {first n reserved most size : Nat} (hpos : 1 ≤ n) (hmost : n ≤ most) (hzero : reserved = 0)
    (hsize : first + n ≤ size) : ¬(n = 0 ∨ n > most ∨ reserved ≠ 0 ∨ first + n > size) := by
  omega

/-- Settles O35, verb by verb: none of the body's refusals applies, so that its last branch runs. -/
theorem commonsVerbsComplete : Obligations.CommonsVerbsComplete := by
  refine ⟨reads_of_body _ (fun _ _ => rfl) fun _ _ _ => rfl, reads_of_body _ (fun _ _ => rfl) ?read,
    fun r => completes_of_body _ (fun _ _ => rfl) ?write, reads_of_body _ (fun _ _ => rfl) fun _ _ _ => rfl,
    reads_of_body _ (fun _ _ => rfl) ?blocks, reads_of_body _ (fun _ _ => rfl) fun _ _ _ => rfl,
    completes_of_body _ (fun _ _ => rfl) fun _ _ _ => rfl⟩
  case read =>
    rintro c s ⟨hpos, hmost, hzero, hsize⟩
    exact if_neg (itemRange_good hpos hmost hzero hsize)
  case write =>
    rintro c s ⟨hrun, hzero, hhost, hfits, hwrites, hcount, hroom⟩
    have hargument : ¬(allZero (slice c.pay 2 6) = false ∨ bit (u8 r.value 3) 0 = false ∨
        hostValueOk (u8 r.value 2) (u16 r.value 4) (u64 c.pay 8) = false) := by
      simp [hzero, hhost, hfits]
    have hstate : ¬(writesBlock s (u16 c.pay 0 / 64) = false ∨ s.phase.countValid = false) := by
      simp [hwrites, hcount]
    simp only [hrun, if_neg hargument, if_neg hstate, if_neg (Nat.not_le.2 hroom)]
  case blocks =>
    rintro c s ⟨hpos, hmost, hzero, hsize⟩
    exact if_neg (itemRange_good hpos hmost hzero hsize)

end Sys2Proof.Machine
end

section
/-! PROOFS. The family 11_ring: the RING verbs (R372, R373), the frames the switch moves (R337 to R353), its links, gates and tables (R338 to R354), and PTP (R358 to R360). -/

namespace Sys2Proof.Machine

/-! ## The RING verbs (R372, R373) -/

section
variable {c : Call}

theorem portArgument_of_port (hport : u8 c.pay 0 ≤ 2) (hzero : allZero (c.pay.drop 1) = true) : portArgument c = some (u8 c.pay 0) :=
  if_pos ⟨hport, hzero⟩

theorem portArgument_of_beyond (hport : 2 < u8 c.pay 0) : portArgument c = none :=
  if_neg fun h => Nat.not_le.2 hport h.1

end

/-- Settles O38, verb by verb: none of the body's refusals applies, so that its last branch runs; those of a port by the port that the argument names. -/
theorem ringVerbsComplete : Obligations.RingVerbsComplete := by
  refine ⟨reads_of_body _ (fun _ _ => rfl) ?info, reads_of_body _ (fun _ _ => rfl) ?port, turnsAway_of_body _ (fun _ _ => rfl) ?portBeyond,
    completes_of_body _ (fun _ _ => rfl) ?clearOne, completes_of_body _ (fun _ _ => rfl) ?clearAll, reads_of_body _ (fun _ _ => rfl) ?nodes,
    reads_of_body _ (fun _ _ => rfl) fun _ _ _ => rfl, reads_of_body _ (fun _ _ => rfl) ?ptp, reads_of_body _ (fun _ _ => rfl) ?gates,
    turnsAway_of_body _ (fun _ _ => rfl) ?gatesBeyond, reads_of_body _ (fun _ _ => rfl) fun _ _ _ => rfl⟩
  case info =>
    intro c s _
    simp only [flatMap_three_phases]
  case port =>
    rintro c s ⟨hport, hzero⟩
    simp only [portArgument_of_port hport hzero]
  case portBeyond =>
    intro c s hport
    simp only [portArgument_of_beyond hport]
  case clearOne =>
    rintro c s ⟨hport, hzero⟩
    simp only [portArgument_of_port hport hzero]
    rfl
  case clearAll =>
    rintro c s ⟨hport, hzero⟩
    simp only [portArgument_of_beyond (c := c) (by omega), hport, hzero, and_self, if_true]
    rfl
  case nodes =>
    rintro c s ⟨hpos, hmost, hzero, hsize⟩
    exact if_neg (itemRange_good hpos hmost hzero hsize)
  case ptp =>
    intro c s _
    simp only [flatMap_three_phases]
  case gates =>
    rintro c s ⟨hport, hzero⟩
    simp only [portArgument_of_port hport hzero]
  case gatesBeyond =>
    intro c s hport
    simp only [portArgument_of_beyond hport]

/-! ## Frames received (R339, R341, R342, R347) -/

section
variable {p : Nat} {f : EthFrame} {fcsOk : Bool} {s : State}

theorem exec_frameReceived_of_no_link (hlink : (s.port p).link = false) : exec (.frameReceived p f fcsOk) s = .next s :=
  if_pos (.inl hlink)

section
variable (hlink : (s.port p).link = true) (hon : portOn s p = true)
include hlink hon

theorem exec_frameReceived_of_bad_length (hlen : f.length < 64 ∨ 1536 < f.length) :
    exec (.frameReceived p f fcsOk) s = .next (s.countPort p 3) :=
  (if_neg (by simp [hlink, hon])).trans (if_pos hlen)

variable (hmin : 64 ≤ f.length) (hmax : f.length ≤ 1536)
include hmin hmax

theorem exec_frameReceived_of_bad_fcs : exec (.frameReceived p f false) s = .next (badFcs p f s) :=
  (if_neg (by simp [hlink, hon])).trans ((if_neg (by omega)).trans (if_pos rfl))

/-- An accepted frame is counted; a MAC control frame goes no further (R337), the others by the side of the switch that they come from (R342). -/
theorem exec_frameReceived_of_accepted : exec (.frameReceived p f true) s =
    if f.etherType = 0x8808 then .next ((s.countPort p 0).countPort p 7)
    else if p = 2 then .next (fromHost f (s.countPort p 0))
    else .next (fromRing p f (s.countPort p 0)) :=
  (if_neg (by simp [hlink, hon])).trans ((if_neg (by omega)).trans (if_neg (by decide)))

end

theorem fromRing_of_linkLocal (hlocal : linkLocal f.dst = true) : fromRing p f s = s :=
  if_pos hlocal

section
variable (hlocal : linkLocal f.dst = false)
include hlocal

theorem fromRing_of_own (hsrc : f.src = ownMac) : fromRing p f s = supReturned p f (s.countPort p 5) := by
  simp only [fromRing, hlocal, Bool.false_eq_true, if_false, if_pos hsrc]

theorem fromRing_of_untagged (hsrc : f.src ≠ ownMac) (htag : f.vlan = none ∨ f.hsr = none) : fromRing p f s = s := by
  simp only [fromRing, hlocal, Bool.false_eq_true, if_false, if_neg hsrc]
  rcases htag with hvlan | hhsr
  · simp only [hvlan, ite_self]
  · simp only [hhsr]
    cases f.vlan <;> simp only [ite_self]

theorem fromRing_of_tagged {vid pcp seq : Nat} (hsrc : f.src ≠ ownMac) (hproxy : isProxy s.ring f.src = false)
    (hvlan : f.vlan = some (vid, pcp)) (hhsr : f.hsr = some seq) : fromRing p f s = ringFrame p vid pcp seq f s := by
  simp only [fromRing, hlocal, hproxy, Bool.false_eq_true, if_false, if_neg hsrc, hvlan, hhsr]

end

/-- The entry of a frame notes the ring port it has come in on (R347). -/
def Duplicate.receivedOn (p : Nat) (d : Duplicate) : Duplicate := { d with rxEast := d.rxEast || p == 0, rxWest := d.rxWest || p == 1 }

section
variable {vid pcp seq : Nat} (hdst : f.dst = ownMac) (hproxy : isProxy s.ring f.dst = false) (hgroup : isGroup f.dst = false)
include hdst hproxy hgroup

/-- A frame to this chip's own address is never sent onward: a first copy is delivered, a further one counted (R342, R347). -/
theorem ringFrame_of_own_address {d : Duplicate}
    (hd : (findDuplicate (freeDuplicates s).ring f.src seq).getD { src := f.src, seq := seq, made := s.phase.now } = d) :
    ringFrame p vid pcp seq f s = hearSupervision p f (
      if d.known = true then keepDuplicate (d.receivedOn p) ((freeDuplicates s).countPort p 6)
      else deliver p { f with vlan := some (vid, pcp) } (keepDuplicate (d.receivedOn p) (freeDuplicates s))) := by
  have hnow : (freeDuplicates s).phase.now = s.phase.now := rfl
  have hown : (f.dst == ownMac) = true := by simp [hdst]
  have hproxy' : isProxy (freeDuplicates s).ring f.dst = false := hproxy
  simp only [ringFrame, hnow, hd, hown, hproxy', hgroup]
  cases hknown : d.known <;> simp [Duplicate.receivedOn]

theorem ringFrame_of_first_copy (hnone : findDuplicate (freeDuplicates s).ring f.src seq = none) :
    ringFrame p vid pcp seq f s = hearSupervision p f (deliver p { f with vlan := some (vid, pcp) }
      (keepDuplicate { src := f.src, seq := seq, made := s.phase.now, rxEast := p == 0, rxWest := p == 1 } (freeDuplicates s))) := by
  have hfresh : Duplicate.known { src := f.src, seq := seq, made := s.phase.now } ≠ true := Bool.false_ne_true
  rw [ringFrame_of_own_address hdst hproxy hgroup rfl, hnone, Option.getD_none, if_neg hfresh]
  simp only [Duplicate.receivedOn, Bool.false_or]

theorem ringFrame_of_second_copy {d : Duplicate} (hd : findDuplicate (freeDuplicates s).ring f.src seq = some d) (hknown : d.known = true) :
    ringFrame p vid pcp seq f s = hearSupervision p f (keepDuplicate (d.receivedOn p) ((freeDuplicates s).countPort p 6)) := by
  rw [ringFrame_of_own_address hdst hproxy hgroup (d := d) (by rw [hd]; rfl), if_pos hknown]

end

/-! ## Delivery to the chip's own receivers (R364) -/

section
variable (htype : f.etherType = 0x88B5)
include htype

theorem deliver_of_taken (htaken : receiverTakes s ⟨p, f⟩ = true) :
    deliver p f s = { s with ring := { s.ring with delivered := s.ring.delivered ++ [⟨p, f⟩] } } :=
  (if_pos htype).trans (if_pos htaken)

theorem deliver_of_refused (hrefused : receiverTakes s ⟨p, f⟩ = false) (hserved : sendsOwn s = true ∨ u8 f.body 0 = 1 ∨ u8 f.body 0 = 5) :
    deliver p f s = s.countPort p 8 :=
  (if_pos htype).trans ((if_neg (by simp [hrefused])).trans (if_pos (by simpa [or_assoc] using hserved)))

end

/-! ## Frames transmitted (R131, R353) -/

theorem exec_frameTransmit_of_class {k : Nat} {q : List EthFrame} (hlink : (s.port p).link = true) (hon : portOn s p = true)
    (hnext : nextClass s p = some (k, f, q)) :
    exec (.frameTransmit p) s = .next ((s.setPort p { s.port p with
      queues := fput [] (s.port p).queues k q, sent := some (stampEgress s.angle f) }).countPort p 1) := by
  refine (if_pos ⟨hlink, hon⟩).trans ?_
  simp only [hnext]

theorem exec_frameTransmit_of_nothing (h : (s.port p).link = false ∨ portOn s p = false ∨ nextClass s p = none) :
    exec (.frameTransmit p) s = .next s := by
  change execFrameTransmit p s = _
  rcases h with hlink | hoff | hnone
  · exact if_neg (by simp [hlink])
  · exact if_neg (by simp [hoff])
  · simp only [execFrameTransmit, hnone, ite_self]

end

/-- Settles O39: a frame received by the checks it passes, one to this chip's own address by its entry in the duplicate table, and one transmitted by what waits. -/
theorem theSwitchMovesFrames : Obligations.TheSwitchMovesFrames := by
  refine ⟨fun _ _ _ _ => exec_frameReceived_of_no_link, fun _ _ _ _ => exec_frameReceived_of_bad_length, ?accepted, ?ownAddress,
    fun _ _ _ htype => ⟨deliver_of_taken htype, deliver_of_refused htype⟩, fun _ _ _ _ _ => exec_frameTransmit_of_class,
    fun _ _ => exec_frameTransmit_of_nothing⟩
  case accepted =>
    intro p f s hlink hon hmin hmax
    have haccepted := exec_frameReceived_of_accepted hlink hon hmin hmax
    have hring (hmac : f.etherType ≠ 0x8808) (hp : p ≠ 2) :
        exec (.frameReceived p f true) s = .next (fromRing p f (s.countPort p 0)) := by
      rw [haccepted, if_neg hmac, if_neg hp]
    refine ⟨exec_frameReceived_of_bad_fcs hlink hon hmin hmax, fun hmac => ?control, fun hmac hp => ?host,
      fun hmac hp hlocal => ?linkLocal, fun hmac hp hlocal hsrc => ?own, fun hmac hp hlocal hsrc htag => ?untagged,
      fun vid pcp seq hmac hp hlocal hsrc hproxy hvlan hhsr => ?tagged⟩
    case control => rw [haccepted, if_pos hmac]
    case host => rw [haccepted, if_neg hmac, if_pos hp]
    case linkLocal => rw [hring hmac hp, fromRing_of_linkLocal hlocal]
    case own => rw [hring hmac hp, fromRing_of_own hlocal hsrc]
    case untagged => rw [hring hmac hp, fromRing_of_untagged hlocal hsrc htag]
    case tagged => rw [hring hmac hp, fromRing_of_tagged hlocal hsrc hproxy hvlan hhsr]
  case ownAddress =>
    rintro p vid pcp seq f s u hdst hproxy hgroup rfl
    exact ⟨ringFrame_of_first_copy hdst hproxy hgroup, fun _ => ringFrame_of_second_copy hdst hproxy hgroup⟩

/-! ## Links (R338, R349) -/

section
variable {p cause : Nat} {s : State}

theorem openRing_of_open (hopen : s.ring.opened = true) : openRing p cause s = s :=
  if_pos hopen

theorem openRing_of_closed (hclosed : s.ring.opened = false) :
    openRing p cause s = raise 0x0902 [p, cause] { s with ring := { s.ring with opened := true, openedTicks := s.clock.ticksRun } } :=
  if_neg (by simp [hclosed])

theorem exec_linkUp_of_down (hlink : (s.port p).link = false) (hon : portOn s p = true) :
    exec (.linkUp p) s = .next (raise 0x0901 [p, 1, 1] (s.setPort p { s.port p with link := true, lowPower := false })) :=
  if_pos ⟨hlink, hon⟩

theorem exec_linkUp_of_up_or_off (h : (s.port p).link = true ∨ portOn s p = false) : exec (.linkUp p) s = .next s :=
  if_neg (by rcases h with h | h <;> simp [h])

/-- The link of a port is gone: counted and reported (R338). -/
def loseLink (p cause : Nat) (s : State) : State :=
  raise 0x0901 [p, 0, cause] ((s.setPort p { s.port p with link := false }).countPort p 18)

theorem exec_linkDown_of_up (hlink : (s.port p).link = true) :
    exec (.linkDown p cause) s = .next (if p < 2 then openRing p 1 (loseLink p cause s) else loseLink p cause s) :=
  if_pos hlink

theorem exec_linkDown_of_down (hlink : (s.port p).link = false) : exec (.linkDown p cause) s = .next s :=
  if_neg (by simp [hlink])

theorem exec_serdesIdle_of_down (hlink : (s.port p).link = false) :
    exec (.serdesIdle p) s = .next (s.setPort p { s.port p with lowPower := true }) :=
  if_neg (by simp [hlink])

theorem exec_serdesIdle_of_up (hlink : (s.port p).link = true) : exec (.serdesIdle p) s = .next s :=
  if_pos hlink

/-! ## Gates (R354) -/

theorem exec_gateTransition_of_entry (htimed : gatesTimed s = true) (hend : (gateEntry s p).1 ≠ 0)
    (hmore : (s.port p).gate + 1 < (gateList s.cfg p).length) :
    exec (.gateTransition p) s =
      .next ((s.atAngle (max s.angle (gateEntry s p).1)).setPort p { s.port p with gate := (s.port p).gate + 1 }) :=
  if_pos ⟨htimed, hend, hmore⟩

theorem exec_gateTransition_of_last (h : gatesTimed s = false ∨ (gateEntry s p).1 = 0 ∨ (gateList s.cfg p).length ≤ (s.port p).gate + 1) :
    exec (.gateTransition p) s = .next s := by
  refine if_neg ?_
  rintro ⟨htimed, hend, hmore⟩
  rcases h with h | h | h
  · simp [htimed] at h
  · exact hend h
  · exact Nat.not_lt.2 h hmore

/-! ## Supervision (R346, R349) -/

theorem exec_supervisionSend_of_resting (h : sendsOwn s = false ∨ s.cfg.standalone = true) : exec .supervisionSend s = .next s :=
  if_neg (by rcases h with h | h <;> simp [h])

theorem exec_supervisionReturnTimeout_of_none (hnone : s.ring.supSeq = none) : exec (.supervisionReturnTimeout p) s = .next s := by
  change execSupervisionReturnTimeout p s = _
  simp only [execSupervisionReturnTimeout, hnone]

/-- A copy of the frame numbered q that has not returned is counted (R349). -/
def countMissed (p q : Nat) (s : State) : State :=
  { s with ring := { s.ring with
      supMissed := fput 0 s.ring.supMissed p (fget 0 s.ring.supMissed p + 1), supCounted := fput 0 s.ring.supCounted p (q + 1) } }

section
variable {q : Nat} (hseq : s.ring.supSeq = some q)
include hseq

/-- A copy that is not of a ring port, has returned, or has been counted, is not counted. -/
theorem exec_supervisionReturnTimeout_of_settled
    (h : 2 ≤ p ∨ (if p = 0 then s.ring.supWest else s.ring.supEast) = true ∨ fget 0 s.ring.supCounted p = q + 1) :
    exec (.supervisionReturnTimeout p) s = .next s := by
  change execSupervisionReturnTimeout p s = _
  simp only [execSupervisionReturnTimeout, hseq]
  exact if_pos h

theorem exec_supervisionReturnTimeout_of_missing (hport : p < 2) (hback : (if p = 0 then s.ring.supWest else s.ring.supEast) = false)
    (hnew : fget 0 s.ring.supCounted p ≠ q + 1) :
    exec (.supervisionReturnTimeout p) s =
      .next (if 1 ≤ fget 0 s.ring.supMissed p then openRing p 2 (countMissed p q s) else countMissed p q s) := by
  have hmissing : ¬(2 ≤ p ∨ (if p = 0 then s.ring.supWest else s.ring.supEast) = true ∨ fget 0 s.ring.supCounted p = q + 1) := by
    rw [hback]
    rintro (h | h | h)
    · exact Nat.not_lt.2 h hport
    · cases h
    · exact hnew h
  have hsecond : (2 ≤ fget 0 s.ring.supMissed p + 1) = (1 ≤ fget 0 s.ring.supMissed p) := propext (by omega)
  change execSupervisionReturnTimeout p s = _
  simp only [execSupervisionReturnTimeout, hseq]
  refine (if_neg hmissing).trans ?_
  simp only [ge_iff_le, hsecond, countMissed, hseq]

end

end

/-- Settles O40, command by command: a lost link by its port and by whether the ring is open already, a gate by whether another entry follows, and a supervision frame by whether its copy is still awaited. -/
theorem linksGatesAndTablesMove : Obligations.LinksGatesAndTablesMove := by
  refine ⟨fun _ _ => exec_linkUp_of_down, fun _ _ => exec_linkUp_of_up_or_off, ?linkDown, fun _ _ _ => exec_linkDown_of_down,
    fun _ _ => exec_serdesIdle_of_down, fun _ _ => exec_serdesIdle_of_up, fun _ _ => rfl, fun _ _ => exec_gateTransition_of_entry,
    fun _ _ => exec_gateTransition_of_last, fun _ _ => ⟨rfl, rfl⟩, fun _ _ _ => rfl, ?send, fun _ => exec_supervisionSend_of_resting,
    fun _ _ _ hseq hport hback hnew => ⟨_, rfl, exec_supervisionReturnTimeout_of_missing hseq hport hback hnew⟩,
    fun _ _ _ => exec_supervisionReturnTimeout_of_settled, fun _ _ => exec_supervisionReturnTimeout_of_none⟩
  case linkDown =>
    intro p cause s hlink
    have hdown : exec (.linkDown p cause) s = _ := exec_linkDown_of_up hlink
    refine ⟨loseLink p cause s, rfl, fun hport => ?host, fun hport hopen => ?again, fun hport hclosed => ?once⟩
    case host => rw [hdown, if_neg (Nat.not_lt.2 hport)]
    case again => rw [hdown, if_pos hport, openRing_of_open hopen]
    case once => rw [hdown, if_pos hport, openRing_of_closed hclosed]
  case send =>
    rintro s body hown hring rfl
    exact if_pos ⟨hown, hring⟩

/-! ## PTP (R358 to R360) -/

section
variable {o d : Int} {pd st gm p delay : Nat} {s : State}

section
variable (hslave : s.ring.ptp.state = 2 ∨ s.ring.ptp.state = 3)
include hslave

/-- A Sync within 1,000 ns: PTP_SYNC stays, or is set by the 16th running. -/
theorem exec_ptpSyncReceived_of_within (hin : o.natAbs ≤ 1000) {b : Bool}
    (hb : (s.ring.ptp.sync || decide (16 ≤ s.ring.ptp.inside + 1)) = b) :
    exec (.ptpSyncReceived o pd d) s = .next (setPtp (if b then 3 else 2) s.ring.ptp.grandmaster { s with ring := { s.ring with ptp := { s.ring.ptp with
      inside := s.ring.ptp.inside + 1, beyond := 0, silent := 0, seen := true, offset := o, dPtp := d
      pathDelay := if b then pd else s.ring.ptp.pathDelay, pathKnown := s.ring.ptp.pathKnown || b } } }) := by
  subst hb
  refine (if_pos hslave).trans ?_
  simp only [hin, decide_true, if_true]

/-- A Sync beyond 1,000 ns: PTP_SYNC ends with the 4th running. -/
theorem exec_ptpSyncReceived_of_beyond (hout : 1000 < o.natAbs) {b : Bool}
    (hb : (s.ring.ptp.sync && decide (s.ring.ptp.beyond + 1 < 4)) = b) :
    exec (.ptpSyncReceived o pd d) s = .next (setPtp (if b then 3 else 2) s.ring.ptp.grandmaster { s with ring := { s.ring with ptp := { s.ring.ptp with
      inside := 0, beyond := s.ring.ptp.beyond + 1, silent := 0, seen := true, offset := o, dPtp := d
      pathDelay := if b then pd else s.ring.ptp.pathDelay, pathKnown := s.ring.ptp.pathKnown || b } } }) := by
  subst hb
  refine (if_pos hslave).trans ?_
  simp only [Nat.not_le.2 hout, decide_false, Bool.false_eq_true, if_false]

end

theorem exec_ptpSyncReceived_of_other (h2 : s.ring.ptp.state ≠ 2) (h3 : s.ring.ptp.state ≠ 3) : exec (.ptpSyncReceived o pd d) s = .next s :=
  if_neg (not_or.2 ⟨h2, h3⟩)

theorem exec_ptpSyncTimeout_of_silence (hslave : s.ring.ptp.state = 3) (hsilent : 8 ≤ s.ring.ptp.silent) :
    exec .ptpSyncTimeout s =
      .next (setPtp 2 s.ring.ptp.grandmaster { s with ring := { s.ring with ptp := { s.ring.ptp with inside := 0 } } }) :=
  if_pos ⟨hslave, hsilent⟩

theorem exec_ptpSyncTimeout_of_other (h : s.ring.ptp.state ≠ 3 ∨ s.ring.ptp.silent < 8) : exec .ptpSyncTimeout s = .next s :=
  if_neg fun ⟨hslave, hsilent⟩ => h.elim (fun hother => hother hslave) (Nat.not_lt.2 hsilent)

section
variable (hon : s.ring.ptp.state ≠ 0)
include hon

theorem setPtp_of_same (hsame : s.ring.ptp.state = st) :
    setPtp st gm s = { s with ring := { s.ring with ptp := { s.ring.ptp with grandmaster := gm, sync := decide (3 ≤ st) } } } := by
  subst hsame
  simp only [setPtp, if_neg hon, if_true]

theorem setPtp_of_change (hchange : s.ring.ptp.state ≠ st) :
    setPtp st gm s = raise 0x0905 [s.ring.ptp.state, st, low32 gm, gm / 4294967296]
      { s with ring := { s.ring with ptp := { s.ring.ptp with state := st, grandmaster := gm, sync := decide (3 ≤ st) } } } := by
  simp only [setPtp, if_neg hon, if_neg hchange]

end

theorem exec_announceSend_of_other (hother : (settlePtp s).ring.ptp.state ≠ 4) : exec .announceSend s = .next (settlePtp s) :=
  if_neg hother

theorem exec_pdelaySend_of_resting (h : (s.port p).link = false ∨ sendsOwn s = false) : exec (.pdelaySend p delay) s = .next s :=
  if_neg (by rcases h with h | h <;> simp [h])

end

/-- Settles O41, command by command: a Sync by its offset and by whether PTP_SYNC is set after it, the sending of an Announce by the state that the selection gives, and a peer delay request by the link. -/
theorem theNetworkClockIsFollowed : Obligations.TheNetworkClockIsFollowed := by
  refine ⟨fun o pd d s hslave => ⟨fun hin h => ?gains, fun hin hclear hfew => ?waits, fun hout hset hfew => ?keeps, fun hout h => ?loses⟩,
    fun _ _ _ _ => exec_ptpSyncReceived_of_other, fun _ => exec_ptpSyncTimeout_of_silence, fun _ => exec_ptpSyncTimeout_of_other,
    fun _ _ _ hsame hon => setPtp_of_same hon hsame, fun _ _ _ hchange hon => setPtp_of_change hon hchange, ?announce, ?noAnnounce, ?pdelay,
    fun _ _ _ => exec_pdelaySend_of_resting⟩
  case gains =>
    have hsync : (s.ring.ptp.sync || decide (16 ≤ s.ring.ptp.inside + 1)) = true := by simpa using h
    rw [exec_ptpSyncReceived_of_within hslave hin hsync, Bool.or_true]
    rfl
  case waits =>
    have hsync : (s.ring.ptp.sync || decide (16 ≤ s.ring.ptp.inside + 1)) = false := by simpa [hclear] using hfew
    rw [exec_ptpSyncReceived_of_within hslave hin hsync, Bool.or_false]
    rfl
  case keeps =>
    have hsync : (s.ring.ptp.sync && decide (s.ring.ptp.beyond + 1 < 4)) = true := by
      rw [hset, Bool.true_and, decide_eq_true_iff]
      exact Nat.succ_lt_succ hfew
    rw [exec_ptpSyncReceived_of_beyond hslave hout hsync, Bool.or_true]
    rfl
  case loses =>
    have hsync : (s.ring.ptp.sync && decide (s.ring.ptp.beyond + 1 < 4)) = false := by
      rcases h with hclear | hfourth
      · simp [hclear]
      · rw [decide_eq_false (by omega), Bool.and_false]
    rw [exec_ptpSyncReceived_of_beyond hslave hout hsync, Bool.or_false]
    rfl
  case announce =>
    rintro s _ rfl hgrandmaster
    exact if_pos hgrandmaster
  case noAnnounce =>
    rintro s _ rfl hother
    exact exec_announceSend_of_other hother
  case pdelay =>
    intro p delay s hlink hown
    exact ⟨_, rfl, if_pos ⟨hlink, hown⟩⟩

end Sys2Proof.Machine
end

section
/-! PROOFS. One step and what every step keeps (R19, R668), the state after reset, and the repeat counts of the recorder (R596, R597). -/

namespace Sys2Proof.Machine

/-! ## A step (log 1) -/

section
variable {s : State} (h : s.pending = [])
include h

theorem step_of_idle : step s = .next (phaseTick s) := by
  simp only [step, h]

theorem step_of_idle_before_turn (ha : s.phase.now.angle < 65535) :
    step s = .next { s with phase := { s.phase with now := { s.phase.now with angle := s.phase.now.angle + 1 } } } := by
  rw [step_of_idle h, phaseTick, if_pos ha, State.atAngle, Nat.max_eq_right (Nat.le_succ _)]

theorem step_of_idle_at_turn (ha : 65535 ≤ s.phase.now.angle) : step s = .next (if s.phase.left = true then s else acquireTurn s) := by
  rw [step_of_idle h, phaseTick, if_neg (Nat.not_lt.2 ha)]

end

/-- Settles O1, by what the queue holds and, when it is empty, by the angle and whether the timebase has left ACQUIRE. -/
theorem stepRunsTheFrontCommand : Obligations.StepRunsTheFrontCommand := by
  refine ⟨fun _ _ _ => rfl, fun _ h => step_of_idle_before_turn h, ?awaits, ?turns⟩
  case awaits =>
    intro s h ha hl
    rw [step_of_idle_at_turn h ha, if_pos hl]
  case turns =>
    intro s h ha hl
    rw [step_of_idle_at_turn h ha, hl, if_neg Bool.false_ne_true]; rfl

/-- Settles O3, from what every command keeps; a step first takes the front command from the queue. -/
theorem stepTakesOnlyItsCommand : Obligations.StepTakesOnlyItsCommand := by
  refine ⟨?command, ?front⟩
  case command =>
    intro c s t h
    obtain ⟨⟨hqueue, -⟩, -⟩ := exec_kept (keeps_commandRef s False False) c (fun _ => not_false) (fun _ => not_false) t h
    exact hqueue
  case front =>
    intro c rest s t hqueue h
    obtain ⟨⟨hrest, -⟩, -⟩ := step_kept s t h
    rw [hrest, stepRef, hqueue, List.tail_cons]

/-- Settles O4, from what every step keeps. -/
theorem rollbackCountersNeverFall : Obligations.RollbackCountersNeverFall := by
  intro s t h
  obtain ⟨⟨-, ⟨hfw, -⟩, ⟨hcfg, -⟩, ⟨hkey, -⟩⟩, -⟩ := step_kept s t h
  exact ⟨hfw, hcfg, hkey⟩

/-- Settles O8: the intake of the reset state holds one report (R583) and its other queues are empty. -/
theorem resetIsLegal : Obligations.ResetIsLegal := by
  have hsizes : State.reset.queuesFit := by
    unfold State.queuesFit
    decide
  exact ⟨rfl, rfl, hsizes, Nat.zero_le _, rfl, rfl, rfl, rfl, rfl, rfl⟩

/-! ## Repeat counts (R596, R597) -/

section
variable {r : Recorder} {e x : EventRecord}

/-- The newest entry, which a report is compared with: of the intake, or of the records written while the intake is empty (R596). -/
def newestEntry (r : Recorder) : Option EventRecord := if r.intake.isEmpty then newestWritten r else r.intake.getLast?

theorem newestEntry_eq (r : Recorder) : newestEntry r = if r.intake = [] then newestWritten r else r.intake.getLast? := by
  simp only [newestEntry, List.isEmpty_iff]

/-- Whether a report that equals the newest entry merges depends on the entry's repeat count, and then on the room. -/
theorem intakeResult_of_mergeable (hx : newestEntry r = some x) (hm : mergeable e x = true) :
    intakeResult r e = if x.repeats < 65535 then .merged else if 64 ≤ r.intake.length then .lost else .entered := by
  unfold newestEntry at hx
  simp only [intakeResult, hx, hm, Bool.true_and, decide_eq_true_eq]

theorem intakeTake_of_saturated (hx : newestEntry r = some x) (hm : mergeable e x = true) (hfull : x.repeats = 65535) (hroom : r.intake.length < 64) :
    intakeTake r e = { r with intake := r.intake ++ [{ e with cont := true }] } := by
  have hresult := intakeResult_of_mergeable hx hm
  rw [if_neg (by omega), if_neg (by omega)] at hresult
  unfold newestEntry at hx
  simp only [intakeTake, hresult, hx, hm]

theorem intakeTake_of_unsaturated (hx : newestEntry r = some x) (hm : mergeable e x = true) (hless : x.repeats < 65535) :
    intakeTake r e = if r.intake.isEmpty then mergeWritten r else mergeIntake r := by
  have hresult := intakeResult_of_mergeable hx hm
  rw [if_pos hless] at hresult
  simp only [intakeTake, hresult]

/-- Merging raises the count of the last entry and leaves the others (R596). -/
theorem mergeIntake_intake (hx : r.intake.getLast? = some x) :
    (mergeIntake r).intake = r.intake.dropLast ++ [{ x with repeats := x.repeats + 1 }] := by
  simp only [mergeIntake, hx]; rfl

end

/-- Settles O60, by the repeat count of the newest entry: saturated, a new entry follows it; below, the report merges into the intake or into the records written. -/
theorem repeatCountsSaturate : Obligations.RepeatCountsSaturate := by
  refine ⟨?reports, fun _ _ _ => rfl⟩
  intro r e x hone hx hm
  rw [← newestEntry_eq] at hx
  refine ⟨?saturated, ?merged, ?raised⟩
  case saturated =>
    intro hfull hroom
    exact ⟨_, rfl, hone, intakeTake_of_saturated hx hm hfull hroom⟩
  case merged =>
    intro hless
    rw [intakeTake_of_unsaturated hx hm hless]
    split
    · exact ⟨rfl, rfl⟩
    · next hne =>
      have hne : r.intake ≠ [] := fun h => hne (by rw [h]; rfl)
      rw [newestEntry_eq, if_neg hne] at hx
      refine ⟨?_, rfl⟩
      rw [mergeIntake_intake hx, List.length_append, List.length_singleton, List.length_dropLast,
        Nat.sub_add_cancel (List.length_pos_iff.2 hne)]
  case raised =>
    intro hless hne
    rw [intakeTake_of_unsaturated hx hm hless, if_neg (by simp [hne])]
    rw [newestEntry_eq, if_neg hne] at hx
    exact ⟨{ x with repeats := x.repeats + 1 }, by rw [mergeIntake_intake hx, List.getLast?_concat], rfl⟩

end Sys2Proof.Machine
end

section
/-! PROOFS. The family 12_field_bus: frames, errors, arbitration and bus-off on a channel (R375 to R391). -/

namespace Sys2Proof.Machine

/-! ## A channel off the bus (R384, R397) -/

section
variable {n : Nat} {f : CanFrame} {v : SpareView} {s : State}

section
variable (hoff : onBus (s.chan n) = false)
include hoff

theorem exec_canFrameReceived_of_off : exec (.canFrameReceived n f v) s = .next s :=
  if_pos hoff

theorem exec_canReceiveError_of_off (id : Option Nat) : exec (.canReceiveError n id) s = .next s :=
  if_neg (by simp [hoff])

theorem exec_canFrameSent_of_off (r : Bool) : exec (.canFrameSent n r) s = .next s :=
  if_pos hoff

theorem exec_canTransmitError_of_off : exec (.canTransmitError n) s = .next s :=
  if_pos hoff

theorem exec_arbitrationLost_of_off : exec (.arbitrationLost n) s = .next s :=
  if_pos hoff

end

/-! ## Frames received (R375, R385, R391) -/

/-- What a frame leads to by the spare's decoding of it: the frame is taken unless the engine's own decoding is the wrong one, and the engine that erred is suspected (R391). -/
def receiveAs (n : Nat) (f : CanFrame) (s : State) : SpareView → State
  | .agree => acceptFrame n f s
  | .spareError => suspectSpare n (acceptFrame n f s)
  | .engineError => suspectEngine n (receiveError n s)
  | .differ => suspectSpare n (suspectEngine n (acceptFrame n f s))

section
variable (hon : onBus (s.chan n) = true)
include hon

theorem exec_canFrameReceived_of_foreign_format (hfd : f.fd = true) (hclassic : chFlag (s.cfg.channel n) 0 = false) :
    exec (.canFrameReceived n f v) s = .next (s.setChan n { s.chan n with state := 1 }) :=
  (if_neg (by simp [hon])).trans (if_pos ⟨hfd, hclassic⟩)

/-- A frame of a format that the channel takes is judged by what the listening spare makes of it. -/
theorem exec_canFrameReceived_of_format (hformat : f.fd = false ∨ chFlag (s.cfg.channel n) 0 = true) :
    exec (.canFrameReceived n f v) s = .next (receiveAs n f s (if spareListens s n then v else .agree)) := by
  have hfits : ¬(f.fd = true ∧ chFlag (s.cfg.channel n) 0 = false) := by
    rintro ⟨hfd, hclassic⟩
    simp [hfd, hclassic] at hformat
  simp only [exec, execCanFrameReceived, hon, Bool.true_eq_false, if_false, if_neg hfits]
  cases (if spareListens s n then v else .agree) <;> rfl

theorem exec_canReceiveError_of_no_identifier : exec (.canReceiveError n none) s = .next (receiveError n s) :=
  if_pos hon

/-- An error in a frame whose identifier was seen is noted where it is an ANNOUNCE in a claim window, once in it (R414). -/
theorem exec_canReceiveError_of_identifier (id : Nat) {t : State} (ht : receiveError n s = t) :
    exec (.canReceiveError n (some id)) s =
      if identKind id = 6 ∧ (t.bus n).window = true ∧ (t.bus n).clashNow.contains (id % 2 ^ 23) = false then
        .next (t.setBus n { t.bus n with clashNow := (t.bus n).clashNow ++ [id % 2 ^ 23] })
      else .next t := by
  subst ht
  exact if_pos hon

end

/-- Only a ROLL goes another way than through the filter (R413). -/
theorem acceptFrame_of_no_roll (h : f.extended = false ∨ identKind f.ident ≠ 4) : acceptFrame n f s = takeFrame n f s := by
  refine if_neg ?_
  rintro ⟨hextended, hroll, -⟩
  rcases h with h | h
  · simp [hextended] at h
  · exact h hroll

section
variable (href : isReference (s.cfg.channel n) f = false)
include href

theorem takeFrame_of_field_protocol (h : filterAction s.cfg n f = 1) :
    takeFrame n f s = bufferFrame n f false (receiveGood n (countChan n 1 1 s)) := by
  simp only [takeFrame, href, h, Bool.false_eq_true, if_false]

theorem takeFrame_of_host (h : filterAction s.cfg n f = 2) :
    takeFrame n f s = bufferFrame n f true (receiveGood n (countChan n 1 1 s)) := by
  simp only [takeFrame, href, h, Bool.false_eq_true, if_false]

theorem takeFrame_of_rejected (hfield : filterAction s.cfg n f ≠ 1) (hhost : filterAction s.cfg n f ≠ 2) :
    takeFrame n f s = countChan n 4 1 (receiveGood n (countChan n 1 1 s)) := by
  simp only [takeFrame, href, Bool.false_eq_true, if_false]

end

/-! ## Frames sent (R381, R383, R384) -/

section
variable (hon : onBus (s.chan n) = true)
include hon

theorem exec_canFrameSent_of_reference (hpending : (s.chan n).refPending = true) :
    exec (.canFrameSent n true) s = .next (countChan n 13 1 (sentGood n (s.setChan n { s.chan n with
      refPending := false, refSent := true, refCycle := s.cycle, sent := some (referenceFrame s n) }))) :=
  (if_neg (by simp [hon])).trans ((if_pos rfl).trans (if_pos hpending))

theorem exec_canFrameSent_of_no_reference (hidle : (s.chan n).refPending = false) : exec (.canFrameSent n true) s = .next s :=
  (if_neg (by simp [hon])).trans ((if_pos rfl).trans (if_neg (by simp [hidle])))

theorem exec_canFrameSent_of_empty (hempty : (s.chan n).fifo = []) : exec (.canFrameSent n false) s = .next s := by
  refine (if_neg (by simp [hon])).trans ((if_neg Bool.false_ne_true).trans ?_)
  simp only [hempty]

theorem exec_canFrameSent_of_head {g : TxFrame} {gs : List TxFrame} (hfifo : (s.chan n).fifo = g :: gs) :
    exec (.canFrameSent n false) s = .next (feedLayer n (markSent n g (popHead n (sentGood n (measureTdc n g.frame.fd
      (s.setChan n { s.chan n with sent := some g.frame })))))) := by
  refine (if_neg (by simp [hon])).trans ((if_neg Bool.false_ne_true).trans ?_)
  simp only [hfifo]

end

theorem headOffered_iff {c : Channel} : headOffered c = true ↔ c.refPending = false ∧ c.fifo ≠ [] := by
  simp [headOffered]

/-- A transmit error: what the counter becomes, by the channel's state (log 31), and what that leads to; the head leaves at its configured count of errors (R383). -/
theorem exec_canTransmitError_of_on {up : Nat} {s0 t u : State} (hon : onBus (s.chan n) = true)
    (hup : (s.chan n).state ≠ 3 ∧ up = (s.chan n).txErr + 8 ∧ s0 = s ∨
      (s.chan n).state = 3 ∧ up = (s.chan n).txErr + (if Config.freeBool s.free then 0 else 8) ∧ s0 = { s with free := s.free + 1 })
    (ht : t = countChan n 10 1 (s0.setChan n { s.chan n with
      txErr := up
      errors := if (s.chan n).refPending = false ∧ (s.chan n).fifo ≠ [] then (s.chan n).errors + 1 else (s.chan n).errors }))
    (hu : u = if 256 ≤ up then goBusOff n t else settleErrors n t) :
    exec (.canTransmitError n) s =
      .next (if headOffered (s.chan n) = true ∧ u8 (s.cfg.channel n) 13 ≤ (s.chan n).errors + 1 then discardHead n 1 u else u) := by
  simp only [← headOffered_iff] at ht
  simp only [exec, execCanTransmitError, hon, Bool.true_eq_false, if_false]
  rcases hup with ⟨hactive, rfl, rfl⟩ | ⟨hpassive, hfree, rfl⟩
  · simp only [if_neg hactive, Bool.false_eq_true, if_false, ge_iff_le, hu, ht]
  · have hcount : (if Config.freeBool s.free then (s.chan n).txErr else (s.chan n).txErr + 8) = up := by
      rw [hfree]
      split <;> rfl
    simp only [if_pos hpassive, State.takeBool, hcount, ge_iff_le, hu, ht]

section
variable (hon : onBus (s.chan n) = true)
include hon

theorem exec_arbitrationLost_of_head (hhead : headOffered (s.chan n) = true) {t : State}
    (ht : t = countChan n 11 1 (s.setChan n { s.chan n with losses := (s.chan n).losses + 1 })) :
    exec (.arbitrationLost n) s =
      .next (if u16 (s.cfg.channel n) 14 ≠ 0 ∧ u16 (s.cfg.channel n) 14 ≤ (s.chan n).losses + 1 then discardHead n 2 t else t) := by
  subst ht
  exact (if_neg (by simp [hon])).trans (if_neg (by simp [hhead]))

theorem exec_arbitrationLost_of_no_head (hno : headOffered (s.chan n) = false) : exec (.arbitrationLost n) s = .next (countChan n 11 1 s) :=
  (if_neg (by simp [hon])).trans (if_pos hno)

end

/-! ## Back to the bus (R375, R376, R384) -/

theorem exec_canIntegrated_of_integrating (h : (s.chan n).state = 1) :
    exec (.canIntegrated n) s = .next (settleReceiver n (s.setChan n { s.chan n with state := errorState (s.chan n) })) :=
  if_pos h

theorem exec_canIntegrated_of_other (h : (s.chan n).state ≠ 1) : exec (.canIntegrated n) s = .next s :=
  if_neg h

theorem settleReceiver_of_master (h : chRefId (s.cfg.channel n) = 0xFFFF ∨ chPriority (s.cfg.channel n) ≠ 0xFF) : settleReceiver n s = s :=
  if_neg fun ⟨_, hid, hnone⟩ => h.elim hid fun hpriority => hpriority hnone

theorem settleReceiver_of_receiver (hrun : (s.chan n).state ≠ 0) (hid : chRefId (s.cfg.channel n) ≠ 0xFFFF)
    (hnone : chPriority (s.cfg.channel n) = 0xFF) : settleReceiver n s = setRefState n 3 s :=
  if_pos ⟨hrun, hid, hnone⟩

theorem exec_busOffRecovery_of_recovering (hoff : (s.chan n).state = 4) (hrecovering : (s.chan n).recovering = true) :
    exec (.busOffRecovery n) s = .next (raise 0x0A03 [n, s.msSince (s.chan n).offTicks]
      (s.setChan n { s.chan n with state := 2, txErr := 0, recErr := 0, recovering := false })) :=
  if_pos ⟨hoff, hrecovering⟩

theorem exec_busOffRecovery_of_other (h : (s.chan n).state ≠ 4 ∨ (s.chan n).recovering = false) : exec (.busOffRecovery n) s = .next s :=
  if_neg fun ⟨hoff, hrecovering⟩ => h.elim (fun hother => hother hoff) fun hno => by simp [hrecovering] at hno

end

/-- Settles O43, event by event: a frame by what the spare makes of it and by the filter, an error by whether the FIFO's head was offered, and the return to the bus by the channel's state. -/
theorem channelsReceiveAndSend : Obligations.ChannelsReceiveAndSend := by
  refine ⟨?off, fun _ _ _ _ => exec_canFrameReceived_of_foreign_format, ?received, ?filtered, fun _ _ => exec_canReceiveError_of_no_identifier,
    ?announced, fun _ _ => exec_canFrameSent_of_reference, ?nothingSent, fun _ _ _ _ hon hfifo => exec_canFrameSent_of_head hon hfifo,
    ?transmitError, ?lostHead, ?lostNone, ?integrated, fun _ _ => exec_canIntegrated_of_other, fun _ _ => exec_busOffRecovery_of_recovering, fun _ _ => exec_busOffRecovery_of_other⟩
  case off =>
    intro n f v id r s hoff
    exact ⟨exec_canFrameReceived_of_off hoff, exec_canReceiveError_of_off hoff id, exec_canFrameSent_of_off hoff r,
      exec_canTransmitError_of_off hoff, exec_arbitrationLost_of_off hoff⟩
  case received =>
    intro n f v s hon hformat
    rw [exec_canFrameReceived_of_format hon hformat]
    refine ⟨fun h => ?_, fun hv hl => ?_, fun hv hl => ?_, fun hv hl => ?_⟩
    · rcases h with rfl | hl
      · rw [ite_self]; rfl
      · rw [hl, if_neg Bool.false_ne_true]; rfl
    all_goals rw [hl, if_pos rfl, hv]; rfl
  case filtered =>
    intro n f s hno href
    rw [acceptFrame_of_no_roll hno]
    exact ⟨_, rfl, takeFrame_of_field_protocol href, takeFrame_of_host href, takeFrame_of_rejected href⟩
  case announced =>
    intro n id s t hon ht
    rw [exec_canReceiveError_of_identifier hon id ht]
    refine ⟨fun hkind hwindow hnew => if_pos ⟨hkind, hwindow, hnew⟩, fun h => if_neg ?_⟩
    rintro ⟨hkind, hwindow, -⟩
    rcases h with h | h
    · exact h hkind
    · simp [hwindow] at h
  case nothingSent =>
    rintro n r s hon (⟨rfl, hidle⟩ | ⟨rfl, hempty⟩)
    · exact exec_canFrameSent_of_no_reference hon hidle
    · exact exec_canFrameSent_of_empty hon hempty
  case transmitError =>
    intro n up s s0 t u hon hup ht hu
    rw [exec_canTransmitError_of_on hon hup ht hu]
    refine ⟨fun h => congrArg Host.Outcome.next (if_neg ?_),
      fun hno hfifo hmany => congrArg Host.Outcome.next (if_pos ⟨headOffered_iff.2 ⟨hno, hfifo⟩, hmany⟩)⟩
    rintro ⟨hhead, hmany⟩
    obtain ⟨hno, hfifo⟩ := headOffered_iff.1 hhead
    rcases h with h | h | h
    · simp [hno] at h
    · exact hfifo h
    · exact Nat.not_lt.2 hmany h
  case lostHead =>
    intro n s hon hno hfifo
    exact ⟨_, rfl, exec_arbitrationLost_of_head hon (headOffered_iff.2 ⟨hno, hfifo⟩) rfl⟩
  case lostNone =>
    intro n s hon h
    refine exec_arbitrationLost_of_no_head hon (Bool.eq_false_iff.2 fun hhead => ?_)
    obtain ⟨hno, hfifo⟩ := headOffered_iff.1 hhead
    rcases h with h | h
    · simp [hno] at h
    · exact hfifo h
  case integrated =>
    rintro n s t hstate rfl
    rw [exec_canIntegrated_of_integrating hstate]
    exact ⟨fun h => congrArg Host.Outcome.next (settleReceiver_of_master h),
      fun hrun hid hnone => congrArg Host.Outcome.next (settleReceiver_of_receiver hrun hid hnone)⟩

end Sys2Proof.Machine
end

section
/-! PROOFS. The family 13_field_protocol: roll calls, addresses and claims (R413 to R422), and the transactions (R409 to R427). -/

namespace Sys2Proof.Machine

/-! ## Frames of a kind (R385, log 11) -/

section
variable {n : Nat} {s : State}

theorem takeKind_of_none {kind : Nat}
    (h : ((s.chan n).rx.find? fun f => !f.host && f.frame.extended && identKind f.frame.ident == kind) = none) : takeKind n kind s = none := by
  simp only [takeKind, h]

section
variable {f : RxFrame} {s1 : State}

theorem exec_cfpAnnounce_of_none (h : takeKind n 6 s = none) : exec (.cfpAnnounce n) s = .next s := by
  simp only [exec, execCfpAnnounce, h]

theorem exec_cfpAssign_of_none (h : takeKind n 7 s = none) : exec (.cfpAssign n) s = .next s := by
  simp only [exec, execCfpAssign, h]

theorem exec_cfpClaim_of_none (h : takeKind n 5 s = none) : exec (.cfpClaim n) s = .next s := by
  simp only [exec, execCfpClaim, h]

theorem exec_cfpClaim_of_frame (h : takeKind n 5 s = some (f, s1)) : exec (.cfpClaim n) s = .next (takeClaim n f s1) := by
  simp only [exec, execCfpClaim, h]

theorem exec_cfpRpt_of_none (h : takeKind n 2 s = none) : exec (.cfpRpt n) s = .next s := by
  simp only [exec, execCfpRpt, h]

theorem exec_cfpRsp_of_none (h : takeKind n 1 s = none) : exec (.cfpRsp n) s = .next s := by
  simp only [exec, execCfpRsp, h]

theorem exec_cfpRsp_of_frame (h : takeKind n 1 s = some (f, s1)) : exec (.cfpRsp n) s = .next (takeRsp n f s1) := by
  simp only [exec, execCfpRsp, h]

theorem exec_cfpSegment_of_none (h : takeKind n 3 s = none) : exec (.cfpSegment n) s = .next s := by
  simp only [exec, execCfpSegment, h]

end

/-! ## Roll call (R413, R417) -/

/-- What keeps a chip from sending a ROLL now. -/
def rollBarred (n : Nat) (s : State) : Prop :=
  s.cfg.busOn n = false ∨ sendsOwn s = false ∨ rollSender s n = false ∨ s.hif.supPause = true ∨ s.phase.countValid = false ∨
    s.cycle % 256 ≠ u8 (s.cfg.bus n) 1 ∨ (s.chan n).state = 0 ∨ ((s.bus n).window = true ∧ (s.bus n).lastRoll = s.cycle)

theorem exec_rollCall_of_barred (h : rollBarred n s) : exec (.rollCall n) s = .next s :=
  if_pos h

theorem exec_rollCall_of_due (h : ¬rollBarred n s) {t : State} (ht : t = s.atAngle (max s.angle (u16 (s.cfg.bus n) 2))) {seq : Nat}
    (hseq : seq = ((t.bus n).seq + 1) % 256) :
    exec (.rollCall n) s = .next (sendLayer n
      { frame := cfpFrame t.cfg n (cfpIdent 3 4 127 0 false 0) (le 1 seq ++ le 1 (flag t.phase.countValid 0) ++ be 4 (low32 t.cycle)) }
      (openWindow n seq true t)) := by
  subst ht hseq
  exact if_neg h

end

/-! ## Addresses (R415) -/

section
variable {n uid a : Nat} {f : RxFrame} {s s1 t : State}

theorem chooseAddress_of_known (h : addressOf s n uid = some a) : chooseAddress s n uid = some a := by
  simp only [chooseAddress, h]

theorem chooseAddress_of_free (hnew : addressOf s n uid = none)
    (h : (((List.range 126).map (· + 1)).find? fun a => (s.node n a).uid == 0) = some a) : chooseAddress s n uid = some a := by
  simp only [chooseAddress, hnew, h]

section
variable (hf : takeKind n 6 s = some (f, s1)) (ht : t = s1.setBus n { s1.bus n with announced := (s1.bus n).announced + 1 })
include hf ht

theorem exec_cfpAnnounce_of_other_sender (h : rollSender t n = false) : exec (.cfpAnnounce n) s = .next t := by
  subst ht
  simp only [exec, execCfpAnnounce, hf, h, true_or, if_true]

variable (hsender : rollSender t n = true) (hon : t.cfg.busOn n = true) (hu : n64 f.frame.data 0 = uid)
include hsender hon hu

/-- The sender answers a known UID with its address; a new one's address is entered in the table first, and reported after. -/
theorem exec_cfpAnnounce_of_address (ha : chooseAddress t n uid = some a) {t1 t2 : State}
    (h1 : t1 = if (addressOf t n uid).isSome then t else t.setNode n a { uid := uid, seen := t.cycle })
    (h2 : t2 = sendLayer n { frame := cfpFrame t1.cfg n (cfpIdent 3 7 a 0 false 0) (be 8 uid) }
      (t1.setBus n { t1.bus n with assigned := (t1.bus n).assigned + 1 })) :
    exec (.cfpAnnounce n) s =
      .next (if (addressOf t n uid).isSome then t2 else raise 0x0B01 [n, a, low32 uid, (t2.node n a).kind] t2) := by
  subst hu ht h1 h2
  simp only [exec, execCfpAnnounce, hf, hsender, hon, Bool.true_eq_false, or_self, if_false, ha]
  rfl

theorem exec_cfpAnnounce_of_full (ha : chooseAddress t n uid = none) : exec (.cfpAnnounce n) s = .next (raise 0x0B07 [n, low32 uid] t) := by
  subst hu ht
  simp only [exec, execCfpAnnounce, hf, hsender, hon, Bool.true_eq_false, or_self, if_false, ha]

end

section
variable (hf : takeKind n 7 s = some (f, s1))
include hf

theorem exec_cfpAssign_of_sender (h : rollSender s1 n = true) : exec (.cfpAssign n) s = .next s1 := by
  simp only [exec, execCfpAssign, hf, h, true_or, if_true]

/-- What another sender assigns is learnt, and the UID leaves the other addresses. -/
theorem exec_cfpAssign_of_learnt (h : rollSender s1 n = false) (ha : f.frame.ident / 2 ^ 16 % 128 = a) (h0 : a ≠ 0) (h127 : a ≠ 127)
    (hu : n64 f.frame.data 0 = uid) (ht : t = s1.setBus n { s1.bus n with
      assigned := (s1.bus n).assigned + 1
      nodes := fput {} ((s1.bus n).nodes.filter fun e => !(e.2.uid == uid && e.1 != a)) a
        (if (s1.node n a).uid = uid then s1.node n a else { uid := uid, seen := s1.cycle }) }) :
    exec (.cfpAssign n) s = .next (if (addressOf s1 n uid).isSome then t else raise 0x0B01 [n, a, low32 uid, 0] t) := by
  subst ha hu ht
  simp only [exec, execCfpAssign, hf, h, Bool.false_eq_true, false_or, if_neg (not_or.2 ⟨h0, h127⟩)]

end

/-! ## Claims and reports (R414, R421, R422) -/

theorem takeClaim_of_node (ha : identSrc f.frame.ident = a) (h0 : a ≠ 0) (h127 : a ≠ 127) (hu : claimedUid s n a (n32 f.frame.data 4) = uid)
    (hlow : low32 uid = n32 f.frame.data 4) :
    takeClaim n f s = followListen n (n16 f.frame.data 1) a (u8 f.frame.data 0) (s.setNode n a { s.node n a with
      uid := uid, kind := u8 f.frame.data 3, state := 1, role := n16 f.frame.data 1, epoch := u8 f.frame.data 0, missed := 0, claimed := true
      seen := s.cycle }) := by
  subst ha hu
  exact if_neg (by simp [h0, h127, hlow])

section
variable (hf : takeKind n 2 s = some (f, s1))
  (ht : t = followListen n (s1.node n (identSrc f.frame.ident)).role (identSrc f.frame.ident) (u8 f.frame.data 0) s1)
include hf ht

theorem exec_cfpRpt_of_role {r : Nat} (hr : ((rolesOn t.cfg n).find? fun r =>
    (t.roleEntry r).address == identSrc f.frame.ident && (t.roleEntry r).epoch == u8 f.frame.data 0) = some r) :
    exec (.cfpRpt n) s = .next (takeEntries r f.stamp (u8 f.frame.data 1) (f.frame.data.drop 2) t) := by
  subst ht
  simp only [exec, execCfpRpt, hf, hr]

theorem exec_cfpRpt_of_stale (hr : ((rolesOn t.cfg n).find? fun r =>
    (t.roleEntry r).address == identSrc f.frame.ident && (t.roleEntry r).epoch == u8 f.frame.data 0) = none) :
    exec (.cfpRpt n) s = .next (countBus n 10 t) := by
  subst ht
  simp only [exec, execCfpRpt, hf, hr]

end

/-! ## The end of the claim window (R417, R420, R430) -/

theorem takeClaims_of_none (h : takeKind n 5 s = none) (k : Nat) : takeClaims n k s = s := by
  cases k with
  | zero => rfl
  | succ k => simp only [takeClaims, h]

theorem takeClaims_of_frame (h : takeKind n 5 s = some (f, s1)) (k : Nat) : takeClaims n (k + 1) s = takeClaims n k (takeClaim n f s1) := by
  simp only [takeClaims, h]

theorem exec_claimWindowEnd_of_due (hw : (s.bus n).window = true) (hdue : (s.bus n).lastRoll + 224 ≤ s.cycle) {t0 t1 t2 : State}
    (h0 : t0 = takeClaims n 128 s)
    (h1 : t1 = t0.setBus n { t0.bus n with
      window := false, ended := true, clashNow := [], missing := ((t0.bus n).nodes.filter fun e => !e.2.claimed).length })
    (h2 : t2 = (t0.bus n).clashNow.foldl (countClash n) (((t0.bus n).nodes.map Prod.fst).foldl (missNode n) t1)) :
    exec (.claimWindowEnd n) s =
      .next (((t0.bus n).nodes.map Prod.fst).foldl (clearClaim n) ((rolesOn t2.cfg n).foldl (resolveRole n) ([], t2)).2) := by
  subst h0 h1 h2
  exact if_neg (by simp [hw, Nat.not_lt.2 hdue])

theorem exec_claimWindowEnd_of_early (h : (s.bus n).window = false ∨ s.cycle < (s.bus n).lastRoll + 224) :
    exec (.claimWindowEnd n) s = .next s :=
  if_pos h

theorem missNode_of_claimed (h : (s.node n a).claimed = true) : missNode n s a = s :=
  if_pos h

theorem missNode_of_few (h : (s.node n a).claimed = false) (hfew : (s.node n a).missed + 1 < u8 (s.cfg.bus n) 11) :
    missNode n s a = s.setNode n a { s.node n a with missed := min 255 ((s.node n a).missed + 1) } := by
  simp only [missNode, h, Nat.not_le.2 hfew, decide_false, Bool.false_and, Bool.false_eq_true, if_false]

theorem missNode_of_absent (h : (s.node n a).claimed = false) (hmany : u8 (s.cfg.bus n) 11 ≤ (s.node n a).missed + 1)
    (hpresent : (s.node n a).state = 1) :
    missNode n s a = raise 0x0B02 [n, a, low32 (s.node n a).uid, (s.node n a).missed + 1]
      (unpin (s.node n a).uid (s.setNode n a { s.node n a with missed := min 255 ((s.node n a).missed + 1), state := 2 })) := by
  have hgone : (1 != 2) = true := rfl
  simp only [missNode, h, hmany, hpresent, hgone, decide_true, Bool.and_self, Bool.false_eq_true, if_false, if_true]

end

/-- Settles O46, by the frame that each takes: an ANNOUNCE by its sender and the address found, an ASSIGN by who has sent it, a report by the role it is for; and the ends of the roll call by their conditions. -/
theorem rollCallsAndNodesFollowTheRules : Obligations.RollCallsAndNodesFollowTheRules := by
  refine ⟨?nothing, ?roll, fun _ _ => exec_rollCall_of_barred, ?announce, fun _ _ _ _ => chooseAddress_of_free,
    fun _ _ _ _ => exec_cfpAssign_of_sender, fun _ _ _ _ _ _ hf h ha h0 h127 hu => ⟨_, rfl, exec_cfpAssign_of_learnt hf h ha h0 h127 hu rfl⟩,
    ?claim, fun _ _ _ _ _ hf ht => ⟨fun _ => exec_cfpRpt_of_role hf ht, exec_cfpRpt_of_stale hf ht⟩,
    fun _ _ hw hdue => ⟨_, _, _, rfl, rfl, rfl, exec_claimWindowEnd_of_due hw hdue rfl rfl rfl⟩,
    fun k _ _ => ⟨fun h => takeClaims_of_none h k, fun _ _ h => takeClaims_of_frame h k⟩, fun _ _ => exec_claimWindowEnd_of_early,
    fun _ _ _ => ⟨missNode_of_claimed, missNode_of_few, missNode_of_absent⟩⟩
  case nothing =>
    intro n kind s h
    have hnone := takeKind_of_none h
    refine ⟨?_, ?_, ?_, ?_⟩ <;> rintro rfl
    · exact exec_cfpAnnounce_of_none hnone
    · exact exec_cfpAssign_of_none hnone
    · exact exec_cfpClaim_of_none hnone
    · exact exec_cfpRpt_of_none hnone
  case roll =>
    intro n s hon hown hsender hpause hcount hrod hrun hagain
    refine ⟨_, _, rfl, rfl, exec_rollCall_of_due ?_ rfl rfl⟩
    simp [rollBarred, hon, hown, hsender, hpause, hcount, hrod, hrun, hagain]
  case announce =>
    intro n uid f s s1 t hf hu ht
    refine ⟨exec_cfpAnnounce_of_other_sender hf ht, fun a hsender hon ha => ?known, fun a hsender hon hnew ha => ?new,
      fun hsender hon => exec_cfpAnnounce_of_full hf ht hsender hon hu⟩
    case known =>
      rw [exec_cfpAnnounce_of_address hf ht hsender hon hu (chooseAddress_of_known ha) rfl rfl]
      simp only [ha, Option.isSome_some, if_true]
    case new =>
      refine ⟨_, _, rfl, rfl, ?_⟩
      rw [exec_cfpAnnounce_of_address hf ht hsender hon hu ha rfl rfl]
      simp only [hnew, Option.isSome_none, Bool.false_eq_true, if_false]
  case claim =>
    intro n a uid f s s1 hf ha h0 h127 hu hlow
    rw [exec_cfpClaim_of_frame hf, takeClaim_of_node ha h0 h127 hu hlow]

/-! ## Transactions sent (R382, R409, R410, R423) -/

section
variable {n : Nat} {t : Transaction} {s : State}

/-- The first transaction of a bus that waits for a role without a node (R423). -/
def unheldTx (n : Nat) (s : State) : Option Transaction :=
  (s.bus n).transactions.find? fun t => t.purpose == 0 && decide (t.stage ≤ 1) && roleState s t.role == 3

section
variable (hon : s.cfg.busOn n = true) (hown : sendsOwn s = true) (hrun : (s.chan n).state ≠ 0)
include hon hown hrun

theorem exec_transactionSend_of_unheld (h : unheldTx n s = some t) : exec (.transactionSend n) s = .next (endTx n t 6 0 [] [] s) := by
  unfold unheldTx at h
  simp only [exec, execTransactionSend, hon, hown, hrun, Bool.true_eq_false, or_self, if_false, h]

variable (hheld : unheldTx n s = none)
include hheld

theorem exec_transactionSend_of_nothing (h : (s.bus n).transactions.find? (sendable s n) = none) : exec (.transactionSend n) s = .next s := by
  unfold unheldTx at hheld
  simp only [exec, execTransactionSend, hon, hown, hrun, Bool.true_eq_false, or_self, if_false, hheld, h]

theorem exec_transactionSend_of_sendable (h : (s.bus n).transactions.find? (sendable s n) = some t) :
    exec (.transactionSend n) s = .next (if t.origin = 0 then sendBead n s.phase.now t s else sendTx n t s) := by
  unfold unheldTx at hheld
  simp only [exec, execTransactionSend, hon, hown, hrun, Bool.true_eq_false, or_self, if_false, hheld, h]

end

theorem exec_transactionSend_of_resting (h : s.cfg.busOn n = false ∨ sendsOwn s = false ∨ (s.chan n).state = 0) :
    exec (.transactionSend n) s = .next s :=
  if_pos h

theorem sendTx_of_resolved {a e k : Nat} {b : Bus} (hr : resolve s t = some (a, e)) (hk : takeTag (s.bus n) t = some (k, b)) {t1 : Transaction}
    {f : TxFrame × List Byte} (h1 : t1 = { t with address := a, epoch := e, tag := some k, stage := 2, seq := 1 }) (hf : f = firstFrame s n t1) :
    sendTx n t s = feedSegments 32 n
      (if t.origin = 0 then offerBead n f.1 (setTx n { t1 with rest := f.2 } (s.setBus n b))
       else pushFifo n f.1 (setTx n { t1 with rest := f.2 } (s.setBus n b))) := by
  subst h1 hf
  simp only [sendTx, hr, hk]

/-- A bead's transaction that has its tag, with room in the hold queue, is sent as any other; its frame keeps the bead's own instant (R382). -/
theorem sendBead_of_room {due : Instant} {s1 : State} (htag : t.tag.isSome = true) (hroom : (s.chan n).hold.length < 16) (h1 : s1 = sendTx n t s) :
    sendBead n due t s = s1.setChan n { s1.chan n with
      hold := (s1.chan n).hold.map fun f => if f.transaction = some t.order then { f with due := due } else f } := by
  subst h1
  simp only [sendBead, htag, if_true, ge_iff_le, Nat.not_le.2 hroom, decide_false, Bool.false_and, Bool.false_eq_true, if_false]

end

/-! ## Responses and segments (R411, R425, R426) -/

section
variable {n : Nat} {f : RxFrame} {t : Transaction} {s s1 : State}

theorem takeRsp_of_no_transaction (h : answeredTx s n 3 f.frame = none) : takeRsp n f s = s := by
  simp only [takeRsp, h]

section
variable (h : answeredTx s n 3 f.frame = some t)
include h

theorem takeRsp_of_whole (hwhole : bit (u8 f.frame.data 0) 7 = false) :
    takeRsp n f s = finishRsp n t f (u8 f.frame.data 0) (u8 f.frame.data 1) (n16 f.frame.data 2) (f.frame.data.drop 4) s := by
  simp only [takeRsp, h, hwhole, Bool.false_eq_true, if_false]

/-- A response with a length: whole in its first frame, or begun by it. -/
theorem takeRsp_of_segmented (hseg : bit (u8 f.frame.data 0) 7 = true) :
    takeRsp n f s =
      if n16 f.frame.data 4 ≤ (f.frame.data.drop 6).length then
        finishRsp n t f (u8 f.frame.data 0 % 128) (u8 f.frame.data 1) (n16 f.frame.data 2) ((f.frame.data.drop 6).take (n16 f.frame.data 4)) s
      else
        setTx n { t with
          stage := 4, status := u8 f.frame.data 0 % 128, rspEpoch := u8 f.frame.data 1, rspRole := n16 f.frame.data 2, total := n16 f.frame.data 4
          result := f.frame.data.drop 6, rseq := 1 } s := by
  simp only [takeRsp, h, hseg, if_true]

end

section
variable (hf : takeKind n 3 s = some (f, s1))
include hf

theorem exec_cfpSegment_of_request (h : bit f.frame.ident 8 = false) : exec (.cfpSegment n) s = .next s1 := by
  simp only [exec, execCfpSegment, hf, h, if_true]

theorem exec_cfpSegment_of_no_transaction (h : answeredTx s1 n 4 f.frame = none) : exec (.cfpSegment n) s = .next s1 := by
  simp only [exec, execCfpSegment, hf, h, ite_self]

/-- A segment of a response: out of order it fails the transfer, in order it continues or ends it. -/
theorem exec_cfpSegment_of_transaction (hrsp : bit f.frame.ident 8 = true) (h : answeredTx s1 n 4 f.frame = some t) :
    exec (.cfpSegment n) s =
      if u8 f.frame.data 0 ≠ t.rseq then .next (feedLayer n (failTx n t 3 0 s1))
      else if t.total ≤ (t.result ++ f.frame.data.drop 1).length then
        .next (finishRsp n t f t.status t.rspEpoch t.rspRole ((t.result ++ f.frame.data.drop 1).take t.total) (countBus n 12 s1))
      else .next (setTx n { t with result := t.result ++ f.frame.data.drop 1, rseq := (t.rseq + 1) % 256 } (countBus n 12 s1)) := by
  simp only [exec, execCfpSegment, hf, hrsp, Bool.true_eq_false, if_false, h]

end

/-! ## Timeouts and failures (R411, R425, R426) -/

section
variable {tag : Nat}

theorem exec_cfpTimeout_of_tagged (h : taggedTx s n tag 3 = some t) :
    exec (.cfpTimeout n tag) s =
      if (waitingRsp s n fun x => x.order == t.order).isSome then .next s else .next (failTx n t 2 0 s) := by
  simp only [exec, execCfpTimeout, h]

theorem exec_cfpTimeout_of_no_transaction (h : taggedTx s n tag 3 = none) : exec (.cfpTimeout n tag) s = .next s := by
  simp only [exec, execCfpTimeout, h]

theorem exec_segmentTimeout_of_tagged (h : taggedTx s n tag 4 = some t) : exec (.segmentTimeout n tag) s = .next (failTx n t 3 0 s) := by
  simp only [exec, execSegmentTimeout, h]

theorem exec_segmentTimeout_of_no_transaction (h : taggedTx s n tag 4 = none) : exec (.segmentTimeout n tag) s = .next s := by
  simp only [exec, execSegmentTimeout, h]

end

section
variable {outcome status epoch role : Nat} {result : List Byte}

theorem failTx_of_retry (hidem : t.idem = true) (hlost : outcome = 2 ∨ outcome = 3) (hleft : t.retried < u8 (s.cfg.bus n) 8) :
    failTx n t outcome status s = setTx n { t with stage := 1, retried := t.retried + 1, rest := [], result := [], total := 0, rseq := 1 } s :=
  if_pos ⟨hidem, hlost, hleft⟩

theorem failTx_of_end (h : t.idem = false ∨ u8 (s.cfg.bus n) 8 ≤ t.retried) :
    failTx n t outcome status s = manageFailed t (endTx n t outcome status [] [] s) := by
  refine if_neg ?_
  rintro ⟨hidem, -, hleft⟩
  rcases h with h | h
  · simp [hidem] at h
  · exact Nat.not_lt.2 h hleft

theorem finishRsp_of_other_status (hok : status ≠ 0) (hstale : status ≠ 4) :
    finishRsp n t f status epoch role result s = manageFailed t (endTx n t 1 status result [] s) :=
  (if_neg hok).trans (if_neg hstale)

end

end

/-- Settles O47, command by command: what is sent by the first transaction found, a response by its transaction and its length, a segment by its order, a timeout by whether the response has come. -/
theorem transactionsRunTheirCourse : Obligations.TransactionsRunTheirCourse := by
  refine ⟨?send, fun _ _ _ _ _ _ _ hr hk => ⟨_, _, rfl, rfl, sendTx_of_resolved hr hk rfl rfl⟩,
    fun _ _ _ _ htag hroom => ⟨_, rfl, sendBead_of_room htag hroom rfl⟩, fun _ _ => exec_transactionSend_of_resting, ?response,
    fun _ _ => exec_cfpRsp_of_none, fun _ _ => exec_cfpSegment_of_none, ?segment, ?timeout, fun _ _ _ => exec_cfpTimeout_of_no_transaction,
    fun _ _ _ _ => exec_segmentTimeout_of_tagged, fun _ _ _ => exec_segmentTimeout_of_no_transaction,
    fun _ _ _ _ _ => ⟨failTx_of_retry, failTx_of_end⟩, fun _ _ _ _ _ _ _ _ => ⟨if_pos rfl, finishRsp_of_other_status⟩⟩
  case send =>
    intro n s hon hown hrun
    exact ⟨fun t => exec_transactionSend_of_unheld hon hown hrun, exec_transactionSend_of_nothing hon hown hrun,
      fun t => exec_transactionSend_of_sendable hon hown hrun⟩
  case response =>
    intro n f s s1 hf
    rw [exec_cfpRsp_of_frame hf]
    refine ⟨fun h => by rw [takeRsp_of_no_transaction h], fun t h => ⟨fun hwhole => by rw [takeRsp_of_whole h hwhole], fun hseg hfits => ?_,
      fun hseg hlong => ?_⟩⟩
    · rw [takeRsp_of_segmented h hseg, if_pos hfits]
    · rw [takeRsp_of_segmented h hseg, if_neg (Nat.not_le.2 hlong)]
  case segment =>
    intro n f s s1 hf
    refine ⟨exec_cfpSegment_of_request hf, exec_cfpSegment_of_no_transaction hf, fun t hrsp h => ?_⟩
    rw [exec_cfpSegment_of_transaction hf hrsp h]
    exact ⟨fun hout => if_pos hout, fun hin hmore => (if_neg (not_not_intro hin)).trans (if_neg (Nat.not_le.2 hmore)),
      fun hin hlast => (if_neg (not_not_intro hin)).trans (if_pos hlast)⟩
  case timeout =>
    intro n tag t s h
    rw [exec_cfpTimeout_of_tagged h]
    exact ⟨fun hnone => if_neg (by simp [hnone]), fun hcome => if_pos hcome⟩

end Sys2Proof.Machine
end

section
/-! PROOFS. The family 14_valve_drive: valve requests, the phases of an event, duty requests and faults (R441 to R458), and the VALVE verbs (R467, R468). -/

namespace Sys2Proof.Machine

/-! ## Events start (R446, R448, R449) -/

/-- The request that a bank's next event starts with: of those that wait and may start, the first in rank. -/
def readyRequest (b : Nat) (s : State) : Option ValveReq :=
  firstRequest (((List.range 8).filterMap fun k => (s.valveCh (8 * b + k)).waiting).filter (mayStart s))

theorem foldl_setValveCh_phase (g : State → Nat → ValveChannel) (cs : List Nat) (s : State) :
    (cs.foldl (fun s c => s.setValveCh c (g s c)) s).phase = s.phase := by
  induction cs generalizing s with
  | nil => rfl
  | cons c cs ih => exact ih _

section
variable {b : Nat} {r : ValveReq} {s : State}

theorem exec_valveEventStart_of_none (h : readyRequest b s = none) : exec (.valveEventStart b) s = .next s := by
  unfold readyRequest at h
  simp only [exec, execValveEventStart, h]

theorem exec_valveEventStart_of_ready (h : readyRequest b s = some r) : exec (.valveEventStart b) s = .next (startEvent r s) := by
  unfold readyRequest at h
  simp only [exec, execValveEventStart, h]

/-- The counters of a request that starts, late or not, move in its channel alone. -/
theorem countStarted_phase (u : State) :
    (countValve r.channel 0 (if r.requested.tu < s.phase.now.tu then countValve r.channel 2 u else u)).phase = u.phase := by
  split <;> rfl

theorem startEvent_eq {u t : State} (hu : u = s.setValveCh r.channel { s.valveCh r.channel with waiting := none })
    (ht : t = (requestChannels s.cfg r).foldl
      (fun t c => t.setValveCh c { t.valveCh c with peak := 0, micros := 0, mean := 0, current := 0, lastEnd := u16 (s.cfg.profile r.profile) 24 })
      (countValve r.channel 0 (if r.requested.tu < s.phase.now.tu then countValve r.channel 2 u else u))) :
    startEvent r s = fireDone r (t.setVbank (r.channel / 8) { t.vbank (r.channel / 8) with
      event := some { req := r, channels := requestChannels s.cfg r, profile := s.cfg.profile r.profile, phase := 3
                      start := t.phase.now, phaseStart := t.phase.now } }) := by
  have hphase : t.phase = s.phase := by rw [ht, foldl_setValveCh_phase, countStarted_phase, hu]; rfl
  rw [hphase, ht, hu]; rfl

end

/-! ## Phases of an event (R441) -/

section
variable {n : Nat} {s : State}

section
variable (h : eventOn s n = none)
include h

theorem exec_valvePeakReached_of_no_event (us ma : Nat) : exec (.valvePeakReached n us ma) s = .next s := by
  simp only [exec, execValvePeakReached, h]

theorem exec_valvePeakEnd_of_no_event : exec (.valvePeakEnd n) s = .next s := by
  simp only [exec, execValvePeakEnd, h]

theorem exec_valveDropEnd_of_no_event : exec (.valveDropEnd n) s = .next s := by
  simp only [exec, execValveDropEnd, h]

theorem exec_valveHoldEnd_of_no_event (ma : Nat) : exec (.valveHoldEnd n ma) s = .next s := by
  simp only [exec, execValveHoldEnd, h]

theorem exec_valveDecayEnd_of_no_event : exec (.valveDecayEnd n) s = .next s := by
  simp only [exec, execValveDecayEnd, h]

theorem exec_valveOpen_of_no_event (ma : Nat) : exec (.valveOpen n ma) s = .next s := by
  simp only [exec, execValveOpen, h]

theorem exec_valveShort_of_no_event (us : Nat) : exec (.valveShort n us) s = .next s := by
  simp only [exec, execValveShort, h]

theorem exec_valveOvercurrent_of_no_event (ma : Nat) : exec (.valveOvercurrent n ma) s = .next s := by
  simp only [exec, execValveOvercurrent, h]

end

section
variable {e : ValveEvent} (h : eventOn s n = some e)
include h

theorem exec_valvePeakReached_of_rise {us ma : Nat} {t : State} (hphase : e.phase = 3)
    (ht : t = s.setValveCh n { s.valveCh n with peak := ma, micros := us, current := ma }) :
    exec (.valvePeakReached n us ma) s = .next (toPhase n (if u32 e.profile 4 ≠ 0 then 4 else if e.req.hold = 0 then 7 else 6) e t) := by
  subst ht
  simp only [exec, execValvePeakReached, h, hphase, ne_eq, not_true_eq_false, if_false, afterPeak, ite_not]

theorem exec_valvePeakReached_of_other {us ma : Nat} (hphase : e.phase ≠ 3) : exec (.valvePeakReached n us ma) s = .next s := by
  simp only [exec, execValvePeakReached, h, if_pos hphase]

theorem exec_valvePeakEnd_of_peak (hphase : e.phase = 3 ∨ e.phase = 4) (hpeak : u32 e.profile 4 ≠ 0) :
    exec (.valvePeakEnd n) s = .next (toPhase n (if e.req.hold = 0 then 7 else 5) e s) := by
  simp only [exec, execValvePeakEnd, h, if_pos (And.intro hphase hpeak), afterPeak]

theorem exec_valvePeakEnd_of_other (hother : (e.phase ≠ 3 ∧ e.phase ≠ 4) ∨ u32 e.profile 4 = 0) : exec (.valvePeakEnd n) s = .next s := by
  have hno : ¬((e.phase = 3 ∨ e.phase = 4) ∧ u32 e.profile 4 ≠ 0) := by
    rintro ⟨hphase, hpeak⟩
    exact hother.elim (fun ⟨h3, h4⟩ => hphase.elim h3 h4) hpeak
  simp only [exec, execValvePeakEnd, h, if_neg hno]

theorem exec_valveDropEnd_of_drop (hphase : e.phase = 5) :
    exec (.valveDropEnd n) s = .next (toPhase n 6 e (s.setValveCh n { s.valveCh n with current := u16 e.profile 2 })) := by
  simp only [exec, execValveDropEnd, h, if_pos hphase]

theorem exec_valveDropEnd_of_other (hphase : e.phase ≠ 5) : exec (.valveDropEnd n) s = .next s := by
  simp only [exec, execValveDropEnd, h, if_neg hphase]

theorem exec_valveHoldEnd_of_hold {ma : Nat} (hphase : e.phase = 6) :
    exec (.valveHoldEnd n ma) s = .next (toPhase n 7 e (s.setValveCh n { s.valveCh n with mean := ma, current := ma })) := by
  simp only [exec, execValveHoldEnd, h, if_pos hphase]

theorem exec_valveHoldEnd_of_other {ma : Nat} (hphase : e.phase ≠ 6) : exec (.valveHoldEnd n ma) s = .next s := by
  simp only [exec, execValveHoldEnd, h, if_neg hphase]

theorem exec_valveDecayEnd_of_decay (hphase : e.phase = 7) : exec (.valveDecayEnd n) s = .next (endEvent (n / 8) s) := by
  simp only [exec, execValveDecayEnd, h, if_pos hphase]

theorem exec_valveDecayEnd_of_other (hphase : e.phase ≠ 7) : exec (.valveDecayEnd n) s = .next s := by
  simp only [exec, execValveDecayEnd, h, if_neg hphase]

/-! ## Faults of a channel (R457) -/

theorem exec_valveOpen_of_event (ma : Nat) : exec (.valveOpen n ma) s =
    .next (if ma < u16 e.profile 16 then raise 0x0C02 [n, e.req.profile, ma, driverCode e.req] (latchChannel n 1 s) else s) := by
  simp only [exec, execValveOpen, h]
  split <;> rfl

theorem exec_valveShort_of_rise {us : Nat} (hphase : e.phase = 3) : exec (.valveShort n us) s =
    .next (if us < u16 e.profile 20 then raise 0x0C03 [n, e.req.profile, us, driverCode e.req] (latchChannel n 2 s) else s) := by
  simp only [exec, execValveShort, h, hphase, true_and]
  split <;> rfl

theorem exec_valveShort_of_other {us : Nat} (hphase : e.phase ≠ 3) : exec (.valveShort n us) s = .next s := by
  simp only [exec, execValveShort, h, hphase, false_and, if_false]

theorem exec_valveOvercurrent_of_event (ma : Nat) : exec (.valveOvercurrent n ma) s =
    .next (if u16 e.profile 22 < ma then raise 0x0C04 [n, e.phase, ma, driverCode e.req] (latchChannel n 3 s) else s) := by
  simp only [exec, execValveOvercurrent, h]
  split <;> rfl

end

theorem endEvent_of_event {b : Nat} {e : ValveEvent} {t : State} (h : (s.vbank b).event = some e)
    (ht : t = e.channels.foldl (fun s c => s.setValveCh c { s.valveCh c with offTime := true, current := 0, endCycle := s.cycle }) s) :
    endEvent b s = t.setVbank b { t.vbank b with event := none, recovery := true } := by
  subst ht
  simp only [endEvent, h]

/-! ## Deferrals (R451, R461) -/

theorem exec_valveDeferExpiry_of_none (h : (s.valveCh n).waiting = none) : exec (.valveDeferExpiry n) s = .next s := by
  simp only [exec, execValveDeferExpiry, h]

section
variable {r : ValveReq} (h : (s.valveCh n).waiting = some r)
include h

theorem exec_valveDeferExpiry_of_early (hearly : s.cycle < (r.requested.add r.defer).cycle) : exec (.valveDeferExpiry n) s = .next s := by
  simp only [exec, execValveDeferExpiry, h, if_pos hearly]

variable (hlimit : (r.requested.add r.defer).cycle ≤ s.cycle) {s0 : State}
  (h0 : s0 = if (r.requested.add r.defer).cycle = s.cycle then s.atAngle (max s.angle (r.requested.add r.defer).angle) else s)
  {ready : Option ValveReq}
  (hready : ready = firstRequest (((List.range 8).filterMap fun k => (s0.valveCh (n / 8 * 8 + k)).waiting).filter (mayStart s0)))
include hlimit h0 hready

theorem exec_valveDeferExpiry_of_ready (hnow : s0.phase.now = r.requested.add r.defer) (hr : ready = some r) :
    exec (.valveDeferExpiry n) s = .next (startEvent r s0) := by
  subst hready h0
  simp only [exec, execValveDeferExpiry, h, if_neg (Nat.not_lt.2 hlimit), if_pos (And.intro hnow hr)]

variable (hnot : s0.phase.now ≠ r.requested.add r.defer ∨ ready ≠ some r) {t : State}
  (ht : t = s0.setValveCh n { s0.valveCh n with waiting := none })
include hnot ht

theorem exec_valveDeferExpiry_of_idle_bank (hidle : (s.vbank (n / 8)).event = none) :
    exec (.valveDeferExpiry n) s = .next (refuseValve r 2 none t) := by
  subst ht hready h0
  simp only [exec, execValveDeferExpiry, h, if_neg (Nat.not_lt.2 hlimit), if_neg (not_and_or.2 hnot), hidle]

theorem exec_valveDeferExpiry_of_busy_bank {e : ValveEvent} (hbusy : (s.vbank (n / 8)).event = some e) :
    exec (.valveDeferExpiry n) s =
      .next (refuseValve r (if ((requestChannels s.cfg r).any fun c => (eventOn s c).isSome) then 2 else 1) (some e.req) t) := by
  subst ht hready h0
  simp only [exec, execValveDeferExpiry, h, if_neg (Nat.not_lt.2 hlimit), if_neg (not_and_or.2 hnot), hbusy]

end

/-! ## Duty drive (R454) -/

theorem exec_dutyInstant_of_other_rod
    (h : bit (u8 (s.cfg.valve n) 0) 2 = false ∨ s.phase.started = false ∨ s.cycle % 2 ^ u8 (s.cfg.valve n) 6 ≠ u16 (s.cfg.valve n) 10) :
    exec (.dutyInstant n) s = .next s :=
  if_pos h

section
variable (hon : bit (u8 (s.cfg.valve n) 0) 2 = true) (hstarted : s.phase.started = true)
  (hrod : s.cycle % 2 ^ u8 (s.cfg.valve n) 6 = u16 (s.cfg.valve n) 10) {t : State} (ht : t = s.atAngle (max s.angle (u16 (s.cfg.valve n) 8)))
include hon hstarted hrod ht

theorem exec_dutyInstant_of_no_route (hroute : valveRoute t.cfg n = none) : exec (.dutyInstant n) s = .next t := by
  subst ht
  simp only [exec, execDutyInstant, hon, hstarted, hrod, Bool.true_eq_false, ne_eq, not_true_eq_false, or_self, if_false, hroute]

/-- The duty of a routed channel: a value of zero, or no rod frequency, opens nothing; a time too short is counted; another is requested. -/
theorem exec_dutyInstant_of_route {l o : Nat} {d : Word} {p : List Byte} {time : Exact} (hroute : valveRoute t.cfg n = some (l, o))
    (hd : (fget none (t.loop l).applied o).getD zeroWord = d) (hp : p = t.cfg.profile (u8 (s.cfg.valve n) 1))
    (htime : time = (exact d).times ((2 ^ u8 (s.cfg.valve n) 6 * 10 ^ 12 : Nat) : Int) t.dtFreq) :
    exec (.dutyInstant n) s =
      if isZeroFp d = true ∨ t.dtFreq = 0 then .next t
      else if time.lt (Exact.ofInt (u32 p 4 + u16 p 18 : Nat)) = true then .next (countValve n 4 t)
      else .next (requestValve
        { channel := n, profile := u8 (s.cfg.valve n) 1, requested := t.phase.now
          hold := min (u32 p 8) ((time.sub (Exact.ofInt (u32 p 4 : Nat))).rounded 0).toNat, layer := 2, number := l, defer := u16 p 14 } t) := by
  subst ht hd hp htime
  simp only [exec, execDutyInstant, hon, hstarted, hrod, Bool.true_eq_false, ne_eq, not_true_eq_false, or_self, if_false, hroute]

end

end

/-! ## Faults of a bank (R456, R457) -/

section
variable {b : Nat} {s : State}

section
variable (h : (s.vbank b).event = none)
include h

theorem exec_valveDecay_of_no_event (ma : Nat) : exec (.valveDecay b ma) s = .next s := by
  simp only [exec, execValveDecay, h]

theorem exec_valveBankOvercurrent_of_no_event (ma : Nat) : exec (.valveBankOvercurrent b ma) s = .next s := by
  simp only [exec, execValveBankOvercurrent, h]

theorem exec_valveGroundShort_of_no_event (ma : Nat) : exec (.valveGroundShort b ma) s = .next s := by
  simp only [exec, execValveGroundShort, h]

end

section
variable {e : ValveEvent} (h : (s.vbank b).event = some e)
include h

theorem exec_valveDecay_of_event (ma : Nat) : exec (.valveDecay b ma) s =
    .next (if e.phase = 7 ∧ u16 e.profile 24 ≤ ma then raise 0x0C05 [b, e.req.channel, ma] (latchBank b 4 e.req.channel s) else s) := by
  simp only [exec, execValveDecay, h]
  split <;> rfl

theorem exec_valveBankOvercurrent_of_event {ma : Nat} {t : State} (ht : t = s.setVbank b { s.vbank b with current := ma }) :
    exec (.valveBankOvercurrent b ma) s =
      .next (if u16 (s.cfg.valveBank b) 6 < ma then raise 0x0C07 [b, ma, e.req.channel] (latchBank b 6 e.req.channel t) else t) := by
  subst ht
  simp only [exec, execValveBankOvercurrent, h]
  split <;> rfl

theorem exec_valveGroundShort_of_event (ma : Nat) : exec (.valveGroundShort b ma) s =
    .next (if u16 (s.cfg.valveBank b) 8 < ma then raise 0x0C08 [b, ma, e.req.channel] (latchBank b 7 e.req.channel s) else s) := by
  simp only [exec, execValveGroundShort, h]
  split <;> rfl

end

theorem exec_valveStuck_of_idle {n ma : Nat} (hidle : (s.vbank (n / 8)).event = none) (hon : u8 (s.cfg.valveBank (n / 8)) 0 = 1)
    (hsound : (s.vbank (n / 8)).fault = 0) :
    exec (.valveStuck n ma) s =
      .next (if (s.valveCh n).lastEnd < ma then raise 0x0C06 [n / 8, n, ma] (latchBank (n / 8) 5 n s) else s) := by
  simp only [exec, execValveStuck, hidle, Option.isNone_none, hon, hsound, true_and]
  split <;> rfl

theorem exec_valveStuck_of_other {n ma : Nat}
    (h : (s.vbank (n / 8)).event.isSome = true ∨ u8 (s.cfg.valveBank (n / 8)) 0 ≠ 1 ∨ (s.vbank (n / 8)).fault ≠ 0) :
    exec (.valveStuck n ma) s = .next s := by
  refine if_neg ?_
  rintro ⟨hidle, hon, hsound, -⟩
  rcases h with h | h | h
  · simp [Option.isNone_iff_eq_none.1 hidle] at h
  · exact h hon
  · exact h hsound

end

/-- Settles O48, command by command: by the event of the channel or bank and its phase, by whether a request that waits can start at its limit, by the route of a duty channel, and by each fault's threshold. -/
theorem valveRequestsAndEventsRun : Obligations.ValveRequestsAndEventsRun := by
  refine ⟨fun _ _ => exec_valveEventStart_of_none, ?start, ?noEvent, ?event, ?decayEnd, fun _ _ => ⟨rfl, rfl⟩, fun _ _ => exec_valveDeferExpiry_of_none,
    fun _ _ _ => exec_valveDeferExpiry_of_early, ?deferExpiry, fun _ _ => exec_dutyInstant_of_other_rod, ?dutyNone, ?duty, ?noBankEvent, ?bankEvent,
    fun _ _ _ => exec_valveStuck_of_idle, fun _ _ _ => exec_valveStuck_of_other⟩
  case start =>
    intro b r s h
    refine ⟨_, _, rfl, rfl, ?_⟩
    rw [exec_valveEventStart_of_ready h, startEvent_eq rfl rfl]
  case noEvent =>
    intro n a b s h
    exact ⟨exec_valvePeakReached_of_no_event h a b, exec_valvePeakEnd_of_no_event h, exec_valveDropEnd_of_no_event h,
      exec_valveHoldEnd_of_no_event h a, exec_valveDecayEnd_of_no_event h, exec_valveOpen_of_no_event h a, exec_valveShort_of_no_event h a,
      exec_valveOvercurrent_of_no_event h a⟩
  case event =>
    intro n e s h
    exact ⟨fun _ _ hphase => ⟨_, rfl, exec_valvePeakReached_of_rise h hphase rfl⟩, exec_valvePeakEnd_of_peak h, exec_valvePeakEnd_of_other h,
      fun _ => exec_valveShort_of_other h, exec_valveDropEnd_of_drop h, fun _ => exec_valveHoldEnd_of_hold h,
      fun _ _ => exec_valvePeakReached_of_other h, exec_valveDropEnd_of_other h, fun _ => exec_valveHoldEnd_of_other h,
      exec_valveDecayEnd_of_other h, exec_valveOpen_of_event h, fun _ => exec_valveShort_of_rise h, exec_valveOvercurrent_of_event h⟩
  case decayEnd =>
    intro n e s h hphase hbank
    refine ⟨_, rfl, ?_⟩
    rw [exec_valveDecayEnd_of_decay h hphase, endEvent_of_event hbank rfl]
  case deferExpiry =>
    intro n r s s0 h hlimit h0
    exact ⟨_, _, rfl, rfl, exec_valveDeferExpiry_of_ready h hlimit h0 rfl, fun hnot =>
      ⟨exec_valveDeferExpiry_of_idle_bank h hlimit h0 rfl hnot rfl, fun _ => exec_valveDeferExpiry_of_busy_bank h hlimit h0 rfl hnot rfl⟩⟩
  case dutyNone =>
    rintro n s t hon hstarted hrod ht (hroute | ⟨l, o, hroute, hzero⟩)
    · exact exec_dutyInstant_of_no_route hon hstarted hrod ht hroute
    · exact (exec_dutyInstant_of_route hon hstarted hrod ht hroute rfl rfl rfl).trans (if_pos hzero)
  case duty =>
    intro n l o d s t hon hstarted hrod ht hroute hd hnonzero hfreq
    have hval : (fget none (t.loop l).applied o).getD zeroWord = d := by rw [hd, Option.getD_some]
    have hopens : ¬(isZeroFp d = true ∨ t.dtFreq = 0) := by simp [hnonzero, hfreq]
    refine ⟨_, _, rfl, rfl, ?_⟩
    rw [exec_dutyInstant_of_route hon hstarted hrod ht hroute hval rfl rfl, if_neg hopens]
    exact ⟨fun hshort => if_pos hshort, fun hlong => if_neg (ne_true_of_eq_false hlong)⟩
  case noBankEvent =>
    intro b s h ma
    exact ⟨exec_valveDecay_of_no_event h ma, exec_valveBankOvercurrent_of_no_event h ma, exec_valveGroundShort_of_no_event h ma⟩
  case bankEvent =>
    intro b ma e s h
    exact ⟨exec_valveDecay_of_event h ma, ⟨_, rfl, exec_valveBankOvercurrent_of_event h rfl⟩, exec_valveGroundShort_of_event h ma⟩

/-! ## The VALVE verbs (R459, R467, R468) -/

section
variable {c : Call}

theorem valveArgument_of_channel (hn : u8 c.pay 0 ≤ 39) (hzero : allZero (c.pay.drop 1) = true) : valveArgument c = some (u8 c.pay 0) :=
  if_pos ⟨hn, hzero⟩

theorem valveArgument_of_all (hn : u8 c.pay 0 = 0xFF) : valveArgument c = none :=
  if_neg fun ⟨hle, _⟩ => absurd (hn ▸ hle) (by decide)

/-- With room for one more, a command is deferred under the next job number (R52). -/
theorem defer_of_room {object : Nat} {s : State} (hroom : s.mail.deferred.length < 16) :
    defer c object s = ({ s with mail := { s.mail with
        jobs := s.mail.jobs + 1
        deferred := s.mail.deferred ++
          [{ job := s.mail.jobs, code := c.req.hdr.code, tag := c.req.hdr.tag, session := c.session, who := c.req.who, mailbox := c.mbx
             port := c.req.port, vid := c.req.vid, owner := c.owner, object := object }] } }, { status := 1, job := some s.mail.jobs }) :=
  if_neg (Nat.not_le.2 hroom)

/-- The request of a VALVE.FIRE (R459, R468). -/
def fireRequest (c : Call) (s : State) : ValveReq :=
  { channel := u8 c.pay 0, profile := u8 c.pay 1, abort := bit (u8 c.pay 2) 0, pair := bit (u8 c.pay 2) 1, requested := s.phase.now
    hold := if u32 c.pay 4 = 0 then u32 (s.cfg.profile (u8 c.pay 1)) 8 else u32 c.pay 4, layer := 3, number := c.req.hdr.tag
    defer := u16 (s.cfg.profile (u8 c.pay 1)) 14, job := s.mail.jobs }

/-- The arguments of a VALVE.FIRE that are bad (R468). -/
def fireBad (c : Call) (s : State) : Prop :=
  u8 c.pay 0 > 39 ∨ u8 c.pay 1 > 15 ∨ u8 c.pay 2 ≥ 4 ∨ u8 c.pay 3 ≠ 0 ∨
    (bit (u8 c.pay 2) 1 = true ∧ pairIn (s.cfg.valveBank (u8 c.pay 0 / 8)) (u8 c.pay 0) = none) ∨
    (u32 c.pay 4 ≠ 0 ∧ emptyProfile (s.cfg.profile (u8 c.pay 1)) = true)

section
variable {m : Nat} {s : State} (h : asked s m 0x0C02 2 (· == 8) c = true) (hgood : ¬fireBad c s)
include h hgood

theorem exec_valveFire_of_no_host (hhost : bit (u8 (s.cfg.valve (u8 c.pay 0)) 0) 1 = false) : exec (.valveFire m) s = .next (answer m (bad 5) s) := by
  unfold fireBad at hgood
  simp only [exec, execValveFire]
  rw [serve_of_asked _ h]
  simp only [if_neg hgood, hhost, if_true]

variable (hhost : bit (u8 (s.cfg.valve (u8 c.pay 0)) 0) 1 = true)
include hhost

theorem exec_valveFire_of_barred (hbarred : valveEnabled s (u8 c.pay 0) = false ∨ requestFaulted s (fireRequest c s) = true) :
    exec (.valveFire m) s = .next (answer m (bad 8) s) := by
  unfold fireBad at hgood
  unfold fireRequest at hbarred
  simp only [exec, execValveFire]
  rw [serve_of_asked _ h]
  simp only [if_neg hgood, hhost, Bool.true_eq_false, if_false, if_pos hbarred]

theorem exec_valveFire_of_accepted (hon : valveEnabled s (u8 c.pay 0) = true) (hsound : requestFaulted s (fireRequest c s) = false)
    (hroom : s.mail.deferred.length < 16) :
    exec (.valveFire m) s = .next (answer m { status := 1, job := some s.mail.jobs } (requestValve (fireRequest c s) (defer c (u8 c.pay 0) s).1)) := by
  have hfree : ¬(valveEnabled s (u8 c.pay 0) = false ∨ requestFaulted s (fireRequest c s) = true) := by simp [hon, hsound]
  unfold fireBad at hgood
  unfold fireRequest at hfree
  simp only [exec, execValveFire]
  rw [serve_of_asked _ h]
  simp only [if_neg hgood, hhost, Bool.true_eq_false, if_false, if_neg hfree, defer_of_room hroom, if_true]
  rfl

end

end

/-- Settles O49, verb by verb: none of the body's refusals applies, so that its last branch runs; FIRE by what keeps its channel from it. -/
theorem valveVerbsComplete : Obligations.ValveVerbsComplete := by
  refine ⟨reads_of_body _ (fun _ _ => rfl) ?status, ?fire, ?noHost, completes_of_body _ (fun _ _ => rfl) ?clearChannel,
    completes_of_body _ (fun _ _ => rfl) ?clearBank, reads_of_body _ (fun _ _ => rfl) ?profile, reads_of_body _ (fun _ _ => rfl) ?stats,
    completes_of_body _ (fun _ _ => rfl) ?statsOne, completes_of_body _ (fun _ _ => rfl) ?statsAll⟩
  case status =>
    rintro c s ⟨hn, hzero⟩
    simp only [valveArgument_of_channel hn hzero]
  case fire =>
    rintro m s c r h hn hp hfl hzero hpair hhold hhost rfl
    have hgood : ¬fireBad c s := by
      rintro (hbad | hbad | hbad | hbad | ⟨hbit, hnone⟩ | ⟨hgiven, hempty⟩)
      · omega
      · omega
      · omega
      · exact hbad hzero
      · simp [hnone] at hpair; simp [hpair] at hbit
      · exact hhold.elim hgiven fun hfull => by simp [hfull] at hempty
    refine ⟨fun hon hsound hroom => ?_, fun hoff => exec_valveFire_of_barred h hgood hhost (.inl hoff)⟩
    rw [exec_valveFire_of_accepted h hgood hhost hon hsound hroom, defer_of_room hroom]
    rfl
  case noHost =>
    rintro m s c h ⟨hn, hp, hfl, hzero, hhold, hhost⟩
    refine exec_valveFire_of_no_host h ?_ hhost
    rintro (hbad | hbad | hbad | hbad | ⟨hbit, -⟩ | ⟨hgiven, -⟩)
    · omega
    · omega
    · omega
    · exact hbad hzero
    · simp [bit, Nat.testBit_lt_two_pow (i := 1) (x := u8 c.pay 2) hfl] at hbit
    · exact hgiven hhold
  case clearChannel =>
    rintro c s ⟨hn, hzero⟩
    exact (if_neg (ne_false_of_eq_true hzero)).trans (if_pos hn)
  case clearBank =>
    rintro c s ⟨hlow, hhigh, hzero⟩
    exact (if_neg (ne_false_of_eq_true hzero)).trans ((if_neg (by omega)).trans (if_pos ⟨hlow, hhigh⟩))
  case profile =>
    rintro c s ⟨hn, hzero⟩
    exact if_neg (not_or.2 ⟨Nat.not_lt.2 hn, ne_false_of_eq_true hzero⟩)
  case stats =>
    rintro c s ⟨hn, hzero⟩
    simp only [valveArgument_of_channel hn hzero]
  case statsOne =>
    rintro c s ⟨hn, hzero⟩
    simp only [valveArgument_of_channel hn hzero]
    rfl
  case statsAll =>
    rintro c s ⟨hn, hzero⟩
    simp only [valveArgument_of_all hn, hn, hzero, and_self, if_true]
    rfl

end Sys2Proof.Machine
end

section
/-! PROOFS. The family 15_fans: the outputs' milliseconds, kicks, stalls and tach checks (R475 to R482), the watchdog and the groups (R478, R484), and the FAN verbs (R494, R495). -/

namespace Sys2Proof.Machine

/-! ## A millisecond of an output (R475, R479) -/

section
variable {i l t : Nat} {s s1 : State} (hon : fanEnabled (s.cfg.fan i) = true) (hgov : outputGoverning s i = (l, t)) (hl : l ≠ 1)
  (h1 : s1 = s.setFanOut i { s.fanOut i with layer := l, target := t })
include hon hgov hl h1

theorem updateOutput_of_start (ht : t ≠ 0) (hstill : (s.fanOut i).target = 0) : updateOutput s i = countFan i 0 (beginAttempt i 1 s1) := by
  subst h1
  simp only [updateOutput, hon, Bool.true_eq_false, if_false, hgov, if_neg hl, if_pos (And.intro ht hstill)]

theorem updateOutput_of_stop (ht : t = 0) (hrun : (s.fanOut i).state ≠ 5) (hoff : (s.fanOut i).state ≠ 1) : updateOutput s i = fanOff i s1 := by
  subst h1 ht
  simp only [updateOutput, hon, Bool.true_eq_false, if_false, hgov, if_neg hl, ne_eq, not_true_eq_false, false_and, hrun, not_false_eq_true,
    and_self, if_true, hoff]

theorem updateOutput_of_run (ht : t ≠ 0) (hturning : (s.fanOut i).target ≠ 0) (hrun : (s.fanOut i).state = 5) :
    updateOutput s i = s1.setFanOut i { s1.fanOut i with
      duty := if l = 2 then 1000 * t else slewDuty (s.cfg.curve i) (s.fanOut i).duty t
      runMs := (s.fanOut i).runMs + 1 } := by
  subst h1
  simp only [updateOutput, hon, Bool.true_eq_false, if_false, hgov, if_neg hl, ht, hturning, hrun, and_false, false_and, if_true]

end

/-! ## Tach pulses (R471, R481) -/

theorem ite_bnot {α : Type} (b : Bool) (x y : α) : (if (!b) = true then x else y) = if b = true then y else x := by
  cases b <;> rfl

section
variable {i us : Nat} {s : State}

theorem exec_tachPulse_of_barred (h : fanEnabled (s.cfg.fan i) = false ∨ bit (u8 (s.cfg.fan i) 0) 3 = false ∨ us < 10) :
    exec (.tachPulse i us) s = .next s :=
  if_pos h

/-- A pulse that counts: the speed is that of the last turn's periods, and four good pulses running end a tach loss. -/
theorem exec_tachPulse_of_counted {ps : List Nat} {good : Nat} {lost : Bool} {t : State} (hon : fanEnabled (s.cfg.fan i) = true)
    (htach : bit (u8 (s.cfg.fan i) 0) 3 = true) (hus : 10 ≤ us) (hps : ps = (us :: (s.fanOut i).periods).take (u8 (s.cfg.fan i) 1))
    (hgood : good = if (s.fanOut i).tachLost = true ∧ us ≤ tachWindow (s.cfg.fan i) then (s.fanOut i).good + 1 else 0)
    (hlost : lost = ((s.fanOut i).tachLost && decide (good < 4)))
    (ht : t = s.setFanOut i { s.fanOut i with
      periods := ps, pulses := (s.fanOut i).pulses + 1, good := good, tachLost := lost
      speed := if ps.length = u8 (s.cfg.fan i) 1 then divNear 60000000 ps.sum else (s.fanOut i).speed
      speedValid := decide (ps.length = u8 (s.cfg.fan i) 1) && !lost && (s.fanOut i).state == 5 }) :
    exec (.tachPulse i us) s =
      .next (if ((s.fanOut i).tachLost && !lost) = true then raise 0x0D04 [i, s.msSince (s.fanOut i).lostTicks / 1000] t else t) := by
  subst ht hlost hgood hps
  simp only [exec, execTachPulse, hon, htach, Bool.true_eq_false, Nat.not_lt.2 hus, or_self, if_false, decide_eq_true_eq]

end

/-! ## Attempts, stalls and tach losses (R479 to R482) -/

section
variable {i : Nat} {s : State}

theorem exec_kickAttemptEnd_of_other (h : (s.fanOut i).state ≠ 2) : exec (.kickAttemptEnd i) s = .next s :=
  if_pos h

section
variable (hkick : (s.fanOut i).state = 2)
include hkick

theorem exec_kickAttemptEnd_of_success (h : bit (u8 (s.cfg.fan i) 0) 3 = false ∨ 2 ≤ (s.fanOut i).pulses) :
    exec (.kickAttemptEnd i) s = .next (attemptSucceeds i s) :=
  (if_neg (not_not_intro hkick)).trans (if_pos h)

theorem exec_kickAttemptEnd_of_failure (htach : bit (u8 (s.cfg.fan i) 0) 3 = true) (hfew : (s.fanOut i).pulses < 2) :
    exec (.kickAttemptEnd i) s = .next (attemptFails i s) :=
  (if_neg (not_not_intro hkick)).trans (if_neg (by simp [htach, hfew]))

end

section
variable {t : State} (ht : t = countFan i 1 s)
include ht

theorem attemptFails_of_retry (hfew : (t.fanOut i).attempts < 4) : attemptFails i s = t.setFanOut i { t.fanOut i with state := 3, duty := 0 } := by
  subst ht
  exact if_pos hfew

theorem attemptFails_of_stall (hmany : 4 ≤ (t.fanOut i).attempts) (hnew : (t.fanOut i).stalled = false) :
    attemptFails i s = raise 0x0D01 [i, (t.fanOut i).target, (t.fanOut i).episode, low32 s.cycle] (countFan i 2 (t.setFanOut i { t.fanOut i with
      state := 4, duty := 0, coolDowns := (t.fanOut i).coolDowns + 1, stalled := true, stalledTicks := t.clock.ticksRun })) := by
  subst ht
  simp only [attemptFails, if_neg (Nat.not_lt.2 hmany), hnew, Bool.false_eq_true, if_false]

theorem attemptFails_of_further_cool_down (hmany : 4 ≤ (t.fanOut i).attempts) (hold : (t.fanOut i).stalled = true) :
    attemptFails i s = t.setFanOut i { t.fanOut i with state := 4, duty := 0, coolDowns := (t.fanOut i).coolDowns + 1 } := by
  subst ht
  simp only [attemptFails, if_neg (Nat.not_lt.2 hmany), hold, if_true]

end

theorem exec_retryWaitEnd_of_waiting (h : (s.fanOut i).state = 3) :
    exec (.retryWaitEnd i) s = .next (beginAttempt i ((s.fanOut i).attempts + 1) s) :=
  if_pos h

theorem exec_retryWaitEnd_of_other (h : (s.fanOut i).state ≠ 3) : exec (.retryWaitEnd i) s = .next s :=
  if_neg h

theorem exec_coolDownEnd_of_cooling (h : (s.fanOut i).state = 4) : exec (.coolDownEnd i) s = .next (beginAttempt i 1 s) :=
  if_pos h

theorem exec_coolDownEnd_of_other (h : (s.fanOut i).state ≠ 4) : exec (.coolDownEnd i) s = .next s :=
  if_neg h

theorem exec_tachLossTimeout_of_loss (hrun : (s.fanOut i).state = 5) (htach : bit (u8 (s.cfg.fan i) 0) 3 = true)
    (hduty : 1000 * u16 (s.cfg.fan i) 4 < (s.fanOut i).duty) (hnew : (s.fanOut i).tachLost = false) :
    exec (.tachLossTimeout i) s = .next (raise 0x0D03 [i, (s.fanOut i).duty / 1000, (s.fanOut i).speed]
      (countFan i 3 (s.setFanOut i { s.fanOut i with tachLost := true, good := 0, lostTicks := s.clock.ticksRun, speedValid := false }))) :=
  if_pos ⟨hrun, htach, hduty, hnew⟩

theorem exec_tachLossTimeout_of_other (h : (s.fanOut i).state ≠ 5 ∨ bit (u8 (s.cfg.fan i) 0) 3 = false ∨
    (s.fanOut i).duty ≤ 1000 * u16 (s.cfg.fan i) 4 ∨ (s.fanOut i).tachLost = true) : exec (.tachLossTimeout i) s = .next s := by
  refine if_neg ?_
  rintro ⟨hrun, htach, hduty, hnew⟩
  rcases h with h | h | h | h
  · exact h hrun
  · simp [htach] at h
  · exact Nat.not_lt.2 h hduty
  · simp [hnew] at h

/-! ## The watchdog (R478) -/

theorem exec_hostSilence_of_barred (h : s.cfg.watchdogSeconds = 0 ∨ s.fan.silent = true ∨ s.phase.applied = false ∨
    s.msSince s.fan.lastRequest < 1000 * s.cfg.watchdogSeconds) : exec .hostSilence s = .next s :=
  if_pos h

theorem exec_hostSilence_of_due (hon : s.cfg.watchdogSeconds ≠ 0) (hnew : s.fan.silent = false) (happlied : s.phase.applied = true)
    (hdue : 1000 * s.cfg.watchdogSeconds ≤ s.msSince s.fan.lastRequest) :
    exec .hostSilence s = .next (raise 0x0D05 [1, s.msSince s.fan.lastRequest / 1000, watchdogUnits s.cfg]
      (countWatchdogs { s with fan := { s.fan with silent := true } })) :=
  if_neg (by simp [hon, hnew, happlied, Nat.not_lt.2 hdue])

end

/-! ## Groups (R484) -/

section
variable {g : Nat} {s : State}

/-- A group's duty is sent: it is to be sent again, was never sent, or has moved by 10 units; or its period has come. -/
def dutyDue (x : FanGroup) (cycle period : Nat) : Prop :=
  x.resend = true ∨ x.sent = none ∨ (∃ k, x.sent = some k ∧ 10 ≤ ((x.duty / 1000 : Nat) - (k : Int)).natAbs) ∨ cycle % period = 0

theorem not_dutyDue_of_kept {x : FanGroup} {cycle period k : Nat} (hresend : x.resend = false) (hsent : x.sent = some k)
    (hnear : ((x.duty / 1000 : Nat) - (k : Int)).natAbs < 10) (hoff : cycle % period ≠ 0) : ¬dutyDue x cycle period := by
  rintro (h | h | ⟨j, hj, hfar⟩ | h)
  · simp [hresend] at h
  · simp [hsent] at h
  · rw [hsent, Option.some_inj] at hj
    subst hj
    exact Nat.not_lt.2 hfar hnear
  · exact hoff h

theorem exec_fanGroupUpdate_of_barred (h : groupEnabled (s.cfg.fanGroup g) = false ∨ s.cfg.busOn (u8 (s.cfg.fanGroup g) 0) = false ∨
    sendsOwn s = false ∨ (s.fanGroup g).sentRod = some s.cycle) : exec (.fanGroupUpdate g) s = .next s :=
  if_pos h

/-- A group's rod: its duty where that is due, and then FAN_STATE half a period apart. -/
theorem exec_fanGroupUpdate_of_rod {n r period : Nat} {s1 s2 : State} (hon : groupEnabled (s.cfg.fanGroup g) = true)
    (hn : n = u8 (s.cfg.fanGroup g) 0) (hr : r = u16 (s.cfg.fanGroup g) 2) (hperiod : period = 2 ^ u8 (s.cfg.fanGroup g) 4)
    (hbus : s.cfg.busOn n = true) (hown : sendsOwn s = true) (hnew : (s.fanGroup g).sentRod ≠ some s.cycle)
    (h1 : s1 = s.setFanGroup g { s.fanGroup g with sentRod := some s.cycle, resend := false })
    (hdue : dutyDue (s.fanGroup g) s.cycle period →
      s2 = submitTx n (layerTx s1 n r 0x21 (be 2 ((s.fanGroup g).duty / 1000) ++ le 1 (u8 (s.cfg.fanGroup g) 5)))
        (s1.setFanGroup g { s1.fanGroup g with sent := some ((s.fanGroup g).duty / 1000) }))
    (hkept : ¬dutyDue (s.fanGroup g) s.cycle period → s2 = s1) :
    exec (.fanGroupUpdate g) s =
      .next (if s.cycle % period = period / 2 ∧ txOutstanding s2 n r 0x22 = false then submitTx n (layerTx s2 n r 0x22 []) s2 else s2) := by
  subst hn hr hperiod h1
  have hsends : ((s.fanGroup g).resend || (match (s.fanGroup g).sent with
      | none => true
      | some k => decide (10 ≤ (((s.fanGroup g).duty / 1000 : Nat) - (k : Int)).natAbs)) ||
      s.cycle % 2 ^ u8 (s.cfg.fanGroup g) 4 == 0) = true ↔ dutyDue (s.fanGroup g) s.cycle (2 ^ u8 (s.cfg.fanGroup g) 4) := by
    cases hsent : (s.fanGroup g).sent <;> simp [dutyDue, hsent, or_assoc]
  simp only [exec, execFanGroupUpdate, hon, hbus, hown, hnew, Bool.true_eq_false, or_self, if_false]
  refine congrArg (fun u => Host.Outcome.next
    (if s.cycle % 2 ^ u8 (s.cfg.fanGroup g) 4 = 2 ^ u8 (s.cfg.fanGroup g) 4 / 2 ∧
        txOutstanding u (u8 (s.cfg.fanGroup g) 0) (u16 (s.cfg.fanGroup g) 2) 0x22 = false then
      submitTx (u8 (s.cfg.fanGroup g) 0) (layerTx u (u8 (s.cfg.fanGroup g) 0) (u16 (s.cfg.fanGroup g) 2) 0x22 []) u
    else u)) (?_ : _ = s2)
  by_cases h : dutyDue (s.fanGroup g) s.cycle (2 ^ u8 (s.cfg.fanGroup g) 4)
  · exact (if_pos (hsends.2 h)).trans (hdue h).symm
  · exact (if_neg (mt hsends.1 h)).trans (hkept h).symm

end

/-! ## The FAN verbs (R494, R495) -/

section
variable {c : Call}

theorem fanUnit_of_output {u : Nat} (h : u ≤ 11) : fanUnit u = true := by
  simp [fanUnit, h]

theorem fanUnit_of_group {u : Nat} (hlow : 32 ≤ u) (hhigh : u ≤ 63) : fanUnit u = true := by
  simp [fanUnit, hlow, hhigh]

theorem fanUnitArgument_of_unit (hu : fanUnit (u8 c.pay 0) = true) (hzero : allZero (c.pay.drop 1) = true) :
    fanUnitArgument c = some (u8 c.pay 0) :=
  if_pos (Bool.and_eq_true_iff.2 ⟨hu, hzero⟩)

theorem fanUnitArgument_of_all (hu : u8 c.pay 0 = 0xFF) : fanUnitArgument c = none := by
  rw [fanUnitArgument, hu]
  exact if_neg (by simp [fanUnit])

end

/-- Settles O50, command by command: an output's millisecond by target and state, a pulse by whether the tach was lost, an attempt's end by its pulses, a group's rod by whether its duty is due; the verbs by the unit that the argument names. -/
theorem fansKickStallAndAnswer : Obligations.FansKickStallAndAnswer := by
  refine ⟨fun _ h => if_pos h, fun _ h => if_neg (ne_true_of_eq_false h), ?output, ?pulse, ?lostPulse, fun _ _ _ => exec_tachPulse_of_barred,
    fun _ _ hkick h => ⟨_, rfl, exec_kickAttemptEnd_of_success hkick h⟩, ?failure, fun _ _ => exec_kickAttemptEnd_of_other,
    fun _ _ => exec_retryWaitEnd_of_waiting, fun _ _ => exec_retryWaitEnd_of_other, fun _ _ => exec_coolDownEnd_of_cooling,
    fun _ _ => exec_coolDownEnd_of_other, fun _ _ => exec_tachLossTimeout_of_loss, fun _ _ => exec_tachLossTimeout_of_other,
    fun _ => exec_hostSilence_of_due, fun _ => exec_hostSilence_of_barred, ?group, fun _ _ => exec_fanGroupUpdate_of_barred,
    reads_of_body _ (fun _ _ => rfl) ?status, completes_of_body _ (fun _ _ => rfl) ?set, completes_of_body _ (fun _ _ => rfl) ?release,
    reads_of_body _ (fun _ _ => rfl) fun _ _ _ => rfl, completes_of_body _ (fun _ _ => rfl) ?retry, reads_of_body _ (fun _ _ => rfl) ?statsOutput,
    reads_of_body _ (fun _ _ => rfl) ?statsGroup, completes_of_body _ (fun _ _ => rfl) ?clearOne, completes_of_body _ (fun _ _ => rfl) ?clearAll⟩
  case output =>
    intro s i l t hon hgov hl
    exact ⟨_, rfl, updateOutput_of_start hon hgov hl rfl, updateOutput_of_stop hon hgov hl rfl, updateOutput_of_run hon hgov hl rfl⟩
  case pulse =>
    intro i us s hon htach hus hkept
    refine ⟨_, rfl, ?_⟩
    rw [exec_tachPulse_of_counted hon htach hus rfl rfl rfl rfl]
    simp only [hkept, Bool.false_eq_true, false_and, if_false, Bool.false_and, Bool.not_false, Bool.and_true]
  case lostPulse =>
    intro i us s hon htach hus hlost
    refine ⟨_, _, _, _, rfl, rfl, rfl, rfl, ?_⟩
    rw [exec_tachPulse_of_counted hon htach hus rfl (by simp only [hlost, true_and]; rfl) (by rw [hlost, Bool.true_and]) rfl, hlost, Bool.true_and,
      ite_bnot]
  case failure =>
    intro i s t hkick htach hfew ht
    rw [exec_kickAttemptEnd_of_failure hkick htach hfew]
    exact ⟨fun h => congrArg Host.Outcome.next (attemptFails_of_retry ht h),
      fun h hnew => congrArg Host.Outcome.next (attemptFails_of_stall ht h hnew),
      fun h hold => congrArg Host.Outcome.next (attemptFails_of_further_cool_down ht h hold)⟩
  case group =>
    intro g n r period s s1 hon hn hr hperiod hbus hown hnew h1
    classical
    refine ⟨if dutyDue (s.fanGroup g) s.cycle period then _ else s1, fun hdue => if_pos hdue,
      fun k hresend hsent hnear hoff => if_neg (not_dutyDue_of_kept hresend hsent hnear hoff),
      exec_fanGroupUpdate_of_rod hon hn hr hperiod hbus hown hnew h1 (fun hdue => if_pos hdue) fun hkept => if_neg hkept⟩
  case status =>
    rintro c s ⟨hu, hzero⟩
    simp only [fanUnitArgument_of_unit hu hzero]
  case set =>
    rintro c s ⟨hu, hzero, hduty, hon⟩
    have hgood : ¬(fanUnit (u8 c.pay 0) = false ∨ u8 c.pay 1 ≠ 0 ∨ (u16 c.pay 2 > 1000 ∧ u16 c.pay 2 ≠ 0xFFFF)) := by
      simp [fanUnit_of_output hu, hzero, Nat.not_lt.2 hduty]
    have hgiven : u16 c.pay 2 ≠ 0xFFFF := by omega
    simp only [if_neg hgood, hon, Bool.true_eq_false, if_false, if_neg hgiven, if_pos hu]
  case release =>
    rintro c s ⟨hlow, hhigh, hzero, hduty, hon⟩
    have hgood : ¬(fanUnit (u8 c.pay 0) = false ∨ u8 c.pay 1 ≠ 0 ∨ (u16 c.pay 2 > 1000 ∧ u16 c.pay 2 ≠ 0xFFFF)) := by
      simp [fanUnit_of_group hlow hhigh, hzero, hduty]
    have hgroup : ¬u8 c.pay 0 ≤ 11 := by omega
    simp only [if_neg hgood, hon, Bool.true_eq_false, if_false, if_pos hduty, if_neg hgroup]
  case retry =>
    rintro c s ⟨hu, hzero, hstate⟩
    simp only [fanUnitArgument_of_unit (fanUnit_of_output hu) hzero, if_pos (And.intro hu hstate)]
  case statsOutput =>
    rintro c s ⟨hu, hzero⟩
    simp only [fanUnitArgument_of_unit (fanUnit_of_output hu) hzero, if_pos hu]
  case statsGroup =>
    rintro c s ⟨hlow, hhigh, hzero⟩
    have hgroup : ¬u8 c.pay 0 ≤ 11 := by omega
    simp only [fanUnitArgument_of_unit (fanUnit_of_group hlow hhigh) hzero, if_neg hgroup]
  case clearOne =>
    rintro c s ⟨hu, hzero⟩
    simp only [fanUnitArgument_of_unit (fanUnit_of_output hu) hzero, clearFanUnit, if_pos hu]
  case clearAll =>
    rintro c s ⟨hu, hzero⟩
    simp only [fanUnitArgument_of_all hu, hu, hzero, and_self, if_true]

end Sys2Proof.Machine
end

section
/-! PROOFS. The family 16_vents: counting, indices and SSI encoders (R498 to R507), the positioner (R512, R513), and the VENT verbs (R518, R520, R521). -/

namespace Sys2Proof.Machine

/-! ## Counting (R498 to R501, R505) -/

section
variable {n k : Nat} {l : BitVec 3} {s : State}

theorem exec_encoderUpdate_of_other_mode (h1 : ventMode (s.cfg.vent n) ≠ 1) (h2 : ventMode (s.cfg.vent n) ≠ 2) :
    exec (.encoderUpdate n l k) s = .next s :=
  if_pos ⟨h1, h2⟩

section
variable {t : Transition} {s1 : State}
  (ht : (ventMode (s.cfg.vent n) = 1 ∧ t = quadTransition (s.ventCh n).lines l) ∨
    (ventMode (s.cfg.vent n) = 2 ∧ t = hallTransition (s.ventCh n).lines l))
include ht

theorem encoderMode_of_transition : ¬(ventMode (s.cfg.vent n) ≠ 1 ∧ ventMode (s.cfg.vent n) ≠ 2) := by
  rintro ⟨h1, h2⟩
  exact ht.elim (fun hq => h1 hq.1) fun hh => h2 hh.1

/-- The transition is judged by the channel's mode. -/
theorem encoderUpdate_transition :
    (if ventMode (s.cfg.vent n) = 1 then quadTransition (s.ventCh n).lines l else hallTransition (s.ventCh n).lines l) = t := by
  obtain ⟨hm, rfl⟩ | ⟨hm, rfl⟩ := ht <;> simp [hm]

variable (h1 : s1 = s.setVentCh n { s.ventCh n with
  lines := l, samples := (s.ventCh n).samples + k, recent := ((s.ventCh n).recent.map fun a => a + k).filter fun a => decide (a < 1024) })
include h1

theorem exec_encoderUpdate_of_no_count (h : t = .still ∨ t = .reference) : exec (.encoderUpdate n l k) s = .next s1 := by
  have hjudged := encoderUpdate_transition ht
  subst h1
  rcases h with h | h <;> simp only [exec, execEncoderUpdate, if_neg (encoderMode_of_transition ht), hjudged, h]

theorem exec_encoderUpdate_of_illegal (h : t = .illegal) :
    exec (.encoderUpdate n l k) s = if ventsAct s = true then .next (illegalTransition n s1) else .next s1 := by
  have hjudged := encoderUpdate_transition ht
  subst h1
  simp only [exec, execEncoderUpdate, if_neg (encoderMode_of_transition ht), hjudged, h]

variable {u : Bool} (h : t = .count u)
include h

theorem exec_encoderUpdate_of_held_count (hheld : (s.ventCh n).holds = true) : exec (.encoderUpdate n l k) s = .next s1 := by
  have hjudged := encoderUpdate_transition ht
  subst h1
  simp only [exec, execEncoderUpdate, if_neg (encoderMode_of_transition ht), hjudged, h, hheld, if_true]

theorem exec_encoderUpdate_of_count (hfree : (s.ventCh n).holds = false) :
    exec (.encoderUpdate n l k) s = .next (applyUpdate n (if (u != ventInverted (s.cfg.vent n)) then 1 else -1)
      (if ventsAct s then s1.setVentCh n (countSpeed (u != ventInverted (s.cfg.vent n)) (s1.ventCh n)) else s1)) := by
  have hjudged := encoderUpdate_transition ht
  subst h1
  simp only [exec, execEncoderUpdate, if_neg (encoderMode_of_transition ht), hjudged, h, hfree, Bool.false_eq_true, if_false]

end

/-- Going back over a step counts the other way. -/
theorem quadTransition_reverse (a b : BitVec 3) : quadTransition a b = .count true ↔ quadTransition b a = .count false := by
  revert a b
  decide

theorem hallTransition_reverse (a b : BitVec 3) : hallTransition a b = .count true ↔ hallTransition b a = .count false := by
  revert a b
  decide

theorem applyUpdate_of_resting {d : Int} (h : ventsAct s = false) :
    applyUpdate n d s = s.setVentCh n { s.ventCh n with counter := posAdd (s.ventCh n).counter d, up := decide (0 < d), lastUpdate := s.phase.now } :=
  if_neg (ne_true_of_eq_false h)

theorem exec_speedTimeout_of_counting (hact : ventsAct s = true) (hmode : ventMode (s.cfg.vent n) = 1 ∨ ventMode (s.cfg.vent n) = 2) :
    exec (.speedTimeout n) s = .next (reviewStill n (s.setVentCh n { s.ventCh n with speed := 0, speedDen := 1 })) :=
  if_pos ⟨hact, hmode⟩

theorem exec_speedTimeout_of_other (h : ventsAct s = false ∨ (ventMode (s.cfg.vent n) ≠ 1 ∧ ventMode (s.cfg.vent n) ≠ 2)) :
    exec (.speedTimeout n) s = .next s := by
  refine if_neg ?_
  rintro ⟨hact, hmode⟩
  rcases h with h | ⟨h1, h2⟩
  · simp [hact] at h
  · exact hmode.elim h1 h2

/-! ## Index (R506, R507) -/

/-- The gate of an index is met: it is off, or the lines A and B are at their levels (R506). -/
def gateMet (v : List Byte) (l : BitVec 3) : Bool := !bit (u8 v 1) 4 || (l.getLsbD 0 == bit (u8 v 4) 0 && l.getLsbD 1 == bit (u8 v 4) 1)

/-- An index homes its channel: always in mode 3, once in mode 2, and not while the count is held (R507, R513). -/
def indexHomes (v : List Byte) (c : VentChannel) : Bool := !c.holds && ((u8 v 3 == 2 && !c.homeDone) || u8 v 3 == 3)

theorem exec_indexEvent_of_barred (h : ventMode (s.cfg.vent n) ≠ 1 ∨ ventsAct s = false ∨ u8 (s.cfg.vent n) 3 = 0 ∨ l.getLsbD 2 = false ∨
    gateMet (s.cfg.vent n) l = false) : exec (.indexEvent n l) s = .next s :=
  if_pos h

section
variable (hmode : ventMode (s.cfg.vent n) = 1) (hact : ventsAct s = true) (hz : l.getLsbD 2 = true) (hindex : u8 (s.cfg.vent n) 3 ≠ 0)
  (hgate : gateMet (s.cfg.vent n) l = true)
include hmode hact hz hindex hgate

theorem indexEvent_good : ¬(ventMode (s.cfg.vent n) ≠ 1 ∨ ventsAct s = false ∨ u8 (s.cfg.vent n) 3 = 0 ∨ l.getLsbD 2 = false ∨
    gateMet (s.cfg.vent n) l = false) := by
  simp [hmode, hact, hz, hindex, hgate]

theorem exec_indexEvent_of_capture {s1 : State} (h1 : s1 = s.setVentCh n { s.ventCh n with
      lines := ((s.ventCh n).lines &&& 0x3#3) ||| 0x4#3, indexSeen := true, index := (s.ventCh n).counter })
    (h : indexHomes (s.cfg.vent n) (s.ventCh n) = false) : exec (.indexEvent n l) s = .next s1 := by
  subst h1
  exact (if_neg (indexEvent_good hmode hact hz hindex hgate)).trans (if_pos h)

theorem exec_indexEvent_of_homing {s2 : State} (h2 : s2 = s.setVentCh n { s.ventCh n with
      lines := ((s.ventCh n).lines &&& 0x3#3) ||| 0x4#3, indexSeen := true, index := (s.ventCh n).counter
      counter := BitVec.ofNat 32 (u32 (s.cfg.vent n) 20), homed := true, homeDone := true })
    (h : indexHomes (s.cfg.vent n) (s.ventCh n) = true) :
    exec (.indexEvent n l) s =
      if u8 (s.cfg.vent n) 3 = 2 ∨ (s.ventCh n).counter ≠ BitVec.ofNat 32 (u32 (s.cfg.vent n) 20) then
        .next (raise 0x0E04 [n, (s.ventCh n).counter.toNat, u32 (s.cfg.vent n) 20] s2)
      else .next s2 := by
  subst h2
  exact (if_neg (indexEvent_good hmode hact hz hindex hgate)).trans (if_neg (ne_false_of_eq_true h))

end

/-! ## SSI (R502) -/

section
variable {bits : Nat} {hi p : Bool}

theorem exec_ssiRead_of_other (h : ventMode (s.cfg.vent n) ≠ 3 ∨ ventsAct s = false) : exec (.ssiRead n hi bits p) s = .next s :=
  if_pos h

section
variable {a : Nat} {t : State} (hmode : ventMode (s.cfg.vent n) = 3) (hact : ventsAct s = true)
  (ha : a = (s.angle + 65536 / 2 ^ u8 (s.cfg.vent n) 6 - 1) / (65536 / 2 ^ u8 (s.cfg.vent n) 6) * (65536 / 2 ^ u8 (s.cfg.vent n) 6))
  (ht : t = if a < 65536 then s.atAngle a else s)
include hmode hact ha ht

theorem exec_ssiRead_of_good (hgood : ssiFails (s.cfg.vent n) hi bits p = false) :
    exec (.ssiRead n hi bits p) s = .next (ssiGood n
      (if bit (u8 (s.cfg.vent n) 1) 2 then grayValue (u8 (s.cfg.vent n) 5) (bits % 2 ^ u8 (s.cfg.vent n) 5) else bits % 2 ^ u8 (s.cfg.vent n) 5) t) := by
  subst ht ha
  exact (if_neg (by simp [hmode, hact])).trans (if_neg (ne_true_of_eq_false hgood))

/-- A failed read is counted, and the third running faults the channel. -/
theorem exec_ssiRead_of_failed (hfailed : ssiFails (s.cfg.vent n) hi bits p = true) {u : State}
    (hu : u = countVent n 1 (t.setVentCh n { t.ventCh n with ssiError := true, ssiFailed := (t.ventCh n).ssiFailed + 1 })) :
    exec (.ssiRead n hi bits p) s = if 3 ≤ (t.ventCh n).ssiFailed + 1 then .next (enterVentFault n 2 u) else .next u := by
  subst hu ht ha
  exact (if_neg (by simp [hmode, hact])).trans (if_pos hfailed)

end

end

/-! ## The positioner (R512, R513) -/

section

theorem exec_positionerEvaluation_of_none (h : ventMode (s.cfg.vent n) = 0 ∨ hasPositioner (s.cfg.vent n) = false ∨ ventsAct s = false) :
    exec (.positionerEvaluation n) s = .next s :=
  if_pos h

/-- A positioner that must not run: no set-point, a fault, an invalid feedback, or a STOP hold. -/
def positionerStopped (n : Nat) (s : State) : Prop :=
  (ventGoverning (s.ventCh n)).1 = 0 ∨ (s.ventCh n).fault ≠ 0 ∨ feedbackInvalid s n = true ∨ (s.ventCh n).stopHold = true

section
variable (hmode : ventMode (s.cfg.vent n) ≠ 0) (hpos : hasPositioner (s.cfg.vent n) = true) (hact : ventsAct s = true)
include hmode hpos hact

theorem exec_positionerEvaluation_of_stopped (h : positionerStopped n s) : exec (.positionerEvaluation n) s = .next (stopRun n s) :=
  (if_neg (by simp [hmode, hpos, hact])).trans (if_pos h)

variable (hrun : ¬positionerStopped n s)
include hrun

theorem exec_positionerEvaluation_of_starting (h : (s.ventCh n).starting = true) :
    exec (.positionerEvaluation n) s = .next (s.setVentCh n { s.ventCh n with run := true, starting := false }) :=
  (if_neg (by simp [hmode, hpos, hact])).trans ((if_neg hrun).trans (if_pos h))

variable (hstill : (s.ventCh n).starting = false)
include hstill

theorem exec_positionerEvaluation_of_running (h : (s.ventCh n).run = true) :
    exec (.positionerEvaluation n) s =
      if errorAbove s n (if (s.ventCh n).dir then 1 else -1) (u16 (s.cfg.ventLimits n) 6) = true then .next s else .next (stopRun n s) :=
  (if_neg (by simp [hmode, hpos, hact])).trans ((if_neg hrun).trans ((if_neg (ne_true_of_eq_false hstill)).trans (if_neg (ne_false_of_eq_true h))))

theorem exec_positionerEvaluation_of_resting {opens closes : Bool} (h : (s.ventCh n).run = false)
    (hopens : opens = errorAbove s n 1 (u16 (s.cfg.ventLimits n) 4)) (hcloses : closes = errorAbove s n (-1) (u16 (s.cfg.ventLimits n) 4)) :
    exec (.positionerEvaluation n) s =
      if ((opens || closes) && ((s.ventCh n).dir == opens || decide (u16 (s.cfg.vent n) 26 ≤ s.msSince (s.ventCh n).lowTicks))) = true then
        .next (s.setVentCh n { s.ventCh n with dir := opens, starting := true })
      else .next s := by
  subst hopens hcloses
  exact (if_neg (by simp [hmode, hpos, hact])).trans ((if_neg hrun).trans ((if_neg (ne_true_of_eq_false hstill)).trans (if_pos h)))

end

theorem exec_moveTimeout_of_update (h : (s.ventCh n).lastUpdate = s.phase.now) : exec (.moveTimeout n) s = .next s :=
  if_neg fun ⟨_, _, hn⟩ => hn h

section
variable (hact : ventsAct s = true) (hrun : (s.ventCh n).run = true)
include hact hrun

theorem exec_moveTimeout_of_still (h : (s.ventCh n).lastUpdate ≠ s.phase.now) : exec (.moveTimeout n) s = .next (enterVentFault n 3 s) :=
  if_pos ⟨hact, hrun, h⟩

theorem exec_maxRunTimeout_of_running : exec (.maxRunTimeout n) s = .next (enterVentFault n 4 s) :=
  if_pos ⟨hact, hrun⟩

end

section
variable (h : ventsAct s = false ∨ (s.ventCh n).run = false)
include h

theorem not_driving : ¬(ventsAct s = true ∧ (s.ventCh n).run = true) := by
  rintro ⟨hact, hrun⟩
  simp [hact, hrun] at h

theorem exec_moveTimeout_of_idle : exec (.moveTimeout n) s = .next s :=
  if_neg fun ⟨hact, hrun, _⟩ => not_driving h ⟨hact, hrun⟩

theorem exec_maxRunTimeout_of_idle : exec (.maxRunTimeout n) s = .next s :=
  if_neg (not_driving h)

end

end

end

/-! ## The VENT verbs (R518, R520, R521) -/

section
variable {c : Call}

theorem ventArgument_of_channel (hn : u8 c.pay 0 ≤ 11) (hzero : allZero ((c.pay.take 4).drop 1) = true) : ventArgument c = some (u8 c.pay 0) :=
  if_pos ⟨hn, hzero⟩

end

/-- A channel that is not the default reads as it was written, whatever the table. -/
theorem State.ventCh_setVentCh_of_ne {s : State} {n : Nat} {x : VentChannel} (h : x ≠ {}) : (s.setVentCh n x).ventCh n = x :=
  fget_fput_ne n h

/-- With a host's set-point the route governs, else the host (R511). -/
theorem ventGoverning_of_host {c : VentChannel} {p : Nat} (h : c.host = some p) : (ventGoverning c).1 = if c.route.isSome then 4 else 5 := by
  unfold ventGoverning
  rw [h]
  cases c.route <;> rfl

/-- Settles O51, command by command: an update by its transition, an index by whether it homes, an SSI read by whether it fails, the positioner by its set-point and run; and the verbs by their arguments. -/
theorem ventsCountAndPosition : Obligations.VentsCountAndPosition := by
  refine ⟨fun _ _ _ _ => exec_encoderUpdate_of_other_mode, ?update, quadTransition_reverse, hallTransition_reverse,
    fun _ _ _ => applyUpdate_of_resting, fun _ _ hact hmode => ⟨_, rfl, exec_speedTimeout_of_counting hact hmode⟩,
    fun _ _ => exec_speedTimeout_of_other, ?indexBarred, ?index, fun _ _ _ _ _ => exec_ssiRead_of_other, ?ssi,
    fun _ _ => exec_positionerEvaluation_of_none, ?positioner,
    fun _ _ hact hrun => ⟨exec_moveTimeout_of_still hact hrun, exec_moveTimeout_of_update, exec_maxRunTimeout_of_running hact hrun⟩,
    fun _ _ h => ⟨exec_moveTimeout_of_idle h, exec_maxRunTimeout_of_idle h⟩, fun _ h => if_pos h, fun _ h => if_neg (ne_true_of_eq_false h),
    completes_of_body _ (fun _ _ => rfl) ?read, completes_of_body _ (fun _ _ => rfl) ?compare, completes_of_body _ (fun _ _ => rfl) ?compareOff,
    completes_of_body _ (fun _ _ => rfl) ?preset, completes_of_body _ (fun _ _ => rfl) ?set, completes_of_body _ (fun _ _ => rfl) ?release,
    completes_of_body _ (fun _ _ => rfl) ?clear, reads_of_body _ (fun _ _ => rfl) ?stats⟩
  case update =>
    intro n k l s s1 t ht h1
    refine ⟨exec_encoderUpdate_of_no_count ht h1, fun h hact => ?_, fun h hrest => ?_, fun u => exec_encoderUpdate_of_held_count ht h1,
      fun u => exec_encoderUpdate_of_count ht h1⟩
    · rw [exec_encoderUpdate_of_illegal ht h1 h, if_pos hact]
    · rw [exec_encoderUpdate_of_illegal ht h1 h, if_neg (ne_true_of_eq_false hrest)]
  case indexBarred =>
    intro n l s h
    refine exec_indexEvent_of_barred (h.imp_right (.imp_right (.imp_right (.imp_right ?_))))
    rintro ⟨hgated, hlevels⟩
    simpa [gateMet, hgated] using (Classical.not_and_iff_not_or_not.2 hlevels)
  case index =>
    intro n l s s1 s2 hmode hact hz hindex hgated h1 h2
    have hgate : gateMet (s.cfg.vent n) l = true := by
      rcases hgated with hoff | ⟨ha, hb⟩
      · simp [gateMet, hoff]
      · rw [gateMet, ha, hb, beq_self_eq_true, beq_self_eq_true, Bool.and_self, Bool.or_true]
    have homing := exec_indexEvent_of_homing hmode hact hz hindex hgate h2
    refine ⟨fun h => exec_indexEvent_of_capture hmode hact hz hindex hgate h1 ?_, fun hfree h => ?_, fun hfree h3 heq => ?_⟩
    · rcases h with h | h | ⟨h, hdone⟩ <;> simp [indexHomes, *]
    · rcases h with ⟨h, hfirst⟩ | ⟨h, hne⟩
      · rw [homing (by simp [indexHomes, hfree, h, hfirst]), if_pos (.inl h)]
      · rw [homing (by simp [indexHomes, hfree, h]), if_pos (.inr hne)]
    · rw [homing (by simp [indexHomes, hfree, h3]), if_neg (by simp [h3, heq])]
  case ssi =>
    intro n bits a hi p s t hmode hact ha ht
    refine ⟨exec_ssiRead_of_good hmode hact ha ht, fun hfailed hfew => ?_, fun hfailed hmany => ?_⟩
    · rw [exec_ssiRead_of_failed hmode hact ha ht hfailed rfl, if_neg (by omega)]
    · rw [exec_ssiRead_of_failed hmode hact ha ht hfailed rfl, if_pos (by omega)]
  case positioner =>
    intro n s hmode hpos hact
    refine ⟨exec_positionerEvaluation_of_stopped hmode hpos hact, fun hgov hsound hvalid hfree => ?_⟩
    have hrun : ¬positionerStopped n s := by simp [positionerStopped, hgov, hsound, hvalid, hfree]
    refine ⟨exec_positionerEvaluation_of_starting hmode hpos hact hrun, fun hstill hrunning => ?_, fun opens closes hstill hrest hopens hcloses => ?_⟩
    · rw [exec_positionerEvaluation_of_running hmode hpos hact hrun hstill hrunning]
      exact ⟨fun h => if_pos h, fun h => if_neg (ne_true_of_eq_false h)⟩
    · rw [exec_positionerEvaluation_of_resting hmode hpos hact hrun hstill hrest hopens hcloses]
      refine ⟨fun hmoves hway => if_pos ?_, fun h => if_neg ?_⟩
      · simpa using And.intro hmoves hway
      · rcases h with ⟨ho, hc⟩ | ⟨hway, hshort⟩
        · simp [ho, hc]
        · simp [hway, hshort]
  case read =>
    rintro c s ⟨hn, hzero⟩
    simp only [ventArgument_of_channel hn hzero]
  case compare =>
    rintro c s ⟨hn, hi, ha, hzero, hwrite, hmode⟩
    have hgood : ¬(u8 c.pay 0 > 11 ∨ u8 c.pay 1 > 3 ∨ u8 c.pay 2 % 128 ≥ 4 ∨ u8 c.pay 3 ≠ 0) := by omega
    simp only [if_neg hgood, if_neg hmode, hwrite, Bool.false_eq_true, if_false]
  case compareOff =>
    rintro c s ⟨hn, hi, ha, hzero, hoff, hmode⟩
    have hgood : ¬(u8 c.pay 0 > 11 ∨ u8 c.pay 1 > 3 ∨ u8 c.pay 2 % 128 ≥ 4 ∨ u8 c.pay 3 ≠ 0) := by omega
    simp only [if_neg hgood, if_neg hmode, hoff, if_true]
  case preset =>
    rintro c s ⟨hn, hzero, hmode, hssi⟩
    simp only [ventArgument_of_channel hn hzero, if_neg (not_or.2 ⟨hmode, hssi⟩)]
  case set =>
    rintro c s ⟨hn, hzero, hp, hmode, hpos⟩
    have hgood : ¬(u8 c.pay 0 > 11 ∨ u8 c.pay 1 ≠ 0 ∨ (u16 c.pay 2 > 10000 ∧ u16 c.pay 2 ≠ 0xFFFF)) := by omega
    have hgiven : u16 c.pay 2 ≠ 0xFFFF := by omega
    simp only [if_neg hgood, if_neg (not_or.2 ⟨hmode, ne_false_of_eq_true hpos⟩), if_neg hgiven]
    rw [State.ventCh_setVentCh_of_ne (by simp), ventGoverning_of_host rfl]
  case release =>
    rintro c s ⟨hn, hzero, hp, hmode, hpos⟩
    have hgood : ¬(u8 c.pay 0 > 11 ∨ u8 c.pay 1 ≠ 0 ∨ (u16 c.pay 2 > 10000 ∧ u16 c.pay 2 ≠ 0xFFFF)) := by omega
    simp only [if_neg hgood, if_neg (not_or.2 ⟨hmode, ne_false_of_eq_true hpos⟩), if_pos hp]
  case clear =>
    rintro c s ⟨hn, hzero, hmask⟩
    exact if_neg (by simp [hn, hzero, hmask])
  case stats =>
    rintro c s ⟨hn, hzero⟩
    simp only [ventArgument_of_channel hn hzero]

end Sys2Proof.Machine
end

section
/-! PROOFS. The family 17_sensing: conversions and excitation (R525 to R529), metering (R531), dwells and replacements (R536 to R539), and the SENSE verbs (R547, R548). -/

namespace Sys2Proof.Machine

/-! ## Conversions (R525 to R529) -/

section
variable {n a : Nat} {code : Int} {sp : List Int} {s t : State}

theorem exec_conversionEnd_of_enabled (hruns : converts s = true) (hn : n < 24) (hon : u8 (s.cfg.sense n) 0 ≠ 0)
    (ha : a = (s.angle + 2 ^ (16 - u8 (s.cfg.sense n) 2) - 1) / 2 ^ (16 - u8 (s.cfg.sense n) 2) * 2 ^ (16 - u8 (s.cfg.sense n) 2)) :
    exec (.conversionEnd n code sp) s = .next (shadowConversion n code sp (recordConversion n code (if a < 65536 then s.atAngle a else s))) := by
  subst ha
  refine if_neg ?_
  rintro (h | h | h)
  · exact ne_false_of_eq_true hruns h
  · exact absurd hn (Nat.not_lt.2 h)
  · exact hon h

theorem exec_conversionEnd_of_idle (h : converts s = false ∨ 24 ≤ n ∨ u8 (s.cfg.sense n) 0 = 0) : exec (.conversionEnd n code sp) s = .next s :=
  if_pos h

theorem recordConversion_of_awaiting (h : awaitsReference s n = true) :
    recordConversion n code s = (countSense 0 1 s).setSenseCh n { (countSense 0 1 s).senseCh n with raw := code, ended := s.phase.now, awaits := true } :=
  if_pos h

theorem recordConversion_of_ready (h : awaitsReference s n = false) :
    recordConversion n code s = ((List.range 24).filter fun m =>
      u8 (s.cfg.sense m) 1 == 2 && u8 (s.cfg.sense m) 6 == n && (s.senseCh m).awaits && decide ((s.senseCh m).ended = s.phase.now)).foldl
        (fun s m => judgeConversion m (s.senseCh m).raw s) (judgeConversion n code (countSense 0 1 s)) :=
  if_neg (ne_true_of_eq_false h)

theorem judgeConversion_of_invalid {cause : Nat} (h : conversionQuantity s (s.cfg.sense n) code = .invalid cause)
    (ht : t = countSense 1 1 (s.setSenseCh n { s.senseCh n with
      raw := code, state := 2, cause := cause, ended := s.phase.now, invalids := (s.senseCh n).invalids + 1, awaits := false })) :
    judgeConversion n code s = if (s.senseCh n).invalids = 0 then raise 0x0F01 [n, cause, (code % (2 ^ 32 : Nat)).toNat] t else t := by
  subst ht
  simp only [judgeConversion, h]

theorem judgeConversion_of_value {x : Exact} (h : conversionQuantity s (s.cfg.sense n) code = .value x)
    (ht : t = s.setSenseCh n { s.senseCh n with
      raw := code, value := scaledWord (s.cfg.sense n) x, state := 1, cause := 0, ended := s.phase.now, invalids := 0, awaits := false }) :
    judgeConversion n code s = if (s.senseCh n).invalids ≠ 0 then raise 0x0F02 [n, (s.senseCh n).invalids] t else t := by
  subst ht
  simp only [judgeConversion, h]

/-- A code at full scale is the lowest cause (R529). -/
theorem conversionQuantity_of_full {v : List Byte} (h : fullCode ≤ code.natAbs) : conversionQuantity s v code = .invalid 1 :=
  if_pos (.inl h)

theorem exec_excitationCompliance_of_other {k : Nat} {r : Bool}
    (h : s.cfg.excitation k = 0 ∨ 4 ≤ k ∨ s.phase.applied = false ∨ s.inFallow = true) : exec (.excitationCompliance k r) s = .next s :=
  if_pos h

section
variable {k : Nat} (hon : s.cfg.excitation k ≠ 0) (hk : k < 4) (happlied : s.phase.applied = true) (hfallow : s.inFallow = false)
include hon hk happlied hfallow

theorem excitation_acts : ¬(s.cfg.excitation k = 0 ∨ 4 ≤ k ∨ s.phase.applied = false ∨ s.inFallow = true) := by
  simp [hon, hk, happlied, hfallow]

theorem exec_excitationCompliance_of_reached :
    exec (.excitationCompliance k true) s = .next (invalidateChannels (fun v => decide (2 ≤ u8 v 1) && u8 v 5 == k) 4
      { s with sense := { s.sense with compliance := s.sense.compliance ||| BitVec.twoPow 4 k } }) :=
  if_neg (excitation_acts hon hk happlied hfallow)

theorem exec_excitationCompliance_of_below :
    exec (.excitationCompliance k false) s = .next { s with sense := { s.sense with compliance := s.sense.compliance &&& ~~~(BitVec.twoPow 4 k) } } :=
  if_neg (excitation_acts hon hk happlied hfallow)

end

end

/-! ## Metering (R531) -/

section
variable {a b c : MeterPair} {s : State}

theorem exec_meterSample_of_room (h : (s.meterP 0).samples.length < 256) : exec (.meterSample a b c) s =
    .next (takePair 2 c (takePair 1 b (takePair 0 a (s.atAngle (max s.angle (256 * (s.meterP 0).samples.length)))))) :=
  if_neg (Nat.not_le.2 h)

theorem exec_meterSample_of_full (h : 256 ≤ (s.meterP 0).samples.length) : exec (.meterSample a b c) s = .next s :=
  if_pos h

theorem shiftCurrent_of_unshifted {p : Nat} {code : Int} (h : s.cfg.ctShift p = 0) : shiftCurrent p code s = (code, s) :=
  if_pos h

/-- Without a shift of the transformer's phase the pair is taken as it is read. -/
theorem takePair_of_unshifted {p : Nat} {x : MeterPair} (h : s.cfg.ctShift p = 0) :
    takePair p x s = shadowConversion (27 + p) x.i x.spares (shadowConversion (24 + p) x.v x.spares
      (countSense 2 (flag (x.vClip || decide (fullCode ≤ x.v.natAbs)) 0 + flag (x.iClip || decide (fullCode ≤ x.i.natAbs)) 0)
        (s.setMeterP p { s.meterP p with
          samples := (x.v, x.i) :: (s.meterP p).samples
          clipsV := (s.meterP p).clipsV + flag (x.vClip || decide (fullCode ≤ x.v.natAbs)) 0
          clipsI := (s.meterP p).clipsI + flag (x.iClip || decide (fullCode ≤ x.i.natAbs)) 0 }))) := by
  simp only [takePair, shiftCurrent_of_unshifted h]

end

/-! ## Dwells (R536, R537, R539) -/

section
variable {s : State}

theorem exec_dwellEnd_of_early (h : shadowed s ≠ some s.sense.dwell.position ∨ s.sense.swap.isSome = true ∨ s.sense.dwell.rods < 256) :
    exec .dwellEnd s = .next s :=
  if_pos h

theorem shadowed_of_no_spare (h : freeModulators s = []) : shadowed s = none :=
  if_pos h

theorem exec_dwellEnd_of_no_spare (h : freeModulators s = []) : exec .dwellEnd s = .next s :=
  exec_dwellEnd_of_early (.inl (by simp [shadowed_of_no_spare h]))

section
variable (hshadowed : shadowed s = some s.sense.dwell.position) (hswap : s.sense.swap = none) (hrods : 256 ≤ s.sense.dwell.rods)
include hshadowed hswap hrods

theorem dwellEnd_due : ¬(shadowed s ≠ some s.sense.dwell.position ∨ s.sense.swap.isSome = true ∨ s.sense.dwell.rods < 256) := by
  simp [hshadowed, hswap, hrods]

/-- The state after a single spare's dwell is judged: both modulators are suspect where the two differ too often (R537). -/
def judgeLoneSpare (a : Nat) (s : State) : State :=
  if tooMany s.sense.dwell.differ s.sense.dwell.conversions then
    suspectModulator a s.sense.dwell.position 1 (suspectModulator (modulatorAt s s.sense.dwell.position) s.sense.dwell.position 1 s)
  else s

theorem exec_dwellEnd_of_one_spare {a : Nat} (h : freeModulators s = [a]) :
    exec .dwellEnd s = .next (beginDwell (nextPosition (judgeLoneSpare a s) s.sense.dwell.position) false (judgeLoneSpare a s)) := by
  simp only [exec, execDwellEnd, if_neg (dwellEnd_due hshadowed hswap hrods), h, judgeLoneSpare]

/-- The position's own modulator is odd too often, with two spares to compare it with (R537). -/
def ownSuspect (d : Dwell) : Bool := tooMany d.oddOwn d.conversions && decide (3 ≤ d.oddOwn)

/-- The state after a dwell of two spares is judged: first the position's own modulator, then the two spares (R537). -/
def judgeTwoSpares (a b : Nat) (s : State) : State :=
  let d := s.sense.dwell
  judgeSpare b d.oddSecond d.position (judgeSpare a d.oddFirst d.position
    (if ownSuspect d then suspectModulator (modulatorAt s d.position) d.position (if d.again then 2 else 1) s else s))

variable {a b : Nat} {rest : List Nat} (h : freeModulators s = a :: b :: rest)
include h

theorem exec_dwellEnd_of_sound (hown : ownSuspect s.sense.dwell = false) :
    exec .dwellEnd s = .next (beginDwell (nextPosition (judgeTwoSpares a b s) s.sense.dwell.position) false (judgeTwoSpares a b s)) := by
  unfold judgeTwoSpares
  unfold ownSuspect at hown ⊢
  simp only [exec, execDwellEnd, if_neg (dwellEnd_due hshadowed hswap hrods), h, hown, Bool.false_eq_true, false_and, if_false]

variable (hown : ownSuspect s.sense.dwell = true)
include hown

theorem exec_dwellEnd_of_first_suspicion (hagain : s.sense.dwell.again = false) :
    exec .dwellEnd s = .next (beginDwell s.sense.dwell.position true (judgeTwoSpares a b s)) := by
  unfold judgeTwoSpares
  unfold ownSuspect at hown ⊢
  simp only [exec, execDwellEnd, if_neg (dwellEnd_due hshadowed hswap hrods), h, hown, hagain, Bool.false_eq_true, and_false, if_false, if_true]

theorem exec_dwellEnd_of_second_suspicion (hagain : s.sense.dwell.again = true) :
    exec .dwellEnd s = .next (beginSwap s.sense.dwell.position 1 none
      (if 24 ≤ s.sense.dwell.position then (judgeTwoSpares a b s).setMeterP ((s.sense.dwell.position - 24) % 3)
        { (judgeTwoSpares a b s).meterP ((s.sense.dwell.position - 24) % 3) with failed := true } else judgeTwoSpares a b s)) := by
  unfold judgeTwoSpares
  unfold ownSuspect at hown ⊢
  simp only [exec, execDwellEnd, if_neg (dwellEnd_due hshadowed hswap hrods), h, hown, hagain, and_self, if_true]

end

/-! ## Replacements (R538) -/

theorem exec_modulatorReplacement_of_none (h : s.sense.swap = none) : exec .modulatorReplacement s = .next s := by
  simp only [exec, execModulatorReplacement, h]

/-- The conversions, or rods, that a spare shadows a position for before it replaces the modulator there (R538). -/
def swapLength (w : ModulatorSwap) : Nat := if w.position < 24 then 3 else 1

/-- The state once a spare serves a position, its ledger entry written and the replacement raised (R538, R658). -/
def replaceModulator (w : ModulatorSwap) (s : State) : State :=
  raise 0x0F06 [w.position, modulatorAt s w.position, w.spare, w.cause] (countSense 5 1 (writeLedger 4 w.cause (modulatorAt s w.position) (some w.spare)
    { s with sense := { s.sense with
      serving := fput none s.sense.serving w.position (some w.spare), retired := s.sense.retired ++ [modulatorAt s w.position], swap := none
      spareCounts := fput 0 s.sense.spareCounts w.spare 0 } }))

section
variable {w : ModulatorSwap} (hswap : s.sense.swap = some w)
include hswap

theorem exec_modulatorReplacement_of_early (h : w.shadowed < swapLength w) : exec .modulatorReplacement s = .next s := by
  unfold swapLength at h
  simp only [exec, execModulatorReplacement, hswap, if_pos h]

section
variable (hdue : swapLength w ≤ w.shadowed) {u : State} (hu : u = beginDwell (nextPosition (replaceModulator w s) w.position) false (replaceModulator w s))
include hdue hu

theorem exec_modulatorReplacement_of_unasked (hm : w.mailbox = none) : exec .modulatorReplacement s = .next u := by
  unfold replaceModulator at hu
  unfold swapLength at hdue
  simp only [exec, execModulatorReplacement, hswap, if_neg (Nat.not_lt.2 hdue), hm, hu]

theorem exec_modulatorReplacement_of_asked {m : Nat} (hm : w.mailbox = some m) :
    exec .modulatorReplacement s = .next (answerStarted m (ok (le 1 (modulatorAt s w.position) ++ le 1 w.spare ++ zeros 2 ++ cycle64 u.cycle)) u) := by
  unfold replaceModulator at hu
  unfold swapLength at hdue
  simp only [exec, execModulatorReplacement, hswap, if_neg (Nat.not_lt.2 hdue), hm, hu]

end

end

theorem beginSwap_of_free {p cause a : Nat} {mailbox : Option Nat} {rest : List Nat} (hfree : freeModulators s = a :: rest) (hswap : s.sense.swap = none) :
    beginSwap p cause mailbox s = { s with sense := { s.sense with
      swap := some { position := p, cause := cause, spare := a, shadowed := if s.sense.dwell.position = p then (if p < 24 then s.sense.dwell.conversions else s.sense.dwell.rods) else 0, mailbox := mailbox } } } := by
  simp only [beginSwap, hfree, hswap]

end

/-- Settles O52, command by command: a dwell by its free spares and what it found, and the verbs by their bodies' last branches. -/
theorem sensorsMetersAndModulators : Obligations.SensorsMetersAndModulators := by
  refine ⟨fun _ _ _ _ _ hruns hn hon ha => exec_conversionEnd_of_enabled hruns hn hon ha, fun _ _ _ _ h => exec_conversionEnd_of_idle h, ?record,
    fun _ _ _ _ _ h ht => judgeConversion_of_invalid h ht, fun _ _ _ _ _ h ht => judgeConversion_of_value h ht,
    fun _ _ _ h => conversionQuantity_of_full h, ?excitation, fun _ _ _ h => exec_excitationCompliance_of_other h,
    fun _ _ _ _ h => exec_meterSample_of_room h, ?pair, fun _ _ _ _ h => exec_meterSample_of_full h,
    fun _ h => exec_dwellEnd_of_early h, fun _ h => exec_dwellEnd_of_no_spare h, ?oneSpare, ?twoSpares,
    fun _ _ hswap h => exec_modulatorReplacement_of_early hswap h, fun _ h => exec_modulatorReplacement_of_none h, ?replacement,
    reads_of_body _ (fun _ _ => rfl) ?read, reads_of_body _ (fun _ _ => rfl) ?sums, reads_of_body _ (fun _ _ => rfl) ?phase,
    turnsAway_of_body _ (fun _ _ => rfl) ?unclosed, reads_of_body _ (fun _ _ => rfl) ?wave,
    reads_of_body _ (fun _ _ => rfl) fun _ _ _ => rfl, fun _ _ => starts_of_body _ (fun _ _ => rfl) ?spare,
    reads_of_body _ (fun _ _ => rfl) fun _ _ _ => rfl, completes_of_body _ (fun _ _ => rfl) fun _ _ _ => rfl⟩
  case record =>
    rintro n code s s1 rfl
    exact ⟨recordConversion_of_awaiting, recordConversion_of_ready⟩
  case excitation =>
    intro k s hon hk happlied hfallow
    exact ⟨exec_excitationCompliance_of_reached hon hk happlied hfallow, exec_excitationCompliance_of_below hon hk happlied hfallow⟩
  case pair => exact fun _ _ _ h => ⟨_, _, _, rfl, rfl, rfl, takePair_of_unshifted h⟩
  case oneSpare =>
    intro s a hshadowed hswap hrods hfree
    exact ⟨judgeLoneSpare a s, fun h => if_neg (ne_true_of_eq_false h), fun h => if_pos h,
      exec_dwellEnd_of_one_spare hshadowed hswap hrods hfree⟩
  case twoSpares =>
    rintro s p a b rest own rfl hshadowed hswap hrods hfree rfl
    exact ⟨_, _, rfl, rfl, exec_dwellEnd_of_sound hshadowed hswap hrods hfree, exec_dwellEnd_of_first_suspicion hshadowed hswap hrods hfree,
      exec_dwellEnd_of_second_suspicion hshadowed hswap hrods hfree⟩
  case replacement =>
    intro w s hswap hdue
    exact ⟨_, _, rfl, rfl, exec_modulatorReplacement_of_unasked hswap hdue rfl, fun _ => exec_modulatorReplacement_of_asked hswap hdue rfl⟩
  case read =>
    rintro c s ⟨hn, hzero⟩
    exact if_neg (not_or.2 ⟨Nat.not_lt.2 hn, ne_false_of_eq_true hzero⟩)
  case sums =>
    rintro c s ⟨hp, hzero, hclosed⟩
    exact (if_neg (not_or.2 ⟨by omega, ne_false_of_eq_true hzero⟩)).trans ((if_neg (ne_false_of_eq_true hclosed)).trans (if_pos hp))
  case phase =>
    rintro c s ⟨hlow, hhigh, hzero, hclosed⟩
    exact (if_neg (not_or.2 ⟨Nat.not_lt.2 hhigh, ne_false_of_eq_true hzero⟩)).trans
      ((if_neg (ne_false_of_eq_true hclosed)).trans (if_neg (Nat.ne_of_gt hlow)))
  case unclosed =>
    rintro c s ⟨hp, hzero, hclosed⟩
    exact Prod.ext rfl ((if_neg (not_or.2 ⟨Nat.not_lt.2 hp, ne_false_of_eq_true hzero⟩)).trans (if_pos hclosed))
  case wave =>
    rintro c s ⟨hlow, hhigh, hhalf, hzero, hclosed⟩
    exact (if_neg (by omega)).trans (if_neg (ne_false_of_eq_true hclosed))
  case spare =>
    rintro c s ⟨hp, hzero, hon, hfree, hswap⟩
    exact (if_neg (not_or.2 ⟨Nat.not_lt.2 hp, ne_false_of_eq_true hzero⟩)).trans
      ((if_neg (ne_false_of_eq_true hon)).trans ((if_neg (by simp [hfree, hswap])).trans (congrArg (·, none) (beginSwap_of_free hfree hswap))))

end Sys2Proof.Machine
end

section
/-! PROOFS. The families 18_panel and 24_pins: key scans, encoders, long presses and reset combinations (R551 to R561), the monitors (R709, R710), and the PANEL and PIN verbs (R570, R571, R712, R713). -/

namespace Sys2Proof.Machine

/-! ## The matrix (R551 to R554) -/

/-- Without rectangles every key takes part in the scan. -/
theorem keys_of_no_frozen : (List.range 64).filter (fun k => !(frozenKeys 0 0).getLsbD k) = List.range 64 :=
  List.filter_eq_self.2 fun k _ => by simp [frozenKeys, keyMask]

section
variable {raw : BitVec 64} {s s1 : State}

/-- A scan as it is noted, before its keys are judged (R551, R557). -/
def notedScan (raw : BitVec 64) (s : State) : State := { s with panel := { s.panel with
  raw := raw, quiet := if raw = 0 then s.panel.quiet + 1 else 0
  scanning := decide (s.hif.mode = .running) && ((s.panel.scanning && decide ((if raw = 0 then s.panel.quiet + 1 else 0) < 16)) || raw != 0) } }

theorem exec_keyScan_of_clear (h : (if bit (u8 s.cfg.panel 0) 0 then ((0, 0) : BitVec 8 × BitVec 8) else rectangles raw) = (0, 0)) {t : State}
    (ht : t = (List.range 64).foldl (debounceKey raw) (endAmbiguity (notedScan raw s))) :
    exec (.keyScan raw) s = .next { t with panel := { t.panel with settled := t.panel.debounced } } := by
  subst ht
  simp only [exec, execKeyScan, h, if_true, keys_of_no_frozen]
  rfl

/-- A scan whose rectangles are empty, or which the panel record has nothing looked for, is clear. -/
theorem scan_clear (hrows : bit (u8 s.cfg.panel 0) 0 = true ∨ (rectangles raw).1 = 0) (hcols : (rectangles raw).2 = 0 ∨ bit (u8 s.cfg.panel 0) 0 = true) :
    (if bit (u8 s.cfg.panel 0) 0 then ((0, 0) : BitVec 8 × BitVec 8) else rectangles raw) = (0, 0) := by
  by_cases hoff : bit (u8 s.cfg.panel 0) 0 = true
  · exact if_pos hoff
  · exact (if_neg hoff).trans (Prod.ext (hrows.resolve_left hoff) (hcols.resolve_right hoff))

theorem exec_keyScan_of_rectangles (hon : bit (u8 s.cfg.panel 0) 0 = false) (hrows : (rectangles raw).1 ≠ 0) :
    exec (.keyScan raw) s =
      .next (((List.range 64).filter fun k => !(frozenKeys (rectangles raw).1 (rectangles raw).2).getLsbD k).foldl (debounceKey raw)
        (ambiguousScan (rectangles raw).1 (rectangles raw).2 (notedScan raw s))) := by
  simp only [exec, execKeyScan, hon, Bool.false_eq_true, if_false, if_neg hrows]
  rfl

end

section
variable {k n : Nat} {raw : BitVec 64} {s : State}

theorem debounceKey_of_same (h : raw.getLsbD k = s.panel.debounced.getLsbD k) :
    debounceKey raw s k = { s with panel := { s.panel with counts := fput 0 s.panel.counts k 0 } } :=
  if_pos h

section
variable (hn : fget 0 s.panel.counts k = n) (hnew : raw.getLsbD k ≠ s.panel.debounced.getLsbD k)
include hn hnew

theorem debounceKey_of_few (h : n + 1 < u8 s.cfg.panel 1) :
    debounceKey raw s k = { s with panel := { s.panel with counts := fput 0 s.panel.counts k (n + 1) } } := by
  subst hn
  exact (if_neg hnew).trans (if_neg (Nat.not_le.2 h))

theorem debounceKey_of_enough (h : u8 s.cfg.panel 1 ≤ n + 1) :
    debounceKey raw s k = keyEdge k (raw.getLsbD k) { s with panel := { s.panel with counts := fput 0 s.panel.counts k 0 } } := by
  subst hn
  exact (if_neg hnew).trans (if_pos h)

end

/-! ## The key queue and long presses (R558, R559) -/

section
variable {kind i : Nat} (hup : kind ≠ 4) (hdown : kind ≠ 5)
include hup hdown

/-- Only the steps of encoders merge. -/
theorem not_mergesStep (q : Option KeyEntry) : ¬q.any (mergesStep { kind := kind, index := i, count := n, cycle := low32 s.cycle, angle := s.angle }) = true := by
  cases q <;> simp [mergesStep, hup, hdown]

theorem pushKey_of_room (h : s.panel.queue.length < 64) :
    pushKey kind i n s = { s with panel := { s.panel with
      queue := s.panel.queue ++ [{ kind := kind, index := i, count := n, cycle := low32 s.cycle, angle := s.angle }] } } :=
  (if_neg (not_mergesStep hup hdown _)).trans (if_pos h)

section
variable (hfull : 64 ≤ s.panel.queue.length)
include hfull

theorem pushKey_of_episode (h : s.panel.episode = true) :
    pushKey kind i n s = { s with panel := { s.panel with
      overflow := true, lost := s.panel.lost + 1, episode := true, stats := bump s.panel.stats 2 1 } } :=
  (if_neg (not_mergesStep hup hdown _)).trans ((if_neg (Nat.not_lt.2 hfull)).trans (if_pos h))

/-- The first entry lost of an episode is reported. -/
theorem pushKey_of_first_loss (h : s.panel.episode = false) :
    pushKey kind i n s = raise 0x1003 [s.panel.lost + 1, low32 s.cycle] { s with panel := { s.panel with
      overflow := true, lost := s.panel.lost + 1, episode := true, stats := bump s.panel.stats 2 1 } } :=
  (if_neg (not_mergesStep hup hdown _)).trans ((if_neg (Nat.not_lt.2 hfull)).trans (if_neg (ne_true_of_eq_false h)))

end

end

theorem exec_longPress_of_down (hk : k < 64) (hdown : s.panel.debounced.getLsbD k = true) (hlong : s.panel.long.getLsbD k = false)
    (hfree : s.panel.ambiguous = false ∨ (s.panel.frozenRows.getLsbD (k / 8) = false ∧ s.panel.frozenCols.getLsbD (k % 8) = false)) :
    exec (.longPress k) s = .next (meetBindings k 3 (pushKey 3 k 0 { s with panel := { s.panel with long := s.panel.long ||| BitVec.twoPow 64 k } })) := by
  refine if_neg ?_
  rintro (hfar | hup | hheld | hfrozen)
  · exact absurd hk (Nat.not_lt.2 hfar)
  · exact ne_false_of_eq_true hdown hup
  · exact ne_true_of_eq_false hlong hheld
  · rcases hfree with h | ⟨hrow, hcol⟩
    · simp only [h, Bool.false_and, Bool.false_eq_true] at hfrozen
    · simp only [hrow, hcol, Bool.or_false, Bool.and_false, Bool.false_eq_true] at hfrozen

theorem exec_longPress_of_barred (h : 64 ≤ k ∨ s.panel.debounced.getLsbD k = false ∨ s.panel.long.getLsbD k = true ∨
    (s.panel.ambiguous = true ∧ (s.panel.frozenRows.getLsbD (k / 8) = true ∨ s.panel.frozenCols.getLsbD (k % 8) = true))) :
    exec (.longPress k) s = .next s := by
  refine if_pos ?_
  simpa only [Bool.and_eq_true, Bool.or_eq_true] using h

end

/-! ## Encoders (R555, R556) -/

section
variable {e : Nat} {l : BitVec 2} {s : State}

theorem acceptLines_of_off (h : 4 ≤ e ∨ u8 s.cfg.panel (4 + e) = 0) : acceptLines e l s = s :=
  if_pos h

section
variable (he : e < 4) (hon : u8 s.cfg.panel (4 + e) ≠ 0)
include he hon

theorem encoder_on : ¬(4 ≤ e ∨ u8 s.cfg.panel (4 + e) = 0) := not_or.2 ⟨Nat.not_le.2 he, hon⟩

theorem acceptLines_of_still (h : (encoderPlace l + 4 - encoderPlace (encoderOf s e).lines) % 4 = 0) : acceptLines e l s = s := by
  simp only [acceptLines, if_neg (encoder_on he hon), h]

theorem acceptLines_of_up (h : (encoderPlace l + 4 - encoderPlace (encoderOf s e).lines) % 4 = 1) :
    acceptLines e l s = stepEncoder e (setEncoder s e { encoderOf s e with lines := l, count := (encoderOf s e).count + 1 }) := by
  simp only [acceptLines, if_neg (encoder_on he hon), h]

theorem acceptLines_of_down (h : (encoderPlace l + 4 - encoderPlace (encoderOf s e).lines) % 4 = 3) :
    acceptLines e l s = stepEncoder e (setEncoder s e { encoderOf s e with lines := l, count := (encoderOf s e).count - 1 }) := by
  simp only [acceptLines, if_neg (encoder_on he hon), h]

theorem acceptLines_of_illegal (h : (encoderPlace l + 4 - encoderPlace (encoderOf s e).lines) % 4 = 2) :
    acceptLines e l s = countPanel 3 (setEncoder s e { encoderOf s e with lines := l }) := by
  simp only [acceptLines, if_neg (encoder_on he hon), h]

end

end

/-! ## Reset combinations (R560, R561) -/

section
variable {i : Nat} {s t : State}

theorem exec_resetCombination_of_met (hmet : combinationMet s i = true) (hacted : (combination s i).acted = false)
    (hboot : s.hif.mode ≠ .bootRom) (hfallow : s.hif.mode ≠ .fallow) (ht : t = setCombination s i { combination s i with acted := true }) :
    exec (.resetCombination i) s = .next (raise 0x1002 [u8 (s.cfg.reset i) 0, i,
        u8 (s.cfg.reset i) 2 + 256 * u8 (s.cfg.reset i) 3 + 65536 * u8 (s.cfg.reset i) 4, u8 (s.cfg.reset i) 5]
      (countPanel 4 { t with panel := { t.panel with request := some (max (u8 (s.cfg.reset i) 0) (t.panel.request.getD 0)) } })) := by
  subst ht
  exact if_neg (by simp [hmet, hacted, hboot, hfallow])

theorem exec_resetCombination_of_barred
    (h : combinationMet s i = false ∨ (combination s i).acted = true ∨ s.hif.mode = .bootRom ∨ s.hif.mode = .fallow) :
    exec (.resetCombination i) s = .next s :=
  if_pos h

/-! ## Monitors (R709, R710) -/

section
variable {mv : List Nat} {temp : Int} {l : BitVec 40}

theorem exec_railMonitor_of_running (h : s.pins.inReset = false) :
    exec (.railMonitor mv temp) s = .next (measureThermal temp (((List.range 6).zip mv).foldl measureRail s)) :=
  if_neg (ne_true_of_eq_false h)

theorem exec_readbackCheck_of_running (h : s.pins.inReset = false) :
    exec (.readbackCheck l) s = .next (endReadback ((List.range 40).foldl (checkOutput l) s)) :=
  if_neg (ne_true_of_eq_false h)

theorem exec_railMonitor_of_reset (h : s.pins.inReset = true) : exec (.railMonitor mv temp) s = .next s :=
  if_pos h

theorem exec_readbackCheck_of_reset (h : s.pins.inReset = true) : exec (.readbackCheck l) s = .next s :=
  if_pos h

end

end

/-- Settles O53, command by command: a scan by its rectangles, an encoder by the quarter it moved, and the verbs by their bodies' last branches. -/
theorem panelAndPinsFollowTheirRules : Obligations.PanelAndPinsFollowTheirRules := by
  refine ⟨?scan, ?debounce, ?push, ?encoder, fun _ _ hk hdown hlong hfree => exec_longPress_of_down hk hdown hlong hfree,
    fun _ _ h => exec_longPress_of_barred h, fun _ _ _ hmet hacted hboot hfallow ht => exec_resetCombination_of_met hmet hacted hboot hfallow ht,
    fun _ _ h => exec_resetCombination_of_barred h, fun _ _ _ h => exec_railMonitor_of_running h, fun _ _ h => exec_readbackCheck_of_running h,
    fun _ _ _ _ h => ⟨exec_railMonitor_of_reset h, exec_readbackCheck_of_reset h⟩,
    reads_of_body _ (fun _ _ => rfl) fun _ _ _ => rfl, reads_of_body _ (fun _ _ => rfl) fun _ _ _ => rfl,
    completes_of_body _ (fun _ _ => rfl) ?events, completes_of_body _ (fun _ _ => rfl) fun _ _ h => if_pos h,
    turnsAway_of_body _ (fun _ _ => rfl) fun _ _ h => if_neg h, reads_of_body _ (fun _ _ => rfl) fun _ _ _ => rfl,
    completes_of_body _ (fun _ _ => rfl) fun _ _ _ => rfl, reads_of_body _ (fun _ _ => rfl) fun _ _ _ => rfl,
    completes_of_body _ (fun _ _ => rfl) ?write, reads_of_body _ (fun _ _ => rfl) fun _ _ h => if_neg (ne_false_of_eq_true h),
    completes_of_body _ (fun _ _ => rfl) ?balls, reads_of_body _ (fun _ _ => rfl) fun _ _ _ => rfl⟩
  case scan =>
    rintro raw s s1 rfl
    exact ⟨fun hrows hcols => ⟨_, rfl, exec_keyScan_of_clear (scan_clear hrows hcols) rfl⟩, exec_keyScan_of_rectangles⟩
  case debounce => exact fun _ _ _ _ hn => ⟨debounceKey_of_same, debounceKey_of_few hn, debounceKey_of_enough hn⟩
  case push => exact fun _ _ _ _ hup hdown => ⟨pushKey_of_room hup hdown, pushKey_of_episode hup hdown, pushKey_of_first_loss hup hdown⟩
  case encoder =>
    have next_of {a b : State} (h : a = b) : (.next a : Host.Outcome State Fault Refusal) = .next b := congrArg _ h
    intro e l s
    refine ⟨rfl, fun h => next_of (acceptLines_of_off h), fun he hon => ⟨fun h => next_of (acceptLines_of_still he hon h), fun h => ?_, fun h => ?_,
      fun h => ⟨_, rfl, next_of (acceptLines_of_illegal he hon h)⟩⟩⟩
    · exact ⟨_, rfl, next_of (acceptLines_of_up he hon h), next_of (acceptLines_of_up he hon h)⟩
    · exact ⟨_, rfl, next_of (acceptLines_of_down he hon h), next_of (acceptLines_of_down he hon h)⟩
  case events =>
    rintro c s ⟨hlow, hhigh, hclear, hzero⟩
    have hgood : ¬(u8 c.pay 0 = 0 ∨ u8 c.pay 0 > 64 ∨ u8 c.pay 1 > 1 ∨ u16 c.pay 2 ≠ 0) := by omega
    simp only [if_neg hgood, ← decide_not, Nat.not_lt, decide_eq_true_eq]
    rfl
  case write =>
    rintro c s ⟨hn, hop, hzero, hallowed⟩
    refine (if_neg (by omega)).trans (if_neg ?_)
    rintro ⟨hmode, hlayer⟩
    exact hallowed.elim hmode (ne_false_of_eq_true · hlayer)
  case balls =>
    rintro c s ⟨hlow, hhigh, hzero, hrange⟩
    exact if_neg (by omega)

end Sys2Proof.Machine
end

section
/-! PROOFS. The families 19_clock and 20_recorder: ticks, staged writes and trust flags (R572 to R583), the trim (R580, R581), records (R599 to R603), and the CLOCK and LOG verbs (R590, R591, R618, R619). -/

namespace Sys2Proof.Machine

/-! ## Ticks (R572, R580) -/

section
variable {sec frac : Nat}

theorem tickedCount_of_room (h : frac < 32767) : tickedCount sec frac = (sec, frac + 1) :=
  if_pos h

theorem tickedCount_of_carry (h : 32767 ≤ frac) : tickedCount sec frac = ((sec + 1) % 4294967296, 0) :=
  if_neg (Nat.not_lt.2 h)

/-- A 16 s boundary is a carry into seconds that 16 divides. -/
theorem sixteenSeconds_iff :
    ((tickedCount sec frac).1 % 16 = 0 ∧ (tickedCount sec frac).2 = 0) ↔ 32767 ≤ frac ∧ (sec + 1) % 4294967296 % 16 = 0 := by
  rcases Nat.lt_or_ge frac 32767 with h | h
  · simp [tickedCount_of_room h, Nat.not_le.2 h]
  · simp [tickedCount_of_carry h, h]

end

section
variable {s t : State} {w : ClockWrite}

theorem tickClock_seconds : (tickClock s).clock.seconds = (tickedCount s.clock.seconds s.clock.fraction).1 := rfl

theorem tickClock_fraction : (tickClock s).clock.fraction = (tickedCount s.clock.seconds s.clock.fraction).2 := rfl

theorem tickClock_trim_of_boundary (hcarry : 32767 ≤ s.clock.fraction) (h : (s.clock.seconds + 1) % 4294967296 % 16 = 0) :
    (tickClock s).clock.trim = s.clock.trimNext.getD s.clock.trim ∧ (tickClock s).clock.trimNext = none := by
  have hedge := decide_eq_true (sixteenSeconds_iff.2 ⟨hcarry, h⟩)
  exact ⟨if_pos hedge, if_pos hedge⟩

theorem tickClock_trim_of_other (h : s.clock.fraction < 32767 ∨ (s.clock.seconds + 1) % 4294967296 % 16 ≠ 0) :
    (tickClock s).clock.trim = s.clock.trim ∧ (tickClock s).clock.trimNext = s.clock.trimNext := by
  have hedge : ¬decide ((tickedCount s.clock.seconds s.clock.fraction).1 % 16 = 0 ∧ (tickedCount s.clock.seconds s.clock.fraction).2 = 0) = true := by
    rw [decide_eq_true_eq, sixteenSeconds_iff]
    omega
  exact ⟨if_neg hedge, if_neg hedge⟩

theorem clockAdvance_of_unstaged (h : s.clock.staged = none) : clockAdvance s = tickClock s := by
  simp only [clockAdvance, h]

theorem clockAdvance_of_staged (h : s.clock.staged = some w) : clockAdvance s = applyWrite w s := by
  simp only [clockAdvance, h]

theorem exec_clockTick_of_stopped (h : s.clock.stopped = true) : exec .clockTick s = .next s :=
  if_pos h

theorem exec_clockTick_of_running (h : s.clock.stopped = false) : exec .clockTick s = .next (checkLate (clockAdvance (endLate s))) :=
  if_neg (ne_true_of_eq_false h)

/-- Without an outage nothing is late that could end (log 46). -/
theorem endLate_of_no_outage (h : s.mail.outage = none) : endLate s = s := by
  simp only [endLate, endCauses, h, ite_self]

theorem checkLate_of_none_late (h : ((s.entries 0).find? fun e => e.late s.clock.ticksRun) = none) : checkLate s = s := by
  simp only [checkLate, h]

/-! ## Staged writes (R575, R577, R591) -/

theorem exec_clockWriteApply_of_stopped (h : s.clock.stopped = true) : exec .clockWriteApply s = .next s :=
  if_pos (.inl h)

theorem exec_clockWriteApply_of_unstaged (h : s.clock.staged = none) : exec .clockWriteApply s = .next s :=
  if_pos (.inr (by simp [h]))

theorem exec_clockWriteApply_of_staged (hrun : s.clock.stopped = false) (h : s.clock.staged = some w) :
    exec .clockWriteApply s = .next (applyWrite w s) :=
  (if_neg (by simp [hrun, h])).trans (congrArg _ (clockAdvance_of_staged h))

section
variable {sec frac : Nat} (hcount : writtenCount s.clock w = some (sec, frac))
include hcount

theorem applyWrite_of_unasked (hm : w.mailbox = none) :
    applyWrite w s = raise 0x1101 [s.clock.seconds, sec, frac, w.session]
      { tickClock s with clock := { (tickClock s).clock with seconds := sec, fraction := frac, staged := none } } := by
  simp only [applyWrite, hcount, answerWrite, hm]
  rfl

theorem applyWrite_of_asked {m : Nat} (hm : w.mailbox = some m) :
    applyWrite w s = answerStarted m
      (ok (le 4 s.clock.seconds ++ le 2 s.clock.fraction ++ zeros 2 ++ le 4 sec ++ le 2 frac ++ zeros 2 ++ cycle64 s.cycle ++ le 2 s.angle ++ zeros 6))
      (raise 0x1101 [s.clock.seconds, sec, frac, w.session]
        { tickClock s with clock := { (tickClock s).clock with seconds := sec, fraction := frac, staged := none } }) := by
  simp only [applyWrite, hcount, answerWrite, hm]
  rfl

end

/-! ## Trust flags (R582, R583) -/

section
variable {mv : Nat}

theorem exec_vbatCheck_of_low (h : mv < 1600) (hbvl : s.clock.bvl = false) :
    exec (.vbatCheck mv) s = .next (raise 0x1102 [mv, s.clock.seconds] { s with clock := { s.clock with bvl := true } }) :=
  if_neg (not_or.2 ⟨Nat.not_le.2 h, ne_true_of_eq_false hbvl⟩)

theorem exec_vbatCheck_of_good (h : 1600 ≤ mv ∨ s.clock.bvl = true) : exec (.vbatCheck mv) s = .next s :=
  if_pos h

end

theorem exec_oscillatorStop_of_running (h : s.clock.stopped = false) :
    exec .oscillatorStop s = .next (raise 0x1103 [2, s.clock.seconds, 0] { s with clock := { s.clock with stopped := true, osf := true } }) :=
  if_neg (ne_true_of_eq_false h)

theorem exec_oscillatorStop_of_stopped (h : s.clock.stopped = true) : exec .oscillatorStop s = .next s :=
  if_pos h

theorem exec_oscillatorRestart_of_running (h : s.clock.stopped = false) : exec .oscillatorRestart s = .next s :=
  if_neg (ne_true_of_eq_false h)

section
variable (hstopped : s.clock.stopped = true)
include hstopped

theorem exec_oscillatorRestart_of_unstaged (h : s.clock.staged = none) :
    exec .oscillatorRestart s = .next { s with clock := { s.clock with stopped := false } } :=
  (if_pos hstopped).trans (if_neg (by simp [State.setClock, h]))

/-- A write staged while the oscillator was stopped is applied at the first tick (R586). -/
theorem exec_oscillatorRestart_of_staged (h : s.clock.staged = some w) :
    exec .oscillatorRestart s = .next (applyWrite w { s with clock := { s.clock with stopped := false } }) :=
  (if_pos hstopped).trans ((if_pos (by simp [State.setClock, h])).trans (congrArg _ (clockAdvance_of_staged h)))

end

/-! ## Compensation (R581) -/

section
variable {temp : Int}

theorem exec_trimCompensation_of_idle (h : s.cfg.trimRecord = none ∨ serving s = false) : exec (.trimCompensation temp) s = .next s := by
  simp only [exec, execTrimCompensation]
  rcases h with h | h
  · simp only [h]
  · split
    · rfl
    · exact if_pos h

theorem exec_trimCompensation_of_record {v : List Byte} {want : Int} (h : s.cfg.trimRecord = some v) (hserving : serving s = true)
    (hwant : want = divRound (-(deviationAt v temp) * 33554432) (10 ^ 13))
    (ht : t = { s with clock := { s.clock with
      temperature := temp, deviation := deviationAt v temp, trimFrozen := false, trimLimit := decide (want.natAbs > 8191), limitEpisode := decide (want.natAbs > 8191)
      trimNext := some (clampInt (-8191) 8191 want) } }) :
    exec (.trimCompensation temp) s = .next (if want.natAbs > 8191 ∧ s.clock.limitEpisode = false then
      raise 0x1104 [(want % (2 ^ 32 : Nat)).toNat, (temp % (2 ^ 32 : Nat)).toNat] t else t) := by
  subst ht hwant
  simp only [exec, execTrimCompensation, h, if_neg (ne_false_of_eq_true hserving), decide_eq_true_eq]
  exact (apply_ite Host.Outcome.next _ _ _).symm

end

/-! ## Records (R599 to R603) -/

theorem exec_recordWrite_of_empty (h : s.recorder.intake = []) : exec .recordWrite s = .next s := by
  simp only [exec, execRecordWrite, h]

theorem exec_recordWrite_of_intake {e : EventRecord} {es : List EventRecord} (h : s.recorder.intake = e :: es) :
    exec .recordWrite s = .next (noteOverflow { s with recorder := writeRecord e { s.recorder with intake := es } }) := by
  simp only [exec, execRecordWrite, h]
  rfl

end

section
variable {e : EventRecord} {r : Recorder}

/-- LOG.REARMED clears the kept area and is the first record in it. -/
theorem writeRecord_of_rearmed (h : e.code = 0x1202) :
    (writeRecord e r).seq = r.seq + 1 ∧ (writeRecord e r).armed = true ∧ (writeRecord e r).kept = [(r.seq, e)] := by
  simp [writeRecord, h]

theorem writeRecord_of_other (h : e.code ≠ 0x1202) : (writeRecord e r).seq = r.seq + 1 ∧ (writeRecord e r).armed = r.armed ∧
    (writeRecord e r).kept = if r.armed = true ∧ r.kept.length < 1024 then r.kept ++ [(r.seq, e)] else r.kept := by
  simp [writeRecord, h]

end

/-- Settles O54, command by command: a tick by its carry and the write that is staged, and the verbs by their bodies' branches. -/
theorem clockAndRecorderFollowTheirRules : Obligations.ClockAndRecorderFollowTheirRules := by
  refine ⟨fun _ h => ⟨exec_clockTick_of_stopped h, exec_clockWriteApply_of_stopped h⟩, ?tick, fun _ => ⟨endLate_of_no_outage, checkLate_of_none_late⟩,
    fun _ h => exec_clockWriteApply_of_unstaged h, fun _ _ hrun h => exec_clockWriteApply_of_staged hrun h, ?count, ?unasked, ?asked,
    fun _ _ h hbvl => exec_vbatCheck_of_low h hbvl, fun _ _ h => exec_vbatCheck_of_good h,
    fun _ h => ⟨exec_oscillatorStop_of_running h, exec_oscillatorRestart_of_running h⟩,
    fun _ hstopped h => ⟨exec_oscillatorRestart_of_unstaged hstopped h, exec_oscillatorStop_of_stopped hstopped⟩,
    fun _ _ hstopped h => exec_oscillatorRestart_of_staged hstopped h,
    fun _ _ _ _ _ h hserving hwant ht => exec_trimCompensation_of_record h hserving hwant ht, fun _ _ h => exec_trimCompensation_of_idle h,
    fun _ h => exec_recordWrite_of_empty h, fun _ _ _ h => exec_recordWrite_of_intake h, fun _ _ h => writeRecord_of_rearmed h,
    fun _ _ h => writeRecord_of_other h, reads_of_body _ (fun _ _ => rfl) fun _ _ _ => rfl, fun _ => starts_of_body _ (fun _ _ => rfl) ?set,
    ?setBad, fun _ _ => reads_of_body _ (fun _ _ => rfl) ?toCount, fun _ _ => reads_of_body _ (fun _ _ => rfl) ?toDate,
    completes_of_body _ (fun _ _ => rfl) ?flags, turnsAway_of_body _ (fun _ _ => rfl) ?flagsBarred,
    reads_of_body _ (fun _ _ => rfl) fun _ _ _ => rfl, reads_of_body _ (fun _ _ => rfl) fun _ _ _ => rfl, reads_of_body _ (fun _ _ => rfl) ?read,
    reads_of_body _ (fun _ _ => rfl) ?readKept, completes_of_body _ (fun _ _ => rfl) fun _ _ h => if_neg (Nat.not_le.2 h),
    turnsAway_of_body _ (fun _ _ => rfl) fun _ _ h => if_pos h, completes_of_body _ (fun _ _ => rfl) fun _ _ h => if_neg h,
    turnsAway_of_body _ (fun _ _ => rfl) fun _ _ h => if_pos h, reads_of_body _ (fun _ _ => rfl) fun _ _ _ => rfl,
    completes_of_body _ (fun _ _ => rfl) fun _ _ _ => rfl⟩
  case tick =>
    rintro s t hrun rfl
    rw [exec_clockTick_of_running hrun]
    exact ⟨fun h => by rw [clockAdvance_of_unstaged h], fun w h => by rw [clockAdvance_of_staged h]⟩
  case count =>
    rintro s t rfl
    refine ⟨fun h => ?_, fun h => ?_, tickClock_trim_of_other, tickClock_trim_of_boundary, rfl⟩
    · rw [tickClock_seconds, tickClock_fraction, tickedCount_of_room h]
      exact ⟨rfl, rfl, rfl⟩
    · rw [tickClock_seconds, tickClock_fraction, tickedCount_of_carry h]
      exact ⟨rfl, rfl⟩
  case unasked =>
    rintro w sec frac s t hcount hm rfl
    exact applyWrite_of_unasked hcount hm
  case asked =>
    rintro w m sec frac s t hcount hm rfl
    exact applyWrite_of_asked hcount hm
  case set =>
    intro c s h
    simp only [h]
    rfl
  case setBad =>
    intro e m s c h g
    refine (congrArg Host.Outcome.next (serveLater_of_asked _ h)).trans ?_
    simp only [g]
  case toCount =>
    rintro c s ⟨hform, hzero, hbody⟩
    simp [hform, hzero, hbody]
  case toDate =>
    rintro c s ⟨hform, hzero, hbody⟩
    simp [hform, hzero, hbody]
  case flags =>
    rintro c s ⟨hmask, hzero, howner⟩
    refine (if_neg (by omega)).trans (if_neg ?_)
    rintro ⟨hosf, hnot⟩
    exact ne_false_of_eq_true (howner hosf) hnot
  case flagsBarred =>
    rintro c s ⟨hmask, hzero, hosf, hnot⟩
    exact (if_neg (by omega)).trans (if_pos ⟨hosf, hnot⟩)
  case read =>
    rintro c s ⟨hlow, hhigh, hzero⟩
    exact if_neg (by simp [hzero]; omega)
  case readKept =>
    rintro c s ⟨hfirst, hlow, hhigh, hzero⟩
    exact if_neg (by omega)

end Sys2Proof.Machine
end

section
/-! PROOFS. The family 20_recorder, snapshots: strobes (R605 to R610), the schedule and triggers from other chips (R611, R612), and the SNAP verbs (R620, R621). -/

namespace Sys2Proof.Machine

/-! ## Strobes (R605 to R610) -/

section
variable {b src seq sender : Nat} {late remote : Bool} {s t : State}

/-- A bank that is empty, or held and not locked, starts its copy (R605, R607, R609). -/
theorem strobe_of_free (h : (s.bank b).state = 0 ∨ ((s.bank b).state = 2 ∧ bit (u8 s.cfg.snap 1) b = false))
    (ht : t = fireTraces 1 (fun _ => true) (s.setBank b { state := 1, sources := 2 ^ src, late := late, remote := remote, strobe := s.phase.now, sender := sender, seq := seq, mode := s.hif.mode, latched := some s.toBlocks })) :
    strobe raise b src late remote sender seq s =
      raise 0x1301 [b, 2 ^ src, flag late 0 + flag remote 1, low32 sender] { t with snap := { t.snap with out := true, outSince := s.phase.now } } := by
  have hcopying : (s.bank b).state ≠ 1 := by rcases h with h | ⟨h, -⟩ <;> simp [h]
  have hlocked : ¬((s.bank b).state = 2 ∧ bit (u8 s.cfg.snap 1) b = true) := by rcases h with h | ⟨h, hbit⟩ <;> simp [*]
  simp only [strobe, if_neg fun hsame : _ ∧ _ => hcopying hsame.1, if_neg hcopying, if_neg hlocked, ht]

theorem strobe_of_locked (h : (s.bank b).state = 2) (hlock : bit (u8 s.cfg.snap 1) b = true) :
    strobe raise b src late remote sender seq s = raise 0x1302 [b, 1, 2 ^ src, low32 s.cycle] s := by
  have hcopying : (s.bank b).state ≠ 1 := by simp [h]
  exact (if_neg fun hsame => hcopying hsame.1).trans ((if_neg hcopying).trans (if_pos ⟨h, hlock⟩))

section
variable (h : (s.bank b).state = 1)
include h

theorem strobe_of_copying (hother : (s.bank b).strobe ≠ s.phase.now) :
    strobe raise b src late remote sender seq s = raise 0x1302 [b, 2, 2 ^ src, low32 s.cycle] s :=
  (if_neg fun hsame => hother hsame.2).trans (if_pos h)

theorem strobe_of_same_instant (hsame : (s.bank b).strobe = s.phase.now) :
    strobe raise b src late remote sender seq s = s.setBank b { s.bank b with
      sources := (s.bank b).sources ||| 2 ^ src, late := (s.bank b).late || late, remote := (s.bank b).remote || remote } :=
  if_pos ⟨h, hsame⟩

end

theorem exec_snapshotCopyComplete_of_copying (h : (s.bank b).state = 1) :
    exec (.snapshotCopyComplete b) s = .next (s.setBank b { s.bank b with state := 2 }) :=
  if_pos h

theorem exec_snapshotCopyComplete_of_other (h : (s.bank b).state ≠ 1) : exec (.snapshotCopyComplete b) s = .next s :=
  if_neg h

theorem exec_snapOutEnd_of_due (h : s.snap.outSince.tu + 256 ≤ s.phase.now.tu) :
    exec .snapOutEnd s = .next { s with snap := { s.snap with out := false } } :=
  if_neg (Nat.not_lt.2 h)

theorem exec_snapOutEnd_of_early (h : s.phase.now.tu < s.snap.outSince.tu + 256) : exec .snapOutEnd s = .next s :=
  if_pos h

/-! ## SNAP_IN and the schedule (R606, R611) -/

theorem ownStrobe_of_unsent (h : bit (u8 s.cfg.snap 0) src = false) : ownStrobe raise b src seq s = strobe raise b src false false 0 seq s :=
  if_neg (by simp [h])

theorem ownStrobe_of_sent (h : bit (u8 s.cfg.snap 0) src = true) (hsrc : src ≤ 3) :
    ownStrobe raise b src seq s = sendTrigger raise s.phase.now b (strobe raise b src false false 0 seq s) :=
  if_pos (by simp [h, hsrc])

theorem exec_snapInEdge_of_bank (h : u8 s.cfg.snap 2 = b) (hb : b ≤ 3) : exec .snapInEdge s = .next (ownStrobe raise b 2 0 s) := by
  subst h
  exact if_pos hb

theorem exec_snapInEdge_of_no_bank (h : 3 < u8 s.cfg.snap 2) : exec .snapInEdge s = .next s :=
  if_neg (Nat.not_le.2 h)

theorem exec_scheduledStrobe_of_empty (h : earliest s.snap.schedule = none) : exec .scheduledStrobe s = .next s := by
  simp only [exec, execScheduledStrobe, h]

section
variable {x : SnapSchedule} (hx : earliest s.snap.schedule = some x)
include hx

theorem exec_scheduledStrobe_of_early (h : s.phase.state = .acquire ∨ s.cycle < x.at_.cycle) : exec .scheduledStrobe s = .next s := by
  simp only [exec, execScheduledStrobe, hx, if_pos h]

section
variable (hacquired : s.phase.state ≠ .acquire)
include hacquired

/-- An entry whose rod the count has stepped past leaves the table (log 40). -/
theorem exec_scheduledStrobe_of_passed (hrod : x.at_.cycle < s.cycle) (htu : x.at_.tu + 1 < s.phase.now.tu) :
    exec .scheduledStrobe s = .next { s with snap := { s.snap with schedule := s.snap.schedule.erase x } } := by
  simp only [exec, execScheduledStrobe, hx, if_neg (not_or.2 ⟨hacquired, Nat.not_lt.2 hrod.le⟩), if_pos (And.intro hrod htu)]

theorem exec_scheduledStrobe_of_due (hrod : x.at_.cycle ≤ s.cycle) (htu : x.at_.cycle = s.cycle ∨ s.phase.now.tu ≤ x.at_.tu + 1)
    (ht : t = if x.at_.cycle = s.cycle then s.atAngle (max s.angle x.at_.angle) else s) :
    exec .scheduledStrobe s = .next (strobe raise x.bank x.source false (x.source == 4) x.sender 0
      { t with snap := { t.snap with schedule := t.snap.schedule.erase x } }) := by
  subst ht
  have hpassed : ¬(x.at_.cycle < s.cycle ∧ x.at_.tu + 1 < s.phase.now.tu) := by omega
  simp only [exec, execScheduledStrobe, hx, if_neg (not_or.2 ⟨hacquired, Nat.not_lt.2 hrod⟩), if_neg hpassed]

end

end

end

/-! ## Triggers from other chips (R612) -/

section
variable {s s1 t : State} {d : Delivered} {sender bank : Nat} {i : Instant}

theorem exec_snapshotTriggerFrame_of_none (h : takeDelivered 8 s = none) : exec .snapshotTriggerFrame s = .next s := by
  simp only [exec, execSnapshotTriggerFrame, h]

/-- A trigger that is not taken: triggers are off, or its bank is none, or it has been taken before. -/
def triggerBarred (sender bank : Nat) (i : Instant) (s : State) : Prop :=
  s.cfg.ringFlag 3 = false ∨ sendsOwn s = false ∨ 3 < bank ∨ s.snap.taken.contains (sender, i, bank) = true

variable (h : takeDelivered 8 s = some (d, s1)) (hsender : sender = n64 (d.frame.body.drop 1) 0)
  (hi : i = ⟨n48 (d.frame.body.drop 1) 8, n16 (d.frame.body.drop 1) 14⟩) (hbank : bank = u8 (d.frame.body.drop 1) 16)
include h hsender hi hbank

theorem exec_snapshotTriggerFrame_of_barred (hbarred : triggerBarred sender bank i s1) : exec .snapshotTriggerFrame s = .next s1 := by
  unfold triggerBarred at hbarred
  subst hsender hi hbank
  simp only [exec, execSnapshotTriggerFrame, h, if_pos hbarred]

variable (hgood : ¬triggerBarred sender bank i s1) (ht : t = { s1 with snap := { s1.snap with taken := (sender, i, bank) :: s1.snap.taken } })
include hgood ht

theorem exec_snapshotTriggerFrame_of_late (hlate : i.tu ≤ s1.phase.now.tu) :
    exec .snapshotTriggerFrame s = .next (strobe raise bank 4 true true sender 0 t) := by
  unfold triggerBarred at hgood
  subst hsender hi hbank ht
  simp only [exec, execSnapshotTriggerFrame, h, if_neg hgood, if_pos hlate]

theorem exec_snapshotTriggerFrame_of_far (hfar : s1.phase.now.tu + 2 ^ 36 < i.tu) :
    exec .snapshotTriggerFrame s = .next (raise 0x1302 [bank, 4, 16, low32 t.cycle] t) := by
  have hahead : ¬i.tu ≤ s1.phase.now.tu := by omega
  unfold triggerBarred at hgood
  subst hsender hi hbank ht
  simp only [exec, execSnapshotTriggerFrame, h, if_neg hgood, if_neg hahead, if_pos hfar]

section
variable (hahead : s1.phase.now.tu < i.tu) (hnear : i.tu ≤ s1.phase.now.tu + 2 ^ 36)
include hahead hnear

theorem exec_snapshotTriggerFrame_of_full (hfull : 8 ≤ s1.snap.schedule.length) :
    exec .snapshotTriggerFrame s = .next (raise 0x1302 [bank, 3, 16, low32 t.cycle] t) := by
  unfold triggerBarred at hgood
  subst hsender hi hbank ht
  simp only [exec, execSnapshotTriggerFrame, h, if_neg hgood, if_neg (Nat.not_le.2 hahead), if_neg (Nat.not_lt.2 hnear), if_pos hfull]

theorem exec_snapshotTriggerFrame_of_scheduled (hroom : s1.snap.schedule.length < 8) :
    exec .snapshotTriggerFrame s = .next { t with snap := { t.snap with
      schedule := t.snap.schedule ++ [{ bank := bank, at_ := i, source := 4, sender := sender }] } } := by
  unfold triggerBarred at hgood
  subst hsender hi hbank ht
  simp only [exec, execSnapshotTriggerFrame, h, if_neg hgood, if_neg (Nat.not_le.2 hahead), if_neg (Nat.not_lt.2 hnear), if_neg (Nat.not_le.2 hroom)]

end

end

/-! ## SNAP verbs (R620, R621) -/

/-- The arguments of a SNAP.TRIGGER that are bad: a bank or a flag that is none, or an instant beside a strobe at once. -/
def snapTriggerBad (c : Call) : Prop :=
  u8 c.pay 0 > 3 ∨ u8 c.pay 1 > 3 ∨ u16 c.pay 2 ≠ 0 ∨ allZero (c.pay.drop 14) = false ∨
    (bit (u8 c.pay 1) 0 = false ∧ (⟨u64 c.pay 4, u16 c.pay 12⟩ : Instant) ≠ ⟨0, 0⟩)

theorem bit_zero_of_even {n : Nat} (h : n = 0 ∨ n = 2) : bit n 0 = false := by
  rcases h with rfl | rfl <;> rfl

theorem bit_zero_of_odd {n : Nat} (h : n = 1 ∨ n = 3) : bit n 0 = true := by
  rcases h with rfl | rfl <;> rfl

section
variable {c : Call} (hbank : u8 c.pay 0 ≤ 3) (hzero : u16 c.pay 2 = 0) (hrest : allZero (c.pay.drop 14) = true)
include hbank hzero hrest

theorem not_snapTriggerBad_of_now (hflags : u8 c.pay 1 = 0 ∨ u8 c.pay 1 = 2) (hcycle : u64 c.pay 4 = 0) (hangle : u16 c.pay 12 = 0) :
    ¬snapTriggerBad c := by
  rintro (hbad | hbad | hbad | hbad | ⟨-, hbad⟩)
  · omega
  · omega
  · exact hbad hzero
  · exact ne_false_of_eq_true hrest hbad
  · exact hbad (by rw [hcycle, hangle])

theorem not_snapTriggerBad_of_scheduled (hflags : u8 c.pay 1 = 1 ∨ u8 c.pay 1 = 3) : ¬snapTriggerBad c := by
  rintro (hbad | hbad | hbad | hbad | ⟨hbad, -⟩)
  · omega
  · omega
  · exact hbad hzero
  · exact ne_false_of_eq_true hrest hbad
  · exact ne_false_of_eq_true (bit_zero_of_odd hflags) hbad

end

/-- Settles O55, command by command: a strobe by the state of its bank, a trigger by its instant, and the verbs by their bodies' branches. -/
theorem snapshotBanksFollowTheirRules : Obligations.SnapshotBanksFollowTheirRules := by
  refine ⟨?strobe, ?edge, fun _ h => exec_snapInEdge_of_no_bank h, fun _ h => exec_scheduledStrobe_of_empty h, ?schedule,
    fun _ h => exec_snapshotTriggerFrame_of_none h, ?frame, fun _ _ h => exec_snapshotCopyComplete_of_copying h,
    fun _ _ h => exec_snapshotCopyComplete_of_other h, fun _ h => exec_snapOutEnd_of_due h, fun _ h => exec_snapOutEnd_of_early h,
    reads_of_body _ (fun _ _ => rfl) fun _ _ _ => rfl, completes_of_body _ (fun _ _ => rfl) ?now, completes_of_body _ (fun _ _ => rfl) ?later,
    turnsAway_of_body _ (fun _ _ => rfl) ?passed, turnsAway_of_body _ (fun _ _ => rfl) ?full,
    fun _ => reads_of_body _ (fun _ _ => rfl) ?read, turnsAway_of_body _ (fun _ _ => rfl) ?notHeld, completes_of_body _ (fun _ _ => rfl) ?release⟩
  case strobe =>
    exact fun _ _ _ _ _ _ _ => ⟨fun h => ⟨_, rfl, strobe_of_free h rfl⟩, strobe_of_locked, strobe_of_copying, strobe_of_same_instant⟩
  case edge =>
    intro s b h hb
    rw [exec_snapInEdge_of_bank h hb]
    exact ⟨fun hbit => congrArg _ (ownStrobe_of_unsent hbit), fun hbit => congrArg _ (ownStrobe_of_sent hbit (by decide))⟩
  case schedule =>
    exact fun x s hx => ⟨exec_scheduledStrobe_of_early hx, exec_scheduledStrobe_of_passed hx,
      fun hacquired hrod htu => ⟨_, rfl, exec_scheduledStrobe_of_due hx hacquired hrod htu rfl⟩⟩
  case frame =>
    intro d sender bank i s s1 h hsender hi hbank
    refine ⟨exec_snapshotTriggerFrame_of_barred h hsender hi hbank, fun hring hown hb hnew => ?_⟩
    have hgood : ¬triggerBarred sender bank i s1 := by
      rintro (hbarred | hbarred | hbarred | hbarred)
      · exact ne_false_of_eq_true hring hbarred
      · exact ne_false_of_eq_true hown hbarred
      · exact absurd hb (Nat.not_le.2 hbarred)
      · exact ne_true_of_eq_false hnew hbarred
    exact ⟨_, rfl, exec_snapshotTriggerFrame_of_late h hsender hi hbank hgood rfl, exec_snapshotTriggerFrame_of_far h hsender hi hbank hgood rfl,
      exec_snapshotTriggerFrame_of_full h hsender hi hbank hgood rfl, exec_snapshotTriggerFrame_of_scheduled h hsender hi hbank hgood rfl⟩
  case now =>
    rintro c s ⟨hbank, hflags, hzero, hrest, hcycle, hangle⟩
    exact (if_neg (not_snapTriggerBad_of_now hbank hzero hrest hflags hcycle hangle)).trans (if_pos (bit_zero_of_even hflags))
  case later =>
    rintro c s ⟨hbank, hflags, hzero, hrest, hnear, hahead, hroom⟩
    exact (if_neg (not_snapTriggerBad_of_scheduled hbank hzero hrest hflags)).trans
      ((if_neg (ne_false_of_eq_true (bit_zero_of_odd hflags))).trans ((if_neg (Nat.not_lt.2 hnear)).trans
        ((if_neg (Nat.not_le.2 hahead)).trans (if_neg (Nat.not_le.2 hroom)))))
  case passed =>
    rintro c s ⟨hbank, hflags, hzero, hrest, hpassed⟩
    exact (if_neg (not_snapTriggerBad_of_scheduled hbank hzero hrest (.inl hflags))).trans
      ((if_neg (ne_false_of_eq_true (bit_zero_of_odd (.inl hflags)))).trans ((if_neg (by omega)).trans (if_pos hpassed)))
  case full =>
    rintro c s ⟨hbank, hflags, hzero, hrest, hnear, hahead, hfull⟩
    exact (if_neg (not_snapTriggerBad_of_scheduled hbank hzero hrest (.inl hflags))).trans
      ((if_neg (ne_false_of_eq_true (bit_zero_of_odd (.inl hflags)))).trans ((if_neg (Nat.not_lt.2 hnear)).trans
        ((if_neg (Nat.not_le.2 hahead)).trans (if_pos hfull))))
  case read =>
    rintro c s ⟨hsize, hbank, hzero, hzero', hlow, hhigh, hheld⟩
    simp only [hsize]
    exact (if_neg (by omega)).trans (if_neg (not_not.2 hheld))
  case notHeld =>
    rintro c s ⟨hblock, hbank, hzero, hzero', hlow, hhigh, hheld⟩
    obtain ⟨size, hsize⟩ := Option.isSome_iff_exists.1 hblock
    simp only [hsize]
    exact Prod.ext rfl ((if_neg (by omega)).trans (if_pos hheld))
  case release =>
    rintro c s ⟨hmask, hzero⟩
    exact if_neg (not_or.2 ⟨Nat.not_lt.2 hmask, ne_false_of_eq_true hzero⟩)

end Sys2Proof.Machine
end

section
/-! PROOFS. What outages, stops and events leave alone, for the starts of the family 21_start (R27, R67, R74, R78, R629). -/

namespace Sys2Proof.Machine

/-! ## Events and outages -/

/-- The parts of a state that an outage, beginning or ending, leaves alone: its counters of years and its reports apart, everything a start speaks of. -/
structure SameButOutage (s t : State) : Prop where
  pending : t.pending = s.pending
  start : t.start = s.start
  sec : t.sec = s.sec
  cfg : t.cfg = s.cfg
  clock : t.clock = s.clock
  abacus : t.abacus = s.abacus
  mode : t.hif.mode = s.hif.mode
  sessions : t.mail.sessions = s.mail.sessions

namespace SameButOutage

theorem refl (s : State) : SameButOutage s s := ⟨rfl, rfl, rfl, rfl, rfl, rfl, rfl, rfl⟩

theorem trans {s t u : State} (h : SameButOutage s t) (g : SameButOutage t u) : SameButOutage s u :=
  ⟨g.pending.trans h.pending, g.start.trans h.start, g.sec.trans h.sec, g.cfg.trans h.cfg, g.clock.trans h.clock, g.abacus.trans h.abacus,
    g.mode.trans h.mode, g.sessions.trans h.sessions⟩

/-- The interval in progress and the counters of years are free. -/
theorem of_mail (s : State) (years : FMap YearCount) (outage : Option Interval) :
    SameButOutage s { s with mail := { s.mail with years := years, outage := outage } } := ⟨rfl, rfl, rfl, rfl, rfl, rfl, rfl, rfl⟩

end SameButOutage

theorem raise_sameButOutage (code : Nat) (ps : List Nat) (s : State) : SameButOutage s (raise code ps s) := by
  have hall := (raise_aside_self code ps s).1
  simp only [asideOf, Prod.mk.injEq] at hall
  constructor
  case cfg => exact raise_cfg code ps s
  all_goals simp only [hall]

@[simp] theorem raise_start (code : Nat) (ps : List Nat) (s : State) : (raise code ps s).start = s.start := (raise_sameButOutage code ps s).start

@[simp] theorem raise_mode (code : Nat) (ps : List Nat) (s : State) : (raise code ps s).hif.mode = s.hif.mode := (raise_sameButOutage code ps s).mode

@[simp] theorem raise_sessions (code : Nat) (ps : List Nat) (s : State) : (raise code ps s).mail.sessions = s.mail.sessions :=
  (raise_sameButOutage code ps s).sessions

theorem creditYears_sameButOutage (n y excluded ms into : Nat) (s : State) : SameButOutage s (creditYears n y excluded ms into s) := by
  induction n generalizing y ms into s with
  | zero => exact .of_mail s _ _
  | succ n ih =>
    unfold creditYears
    split
    · exact .of_mail s _ _
    · exact (SameButOutage.of_mail s _ _).trans (ih ..)

theorem countInterval_sameButOutage (excluded ms : Nat) (s : State) : SameButOutage s (countInterval excluded ms s) :=
  (creditYears_sameButOutage ..).trans (.of_mail _ _ _)

theorem beginOutage_sameButOutage (cause excluded : Nat) (s : State) : SameButOutage s (beginOutage cause excluded s) := by
  unfold beginOutage
  split <;> exact .of_mail s _ _

theorem endOutage_sameButOutage (s : State) : SameButOutage s (endOutage s) := by
  unfold endOutage
  split
  · exact .refl s
  · exact (SameButOutage.of_mail s _ _).trans ((countInterval_sameButOutage ..).trans (raise_sameButOutage ..))

theorem endCauses_sameButOutage (ended : Nat → Bool) (s : State) : SameButOutage s (endCauses ended s) := by
  unfold endCauses
  split
  · exact .refl s
  · dsimp only
    split
    · split
      · exact endOutage_sameButOutage s
      · exact .of_mail s _ _
    · exact .refl s

theorem changeOutage_sameButOutage (cause excluded : Nat) (s : State) : SameButOutage s (changeOutage cause excluded s) := by
  unfold changeOutage
  refine SameButOutage.trans ?_ (.of_mail _ _ _)
  split
  · split
    · exact beginOutage_sameButOutage ..
    · exact (endOutage_sameButOutage s).trans (beginOutage_sameButOutage ..)
  · exact beginOutage_sameButOutage ..

theorem loseSupply_sameButOutage (s : State) : SameButOutage s (loseSupply s) := by
  unfold loseSupply
  refine SameButOutage.trans ?_ (.of_mail _ _ _)
  split
  · exact .refl s
  · exact countInterval_sameButOutage ..

/-! ## Modes and counters -/

section
variable (m : Mode) (s : State)

@[simp] theorem setMode_mode : (setMode m s).hif.mode = m := by
  unfold setMode
  split
  · assumption
  · rfl

@[simp] theorem setMode_start : (setMode m s).start = s.start := by
  unfold setMode
  split <;> rfl

@[simp] theorem setMode_sessions : (setMode m s).mail.sessions = s.mail.sessions := by
  unfold setMode
  split <;> rfl

@[simp] theorem setMode_abacus : (setMode m s).abacus = s.abacus := by
  unfold setMode
  split <;> rfl

end

section
variable (counter old new : Nat) (s : State)

@[simp] theorem noteRaise_start : (noteRaise counter old new s).start = s.start := by
  unfold noteRaise
  split
  · exact raise_start ..
  · rfl

@[simp] theorem noteRaise_mode : (noteRaise counter old new s).hif.mode = s.hif.mode := by
  unfold noteRaise
  split
  · exact raise_mode ..
  · rfl

@[simp] theorem raiseCounters_start : (raiseCounters s).start = s.start := by
  unfold raiseCounters
  split
  · rfl
  · simp

@[simp] theorem raiseCounters_mode : (raiseCounters s).hif.mode = s.hif.mode := by
  unfold raiseCounters
  split
  · rfl
  · simp

end

/-! ## What the stops of a start leave alone (R67, R74, R629) -/

/-- A fold over steps that leave a part of the state alone leaves it alone. -/
theorem foldl_leaves {α β : Type} (part : State → β) {f : State → α → State} (h : ∀ s a, part (f s a) = part s) (l : List α) (s : State) :
    part (l.foldl f s) = part s := by
  induction l generalizing s with
  | nil => rfl
  | cons a l ih => exact (ih _).trans (h s a)

@[simp] theorem lapseClaim_ledger (s : State) : (lapseClaim s).start.ledger = s.start.ledger := by
  unfold lapseClaim State.setFwSlot State.setCfgSlot
  repeat' split
  all_goals rfl

@[simp] theorem closeSession_ledger (h cause : Nat) (s : State) : (closeSession h cause s).start.ledger = s.start.ledger := by
  unfold closeSession
  split
  · rfl
  · dsimp only
    repeat' split
    all_goals simp

@[simp] theorem abandon_ledger (cause : Nat) (s : State) : (abandon cause s).start.ledger = s.start.ledger := by
  have hclosed : (if cause = 0 then s else closeAll cause s).start.ledger = s.start.ledger := by
    split
    · rfl
    · exact foldl_leaves (fun s => s.start.ledger) (fun s (x : Session) => closeSession_ledger x.handle cause s) _ s
  exact (lapseClaim_ledger _).trans hclosed

@[simp] theorem abandon_sessions (cause : Nat) (s : State) : (abandon cause s).mail.sessions = [] := rfl

section
variable (o : Occ) (cause : Nat) (s : State)

@[simp] theorem spend_start : (spend o s).start = s.start := by
  unfold spend
  dsimp only
  split <;> rfl

@[simp] theorem spend_mail : (spend o s).mail = s.mail := by
  unfold spend
  dsimp only
  split <;> rfl

@[simp] theorem raiseSkipped_start : (raiseSkipped o cause s).start = s.start := by simp [raiseSkipped]

@[simp] theorem raiseSkipped_sessions : (raiseSkipped o cause s).mail.sessions = s.mail.sessions := by simp [raiseSkipped]

end

section
variable (s : State)

theorem skipStopped_start : (skipStopped s).start = s.start :=
  foldl_leaves State.start (fun s (o : Occ) => raiseSkipped_start o 7 s) _ s

theorem skipStopped_sessions : (skipStopped s).mail.sessions = s.mail.sessions :=
  foldl_leaves (fun s => s.mail.sessions) (fun s (o : Occ) => raiseSkipped_sessions o 7 s) _ s

@[simp] theorem stopChip_ledger : (stopChip s).start.ledger = s.start.ledger := by
  have hledger : (skipStopped s).start.ledger = s.start.ledger := congrArg Start.ledger (skipStopped_start s)
  exact hledger

@[simp] theorem stopChip_sessions : (stopChip s).mail.sessions = s.mail.sessions := skipStopped_sessions s

@[simp] theorem stopChip_running : (stopChip s).start.running = none := rfl

@[simp] theorem stopChip_abacus_running : (stopChip s).abacus.running = false := rfl

variable (beacon faults : Bool)

@[simp] theorem silenceChannels_start : (silenceChannels beacon s).start = s.start := by
  unfold silenceChannels
  exact foldl_leaves State.start (fun _ _ => by rfl) _ _

@[simp] theorem silenceChannels_mail : (silenceChannels beacon s).mail = s.mail := by
  unfold silenceChannels
  exact foldl_leaves State.mail (fun _ _ => by rfl) _ _

@[simp] theorem silenceChannels_abacus : (silenceChannels beacon s).abacus = s.abacus := by
  unfold silenceChannels
  exact foldl_leaves (fun s => s.abacus) (fun _ _ => by rfl) _ _

@[simp] theorem fallowVents_start : (fallowVents s).start = s.start := by
  unfold fallowVents
  exact foldl_leaves State.start (fun _ _ => by rfl) _ _

@[simp] theorem startVents_start : (startVents s).start = s.start := rfl

@[simp] theorem startVents_mail : (startVents s).mail = s.mail := rfl

@[simp] theorem startVents_abacus : (startVents s).abacus = s.abacus := rfl

@[simp] theorem stopSense_start : (stopSense s).start = s.start := rfl

@[simp] theorem stopSense_mail : (stopSense s).mail = s.mail := rfl

@[simp] theorem stopSense_abacus : (stopSense s).abacus = s.abacus := rfl

@[simp] theorem stopValves_start : (stopValves faults s).start = s.start := rfl

@[simp] theorem stopValves_mail : (stopValves faults s).mail = s.mail := rfl

@[simp] theorem stopValves_abacus : (stopValves faults s).abacus = s.abacus := rfl

end

end Sys2Proof.Machine
end

section
/-! PROOFS. The family 21_start: power (R583, R600, R708), the boot sequence and its failures (R623 to R629), confirmations and deadlines (R625, R633, R652), and the START verbs (R641, R642). -/

namespace Sys2Proof.Machine

/-! ## Power (R583, R627, R708) -/

section
variable (s : State)

/-- The loss of supply notes in the start's part how fallow mode was left (R633), and nothing else there. -/
theorem leaveByPower_eq : ∃ way sec count,
    leaveByPower s = { s with start := { s.start with leftWay := way, leftSeconds := sec, leftCount := count } } := by
  unfold leaveByPower
  split
  · exact ⟨_, _, _, rfl⟩
  · split
    · exact ⟨_, _, _, rfl⟩
    · exact ⟨_, _, _, rfl⟩

/-- What a power-on reset finds in the memories that survive it (R585, R635). -/
structure SamePower (s t : State) : Prop where
  pending : t.pending = s.pending
  ledger : t.start.ledger = s.start.ledger
  fwA : t.start.fwA = s.start.fwA
  fwB : t.start.fwB = s.start.fwB
  sec : t.sec = s.sec
  cfg : t.cfg = s.cfg
  clock : t.clock = s.clock

theorem loseSupply_samePower : SamePower s (leaveByPower (loseSupply s)) := by
  obtain ⟨hpending, hstart, hsec, hcfg, hclock, -⟩ := loseSupply_sameButOutage s
  obtain ⟨_, _, _, h⟩ := leaveByPower_eq (loseSupply s)
  rw [h]
  constructor <;> simp only [hpending, hstart, hsec, hcfg, hclock]

/-- The state whose memories a power-on reset keeps: after loss of supply, or as reset found it. -/
def suppliesLost (s : State) : State := if s.pins.inReset then s else leaveByPower (loseSupply s)

theorem suppliesLost_samePower : SamePower s (suppliesLost s) := by
  unfold suppliesLost
  split
  · exact ⟨rfl, rfl, rfl, rfl, rfl, rfl, rfl⟩
  · exact loseSupply_samePower s

/-- Beyond what the power-on state holds, a reset reports a backup domain that lost its supply and begins an outage. -/
theorem exec_powerOnReset_sameButOutage (kept : Bool) :
    ∃ t, exec (.powerOnReset kept) s = .next t ∧ SameButOutage (powerOn kept (suppliesLost s)) t := by
  refine ⟨_, rfl, SameButOutage.trans ?_ ((endOutage_sameButOutage _).trans (beginOutage_sameButOutage ..))⟩
  split
  · exact .refl _
  · exact raise_sameButOutage ..

end

theorem exec_supplyFail_of_reset {s : State} (h : s.pins.inReset = true) : exec .supplyFail s = .next s :=
  if_pos h

/-! ## Attempts (R624, R626, R629) -/

section
variable {l : Ledger}

theorem attemptPair_of_even (h : l.count % 2 = 0) : attemptPair l = (l.preferredFw, l.preferredCfg) :=
  if_pos h

theorem attemptPair_of_odd (h : l.count % 2 = 1) : attemptPair l = l.confirmed.getD (l.preferredFw, l.preferredCfg) :=
  if_neg (by omega)

end

section
variable {s : State} {n : Nat}

theorem failureFallow_of_unasked (h : (s.hif.mode ≠ .start ∧ s.hif.mode ≠ .running) ∨ (s.panel.request ≠ some 2 ∧ s.start.fallowAt = none)) :
    failureFallow s n = if s.start.ledger.threshold ≤ n then some 1 else none := by
  by_cases hmode : s.hif.mode ≠ .start ∧ s.hif.mode ≠ .running
  · exact if_pos hmode
  · obtain ⟨hpanel, hasked⟩ := h.resolve_left hmode
    simp only [failureFallow, if_neg hmode, if_neg hpanel, hasked, Option.map_none]

theorem failureFallow_of_owner {c : Nat} (hmode : s.hif.mode = .start ∨ s.hif.mode = .running) (hpanel : s.panel.request ≠ some 2)
    (h : s.start.fallowAt = some (c, 2)) : failureFallow s n = some 2 := by
  have hserves : ¬(s.hif.mode ≠ .start ∧ s.hif.mode ≠ .running) := fun ⟨hstart, hrunning⟩ => hmode.elim hstart hrunning
  simp only [failureFallow, if_neg hserves, if_neg hpanel, h, Option.map_some]

section
variable {cause detail : Nat} {a : Attempt} {rest : List Attempt}

/-- The state once a failure is counted against its attempt (R626). -/
def countedFailure (cause detail : Nat) (a : Attempt) (rest : List Attempt) (s : State) : State :=
  raise 0x1403 [cause, detail, a.fwVersion, a.cfgVersion] (s.setLedger { s.start.ledger with
    attempts := { a with cause := cause, detail := detail } :: rest, count := min 255 (s.start.ledger.count + 1), failures := s.start.ledger.failures + 1 })

theorem closeAttempt_of_attempt (h : s.start.ledger.attempts = a :: rest) :
    closeAttempt cause detail s = s.setLedger { s.start.ledger with attempts := { a with cause := cause, detail := detail } :: rest } := by
  simp only [closeAttempt, h]

variable (h : s.start.ledger.attempts = a :: rest)
include h

theorem failAttempt_of_fallow {r : Nat} (hr : failureFallow (countedFailure cause detail a rest s) (min 255 (s.start.ledger.count + 1)) = some r) :
    failAttempt cause detail s = enterFallow r (countedFailure cause detail a rest s) := by
  unfold countedFailure at hr ⊢
  simp only [failAttempt, closeAttempt_of_attempt h, State.setLedger, List.headD_cons, sat] at hr ⊢
  simp only [hr]

theorem failAttempt_of_boot (hr : failureFallow (countedFailure cause detail a rest s) (min 255 (s.start.ledger.count + 1)) = none) :
    failAttempt cause detail s = enterBoot (countedFailure cause detail a rest s) := by
  unfold countedFailure at hr ⊢
  simp only [failAttempt, closeAttempt_of_attempt h, State.setLedger, List.headD_cons, sat] at hr ⊢
  simp only [hr]

end

/-! ## The boot sequence (R623) -/

theorem exec_bootSequence_of_barred {p : BitVec 3} (h : s.hif.mode ≠ .bootRom ∨ s.pins.inReset = true) : exec (.bootSequence p) s = .next s :=
  if_pos h

section
variable {p : BitVec 3} {s1 s2 : State} {pair : Nat × Nat} (hmode : s.hif.mode = .bootRom) (hreset : s.pins.inReset = false)
  (h1 : s1 = bootCores p { s with start := { s.start with loaded := some s.start.ledger.map } })
include hmode hreset h1

theorem exec_bootSequence_of_no_core (hcores : s1.super.cores = []) : exec (.bootSequence p) s = .next s1 := by
  rw [h1] at hcores ⊢
  exact (if_neg (by simp [hmode, hreset])).trans (if_pos hcores)

variable (hcores : s1.super.cores ≠ []) (h2 : s2 = beginAttemptEntry s1) (hpair : pair = attemptPair s1.start.ledger)
include hcores h2 hpair

theorem exec_bootSequence_of_cores : exec (.bootSequence p) s =
    .next (if (verifyFirmware s2 pair.1).step ≠ 0 then failAttempt (fwCause (verifyFirmware s2 pair.1).step) 0 s2
      else bootConfiguration (verifyFirmware s2 pair.1).fw pair.2 s2) := by
  rw [hpair, h2]
  rw [h1] at hcores ⊢
  exact (if_neg (by simp [hmode, hreset])).trans (if_neg hcores)

end

theorem bootConfiguration_of_no_image {fw : RunningFw} {slot : Nat} (h : (s.cfgSlot slot).state = .empty ∨ (s.cfgSlot slot).state = .partly) :
    bootConfiguration fw slot s = failAttempt 4 0 s :=
  if_pos h

section
variable {fw : RunningFw} {slot : Nat} {s1 : State} {x : ImageSlot} {o : Outcome} {im : BaseImage} (hx : x = s.cfgSlot slot) (hempty : x.state ≠ .empty)
  (hpartly : x.state ≠ .partly) (hv : validateImage s x = (o, im)) (h1 : s1 = raise 0x0205 [slot, o.step, o.status, o.offset] s)
include hx hempty hpartly hv

theorem bootConfiguration_of_image : bootConfiguration fw slot s =
    if o.step = 0 then handOver fw (applyConfiguration im slot (s.setCfgSlot slot { x with state := .validated }))
    else if o.step = 2 then failAttempt 5 0 (raise 0x0205 [slot, o.step, o.status, o.offset] s)
    else if o.step = 3 then failAttempt 6 0 (raise 0x0205 [slot, o.step, o.status, o.offset] s)
    else failAttempt 7 o.step (raise 0x0205 [slot, o.step, o.status, o.offset] s) := by
  rw [hx] at hempty hpartly hv ⊢
  simp only [bootConfiguration, if_neg (not_or.2 ⟨hempty, hpartly⟩), hv]

theorem bootConfiguration_of_good (h : o.step = 0) :
    bootConfiguration fw slot s = handOver fw (applyConfiguration im slot (s.setCfgSlot slot { x with state := .validated })) :=
  (bootConfiguration_of_image hx hempty hpartly hv).trans (if_pos h)

include h1

theorem bootConfiguration_of_unsigned (h : o.step = 2) : bootConfiguration fw slot s = failAttempt 5 0 s1 := by
  rw [bootConfiguration_of_image hx hempty hpartly hv, if_neg (by omega), if_pos h, h1]

theorem bootConfiguration_of_old (h : o.step = 3) : bootConfiguration fw slot s = failAttempt 6 0 s1 := by
  rw [bootConfiguration_of_image hx hempty hpartly hv, if_neg (by omega), if_neg (by omega), if_pos h, h1]

theorem bootConfiguration_of_invalid (h : o.step = 1 ∨ 4 ≤ o.step) : bootConfiguration fw slot s = failAttempt 7 o.step s1 := by
  rw [bootConfiguration_of_image hx hempty hpartly hv, if_neg (by omega), if_neg (by omega), if_neg (by omega), h1]

end

end

/-! ## Where a start ends (R623, R625, R629, R633) -/

section
variable (s : State)

theorem handOver_mode (fw : RunningFw) : (handOver fw s).hif.mode = .start := setMode_mode ..

theorem handOver_start (fw : RunningFw) :
    (handOver fw s).start = { s.start with running := some fw, handTicks := s.clock.ticksRun, step := 5 } := setMode_start ..

theorem enterBoot_mode : (enterBoot s).hif.mode = .bootRom := setMode_mode ..

theorem enterBoot_sessions : (enterBoot s).mail.sessions = [] := by
  unfold enterBoot
  dsimp only
  rw [setMode_sessions, (changeOutage_sameButOutage ..).sessions]
  simp

theorem enterBoot_ledger : (enterBoot s).start.ledger = s.start.ledger := by
  unfold enterBoot
  dsimp only
  rw [setMode_start, (changeOutage_sameButOutage ..).start]
  simp

theorem enterBoot_running : (enterBoot s).start.running = none := by
  unfold enterBoot
  dsimp only
  rw [setMode_start, (changeOutage_sameButOutage ..).start]
  simp

theorem enterBoot_abacus_running : (enterBoot s).abacus.running = false := by
  unfold enterBoot
  dsimp only
  rw [setMode_abacus, (changeOutage_sameButOutage ..).abacus]
  simp

/-- The state in which fallow mode begins, its requests gone and every block stopped (R629). -/
def fallowQuiet (s : State) : State :=
  stopSense (fallowVents (stopValves false (stopChip (if s.hif.mode = .start ∨ s.hif.mode = .running then abandon 4 s else s))))

theorem fallowQuiet_ledger : (fallowQuiet s).start.ledger = s.start.ledger := by
  unfold fallowQuiet
  rw [stopSense_start, fallowVents_start, stopValves_start, stopChip_ledger]
  split
  · exact abandon_ledger 4 s
  · rfl

/-- The same, with the image that gives polarities and bit timings, and the beacons on (R397, R631). -/
def fallowStopped (s : State) : State :=
  silenceChannels true (if (fallowQuiet s).cfg.base.isNone ∨ (fallowQuiet s).cfg.borrowed then
    { fallowQuiet s with cfg := { (fallowQuiet s).cfg with base := fallowImage (fallowQuiet s), borrowed := true } } else fallowQuiet s)

theorem fallowStopped_ledger : (fallowStopped s).start.ledger = s.start.ledger := by
  unfold fallowStopped
  rw [silenceChannels_start]
  split <;> exact fallowQuiet_ledger s

theorem enterFallow_mode (reason : Nat) : (enterFallow reason s).hif.mode = .fallow := by
  unfold enterFallow
  rw [raise_mode, setMode_mode]

/-- The reason that fallow mode records, made of the ledger as it stands (R637). -/
def reasonRecord (reason : Nat) (s : State) : ReasonRecord :=
  { reason := reason, count := s.start.ledger.count, threshold := s.start.ledger.threshold, streak := streakLength s.start.ledger,
    seconds := s.clock.seconds, cycle := s.cycle, attempts := s.start.ledger.attempts }

theorem enterFallow_start (reason : Nat) : (enterFallow reason s).start = { (fallowStopped s).start with
    reason := some (reasonRecord reason (fallowStopped s)), fallowReason := reason, fallowTicks := (fallowStopped s).clock.ticksRun, leftWay := 0
    loaded := some (fallowStopped s).start.ledger.map } := by
  unfold enterFallow
  dsimp only
  rw [raise_start, setMode_start, (changeOutage_sameButOutage ..).start]
  rfl

/-- The pair that a confirmation makes both preferred and confirmed (R625). -/
def confirmedPair (s : State) : Nat × Nat := ((s.start.running.map RunningFw.slot).getD s.start.ledger.preferredFw, s.cfg.active)

variable (source : Nat)

theorem confirmStart_mode : (confirmStart source s).1.hif.mode = .running := by
  refine (endCauses_sameButOutage ..).mode.trans ?_
  dsimp only
  split <;> simp

theorem confirmStart_ledger : ∃ l : Ledger, (confirmStart source s).1.start.ledger = { l with
    count := 0, confirmed := some (confirmedPair s), preferredFw := (confirmedPair s).1, preferredCfg := (confirmedPair s).2, lastConfirm := s.clock.seconds } := by
  refine ⟨(closeAttempt 0 0 s).start.ledger, (congrArg Start.ledger (endCauses_sameButOutage ..).start).trans ?_⟩
  dsimp only
  split <;> simp [confirmedPair]

end

/-! ## Confirmations and deadlines (R29, R625, R626, R633, R652) -/

section
variable {s : State}

theorem exec_harloporConfirm_of_passed (hmode : s.hif.mode = .start) (hhost : s.cfg.hostConfirm = false) (hchecks : checksPass s = true)
    (hpause : s.hif.supPause = false) : exec .harloporConfirm s = .next (confirmStart 1 s).1 :=
  if_neg (by simp [hmode, hhost, hchecks, hpause])

theorem exec_harloporConfirm_of_barred (h : s.hif.mode ≠ .start ∨ s.cfg.hostConfirm = true ∨ checksPass s = false ∨ s.hif.supPause = true) :
    exec .harloporConfirm s = .next s :=
  if_pos h

theorem checksPass_of_single (h : s.super.single = true) : checksPass s = s.start.rodRun := by
  simp [checksPass, h]

theorem checksPass_of_pair (h : s.super.single = false) :
    checksPass s = true ↔ s.start.rodRun = true ∧ 1000 ≤ s.msSince (max s.start.handTicks s.super.mismatchTicks) := by
  simp [checksPass, h]

theorem exec_confirmDeadline_of_due (hmode : s.hif.mode = .start) (h : 60000 ≤ s.msSince s.start.handTicks) :
    exec .confirmDeadline s = .next (failAttempt 9 0 s) :=
  if_pos ⟨hmode, h⟩

theorem exec_confirmDeadline_of_barred (h : s.hif.mode ≠ .start ∨ s.msSince s.start.handTicks < 60000) : exec .confirmDeadline s = .next s :=
  if_neg fun ⟨hmode, hdue⟩ => h.elim (fun hother => hother hmode) (Nat.not_lt.2 hdue)

theorem exec_startWatchdogExpiry_of_start (hmode : s.hif.mode = .start) : exec .startWatchdogExpiry s = .next (failAttempt 8 0 s) := by
  simp only [exec, execStartWatchdogExpiry, hmode]

theorem exec_startWatchdogExpiry_of_boot (hmode : s.hif.mode = .bootRom) (hreset : s.pins.inReset = false) :
    exec .startWatchdogExpiry s = .next (failAttempt 8 0 (beginAttemptEntry s)) := by
  simp only [exec, execStartWatchdogExpiry, hmode, if_neg (ne_true_of_eq_false hreset)]

theorem exec_startWatchdogExpiry_of_running (hmode : s.hif.mode = .running) (hpause : s.hif.supPause = false) :
    exec .startWatchdogExpiry s = .next (beginCoreTest true s) := by
  simp only [exec, execStartWatchdogExpiry, hmode, if_neg (ne_true_of_eq_false hpause)]

theorem exec_startWatchdogExpiry_of_barred (h : s.hif.mode = .fallow ∨ s.hif.mode = .test ∨ (s.hif.mode = .running ∧ s.hif.supPause = true) ∨
    (s.hif.mode = .bootRom ∧ s.pins.inReset = true)) : exec .startWatchdogExpiry s = .next s := by
  rcases h with hmode | hmode | ⟨hmode, hpause⟩ | ⟨hmode, hreset⟩
  · simp only [exec, execStartWatchdogExpiry, hmode]
  · simp only [exec, execStartWatchdogExpiry, hmode]
  · simp only [exec, execStartWatchdogExpiry, hmode, if_pos hpause]
  · simp only [exec, execStartWatchdogExpiry, hmode, if_pos hreset]

/-- No supervisor is lost: none is being restarted, or its sixteen rods are not over (R29). -/
def supervisorKept (s : State) : Prop := s.hif.supPause = false ∨ (s.super.state ≠ 2 ∧ s.super.state ≠ 4) ∨ s.super.pauseRods < 16

theorem exec_supervisorRestartDeadline_of_kept (h : supervisorKept s) : exec .supervisorRestartDeadline s = .next s :=
  if_pos h

theorem exec_supervisorRestartDeadline_of_lost (h : ¬supervisorKept s) :
    exec .supervisorRestartDeadline s = .next (failAttempt 10 0 (if attempting s then s else pushAttempt (newAttempt s (confirmedPair s) 10) s)) :=
  if_neg h

theorem exec_leaveRestart_of_barred
    (h : s.start.leaving = false ∨ s.inFallow = false ∨ (s.entries 0).any (fun e => e.req.hdr.code == 0x1405 && !e.placed) = true) :
    exec .leaveRestart s = .next s :=
  if_pos h

theorem exec_leaveRestart_of_answered (hleaving : s.start.leaving = true) (hfallow : s.inFallow = true)
    (hplaced : (s.entries 0).any (fun e => e.req.hdr.code == 0x1405 && !e.placed) = false) :
    exec .leaveRestart s = .next (enterBoot { s with start := { s.start with leftWay := 1, leftSeconds := s.msSince s.start.fallowTicks / 1000 } }) := by
  refine if_neg ?_
  rintro (h | h | h)
  · exact ne_false_of_eq_true hleaving h
  · exact ne_false_of_eq_true hfallow h
  · exact ne_true_of_eq_false hplaced h

theorem inFallow_of_mode (h : s.hif.mode = .fallow ∨ s.hif.mode = .test) : s.inFallow = true := decide_eq_true h

theorem not_inFallow_of_mode (h : ¬(s.hif.mode = .fallow ∨ s.hif.mode = .test)) : s.inFallow = false := decide_eq_false h

end

/-- Settles O56, command by command: a reset by what its memories keep, a boot by the step that fails, a counted failure by the mode it leads to,
and the verbs by their bodies' branches. -/
theorem startsConfirmsAndFailuresFollowTheLedger : Obligations.StartsConfirmsAndFailuresFollowTheLedger := by
  refine ⟨?powerOn, fun _ h => exec_supplyFail_of_reset h, ?supplyFail, fun _ _ h => exec_bootSequence_of_barred h, ?boot,
    fun _ => ⟨attemptPair_of_even, fun hodd hnone => by rw [attemptPair_of_odd hodd, hnone]; rfl, fun q hodd hq => by rw [attemptPair_of_odd hodd, hq]; rfl⟩,
    fun _ _ _ h => bootConfiguration_of_no_image h, ?image, ?handOver, fun _ _ h => failureFallow_of_unasked h,
    fun _ _ _ hmode hpanel h => failureFallow_of_owner hmode hpanel h, ?failed,
    fun s => ⟨enterBoot_mode s, enterBoot_sessions s, enterBoot_ledger s, enterBoot_abacus_running s, enterBoot_running s⟩, ?fallow, ?confirmed,
    fun _ hmode hhost hchecks hpause => exec_harloporConfirm_of_passed hmode hhost hchecks hpause, fun _ h => exec_harloporConfirm_of_barred h,
    fun _ h => checksPass_of_single h, fun _ h => checksPass_of_pair h, fun _ hmode h => exec_confirmDeadline_of_due hmode h,
    fun _ h => exec_confirmDeadline_of_barred h, fun _ hmode => exec_startWatchdogExpiry_of_start hmode,
    fun _ hmode hreset => exec_startWatchdogExpiry_of_boot hmode hreset, fun _ hmode hpause => exec_startWatchdogExpiry_of_running hmode hpause,
    fun _ h => exec_startWatchdogExpiry_of_barred h, fun _ h => exec_supervisorRestartDeadline_of_kept h, ?lost, fun _ h => exec_leaveRestart_of_barred h,
    fun _ hleaving hfallow hplaced => exec_leaveRestart_of_answered hleaving hfallow hplaced,
    completes_of_body _ (fun _ _ => rfl) fun _ _ h => if_neg (not_not.2 h), turnsAway_of_body _ (fun _ _ => rfl) fun _ _ h => if_pos h,
    reads_of_body _ (fun _ _ => rfl) fun _ _ _ => rfl, fun _ => reads_of_body _ (fun _ _ => rfl) ?reason, turnsAway_of_body _ (fun _ _ => rfl) ?noReason,
    completes_of_body _ (fun _ _ => rfl) ?sessionOpen, completes_of_body _ (fun _ _ => rfl) fun _ _ h => if_neg (ne_false_of_eq_true (inFallow_of_mode h)),
    turnsAway_of_body _ (fun _ _ => rfl) fun _ _ h => if_pos (not_inFallow_of_mode (not_or.2 h)),
    completes_of_body _ (fun _ _ => rfl) fun _ _ h => if_neg fun hother => h.elim hother.1 hother.2,
    turnsAway_of_body _ (fun _ _ => rfl) fun _ _ h => if_pos h, completes_of_body _ (fun _ _ => rfl) ?select, turnsAway_of_body _ (fun _ _ => rfl) ?selectEmpty,
    completes_of_body _ (fun _ _ => rfl) ?threshold, turnsAway_of_body _ (fun _ _ => rfl) ?thresholdBad, completes_of_body _ (fun _ _ => rfl) ?testOn,
    completes_of_body _ (fun _ _ => rfl) ?testOff, turnsAway_of_body _ (fun _ _ => rfl) ?testBarred, completes_of_body _ (fun _ _ => rfl) ?map,
    completes_of_body _ (fun _ _ => rfl) ?mapLoaded, turnsAway_of_body _ (fun _ _ => rfl) fun _ _ h => if_pos (.inr h)⟩
  case powerOn =>
    intro kept s
    obtain ⟨t, ht, hsame⟩ := exec_powerOnReset_sameButOutage s kept
    obtain ⟨hpending, hledger, hfwA, hfwB, hsec, hcfg, hclock⟩ := suppliesLost_samePower s
    refine ⟨t, ht, ?_⟩
    rw [hsame.mode, hsame.sessions, hsame.pending, hsame.start, hsame.sec, hsame.cfg, hsame.clock, ← hpending, ← hledger, ← hfwA, ← hfwB, ← hsec, ← hcfg,
      ← hclock]
    refine ⟨rfl, rfl, rfl, rfl, rfl, rfl, rfl, rfl, rfl, rfl, rfl, rfl, rfl, rfl, ?_, ?_⟩
    · rintro rfl
      exact ⟨rfl, rfl, rfl⟩
    · rintro rfl
      exact ⟨rfl, rfl, rfl⟩
  case supplyFail =>
    intro s h
    obtain ⟨-, hledger, -, -, hsec, -, hclock⟩ := loseSupply_samePower s
    exact ⟨_, if_neg (ne_true_of_eq_false h), rfl, rfl, rfl, rfl, rfl, hledger, hsec, hclock⟩
  case boot =>
    intro p s s1 s2 pair hmode hreset h1 h2 hpair
    refine ⟨exec_bootSequence_of_no_core hmode hreset h1, fun hcores hbad => ?_, fun hcores hgood => ?_⟩
    · rw [exec_bootSequence_of_cores hmode hreset h1 hcores h2 hpair, if_pos hbad]
    · rw [exec_bootSequence_of_cores hmode hreset h1 hcores h2 hpair, if_neg (not_not.2 hgood)]
  case image =>
    intro fw slot s s1 x o im hx hempty hpartly hv h1
    exact ⟨bootConfiguration_of_good hx hempty hpartly hv, bootConfiguration_of_unsigned hx hempty hpartly hv h1,
      bootConfiguration_of_old hx hempty hpartly hv h1, bootConfiguration_of_invalid hx hempty hpartly hv h1⟩
  case handOver =>
    intro fw s
    rw [handOver_mode, handOver_start]
    exact ⟨rfl, rfl, rfl, rfl⟩
  case failed => exact fun cause detail a rest s h => ⟨countedFailure cause detail a rest s, rfl, fun _ => failAttempt_of_fallow h, failAttempt_of_boot h⟩
  case fallow =>
    intro reason s
    have hledger := fallowStopped_ledger s
    rw [enterFallow_start]
    exact ⟨enterFallow_mode s reason, hledger, rfl, _, rfl, rfl, congrArg Ledger.count hledger, congrArg Ledger.threshold hledger,
      congrArg Ledger.attempts hledger⟩
  case confirmed =>
    intro source s
    obtain ⟨l, hl⟩ := confirmStart_ledger s source
    rw [hl]
    exact ⟨confirmStart_mode s source, rfl, confirmedPair s, rfl, rfl, rfl⟩
  case lost =>
    intro s hpause hstate hrods
    have hlost : ¬supervisorKept s := by
      rintro (h | ⟨h2, h4⟩ | h)
      · exact ne_false_of_eq_true hpause h
      · exact hstate.elim h2 h4
      · exact absurd hrods (Nat.not_le.2 h)
    rw [exec_supervisorRestartDeadline_of_lost hlost]
    exact ⟨fun h => by rw [if_pos h], fun h => by rw [if_neg (ne_true_of_eq_false h)]; rfl⟩
  case reason =>
    intro c s h
    simp only [h]
    rfl
  case noReason =>
    intro c s h
    simp only [h]
  case sessionOpen =>
    rintro c s ⟨hop, hpart, hzero⟩
    exact (if_neg (by omega)).trans (if_neg (by omega))
  case select =>
    rintro c s ⟨hf, hg, hzero, hfw, hcfg⟩
    exact (if_neg (by omega)).trans (if_neg (not_or.2 ⟨hfw, hcfg⟩))
  case selectEmpty =>
    rintro c s ⟨hf, hg, hzero, hempty⟩
    exact (if_neg (by omega)).trans (if_pos hempty)
  case threshold =>
    rintro c s ⟨hlow, hhigh, hzero⟩
    exact if_neg (not_or.2 ⟨Nat.not_lt.2 hlow, not_or.2 ⟨Nat.not_lt.2 hhigh, ne_false_of_eq_true hzero⟩⟩)
  case thresholdBad =>
    rintro c s (hlow | hhigh)
    · exact if_pos (.inl hlow)
    · exact if_pos (.inr (.inl hhigh))
  case testOn =>
    rintro c s ⟨hop, hzero, hmode⟩
    exact (if_neg (not_or.2 ⟨by omega, ne_false_of_eq_true hzero⟩)).trans ((if_pos hop).trans (if_pos hmode))
  case testOff =>
    rintro c s ⟨hop, hzero, hmode⟩
    exact (if_neg (not_or.2 ⟨by omega, ne_false_of_eq_true hzero⟩)).trans ((if_neg (by omega)).trans (if_pos hmode))
  case testBarred =>
    rintro c s ⟨hzero, ⟨hop, hmode⟩ | ⟨hop, hmode⟩⟩
    · exact (if_neg (not_or.2 ⟨by omega, ne_false_of_eq_true hzero⟩)).trans ((if_pos hop).trans (if_neg hmode))
    · exact (if_neg (not_or.2 ⟨by omega, ne_false_of_eq_true hzero⟩)).trans ((if_neg (by omega)).trans (if_neg hmode))
  case map =>
    rintro c s ⟨hzero, hlevels, hmode⟩
    refine (if_neg (not_or.2 ⟨not_not.2 hzero, ne_true_of_eq_false hlevels⟩)).trans (Prod.ext (if_neg ?_) rfl)
    rcases hmode with hmode | hmode <;> simp [State.inFallow, hmode]
  case mapLoaded =>
    rintro c s ⟨hzero, hlevels, hmode⟩
    exact (if_neg (not_or.2 ⟨not_not.2 hzero, ne_true_of_eq_false hlevels⟩)).trans (Prod.ext (if_pos (.inr (inFallow_of_mode hmode))) rfl)

end Sys2Proof.Machine
end
